-- ==== Sys2Proof/Word.lean ====
section
/-!
DEFINITION. The word types of the block and their plainest arithmetic: register words, bytes, DRAM bursts and
256-byte lines, saturating counts and lists kept as small sets of numbers.
-/

namespace Sys2Proof

/-- A 32-bit register value. -/
abbrev Word := BitVec 32

abbrev Byte := BitVec 8

/-- One beat of a Beyvis port, and one burst of a DRAM channel: 64 bytes. -/
abbrev Beat := BitVec 512

/-- A 256-byte line, byte 0 in the low bits. -/
abbrev Line := BitVec 2048

/-- Addition that stops at `max` (R124, R205: counters saturate at their maximum). -/
def satAdd (max a b : Nat) : Nat := min max (a + b)

/-- `a / b` rounded up. -/
def ceilDiv (a b : Nat) : Nat := (a + b - 1) / b

/-- Bit `i` of a number. -/
def natBit (n i : Nat) : Bool := (n / 2 ^ i) % 2 == 1

/-- A truth value as the number of a one-bit field. -/
def b2n (b : Bool) : Nat := if b then 1 else 0

/-- Bits `[lo + width - 1 : lo]` of a number. -/
def natBits (n lo width : Nat) : Nat := n / 2 ^ lo % 2 ^ width

/-- Replace the element at `i`; out of range changes nothing. -/
def upd {α : Type} {n : Nat} (v : Vector α n) (i : Nat) (f : α → α) : Vector α n :=
  if h : i < n then v.set i (f v[i]) h else v

end Sys2Proof
end

