-- ==== Sys2Proof/Syntax.lean ====
section
/-!
DEFINITION. The commands of the block: one constructor of Instr for each row of spec/opcode_table.json. What the row's
rule leaves to the world outside the block (a measured value, a word, a beat, a response) is an operand.
-/

namespace Sys2Proof

/-- The PLLs: the core PLL, and PLL A or B of a quad (R88). -/
inductive PllId
  | core
  | phy (q : Fin 4) (b : Bool)
  deriving DecidableEq, Repr

/-- The glitch-free clock switches (R111): core, one per quad, the PCLK gate and the CLKMON selector. -/
inductive SwitchId
  | core | quad (q : Fin 4) | pclk | clkmon
  deriving DecidableEq, Repr

/-- The two register ports (R63). -/
inductive ApbPort
  | m | k
  deriving DecidableEq, Repr

/-- An APB write: port, address (on the key port K_PADDR in the low 12 bits), data, strobes and PPROT (R63, R151). -/
structure ApbWrite where
  port : ApbPort
  addr : BitVec 20
  data : Word
  strb : BitVec 4
  prot : BitVec 3
  deriving DecidableEq, Repr

/-- An APB read. -/
structure ApbRead where
  port : ApbPort
  addr : BitVec 20
  prot : BitVec 3
  deriving DecidableEq, Repr

/-- What a training, a check or a retrain found on a channel (R405, R409, R411): the first step of R405 that failed
(0: none), the rank concerned, and the delays and margins found, with the byte lanes in which the read search of a retrain
found no edge on one side at the present read VREF. Lists hold rank 0 before rank 1; bit lists have 18 entries a rank. -/
structure CalFound where
  failStep : Nat
  failRank : Fin 2
  rd : List Nat
  wr : List Nat
  left : List Nat
  right : List Nat
  wmargin : List Nat
  wck : List Nat
  rdqs : List Nat
  ca : Nat
  cs : Nat
  rv : List Nat
  noEdge : List Bool
  dv : List Nat
  osc : List Nat
  codes : List Nat
  deriving DecidableEq, Repr

/-- A correction that R426 moves one step: a read or write delay of a bit (0–35, 18 a rank), or a PHY code (0 PU, 1 PD,
2 ODT). -/
inductive TapId
  | read (ch : Fin 16) (bit : Fin 36)
  | write (ch : Fin 16) (bit : Fin 36)
  | code (q : Fin 4) (c : Fin 3)
  deriving DecidableEq, Repr

/-- A 48-bit counter (R508): of a port, of a channel, or of the bushel. -/
inductive CounterId
  | port (p : Fin 32) (k : Fin 4)
  | chan (c : Fin 16) (k : Fin 4)
  | bushel (j : Fin 16)
  deriving DecidableEq, Repr

/-- A set of counters (R508), for the clears. -/
inductive CounterSet
  | port (p : Fin 32)
  | chan (c : Fin 16)
  deriving DecidableEq, Repr

/-- The commands, in the order of the table. -/
inductive Instr
  -- reset, clocks and the configuration load
  | porstNAssert (ns : Nat)
  | porstNRelease (instId : BitVec 14)
  | rsiCkPresent
  | rsiCkLoss
  | absenceTimerExpiry
  | cfgTransactionEnd (data : List Byte)
  | reload
  | amplitudeReport (p : PllId)
  | lockDelayExpiry (p : PllId)
  | lockDetect (p : PllId)
  | pllAttemptTimeout (p : PllId)
  | pllRetryPauseExpiry (p : PllId)
  | amplitudeDrop (p : PllId)
  | lossOfLock (p : PllId)
  | monitorWindowEnd (p : PllId) (count : BitVec 16)
  | clockSwitchDone (x : SwitchId)
  | forcedSwitch (x : SwitchId)
  | restartA (q : Fin 4)
  | restartB (q : Fin 4)
  | coreRestart
  | dresetRelease (q : Fin 4)
  | trainingComplete (ch : Fin 16) (found : CalFound)
  | startupComplete
  | debtPaymentDone (ch : Fin 16) (r : Fin 2)
  | checkDone (ch : Fin 16) (found : CalFound)
  | retrainDone (ch : Fin 16) (found : CalFound)
  -- raster words and gaps
  | rsiEventNone (w : BitVec 64)
  | lineStart (w : BitVec 64)
  | frameStart (w : BitVec 64)
  | horizontalBlank (w : BitVec 64)
  | verticalBlank (w : BitVec 64)
  | modeChange (w : BitVec 64)
  | corruptWord (w : BitVec 64)
  | grainWrap
  | frameLineLimit
  | holdoverEntry
  | holdoverLimit
  | horizontalGapStart
  | verticalGapStart
  | bookingEnd (id : Nat)
  -- registers
  | registerWrite (a : ApbWrite)
  | setAliasWrite (a : ApbWrite)
  | clearAliasWrite (a : ApbWrite)
  | toggleAliasWrite (a : ApbWrite)
  | readClear (a : ApbRead)
  | multiRegisterCapture (a : ApbRead)
  | heldShadowWrite (a : ApbWrite)
  | clkmonSelect (sel : BitVec 6) (div : BitVec 10)
  | parityWalk (addr : BitVec 20) (upset : Word)
  | blkReset
  | blockResetTimeout
  -- ports, shaping and intake
  | request (p : Fin 28) (addr : BitVec 34) (len : BitVec 6) (wr : Bool) (tag : BitVec 8) (fence : Bool)
  | writeBeat (p : Fin 28) (data : Beat) (be : BitVec 64) (last : Bool)
  | split (p : Fin 30)
  | shaperTest (p : Fin 30)
  | rodBoundary
  | revolutionEnd
  | calendarCommitRequest
  | gateCommitRequest
  | calendarCopyDone
  | gateCopyDone
  | gatePass (p : Fin 30)
  | perchHandover (p : Fin 32) (ch : Fin 16)
  | intakeDecision (ch : Fin 16)
  | lineAdmission (ch : Fin 16)
  | holdStallTrip (ch : Fin 16)
  | readResponseStart (p : Fin 30) (tag : BitVec 8)
  | readDataTransfer (p : Fin 30)
  | writeResponseTransfer (p : Fin 30) (tag : BitVec 8)
  | tunPointerMismatch (p : Fin 4)
  | flush (p : Fin 4)
  | flushDone (p : Fin 4)
  | stop (p : Fin 30)
  | resume (p : Fin 30)
  | drainComplete (p : Fin 30)
  -- channel commands
  | act (ch : Fin 16)
  | rd (ch : Fin 16)
  | wr (ch : Fin 16)
  | pre (ch : Fin 16)
  | preab (ch : Fin 16) (r : Fin 2)
  | refpb (ch : Fin 16)
  | refab (ch : Fin 16)
  | rfmpb (ch : Fin 16)
  | mrw (ch : Fin 16) (r : Fin 2)
  | mrr (ch : Fin 16) (r : Fin 2)
  | sre (ch : Fin 16) (r : Fin 2)
  | srx (ch : Fin 16) (r : Fin 2)
  | pde (ch : Fin 16) (r : Fin 2)
  | pdx (ch : Fin 16) (r : Fin 2)
  | deepSleepEntry (ch : Fin 16) (r : Fin 2)
  | deepSleepExit (ch : Fin 16) (r : Fin 2)
  | casWsFs (ch : Fin 16) (r : Fin 2)
  | zqCalibrationStart (ch : Fin 16) (r : Fin 2)
  | zqLatch (ch : Fin 16) (r : Fin 2)
  | rcdExpiry (ch : Fin 16) (r : Fin 2) (b : Fin 16)
  | prechargeDone (ch : Fin 16) (r : Fin 2) (b : Fin 16)
  | refreshDone (ch : Fin 16) (r : Fin 2) (b : Fin 16)
  | dataBusModeChange (ch : Fin 16)
  | writeRecoveryExpiry (ch : Fin 16) (id : Nat)
  | idleClose (ch : Fin 16) (r : Fin 2) (b : Fin 16)
  | readDataReturn (ch : Fin 16) (id : Nat) (err : Line)
  | secondRefetchDue (ch : Fin 16) (id : Nat)
  | gillAgeExpiry (ch : Fin 16) (g : Fin 16)
  | gillToWriteQueue (ch : Fin 16) (g : Fin 16)
  -- refresh, power and operating points
  | debtRise (ch : Fin 16) (r : Fin 2)
  | mr4PollDue (ch : Fin 16) (r : Fin 2)
  | mr4Result (ch : Fin 16) (r : Fin 2) (cls : Fin 8)
  | selfRefreshIdleExpiry (ch : Fin 16) (r : Fin 2)
  | dsmEnter
  | dsmExit
  | dsmxExpiry (ch : Fin 16) (r : Fin 2)
  | opPin (en : Bool) (op : Fin 4)
  | vreqStrobe
  | vackRise
  | vackFall
  | vackTimeout
  -- metadata cache and scrub
  | metadataLookup (q : Fin 4) (lane : Fin 8)
  | fillInstall (ch : Fin 16) (id : Nat) (err : Line)
  | recomputeComplete (q : Fin 4) (way : Nat)
  | clean (q : Fin 4)
  | invalidate (q : Fin 4)
  | preload (q : Fin 4)
  | preloadLock (q : Fin 4)
  | unlock (q : Fin 4)
  | reservedOperation (q : Fin 4)
  | mcOperationDone (q : Fin 4)
  | cacheBypassEntry (q : Fin 4)
  | bypassEntryDone (q : Fin 4)
  | cacheBypassExit (q : Fin 4)
  | scrubStart (q : Fin 4)
  | scrubAbort (q : Fin 4)
  | scrubPassEnd (q : Fin 4)
  | idlePermission (ch : Fin 16)
  -- calibration
  | calWindowClose (ch : Fin 16) (bit : Fin 36) (errE errL : Nat)
  | periodicSweep (ch : Fin 16)
  | sweep (q : Fin 4)
  | retrain (ch : Fin 16)
  | calPause (q : Fin 4)
  | calUnpause (q : Fin 4)
  | staleExpiry (ch : Fin 16) (r : Fin 2)
  | oscillatorInterval (ch : Fin 16) (r : Fin 2)
  | oscillatorCount (ch : Fin 16) (r : Fin 2) (count : BitVec 16)
  | writeReadCompareInterval (ch : Fin 16) (r : Fin 2)
  | writeReadCompareDone (ch : Fin 16) (r : Fin 2) (pass : List (Bool × Bool))
  | zqInterval (q : Fin 4) (pu pd odt : BitVec 6)
  | zqcalExpiry (ch : Fin 16) (r : Fin 2)
  | tapMove (t : TapId)
  -- faults, wear and channel retirement
  | ack (classes : BitVec 3)
  | logClear (mask : BitVec 16)
  | scrupleClear (mask : BitVec 16)
  | evac (ch : Fin 16)
  | evacuationStart
  | channelSwap
  | swapDrainTimeout
  -- keys and test access
  | load
  | retire
  | keyErase (slot : Fin 2)
  | rekeyStart
  | rekeyAbort
  | rekeyPassEnd
  | trstNAssert
  | idcode
  | samplePreload
  | extest
  | clamp
  | highz
  | chtest
  | chtestUpdate (dr : BitVec 32)
  | ijtagPub
  | ijtagSec
  | scanmode
  | bypass
  | channelTestGo (ch : Fin 16) (dbist lossok : Bool)
  | channelTestAbort (ch : Fin 16)
  | channelTestEnd (ch : Fin 16) (errs : BitVec 16) (fbit : BitVec 5)
  -- spill engine
  | spillStart (d : Fin 8)
  | kick (d : Fin 8)
  | spillPause (d : Fin 8)
  | spillResume (d : Fin 8)
  | spillAbort (d : Fin 8)
  | pollExpiry (d : Fin 8)
  | descriptorFetched (d : Fin 8) (desc : BitVec 256) (resp : BitVec 2)
  | chunkIssue (d : Fin 8)
  | axiReadResponse (d : Fin 8) (data : List Beat) (resp : BitVec 2)
  | axiWriteResponse (d : Fin 8) (resp : BitVec 2)
  | spillDrainComplete (d : Fin 8)
  -- performance counters, and the plain register read
  | counterLowWrite (c : CounterId) (data : Word)
  | counterHighWrite (c : CounterId) (data : Word)
  | clr (cs : CounterSet) (mask : BitVec 4)
  | clrall
  | snap
  | freeze (on : Bool)
  | counterWrap (c : CounterId)
  | pmovf
  | registerRead (a : ApbRead)
  deriving DecidableEq, Repr

end Sys2Proof
end

