-- ==== Sys2Proof/Decode.lean ====
section
/-!
DEFINITION. Words of the opcode table. Commands reach the block on its pins and ports, and no row of the table gives
bits, so no word spells a command.
-/

namespace Sys2Proof

/-- The command a word of the table spells: none, for every word. -/
def decodeTableWord (_nbits _w : Nat) : Option Instr := none

end Sys2Proof
end

