-- ==== Sys2Proof/Config.lean ====
section
/-!
DEFINITION. What the manual leaves open, as constants without a value: every statement holds whatever they are. A free
value that must be fresh each time is applied to the counter `free` of the state (assumption 5).
-/

namespace Sys2Proof

/-- A 64-byte burst read from DRAM cells that nothing has written since the contents were last lost. -/
opaque Config.freeBurst : Nat → Beat

/-- The scratch pattern of R406 for a channel line: the manual names a 15-bit register but not its polynomial. -/
opaque Config.scratch : (chan x : Nat) → Line

/-- The cap on M for the reserved code of CHn_REFCFG.MAXMULT. -/
opaque Config.reservedMaxMult : Nat

/-- The decrement multiplier for the reserved codes of CHn_RFMCFG.RFMDEC. -/
opaque Config.reservedRfmDec : Nat → Nat

/-- Which of the three bank modes the reserved code of CHn_GEOM.BANKMODE acts as. -/
opaque Config.reservedBankMode : Nat

/-- The integrator's manufacturer identity in IDCODE (R481). -/
opaque Config.manufacturer : BitVec 11

/-- The start values of a channel's rank-level delays at an operating point, which the image loads into the
PHY by no register (R403): delay i of the set. Its VREF codes come from QDn_PHYk and QDn_DMRk (R405). -/
opaque Config.phyStart : (chan k i : Nat) → Nat

/-- The offset that R420 forms with a CHn_OSCCFG.K from a count and a baseline of 0, a quotient by 0. -/
opaque Config.zeroCount : (k : Nat) → Int

/-- What the 8 bits of CHn_WOFS hold for an offset of R420 that does not fit them. -/
opaque Config.wideOffset : Int → Nat

/-- The time in rsck of the JEDEC power-up initialization (R93 step 8), which the manual bounds but does not give. -/
opaque Config.initTime : Nat → Nat

/-- The rank in which a training that overran its bound was at work (R94, R407). -/
opaque Config.lateRank : Nat → Nat

/-- The time in rsck that a step of a training takes in the PHY (R405), which the manual bounds but does not give. -/
opaque Config.stepTime : (start chan step : Nat) → Nat

end Sys2Proof
end

