-- ==== Sys2Proof/Machine/RegMap.lean ====
section
/-!
DEFINITION. The register map of the 1 MiB window (R15, R177): the register file as sparse data, the fields of the
registers by their names in the manual, and for every register the bits of each access code (R19).
-/

namespace Sys2Proof.Machine

/-- Registers by byte address, strictly rising, no zero value listed: an unlisted register holds zero. -/
abbrev RegFile := List (Nat × Word)

/-- The value held at an address. -/
def RegFile.get : RegFile → Nat → Word
  | [], _ => 0
  | (b, v) :: rest, a => if a = b then v else if a < b then 0 else RegFile.get rest a

/-- Hold `v` at address `a`, keeping the canonical form. -/
def RegFile.set : RegFile → Nat → Word → RegFile
  | [], a, v => if v = 0 then [] else [(a, v)]
  | (b, w) :: rest, a, v =>
    if a < b then (if v = 0 then (b, w) :: rest else (a, v) :: (b, w) :: rest)
    else if a = b then (if v = 0 then rest else (a, v) :: rest)
    else (b, w) :: RegFile.set rest a v

/-- The canonical form: addresses strictly rising and no zero listed. -/
def RegFile.wf (f : RegFile) : Bool :=
  (f.map Prod.fst).Pairwise (· < ·) && f.all (fun c => c.2 ≠ 0)

/-- A field of a register: the register's address, the field's lowest bit and its width. -/
structure Field where
  addr : Nat
  lo : Nat
  width : Nat
  deriving DecidableEq, Repr

/-- The bits of a register that a field occupies. -/
def Field.mask (f : Field) : Word := BitVec.ofNat 32 ((2 ^ f.width - 1) * 2 ^ f.lo)

/-- The value of a field inside a register word. -/
def Field.of (f : Field) (w : Word) : Nat := natBits w.toNat f.lo f.width

/-- A register word with the field set to `v` (taken modulo its width). -/
def Field.put (f : Field) (w : Word) (v : Nat) : Word :=
  (w &&& ~~~f.mask) ||| BitVec.ofNat 32 (v % 2 ^ f.width * 2 ^ f.lo)

/-- The largest value a field can hold. -/
def Field.max (f : Field) : Nat := 2 ^ f.width - 1

def RegFile.fget (r : RegFile) (f : Field) : Nat := f.of (r.get f.addr)

def RegFile.fset (r : RegFile) (f : Field) (v : Nat) : RegFile := r.set f.addr (f.put (r.get f.addr) v)

/-- The bits of a register by access code (R19): LK, LV, RW, RC and W1P. Every other bit is RO or reserved. -/
structure RegDesc where
  lk : Word
  lv : Word
  rw : Word
  rc : Word
  w1p : Word
  deriving DecidableEq, Repr

/-- A row of the register map: the offset of the first copy, how often it repeats (count, stride; outermost first),
the number of units of its window that have it, and its access bits. -/
structure RegRow where
  off : Nat
  dims : List (Nat × Nat)
  units : Nat
  desc : RegDesc
  deriving DecidableEq, Repr

/-- `d` is a combination of the repeat steps, each below its count. -/
def inDims : List (Nat × Nat) → Nat → Bool
  | [], d => d == 0
  | (c, s) :: rest, d => d / s < c && inDims rest (d % s)

/-- The row covers offset `o` of unit `u`. -/
def RegRow.covers (r : RegRow) (u o : Nat) : Bool := u < r.units && r.off ≤ o && inDims r.dims (o - r.off)

/-- The first row of a table that covers the offset. -/
def findRow : List RegRow → Nat → Nat → Option RegDesc
  | [], _, _ => none
  | r :: rest, u, o => if r.covers u o then some r.desc else findRow rest u o

def GL_VERSION_PATCH : Field := ⟨0x0, 0, 8⟩
def GL_VERSION_MINOR : Field := ⟨0x0, 8, 8⟩
def GL_VERSION_MAJOR : Field := ⟨0x0, 16, 8⟩
def GL_ID_PRODUCT : Field := ⟨0x4, 0, 16⟩
def GL_ID_VENDOR : Field := ⟨0x4, 16, 16⟩
def GL_INSTANCE_ID : Field := ⟨0x8, 0, 14⟩
def GL_STATUS_READY : Field := ⟨0xC, 0, 1⟩
def GL_STATUS_CFG_GOOD : Field := ⟨0xC, 1, 1⟩
def GL_STATUS_HALTED : Field := ⟨0xC, 2, 1⟩
def GL_STATUS_TAKE_PRES : Field := ⟨0xC, 3, 1⟩
def GL_STATUS_FATAL : Field := ⟨0xC, 4, 1⟩
def GL_STATUS_CONT : Field := ⟨0xC, 5, 1⟩
def GL_STATUS_CORR : Field := ⟨0xC, 6, 1⟩
def GL_STATUS_EVT : Field := ⟨0xC, 7, 1⟩
def GL_STATUS_OP : Field := ⟨0xC, 8, 2⟩
def GL_STATUS_PAR_ERR : Field := ⟨0xC, 10, 1⟩
def GL_STATUS_WR_IGN : Field := ⟨0xC, 11, 1⟩
def GL_STATUS_RST_CAUSE : Field := ⟨0xC, 12, 2⟩
def GL_CTRL_BLK_RESET : Field := ⟨0x10, 0, 1⟩
def GL_CTRL_ARM : Field := ⟨0x10, 1, 1⟩
def GL_ACCERR_ADDR : Field := ⟨0x14, 0, 20⟩
def GL_ACCERR_CAUSE : Field := ⟨0x14, 20, 3⟩
def GL_ACCERR_MORE : Field := ⟨0x14, 23, 1⟩
def GL_CFGSTAT_STATE : Field := ⟨0x200, 0, 2⟩
def GL_CFGSTAT_ATTEMPT : Field := ⟨0x200, 2, 2⟩
def GL_CFGSTAT_ERR : Field := ⟨0x200, 4, 4⟩
def GL_CFGSTAT_STEP : Field := ⟨0x200, 8, 3⟩
def GL_CFGSTAT_RECLEN : Field := ⟨0x200, 16, 11⟩
def GL_CFGCTRL_RELOAD : Field := ⟨0x204, 0, 1⟩
def GL_CFGIMG_VALUE : Field := ⟨0x208, 0, 32⟩
def GL_CFGBUILD_VALUE : Field := ⟨0x20C, 0, 32⟩
def GL_CFGCRC_VALUE : Field := ⟨0x210, 0, 32⟩
def GL_AMAP_LCH : Field := ⟨0x300, 0, 4⟩
def GL_AMAP_HASH : Field := ⟨0x300, 4, 1⟩
def GL_CHLINES_LINES : Field := ⟨0x304, 0, 26⟩
def GL_L2P0_LOG : Field := ⟨0x308, 0, 32⟩
def GL_L2P1_LOG : Field := ⟨0x30C, 0, 32⟩
def GL_CRYPT_BYPASS : Field := ⟨0x400, 0, 1⟩
def TB_RSICFG_JTOL : Field := ⟨0x1000, 0, 4⟩
def TB_RSICFG_HOLD : Field := ⟨0x1000, 8, 8⟩
def TB_HBCFG_HBSTART : Field := ⟨0x1004, 0, 10⟩
def TB_SYNPER_PERIOD : Field := ⟨0x1008, 0, 24⟩
def TB_SYNFRM_LINES : Field := ⟨0x100C, 0, 16⟩
def TB_SYNFRM_VBSTART : Field := ⟨0x100C, 16, 16⟩
def TB_RSISTAT_STATE : Field := ⟨0x1010, 0, 2⟩
def TB_RSISTAT_IN_VGAP : Field := ⟨0x1010, 2, 1⟩
def TB_RSISTAT_IN_HGAP : Field := ⟨0x1010, 3, 1⟩
def TB_RSISTAT_HB_WORD : Field := ⟨0x1010, 4, 1⟩
def TB_RSISTAT_MC_PEND : Field := ⟨0x1010, 5, 1⟩
def TB_RSISTAT_CAND : Field := ⟨0x1010, 6, 1⟩
def TB_LINEPER_PERIOD : Field := ⟨0x1014, 0, 24⟩
def TB_POSLINE_LINE : Field := ⟨0x1018, 0, 16⟩
def TB_POSLINE_GRAIN : Field := ⟨0x1018, 16, 10⟩
def TB_POSFRAME_FRAME : Field := ⟨0x101C, 0, 24⟩
def TB_LASTLINE_LINE : Field := ⟨0x1020, 0, 16⟩
def TB_LASTFRAME_FRAME : Field := ⟨0x1024, 0, 24⟩
def TB_FRMLINES_LINES : Field := ⟨0x1028, 0, 16⟩
def TB_FRMLINES_VBSTART : Field := ⟨0x1028, 16, 16⟩
def TB_HGAP_CC : Field := ⟨0x102C, 0, 20⟩
def TB_VGAP_CC : Field := ⟨0x1030, 0, 32⟩
def TB_RSIERR_CRC : Field := ⟨0x1034, 0, 8⟩
def TB_RSIERR_NOVB : Field := ⟨0x1034, 8, 8⟩
def TB_RSIERR_SLIP : Field := ⟨0x1034, 16, 8⟩
def TB_RSIERR_RANGE : Field := ⟨0x1034, 24, 8⟩
def TB_RSIEVT_JUMPS : Field := ⟨0x1038, 0, 8⟩
def TB_RSIEVT_MODES : Field := ⟨0x1038, 8, 8⟩
def TB_RSIEVT_HOLDS : Field := ⟨0x1038, 16, 8⟩
def TB_RSIEVT_LOSTS : Field := ⟨0x1038, 24, 8⟩
def TB_GAPMISS_V_NOFIT : Field := ⟨0x103C, 0, 8⟩
def TB_GAPMISS_V_LATE : Field := ⟨0x103C, 8, 8⟩
def TB_GAPMISS_H_LATE : Field := ⟨0x103C, 16, 8⟩
def TB_GATECTL_REQ : Field := ⟨0x1400, 0, 1⟩
def TB_GATECTL_PENDING : Field := ⟨0x1400, 1, 1⟩
def TB_GATECTL_COPYING : Field := ⟨0x1400, 2, 1⟩
def TB_GATECTL_COMMITS : Field := ⟨0x1400, 8, 8⟩
def TB_GATEVG_VG : Field := ⟨0x1404, 0, 8⟩
def TB_GATEVG_VGW : Field := ⟨0x1404, 16, 8⟩
def TB_CALCTL_REQ : Field := ⟨0x1408, 0, 1⟩
def TB_CALCTL_PENDING : Field := ⟨0x1408, 1, 1⟩
def TB_CALCTL_COPYING : Field := ⟨0x1408, 2, 1⟩
def TB_CALCTL_COMMITS : Field := ⟨0x1408, 8, 8⟩
def TB_CALCTL_ROD : Field := ⟨0x1408, 16, 10⟩
def TB_CALREVS_REVS : Field := ⟨0x140C, 0, 32⟩
def TB_GS_START (g k : Nat) : Field := ⟨0x1500 + 0x20 * g + 0x4 * k, 0, 10⟩
def TB_GS_END (g k : Nat) : Field := ⟨0x1500 + 0x20 * g + 0x4 * k, 16, 11⟩
def TB_GS_EN (g k : Nat) : Field := ⟨0x1500 + 0x20 * g + 0x4 * k, 31, 1⟩
def TB_GW_START (g k : Nat) : Field := ⟨0x1600 + 0x20 * g + 0x4 * k, 0, 10⟩
def TB_GW_END (g k : Nat) : Field := ⟨0x1600 + 0x20 * g + 0x4 * k, 16, 11⟩
def TB_GW_EN (g k : Nat) : Field := ⟨0x1600 + 0x20 * g + 0x4 * k, 31, 1⟩
def TB_OPCFG_START : Field := ⟨0x1800, 0, 2⟩
def TB_OPCFG_ALLOW : Field := ⟨0x1800, 4, 4⟩
def TB_OPCFG_POLICY : Field := ⟨0x1800, 8, 1⟩
def TB_OPPIN_EN : Field := ⟨0x1804, 0, 1⟩
def TB_OPPIN_OP : Field := ⟨0x1804, 4, 2⟩
def TB_OPSTAT_TARGET : Field := ⟨0x1808, 0, 2⟩
def TB_OPSTAT_PEND : Field := ⟨0x1808, 2, 1⟩
def TB_OPSTAT_PIN_BAD : Field := ⟨0x1808, 3, 1⟩
def TB_OPSTAT_PRELOCKED : Field := ⟨0x1808, 4, 4⟩
def TB_OPSTAT_STEP : Field := ⟨0x1808, 8, 3⟩
def TB_OPSTAT_VWAIT : Field := ⟨0x1808, 11, 1⟩
def TB_OPSTAT_VSET : Field := ⟨0x1808, 12, 2⟩
def TB_OPSTAT_COUNT : Field := ⟨0x1808, 16, 4⟩
def TB_OPDEM_RATE : Field := ⟨0x180C, 0, 16⟩
def TB_OPTIME_VSTEP : Field := ⟨0x1810, 0, 6⟩
def TB_OPEVT_CHANGES : Field := ⟨0x1814, 0, 16⟩
def TB_OPEVT_ABANDON : Field := ⟨0x1814, 16, 8⟩
def TB_OPEVT_NOFIT : Field := ⟨0x1814, 24, 8⟩
def TB_OPLINE_LINE : Field := ⟨0x1818, 0, 16⟩
def TB_OPFRAME_FRAME : Field := ⟨0x181C, 0, 24⟩
def TB_OP_RATING (k : Nat) : Field := ⟨0x1820 + 0x4 * k, 0, 16⟩
def TB_OP_RATIO (k : Nat) : Field := ⟨0x1820 + 0x4 * k, 16, 2⟩
def TB_OP_VALID (k : Nat) : Field := ⟨0x1820 + 0x4 * k, 31, 1⟩
def TB_PWRCTL_DSM_ENTER : Field := ⟨0x1830, 0, 1⟩
def TB_PWRCTL_DSM_EXIT : Field := ⟨0x1830, 1, 1⟩
def TB_PWRCTL_DSM_STATE : Field := ⟨0x1830, 4, 2⟩
def TB_CLKCFG_NINT : Field := ⟨0x1C00, 0, 5⟩
def TB_CLKCFG_NFRAC : Field := ⟨0x1C00, 8, 8⟩
def TB_CLKCFG_NMOD : Field := ⟨0x1C00, 16, 8⟩
def TB_RSIFREQ_KHZ : Field := ⟨0x1C04, 0, 18⟩
def TB_LOCKDLY_CORE : Field := ⟨0x1C08, 0, 14⟩
def TB_LOCKDLY_PHY : Field := ⟨0x1C08, 16, 14⟩
def TB_CLKSTAT_CORE_STATE : Field := ⟨0x1C0C, 0, 3⟩
def TB_CLKSTAT_CCLK_SRC : Field := ⟨0x1C0C, 3, 1⟩
def TB_CLKSTAT_PCLK_ON : Field := ⟨0x1C0C, 4, 1⟩
def TB_CLKSTAT_RETURNING : Field := ⟨0x1C0C, 5, 1⟩
def TB_CLKSTAT_DEBT_OVER : Field := ⟨0x1C0C, 6, 1⟩
def TB_CLKSTAT_START_DONE : Field := ⟨0x1C0C, 7, 1⟩
def TB_CLKSTAT_START_STEP : Field := ⟨0x1C0C, 8, 4⟩
def TB_CLKCTRL_CORE_RESTART : Field := ⟨0x1C10, 0, 1⟩
def TB_CLKMON_SEL : Field := ⟨0x1C14, 0, 6⟩
def TB_CLKMON_DIV : Field := ⟨0x1C14, 16, 10⟩
def TB_CLKMON_REFUSED : Field := ⟨0x1C14, 31, 1⟩
def TB_CLKEVT_CORE_TRIPS : Field := ⟨0x1C18, 0, 8⟩
def TB_CLKEVT_FORCED_SW : Field := ⟨0x1C18, 8, 8⟩
def TB_CLKEVT_RSI_LOSSES : Field := ⟨0x1C18, 16, 16⟩
def TB_LOSSLINE_LINE : Field := ⟨0x1C1C, 0, 16⟩
def TB_LOSSFRAME_FRAME : Field := ⟨0x1C20, 0, 24⟩
def TB_ABSBUD_THRESH : Field := ⟨0x1C24, 0, 16⟩
def TB_ABSBUD_DEBT : Field := ⟨0x1C24, 16, 4⟩
def TB_CMONCNT_COUNT : Field := ⟨0x1C28, 0, 16⟩
def FT_STSCORR_SRC : Field := ⟨0x2000, 0, 26⟩
def FT_STSCONT_SRC : Field := ⟨0x2004, 0, 26⟩
def FT_STSFATAL_SRC : Field := ⟨0x2008, 0, 26⟩
def FT_STSEVT_EVT : Field := ⟨0x200C, 0, 10⟩
def FT_ENCORR_SRC : Field := ⟨0x2010, 0, 26⟩
def FT_ENCONT_SRC : Field := ⟨0x2014, 0, 26⟩
def FT_ENFATAL_SRC : Field := ⟨0x2018, 0, 26⟩
def FT_ENEVT_EVT : Field := ⟨0x201C, 0, 10⟩
def FT_UNACK_CORR : Field := ⟨0x2020, 0, 1⟩
def FT_UNACK_CONT : Field := ⟨0x2020, 1, 1⟩
def FT_UNACK_FATAL : Field := ⟨0x2020, 2, 1⟩
def FT_ACK_CORR : Field := ⟨0x2024, 0, 1⟩
def FT_ACK_CONT : Field := ⟨0x2024, 1, 1⟩
def FT_ACK_FATAL : Field := ⟨0x2024, 2, 1⟩
def FT_OCC_CORR : Field := ⟨0x2028, 0, 16⟩
def FT_OCC_CONT : Field := ⟨0x2028, 16, 8⟩
def FT_OCC_FATAL : Field := ⟨0x2028, 24, 4⟩
def FT_TAKE_SRC : Field := ⟨0x202C, 0, 5⟩
def FT_TAKE_ACTIVE : Field := ⟨0x202C, 8, 1⟩
def FT_TAKELINE_LINE : Field := ⟨0x2030, 0, 16⟩
def FT_TAKEFRAME_FRAME : Field := ⟨0x2034, 0, 24⟩
def FT_WEARCFG0_TRTHR : Field := ⟨0x2040, 0, 16⟩
def FT_WEARCFG0_PSTHR : Field := ⟨0x2040, 16, 8⟩
def FT_WEARCFG0_EYEN : Field := ⟨0x2040, 24, 4⟩
def FT_WEARCFG1_EYETHR : Field := ⟨0x2044, 0, 6⟩
def FT_WEARCFG1_WEYETHR : Field := ⟨0x2044, 8, 6⟩
def FT_EVCFG_HLINES : Field := ⟨0x2048, 0, 4⟩
def FT_EVCFG_VLINES : Field := ⟨0x2048, 4, 8⟩
def FT_EVCFG_IDLE : Field := ⟨0x2048, 12, 1⟩
def FT_EVCFG_IDLEWAIT : Field := ⟨0x2048, 16, 8⟩
def FT_EVCTL_EVAC : Field := ⟨0x204C, 0, 1⟩
def FT_EVCTL_CH : Field := ⟨0x204C, 4, 4⟩
def FT_EVSTAT_RUNNING : Field := ⟨0x2050, 0, 1⟩
def FT_EVSTAT_STEP : Field := ⟨0x2050, 1, 3⟩
def FT_EVSTAT_SRC : Field := ⟨0x2050, 4, 4⟩
def FT_EVSTAT_SPARE : Field := ⟨0x2050, 8, 4⟩
def FT_EVSTAT_AVAIL : Field := ⟨0x2050, 12, 2⟩
def FT_EVSTAT_REFUSED : Field := ⟨0x2050, 14, 1⟩
def FT_EVSTAT_RETRY : Field := ⟨0x2050, 16, 8⟩
def FT_EVSTAT_FORCED : Field := ⟨0x2050, 24, 8⟩
def FT_LOGSTAT_VALID : Field := ⟨0x2100, 0, 16⟩
def FT_LOGSTAT_DROPPED : Field := ⟨0x2100, 16, 8⟩
def FT_LOGCTL_CLEAR : Field := ⟨0x2104, 0, 16⟩
def FT_LOGSRC_SRC (k : Nat) : Field := ⟨0x2400 + 0x10 * k, 0, 5⟩
def FT_LOGSRC_NCLASS (k : Nat) : Field := ⟨0x2400 + 0x10 * k, 5, 2⟩
def FT_LOGSRC_ECLASS (k : Nat) : Field := ⟨0x2400 + 0x10 * k, 7, 2⟩
def FT_LOGSRC_HALT (k : Nat) : Field := ⟨0x2400 + 0x10 * k, 9, 1⟩
def FT_LOGSRC_VALID (k : Nat) : Field := ⟨0x2400 + 0x10 * k, 10, 1⟩
def FT_LOGSRC_UNIT (k : Nat) : Field := ⟨0x2400 + 0x10 * k, 16, 5⟩
def FT_LOGINFO_INFO (k : Nat) : Field := ⟨0x2404 + 0x10 * k, 0, 32⟩
def FT_LOGLINE_LINE (k : Nat) : Field := ⟨0x2408 + 0x10 * k, 0, 16⟩
def FT_LOGFRAME_FRAME (k : Nat) : Field := ⟨0x240C + 0x10 * k, 0, 24⟩
def FT_SCRSTAT_VALID : Field := ⟨0x2800, 0, 16⟩
def FT_SCRSTAT_DROPPED : Field := ⟨0x2800, 16, 8⟩
def FT_SCRCTL_CLEAR : Field := ⟨0x2804, 0, 16⟩
def FT_SCRIDX_LINE (k : Nat) : Field := ⟨0x2840 + 0x20 * k, 0, 32⟩
def FT_SCRINFO_VALID (k : Nat) : Field := ⟨0x2844 + 0x20 * k, 0, 1⟩
def FT_SCRINFO_CHANNEL (k : Nat) : Field := ⟨0x2844 + 0x20 * k, 4, 4⟩
def FT_SCRINFO_COUNT (k : Nat) : Field := ⟨0x2844 + 0x20 * k, 8, 8⟩
def FT_SCRFLINE_LINE (k : Nat) : Field := ⟨0x2848 + 0x20 * k, 0, 16⟩
def FT_SCRFFRAME_FRAME (k : Nat) : Field := ⟨0x284C + 0x20 * k, 0, 24⟩
def FT_SCRLLINE_LINE (k : Nat) : Field := ⟨0x2850 + 0x20 * k, 0, 16⟩
def FT_SCRLFRAME_FRAME (k : Nat) : Field := ⟨0x2854 + 0x20 * k, 0, 24⟩
def PM_CTL_FREEZE : Field := ⟨0x3000, 0, 1⟩
def PM_CTL_FRZOVF : Field := ⟨0x3000, 1, 1⟩
def PM_CTL_SNAPFS : Field := ⟨0x3000, 2, 1⟩
def PM_CTL_SNAPCLR : Field := ⟨0x3000, 3, 1⟩
def PM_CTL_SNAP : Field := ⟨0x3000, 4, 1⟩
def PM_CTL_CLRALL : Field := ⟨0x3000, 5, 1⟩
def PM_EN_EN : Field := ⟨0x3004, 0, 16⟩
def PM_EN_OVIE : Field := ⟨0x3004, 16, 16⟩
def PM_STAT_OVF : Field := ⟨0x3008, 0, 16⟩
def PM_STAT_FROZEN : Field := ⟨0x3008, 16, 1⟩
def PM_STAT_SEQ : Field := ⟨0x3008, 24, 8⟩
def PM_SEL_EV (j : Nat) : Field := ⟨0x3040 + 0x4 * j, 0, 8⟩
def PM_SEL_UNIT (j : Nat) : Field := ⟨0x3040 + 0x4 * j, 8, 5⟩
def PM_SEL_ALLU (j : Nat) : Field := ⟨0x3040 + 0x4 * j, 13, 1⟩
def PM_CNTL_CNT_LO (j : Nat) : Field := ⟨0x3100 + 0x8 * j, 0, 32⟩
def PM_CNTH_CNT_HI (j : Nat) : Field := ⟨0x3104 + 0x8 * j, 0, 16⟩
def PM_SNPL_SNP_LO (j : Nat) : Field := ⟨0x3200 + 0x8 * j, 0, 32⟩
def PM_SNPH_SNP_HI (j : Nat) : Field := ⟨0x3204 + 0x8 * j, 0, 16⟩
def KY_STG_KEY (i : Nat) : Field := ⟨0x5000 + 0x4 * i, 0, 32⟩
def KY_CTL_LOAD : Field := ⟨0x5040, 0, 1⟩
def KY_CTL_RETIRE : Field := ⟨0x5040, 1, 1⟩
def KY_CTL_SLOT : Field := ⟨0x5040, 4, 1⟩
def KY_STAT_VALID0 : Field := ⟨0x5044, 0, 1⟩
def KY_STAT_VALID1 : Field := ⟨0x5044, 1, 1⟩
def KY_STAT_WVALID : Field := ⟨0x5044, 2, 1⟩
def KY_STAT_WSLOT : Field := ⟨0x5044, 3, 1⟩
def KY_STAT_VOID : Field := ⟨0x5044, 4, 1⟩
def KY_STAT_ERASING : Field := ⟨0x5044, 5, 1⟩
def KY_STAT_BYPASS : Field := ⟨0x5044, 6, 1⟩
def KY_STAT_RESULT : Field := ⟨0x5044, 8, 3⟩
def KY_KCV_KCV0 : Field := ⟨0x5048, 0, 16⟩
def KY_KCV_KCV1 : Field := ⟨0x5048, 16, 16⟩
def KY_RKCTL_START : Field := ⟨0x5050, 0, 1⟩
def KY_RKCTL_ABORT : Field := ⟨0x5050, 1, 1⟩
def KY_RKCFG_HLINES : Field := ⟨0x5054, 0, 4⟩
def KY_RKCFG_VLINES : Field := ⟨0x5054, 4, 8⟩
def KY_RKCFG_IDLE : Field := ⟨0x5054, 12, 1⟩
def KY_RKCFG_IDLEWAIT : Field := ⟨0x5054, 16, 8⟩
def KY_RKSTAT_STATE : Field := ⟨0x5058, 0, 2⟩
def KY_RKSTAT_OLD : Field := ⟨0x5058, 2, 1⟩
def KY_RKSTAT_PASSES : Field := ⟨0x5058, 8, 8⟩
def SP_CFG_CACHE (n : Nat) : Field := ⟨0x4000 + 0x200 * n, 0, 4⟩
def SP_CFG_PROT (n : Nat) : Field := ⟨0x4000 + 0x200 * n, 4, 3⟩
def SP_CFG_QOS (n : Nat) : Field := ⟨0x4000 + 0x200 * n, 8, 4⟩
def SP_CFG_SLOTS (n : Nat) : Field := ⟨0x4000 + 0x200 * n, 12, 3⟩
def SP_CFG_POLL (n : Nat) : Field := ⟨0x4000 + 0x200 * n, 16, 8⟩
def SP_CTRL_START (n : Nat) : Field := ⟨0x4004 + 0x200 * n, 0, 1⟩
def SP_CTRL_PAUSE (n : Nat) : Field := ⟨0x4004 + 0x200 * n, 1, 1⟩
def SP_CTRL_RESUME (n : Nat) : Field := ⟨0x4004 + 0x200 * n, 2, 1⟩
def SP_CTRL_ABORT (n : Nat) : Field := ⟨0x4004 + 0x200 * n, 3, 1⟩
def SP_CTRL_KICK (n : Nat) : Field := ⟨0x4004 + 0x200 * n, 4, 1⟩
def SP_STAT_STATE (n : Nat) : Field := ⟨0x4008 + 0x200 * n, 0, 3⟩
def SP_STAT_HCAUSE (n : Nat) : Field := ⟨0x4008 + 0x200 * n, 4, 4⟩
def SP_STAT_HDIR (n : Nat) : Field := ⟨0x4008 + 0x200 * n, 8, 1⟩
def SP_STAT_HKIND (n : Nat) : Field := ⟨0x4008 + 0x200 * n, 9, 2⟩
def SP_STAT_IRQ (n : Nat) : Field := ⟨0x4008 + 0x200 * n, 11, 1⟩
def SP_STAT_DIR (n : Nat) : Field := ⟨0x4008 + 0x200 * n, 12, 1⟩
def SP_CURL_ADDR_LO (n : Nat) : Field := ⟨0x400C + 0x200 * n, 5, 27⟩
def SP_CURH_ADDR_HI (n : Nat) : Field := ⟨0x4010 + 0x200 * n, 0, 16⟩
def SP_POS_UNITS (n : Nat) : Field := ⟨0x4014 + 0x200 * n, 0, 24⟩
def SP_ERRL_ADDR_LO (n : Nat) : Field := ⟨0x4018 + 0x200 * n, 0, 32⟩
def SP_ERRH_ADDR_HI (n : Nat) : Field := ⟨0x401C + 0x200 * n, 0, 16⟩
def SP_DONE_DESC (n : Nat) : Field := ⟨0x4020 + 0x200 * n, 0, 16⟩
def SP_DONE_BAD (n : Nat) : Field := ⟨0x4020 + 0x200 * n, 16, 16⟩
def SP_BADL_ADDR_LO (n : Nat) : Field := ⟨0x4024 + 0x200 * n, 8, 24⟩
def SP_BADH_ADDR_HI (n : Nat) : Field := ⟨0x4028 + 0x200 * n, 0, 8⟩
def SP_BADH_CAUSE (n : Nat) : Field := ⟨0x4028 + 0x200 * n, 8, 4⟩
def SP_BADH_RESP (n : Nat) : Field := ⟨0x4028 + 0x200 * n, 12, 2⟩
def SP_BADH_VALID (n : Nat) : Field := ⟨0x4028 + 0x200 * n, 14, 1⟩
def SP_UNITSL_COUNT_LO (n : Nat) : Field := ⟨0x402C + 0x200 * n, 0, 32⟩
def SP_UNITSH_COUNT_HI (n : Nat) : Field := ⟨0x4030 + 0x200 * n, 0, 16⟩
def PT_CFG_ENABLE (n : Nat) : Field := ⟨0x8000 + 0x200 * n, 0, 1⟩
def PT_CFG_STREAMING (n : Nat) : Field := ⟨0x8000 + 0x200 * n, 1, 1⟩
def PT_CFG_HOLD_FB (n : Nat) : Field := ⟨0x8000 + 0x200 * n, 2, 1⟩
def PT_CFG_INGEST (n : Nat) : Field := ⟨0x8000 + 0x200 * n, 3, 1⟩
def PT_STATE_STATE (n : Nat) : Field := ⟨0x8004 + 0x200 * n, 0, 3⟩
def PT_STATE_FLUSHING (n : Nat) : Field := ⟨0x8004 + 0x200 * n, 3, 1⟩
def PT_STATE_FLUSH_DONE (n : Nat) : Field := ⟨0x8004 + 0x200 * n, 4, 1⟩
def PT_STATE_HCAUSE (n : Nat) : Field := ⟨0x8004 + 0x200 * n, 8, 4⟩
def PT_STATE_TAGS (n : Nat) : Field := ⟨0x8004 + 0x200 * n, 16, 9⟩
def PT_CTRL_STOP (n : Nat) : Field := ⟨0x8008 + 0x200 * n, 0, 1⟩
def PT_CTRL_RESUME (n : Nat) : Field := ⟨0x8008 + 0x200 * n, 1, 1⟩
def PT_CTRL_FLUSH (n : Nat) : Field := ⟨0x8008 + 0x200 * n, 2, 1⟩
def PT_ERRINFO_CAUSE (n : Nat) : Field := ⟨0x800C + 0x200 * n, 0, 4⟩
def PT_ERRINFO_RESP (n : Nat) : Field := ⟨0x800C + 0x200 * n, 4, 2⟩
def PT_ERRINFO_WR (n : Nat) : Field := ⟨0x800C + 0x200 * n, 6, 1⟩
def PT_ERRINFO_MORE (n : Nat) : Field := ⟨0x800C + 0x200 * n, 7, 1⟩
def PT_ERRINFO_TAG (n : Nat) : Field := ⟨0x800C + 0x200 * n, 8, 8⟩
def PT_ERRADDRL_ADDR_LO (n : Nat) : Field := ⟨0x8010 + 0x200 * n, 8, 24⟩
def PT_ERRADDRH_ADDR_HI (n : Nat) : Field := ⟨0x8014 + 0x200 * n, 0, 8⟩
def PT_RESPCNT_UNCHK (n : Nat) : Field := ⟨0x8018 + 0x200 * n, 0, 10⟩
def PT_RESPCNT_POISON (n : Nat) : Field := ⟨0x8018 + 0x200 * n, 10, 11⟩
def PT_RESPCNT_REFUSED (n : Nat) : Field := ⟨0x8018 + 0x200 * n, 21, 11⟩
def PT_TUNCFG_HWM (n : Nat) : Field := ⟨0x8020 + 0x200 * n, 0, 11⟩
def PT_TUNCFG_LWM (n : Nat) : Field := ⟨0x8020 + 0x200 * n, 16, 11⟩
def PT_TUNFB_LEVEL (n : Nat) : Field := ⟨0x8024 + 0x200 * n, 0, 11⟩
def PT_TUNFB_ARMED (n : Nat) : Field := ⟨0x8024 + 0x200 * n, 16, 1⟩
def PT_TUNSTAT_LEVEL (n : Nat) : Field := ⟨0x8028 + 0x200 * n, 0, 11⟩
def PT_TUNSTAT_PEAK (n : Nat) : Field := ⟨0x8028 + 0x200 * n, 16, 11⟩
def PT_TUNSTAT_HOLD (n : Nat) : Field := ⟨0x8028 + 0x200 * n, 27, 1⟩
def PT_TUNSTAT_FULL (n : Nat) : Field := ⟨0x8028 + 0x200 * n, 28, 1⟩
def PT_TUNEVT_RESETS (n : Nat) : Field := ⟨0x802C + 0x200 * n, 0, 8⟩
def PT_TUNEVT_FULLS (n : Nat) : Field := ⟨0x802C + 0x200 * n, 8, 8⟩
def PT_TUNEVT_HOLDS (n : Nat) : Field := ⟨0x802C + 0x200 * n, 16, 16⟩
def PT_ARB_TIER (n : Nat) : Field := ⟨0x8040 + 0x200 * n, 0, 2⟩
def PT_ARB_DM2 (n : Nat) : Field := ⟨0x8040 + 0x200 * n, 4, 1⟩
def PT_ARB_WEIGHT (n : Nat) : Field := ⟨0x8040 + 0x200 * n, 8, 8⟩
def PT_SHCTL_EN (n : Nat) : Field := ⟨0x8044 + 0x200 * n, 0, 1⟩
def PT_SHCTL_POLICE (n : Nat) : Field := ⟨0x8044 + 0x200 * n, 1, 1⟩
def PT_SHCTL_DTIER (n : Nat) : Field := ⟨0x8044 + 0x200 * n, 4, 2⟩
def PT_SHC_RATE (n : Nat) : Field := ⟨0x8048 + 0x200 * n, 0, 16⟩
def PT_SHC_DEPTH (n : Nat) : Field := ⟨0x8048 + 0x200 * n, 16, 16⟩
def PT_SHP_RATE (n : Nat) : Field := ⟨0x804C + 0x200 * n, 0, 16⟩
def PT_SHP_DEPTH (n : Nat) : Field := ⟨0x804C + 0x200 * n, 16, 16⟩
def PT_SHLVL_LEVEL_C (n : Nat) : Field := ⟨0x8050 + 0x200 * n, 0, 16⟩
def PT_SHLVL_LEVEL_P (n : Nat) : Field := ⟨0x8050 + 0x200 * n, 16, 16⟩
def PT_SHSTAT_NEXT_ROD (n : Nat) : Field := ⟨0x8054 + 0x200 * n, 0, 10⟩
def PT_SHSTAT_WAITING (n : Nat) : Field := ⟨0x8054 + 0x200 * n, 10, 1⟩
def PT_SHSTAT_CREDIT (n : Nat) : Field := ⟨0x8054 + 0x200 * n, 16, 6⟩
def PT_SHCNT_DEMOTED (n : Nat) : Field := ⟨0x8058 + 0x200 * n, 0, 16⟩
def PT_SHCNT_SHAPED (n : Nat) : Field := ⟨0x8058 + 0x200 * n, 16, 16⟩
def PT_GATE_GATED (n : Nat) : Field := ⟨0x8060 + 0x200 * n, 0, 1⟩
def PT_GATE_GROUP (n : Nat) : Field := ⟨0x8060 + 0x200 * n, 4, 3⟩
def PT_GATE_CPB (n : Nat) : Field := ⟨0x8060 + 0x200 * n, 8, 4⟩
def PT_GATEW_GATED (n : Nat) : Field := ⟨0x8064 + 0x200 * n, 0, 1⟩
def PT_GATEW_GROUP (n : Nat) : Field := ⟨0x8064 + 0x200 * n, 4, 3⟩
def PT_GATEW_CPB (n : Nat) : Field := ⟨0x8064 + 0x200 * n, 8, 4⟩
def PT_GATESTAT_WAITS (n : Nat) : Field := ⟨0x8068 + 0x200 * n, 0, 16⟩
def PT_GATESTAT_OVERSIZE (n : Nat) : Field := ⟨0x8068 + 0x200 * n, 16, 8⟩
def PT_GATESTAT_WAITING (n : Nat) : Field := ⟨0x8068 + 0x200 * n, 24, 1⟩
def PT_CAL_START (n k : Nat) : Field := ⟨0x8070 + 0x200 * n + 0x4 * k, 0, 10⟩
def PT_CAL_STRIDE (n k : Nat) : Field := ⟨0x8070 + 0x200 * n + 0x4 * k, 12, 10⟩
def PT_CAL_LINES (n k : Nat) : Field := ⟨0x8070 + 0x200 * n + 0x4 * k, 24, 5⟩
def PT_CALW_START (n k : Nat) : Field := ⟨0x8080 + 0x200 * n + 0x4 * k, 0, 10⟩
def PT_CALW_STRIDE (n k : Nat) : Field := ⟨0x8080 + 0x200 * n + 0x4 * k, 12, 10⟩
def PT_CALW_LINES (n k : Nat) : Field := ⟨0x8080 + 0x200 * n + 0x4 * k, 24, 5⟩
def PT_PMCTL_EN (n : Nat) : Field := ⟨0x8100 + 0x200 * n, 0, 4⟩
def PT_PMCTL_OVIE (n : Nat) : Field := ⟨0x8100 + 0x200 * n, 4, 4⟩
def PT_PMCTL_CLR (n : Nat) : Field := ⟨0x8100 + 0x200 * n, 8, 4⟩
def PT_PMSEL_EV0 (n : Nat) : Field := ⟨0x8104 + 0x200 * n, 0, 8⟩
def PT_PMSEL_EV1 (n : Nat) : Field := ⟨0x8104 + 0x200 * n, 8, 8⟩
def PT_PMSEL_EV2 (n : Nat) : Field := ⟨0x8104 + 0x200 * n, 16, 8⟩
def PT_PMSEL_EV3 (n : Nat) : Field := ⟨0x8104 + 0x200 * n, 24, 8⟩
def PT_PMOVF_OVF (n : Nat) : Field := ⟨0x8108 + 0x200 * n, 0, 4⟩
def PT_PML_CNT_LO (n k : Nat) : Field := ⟨0x8110 + 0x200 * n + 0x8 * k, 0, 32⟩
def PT_PMH_CNT_HI (n k : Nat) : Field := ⟨0x8114 + 0x200 * n + 0x8 * k, 0, 16⟩
def CH_STATE_STATE (n : Nat) : Field := ⟨0x10000 + 0x1000 * n, 0, 3⟩
def CH_STATE_WRMODE (n : Nat) : Field := ⟨0x10000 + 0x1000 * n, 3, 1⟩
def CH_STATE_PARTNER (n : Nat) : Field := ⟨0x10000 + 0x1000 * n, 4, 4⟩
def CH_STATE_PART_VALID (n : Nat) : Field := ⟨0x10000 + 0x1000 * n, 8, 1⟩
def CH_STATE_PREV (n : Nat) : Field := ⟨0x10000 + 0x1000 * n, 9, 3⟩
def CH_GEOM_BANKMODE (n : Nat) : Field := ⟨0x10004 + 0x1000 * n, 0, 2⟩
def CH_GEOM_ROW17 (n : Nat) : Field := ⟨0x10004 + 0x1000 * n, 2, 1⟩
def CH_GEOM_DBI_RD (n : Nat) : Field := ⟨0x10004 + 0x1000 * n, 8, 1⟩
def CH_GEOM_DBI_WR (n : Nat) : Field := ⟨0x10004 + 0x1000 * n, 9, 1⟩
def CH_SCHED_PAGE (n : Nat) : Field := ⟨0x10008 + 0x1000 * n, 0, 1⟩
def CH_SCHED_HITCAP (n : Nat) : Field := ⟨0x10008 + 0x1000 * n, 4, 8⟩
def CH_SCHED_IDLE (n : Nat) : Field := ⟨0x10008 + 0x1000 * n, 12, 12⟩
def CH_SCHED_RDMIN (n : Nat) : Field := ⟨0x10008 + 0x1000 * n, 24, 4⟩
def CH_SCHED_WRMIN (n : Nat) : Field := ⟨0x10008 + 0x1000 * n, 28, 4⟩
def CH_WQCFG_WHI (n : Nat) : Field := ⟨0x1000C + 0x1000 * n, 0, 6⟩
def CH_WQCFG_WLO (n : Nat) : Field := ⟨0x1000C + 0x1000 * n, 8, 6⟩
def CH_WQCFG_GIL3 (n : Nat) : Field := ⟨0x1000C + 0x1000 * n, 16, 5⟩
def CH_TCEIL_HC1 (n : Nat) : Field := ⟨0x10010 + 0x1000 * n, 0, 7⟩
def CH_TCEIL_HC2 (n : Nat) : Field := ⟨0x10010 + 0x1000 * n, 8, 7⟩
def CH_TCEIL_HC3 (n : Nat) : Field := ⟨0x10010 + 0x1000 * n, 16, 7⟩
def CH_TCEIL_RQ3 (n : Nat) : Field := ⟨0x10010 + 0x1000 * n, 24, 6⟩
def CH_OCC_HAZ (n : Nat) : Field := ⟨0x10014 + 0x1000 * n, 0, 8⟩
def CH_OCC_RQ (n : Nat) : Field := ⟨0x10014 + 0x1000 * n, 8, 6⟩
def CH_OCC_WQ (n : Nat) : Field := ⟨0x10014 + 0x1000 * n, 16, 6⟩
def CH_OCC_GILL (n : Nat) : Field := ⟨0x10014 + 0x1000 * n, 24, 5⟩
def CH_WDOG_LIMIT (n : Nat) : Field := ⟨0x10018 + 0x1000 * n, 0, 16⟩
def CH_WDSTAT_PORT (n : Nat) : Field := ⟨0x1001C + 0x1000 * n, 0, 5⟩
def CH_WDSTAT_NOROOM (n : Nat) : Field := ⟨0x1001C + 0x1000 * n, 5, 1⟩
def CH_WDSTAT_STALLS (n : Nat) : Field := ⟨0x1001C + 0x1000 * n, 8, 8⟩
def CH_WDSTAT_COUNTING (n : Nat) : Field := ⟨0x1001C + 0x1000 * n, 16, 1⟩
def CH_WDLINE_LINE (n : Nat) : Field := ⟨0x10020 + 0x1000 * n, 0, 16⟩
def CH_WDFRAME_FRAME (n : Nat) : Field := ⟨0x10024 + 0x1000 * n, 0, 24⟩
def CH_BANKSTAT_OPEN_CS0 (n : Nat) : Field := ⟨0x10028 + 0x1000 * n, 0, 16⟩
def CH_BANKSTAT_OPEN_CS1 (n : Nat) : Field := ⟨0x10028 + 0x1000 * n, 16, 16⟩
def CH_REFCFG_ALLBANK (n : Nat) : Field := ⟨0x10040 + 0x1000 * n, 0, 1⟩
def CH_REFCFG_PULLIN (n : Nat) : Field := ⟨0x10040 + 0x1000 * n, 1, 1⟩
def CH_REFCFG_MAXMULT (n : Nat) : Field := ⟨0x10040 + 0x1000 * n, 2, 2⟩
def CH_REFCFG_POLL (n : Nat) : Field := ⟨0x10040 + 0x1000 * n, 4, 8⟩
def CH_REFCFG_HLEN (n : Nat) : Field := ⟨0x10040 + 0x1000 * n, 12, 10⟩
def CH_REFCFG_VLEN (n : Nat) : Field := ⟨0x10040 + 0x1000 * n, 22, 10⟩
def CH_RFMCFG_EN (n : Nat) : Field := ⟨0x10044 + 0x1000 * n, 0, 1⟩
def CH_RFMCFG_RFMDEC (n : Nat) : Field := ⟨0x10044 + 0x1000 * n, 1, 2⟩
def CH_RFMCFG_RAAIMT (n : Nat) : Field := ⟨0x10044 + 0x1000 * n, 8, 9⟩
def CH_RFMCFG_RAAMMT (n : Nat) : Field := ⟨0x10044 + 0x1000 * n, 20, 9⟩
def CH_PWRCFG_PDIDLE (n : Nat) : Field := ⟨0x10048 + 0x1000 * n, 0, 8⟩
def CH_PWRCFG_SRIDLE (n : Nat) : Field := ⟨0x10048 + 0x1000 * n, 8, 12⟩
def CH_PWRCFG_DSMX (n : Nat) : Field := ⟨0x10048 + 0x1000 * n, 24, 8⟩
def CH_DERATE_OP0 (n : Nat) : Field := ⟨0x1004C + 0x1000 * n, 0, 8⟩
def CH_DERATE_OP1 (n : Nat) : Field := ⟨0x1004C + 0x1000 * n, 8, 8⟩
def CH_DERATE_OP2 (n : Nat) : Field := ⟨0x1004C + 0x1000 * n, 16, 8⟩
def CH_DERATE_OP3 (n : Nat) : Field := ⟨0x1004C + 0x1000 * n, 24, 8⟩
def CH_REFSTAT_DEBT0 (n : Nat) : Field := ⟨0x10050 + 0x1000 * n, 0, 8⟩
def CH_REFSTAT_DEBT1 (n : Nat) : Field := ⟨0x10050 + 0x1000 * n, 8, 8⟩
def CH_REFSTAT_ROUND0 (n : Nat) : Field := ⟨0x10050 + 0x1000 * n, 16, 8⟩
def CH_REFSTAT_ROUND1 (n : Nat) : Field := ⟨0x10050 + 0x1000 * n, 24, 8⟩
def CH_TEMP_CLASS0 (n : Nat) : Field := ⟨0x10054 + 0x1000 * n, 0, 3⟩
def CH_TEMP_CLASS1 (n : Nat) : Field := ⟨0x10054 + 0x1000 * n, 4, 3⟩
def CH_TEMP_DERATED (n : Nat) : Field := ⟨0x10054 + 0x1000 * n, 7, 1⟩
def CH_TEMP_READS (n : Nat) : Field := ⟨0x10054 + 0x1000 * n, 16, 16⟩
def CH_PWRSTAT_STATE0 (n : Nat) : Field := ⟨0x10058 + 0x1000 * n, 0, 2⟩
def CH_PWRSTAT_STATE1 (n : Nat) : Field := ⟨0x10058 + 0x1000 * n, 2, 2⟩
def CH_REFCNT_LIMIT (n : Nat) : Field := ⟨0x1005C + 0x1000 * n, 0, 12⟩
def CH_REFCNT_PLACED (n : Nat) : Field := ⟨0x1005C + 0x1000 * n, 12, 16⟩
def CH_REFCNT_OVER (n : Nat) : Field := ⟨0x1005C + 0x1000 * n, 28, 4⟩
def CH_RFMSTAT_RAAMAX (n : Nat) : Field := ⟨0x10060 + 0x1000 * n, 0, 9⟩
def CH_RFMSTAT_RFMS (n : Nat) : Field := ⟨0x10060 + 0x1000 * n, 16, 16⟩
def CH_GILLCFG_AGE (n : Nat) : Field := ⟨0x10080 + 0x1000 * n, 0, 12⟩
def CH_MDINIT_PTR (n : Nat) : Field := ⟨0x10084 + 0x1000 * n, 0, 20⟩
def CH_MDINIT_DONE (n : Nat) : Field := ⟨0x10084 + 0x1000 * n, 20, 1⟩
def CH_MDINIT_RUNNING (n : Nat) : Field := ⟨0x10084 + 0x1000 * n, 21, 1⟩
def CH_MDINIT_AHEAD (n : Nat) : Field := ⟨0x10084 + 0x1000 * n, 24, 5⟩
def CH_LIEVT_TRANSIENT (n : Nat) : Field := ⟨0x10088 + 0x1000 * n, 0, 16⟩
def CH_LIEVT_PERSIST (n : Nat) : Field := ⟨0x10088 + 0x1000 * n, 16, 8⟩
def CH_LIEVT_DISCARD (n : Nat) : Field := ⟨0x10088 + 0x1000 * n, 24, 8⟩
def CH_GILLEVT_WHOLE (n : Nat) : Field := ⟨0x1008C + 0x1000 * n, 0, 16⟩
def CH_GILLEVT_RMW (n : Nat) : Field := ⟨0x1008C + 0x1000 * n, 16, 16⟩
def CH_GILLCAUSE_AGE (n : Nat) : Field := ⟨0x10090 + 0x1000 * n, 0, 8⟩
def CH_GILLCAUSE_READ (n : Nat) : Field := ⟨0x10090 + 0x1000 * n, 8, 8⟩
def CH_GILLCAUSE_PRESS (n : Nat) : Field := ⟨0x10090 + 0x1000 * n, 16, 8⟩
def CH_GILLCAUSE_OTHER (n : Nat) : Field := ⟨0x10090 + 0x1000 * n, 24, 8⟩
def CH_RDCNTL_COUNT_LO (n : Nat) : Field := ⟨0x10094 + 0x1000 * n, 0, 32⟩
def CH_RDCNTH_COUNT_HI (n : Nat) : Field := ⟨0x10098 + 0x1000 * n, 0, 16⟩
def CH_SALV_MATCH (n : Nat) : Field := ⟨0x1009C + 0x1000 * n, 0, 16⟩
def CH_SALV_MISMATCH (n : Nat) : Field := ⟨0x1009C + 0x1000 * n, 16, 16⟩
def CH_CALSTAT_TRAINED (n : Nat) : Field := ⟨0x100C0 + 0x1000 * n, 0, 1⟩
def CH_CALSTAT_FAILSTEP (n : Nat) : Field := ⟨0x100C0 + 0x1000 * n, 1, 4⟩
def CH_CALSTAT_FAILRANK (n : Nat) : Field := ⟨0x100C0 + 0x1000 * n, 5, 1⟩
def CH_CALSTAT_RTCAUSE (n : Nat) : Field := ⟨0x100C0 + 0x1000 * n, 8, 3⟩
def CH_CALSTAT_RTPASS (n : Nat) : Field := ⟨0x100C0 + 0x1000 * n, 16, 1⟩
def CH_MARGIN_EYE (n : Nat) : Field := ⟨0x100C4 + 0x1000 * n, 0, 6⟩
def CH_MARGIN_WEYE (n : Nat) : Field := ⟨0x100C4 + 0x1000 * n, 8, 6⟩
def CH_MARGIN_WBIT (n : Nat) : Field := ⟨0x100C4 + 0x1000 * n, 16, 5⟩
def CH_MARGIN_WRANK (n : Nat) : Field := ⟨0x100C4 + 0x1000 * n, 21, 1⟩
def CH_MARGIN_VALID (n : Nat) : Field := ⟨0x100C4 + 0x1000 * n, 31, 1⟩
def CH_OSCCFG_K (n : Nat) : Field := ⟨0x100C8 + 0x1000 * n, 0, 10⟩
def CH_OSC_BASE (n r : Nat) : Field := ⟨0x100CC + 0x1000 * n + 0x4 * r, 0, 16⟩
def CH_OSC_COUNT (n r : Nat) : Field := ⟨0x100CC + 0x1000 * n + 0x4 * r, 16, 16⟩
def CH_WOFS_OFS0 (n : Nat) : Field := ⟨0x100D4 + 0x1000 * n, 0, 8⟩
def CH_WOFS_OFS1 (n : Nat) : Field := ⟨0x100D4 + 0x1000 * n, 8, 8⟩
def CH_VREF_RV0 (n : Nat) : Field := ⟨0x100D8 + 0x1000 * n, 0, 7⟩
def CH_VREF_RV1 (n : Nat) : Field := ⟨0x100D8 + 0x1000 * n, 8, 7⟩
def CH_VREF_DV0 (n : Nat) : Field := ⟨0x100D8 + 0x1000 * n, 16, 7⟩
def CH_VREF_DV1 (n : Nat) : Field := ⟨0x100D8 + 0x1000 * n, 24, 7⟩
def CH_CADLY_CA (n : Nat) : Field := ⟨0x100DC + 0x1000 * n, 0, 9⟩
def CH_CADLY_CS (n : Nat) : Field := ⟨0x100DC + 0x1000 * n, 16, 9⟩
def CH_WCK_L0 (n r : Nat) : Field := ⟨0x100E0 + 0x1000 * n + 0x4 * r, 0, 9⟩
def CH_WCK_L1 (n r : Nat) : Field := ⟨0x100E0 + 0x1000 * n + 0x4 * r, 16, 9⟩
def CH_RDQS_L0 (n r : Nat) : Field := ⟨0x100E8 + 0x1000 * n + 0x4 * r, 0, 9⟩
def CH_RDQS_L1 (n r : Nat) : Field := ⟨0x100E8 + 0x1000 * n + 0x4 * r, 16, 9⟩
def CH_DLYST_RD (n k : Nat) : Field := ⟨0x100F0 + 0x1000 * n + 0x4 * k, 0, 9⟩
def CH_DLYST_WR (n k : Nat) : Field := ⟨0x100F0 + 0x1000 * n + 0x4 * k, 16, 9⟩
def CH_TACT_RCD (n k : Nat) : Field := ⟨0x10100 + 0x1000 * n + 0x40 * k, 0, 10⟩
def CH_TACT_RAS (n k : Nat) : Field := ⟨0x10100 + 0x1000 * n + 0x40 * k, 10, 10⟩
def CH_TACT_RPPB (n k : Nat) : Field := ⟨0x10100 + 0x1000 * n + 0x40 * k, 20, 10⟩
def CH_TBNK_RC (n k : Nat) : Field := ⟨0x10104 + 0x1000 * n + 0x40 * k, 0, 10⟩
def CH_TBNK_RPAB (n k : Nat) : Field := ⟨0x10104 + 0x1000 * n + 0x40 * k, 10, 10⟩
def CH_TBNK_RRD (n k : Nat) : Field := ⟨0x10104 + 0x1000 * n + 0x40 * k, 20, 8⟩
def CH_TFAW_FAW (n k : Nat) : Field := ⟨0x10108 + 0x1000 * n + 0x40 * k, 0, 10⟩
def CH_TFAW_RTP (n k : Nat) : Field := ⟨0x10108 + 0x1000 * n + 0x40 * k, 10, 8⟩
def CH_TFAW_WR (n k : Nat) : Field := ⟨0x10108 + 0x1000 * n + 0x40 * k, 18, 10⟩
def CH_TCOL_CCD_S (n k : Nat) : Field := ⟨0x1010C + 0x1000 * n + 0x40 * k, 0, 8⟩
def CH_TCOL_CCD_L (n k : Nat) : Field := ⟨0x1010C + 0x1000 * n + 0x40 * k, 8, 8⟩
def CH_TCOL_PPD (n k : Nat) : Field := ⟨0x1010C + 0x1000 * n + 0x40 * k, 16, 8⟩
def CH_TTRN_WTR_S (n k : Nat) : Field := ⟨0x10110 + 0x1000 * n + 0x40 * k, 0, 8⟩
def CH_TTRN_WTR_L (n k : Nat) : Field := ⟨0x10110 + 0x1000 * n + 0x40 * k, 8, 8⟩
def CH_TTRN_RTW (n k : Nat) : Field := ⟨0x10110 + 0x1000 * n + 0x40 * k, 16, 8⟩
def CH_TLAT_RL (n k : Nat) : Field := ⟨0x10114 + 0x1000 * n + 0x40 * k, 0, 8⟩
def CH_TLAT_WL (n k : Nat) : Field := ⟨0x10114 + 0x1000 * n + 0x40 * k, 8, 8⟩
def CH_TRNK_RDRD_R (n k : Nat) : Field := ⟨0x10118 + 0x1000 * n + 0x40 * k, 0, 8⟩
def CH_TRNK_WRWR_R (n k : Nat) : Field := ⟨0x10118 + 0x1000 * n + 0x40 * k, 8, 8⟩
def CH_TRNK_RDWR_R (n k : Nat) : Field := ⟨0x10118 + 0x1000 * n + 0x40 * k, 16, 8⟩
def CH_TRNK_WRRD_R (n k : Nat) : Field := ⟨0x10118 + 0x1000 * n + 0x40 * k, 24, 8⟩
def CH_TREF_REFI (n k : Nat) : Field := ⟨0x1011C + 0x1000 * n + 0x40 * k, 0, 16⟩
def CH_TREF_RFCPB (n k : Nat) : Field := ⟨0x1011C + 0x1000 * n + 0x40 * k, 16, 10⟩
def CH_TRFC_RFCAB (n k : Nat) : Field := ⟨0x10120 + 0x1000 * n + 0x40 * k, 0, 12⟩
def CH_TRFC_PBR2PBR (n k : Nat) : Field := ⟨0x10120 + 0x1000 * n + 0x40 * k, 12, 10⟩
def CH_TRFC_PBR2ACT (n k : Nat) : Field := ⟨0x10120 + 0x1000 * n + 0x40 * k, 22, 10⟩
def CH_TRFM_RFMPB (n k : Nat) : Field := ⟨0x10124 + 0x1000 * n + 0x40 * k, 0, 12⟩
def CH_TPWR_XP (n k : Nat) : Field := ⟨0x10128 + 0x1000 * n + 0x40 * k, 0, 8⟩
def CH_TPWR_CSCKE (n k : Nat) : Field := ⟨0x10128 + 0x1000 * n + 0x40 * k, 8, 8⟩
def CH_TPWR_CKCSH (n k : Nat) : Field := ⟨0x10128 + 0x1000 * n + 0x40 * k, 16, 8⟩
def CH_TPWR_SR (n k : Nat) : Field := ⟨0x10128 + 0x1000 * n + 0x40 * k, 24, 8⟩
def CH_TXSR_XSR (n k : Nat) : Field := ⟨0x1012C + 0x1000 * n + 0x40 * k, 0, 12⟩
def CH_TXSR_FC (n k : Nat) : Field := ⟨0x1012C + 0x1000 * n + 0x40 * k, 12, 10⟩
def CH_TMR_MRW (n k : Nat) : Field := ⟨0x10130 + 0x1000 * n + 0x40 * k, 0, 8⟩
def CH_TMR_MRD (n k : Nat) : Field := ⟨0x10130 + 0x1000 * n + 0x40 * k, 8, 8⟩
def CH_TMR_MRR (n k : Nat) : Field := ⟨0x10130 + 0x1000 * n + 0x40 * k, 16, 8⟩
def CH_TZQ_ZQCAL (n k : Nat) : Field := ⟨0x10134 + 0x1000 * n + 0x40 * k, 0, 16⟩
def CH_TZQ_ZQLAT (n k : Nat) : Field := ⟨0x10134 + 0x1000 * n + 0x40 * k, 16, 10⟩
def CH_TWCK_WCKPRE (n k : Nat) : Field := ⟨0x10138 + 0x1000 * n + 0x40 * k, 0, 8⟩
def CH_TWCK_WCKSTOP (n k : Nat) : Field := ⟨0x10138 + 0x1000 * n + 0x40 * k, 8, 8⟩
def CH_WEARRD_READS (n : Nat) : Field := ⟨0x10200 + 0x1000 * n, 0, 30⟩
def CH_WEARCNT_TRANS (n : Nat) : Field := ⟨0x10204 + 0x1000 * n, 0, 16⟩
def CH_WEARCNT_PERS (n : Nat) : Field := ⟨0x10204 + 0x1000 * n, 16, 8⟩
def CH_WEARCNT_LOWEYE (n : Nat) : Field := ⟨0x10204 + 0x1000 * n, 24, 4⟩
def CH_WEARLAST_TRANS (n : Nat) : Field := ⟨0x10208 + 0x1000 * n, 0, 16⟩
def CH_WEARLAST_PERS (n : Nat) : Field := ⟨0x10208 + 0x1000 * n, 16, 8⟩
def CH_WEARSTAT_CAUSE (n : Nat) : Field := ⟨0x1020C + 0x1000 * n, 0, 4⟩
def CH_WEARSTAT_RESERVED_SP (n : Nat) : Field := ⟨0x1020C + 0x1000 * n, 4, 1⟩
def CH_EVPTR_Q (n : Nat) : Field := ⟨0x10210 + 0x1000 * n, 0, 26⟩
def CH_LOST_LOSTLO (n : Nat) : Field := ⟨0x10214 + 0x1000 * n, 0, 26⟩
def CH_LOST_VALID (n : Nat) : Field := ⟨0x10214 + 0x1000 * n, 31, 1⟩
def CH_RETLINE_LINE (n : Nat) : Field := ⟨0x10218 + 0x1000 * n, 0, 16⟩
def CH_RETFRAME_FRAME (n : Nat) : Field := ⟨0x1021C + 0x1000 * n, 0, 24⟩
def CH_RKPTR_Q (n : Nat) : Field := ⟨0x10240 + 0x1000 * n, 0, 26⟩
def CH_TSTCTL_GO (n : Nat) : Field := ⟨0x10244 + 0x1000 * n, 0, 1⟩
def CH_TSTCTL_ABORT (n : Nat) : Field := ⟨0x10244 + 0x1000 * n, 1, 1⟩
def CH_TSTCTL_MODE (n : Nat) : Field := ⟨0x10244 + 0x1000 * n, 2, 1⟩
def CH_TSTCTL_LOSSOK (n : Nat) : Field := ⟨0x10244 + 0x1000 * n, 3, 1⟩
def CH_TSTSTAT_STATE (n : Nat) : Field := ⟨0x10248 + 0x1000 * n, 0, 2⟩
def CH_TSTSTAT_DONE (n : Nat) : Field := ⟨0x10248 + 0x1000 * n, 2, 1⟩
def CH_TSTSTAT_PASS (n : Nat) : Field := ⟨0x10248 + 0x1000 * n, 3, 1⟩
def CH_TSTSTAT_REFUSED (n : Nat) : Field := ⟨0x10248 + 0x1000 * n, 4, 1⟩
def CH_TSTSTAT_FBIT (n : Nat) : Field := ⟨0x10248 + 0x1000 * n, 5, 5⟩
def CH_TSTSTAT_ERRS (n : Nat) : Field := ⟨0x10248 + 0x1000 * n, 16, 16⟩
def CH_PMCTL_EN (n : Nat) : Field := ⟨0x10300 + 0x1000 * n, 0, 4⟩
def CH_PMCTL_OVIE (n : Nat) : Field := ⟨0x10300 + 0x1000 * n, 4, 4⟩
def CH_PMCTL_CLR (n : Nat) : Field := ⟨0x10300 + 0x1000 * n, 8, 4⟩
def CH_PMSEL_EV0 (n : Nat) : Field := ⟨0x10304 + 0x1000 * n, 0, 8⟩
def CH_PMSEL_EV1 (n : Nat) : Field := ⟨0x10304 + 0x1000 * n, 8, 8⟩
def CH_PMSEL_EV2 (n : Nat) : Field := ⟨0x10304 + 0x1000 * n, 16, 8⟩
def CH_PMSEL_EV3 (n : Nat) : Field := ⟨0x10304 + 0x1000 * n, 24, 8⟩
def CH_PMOVF_OVF (n : Nat) : Field := ⟨0x10308 + 0x1000 * n, 0, 4⟩
def CH_PML_CNT_LO (n k : Nat) : Field := ⟨0x10310 + 0x1000 * n + 0x8 * k, 0, 32⟩
def CH_PMH_CNT_HI (n k : Nat) : Field := ⟨0x10314 + 0x1000 * n + 0x8 * k, 0, 16⟩
def CH_AGR_COUNT (n m : Nat) : Field := ⟨0x10800 + 0x1000 * n + 0x10 * m, 0, 32⟩
def CH_AWTL_WAIT_LO (n m : Nat) : Field := ⟨0x10804 + 0x1000 * n + 0x10 * m, 0, 32⟩
def CH_AWTH_WAIT_HI (n m : Nat) : Field := ⟨0x10808 + 0x1000 * n + 0x10 * m, 0, 16⟩
def CH_AMAX_MAX (n m : Nat) : Field := ⟨0x1080C + 0x1000 * n + 0x10 * m, 0, 32⟩
def CH_ARBSTAT_OWNER (n : Nat) : Field := ⟨0x10A00 + 0x1000 * n, 0, 5⟩
def CH_ARBSTAT_PARKED (n : Nat) : Field := ⟨0x10A00 + 0x1000 * n, 5, 1⟩
def CH_ARBSTAT_HELD (n : Nat) : Field := ⟨0x10A00 + 0x1000 * n, 6, 1⟩
def CH_ARBSTAT_BUSY (n : Nat) : Field := ⟨0x10A00 + 0x1000 * n, 7, 1⟩
def CH_ARBSTAT_P31_GAP (n : Nat) : Field := ⟨0x10A00 + 0x1000 * n, 8, 1⟩
def CH_BD_RD (n k r b : Nat) : Field := ⟨0x10B00 + 0x1000 * n + 0x100 * k + 0x80 * r + 0x4 * b, 0, 9⟩
def CH_BD_RDP (n k r b : Nat) : Field := ⟨0x10B00 + 0x1000 * n + 0x100 * k + 0x80 * r + 0x4 * b, 9, 1⟩
def CH_BD_WR (n k r b : Nat) : Field := ⟨0x10B00 + 0x1000 * n + 0x100 * k + 0x80 * r + 0x4 * b, 16, 9⟩
def CH_BD_WRP (n k r b : Nat) : Field := ⟨0x10B00 + 0x1000 * n + 0x100 * k + 0x80 * r + 0x4 * b, 25, 1⟩
def CH_BM_LEFT (n r b : Nat) : Field := ⟨0x10F00 + 0x1000 * n + 0x80 * r + 0x4 * b, 0, 6⟩
def CH_BM_RIGHT (n r b : Nat) : Field := ⟨0x10F00 + 0x1000 * n + 0x80 * r + 0x4 * b, 8, 6⟩
def CH_BM_WMARGIN (n r b : Nat) : Field := ⟨0x10F00 + 0x1000 * n + 0x80 * r + 0x4 * b, 16, 6⟩
def QD_MCCFG_PRETHR (n : Nat) : Field := ⟨0x20000 + 0x2000 * n, 0, 5⟩
def QD_MCCFG_PRE_SCRUB (n : Nat) : Field := ⟨0x20000 + 0x2000 * n, 5, 1⟩
def QD_MCCTL_BYPASS (n : Nat) : Field := ⟨0x20004 + 0x2000 * n, 0, 1⟩
def QD_MCCTL_BYP_ST (n : Nat) : Field := ⟨0x20004 + 0x2000 * n, 1, 2⟩
def QD_MCOPCTL_GO (n : Nat) : Field := ⟨0x20008 + 0x2000 * n, 0, 1⟩
def QD_MCOPCTL_OP (n : Nat) : Field := ⟨0x20008 + 0x2000 * n, 1, 3⟩
def QD_MCOPCTL_ALL (n : Nat) : Field := ⟨0x20008 + 0x2000 * n, 4, 1⟩
def QD_MCOPSL_ADDR_LO (n : Nat) : Field := ⟨0x2000C + 0x2000 * n, 8, 24⟩
def QD_MCOPSH_ADDR_HI (n : Nat) : Field := ⟨0x20010 + 0x2000 * n, 0, 8⟩
def QD_MCOPEL_ADDR_LO (n : Nat) : Field := ⟨0x20014 + 0x2000 * n, 8, 24⟩
def QD_MCOPEH_ADDR_HI (n : Nat) : Field := ⟨0x20018 + 0x2000 * n, 0, 8⟩
def QD_MCOPSTAT_BUSY (n : Nat) : Field := ⟨0x2001C + 0x2000 * n, 0, 1⟩
def QD_MCOPSTAT_RESULT (n : Nat) : Field := ⟨0x2001C + 0x2000 * n, 1, 2⟩
def QD_MCOPSTAT_REFUSED (n : Nat) : Field := ⟨0x2001C + 0x2000 * n, 16, 8⟩
def QD_MCLOCK_LOCKED (n : Nat) : Field := ⟨0x20020 + 0x2000 * n, 0, 11⟩
def QD_MCLOCK_EMPTY (n : Nat) : Field := ⟨0x20020 + 0x2000 * n, 16, 11⟩
def QD_MCEVT_MTRANS (n : Nat) : Field := ⟨0x20024 + 0x2000 * n, 0, 4⟩
def QD_MCEVT_RECOMP (n : Nat) : Field := ⟨0x20024 + 0x2000 * n, 4, 4⟩
def QD_MCEVT_PREBAD (n : Nat) : Field := ⟨0x20024 + 0x2000 * n, 8, 4⟩
def QD_MCEVT_LOCKEMPTY (n : Nat) : Field := ⟨0x20024 + 0x2000 * n, 12, 4⟩
def QD_MCEVT_PREDROP (n : Nat) : Field := ⟨0x20024 + 0x2000 * n, 16, 8⟩
def QD_MCEVT_SWAPDROP (n : Nat) : Field := ⟨0x20024 + 0x2000 * n, 24, 4⟩
def QD_MCEVT_LEBYP (n : Nat) : Field := ⟨0x20024 + 0x2000 * n, 28, 4⟩
def QD_MCMISS_COUNT (n : Nat) : Field := ⟨0x20028 + 0x2000 * n, 0, 32⟩
def QD_SCRCFG_HLINES (n : Nat) : Field := ⟨0x20100 + 0x2000 * n, 0, 4⟩
def QD_SCRCFG_VLINES (n : Nat) : Field := ⟨0x20100 + 0x2000 * n, 4, 8⟩
def QD_SCRCFG_IDLE (n : Nat) : Field := ⟨0x20100 + 0x2000 * n, 12, 1⟩
def QD_SCRCFG_IDLEWAIT (n : Nat) : Field := ⟨0x20100 + 0x2000 * n, 16, 8⟩
def QD_SCRCFG_FRAMEMAX (n : Nat) : Field := ⟨0x20100 + 0x2000 * n, 24, 8⟩
def QD_SCRCTL_START (n : Nat) : Field := ⟨0x20104 + 0x2000 * n, 0, 1⟩
def QD_SCRCTL_ABORT (n : Nat) : Field := ⟨0x20104 + 0x2000 * n, 1, 1⟩
def QD_SCRSL_ADDR_LO (n : Nat) : Field := ⟨0x20108 + 0x2000 * n, 8, 24⟩
def QD_SCRSH_ADDR_HI (n : Nat) : Field := ⟨0x2010C + 0x2000 * n, 0, 8⟩
def QD_SCREL_ADDR_LO (n : Nat) : Field := ⟨0x20110 + 0x2000 * n, 8, 24⟩
def QD_SCREH_ADDR_HI (n : Nat) : Field := ⟨0x20114 + 0x2000 * n, 0, 8⟩
def QD_SCRSTAT_STATE (n : Nat) : Field := ⟨0x20118 + 0x2000 * n, 0, 2⟩
def QD_SCRSTAT_ACAUSE (n : Nat) : Field := ⟨0x20118 + 0x2000 * n, 2, 2⟩
def QD_SCRSTAT_CHDONE (n : Nat) : Field := ⟨0x20118 + 0x2000 * n, 4, 4⟩
def QD_SCRPOS_Q (n c : Nat) : Field := ⟨0x20120 + 0x2000 * n + 0x4 * c, 0, 26⟩
def QD_PKSTAT_FINAL (n : Nat) : Field := ⟨0x20140 + 0x2000 * n, 0, 1⟩
def QD_PKSTAT_ABORTED (n : Nat) : Field := ⟨0x20140 + 0x2000 * n, 1, 1⟩
def QD_PKSTAT_INCOMPLETE (n : Nat) : Field := ⟨0x20140 + 0x2000 * n, 2, 1⟩
def QD_PKSTAT_FP_VALID (n : Nat) : Field := ⟨0x20140 + 0x2000 * n, 3, 1⟩
def QD_PKSTAT_FP_CH (n : Nat) : Field := ⟨0x20140 + 0x2000 * n, 4, 4⟩
def QD_PKCHECKED_COUNT (n : Nat) : Field := ⟨0x20144 + 0x2000 * n, 0, 32⟩
def QD_PKPOISON_POISONED (n : Nat) : Field := ⟨0x20148 + 0x2000 * n, 0, 16⟩
def QD_PKPOISON_TRANSIENT (n : Nat) : Field := ⟨0x20148 + 0x2000 * n, 16, 16⟩
def QD_PKUNVER_COUNT (n : Nat) : Field := ⟨0x2014C + 0x2000 * n, 0, 32⟩
def QD_PKSKIPST_COUNT (n : Nat) : Field := ⟨0x20150 + 0x2000 * n, 0, 32⟩
def QD_PKSKIPHD_COUNT (n : Nat) : Field := ⟨0x20154 + 0x2000 * n, 0, 32⟩
def QD_PKSKIPRT_COUNT (n : Nat) : Field := ⟨0x20158 + 0x2000 * n, 0, 32⟩
def QD_PKFPIDX_LINE (n : Nat) : Field := ⟨0x2015C + 0x2000 * n, 0, 32⟩
def QD_PKSLINE_LINE (n : Nat) : Field := ⟨0x20160 + 0x2000 * n, 0, 16⟩
def QD_PKSFRAME_FRAME (n : Nat) : Field := ⟨0x20164 + 0x2000 * n, 0, 24⟩
def QD_PKELINE_LINE (n : Nat) : Field := ⟨0x20168 + 0x2000 * n, 0, 16⟩
def QD_PKEFRAME_FRAME (n : Nat) : Field := ⟨0x2016C + 0x2000 * n, 0, 24⟩
def QD_CALCFG_WIN (n : Nat) : Field := ⟨0x20400 + 0x2000 * n, 0, 4⟩
def QD_CALCFG_THR (n : Nat) : Field := ⟨0x20400 + 0x2000 * n, 4, 4⟩
def QD_CALCFG_TRKOFS (n : Nat) : Field := ⟨0x20400 + 0x2000 * n, 8, 4⟩
def QD_CALCFG_ERRSH (n : Nat) : Field := ⟨0x20400 + 0x2000 * n, 12, 4⟩
def QD_CALCFG_MPER (n : Nat) : Field := ⟨0x20400 + 0x2000 * n, 16, 8⟩
def QD_CALCFG2_STALE (n : Nat) : Field := ⟨0x20404 + 0x2000 * n, 0, 8⟩
def QD_CALCFG2_FILLN (n : Nat) : Field := ⟨0x20404 + 0x2000 * n, 8, 6⟩
def QD_CALCFG2_OSCRUN (n : Nat) : Field := ⟨0x20404 + 0x2000 * n, 16, 2⟩
def QD_CALCFG2_SRCHK (n : Nat) : Field := ⟨0x20404 + 0x2000 * n, 24, 8⟩
def QD_CALPER_ZQINT (n : Nat) : Field := ⟨0x20408 + 0x2000 * n, 0, 8⟩
def QD_CALPER_OSCINT (n : Nat) : Field := ⟨0x20408 + 0x2000 * n, 8, 8⟩
def QD_CALPER_WRCINT (n : Nat) : Field := ⟨0x20408 + 0x2000 * n, 16, 8⟩
def QD_CALLIM_MINTRAIN (n : Nat) : Field := ⟨0x2040C + 0x2000 * n, 0, 6⟩
def QD_CALLIM_MINCHK (n : Nat) : Field := ⟨0x2040C + 0x2000 * n, 8, 6⟩
def QD_CALLIM_LVTOL (n : Nat) : Field := ⟨0x2040C + 0x2000 * n, 16, 6⟩
def QD_CALCTL_PAUSE (n : Nat) : Field := ⟨0x20410 + 0x2000 * n, 0, 1⟩
def QD_CALCTL_SWEEP (n : Nat) : Field := ⟨0x20410 + 0x2000 * n, 1, 1⟩
def QD_CALCTL_RETRAIN (n : Nat) : Field := ⟨0x20410 + 0x2000 * n, 4, 4⟩
def QD_CALSTAT_PAUSED (n : Nat) : Field := ⟨0x20414 + 0x2000 * n, 0, 1⟩
def QD_CALSTAT_SWEEPING (n : Nat) : Field := ⟨0x20414 + 0x2000 * n, 1, 1⟩
def QD_CALSTAT_TRAIN_STEP (n : Nat) : Field := ⟨0x20414 + 0x2000 * n, 4, 4⟩
def QD_CALSTAT_RTPEND (n : Nat) : Field := ⟨0x20414 + 0x2000 * n, 8, 4⟩
def QD_CALSTAT_BOOKED (n : Nat) : Field := ⟨0x20414 + 0x2000 * n, 12, 4⟩
def QD_CALCNT_STEPS (n : Nat) : Field := ⟨0x20418 + 0x2000 * n, 0, 16⟩
def QD_CALCNT_CHECKS (n : Nat) : Field := ⟨0x20418 + 0x2000 * n, 16, 8⟩
def QD_CALCNT_RETRAINS (n : Nat) : Field := ⟨0x20418 + 0x2000 * n, 24, 8⟩
def QD_CALTAPS_MOVES (n : Nat) : Field := ⟨0x2041C + 0x2000 * n, 0, 32⟩
def QD_CALLINE_LINE (n : Nat) : Field := ⟨0x20420 + 0x2000 * n, 0, 16⟩
def QD_CALFRAME_FRAME (n : Nat) : Field := ⟨0x20424 + 0x2000 * n, 0, 24⟩
def QD_CALEVT_FILLS (n : Nat) : Field := ⟨0x20428 + 0x2000 * n, 0, 8⟩
def QD_CALEVT_OSCDISC (n : Nat) : Field := ⟨0x20428 + 0x2000 * n, 8, 4⟩
def QD_CALEVT_CODEEND (n : Nat) : Field := ⟨0x20428 + 0x2000 * n, 12, 4⟩
def QD_CALEVT_LATE (n : Nat) : Field := ⟨0x20428 + 0x2000 * n, 16, 4⟩
def QD_CALEVT_LIMITS (n : Nat) : Field := ⟨0x20428 + 0x2000 * n, 20, 4⟩
def QD_CALEVT_SWEEPS (n : Nat) : Field := ⟨0x20428 + 0x2000 * n, 24, 8⟩
def QD_PHYCODE_PU (n : Nat) : Field := ⟨0x2042C + 0x2000 * n, 0, 6⟩
def QD_PHYCODE_PD (n : Nat) : Field := ⟨0x2042C + 0x2000 * n, 8, 6⟩
def QD_PHYCODE_ODT (n : Nat) : Field := ⟨0x2042C + 0x2000 * n, 16, 6⟩
def QD_PHY_DRV (n k : Nat) : Field := ⟨0x20440 + 0x2000 * n + 0x4 * k, 0, 3⟩
def QD_PHY_ODT (n k : Nat) : Field := ⟨0x20440 + 0x2000 * n + 0x4 * k, 4, 3⟩
def QD_PHY_RVREF (n k : Nat) : Field := ⟨0x20440 + 0x2000 * n + 0x4 * k, 8, 7⟩
def QD_DMR_PDDS (n k : Nat) : Field := ⟨0x20450 + 0x2000 * n + 0x4 * k, 0, 3⟩
def QD_DMR_DQODT (n k : Nat) : Field := ⟨0x20450 + 0x2000 * n + 0x4 * k, 4, 3⟩
def QD_DMR_CAODT (n k : Nat) : Field := ⟨0x20450 + 0x2000 * n + 0x4 * k, 8, 3⟩
def QD_DMR_VREFDQ (n k : Nat) : Field := ⟨0x20450 + 0x2000 * n + 0x4 * k, 16, 7⟩
def QD_DMR_VREFCA (n k : Nat) : Field := ⟨0x20450 + 0x2000 * n + 0x4 * k, 24, 7⟩
def QD_PLLSTAT_A_STATE (n : Nat) : Field := ⟨0x21800 + 0x2000 * n, 0, 3⟩
def QD_PLLSTAT_B_STATE (n : Nat) : Field := ⟨0x21800 + 0x2000 * n, 4, 3⟩
def QD_PLLSTAT_SRC (n : Nat) : Field := ⟨0x21800 + 0x2000 * n, 8, 2⟩
def QD_PLLSTAT_WAIT (n : Nat) : Field := ⟨0x21800 + 0x2000 * n, 12, 1⟩
def QD_PLLSTAT_NO_STANDBY (n : Nat) : Field := ⟨0x21800 + 0x2000 * n, 13, 1⟩
def QD_PLLCTRL_RESTART_A (n : Nat) : Field := ⟨0x21804 + 0x2000 * n, 0, 1⟩
def QD_PLLCTRL_RESTART_B (n : Nat) : Field := ⟨0x21804 + 0x2000 * n, 1, 1⟩
def QD_PLLEVT_TRIPS_A (n : Nat) : Field := ⟨0x21808 + 0x2000 * n, 0, 8⟩
def QD_PLLEVT_TRIPS_B (n : Nat) : Field := ⟨0x21808 + 0x2000 * n, 8, 8⟩
def QD_PLLEVT_TO_PARTNER (n : Nat) : Field := ⟨0x21808 + 0x2000 * n, 16, 8⟩
def QD_PLLEVT_TO_BYPASS (n : Nat) : Field := ⟨0x21808 + 0x2000 * n, 24, 4⟩
def QD_PLLEVT_FORCED_SW (n : Nat) : Field := ⟨0x21808 + 0x2000 * n, 28, 4⟩
def QD_MONCNT_COUNT_A (n : Nat) : Field := ⟨0x2180C + 0x2000 * n, 0, 16⟩
def QD_MONCNT_COUNT_B (n : Nat) : Field := ⟨0x2180C + 0x2000 * n, 16, 16⟩
def rowsGl0 : List RegRow := [
  ⟨0x0, [], 32, ⟨0, 0, 0, 0, 0⟩⟩,
  ⟨0x4, [], 32, ⟨0, 0, 0, 0, 0⟩⟩,
  ⟨0x8, [], 32, ⟨0, 0, 0, 0, 0⟩⟩,
  ⟨0xC, [], 32, ⟨0, 0, 0, 0x800, 0⟩⟩,
  ⟨0x10, [], 32, ⟨0, 0, 0x2, 0, 0x1⟩⟩,
  ⟨0x14, [], 32, ⟨0, 0, 0, 0xFFFFFF, 0⟩⟩,
  ⟨0x200, [], 32, ⟨0, 0, 0, 0, 0⟩⟩,
  ⟨0x204, [], 32, ⟨0, 0, 0, 0, 0x1⟩⟩,
  ⟨0x208, [], 32, ⟨0, 0, 0, 0, 0⟩⟩,
  ⟨0x20C, [], 32, ⟨0, 0, 0, 0, 0⟩⟩,
  ⟨0x210, [], 32, ⟨0, 0, 0, 0, 0⟩⟩,
  ⟨0x300, [], 32, ⟨0x1F, 0, 0, 0, 0⟩⟩,
  ⟨0x304, [], 32, ⟨0x3FFFFFF, 0, 0, 0, 0⟩⟩,
  ⟨0x308, [], 32, ⟨0xFFFFFFFF, 0, 0, 0, 0⟩⟩,
  ⟨0x30C, [], 32, ⟨0xFFFFFFFF, 0, 0, 0, 0⟩⟩,
  ⟨0x400, [], 32, ⟨0x1, 0, 0, 0, 0⟩⟩]

/-- The registers of the GL window. -/
def rowsGl : List RegRow := rowsGl0

def rowsTb0 : List RegRow := [
  ⟨0x1000, [], 32, ⟨0xFF0F, 0, 0, 0, 0⟩⟩,
  ⟨0x1004, [], 32, ⟨0x3FF, 0, 0, 0, 0⟩⟩,
  ⟨0x1008, [], 32, ⟨0xFFFFFF, 0, 0, 0, 0⟩⟩,
  ⟨0x100C, [], 32, ⟨0xFFFFFFFF, 0, 0, 0, 0⟩⟩,
  ⟨0x1010, [], 32, ⟨0, 0, 0, 0, 0⟩⟩,
  ⟨0x1014, [], 32, ⟨0, 0, 0, 0, 0⟩⟩,
  ⟨0x1018, [], 32, ⟨0, 0, 0, 0, 0⟩⟩,
  ⟨0x101C, [], 32, ⟨0, 0, 0, 0, 0⟩⟩,
  ⟨0x1020, [], 32, ⟨0, 0, 0, 0, 0⟩⟩,
  ⟨0x1024, [], 32, ⟨0, 0, 0, 0, 0⟩⟩,
  ⟨0x1028, [], 32, ⟨0, 0, 0, 0, 0⟩⟩,
  ⟨0x102C, [], 32, ⟨0, 0, 0, 0, 0⟩⟩,
  ⟨0x1030, [], 32, ⟨0, 0, 0, 0, 0⟩⟩,
  ⟨0x1034, [], 32, ⟨0, 0, 0, 0xFFFFFFFF, 0⟩⟩,
  ⟨0x1038, [], 32, ⟨0, 0, 0, 0xFFFFFFFF, 0⟩⟩,
  ⟨0x103C, [], 32, ⟨0, 0, 0, 0xFFFFFF, 0⟩⟩,
  ⟨0x1400, [], 32, ⟨0, 0, 0, 0xFF00, 0x1⟩⟩,
  ⟨0x1404, [], 32, ⟨0, 0xFF, 0, 0, 0⟩⟩,
  ⟨0x1408, [], 32, ⟨0, 0, 0, 0xFF00, 0x1⟩⟩,
  ⟨0x140C, [], 32, ⟨0, 0, 0, 0, 0⟩⟩,
  ⟨0x1500, [(8, 0x20), (8, 0x4)], 32, ⟨0, 0x87FF03FF, 0, 0, 0⟩⟩,
  ⟨0x1600, [(8, 0x20), (8, 0x4)], 32, ⟨0, 0, 0, 0, 0⟩⟩,
  ⟨0x1800, [], 32, ⟨0x1F3, 0, 0, 0, 0⟩⟩,
  ⟨0x1804, [], 32, ⟨0, 0x31, 0, 0, 0⟩⟩,
  ⟨0x1808, [], 32, ⟨0, 0, 0, 0, 0⟩⟩,
  ⟨0x180C, [], 32, ⟨0, 0, 0, 0, 0⟩⟩,
  ⟨0x1810, [], 32, ⟨0x3F, 0, 0, 0, 0⟩⟩,
  ⟨0x1814, [], 32, ⟨0, 0, 0, 0xFFFFFFFF, 0⟩⟩,
  ⟨0x1818, [], 32, ⟨0, 0, 0, 0, 0⟩⟩,
  ⟨0x181C, [], 32, ⟨0, 0, 0, 0, 0⟩⟩]

def rowsTb1 : List RegRow := [
  ⟨0x1820, [(4, 0x4)], 32, ⟨0x8003FFFF, 0, 0, 0, 0⟩⟩,
  ⟨0x1830, [], 32, ⟨0, 0, 0, 0, 0x3⟩⟩,
  ⟨0x1C00, [], 32, ⟨0xFFFF1F, 0, 0, 0, 0⟩⟩,
  ⟨0x1C04, [], 32, ⟨0x3FFFF, 0, 0, 0, 0⟩⟩,
  ⟨0x1C08, [], 32, ⟨0x3FFF3FFF, 0, 0, 0, 0⟩⟩,
  ⟨0x1C0C, [], 32, ⟨0, 0, 0, 0, 0⟩⟩,
  ⟨0x1C10, [], 32, ⟨0, 0, 0, 0, 0x1⟩⟩,
  ⟨0x1C14, [], 32, ⟨0, 0x3FF003F, 0, 0, 0⟩⟩,
  ⟨0x1C18, [], 32, ⟨0, 0, 0, 0xFFFFFFFF, 0⟩⟩,
  ⟨0x1C1C, [], 32, ⟨0, 0, 0, 0, 0⟩⟩,
  ⟨0x1C20, [], 32, ⟨0, 0, 0, 0, 0⟩⟩,
  ⟨0x1C24, [], 32, ⟨0, 0, 0, 0, 0⟩⟩,
  ⟨0x1C28, [], 32, ⟨0, 0, 0, 0, 0⟩⟩]

/-- The registers of the TB window. -/
def rowsTb : List RegRow := rowsTb0 ++ rowsTb1

def rowsFt0 : List RegRow := [
  ⟨0x2000, [], 32, ⟨0, 0, 0, 0x3FFFFFF, 0⟩⟩,
  ⟨0x2004, [], 32, ⟨0, 0, 0, 0x3FFFFFF, 0⟩⟩,
  ⟨0x2008, [], 32, ⟨0, 0, 0, 0x3FFFFFF, 0⟩⟩,
  ⟨0x200C, [], 32, ⟨0, 0, 0, 0x3FF, 0⟩⟩,
  ⟨0x2010, [], 32, ⟨0, 0x3FFFFFF, 0, 0, 0⟩⟩,
  ⟨0x2014, [], 32, ⟨0, 0x3FFFFFF, 0, 0, 0⟩⟩,
  ⟨0x2018, [], 32, ⟨0, 0x3FFFFFF, 0, 0, 0⟩⟩,
  ⟨0x201C, [], 32, ⟨0, 0x3FF, 0, 0, 0⟩⟩,
  ⟨0x2020, [], 32, ⟨0, 0, 0, 0, 0⟩⟩,
  ⟨0x2024, [], 32, ⟨0, 0, 0, 0, 0x7⟩⟩,
  ⟨0x2028, [], 32, ⟨0, 0, 0, 0xFFFFFFF, 0⟩⟩,
  ⟨0x202C, [], 32, ⟨0, 0, 0, 0, 0⟩⟩,
  ⟨0x2030, [], 32, ⟨0, 0, 0, 0, 0⟩⟩,
  ⟨0x2034, [], 32, ⟨0, 0, 0, 0, 0⟩⟩,
  ⟨0x2040, [], 32, ⟨0xFFFFFFF, 0, 0, 0, 0⟩⟩,
  ⟨0x2044, [], 32, ⟨0x3F3F, 0, 0, 0, 0⟩⟩,
  ⟨0x2048, [], 32, ⟨0xFF1FFF, 0, 0, 0, 0⟩⟩,
  ⟨0x204C, [], 32, ⟨0, 0, 0xF0, 0, 0x1⟩⟩,
  ⟨0x2050, [], 32, ⟨0, 0, 0, 0xFFFF4000, 0⟩⟩,
  ⟨0x2100, [], 32, ⟨0, 0, 0, 0xFF0000, 0⟩⟩,
  ⟨0x2104, [], 32, ⟨0, 0, 0, 0, 0xFFFF⟩⟩,
  ⟨0x2400, [(16, 0x10)], 32, ⟨0, 0, 0, 0, 0⟩⟩,
  ⟨0x2404, [(16, 0x10)], 32, ⟨0, 0, 0, 0, 0⟩⟩,
  ⟨0x2408, [(16, 0x10)], 32, ⟨0, 0, 0, 0, 0⟩⟩,
  ⟨0x240C, [(16, 0x10)], 32, ⟨0, 0, 0, 0, 0⟩⟩,
  ⟨0x2800, [], 32, ⟨0, 0, 0, 0xFF0000, 0⟩⟩,
  ⟨0x2804, [], 32, ⟨0, 0, 0, 0, 0xFFFF⟩⟩,
  ⟨0x2840, [(16, 0x20)], 32, ⟨0, 0, 0, 0, 0⟩⟩,
  ⟨0x2844, [(16, 0x20)], 32, ⟨0, 0, 0, 0, 0⟩⟩,
  ⟨0x2848, [(16, 0x20)], 32, ⟨0, 0, 0, 0, 0⟩⟩]

def rowsFt1 : List RegRow := [
  ⟨0x284C, [(16, 0x20)], 32, ⟨0, 0, 0, 0, 0⟩⟩,
  ⟨0x2850, [(16, 0x20)], 32, ⟨0, 0, 0, 0, 0⟩⟩,
  ⟨0x2854, [(16, 0x20)], 32, ⟨0, 0, 0, 0, 0⟩⟩]

/-- The registers of the FT window. -/
def rowsFt : List RegRow := rowsFt0 ++ rowsFt1

def rowsPm0 : List RegRow := [
  ⟨0x3000, [], 32, ⟨0, 0xF, 0, 0, 0x30⟩⟩,
  ⟨0x3004, [], 32, ⟨0, 0xFFFFFFFF, 0, 0, 0⟩⟩,
  ⟨0x3008, [], 32, ⟨0, 0, 0, 0xFFFF, 0⟩⟩,
  ⟨0x3040, [(16, 0x4)], 32, ⟨0, 0x3FFF, 0, 0, 0⟩⟩,
  ⟨0x3100, [(16, 0x8)], 32, ⟨0, 0, 0xFFFFFFFF, 0, 0⟩⟩,
  ⟨0x3104, [(16, 0x8)], 32, ⟨0, 0, 0xFFFF, 0, 0⟩⟩,
  ⟨0x3200, [(16, 0x8)], 32, ⟨0, 0, 0, 0, 0⟩⟩,
  ⟨0x3204, [(16, 0x8)], 32, ⟨0, 0, 0, 0, 0⟩⟩]

/-- The registers of the PM window. -/
def rowsPm : List RegRow := rowsPm0

def rowsKy0 : List RegRow := [
  ⟨0x5000, [(16, 0x4)], 32, ⟨0, 0xFFFFFFFF, 0, 0, 0⟩⟩,
  ⟨0x5040, [], 32, ⟨0, 0x10, 0, 0, 0x3⟩⟩,
  ⟨0x5044, [], 32, ⟨0, 0, 0, 0, 0⟩⟩,
  ⟨0x5048, [], 32, ⟨0, 0, 0, 0, 0⟩⟩,
  ⟨0x5050, [], 32, ⟨0, 0, 0, 0, 0x3⟩⟩,
  ⟨0x5054, [], 32, ⟨0, 0xFF1FFF, 0, 0, 0⟩⟩,
  ⟨0x5058, [], 32, ⟨0, 0, 0, 0xFF00, 0⟩⟩]

/-- The registers of the KY window. -/
def rowsKy : List RegRow := rowsKy0

def rowsSp0 : List RegRow := [
  ⟨0x0, [], 32, ⟨0, 0xFF7F7F, 0, 0, 0⟩⟩,
  ⟨0x4, [], 32, ⟨0, 0, 0, 0, 0x1F⟩⟩,
  ⟨0x8, [], 32, ⟨0, 0, 0, 0x800, 0⟩⟩,
  ⟨0xC, [], 32, ⟨0, 0xFFFFFFE0, 0, 0, 0⟩⟩,
  ⟨0x10, [], 32, ⟨0, 0xFFFF, 0, 0, 0⟩⟩,
  ⟨0x14, [], 32, ⟨0, 0, 0, 0, 0⟩⟩,
  ⟨0x18, [], 32, ⟨0, 0, 0, 0, 0⟩⟩,
  ⟨0x1C, [], 32, ⟨0, 0, 0, 0, 0⟩⟩,
  ⟨0x20, [], 32, ⟨0, 0, 0, 0xFFFFFFFF, 0⟩⟩,
  ⟨0x24, [], 32, ⟨0, 0, 0, 0xFFFFFF00, 0⟩⟩,
  ⟨0x28, [], 32, ⟨0, 0, 0, 0x7FFF, 0⟩⟩,
  ⟨0x2C, [], 32, ⟨0, 0, 0, 0xFFFFFFFF, 0⟩⟩,
  ⟨0x30, [], 32, ⟨0, 0, 0, 0xFFFF, 0⟩⟩]

/-- The registers of the SP window. -/
def rowsSp : List RegRow := rowsSp0

def rowsPt0 : List RegRow := [
  ⟨0x0, [], 32, ⟨0x7, 0, 0, 0, 0⟩⟩,
  ⟨0x4, [], 32, ⟨0, 0, 0, 0x10, 0⟩⟩,
  ⟨0x8, [], 32, ⟨0, 0, 0, 0, 0x7⟩⟩,
  ⟨0xC, [], 32, ⟨0, 0, 0, 0xFFFF, 0⟩⟩,
  ⟨0x10, [], 32, ⟨0, 0, 0, 0xFFFFFF00, 0⟩⟩,
  ⟨0x14, [], 32, ⟨0, 0, 0, 0xFF, 0⟩⟩,
  ⟨0x18, [], 32, ⟨0, 0, 0, 0xFFFFFFFF, 0⟩⟩,
  ⟨0x20, [], 4, ⟨0x7FF07FF, 0, 0, 0, 0⟩⟩,
  ⟨0x24, [], 4, ⟨0x7FF, 0, 0, 0, 0⟩⟩,
  ⟨0x28, [], 4, ⟨0, 0, 0, 0x7FF0000, 0⟩⟩,
  ⟨0x2C, [], 4, ⟨0, 0, 0, 0xFFFFFFFF, 0⟩⟩,
  ⟨0x40, [], 30, ⟨0xFF13, 0, 0, 0, 0⟩⟩,
  ⟨0x44, [], 30, ⟨0, 0x33, 0, 0, 0⟩⟩,
  ⟨0x48, [], 30, ⟨0, 0xFFFFFFFF, 0, 0, 0⟩⟩,
  ⟨0x4C, [], 30, ⟨0, 0xFFFFFFFF, 0, 0, 0⟩⟩,
  ⟨0x50, [], 30, ⟨0, 0, 0, 0, 0⟩⟩,
  ⟨0x54, [], 30, ⟨0, 0, 0, 0, 0⟩⟩,
  ⟨0x58, [], 30, ⟨0, 0, 0, 0xFFFFFFFF, 0⟩⟩,
  ⟨0x60, [], 30, ⟨0, 0xF71, 0, 0, 0⟩⟩,
  ⟨0x64, [], 30, ⟨0, 0, 0, 0, 0⟩⟩,
  ⟨0x68, [], 30, ⟨0, 0, 0, 0xFFFFFF, 0⟩⟩,
  ⟨0x70, [(4, 0x4)], 30, ⟨0, 0x1F3FF3FF, 0, 0, 0⟩⟩,
  ⟨0x80, [(4, 0x4)], 30, ⟨0, 0, 0, 0, 0⟩⟩,
  ⟨0x100, [], 32, ⟨0, 0xFF, 0, 0, 0xF00⟩⟩,
  ⟨0x104, [], 32, ⟨0, 0xFFFFFFFF, 0, 0, 0⟩⟩,
  ⟨0x108, [], 32, ⟨0, 0, 0, 0xF, 0⟩⟩,
  ⟨0x110, [(4, 0x8)], 32, ⟨0, 0, 0xFFFFFFFF, 0, 0⟩⟩,
  ⟨0x114, [(4, 0x8)], 32, ⟨0, 0, 0xFFFF, 0, 0⟩⟩]

/-- The registers of the PT window. -/
def rowsPt : List RegRow := rowsPt0

def rowsCh0 : List RegRow := [
  ⟨0x0, [], 32, ⟨0, 0, 0, 0, 0⟩⟩,
  ⟨0x4, [], 32, ⟨0x307, 0, 0, 0, 0⟩⟩,
  ⟨0x8, [], 32, ⟨0xFFFFFFF1, 0, 0, 0, 0⟩⟩,
  ⟨0xC, [], 32, ⟨0x1F3F3F, 0, 0, 0, 0⟩⟩,
  ⟨0x10, [], 32, ⟨0x3F7F7F7F, 0, 0, 0, 0⟩⟩,
  ⟨0x14, [], 32, ⟨0, 0, 0, 0, 0⟩⟩,
  ⟨0x18, [], 32, ⟨0xFFFF, 0, 0, 0, 0⟩⟩,
  ⟨0x1C, [], 32, ⟨0, 0, 0, 0xFF3F, 0⟩⟩,
  ⟨0x20, [], 32, ⟨0, 0, 0, 0xFFFF, 0⟩⟩,
  ⟨0x24, [], 32, ⟨0, 0, 0, 0xFFFFFF, 0⟩⟩,
  ⟨0x28, [], 32, ⟨0, 0, 0, 0, 0⟩⟩,
  ⟨0x40, [], 32, ⟨0xFFFFFFFF, 0, 0, 0, 0⟩⟩,
  ⟨0x44, [], 32, ⟨0x1FF1FF07, 0, 0, 0, 0⟩⟩,
  ⟨0x48, [], 32, ⟨0xFF0FFFFF, 0, 0, 0, 0⟩⟩,
  ⟨0x4C, [], 32, ⟨0xFFFFFFFF, 0, 0, 0, 0⟩⟩,
  ⟨0x50, [], 32, ⟨0, 0, 0, 0, 0⟩⟩,
  ⟨0x54, [], 32, ⟨0, 0, 0, 0xFFFF0000, 0⟩⟩,
  ⟨0x58, [], 32, ⟨0, 0, 0, 0, 0⟩⟩,
  ⟨0x5C, [], 32, ⟨0, 0, 0, 0xFFFFFFFF, 0⟩⟩,
  ⟨0x60, [], 32, ⟨0, 0, 0, 0xFFFF01FF, 0⟩⟩,
  ⟨0x80, [], 32, ⟨0xFFF, 0, 0, 0, 0⟩⟩,
  ⟨0x84, [], 32, ⟨0, 0, 0, 0, 0⟩⟩,
  ⟨0x88, [], 32, ⟨0, 0, 0, 0xFFFFFFFF, 0⟩⟩,
  ⟨0x8C, [], 32, ⟨0, 0, 0, 0xFFFFFFFF, 0⟩⟩,
  ⟨0x90, [], 32, ⟨0, 0, 0, 0xFFFFFFFF, 0⟩⟩,
  ⟨0x94, [], 32, ⟨0, 0, 0, 0xFFFFFFFF, 0⟩⟩,
  ⟨0x98, [], 32, ⟨0, 0, 0, 0xFFFF, 0⟩⟩,
  ⟨0x9C, [], 32, ⟨0, 0, 0, 0xFFFFFFFF, 0⟩⟩,
  ⟨0xC0, [], 32, ⟨0, 0, 0, 0, 0⟩⟩,
  ⟨0xC4, [], 32, ⟨0, 0, 0, 0, 0⟩⟩]

def rowsCh1 : List RegRow := [
  ⟨0xC8, [], 32, ⟨0x3FF, 0, 0, 0, 0⟩⟩,
  ⟨0xCC, [(2, 0x4)], 32, ⟨0, 0, 0, 0, 0⟩⟩,
  ⟨0xD4, [], 32, ⟨0, 0, 0, 0, 0⟩⟩,
  ⟨0xD8, [], 32, ⟨0, 0, 0, 0, 0⟩⟩,
  ⟨0xDC, [], 32, ⟨0, 0, 0, 0, 0⟩⟩,
  ⟨0xE0, [(2, 0x4)], 32, ⟨0, 0, 0, 0, 0⟩⟩,
  ⟨0xE8, [(2, 0x4)], 32, ⟨0, 0, 0, 0, 0⟩⟩,
  ⟨0xF0, [(4, 0x4)], 32, ⟨0x1FF01FF, 0, 0, 0, 0⟩⟩,
  ⟨0x100, [(4, 0x40)], 32, ⟨0x3FFFFFFF, 0, 0, 0, 0⟩⟩,
  ⟨0x104, [(4, 0x40)], 32, ⟨0xFFFFFFF, 0, 0, 0, 0⟩⟩,
  ⟨0x108, [(4, 0x40)], 32, ⟨0xFFFFFFF, 0, 0, 0, 0⟩⟩,
  ⟨0x10C, [(4, 0x40)], 32, ⟨0xFFFFFF, 0, 0, 0, 0⟩⟩,
  ⟨0x110, [(4, 0x40)], 32, ⟨0xFFFFFF, 0, 0, 0, 0⟩⟩,
  ⟨0x114, [(4, 0x40)], 32, ⟨0xFFFF, 0, 0, 0, 0⟩⟩,
  ⟨0x118, [(4, 0x40)], 32, ⟨0xFFFFFFFF, 0, 0, 0, 0⟩⟩,
  ⟨0x11C, [(4, 0x40)], 32, ⟨0x3FFFFFF, 0, 0, 0, 0⟩⟩,
  ⟨0x120, [(4, 0x40)], 32, ⟨0xFFFFFFFF, 0, 0, 0, 0⟩⟩,
  ⟨0x124, [(4, 0x40)], 32, ⟨0xFFF, 0, 0, 0, 0⟩⟩,
  ⟨0x128, [(4, 0x40)], 32, ⟨0xFFFFFFFF, 0, 0, 0, 0⟩⟩,
  ⟨0x12C, [(4, 0x40)], 32, ⟨0x3FFFFF, 0, 0, 0, 0⟩⟩,
  ⟨0x130, [(4, 0x40)], 32, ⟨0xFFFFFF, 0, 0, 0, 0⟩⟩,
  ⟨0x134, [(4, 0x40)], 32, ⟨0x3FFFFFF, 0, 0, 0, 0⟩⟩,
  ⟨0x138, [(4, 0x40)], 32, ⟨0xFFFF, 0, 0, 0, 0⟩⟩,
  ⟨0x200, [], 32, ⟨0, 0, 0, 0, 0⟩⟩,
  ⟨0x204, [], 32, ⟨0, 0, 0, 0, 0⟩⟩,
  ⟨0x208, [], 32, ⟨0, 0, 0, 0, 0⟩⟩,
  ⟨0x20C, [], 32, ⟨0, 0, 0, 0, 0⟩⟩,
  ⟨0x210, [], 32, ⟨0, 0, 0, 0, 0⟩⟩,
  ⟨0x214, [], 32, ⟨0, 0, 0, 0, 0⟩⟩,
  ⟨0x218, [], 32, ⟨0, 0, 0, 0, 0⟩⟩]

def rowsCh2 : List RegRow := [
  ⟨0x21C, [], 32, ⟨0, 0, 0, 0, 0⟩⟩,
  ⟨0x240, [], 32, ⟨0, 0, 0, 0, 0⟩⟩,
  ⟨0x244, [], 32, ⟨0, 0, 0xC, 0, 0x3⟩⟩,
  ⟨0x248, [], 32, ⟨0, 0, 0, 0x14, 0⟩⟩,
  ⟨0x300, [], 32, ⟨0, 0xFF, 0, 0, 0xF00⟩⟩,
  ⟨0x304, [], 32, ⟨0, 0xFFFFFFFF, 0, 0, 0⟩⟩,
  ⟨0x308, [], 32, ⟨0, 0, 0, 0xF, 0⟩⟩,
  ⟨0x310, [(4, 0x8)], 32, ⟨0, 0, 0xFFFFFFFF, 0, 0⟩⟩,
  ⟨0x314, [(4, 0x8)], 32, ⟨0, 0, 0xFFFF, 0, 0⟩⟩,
  ⟨0x800, [(32, 0x10)], 32, ⟨0, 0, 0, 0xFFFFFFFF, 0⟩⟩,
  ⟨0x804, [(32, 0x10)], 32, ⟨0, 0, 0, 0xFFFFFFFF, 0⟩⟩,
  ⟨0x808, [(32, 0x10)], 32, ⟨0, 0, 0, 0xFFFF, 0⟩⟩,
  ⟨0x80C, [(32, 0x10)], 32, ⟨0, 0, 0, 0xFFFFFFFF, 0⟩⟩,
  ⟨0xA00, [], 32, ⟨0, 0, 0, 0, 0⟩⟩,
  ⟨0xB00, [(4, 0x100), (2, 0x80), (18, 0x4)], 32, ⟨0, 0, 0, 0, 0⟩⟩,
  ⟨0xF00, [(2, 0x80), (18, 0x4)], 32, ⟨0, 0, 0, 0, 0⟩⟩]

/-- The registers of the CH window. -/
def rowsCh : List RegRow := rowsCh0 ++ rowsCh1 ++ rowsCh2

def rowsQd0 : List RegRow := [
  ⟨0x0, [], 32, ⟨0x3F, 0, 0, 0, 0⟩⟩,
  ⟨0x4, [], 32, ⟨0, 0, 0x1, 0, 0⟩⟩,
  ⟨0x8, [], 32, ⟨0, 0, 0x1E, 0, 0x1⟩⟩,
  ⟨0xC, [], 32, ⟨0, 0, 0xFFFFFF00, 0, 0⟩⟩,
  ⟨0x10, [], 32, ⟨0, 0, 0xFF, 0, 0⟩⟩,
  ⟨0x14, [], 32, ⟨0, 0, 0xFFFFFF00, 0, 0⟩⟩,
  ⟨0x18, [], 32, ⟨0, 0, 0xFF, 0, 0⟩⟩,
  ⟨0x1C, [], 32, ⟨0, 0, 0, 0xFF0000, 0⟩⟩,
  ⟨0x20, [], 32, ⟨0, 0, 0, 0, 0⟩⟩,
  ⟨0x24, [], 32, ⟨0, 0, 0, 0xFFFFFFFF, 0⟩⟩,
  ⟨0x28, [], 32, ⟨0, 0, 0, 0xFFFFFFFF, 0⟩⟩,
  ⟨0x100, [], 32, ⟨0, 0xFFFF1FFF, 0, 0, 0⟩⟩,
  ⟨0x104, [], 32, ⟨0, 0, 0, 0, 0x3⟩⟩,
  ⟨0x108, [], 32, ⟨0, 0xFFFFFF00, 0, 0, 0⟩⟩,
  ⟨0x10C, [], 32, ⟨0, 0xFF, 0, 0, 0⟩⟩,
  ⟨0x110, [], 32, ⟨0, 0xFFFFFF00, 0, 0, 0⟩⟩,
  ⟨0x114, [], 32, ⟨0, 0xFF, 0, 0, 0⟩⟩,
  ⟨0x118, [], 32, ⟨0, 0, 0, 0, 0⟩⟩,
  ⟨0x120, [(4, 0x4)], 32, ⟨0, 0, 0, 0, 0⟩⟩,
  ⟨0x140, [], 32, ⟨0, 0, 0, 0, 0⟩⟩,
  ⟨0x144, [], 32, ⟨0, 0, 0, 0, 0⟩⟩,
  ⟨0x148, [], 32, ⟨0, 0, 0, 0, 0⟩⟩,
  ⟨0x14C, [], 32, ⟨0, 0, 0, 0, 0⟩⟩,
  ⟨0x150, [], 32, ⟨0, 0, 0, 0, 0⟩⟩,
  ⟨0x154, [], 32, ⟨0, 0, 0, 0, 0⟩⟩,
  ⟨0x158, [], 32, ⟨0, 0, 0, 0, 0⟩⟩,
  ⟨0x15C, [], 32, ⟨0, 0, 0, 0, 0⟩⟩,
  ⟨0x160, [], 32, ⟨0, 0, 0, 0, 0⟩⟩,
  ⟨0x164, [], 32, ⟨0, 0, 0, 0, 0⟩⟩,
  ⟨0x168, [], 32, ⟨0, 0, 0, 0, 0⟩⟩]

def rowsQd1 : List RegRow := [
  ⟨0x16C, [], 32, ⟨0, 0, 0, 0, 0⟩⟩,
  ⟨0x400, [], 32, ⟨0xFFFFFF, 0, 0, 0, 0⟩⟩,
  ⟨0x404, [], 32, ⟨0xFF033FFF, 0, 0, 0, 0⟩⟩,
  ⟨0x408, [], 32, ⟨0xFFFFFF, 0, 0, 0, 0⟩⟩,
  ⟨0x40C, [], 32, ⟨0x3F3F3F, 0, 0, 0, 0⟩⟩,
  ⟨0x410, [], 32, ⟨0, 0, 0x1, 0, 0xF2⟩⟩,
  ⟨0x414, [], 32, ⟨0, 0, 0, 0, 0⟩⟩,
  ⟨0x418, [], 32, ⟨0, 0, 0, 0xFFFFFFFF, 0⟩⟩,
  ⟨0x41C, [], 32, ⟨0, 0, 0, 0xFFFFFFFF, 0⟩⟩,
  ⟨0x420, [], 32, ⟨0, 0, 0, 0, 0⟩⟩,
  ⟨0x424, [], 32, ⟨0, 0, 0, 0, 0⟩⟩,
  ⟨0x428, [], 32, ⟨0, 0, 0, 0xFFFFFFFF, 0⟩⟩,
  ⟨0x42C, [], 32, ⟨0, 0, 0, 0, 0⟩⟩,
  ⟨0x440, [(4, 0x4)], 32, ⟨0x7F77, 0, 0, 0, 0⟩⟩,
  ⟨0x450, [(4, 0x4)], 32, ⟨0x7F7F0777, 0, 0, 0, 0⟩⟩,
  ⟨0x1800, [], 32, ⟨0, 0, 0, 0, 0⟩⟩,
  ⟨0x1804, [], 32, ⟨0, 0, 0, 0, 0x3⟩⟩,
  ⟨0x1808, [], 32, ⟨0, 0, 0, 0xFFFFFFFF, 0⟩⟩,
  ⟨0x180C, [], 32, ⟨0, 0, 0, 0, 0⟩⟩]

/-- The registers of the QD window. -/
def rowsQd : List RegRow := rowsQd0 ++ rowsQd1
/-- The windows of R177. `reserved` covers every range the map leaves reserved. -/
inductive Win
  | gl | tb | ft | pm | sp (n : Nat) | ky | pt (n : Nat) | ch (n : Nat) | qd (n : Nat) | reserved
  deriving DecidableEq, Repr

/-- The window a base address lies in (R177). -/
def winOf (a : Nat) : Win :=
  if a < 0x1000 then .gl
  else if a < 0x2000 then .tb
  else if a < 0x3000 then .ft
  else if a < 0x4000 then .pm
  else if a < 0x5000 then .sp ((a - 0x4000) / 0x200)
  else if a < 0x6000 then .ky
  else if a < 0x8000 then .reserved
  else if a < 0xC000 then .pt ((a - 0x8000) / 0x200)
  else if a < 0x10000 then .reserved
  else if a < 0x20000 then .ch ((a - 0x10000) / 0x1000)
  else if a < 0x28000 then .qd ((a - 0x20000) / 0x2000)
  else .reserved

/-- The access bits of the register at a base address, `none` where no register is implemented (R166). -/
def regDesc (a : Nat) : Option RegDesc :=
  if a % 4 ≠ 0 then none else
  match winOf a with
  | .gl => findRow rowsGl 0 a
  | .tb => findRow rowsTb 0 a
  | .ft => findRow rowsFt 0 a
  | .pm => findRow rowsPm 0 a
  | .ky => findRow rowsKy 0 a
  | .sp n => if n < 8 then findRow rowsSp n ((a - 0x4000) % 0x200) else none
  | .pt n =>
    (findRow rowsPt n ((a - 0x8000) % 0x200)).map fun d =>
      if n ≥ 28 ∧ (a - 0x8000) % 0x200 = 0x40 then { d with lk := d.lk &&& ~~~0x10 } else d
  | .ch n => findRow rowsCh n ((a - 0x10000) % 0x1000)
  | .qd n => findRow rowsQd n ((a - 0x20000) % 0x2000)
  | .reserved => none

/-- The bits the configuration record may load: LK and LV fields (R137). -/
def RegDesc.loadable (d : RegDesc) : Word := d.lk ||| d.lv

/-- The bits covered by the register's parity (R170). -/
def RegDesc.held (d : RegDesc) : Word := d.lk ||| d.lv ||| d.rw

/-- A register has parity if it holds an LK, LV or RW field (R170). -/
def hasParity (a : Nat) : Bool := match regDesc a with | some d => d.held ≠ 0 | none => false

end Sys2Proof.Machine
end

