-- ==== Sys2Proof/Machine/State.lean ====
section
/-!
DEFINITION. The state of the block as plain data, the reasons a step can stop, and the state after reset. Registers
whose bits are the state itself live in three register files: `cfg` (LK, LV and RW fields), `stat` (RO and RC fields)
and `caps` (the parts captured by R162, and the registers that R173 keeps as they were found). Every other state has a
field of its own, and the RO fields that show it are computed when they are read.
-/

namespace Sys2Proof.Machine

/-- A timestamp: frame and line of the most recent valid raster word (R10). -/
structure Stamp where
  frame : BitVec 24
  line : BitVec 16
  deriving DecidableEq, Repr

/-- The states of a PLL with their codes (R88). The core PLL uses off, starting, active and failed only. -/
inductive PllSt
  | off | starting | standby | active | prelock | failed
  deriving DecidableEq, Repr

/-- Where a PLL stands in the start criterion (R91) or between attempts (R92). -/
inductive PllPhase
  | idle | amplitude | delay | lock | pause
  deriving DecidableEq, Repr

/-- Why a PLL runs the start criterion: start-up or block reset (R93), a restart by host software (R103, R107), the
return of RSI_CK (R117), the pre-lock for an operating-point change (R332), or a restart that the block makes itself and
that takes no quad off its bypass (R100, R334 step 6, R337). -/
inductive PllWhy
  | start | restart | ret | prelock | auto
  deriving DecidableEq, Repr

/-- One PLL. `mark` is the rsck at which the current phase of the criterion began, `window` the rsck at which the
current monitor window began, `op` the operating point whose CK frequency a PHY PLL runs at. -/
structure Pll where
  st : PllSt
  phase : PllPhase
  attempt : Nat
  mark : Nat
  window : Nat
  op : Nat
  why : PllWhy
  deriving DecidableEq, Repr

/-- The clock source of a quad (R88). -/
inductive ClkSrc
  | pllA | pllB | bypass
  deriving DecidableEq, Repr

/-- Why a quad switch is in progress: first PLL good at start-up or at a return, fallback (R101), end of a wait by a
restarted PLL (R103), or step 5 of an operating-point change. -/
inductive SwWhy
  | first | fallback | unwait | opChange
  deriving DecidableEq, Repr

/-- The clocks of one quad: its source, a switch in progress with its target and reason, the step of R101 in
progress (0: none), and whether it waits in self-refresh. `swAt` is the rsck of the request of the last switch and
`swForced` that its old side has been forced shut (R112). -/
structure QuadClk where
  src : ClkSrc
  sw : Option (ClkSrc × SwWhy)
  swAt : Nat
  swForced : Bool
  fbStep : Nat
  wait : Bool
  deriving DecidableEq, Repr

/-- Why the core switch is moving. -/
inductive CoreSw
  | none | toPll | toBypass
  deriving DecidableEq, Repr

/-- Channel states with their codes (R310). -/
inductive ChanState
  | init | active | wearing | evacuating | spare | retired | test
  deriving DecidableEq, Repr

/-- Clocks, start-up and clock loss. `startStep` is the step of R93 in progress (0 once done), `retStep` the step of
R117 in progress (0: none), `blkStep` the step of R175 in progress (0: none) with `blkMark` the rsck at which it began.
`everUp`: DM_READY has risen since PORST_N; `ramp`: the absence ramp runs; `expired`: its latch. `lossD` is D at the
last loss; `keptTable` the channel table a block reset keeps until the record is good and `keptStates` the channel states at its
step 1 (R176), `mdDone` that clearing was complete everywhere when it began (R349). `coreSwAt` and `coreForced` belong to
the core switch as in `QuadClk` (R112), and `monSw` tells that the switch to the clock that TB_CLKMON selects is complete
(R123). -/
structure Clk where
  core : Pll
  phy : Vector Pll 8
  cclkPll : Bool
  coreSw : CoreSw
  coreSwAt : Nat
  coreForced : Bool
  monSw : Bool
  quads : Vector QuadClk 4
  startStep : Nat
  everUp : Bool
  retStep : Nat
  coreRetFail : Bool
  startFail : Bool
  debtOver : Bool
  ramp : Bool
  expired : Bool
  lossD : Nat
  keptTable : Option (List Nat)
  keptStates : List ChanState
  blkStep : Nat
  blkMark : Nat
  mdDone : Bool
  rstCause : Nat
  deriving DecidableEq, Repr

/-- What the configuration bus is reading (R139). -/
inductive LoadPhase
  | idle | header | entry | pass1 | pass2
  deriving DecidableEq, Repr

/-- Where the record reader stands: the word index it expects next is of this kind (R134, R135). -/
inductive RecAt
  | recHeader (i : Nat) | secHeader0 | secHeader1 | runHeader | value | padding | rcrc | done
  deriving DecidableEq, Repr

/-- The record reader of R522: it takes the record word by word and remembers the first failed test. -/
structure RecParse where
  at_ : RecAt
  pos : Nat
  length : Nat
  sections : Nat
  seen : List Nat
  secEnd : Nat
  runs : Nat
  target : Nat
  words : Nat
  build : Word
  crc : Word
  rcrc : Word
  err : Option Nat
  writes : RegFile
  deriving DecidableEq, Repr

/-- The configuration load (R139, R142, R146). `off`, `len` name the transaction in progress. -/
structure Load where
  state : Nat
  attempt : Nat
  err : Nat
  step : Nat
  recLen : Nat
  phase : LoadPhase
  mark : Nat
  off : Nat
  len : Nat
  dirOffset : Nat
  recOffset : Nat
  imageId : Word
  parse : RecParse
  img : Word
  bld : Word
  crc : Word
  deriving DecidableEq, Repr

/-- An access on a register port. -/
inductive Access
  | write (w : ApbWrite)
  | read (r : ApbRead)
  deriving DecidableEq, Repr

/-- A register port: PREADY, the last PSLVERR and PRDATA (R63, R66), and an access held with PREADY = 0 (R82, R168). -/
structure Apb where
  ready : Bool
  slverr : Bool
  rdata : Word
  held : Option Access
  deriving DecidableEq, Repr

/-- Timebase states (R194). -/
inductive TbState
  | nosync | acquire | locked | holdover
  deriving DecidableEq, Repr

/-- The raster timebase. `t` counts cc since the current line began, `period` is P, `linePeriod` the P the current line runs
on (R192), `meas` the start of a measurement (frame, line, cc), `hbGrain` the grain of the last horizontal blank word
(R198), `vbSeen` the line of this frame's vertical blank word, `onlyWord` that only a vertical blank word may begin the gap
of this frame (R200), `mcNext` that the next frame is the first after a mode change, `own` that the line began without a
word, `since` the lines passed since the last line-start word, `held` the lines spent in holdover, and `validAt` the rsck of
the last valid word. `mcPend` is a mode change in effect, `mcDefer` one that waits for the next frame start (R193). -/
structure Tb where
  state : TbState
  last : Stamp
  frame : BitVec 24
  line : BitVec 16
  t : Nat
  period : Nat
  linePeriod : Nat
  cand : Option Nat
  meas : Option (BitVec 24 × Nat × Nat)
  mcPend : Bool
  mcDefer : Bool
  mcNext : Bool
  own : Bool
  onlyWord : Bool
  hbGrain : Option Nat
  inV : Bool
  inH : Bool
  vbSeen : Option Nat
  frmLines : Nat
  frmVb : Nat
  begunLocked : Bool
  since : Nat
  held : Nat
  hgap : Nat
  vgap : Nat
  corrupt : Nat
  corruptAt : Option Nat
  validAt : Option Nat
  deriving DecidableEq, Repr

/-- The two kinds of gap (R198). -/
inductive GapKind
  | h | v
  deriving DecidableEq, Repr

/-- The scope of a booking (R201). -/
inductive Scope
  | chan (n : Nat) | quad (n : Nat) | inst
  deriving DecidableEq, Repr

/-- What a booking is for: its engine and the work (R201, R425). -/
inductive Work
  | opChange
  | refresh
  | calStep (kind : Nat)
  | swap
  | migration
  | rekey
  | scrub
  deriving DecidableEq, Repr

/-- A posted booking: `frames` counts the frame starts since it was posted, `late` and `noFit` that it has been counted, for
good and in this frame (R203); `unit` is the channel or rank it is for, `lines` the lines of P30 it lets in (R393). -/
structure Booking where
  id : Nat
  kind : GapKind
  scope : Scope
  work : Work
  unit : Nat
  len : Nat
  lines : Nat
  frames : Nat
  late : Bool
  noFit : Bool
  deriving DecidableEq, Repr

/-- A granted booking with the gap's kind, the cc at which it starts and ends, whether its work has begun, and the cc in
which its gap has ended while it stood (R202). -/
structure Grant where
  book : Booking
  gap : GapKind
  starts : Nat
  ends : Nat
  begun : Bool
  gapEnd : Option Nat
  deriving DecidableEq, Repr

/-- The gap broker. `overruns` are the cc by which a granted booking ran past its gap (R202). -/
structure Broker where
  next : Nat
  posted : List Booking
  granted : List Grant
  overruns : List (GapKind × Scope × Nat)
  deriving DecidableEq, Repr

/-- One entry of the fault log (R444). -/
structure LogEntry where
  valid : Bool
  src : Nat
  ncls : Nat
  ecls : Nat
  halt : Bool
  unit : Nat
  info : Word
  stamp : Stamp
  deriving DecidableEq, Repr

/-- One entry of the scruple table (R362, R371). -/
structure Scruple where
  valid : Bool
  chan : Nat
  count : Nat
  line : Nat
  first : Stamp
  last : Stamp
  deriving DecidableEq, Repr

/-- What the hardware has done in this cc to a status field that a read clears: it has set bits, or counted (R161). -/
inductive News
  | bits (w : Nat) | add (n : Nat)
  deriving DecidableEq, Repr

/-- The fault collector: the log, the scruple table, the occurrences and the transients (channel, line and stamp) of this
cc that it takes at the end of the cc (R438, R445, R362), the unacknowledged classes, the halt with its step (R441) and
take-preservation mode (R458). -/
structure Flt where
  log : Vector LogEntry 16
  scruple : Vector Scruple 16
  logs : List LogEntry
  transients : List (Nat × Nat × Stamp)
  unackCorr : Bool
  unackCont : Bool
  unackFatal : Bool
  halted : Bool
  haltStep : Nat
  testStop : Bool
  take : Bool
  takeSrc : Nat
  takeStamp : Stamp
  deriving DecidableEq, Repr
/-- A write beat with its byte enables (R59, R212). -/
structure WBeat where
  data : Beat
  be : BitVec 64
  deriving DecidableEq, Repr

/-- The outcome of a line of a request: response code and cause code (R215). -/
structure Outcome where
  resp : Nat
  cause : Nat
  deriving DecidableEq, Repr

/-- A line of a request after the splitter (R222): address line index, logical channel and offset, whether it has been
handed to a perch queue, its outcome once it has one, and its data on a read. -/
structure ReqLine where
  line : Nat
  logical : Nat
  q : Nat
  handed : Bool
  dead : Bool
  out : Option Outcome
  data : Line
  deriving DecidableEq, Repr

/-- The stages a request passes (R31, R245, R257, R263): `queued` before the splitter, `shaping`, `gate`, `hand` to the
perch queues, and `off` for a request that owes nothing more to these stages. -/
inductive Stage
  | queued | shaping | gate | hand | off
  deriving DecidableEq, Repr

/-- An accepted request. `beats` are the W beats taken so far, in order; `bad` marks the offending request of a
protocol error (R220), `lost` a write caught by a Tun reset (R235), `cal` a request released on calendar credit, `at_` the cc
of its Q transfer, `freed` an offending request whose use of its tag is over (R242), and `passAt` the cc in which it passed
its gate (R274). -/
structure Req where
  seq : Nat
  addr : BitVec 34
  len : Nat
  wr : Bool
  fence : Bool
  tag : BitVec 8
  stage : Stage
  tier : Nat
  waited : Bool
  beats : List WBeat
  taken : Nat
  lines : List ReqLine
  crossed : Bool
  bad : Bool
  lost : Bool
  cal : Bool
  at_ : Nat
  freed : Bool
  passAt : Option Nat
  deriving DecidableEq, Repr

/-- Port states with their codes (R241). -/
inductive PortState
  | disabled | run | drain | stopped | halted
  deriving DecidableEq, Repr

/-- The last transfer on the D channel of a port (R59). -/
structure DOut where
  data : Beat
  tag : BitVec 8
  resp : Nat
  last : Bool
  deriving DecidableEq, Repr

/-- A requester P0–P31. `flush` is the acceptance number below which requests must finish for FLUSH_DONE (R236), `hold` the
watermark state of ING_HOLD (R237), `levelC` and `levelP` the buckets in 1/1,024 beat, `rodAt` the port's furlong entry
(R249), `shWrite` the cc of a shaper write not yet in effect, `shDue` the values of an earlier one where a second falls in
the boundary's own cc, and `shctl`, `shc`, `shp` the values in effect (R250), `occ` the occupancy at the end of the last cc
(R237), `beatAt`, `relAt` and `handAt` the cc of the last W beat, release and hand-over (R233, R245, R263), `dSeq` the read
request whose D beats have begun with `dBeat` beats transferred, `bSeq` the write request whose response stands on the B
channel (R206). `down` marks a contained parity stop (R172). -/
structure Port where
  state : PortState
  hcause : Nat
  reqs : List Req
  nextSeq : Nat
  flush : Option Nat
  hold : Bool
  levelC : Nat
  levelP : Nat
  rodAt : Option Nat
  credit : Nat
  shWrite : Option Nat
  shDue : Option (Word × Word × Word)
  shctl : Word
  shc : Word
  shp : Word
  dSeq : Option Nat
  dBeat : Nat
  bSeq : Option Nat
  lastD : DOut
  lastB : BitVec 8 × Nat
  occ : Nat
  beatAt : Option Nat
  relAt : Option Nat
  handAt : Option Nat
  deriving DecidableEq, Repr

/-- The furlong and the two table commits (R252, R256, R262): `copy` fields count the registers already copied. -/
structure Wheel where
  running : Bool
  rod : Nat
  mark : Nat
  calPend : Bool
  calCopy : Option Nat
  gatePend : Bool
  gateCopy : Option Nat
  deriving DecidableEq, Repr

/-- What a line in a perch queue is for: a port's line, or the kind of work of P30 or P31 (R35); `mirror` is a migration
write at a spare (R310, R365). -/
inductive LineKind
  | port | scrub | migration | rekey | mirror | scratch
  deriving DecidableEq, Repr

/-- A line in a perch queue (R263): requester, request and line index within it, offset in the channel, tier, the
number of its write beats, its bytes and byte enables, and the first cc in which it is present. A migration write at a spare
carries the metadata entry and the number `ref` of the operation it is made for, and no byte where only the entry is copied. -/
structure PerchLine where
  port : Nat
  seq : Nat
  idx : Nat
  line : Nat
  q : Nat
  tier : Nat
  wr : Bool
  beats : Nat
  data : Line
  be : BitVec 256
  kind : LineKind
  since : Nat
  entry : BitVec 64
  ref : Nat
  deriving DecidableEq, Repr

/-- The intake arbiter of a channel (R264–R273). `finish` holds the finish tag of every awake requester, `vtime` the
virtual time of each tier, `xfer` the line in transfer with the cc of its last cycle, `next` the winner of the last
decision waiting to transfer, `decidedAt` and `xferAt` the cc of the last decision and of the last cycle of the last transfer
(R270, R271), and `served` the requesters that had a line present in this cc and have it no more (R268). -/
structure Arb where
  perch : Vector (List PerchLine) 32
  finish : Vector (Option (BitVec 32)) 32
  vtime : Vector (BitVec 32) 4
  xfer : Option (PerchLine × Nat)
  next : Option (PerchLine × Nat)
  hold : Option Nat
  park : Option Nat
  decidedAt : Option Nat
  xferAt : Option Nat
  served : List Nat
  deriving DecidableEq, Repr
/-- Bank states (R291). -/
inductive BankSt
  | closed | opening | opened | closing | refreshing
  deriving DecidableEq, Repr

/-- A bank: its state and row, the cc of the last command of each kind that a timing rule of R303 counts from, its RAA
counter (R323), the column commands that have hit the open row while an older operation waited (R297), the cc since
which no queued operation has needed its row, and the operation its last ACT was for. -/
structure Bank where
  st : BankSt
  row : Nat
  act : Option Nat
  pre : Option Nat
  rd : Option Nat
  wr : Option Nat
  ref : Option Nat
  rfm : Option Nat
  raa : Nat
  hits : Nat
  idleAt : Nat
  actFor : Option Nat
  deriving DecidableEq, Repr

/-- Rank power states with their codes (R292, CHn_PWRSTAT). -/
inductive PowerSt
  | active | powerDown | selfRefresh | deepSleep
  deriving DecidableEq, Repr

/-- What the sequences of the block ask of a rank: to serve, to enter self-refresh with or without the payment of R326,
or to enter deep sleep. -/
inductive Want
  | serve | selfRefresh (pay : Bool) | deepSleep (pay : Bool)
  deriving DecidableEq, Repr

/-- A rank: banks, power state, refresh debt E in eighths (R314; `debtMark` is the time of its last rise in 1/32 cc), the
addresses used in the round (R316), temperature (R321, R322; `mr4Go` that a refresh has gone ahead of the MR4 read that is
due, `mr4Top` that it was of order 1), the last rank-wide commands by cc, and the FSP write of a pending change (R332).
`lowAt` is the cc of the last entry to, `upAt` of the end of the last exit from a power state, `exitAt` of a deep sleep exit
in progress; `nap` marks a self-refresh entered for idleness, `preDue` a PREab that a sequence still owes, `check` a check
owed before the next column command (R410), `fspSel` that the FSP of a pending change is selected; `wckAt` is the cc of the
CAS with WS_FS (R301). -/
structure Rank where
  banks : Vector Bank 16
  power : PowerSt
  want : Want
  keeps : Bool
  debt : Int
  debtMark : Nat
  round : Nat
  forced : Bool
  faw : List Nat
  preab : Option Nat
  refab : Option Nat
  lowAt : Option Nat
  upAt : Option Nat
  nap : Bool
  fspSel : Bool
  check : Bool
  preDue : Bool
  exitAt : Option Nat
  wckOn : Bool
  wckAt : Option Nat
  mrw : Option Nat
  mrr : Option Nat
  mr4Wait : Bool
  mr4Due : Bool
  mr4Go : Bool
  mr4Top : Bool
  mr4At : Nat
  cls : Nat
  clsCand : Option Nat
  clsHeld : Option Nat
  fspDone : Bool
  idleAt : Nat
  zqStart : Option Nat
  zqReady : Bool
  zqLatch : Option Nat
  deriving DecidableEq, Repr
/-- The kinds of operation in a channel (R35, R283, R289). A fill names the part it plays: the demand fill of a lane, a
preload, the fill of a maintenance operation, the read of a bypass access, its second read before the write back, or
recompute read `i`; `test` is a line of a DBIST (R488). -/
inductive OpKind
  | read
  | write
  | rmw
  | writeback
  | demand
  | preload
  | opFill (lock : Bool)
  | bypass
  | bypassWrite
  | recompute (i : Nat)
  | scrub
  | migration
  | rekey
  | mirror
  | scratch
  | test
  deriving DecidableEq, Repr

/-- Where an operation stands. `lookup` waits for its metadata entry, `wantQueue` for a read-queue or write-queue entry,
`reading` has its entry in the read queue, `flight` has issued its last read burst, `pause` waits the 1 µs of R359,
`gather` is a write in a gill, `behind` a read waiting for the outcome of the gill ahead, `writing` stands in the write
queue, `recovering` has issued its last write burst, `follow` is a further write of the gill that `lead` writes,
`paired` waits for its mirror write at the spare. -/
inductive OpPhase
  | lookup | wantQueue | reading | flight | pause | gather | behind | writing | recovering | follow | paired
  deriving DecidableEq, Repr

/-- Which kind of entry of a queue an operation holds (R283). -/
inductive Res
  | none | shared | rmw | wb | fill
  deriving DecidableEq, Repr

/-- One operation of a channel: a hazard entry, or a metadata fill. `x` is its channel line index, `line` its address line
index, `tier` the tier it is chosen by and `own` the one its entries count with (R285), `entry` the metadata entry it looked
up and `way` the way it pins, `tries` the refetches made (R358), `bursts` the column commands issued, `data` the stored form
being read or written and `plain` the plaintext it carries, `gill` the gill it belongs to, `mask` the bytes of `plain` that
a read takes from held writes (R351), `mark` the cc or rsck from which its wait counts, `done` that a write has reached its
completion point, `merged` that its gill took fetched bytes. -/
structure Op where
  id : Nat
  kind : OpKind
  phase : OpPhase
  x : Nat
  line : Nat
  q : Nat
  port : Nat
  seq : Nat
  idx : Nat
  tier : Nat
  own : Nat
  haz : Res
  rq : Res
  wq : Res
  tries : Nat
  bursts : Nat
  entry : BitVec 64
  way : Option Nat
  data : Line
  plain : Line
  mask : BitVec 256
  gill : Option Nat
  lead : Nat
  mark : Nat
  partner : Option Nat
  acted : Bool
  done : Bool
  merged : Bool
  looked : Bool
  deriving DecidableEq, Repr

/-- Why a gill was evicted (R354, CHn_GILLCAUSE). -/
inductive EvictCause
  | age | read | press | other
  deriving DecidableEq, Repr

/-- A gill (R353): its line, the bytes gathered with their mask, the cc at which it opened, the requesters that hold
bytes in it, the least tier merged, the tier of the opener, the cause that evicts it, and the merges reserved in it. -/
structure Gill where
  line : Nat
  q : Nat
  data : Line
  mask : BitVec 256
  opened : Nat
  ports : List Nat
  tier : Nat
  opener : Nat
  evict : Option EvictCause
  reserved : Nat
  merged : Bool
  deriving DecidableEq, Repr

/-- The calibration and test side of a channel: the step of initial training or of a retrain in progress. -/
inductive CalJob
  | none | training | retrain (inPlace : Bool)
  deriving DecidableEq, Repr

/-- A physical channel. `ops` are its hazard entries and metadata fills, oldest first. The permissions of P30 hold 1 by a
booking, in which `scrubRoom`, `migRoom` or `rkRoom` lines may still enter its perch queue, and 2 when the channel is
idle (R393). `dq` lists the times (from, until, write)
in which DQ carries data. `test` is the step of R488 in progress (0: none, 6: abandoned, to resume at step 5), `prev` the
state it returns to, `testOp` the operating point at its entry, `testStop` that it is to be aborted, `testAt` the lines that a
DBIST has begun to write and then to read. `wearAt` is the cc in
which it became WEARING, and `reserveDue` asks for its reservation at the end of that cc, or once an aborted test has
returned the spare (R448, R490). `clear` is the next metadata line to be cleared (R347). `hardStep` is the step of R454 in
progress, 0 when none. `ccHaz`, `ccRq` and `ccGill` are the operations that held a shared hazard entry or a shared
read-queue entry, with the tier they count with, and the gills in use with the tier that opened them, at the start of the
cc (R284); `mirrors` are the migration writes that wait for room in P30's perch queue (R365), and `moving` the held write data
of a failed channel that waits for a gill at its partner, oldest first (R454). -/
structure Chan where
  state : ChanState
  arb : Arb
  ranks : Vector Rank 2
  ops : List Op
  nextOp : Nat
  gills : Vector (Option Gill) 16
  cmdAt : Nat
  dq : List (Nat × Nat × Bool)
  wrMode : Bool
  modeDue : Bool
  modeCount : Nat
  fspUse : Bool
  fspOp : Vector (Option Nat) 2
  noRoom : Bool
  admitStop : Bool
  ahead : List Nat
  clear : Option Nat
  wdCount : Nat
  wdTripped : Bool
  idleAt : Nat
  scrubPerm : Nat
  scrubRoom : Nat
  migPerm : Nat
  migRoom : Nat
  rkPerm : Nat
  rkRoom : Nat
  rkNext : Nat
  rkDone : List Nat
  job : CalJob
  test : Nat
  prev : ChanState
  testDbist : Bool
  testOp : Nat
  testStop : Bool
  testAt : Nat
  failed : Bool
  wearAt : Option Nat
  reserve : Option Nat
  reserveDue : Bool
  hardStep : Nat
  ccHaz : List (Nat × Nat)
  ccRq : List (Nat × Nat)
  ccGill : List (Nat × Nat)
  mirrors : List PerchLine
  moving : List (Gill × List Op)
  deriving DecidableEq, Repr

/-- The states of a way of a metadata cache (R373). -/
inductive WaySt
  | invalid | clean | dirty | filling | recompute
  deriving DecidableEq, Repr

/-- A way: state, lock bit, the channel and metadata line its tag names, its 256 bytes. -/
structure Way where
  st : WaySt
  locked : Bool
  chan : Nat
  m : Nat
  data : Line
  deriving DecidableEq, Repr

/-- A lane of a metadata cache (R374, R375): the fill that stops it (channel, operation), a lookup waiting for a way,
the preload in its slot, the channel served last, and the cc of the last lookup or maintenance visit. -/
structure Lane where
  stopped : Option (Nat × Nat)
  waiting : Option (Nat × Nat)
  slot : Option (Nat × Nat)
  last : Nat
  usedAt : Option Nat
  deriving DecidableEq, Repr
/-- The live calibration of one DQ or DMI bit of one rank: targets, windows closed since the last sweep, the sweep's
half-window with the edges found so far, and the write-read-compare probe with its last passing value (R415–R421).
`movedRd` and `movedWr` are the cc of the last tap moves (R426). -/
structure BitCal where
  tgtRd : Nat
  tgtWr : Nat
  windows : Nat
  nextP : Bool
  sweeping : Bool
  h : Nat
  left : Option Nat
  right : Option Nat
  probe : Nat
  margin : Nat
  movedRd : Nat
  movedWr : Nat
  deriving DecidableEq, Repr

/-- The rank-level delays of a channel at one operating point (R402, R403); `trained` once they or the per-bit delays of the
point have been put into force. -/
structure DelaySet where
  wck : Vector Nat 4
  rdqs : Vector Nat 4
  ca : Nat
  cs : Nat
  rv : Vector Nat 2
  dv : Vector Nat 2
  trained : Bool
  deriving DecidableEq, Repr

/-- The calibration state of a channel: bits of rank r at 18r + b, the delay sets, the marks of the last closed window and
of the last oscillator and write-read-compare interval of each rank (cc), the retrain cause pending, and the edge and
compare margins found too low in a row (R447). `booked` lists the steps that wait for a booking, by their order in R425 and
their rank; `step` is the booked step that runs, `lines` the scratch lines (write, channel line index) it has yet to let in,
`work` those of the training, check or retrain that runs and `checking` the ranks whose check has named its lines (R405,
R409, R411), `wrcBank` the bank the next compare uses, `zqOwed` that a ZQ latch is owed since `zqAt`, and `trainStep` the step
of R405 in progress (0: none) since the rsck `trainAt`. -/
structure ChanCal where
  bits : Vector BitCal 36
  sets : Vector DelaySet 4
  closedAt : Vector Nat 2
  oscAt : Vector Nat 2
  wrcAt : Vector Nat 2
  zqAt : Vector Nat 2
  oscRun : Vector (Option Nat) 2
  zqOwed : Vector Bool 2
  wrcBank : Vector Nat 2
  rtCause : Nat
  sweepOn : Bool
  lowEye : Nat
  lowWr : Nat
  booked : List (Nat × Nat)
  step : Option (Nat × Nat)
  lines : List (Bool × Nat)
  work : List (Bool × Nat)
  checking : List Nat
  trainStep : Nat
  trainAt : Nat
  deriving DecidableEq, Repr

/-- A maintenance operation of a metadata cache in progress (R382–R384): its code and scope, the line indices of its
range, the channel and metadata line it visits next (`chan` past the quad's last: the walk is over), whether a lock was
refused, and the channel table as it stood at GO. -/
structure CacheOp where
  op : Nat
  all : Bool
  lo : Nat
  hi : Nat
  chan : Nat
  m : Nat
  refused : Bool
  map : List Nat
  deriving DecidableEq, Repr

/-- A scrub pass over the four channels of a quad (R391–R396): for each channel the last q to walk (`none`: not walked
or done), the lines admitted in this frame, those outstanding, and the length of a vertical booking shortened by R395. -/
structure ScrubPass where
  running : Bool
  aborting : Bool
  lo : Nat
  hi : Nat
  last : Vector (Option Nat) 4
  frame : Vector Nat 4
  out : Vector Nat 4
  k : Vector (Option Nat) 4
  deriving DecidableEq, Repr

/-- A metadata line being rebuilt (R389): its number (the way, or 2,048 + lane in bypass), the channel and line, how
many recompute reads are still to come, the line as built so far, and whether a maintenance operation has called it (R384). -/
structure Rebuild where
  id : Nat
  chan : Nat
  m : Nat
  left : Nat
  data : Line
  mop : Bool
  deriving DecidableEq, Repr

/-- A quad: its metadata cache (ways at 8 × set + way, an unlisted way being INVALID and unlocked; round-robin pointers
by set, unlisted 0), the lanes, the maintenance operation, the step of bypass entry (R387), the scrub pass, and the
calibration engine's PHY code targets with the interval mark and the work to be booked. `dresetAt` is the rsck since which
DRESETk_N is low, `initAt` that at which the power-up initialization in progress began, and `trainAt` that at which step 9 of
R93 began. -/
structure Quad where
  ways : List (Nat × Way)
  rr : List (Nat × Nat)
  lanes : Vector Lane 8
  rebuilds : List Rebuild
  mop : Option CacheOp
  bypStep : Nat
  scrub : ScrubPass
  codeTgt : Vector Nat 3
  codeAt : Vector Nat 3
  zqAt : Nat
  dresetAt : Nat
  initAt : Option Nat
  trainAt : Option Nat
  deriving DecidableEq, Repr

/-- The supply handshake (R70): the steps of the table, 0 when complete. -/
structure Supply where
  vreq : BitVec 3
  step : Nat
  mark : Nat
  vset : Nat
  late : Bool
  deriving DecidableEq, Repr

/-- The operating-point sequencer (R329–R336) and deep sleep (R327). `want` is a new target requested while a change is
held, `book` its booking, `resync` that a handshake to the point's level set is owed after a change abandoned by a loss of
RSI_CK (R337), `choices` the lower points the policy has chosen in a row (R330), `lines` the lines of P0–P29 admitted in
this frame, `frameAt` the cc at which the frame began. -/
structure OpSeq where
  cur : Nat
  pend : Bool
  target : Nat
  want : Option Nat
  step : Nat
  stepAt : Nat
  granted : Bool
  book : Option Nat
  supply : Supply
  lines : Nat
  frameAt : Nat
  dsm : Nat
  dsmStep : Nat
  resync : Bool
  choices : List Nat
  deriving DecidableEq, Repr

/-- The evacuation in progress (R450): source, spare, step, the next line to migrate, the lines migrated at or above
EVPTR, and the metadata lines created at the spare that EVPTR has not passed (R365). -/
structure Evac where
  src : Nat
  spare : Nat
  step : Nat
  mark : Nat
  next : Nat
  migDone : List Nat
  made : List Nat
  deriving DecidableEq, Repr

/-- The maintenance engine: the evacuation, swap refusals (R453). -/
structure Mnt where
  evac : Option Evac
  refusals : Nat
  forcedSwap : Bool
  deriving DecidableEq, Repr

/-- A key slot (R469). `erase` marks a retired key that waits for the last decrypt under it (R473). -/
structure KeySlot where
  valid : Bool
  key1 : BitVec 256
  key2 : BitVec 256
  kcv : BitVec 16
  erase : Bool
  deriving DecidableEq, Repr

/-- The key slots and the rekey pass (R469–R479); states 0 IDLE, 1 RUNNING, 2 PAUSED. -/
structure Keys where
  slots : Vector KeySlot 2
  wvalid : Bool
  wslot : Nat
  void : Bool
  result : Nat
  rkState : Nat
  rkOld : Nat
  keyzLater : Bool
  deriving DecidableEq, Repr

/-- The TAP instructions (R480). -/
inductive TapInstr
  | idcode | sample | extest | clamp | highz | chtest | ijtagPub | ijtagSec | scanmode | bypass
  deriving DecidableEq, Repr

/-- The states of the IEEE 1149.1 controller (R74). -/
inductive TapCtl
  | testLogicReset | runTestIdle
  | selectDr | captureDr | shiftDr | exit1Dr | pauseDr | exit2Dr | updateDr
  | selectIr | captureIr | shiftIr | exit1Ir | pauseIr | exit2Ir | updateIr
  deriving DecidableEq, Repr

/-- The TAP: the controller's state, the instruction, the CHTEST register, the step of the zeroizing sequence (R484; 0 none,
6 access granted), the step of a quiesce (R482; 1 to 4 in progress, 5 pins taken) and that its exit runs. -/
structure Tap where
  ctl : TapCtl
  instr : TapInstr
  dr : BitVec 32
  secStep : Nat
  quiesce : Nat
  leaving : Bool
  deriving DecidableEq, Repr

/-- A descriptor of the spill engine in use (R493): its number in the channel, `issued` the units whose read has been
issued, `wb` the writeback in progress (0 none, 1 status, 2 OWN). -/
structure Desc where
  num : Nat
  addr : Nat
  dir : Bool
  irq : Bool
  stop : Bool
  fence : Bool
  len : Nat
  daddr : Nat
  haddr : Nat
  next : Nat
  issued : Nat
  code : Nat
  bad : Nat
  wb : Nat
  deriving DecidableEq, Repr

/-- Where a chunk stands (R496, R497): its read issued, its data read, its write issued, its write failed, or its read failed. -/
inductive ChunkSt
  | reading | ready | writing | failed | unread
  deriving DecidableEq, Repr

/-- A chunk: the number of its descriptor, first unit and length, state, the request of P28 or P29 that carries it, and its
data. -/
structure Chunk where
  desc : Nat
  start : Nat
  units : Nat
  st : ChunkSt
  seq : Nat
  data : List Beat
  deriving DecidableEq, Repr

/-- The states of a DMA channel with their codes (R502). -/
inductive SpillState
  | idle | run | wait | pausing | paused | halting | halted | aborting
  deriving DecidableEq, Repr

/-- An AXI4 burst of the spill master (R67): write or read, kind (0 fetch, 1 data, 2 status, 3 OWN), address, beats minus
one, the strobes of a writeback, and that its AR or AW has been issued (R497). -/
structure Axi where
  write : Bool
  kind : Nat
  addr : Nat
  len : Nat
  strb : BitVec 64
  data : List Beat
  cache : Nat
  prot : Nat
  qos : Nat
  sent : Bool
  deriving DecidableEq, Repr

/-- A DMA channel. `bursts` are its AXI4 bursts without a response, oldest first, those not issued yet among them; `pos` is
where the next descriptor fetched resumes, with the CODE and BAD it had (R504); `stopped` that a STOP descriptor has been
begun, `dir` the direction of the current one, `hport` that of the port whose halt has halted the channel (R505), and `kicked` a
KICK or POLL in WAIT that came while a fetch was under way (R495). -/
structure Spill where
  state : SpillState
  hcause : Nat
  hdir : Bool
  hkind : Nat
  descs : List Desc
  chunks : List Chunk
  bursts : List Axi
  fetching : Bool
  fetchAddr : Nat
  pos : Nat
  keptCode : Nat
  keptBad : Nat
  waitAt : Nat
  stopped : Bool
  dir : Bool
  hport : Bool
  nextNum : Nat
  kicked : Bool
  deriving DecidableEq, Repr

/-- The counters' own state: the events of this cc by number, unit and count; the counters that take none of them, having
been written (R518), those that have taken some already, with their number, and the selections (event, unit, ALLU) that
stood before a write of this cc (R510); that the bushel was frozen at the start of the cc; the oldest wrap not yet reported,
by cc and the lines admitted since (R514); the low halves held for a write, by register (R513); the cc of the last
snapshot (R518); and that FREEZE has been written by the host in this cc (R158). -/
structure Perf where
  evts : List (Nat × Nat × Nat)
  done : List Nat
  taken : List (Nat × Nat)
  sels : List (Nat × Nat × Nat × Bool)
  frozen : Bool
  ovf : Option (Nat × Nat)
  held : List (Nat × Word)
  snapAt : Option Nat
  hostFreeze : Bool
  deriving DecidableEq, Repr

/-- The outputs that hold a value of their own (R48, R82); every other output follows a field of the state. `clkmon`
tells whether CLKMON carries the selected clock. -/
structure Pins where
  pclk : Bool
  dmReady : Bool
  ingHold : BitVec 4
  dreset : BitVec 4
  clkmon : Bool
  deriving DecidableEq, Repr

/-- Reasons to fault: none. The block answers every command; what goes wrong in it is a response code, an error bit or a
fault of its own collector (R434, R435), all of which are next states. -/
inductive Fault
  deriving DecidableEq, Repr

/-- Reasons to refuse a command. -/
inductive Refusal
  /-- Raised by an arm of exec whose command has no meaning yet. Safe. -/
  | notModelled (mnemonic : String)
  /-- Raised by PORST_N_ASSERT for a pulse of 20 ns to 100 ns, whose effect R52 does not define. Safe. -/
  | porstPulseUndefined
  deriving DecidableEq, Repr

/-- The whole block. `porst` is the level of PORST_N, `now` counts cc and `rsck` RSI_CK cycles since PORST_N release
(`rfrac` is the fraction of an rsck, in units of 1/NMOD of N), `parErr` lists the registers whose parity bit no longer
matches, `news` what this cc has done to the status fields that a read clears (R161), `walks` those that the parity
walker has reached in this cc, each with the bits that change after the walker's check (R171), `frozen` those found by a check (R173), `dram` the 64-byte bursts written, by channel and place, and `free` the
model's own counter for free values. `spillLast` and `spillAt` hold the DMA channel last served on P28, P29, AR and AW,
and the cc after that. -/
structure State where
  porst : Bool
  instId : BitVec 14
  now : Nat
  rsck : Nat
  rfrac : Nat
  rsiAlive : Bool
  cfg : RegFile
  stat : RegFile
  caps : RegFile
  news : List (Field × News)
  parErr : List Nat
  walks : List (Nat × Word)
  frozen : List Nat
  apbM : Apb
  apbK : Apb
  pins : Pins
  clk : Clk
  load : Load
  tb : Tb
  brk : Broker
  ports : Vector Port 32
  wheel : Wheel
  chans : Vector Chan 16
  cals : Vector ChanCal 16
  quads : Vector Quad 4
  op : OpSeq
  flt : Flt
  mnt : Mnt
  keys : Keys
  tap : Tap
  spill : Vector Spill 8
  spillLast : Vector Nat 4
  spillAt : Vector Nat 4
  perf : Perf
  dram : List (Nat × Beat)
  free : Nat
  pending : List Instr
  deriving DecidableEq, Repr

def Stamp.zero : Stamp := ⟨0, 0⟩

def Pll.reset : Pll := ⟨.off, .idle, 0, 0, 0, 0, .start⟩

def QuadClk.reset : QuadClk := ⟨.bypass, none, 0, false, 0, false⟩

def Clk.reset : Clk where
  core := .reset
  phy := Vector.replicate 8 .reset
  cclkPll := false
  coreSw := .none
  coreSwAt := 0
  coreForced := false
  monSw := false
  quads := Vector.replicate 4 .reset
  startStep := 1
  everUp := false
  retStep := 0
  coreRetFail := false
  startFail := false
  debtOver := false
  ramp := false
  expired := false
  lossD := 0
  keptTable := none
  keptStates := []
  blkStep := 0
  blkMark := 0
  mdDone := false
  rstCause := 0

def RecParse.reset : RecParse :=
  ⟨.recHeader 0, 0, 0, 0, [], 0, 0, 0, 0, 0, 0xFFFFFFFF, 0, none, []⟩

def Load.reset : Load := ⟨0, 0, 0, 0, 0, .idle, 0, 0, 0, 0, 0, 0, .reset, 0, 0, 0⟩

def Tb.reset : Tb where
  state := .nosync
  last := .zero
  frame := 0
  line := 0
  t := 0
  period := 0
  linePeriod := 0
  cand := none
  meas := none
  mcPend := false
  mcDefer := false
  mcNext := false
  own := true
  onlyWord := false
  hbGrain := none
  inV := false
  inH := false
  vbSeen := none
  frmLines := 0
  frmVb := 0
  begunLocked := false
  since := 0
  held := 0
  hgap := 0
  vgap := 0
  corrupt := 0
  corruptAt := none
  validAt := none

def Broker.reset : Broker := ⟨0, [], [], []⟩

def LogEntry.empty : LogEntry := ⟨false, 0, 0, 0, false, 0, 0, .zero⟩

def Scruple.empty : Scruple := ⟨false, 0, 0, 0, .zero, .zero⟩

def Flt.reset : Flt where
  log := Vector.replicate 16 .empty
  scruple := Vector.replicate 16 .empty
  logs := []
  transients := []
  unackCorr := false
  unackCont := false
  unackFatal := false
  halted := false
  haltStep := 0
  testStop := false
  take := false
  takeSrc := 0
  takeStamp := .zero

def Port.reset : Port where
  state := .disabled
  hcause := 0
  reqs := []
  nextSeq := 0
  flush := none
  hold := false
  levelC := 0
  levelP := 0
  rodAt := none
  credit := 0
  shWrite := none
  shDue := none
  shctl := 0
  shc := 0
  shp := 0
  dSeq := none
  dBeat := 0
  bSeq := none
  lastD := ⟨0, 0, 0, false⟩
  lastB := (0, 0)
  occ := 0
  beatAt := none
  relAt := none
  handAt := none

def Wheel.reset : Wheel := ⟨false, 0, 0, false, none, false, none⟩

def Arb.reset : Arb where
  perch := Vector.replicate 32 []
  finish := Vector.replicate 32 none
  vtime := Vector.replicate 4 0
  xfer := none
  next := none
  hold := none
  park := none
  decidedAt := none
  xferAt := none
  served := []

def Bank.reset : Bank := ⟨.closed, 0, none, none, none, none, none, none, 0, 0, 0, none⟩

def Rank.reset : Rank where
  banks := Vector.replicate 16 .reset
  power := .active
  want := .serve
  keeps := false
  debt := 0
  debtMark := 0
  round := 0
  forced := false
  faw := []
  preab := none
  refab := none
  lowAt := none
  upAt := none
  nap := false
  fspSel := false
  check := false
  preDue := false
  exitAt := none
  wckOn := false
  wckAt := none
  mrw := none
  mrr := none
  mr4Wait := false
  mr4Due := false
  mr4Go := false
  mr4Top := false
  mr4At := 0
  cls := 3
  clsCand := none
  clsHeld := none
  fspDone := false
  idleAt := 0
  zqStart := none
  zqReady := false
  zqLatch := none

def Chan.reset : Chan where
  state := .init
  arb := .reset
  ranks := Vector.replicate 2 .reset
  ops := []
  nextOp := 0
  gills := Vector.replicate 16 none
  cmdAt := 0
  dq := []
  wrMode := false
  modeDue := false
  modeCount := 0
  fspUse := false
  fspOp := Vector.replicate 2 none
  noRoom := false
  admitStop := false
  ahead := []
  clear := none
  wdCount := 0
  wdTripped := false
  idleAt := 0
  scrubPerm := 0
  scrubRoom := 0
  migPerm := 0
  migRoom := 0
  rkPerm := 0
  rkRoom := 0
  rkNext := 0
  rkDone := []
  job := .none
  test := 0
  prev := .init
  testDbist := false
  testOp := 0
  testStop := false
  testAt := 0
  failed := false
  wearAt := none
  reserve := none
  reserveDue := false
  hardStep := 0
  ccHaz := []
  ccRq := []
  ccGill := []
  mirrors := []
  moving := []

def BitCal.reset : BitCal := ⟨0, 0, 0, false, false, 0, none, none, 0, 0, 0, 0⟩

def DelaySet.reset : DelaySet :=
  ⟨Vector.replicate 4 0, Vector.replicate 4 0, 0, 0, Vector.replicate 2 0, Vector.replicate 2 0, false⟩

def ChanCal.reset : ChanCal where
  bits := Vector.replicate 36 .reset
  sets := Vector.replicate 4 .reset
  closedAt := Vector.replicate 2 0
  oscAt := Vector.replicate 2 0
  wrcAt := Vector.replicate 2 0
  zqAt := Vector.replicate 2 0
  oscRun := Vector.replicate 2 none
  zqOwed := Vector.replicate 2 false
  wrcBank := Vector.replicate 2 0
  rtCause := 0
  sweepOn := false
  lowEye := 0
  lowWr := 0
  booked := []
  step := none
  lines := []
  work := []
  checking := []
  trainStep := 0
  trainAt := 0

def Lane.reset : Lane := ⟨none, none, none, 3, none⟩

def ScrubPass.reset : ScrubPass :=
  ⟨false, false, 0, 0, Vector.replicate 4 none, Vector.replicate 4 0, Vector.replicate 4 0, Vector.replicate 4 none⟩

def Quad.reset : Quad where
  ways := []
  rr := []
  lanes := Vector.replicate 8 .reset
  rebuilds := []
  mop := none
  bypStep := 0
  scrub := .reset
  codeTgt := Vector.replicate 3 0
  codeAt := Vector.replicate 3 0
  zqAt := 0
  dresetAt := 0
  initAt := none
  trainAt := none

def Supply.reset : Supply := ⟨0, 0, 0, 0, false⟩

def OpSeq.reset : OpSeq where
  cur := 0
  pend := false
  target := 0
  want := none
  step := 0
  stepAt := 0
  granted := false
  book := none
  supply := .reset
  lines := 0
  frameAt := 0
  dsm := 0
  dsmStep := 0
  resync := false
  choices := []

def Mnt.reset : Mnt := ⟨none, 0, false⟩

def KeySlot.empty : KeySlot := ⟨false, 0, 0, 0, false⟩

def Keys.reset : Keys := ⟨Vector.replicate 2 .empty, false, 0, false, 0, 0, 0, false⟩

def Tap.reset : Tap := ⟨.testLogicReset, .idcode, 0, 0, 0, false⟩

def Spill.reset : Spill := ⟨.idle, 0, false, 0, [], [], [], false, 0, 0, 0, 0, 0, false, false, false, 0, false⟩

def Perf.reset : Perf := ⟨[], [], [], [], false, none, [], none, false⟩

/-- The outputs while PORST_N is low (R82). -/
def Pins.reset : Pins := ⟨false, false, 0b1111, 0, false⟩

/-- The block with PORST_N held low, step 1 of R93 (assumption 3). -/
def State.reset : State where
  porst := false
  instId := 0
  now := 0
  rsck := 0
  rfrac := 0
  rsiAlive := false
  cfg := []
  stat := [(0x8024, 0x10000), (0x8224, 0x10000), (0x8424, 0x10000), (0x8624, 0x10000)]
  caps := []
  news := []
  parErr := []
  walks := []
  frozen := []
  apbM := ⟨true, true, 0, none⟩
  apbK := ⟨true, true, 0, none⟩
  pins := .reset
  clk := .reset
  load := .reset
  tb := .reset
  brk := .reset
  ports := Vector.replicate 32 .reset
  wheel := .reset
  chans := Vector.replicate 16 .reset
  cals := Vector.replicate 16 .reset
  quads := Vector.replicate 4 .reset
  op := .reset
  flt := .reset
  mnt := .reset
  keys := .reset
  tap := .reset
  spill := Vector.replicate 8 .reset
  spillLast := Vector.replicate 4 7
  spillAt := Vector.replicate 4 0
  perf := .reset
  dram := []
  free := 0
  pending := []

end Sys2Proof.Machine
end

