-- ==== Sys2Proof/Machine/Codes.lean ====
section
/-!
DEFINITION. The check codes and the encryption of lines: CRC-8 (R132, R182), CRC-32C (R131, R344, R345), AES-256 and
its XTS mode (R464, R465, R471). Byte i of a block or a line is its bits [8i + 7 : 8i].
-/

namespace Sys2Proof.Machine

/-- One bit of a CRC-8 with polynomial 0x07, most significant bit first. -/
def crc8Bit (c : BitVec 8) (b : Bool) : BitVec 8 :=
  if c.msb ^^ b then (c <<< 1) ^^^ 0x07 else c <<< 1

/-- CRC-8 over the top `n` bits of `w` below bit `hi`, in transmission order. -/
def crc8Bits (w : Nat) : Nat → BitVec 8 → BitVec 8
  | 0, c => c
  | n + 1, c => crc8Bits w n (crc8Bit c (natBit w n))

/-- CRC-8 of a list of bytes (R132). -/
def crc8 (bs : List Byte) : BitVec 8 := bs.foldl (fun c b => crc8Bits b.toNat 8 c) 0

/-- One bit of the reflected CRC-32C. -/
def crc32cShift : Nat → Word → Word
  | 0, c => c
  | n + 1, c => crc32cShift n (if c.getLsbD 0 then (c >>> 1) ^^^ 0x82F63B78 else c >>> 1)

def crc32cByte (c : Word) (b : Byte) : Word := crc32cShift 8 (c ^^^ b.setWidth 32)

/-- The running CRC-32C over bytes, from its initial value 0xFFFF_FFFF; the final XOR is `crc32cEnd`. -/
def crc32cBytes (c : Word) (bs : List Byte) : Word := bs.foldl crc32cByte c

def crc32cEnd (c : Word) : Word := c ^^^ 0xFFFFFFFF

def crc32c (bs : List Byte) : Word := crc32cEnd (crc32cBytes 0xFFFFFFFF bs)

/-- The `n` lowest bytes of a number, byte 0 first. -/
def bytesOf : Nat → Nat → List Byte
  | 0, _ => []
  | n + 1, w => BitVec.ofNat 8 w :: bytesOf n (w / 256)

/-- The number whose bytes are listed, byte 0 first. -/
def natOfBytes (bs : List Byte) : Nat := bs.foldr (fun b acc => acc * 256 + b.toNat) 0

/-- The check code of a data line (R344): its plaintext, then its line index. -/
def lineCrc (d : Line) (line : Nat) : Word := crc32c (bytesOf 256 d.toNat ++ bytesOf 4 line)

/-- The S-box of FIPS 197, entry i in bits [8i + 7 : 8i]. -/
def sboxBits : Nat := 0x16BB54B00F2D99416842E6BF0D89A18CDF2855CEE9871E9B948ED9691198F8E19E1DC186B95735610EF6034866B53E708A8BBD4B1F74DDE8C6B4A61C2E2578BA08AE7A65EAF4566CA94ED58D6D37C8E779E4959162ACD3C25C2406490A3A32E0DB0B5EDE14B8EE4688902A22DC4F816073195D643D7EA7C41744975FEC130CCDD2F3FF1021DAB6BCF5389D928F40A351A89F3C507F02F94585334D43FBAAEFD0CF584C4A39BECB6A5BB1FC20ED00D153842FE329B3D63B52A05A6E1B1A2C830975B227EBE28012079A059618C323C7041531D871F1E5A534CCF73F362693FDB7C072A49CAFA2D4ADF04759FA7DC982CA76ABD7FE2B670130C56F6BF27B777C63

/-- The inverse S-box. -/
def sboxInvBits : Nat := 0x7D0C2155631469E126D677BA7E042B17619953833CBBEBC8B0F52AAE4D3BE0A0EF9CC9939F7AE52D0D4AB519A97F51605FEC8027591012B131C7078833A8DD1FF45ACD78FEC0DB9A2079D2C64B3E56FC1BBE18AA0E62B76F89C5291D711AF1476EDF751CE837F9E28535ADE72274AC9673E6B4F0CECFF297EADC674F4111913A6B8A130103BDAFC1020F3FCA8F1E2CD00645B3B80558E4F70AD3BC8C00ABD890849D8DA75746155EDAB9EDFD5048706C92B6655DCC5CA4D41698688664F6F87225D18B6D49A25B76B224D92866A12E084EC3FA420B954CEE3D23C2A632947B54CBE9DEC444438E3487FF2F9B8239E37CFBD7F3819EA340BF38A53630D56A0952

def sbox (b : Byte) : Byte := BitVec.ofNat 8 (sboxBits >>> (8 * b.toNat))

def sboxInv (b : Byte) : Byte := BitVec.ofNat 8 (sboxInvBits >>> (8 * b.toNat))

def xtime (b : Byte) : Byte := if b.msb then (b <<< 1) ^^^ 0x1B else b <<< 1

/-- Multiplication in the field of AES by a constant below 16. -/
def gmul (k : Nat) (b : Byte) : Byte :=
  let b2 := xtime b
  let b4 := xtime b2
  let b8 := xtime b4
  (if natBit k 0 then b else 0) ^^^ (if natBit k 1 then b2 else 0) ^^^ (if natBit k 2 then b4 else 0)
    ^^^ (if natBit k 3 then b8 else 0)

def xorBytes (a b : List Byte) : List Byte := List.zipWith (· ^^^ ·) a b

/-- The byte at row r of column c, of a state listed column by column. -/
def aesAt (s : List Byte) (c r : Nat) : Byte := s.getD (4 * (c % 4) + r % 4) 0

def aesMap (f : Nat → Nat → Byte) : List Byte :=
  [0, 1, 2, 3].flatMap fun c => [0, 1, 2, 3].map fun r => f c r

/-- MixColumns with the given first row of its matrix. -/
def mixColumns (k : Nat × Nat × Nat × Nat) (s : List Byte) : List Byte :=
  aesMap fun c r => gmul k.1 (aesAt s c r) ^^^ gmul k.2.1 (aesAt s c (r + 1)) ^^^ gmul k.2.2.1 (aesAt s c (r + 2))
    ^^^ gmul k.2.2.2 (aesAt s c (r + 3))

def shiftRows (s : List Byte) : List Byte := aesMap fun c r => aesAt s (c + r) r

def shiftRowsInv (s : List Byte) : List Byte := aesMap fun c r => aesAt s (c + 4 - r) r

/-- The words of the AES-256 key schedule after the first eight, newest first (`ws` holds those made so far). -/
def expandKey : Nat → Byte → List (List Byte) → List (List Byte)
  | 0, _, ws => ws
  | n + 1, rcon, ws =>
    let i := ws.length
    let prev := ws.getD 0 []
    let old := ws.getD 7 []
    let t := if i % 8 = 0 then
        xorBytes ((prev.drop 1 ++ prev.take 1).map sbox) [rcon, 0, 0, 0]
      else if i % 8 = 4 then prev.map sbox else prev
    expandKey n (if i % 8 = 0 then xtime rcon else rcon) (xorBytes old t :: ws)

/-- The 15 round keys of AES-256. -/
def roundKeys (key : BitVec 256) : List (List Byte) :=
  let kb := bytesOf 32 key.toNat
  let first := (List.range 8).map fun i => (kb.drop (4 * i)).take 4
  let ws := (expandKey 52 0x01 first.reverse).reverse
  (List.range 15).map fun r => ((ws.drop (4 * r)).take 4).flatten

/-- AES-256 encryption of one block, from its round keys. -/
def aesEncRounds : List (List Byte) → List Byte → List Byte
  | [], s => s
  | [k], s => xorBytes (shiftRows (s.map sbox)) k
  | k :: ks, s => aesEncRounds ks (xorBytes (mixColumns (2, 3, 1, 1) (shiftRows (s.map sbox))) k)

def aesEnc (ks : List (List Byte)) (s : List Byte) : List Byte :=
  aesEncRounds ks.tail (xorBytes s (ks.headD []))

/-- AES-256 decryption of one block, from its round keys in reverse. -/
def aesDecRounds : List (List Byte) → List Byte → List Byte
  | [], s => s
  | [k], s => xorBytes ((shiftRowsInv s).map sboxInv) k
  | k :: ks, s => aesDecRounds ks (mixColumns (14, 11, 13, 9) (xorBytes ((shiftRowsInv s).map sboxInv) k))

def aesDec (ks : List (List Byte)) (s : List Byte) : List Byte :=
  let rs := ks.reverse
  aesDecRounds rs.tail (xorBytes s (rs.headD []))

/-- The next tweak of XTS: multiplication by alpha. -/
def xtsNext (t : BitVec 128) : BitVec 128 := if t.msb then (t <<< 1) ^^^ 0x87 else t <<< 1

/-- The blocks of a line through XTS, from block 0 upward. -/
def xtsBlocks (f : List Byte → List Byte) : Nat → BitVec 128 → Nat → List Byte
  | 0, _, _ => []
  | n + 1, t, d =>
    let tb := bytesOf 16 t.toNat
    xorBytes (f (xorBytes (bytesOf 16 d) tb)) tb ++ xtsBlocks f n (xtsNext t) (d / 2 ^ 128)

/-- The first tweak of a line: its line index under Key2 (R465). -/
def xtsTweak (key2 : BitVec 256) (line : Nat) : BitVec 128 :=
  BitVec.ofNat 128 (natOfBytes (aesEnc (roundKeys key2) (bytesOf 16 line)))

/-- Encryption of a 256-byte line (R464, R465). -/
def xtsEnc (key1 key2 : BitVec 256) (line : Nat) (d : Line) : Line :=
  let ks := roundKeys key1
  BitVec.ofNat 2048 (natOfBytes (xtsBlocks (aesEnc ks) 16 (xtsTweak key2 line) d.toNat))

def xtsDec (key1 key2 : BitVec 256) (line : Nat) (d : Line) : Line :=
  let ks := roundKeys key1
  BitVec.ofNat 2048 (natOfBytes (xtsBlocks (aesDec ks) 16 (xtsTweak key2 line) d.toNat))

/-- The key check value (R471): AES-256 of the zero block under Key1, its first two bytes. -/
def keyCheck (key1 : BitVec 256) : BitVec 16 :=
  BitVec.ofNat 16 (natOfBytes (aesEnc (roundKeys key1) (bytesOf 16 0)))

end Sys2Proof.Machine
end

