-- ==== Sys2Proof/Machine/Ops.lean ====
section
/-!
DEFINITION. The shared operations over the state: units and times, the fields of the register files, the channel table,
and small updates of ports, channels and quads.
-/

namespace Sys2Proof.Machine

/-- The configuration value of a field, as loaded and as written since. -/
def State.cf (s : State) (f : Field) : Nat := s.cfg.fget f

/-- The value of a status field whose home is the register itself. -/
def State.st (s : State) (f : Field) : Nat := s.stat.fget f

/-- A one-bit configuration field. -/
def State.on (s : State) (f : Field) : Bool := s.cf f == 1

/-- A hardware update of a status field; a register found with a parity mismatch stays as it is (R173). -/
def State.setSt (s : State) (f : Field) (v : Nat) : State :=
  if s.frozen.contains f.addr then s else { s with stat := s.stat.fset f v }

/-- Remember what this cc does to a status field, for a read that clears it in the same cc (R161). -/
def State.tell (s : State) (f : Field) (n : News) : State := { s with news := (f, n) :: s.news }

/-- Count `n` in a saturating counter field. -/
def State.bump (s : State) (f : Field) (n : Nat := 1) : State :=
  (s.setSt f (satAdd f.max (s.st f) n)).tell f (.add n)

/-- Set bits of a status field. -/
def State.setBits (s : State) (f : Field) (w : Nat) : State := (s.setSt f (s.st f ||| w)).tell f (.bits w)

/-- Write a whole register of `cfg`, with its parity computed anew where that changes it (R170), unless it is frozen
(R173). -/
def State.setCfgWord (s : State) (a : Nat) (w : Word) : State :=
  if s.frozen.contains a ∨ s.cfg.get a = w then s
  else { s with cfg := s.cfg.set a w, parErr := s.parErr.filter (· ≠ a) }

/-- A hardware update of a configuration field. -/
def State.setCf (s : State) (f : Field) (v : Nat) : State :=
  s.setCfgWord f.addr (f.put (s.cfg.get f.addr) v)

/-- The timestamp of R10, into the two registers of R11. -/
def State.stamp (s : State) (line frame : Field) : State :=
  (s.setSt line s.tb.last.line.toNat).setSt frame s.tb.last.frame.toNat

/-- The numbers of the counted events (R511). -/
inductive Ev
  | reqRd | reqWr | linesRd | linesWr | lines | beatsW | beatsD | respBad | shaped | demoted | calLines | gateWait
  | perchFull | qstall | rdInfl | tunHold | act | rd | wr | pre | ref | refLimit | rowHit | turn | dqBusy | rmw
  | refetch | mdMiss | mdWb | hazFull | linesAll | lowPwr
  deriving DecidableEq, Repr

def Ev.num : Ev → Nat
  | .reqRd => 0x02 | .reqWr => 0x03 | .linesRd => 0x04 | .linesWr => 0x05 | .lines => 0x06 | .beatsW => 0x07
  | .beatsD => 0x08 | .respBad => 0x09 | .shaped => 0x0A | .demoted => 0x0B | .calLines => 0x0C | .gateWait => 0x0D
  | .perchFull => 0x0E | .qstall => 0x0F | .rdInfl => 0x10 | .tunHold => 0x11 | .act => 0x40 | .rd => 0x41
  | .wr => 0x42 | .pre => 0x43 | .ref => 0x44 | .refLimit => 0x45 | .rowHit => 0x46 | .turn => 0x47
  | .dqBusy => 0x48 | .rmw => 0x49 | .refetch => 0x4A | .mdMiss => 0x4B | .mdWb => 0x4C | .hazFull => 0x4D
  | .linesAll => 0x4E | .lowPwr => 0x4F

/-- Note `n` occurrences of a counted event in this cc at a unit (R509, R511). -/
def State.note (s : State) (ev : Ev) (unit : Nat) (n : Nat := 1) : State :=
  { s with perf := { s.perf with evts := (ev.num, unit, n) :: s.perf.evts } }

-- times

/-- A time in µs as rsck at the frequency in TB_RSIFREQ, rounded up (R91, R359). -/
def State.usRsck (s : State) (us : Nat) : Nat := ceilDiv (us * s.cf TB_RSIFREQ_KHZ) 1000

/-- The numerator and denominator of N (R86); N is 1 while CCLK runs on the bypass. -/
def State.nNum (s : State) : Nat :=
  s.cf TB_CLKCFG_NINT * s.cf TB_CLKCFG_NMOD + s.cf TB_CLKCFG_NFRAC

def State.nDen (s : State) : Nat := max 1 (s.cf TB_CLKCFG_NMOD)

/-- A time in µs as cc of the core PLL's CCLK, rounded up. -/
def State.usCc (s : State) (us : Nat) : Nat :=
  ceilDiv (us * s.cf TB_RSIFREQ_KHZ * s.nNum) (1000 * s.nDen)

/-- CCLK is running: PORST_N high and RSI_CK present. -/
def State.clocked (s : State) : Bool := s.porst && s.rsiAlive

/-- The CK:CCLK divisor of an operating point: 1, 2, 4 or 8 (R39). -/
def State.ratio (s : State) (k : Nat) : Nat := 2 ^ s.cf (TB_OP_RATIO k)

/-- The divisor in force, in cc per ck. -/
def State.ck (s : State) : Nat := s.ratio s.op.cur

/-- A ck of the point in force begins in this cc (R293). -/
def State.ckBegins (s : State) : Bool := s.now % s.ck == 0

/-- cc since a mark. -/
def State.since (s : State) (mark : Nat) : Nat := s.now - mark

/-- The record is good (R20). -/
def State.good (s : State) : Bool := s.load.state == 2

-- units by number

def State.chan (s : State) (c : Nat) : Chan := s.chans.getD c .reset

def State.onChan (s : State) (c : Nat) (f : Chan → Chan) : State := { s with chans := upd s.chans c f }

def State.cal (s : State) (c : Nat) : ChanCal := s.cals.getD c .reset

def State.onCal (s : State) (c : Nat) (f : ChanCal → ChanCal) : State := { s with cals := upd s.cals c f }

def State.quad (s : State) (q : Nat) : Quad := s.quads.getD q .reset

def State.onQuad (s : State) (q : Nat) (f : Quad → Quad) : State := { s with quads := upd s.quads q f }

def State.port (s : State) (p : Nat) : Port := s.ports.getD p .reset

def State.onPort (s : State) (p : Nat) (f : Port → Port) : State := { s with ports := upd s.ports p f }

def State.spill_ (s : State) (d : Nat) : Spill := s.spill.getD d .reset

def State.onSpill (s : State) (d : Nat) (f : Spill → Spill) : State := { s with spill := upd s.spill d f }

def Chan.rank (c : Chan) (r : Nat) : Rank := c.ranks.getD r .reset

def Chan.onRank (c : Chan) (r : Nat) (f : Rank → Rank) : Chan := { c with ranks := upd c.ranks r f }

def Rank.bank (k : Rank) (b : Nat) : Bank := k.banks.getD b .reset

def Rank.onBank (k : Rank) (b : Nat) (f : Bank → Bank) : Rank := { k with banks := upd k.banks b f }

def Rank.mapBanks (k : Rank) (f : Bank → Bank) : Rank := { k with banks := k.banks.map f }

def State.onRank (s : State) (c r : Nat) (f : Rank → Rank) : State := s.onChan c (·.onRank r f)

def State.rank (s : State) (c r : Nat) : Rank := (s.chan c).rank r

/-- The quad of a channel (R18). -/
def quadOf (c : Nat) : Nat := c / 4

/-- The four channels of a quad. -/
def quadChans (q : Nat) : List Nat := [4 * q, 4 * q + 1, 4 * q + 2, 4 * q + 3]

def allChans : List Nat := List.range 16

/-- Every rank of every channel of a list. -/
def ranksOf (cs : List Nat) : List (Nat × Nat) := cs.flatMap fun c => [(c, 0), (c, 1)]

def State.quadClk (s : State) (q : Nat) : QuadClk := s.clk.quads.getD q .reset

def State.onQuadClk (s : State) (q : Nat) (f : QuadClk → QuadClk) : State :=
  { s with clk := { s.clk with quads := upd s.clk.quads q f } }

-- the channel table (R221, R224)

/-- L, the number of logical channels. -/
def State.logicals (s : State) : Nat := s.cf GL_AMAP_LCH + 1

/-- C, the data lines per channel. -/
def State.lines (s : State) : Nat := s.cf GL_CHLINES_LINES

/-- Entry `i` of the channel table. -/
def State.tableAt (s : State) (i : Nat) : Nat :=
  if i < 8 then natBits (s.cf GL_L2P0_LOG) (4 * i) 4 else natBits (s.cf GL_L2P1_LOG) (4 * (i - 8)) 4

def State.table (s : State) : List Nat := (List.range 16).map s.tableAt

/-- The logical channel a physical channel serves in entries 0 to L − 1. -/
def State.logicalOf (s : State) (c : Nat) : Option Nat := (s.table.take s.logicals).findIdx? (· == c)

/-- Evict a gill that is not yet evicting (R354). -/
def Gill.evictFor (g : Gill) (why : EvictCause) : Gill := if g.evict.isSome then g else { g with evict := some why }

/-- Every byte of a gill's line is held. -/
def Gill.whole (g : Gill) : Bool := g.mask == BitVec.allOnes 256

/-- Evict the incomplete gills of a channel that meet a test. -/
def Chan.evictGills (c : Chan) (why : EvictCause) (f : Gill → Bool) : Chan :=
  { c with gills := c.gills.map fun g => g.map fun g => if !g.whole && f g then g.evictFor why else g }

/-- Write the table; both registers change in one cycle (R224). -/
def State.setTable (s : State) (t : List Nat) : State :=
  let word (l : List Nat) : Nat := l.foldr (fun e acc => acc * 16 + e % 16) 0
  (s.setCf GL_L2P0_LOG (word (t.take 8))).setCf GL_L2P1_LOG (word (t.drop 8))

/-- A channel in service: ACTIVE, WEARING or EVACUATING. -/
def Chan.inService (c : Chan) : Bool :=
  c.state == .active || c.state == .wearing || c.state == .evacuating

/-- A channel that takes part in the sequences over self-refresh: in service or SPARE. -/
def State.live (s : State) (c : Nat) : Bool := (s.chan c).inService || (s.chan c).state == .spare

/-- A rank that is neither in self-refresh nor in deep sleep. -/
def Rank.awake (k : Rank) : Bool := k.power == .active || k.power == .powerDown

/-- The state asked for is entered with the payment of R326. -/
def Want.pays : Want → Bool
  | .serve => false
  | .selfRefresh pay | .deepSleep pay => pay

/-- Ask a rank to enter a power state: PREab first, then the payment where one is due (R326). -/
def Rank.ask (w : Want) (k : Rank) : Rank :=
  { k with want := w, nap := false, check := false, preDue := k.awake, forced := k.awake && w.pays && k.keeps }

/-- Ask a rank to enter self-refresh without payment, or deep sleep where it is on its way there (R101, R106, R326). -/
def Rank.askNow (k : Rank) : Rank :=
  k.ask (match k.want with | .deepSleep _ => .deepSleep false | _ => .selfRefresh false)

/-- Ask a rank to serve, with a check before its first column command; a rank in deep sleep stays there. -/
def Rank.rouse (check : Bool) (k : Rank) : Rank :=
  match k.want with
  | .deepSleep _ => k
  | _ => { k with want := .serve, nap := false, preDue := false, forced := false, check := check }

/-- Change both ranks of a channel. -/
def State.onRanks (s : State) (c : Nat) (f : Rank → Rank) : State :=
  s.onChan c fun x => { x with ranks := x.ranks.map f }

def ChanState.code : ChanState → Nat
  | .init => 0 | .active => 1 | .wearing => 2 | .evacuating => 3 | .spare => 4 | .retired => 5 | .test => 6

/-- A quad has a channel in service. -/
def State.quadServes (s : State) (q : Nat) : Bool := (quadChans q).any fun c => (s.chan c).inService

/-- PARTNER of a channel, while valid (R310, CHn_STATE). -/
def State.partner (s : State) (c : Nat) : Option Nat :=
  if s.st (CH_STATE_PART_VALID c) == 1 then some (s.st (CH_STATE_PARTNER c)) else none

def State.setPartner (s : State) (c : Nat) (p : Option Nat) : State :=
  (s.setSt (CH_STATE_PARTNER c) (p.getD 0)).setSt (CH_STATE_PART_VALID c) (b2n p.isSome)

/-- A stamp is older than another by modular difference, and by line within a frame (R13). -/
def Stamp.older (a b : Stamp) : Bool :=
  if a.frame = b.frame then a.line.toNat < b.line.toNat else (b.frame - a.frame).toNat < 2 ^ 23

-- sparse lists keyed by number, strictly rising

/-- Sort by a key, equal keys in their former order. -/
def insertBy {α : Type} (key : α → Nat) (a : α) : List α → List α
  | [] => [a]
  | b :: rest => if key b ≤ key a then b :: insertBy key a rest else a :: b :: rest

def sortBy {α : Type} (key : α → Nat) (l : List α) : List α := l.foldl (fun acc a => insertBy key a acc) []

/-- Insert or replace in a list kept in rising order of its keys. -/
def put {α : Type} : List (Nat × α) → Nat → α → List (Nat × α)
  | [], a, v => [(a, v)]
  | (b, w) :: rest, a, v =>
    if a < b then (a, v) :: (b, w) :: rest else if a = b then (a, v) :: rest else (b, w) :: put rest a v

def find {α : Type} : List (Nat × α) → Nat → Option α
  | [], _ => none
  | (b, w) :: rest, a => if a = b then some w else find rest a

def drop {α : Type} (l : List (Nat × α)) (a : Nat) : List (Nat × α) := l.filter (fun c => c.1 ≠ a)

-- held writes of counters

def State.onPerf (s : State) (f : Perf → Perf) : State := { s with perf := f s.perf }

/-- A write to any register of a window drops the low halves held there, but for that of the counter it addresses, whose
low register lies at a multiple of 8 (R513). -/
def dropHeld (a : Nat) (s : State) : State :=
  s.onPerf fun f => { f with held := f.held.filter fun e => winOf e.1 ≠ winOf a || e.1 == a / 8 * 8 }

/-- A register found with a mismatch lies in a window. -/
def State.frozenIn (s : State) (w : Win) : Bool := s.frozen.any fun a => winOf a == w

end Sys2Proof.Machine
end

