-- ==== Sys2Proof/Machine/Flags.lean ====
section
/-!
DEFINITION. Status bits, faults and events: the sources of R435, the escalation of R439, the fault log (R444, R445), the
halt and the entry to take-preservation mode, and the interrupt lines (R69, R443).
-/

namespace Sys2Proof.Machine

/-- The fault sources in the order of their bit numbers (R435). -/
inductive Src
  | pllsb | pllfb | pllbyp | core | rsiret | rsidebt | rsiword | reflost | templo | temphi | vack | retrain | phycode
  | trans | mtrans | persist | recomp | tunrst | hstall | parc | parf | spared | lost | nospare | spillerr | cfgfail
  deriving DecidableEq, Repr

/-- The bit number of a source (R435). -/
def Src.bit : Src → Nat
  | .pllsb => 0 | .pllfb => 1 | .pllbyp => 2 | .core => 3 | .rsiret => 4 | .rsidebt => 5 | .rsiword => 6
  | .reflost => 7 | .templo => 8 | .temphi => 9 | .vack => 10 | .retrain => 11 | .phycode => 12 | .trans => 13
  | .mtrans => 14 | .persist => 15 | .recomp => 16 | .tunrst => 17 | .hstall => 18 | .parc => 19 | .parf => 20
  | .spared => 21 | .lost => 22 | .nospare => 23 | .spillerr => 24 | .cfgfail => 25

/-- The native class: 1 corrected, 2 contained, 3 fatal (R434, R435). -/
def Src.cls : Src → Nat
  | .pllbyp | .temphi | .persist | .recomp | .tunrst | .hstall | .parc | .lost | .spillerr => 2
  | .core | .rsidebt | .parf | .nospare | .cfgfail => 3
  | _ => 1

/-- The events of R436. -/
inductive Evt
  | jump | mode | hold | tunfb | scrub | swap | rekey | keyz | spill | pmovf
  deriving DecidableEq, Repr

def Evt.bit : Evt → Nat
  | .jump => 0 | .mode => 1 | .hold => 2 | .tunfb => 3 | .scrub => 4 | .swap => 5 | .rekey => 6 | .keyz => 7
  | .spill => 8 | .pmovf => 9

/-- Set bit `i` of a status field. -/
def State.setBit (s : State) (f : Field) (i : Nat) : State := s.setBits f (2 ^ i)

/-- Raise an event (R436). -/
def event (e : Evt) (s : State) : State := s.setBit FT_STSEVT_EVT e.bit

/-- The status register of an effective class (R437). -/
def stsOf (cls : Nat) : Field :=
  if cls = 1 then FT_STSCORR_SRC else if cls = 2 then FT_STSCONT_SRC else FT_STSFATAL_SRC

def occOf (cls : Nat) : Field :=
  if cls = 1 then FT_OCC_CORR else if cls = 2 then FT_OCC_CONT else FT_OCC_FATAL

def Flt.setUnack (f : Flt) (cls : Nat) (v : Bool) : Flt :=
  if cls = 1 then { f with unackCorr := v } else if cls = 2 then { f with unackCont := v }
  else { f with unackFatal := v }

/-- A class is unacknowledged (R438). -/
def Flt.unack (f : Flt) (cls : Nat) : Bool :=
  if cls = 1 then f.unackCorr else if cls = 2 then f.unackCont else f.unackFatal

/-- The entry a logged occurrence takes: the lowest free one (R444), else that of the lowest effective class below its
own, oldest first, lower index on a tie (R445). -/
def logSlot (log : Vector LogEntry 16) (ecls : Nat) : Option Nat :=
  let es := log.toList.zipIdx
  match es.find? (fun e => !e.1.valid) with
  | some e => some e.2
  | none =>
    let better (a b : LogEntry × Nat) : Bool := b.1.ecls < a.1.ecls || (b.1.ecls = a.1.ecls && b.1.stamp.older a.1.stamp)
    ((es.filter (fun e => e.1.ecls < ecls)).foldl
      (fun best e => match best with | none => some e | some b => if better b e then some e else some b)
      none).map Prod.snd

/-- Log an occurrence, or count it as dropped (R444, R445). -/
def enterLog (e : LogEntry) (s : State) : State :=
  match logSlot s.flt.log e.ecls with
  | none => s.bump FT_LOGSTAT_DROPPED
  | some k => { s with flt := { s.flt with log := upd s.flt.log k fun _ => e } }

/-- An occurrence of a fault, which the collector takes at the end of the cc (R438, R439; assumption 52). -/
def raise (src : Src) (unit info : Nat) (s : State) : State :=
  let e : LogEntry := ⟨true, src.bit, src.cls, src.cls, false, unit, BitVec.ofNat 32 info, s.tb.last⟩
  { s with flt := { s.flt with logs := s.flt.logs ++ [e] } }

/-- Halt one DMA channel with a cause (R505): it drains in HALTING; a channel in IDLE, PAUSED or HALTED has nothing to
halt. -/
def spillHalt (d cause : Nat) (s : State) : State :=
  match (s.spill_ d).state with
  | .run | .wait | .pausing => event .spill (s.onSpill d fun c => { c with state := .halting, hcause := cause })
  | _ => s

/-- Every DMA channel halts with the block (R505). -/
def spillStops (s : State) : State := (List.range 8).foldl (fun s d => spillHalt d 6 s) s

/-- Step 1 of a halt (R441), shared with the stop for secure test access (R484): no request is taken, DM_READY falls,
every ING_HOLD bit rises. -/
def stopBlock (s : State) : State :=
  spillStops { s with
    pins := { s.pins with dmReady := false, ingHold := 0b1111 }
    flt := { s.flt with haltStep := 2 } }

/-- The halt on a second fatal fault (R441 step 1). -/
def halt (s : State) : State := stopBlock { s with flt := { s.flt with halted := true } }

/-- Enter take-preservation mode for a source (R458); a rekey pass pauses (R479). -/
def takeMode (src : Nat) (s : State) : State :=
  let s := if s.flt.take then s else
    { s with flt := { s.flt with take := true, takeSrc := src, takeStamp := s.tb.last } }
  if s.keys.rkState = 1 then { s with keys := { s.keys with rkState := 2 } } else s

/-- GL_STATUS.HALTED (R441, R484). -/
def State.haltedBit (s : State) : Bool := s.flt.halted || (s.flt.testStop && s.flt.haltStep == 4)

/-- The collector judges an occurrence by the flags `f` (R439). TRANS and MTRANS are not logged (R437); CFGFAIL is never
escalated. -/
def judge (f : Flt) (e : LogEntry) (s : State) : State :=
  let cfgFail := e.src == Src.cfgfail.bit
  let cls := if !cfgFail && f.unack e.ncls then e.ncls + 1 else e.ncls
  let logged (halt : Bool) (s : State) : State :=
    if e.src = Src.trans.bit ∨ e.src = Src.mtrans.bit then s else enterLog { e with ecls := min cls 3, halt := halt } s
  if s.haltedBit then logged false s
  else
    let s := logged (cls = 4) (if cls = 4 then halt s else s)
    let s := (s.setBit (stsOf (min cls 3)) e.src).bump (occOf (min cls 3))
    if cfgFail then s
    else
      let s := { s with flt := s.flt.setUnack (min cls 3) true }
      if e.ncls = 3 then takeMode e.src s else s

/-- The occurrences of a cc are taken by source bit and then by UNIT (R445), all judged against the flags that stood at its
start, less those an acknowledgement of the cc has cleared (R438); a clear of the log in the cc acts first (R446). -/
def settleLog (s : State) : State :=
  (sortBy (fun e => 2 ^ 16 * e.src + e.unit) s.flt.logs).foldl (fun t e => judge s.flt e t)
    { s with flt := { s.flt with logs := [] } }

/-- The cause of a source still stands (R160, the column "Persists while" of R435). -/
def persists (s : State) (bit : Nat) : Bool :=
  if bit = 2 then s.clk.quads.any (·.wait)
  else if bit = 3 then s.clk.core.st == .failed
  else if bit = 5 then s.clk.debtOver
  else if bit = 9 then s.chans.any fun c => c.ranks.any (·.cls == 7)
  else if bit = 18 then s.chans.any fun c => c.wdTripped && c.arb.hold.isSome
  else if bit = 19 then s.frozen.any fun a => 0x3000 ≤ a && a < 0xC000 && winOf a ≠ .ky && winOf a ≠ .pt 31
  else if bit = 20 then s.frozen.any fun a => !(0x3000 ≤ a && a < 0xC000 && winOf a ≠ .ky && winOf a ≠ .pt 31)
  else if bit = 23 then s.flt.take
  else if bit = 25 then s.load.state == 3
  else false

/-- The bits of a status word whose cause persists. -/
def persistBits (s : State) (w : Nat) : Nat :=
  (List.range 26).foldl (fun acc i => if natBit w i && persists s i then acc + 2 ^ i else acc) 0

-- the interrupt outputs

/-- An interrupt line is high while an enabled bit of its class is set (R69, R443); all are low in PORST_N (R82). -/
def irqCorr (s : State) : Bool := s.porst && (s.st FT_STSCORR_SRC &&& s.cf FT_ENCORR_SRC) ≠ 0

def irqCont (s : State) : Bool := s.porst && (s.st FT_STSCONT_SRC &&& s.cf FT_ENCONT_SRC) ≠ 0

/-- IRQ_FATAL is high as well while the block is halted or its load has failed, whatever the enables (R443). -/
def irqFatal (s : State) : Bool :=
  s.porst && ((s.st FT_STSFATAL_SRC &&& s.cf FT_ENFATAL_SRC) ≠ 0 || s.haltedBit || s.load.state == 3)

def irqEvt (s : State) : Bool := s.porst && (s.st FT_STSEVT_EVT &&& s.cf FT_ENEVT_EVT) ≠ 0

end Sys2Proof.Machine
end

