-- ==== Sys2Proof/Machine/Raster.lean ====
section
/-!
DEFINITION. The raster timebase: words (R179–R183), the running position (R186–R188), the line period (R190–R193), the
timebase states (R194–R197) and the ends of gaps (R197, R202). Starting a frame or a gap reaches the engines and stands
in Gaps.lean.
-/

namespace Sys2Proof.Machine

-- words (R179)

def wordSync (w : BitVec 64) : Nat := natBits w.toNat 56 8

def wordFrame (w : BitVec 64) : BitVec 24 := w.extractLsb' 32 24

def wordLine (w : BitVec 64) : BitVec 16 := w.extractLsb' 16 16

def wordEvent (w : BitVec 64) : Nat := natBits w.toNat 8 4

/-- Bits [63:8] of a word as bytes in transmission order. -/
def wordBytes (w : BitVec 64) : List Byte :=
  [56, 48, 40, 32, 24, 16, 8].map fun lo => BitVec.ofNat 8 (natBits w.toNat lo 8)

/-- The tests of R181 on one word by itself. -/
def validWord (w : BitVec 64) : Bool :=
  wordSync w == 0xA7 && (crc8 (wordBytes w)).toNat == natBits w.toNat 0 8 && natBits w.toNat 12 4 == 0 &&
    wordEvent w ≤ 5 && (wordEvent w ≠ 2 || wordLine w == 0)

-- position

/-- The period the raster runs on is synthetic in NOSYNC and ACQUIRE (R194). -/
def Tb.synthetic (b : Tb) : Bool := b.state == .nosync || b.state == .acquire

/-- TB_LINEPER.PERIOD: P, or the synthetic period outside LOCKED and HOLDOVER. -/
def State.lineper (s : State) : Nat := if s.tb.synthetic then s.cf TB_SYNPER_PERIOD else s.tb.period

/-- The running grain (R186). -/
def State.grain (s : State) : Nat :=
  if s.tb.linePeriod = 0 then 0 else min 1023 (s.tb.t * 16384 / s.tb.linePeriod)

/-- The position runs: the record is good and RSI_CK runs (R196, R197). -/
def State.rasterRuns (s : State) : Bool := s.clocked && s.good && s.tb.linePeriod ≠ 0

/-- Grain 1,024 is reached (R186). -/
def State.lineOver (s : State) : Bool := s.rasterRuns && s.tb.t * 16 ≥ s.tb.linePeriod

/-- Gaps are used from step 10 of R93 on (R197). -/
def State.gapsUsed (s : State) : Bool := s.rasterRuns && s.clk.startStep == 0

/-- H, the grain at which a horizontal gap begins (R198). -/
def State.hStart (s : State) : Nat := s.tb.hbGrain.getD (s.cf TB_HBCFG_HBSTART)

-- gaps end

/-- A gap of a kind ends: a booking granted in it that runs on counts its overrun against the next gap of the kind in
its scope (R202). -/
def endGap (k : GapKind) (s : State) : State :=
  let late := s.brk.granted.filterMap fun g =>
    if g.gap = k ∧ g.ends > s.now then some (k, g.book.scope, g.ends - s.now) else none
  let note (g : Grant) : Grant := if g.gap = k ∧ g.gapEnd.isNone then { g with gapEnd := some s.now } else g
  let ended := if k = .h then s.tb.inH else s.tb.inV
  if ended then
    { s with
      brk := { s.brk with overruns := s.brk.overruns ++ late, granted := s.brk.granted.map note }
      tb := if k = .h then { s.tb with inH := false } else { s.tb with inV := false } }
  else s

def endGaps (s : State) : State := endGap .v (endGap .h s)

-- states

/-- TB_FRMLINES holds the synthetic frame (R200). -/
def synFrame (s : State) : State :=
  { s with tb := { s.tb with
      frmLines := s.cf TB_SYNFRM_LINES, frmVb := s.cf TB_SYNFRM_VBSTART
      linePeriod := s.cf TB_SYNPER_PERIOD, begunLocked := false } }

/-- Enter NOSYNC: P, a candidate and a measurement in progress are discarded and the synthetic raster runs (R196–R198). Line
and position go on from where they stand (assumption 48). -/
def enterNosync (s : State) : State :=
  synFrame { s with tb := { s.tb with
    state := .nosync, period := 0, cand := none, meas := none, hbGrain := none, since := 0, held := 0 } }

/-- CCLK has changed its source or RSI_CK has returned (R197). -/
def sourceChanged (s : State) : State := enterNosync (endGaps s)

/-- The 64 bits that end in this rsck overlap a valid word (R181). -/
def State.overlapsWord (s : State) : Bool := match s.tb.validAt with | none => false | some t => s.rsck < t + 64

/-- Every valid word updates the timestamp, and a valid word in NOSYNC begins ACQUIRE (R184, R194). -/
def takeWord (w : BitVec 64) (s : State) : State :=
  { s with tb := { s.tb with
      last := ⟨wordFrame w, wordLine w⟩, validAt := some s.rsck
      state := if s.tb.state = .nosync ∧ s.good then TbState.acquire else s.tb.state } }

/-- The command is a valid word with the given event, received while RSI_CK runs. -/
def State.takes (s : State) (w : BitVec 64) (ev : Nat) : Bool :=
  s.clocked && validWord w && !s.overlapsWord && wordEvent w == ev

-- lines

/-- Begin line `l` at grain 0; the former line's horizontal gap ends (R186, R187). -/
def beginLine (l : BitVec 16) (own : Bool) (s : State) : State :=
  let s := endGap .h s
  { s with tb := { s.tb with line := l, t := 0, own := own, linePeriod := s.lineper } }

/-- The running position began line `l` on its own within the last 16 grains (R187). -/
def State.justBegun (s : State) (l : Nat) : Bool :=
  s.tb.linePeriod ≠ 0 && s.tb.own && s.tb.line.toNat == l && s.tb.t * 1024 ≤ s.tb.linePeriod

/-- The number of the line after the running one. -/
def State.nextLine (s : State) : Nat :=
  if s.tb.line.toNat + 1 ≥ s.tb.frmLines then 0 else s.tb.line.toNat + 1

/-- The running position would begin line `l` within the next 16 grains (R187). -/
def State.aboutToBegin (s : State) (l : Nat) : Bool :=
  s.nextLine == l && 63 * s.tb.linePeriod ≤ 1024 * s.tb.t

/-- A slip counts only in LOCKED and HOLDOVER (R187, R188). -/
def slip (s : State) : State := if s.tb.synthetic then s else s.bump TB_RSIERR_SLIP

/-- A line-start word ends HOLDOVER and restarts the count of lines without one (R194, R195). -/
def lineWordSeen (s : State) : State :=
  { s with tb := { s.tb with
      since := 0, held := 0, state := if s.tb.state = TbState.holdover then TbState.locked else s.tb.state } }

-- measurement

/-- |a − b| is within P / 2^JTOL (R192). -/
def State.withinTol (s : State) (a b : Nat) : Bool :=
  (if a ≥ b then a - b else b - a) * 2 ^ s.cf TB_RSICFG_JTOL ≤ s.tb.period

/-- P takes the measurement, and a candidate is dropped. -/
def adopt (m : Nat) (s : State) : State := { s with tb := { s.tb with period := m, cand := none } }

/-- A measurement inside the range of R191 (R192–R194); an adopted mode change ends the policy's count (R330). One that lies
within T of P and of the candidate is taken for P and counts no jump (assumption 48). -/
def accept (m : Nat) (s : State) : State :=
  if s.tb.mcPend then
    let s := adopt m s
    let s := { s with tb := { s.tb with
      mcPend := false, state := if s.tb.state = TbState.acquire then TbState.locked else s.tb.state } }
    event .mode ({ s with op := { s.op with choices := [] } }.bump TB_RSIEVT_MODES)
  else if s.tb.state = .acquire then
    let s := adopt m s
    { s with tb := { s.tb with state := .locked, since := 0 } }
  else if s.withinTol m s.tb.period then adopt m s
  else match s.tb.cand with
    | none => { s with tb := { s.tb with cand := some m } }
    | some c =>
      if s.withinTol m c then event .jump ((adopt m s).bump TB_RSIEVT_JUMPS)
      else { s with tb := { s.tb with cand := some m } }

/-- A line-start word on a line that is a multiple of 16 ends a measurement begun 16 lines before in the same frame and
begins the next one (R190, R191); in NOSYNC, where a word stands before the record is good, it does neither, which the spec
leaves open (assumption 48). -/
def measure (frame : BitVec 24) (line : Nat) (s : State) : State :=
  if line % 16 ≠ 0 || s.tb.state = .nosync then s
  else
    let former := s.tb.meas
    let s := { s with tb := { s.tb with meas := some (frame, line, s.now) } }
    match former with
    | some (f, l, c) =>
      if f = frame ∧ l + 16 = line then
        let m := s.now - c
        if m < 2560 ∨ m > 9600000 then s.bump TB_RSIERR_RANGE else accept m s
      else s
    | none => s

/-- A line-start word takes effect on the running position (R187): the line begins, with a slip unless the block began
it itself within 16 grains, and position and timestamp agree (R189). -/
def lineWord (w : BitVec 64) (s : State) : State :=
  let l := (wordLine w).toNat
  let s := if s.justBegun l || s.aboutToBegin l then s else slip s
  beginLine (wordLine w) false (lineWordSeen { s with tb := { s.tb with frame := wordFrame w } })

-- meanings

/-- A valid word with event 0x0 updates the timestamp only (R183). -/
def execRsiEventNone (w : BitVec 64) (s : State) : Host.Outcome State Fault Refusal :=
  .next (if s.takes w 0 then takeWord w s else s)

/-- A line start word takes effect (R187, R190). -/
def execLineStart (w : BitVec 64) (s : State) : Host.Outcome State Fault Refusal :=
  .next (if s.takes w 1 then measure (wordFrame w) (wordLine w).toNat (lineWord w (takeWord w s)) else s)

/-- A mode change word: the next valid measurement becomes P; outside a vertical gap it takes effect at the next frame
start, and one in effect already stays so (R193, R200). Before the record is good it is dropped, which the spec leaves open
(assumption 48). -/
def execModeChange (w : BitVec 64) (s : State) : Host.Outcome State Fault Refusal :=
  .next (if s.takes w 5 then
    let s := takeWord w s
    if s.good then
      { s with tb := { s.tb with
          mcPend := s.tb.mcPend || s.tb.inV, mcDefer := s.tb.mcDefer || !s.tb.inV, mcNext := s.tb.mcNext || s.tb.inV } }
    else s
  else s)

/-- A corrupt word counts, unless one counted less than 64 rsck before; the sixteenth of a frame is a corrected fault
(R181, R204). -/
def execCorruptWord (w : BitVec 64) (s : State) : Host.Outcome State Fault Refusal :=
  let recent := match s.tb.corruptAt with | none => false | some t => s.rsck < t + 64
  if s.clocked ∧ wordSync w = 0xA7 ∧ !validWord w ∧ !s.overlapsWord ∧ !recent then
    let s := s.bump TB_RSIERR_CRC
    let s := { s with tb := { s.tb with corruptAt := some s.rsck, corrupt := s.tb.corrupt + 1 } }
    .next (if s.tb.corrupt = 16 then raise .rsiword 0 0 s else s)
  else .next s

/-- The grain would reach 1,024: the block begins the next line itself (R186). -/
def execGrainWrap (s : State) : Host.Outcome State Fault Refusal :=
  if s.lineOver ∧ s.tb.line.toNat + 1 < s.tb.frmLines then
    let s := { s with tb := { s.tb with since := s.tb.since + 1, held := s.tb.held + 1 } }
    .next (beginLine (s.tb.line + 1) true s)
  else .next s

/-- 32 lines have passed in LOCKED without a line-start word (R194, R195). -/
def execHoldoverEntry (s : State) : Host.Outcome State Fault Refusal :=
  if s.rasterRuns ∧ s.tb.state = .locked ∧ s.tb.since ≥ 32 then
    let s := { s with tb := { s.tb with state := .holdover, held := 0 } }
    .next (event .hold (s.bump TB_RSIEVT_HOLDS))
  else .next s

/-- HOLDOVER has lasted HOLD × 16 lines: NOSYNC, a corrected fault (R195, R204). -/
def execHoldoverLimit (s : State) : Host.Outcome State Fault Refusal :=
  if s.rasterRuns ∧ s.tb.state = .holdover ∧ s.tb.held ≥ 16 * s.cf TB_RSICFG_HOLD then
    .next (raise .rsiword 0 1 ((enterNosync s).bump TB_RSIEVT_LOSTS))
  else .next s

end Sys2Proof.Machine
end

