-- ==== Sys2Proof/Machine/Broker.lean ====
section
/-!
DEFINITION. Bookings: posting, the order of the engines, and the estimates of gaps (R199, R201–R203).
-/

namespace Sys2Proof.Machine

/-- Post a booking (R201); the answer is its number. -/
def post (k : GapKind) (sc : Scope) (w : Work) (unit len : Nat) (s : State) (lines : Nat := 0) : Nat × State :=
  let n := s.brk.next
  (n, { s with brk := { s.brk with next := n + 1, posted := s.brk.posted ++ [⟨n, k, sc, w, unit, len, lines, 0, false, false⟩] } })

def postBooking (k : GapKind) (sc : Scope) (w : Work) (unit len : Nat) (s : State) : State := (post k sc w unit len s).2

/-- A booking of some work for a unit is posted. -/
def State.isPosted (s : State) (w : Work) (unit : Nat) : Bool := s.brk.posted.any fun b => b.work == w && b.unit == unit

/-- A granted booking of some work for a unit runs now. -/
def State.granted (s : State) (w : Work) (unit : Nat) : Bool :=
  s.brk.granted.any fun g => g.begun && g.book.work == w && g.book.unit == unit

/-- Drop the posted bookings that meet a test. -/
def State.unpost (s : State) (f : Booking → Bool) : State :=
  { s with brk := { s.brk with posted := s.brk.posted.filter fun b => !f b } }

/-- The length of a scrub, migration or rekey booking of k lines (R393). -/
def State.linesLength (s : State) (k : Nat) : Nat := 64 * s.ck * k + 128

end Sys2Proof.Machine
end

