-- ==== Sys2Proof/Machine/Ports.lean ====
section
/-!
DEFINITION. The Beyvis ports: requests, write beats, responses, port states and the Tun FIFOs (R206–R244), and the
splitter with the address map (R221–R225).
-/

namespace Sys2Proof.Machine

def ingest (p : Nat) : Bool := p < 4

-- requests

/-- The number of beats of a request. -/
def Req.count (r : Req) : Nat := r.len + 1

/-- The first and the last line index a request covers (R31). -/
def Req.firstLine (r : Req) : Nat := r.addr.toNat / 4

def Req.lastLine (r : Req) : Nat := (r.addr.toNat + r.len) / 4

/-- The last beat lies beyond 2^40 − 1 (R208). -/
def Req.crosses (r : Req) : Bool := r.addr.toNat + r.len ≥ 2 ^ 34

/-- Two requests cover a common line. -/
def Req.meets (a b : Req) : Bool := a.firstLine ≤ b.lastLine && b.firstLine ≤ a.lastLine

/-- The beats of line `l` within the request, as positions from its first beat. -/
def Req.beatsOf (r : Req) (l : Nat) : List Nat :=
  (List.range r.count).filter fun i => (r.addr.toNat + i) / 4 = l

/-- Every beat of line `l` within the request is held (R214). -/
def Req.holds (r : Req) (l : Nat) : Bool := (r.beatsOf l).all (· < r.taken)

/-- The bytes and byte enables of line `l` from the beats held. -/
def Req.lineData (r : Req) (l : Nat) : Line × BitVec 256 :=
  (r.beatsOf l).foldl (fun acc i =>
    let b := r.beats.getD i ⟨0, 0⟩
    let at_ := (r.addr.toNat + i) % 4
    (acc.1 ||| (b.data.setWidth 2048 <<< (512 * at_)), acc.2 ||| (b.be.setWidth 256 <<< (64 * at_)))) (0, 0)

/-- Beats of the request in its write buffer: taken, and their line neither handed on nor answered (R214, R237). The beats of a
line that the splitter refuses leave at once, which the spec leaves open (assumption 40). -/
def Req.buffered (r : Req) : Nat :=
  if !r.wr || r.lost then 0
  else if r.lines.isEmpty then
    if r.bad then ((List.range (r.lastLine + 1 - r.firstLine)).map fun k =>
      let l := r.firstLine + k
      if r.holds l then (r.beatsOf l).length else 0).sum
    else r.taken
  else ((r.lines.filter fun l => !l.handed && !l.dead && l.out.isNone).map fun l =>
    ((r.beatsOf l.line).filter (· < r.taken)).length).sum

/-- Occupancy of a port's Tun or staging buffer (R214, R237). -/
def Port.occupancy (p : Port) : Nat := (p.reqs.map Req.buffered).sum

/-- The size of a port's write buffer in beats (R214, R233). -/
def writeBuffer (p : Nat) : Nat := if ingest p then 1024 else 256

/-- The oldest write request that still lacks beats (R211); the offending request takes none (R220). -/
def Port.lacking (p : Port) : Option Req := p.reqs.find? fun r => r.wr && !r.bad && r.taken < r.count

/-- Pn_QREADY (R60, R210, R241); without PCLK no handshake completes (R106). -/
def State.qready (s : State) (p : Nat) : Bool :=
  s.pins.dmReady && s.pins.pclk && (s.port p).state == .run && ((s.port p).reqs.filter (·.stage == .queued)).length < 8

/-- Pn_WREADY (R60, R211, R214, R233, R236): a beat goes to a request accepted in an earlier cc, one beat a cc. -/
def State.wready (s : State) (p : Nat) : Bool :=
  let x := s.port p
  s.pins.dmReady && s.pins.pclk && x.state ≠ .disabled && x.occupancy < writeBuffer p && x.beatAt ≠ some s.now &&
    (match x.lacking, x.flush with
     | none, _ => false
     | some r, none => r.at_ < s.now
     | some r, some n => r.at_ < s.now && r.seq < n)

/-- Requests that hold a tag (TAGS): the offending request of a protocol error until the port is resumed (R220, R242). -/
def Port.tags (p : Port) : Nat := (p.reqs.filter (!·.freed)).length

/-- An offending request whose tag is free goes once it has no line left to hand on (R220, R242). -/
def Port.sweep (p : Port) : Port := { p with reqs := p.reqs.filter fun r => !(r.freed && r.stage == .off) }

/-- Replace the requests of a port that have a given acceptance number. -/
def Port.onReq (p : Port) (seq : Nat) (f : Req → Req) : Port :=
  { p with reqs := p.reqs.map fun r => if r.seq = seq then f r else r }

-- the Tun and ING_HOLD

/-- ING_HOLD[p] has a cause of its own: occupancy between the watermarks' rules, a flush, or a port not in RUN
(R237). -/
def Port.holdNow (p : Port) : Bool := p.hold || p.flush.isSome || p.state ≠ .run

/-- The watermark of R237 for an occupancy. -/
def State.watermark (s : State) (p occ : Nat) : Bool :=
  occ ≥ s.cf (PT_TUNCFG_HWM p) || ((s.port p).hold && occ > s.cf (PT_TUNCFG_LWM p))

/-- ING_HOLD of a port takes a value: a PCLK flop, which holds while PCLK stands (R62, R106); it is forced while DM_READY is 0
(R82). -/
def setIngHold (p : Nat) (v : Bool) (s : State) : State :=
  let bit : BitVec 4 := 1#4 <<< p
  if s.pins.dmReady && s.pins.pclk then
    { s with pins := { s.pins with ingHold := if v then s.pins.ingHold ||| bit else s.pins.ingHold &&& ~~~bit } }
  else s

/-- The fallback of R239 at an occupancy that has moved from `before`. -/
def tunFallback (p before occ : Nat) (s : State) : State :=
  let level := s.cf (PT_TUNFB_LEVEL p)
  let s := if occ ≥ level ∧ before < level ∧ s.st (PT_TUNFB_ARMED p) = 1 then
    event .tunfb (s.setSt (PT_TUNFB_ARMED p) 0) else s
  if occ ≤ level / 2 then s.setSt (PT_TUNFB_ARMED p) 1 else s

/-- A cc ends at a Tun: occupancy is taken after the accept and the hand-over of the cc, ING_HOLD follows in the cc that
begins, and PEAK, FULLS and the fallback follow the occupancy (R237, R239, R240, R244). -/
def tunCc (p : Nat) (s : State) : State :=
  let before := (s.port p).occ
  let occ := (s.port p).occupancy
  let hold := s.watermark p occ
  let s := s.onPort p fun x => { x with occ := occ, hold := hold }
  let held := (s.port p).holdNow
  let s := if s.pins.dmReady && s.pins.pclk && held && !natBit s.pins.ingHold.toNat p then s.bump (PT_TUNEVT_HOLDS p) else s
  let s := setIngHold p held s
  let s := if occ > s.st (PT_TUNSTAT_PEAK p) then s.setSt (PT_TUNSTAT_PEAK p) occ else s
  let s := if occ ≥ 1024 ∧ before < 1024 then s.bump (PT_TUNEVT_FULLS p) else s
  if s.on (PT_CFG_HOLD_FB p) then tunFallback p before occ s else s

-- accepting

/-- A request comes onto the queue of a port with what R207 gives it. -/
def newReq (seq : Nat) (addr : BitVec 34) (len : Nat) (wr : Bool) (tag : BitVec 8) (fence : Bool) : Req where
  seq := seq
  addr := addr
  len := len
  wr := wr
  fence := fence
  tag := tag
  stage := .queued
  tier := 0
  waited := false
  beats := []
  taken := 0
  lines := []
  crossed := false
  bad := false
  lost := false
  cal := false
  at_ := 0
  freed := false
  passAt := none

/-- A protocol error or a parity mismatch moves the port to HALTED with its cause (R220, R242); a mismatch holds a port that
a protocol error has halted as well (R172, R173). -/
def portHalt (p cause : Nat) (s : State) : State :=
  match (s.port p).state with
  | .run | .drain | .stopped => s.onPort p fun x => { x with state := .halted, hcause := cause }
  | .halted => if cause = 1 then s.onPort p fun x => { x with hcause := cause } else s
  | .disabled => s

/-- Accept a request (R207, R209, R220): a tag in use halts the port, and the offending request stays without an
answer. -/
def accept_ (p : Nat) (r : Req) (s : State) : State :=
  let x := s.port p
  let clash := x.reqs.any fun e => e.tag == r.tag && !e.freed
  let r := { r with seq := x.nextSeq, at_ := s.now, bad := clash, stage := if clash then .off else .queued }
  let s := s.onPort p fun x => { x with reqs := x.reqs ++ [r], nextSeq := x.nextSeq + 1 }
  let s := s.note (if r.wr then .reqWr else .reqRd) p
  if clash then portHalt p 2 s else s

/-- Take a write beat for the oldest request that lacks one (R211–R213, R220). A second error while the port is HALTED makes its
request an offending one as well and keeps the first cause, which the spec leaves open (assumption 40). -/
def takeBeat (p : Nat) (b : WBeat) (last : Bool) (s : State) : State :=
  match (s.port p).lacking with
  | none => s
  | some r =>
    let s := (s.note .beatsW p).onPort p fun x => { x with beatAt := some s.now }
    if last ≠ (r.taken + 1 = r.count) then
      portHalt p (if last then 3 else 4) (s.onPort p (·.onReq r.seq fun r => { r with bad := true }))
    else
      s.onPort p (·.onReq r.seq fun r => { r with
        taken := r.taken + 1, beats := if r.lost then [] else r.beats ++ [b] })

-- the splitter

/-- The home of a line (R222): logical channel and offset. -/
def State.homeOf (s : State) (line : Nat) : Nat × Nat :=
  let q := line / s.logicals
  let r := line % s.logicals
  let f := if s.on GL_AMAP_HASH then
      (List.range 7).foldl (fun acc i => acc ^^^ natBits q (4 * i) 4) 0
    else 0
  ((r + f) % s.logicals, q)

/-- Cut a request into lines; a line beyond the data capacity, or every line of a request that crosses 2^40, is
refused, and so are the lines of a write whose data a Tun reset has lost (R208, R221, R235), in this order (assumption
40). -/
def State.cut (s : State) (r : Req) : List ReqLine :=
  (List.range (r.lastLine + 1 - r.firstLine)).map fun k =>
    let l := r.firstLine + k
    let h := s.homeOf l
    let out : Option Outcome :=
      if r.crosses then some ⟨3, 2⟩
      else if l ≥ s.logicals * s.lines then some ⟨3, 1⟩
      else if r.lost then some ⟨3, 4⟩ else none
    ⟨l, h.1, h.2, false, false, out, 0⟩

/-- The lines of the read return buffer in use (R219): those of a request are free at its last D beat (assumption 40). -/
def Port.returnLines (p : Port) : Nat :=
  ((p.reqs.filter fun r => !r.wr && r.stage ≠ .queued).map fun r => r.lines.length).sum

/-- The next request of the queue may be split: a fence waits for every earlier request (R227), a read for space in the
return buffer (R219). -/
def Port.splittable (p : Port) (r : Req) : Bool :=
  (!r.fence || !(p.reqs.any fun e => e.seq < r.seq && !e.bad)) &&
    (r.wr || p.returnLines + (r.lastLine + 1 - r.firstLine) ≤ 64)

/-- Split the oldest queued request (R219, R222); one with no line left to hand on owes the later stages nothing. -/
def splitNext (p : Nat) (s : State) : State :=
  match (s.port p).reqs.find? (·.stage == .queued) with
  | none => s
  | some r =>
    if (s.port p).splittable r then
      let lines := s.cut r
      s.onPort p fun x => (x.onReq r.seq fun r => { r with
        lines := lines, crossed := r.crosses
        stage := if lines.all (·.out.isSome) then .off else .shaping }).sweep
    else s

-- handing lines on

/-- The request whose lines are being handed on: the oldest past its gate (R245, R263). -/
def Port.handing (p : Port) : Option Req := p.reqs.find? (·.stage == .hand)

/-- The next line a request has to hand on. -/
def Req.nextLine (r : Req) : Option (Nat × ReqLine) :=
  (r.lines.zipIdx.find? fun l => !l.1.handed && !l.1.dead && l.1.out.isNone).map fun l => (l.2, l.1)

def Req.onLine (r : Req) (idx : Nat) (f : ReqLine → ReqLine) : Req :=
  { r with lines := r.lines.zipIdx.map fun l => if l.2 = idx then f l.1 else l.1 }

/-- A request with no line left to hand on leaves the stage. -/
def Req.settle (r : Req) : Req := if r.nextLine.isNone then { r with stage := .off } else r

/-- Put a line into a perch queue (R263). -/
def addPerch (c p : Nat) (l : PerchLine) (s : State) : State :=
  s.onChan c fun x => { x with arb := { x.arb with perch := upd x.arb.perch p fun q => q ++ [l] } }

def State.perch (s : State) (c p : Nat) : List PerchLine := (s.chan c).arb.perch.getD p []

/-- The port's next line waits for a full perch queue (R263, event PERCH_FULL). -/
def State.perchBlocked (s : State) (p : Nat) : Bool :=
  match (s.port p).handing with
  | none => false
  | some r =>
    match r.nextLine with
    | none => false
    | some (_, l) => (!r.wr || r.holds l.line) && (s.perch (s.tableAt l.logical) p).length ≥ 4

/-- Hand on the next line of a port, one a cc (R212, R214, R225, R263). The table is read as the line is handed on. A line whose
beats carry no enabled byte completes as OK, and a line of an offending request that lacks beats writes nothing. -/
def handLine (p : Nat) (s : State) : State :=
  match (s.port p).handing with
  | none => s
  | some r =>
    match r.nextLine with
    | none => s.onPort p fun x => (x.onReq r.seq Req.settle).sweep
    | some (i, l) =>
      let keep (f : ReqLine → ReqLine) (s : State) : State :=
        let s := s.onPort p fun x => { x with handAt := some s.now }
        s.onPort p fun x => (x.onReq r.seq fun r => (r.onLine i f).settle).sweep
      if r.wr && !r.holds l.line then
        if r.bad then keep (fun l => { l with dead := true }) s else s
      else
        let (data, be) := if r.wr then r.lineData l.line else (0, 0)
        if r.wr && be == 0 then keep (fun l => { l with out := some ⟨0, 0⟩ }) s
        else
          let c := s.tableAt l.logical
          if (s.perch c p).length ≥ 4 then s
          else
            let s := if r.cal then s.note .calLines p else s
            let pl : PerchLine :=
              ⟨p, r.seq, i, l.line, l.q, r.tier, r.wr, (r.beatsOf l.line).length, data, be, .port, s.now, 0, 0⟩
            keep (fun l => { l with handed := true }) (addPerch c p pl s)

-- responses

/-- A line of a request gets its outcome, with its data on a read (R215). -/
def answer (p seq idx : Nat) (o : Outcome) (d : Line) (s : State) : State :=
  s.onPort p (·.onReq seq fun r => r.onLine idx fun l => { l with out := some o, data := if o.resp ≥ 2 then 0 else d })

/-- Every line has its outcome. A dead line has none and belongs to a request that gets no response. -/
def Req.answered (r : Req) : Bool := !r.bad && r.stage ≠ .queued && r.lines.all (·.out.isSome)

/-- No earlier request of the port on a common line still owes its response (R226). -/
def Port.turnOf (p : Port) (r : Req) : Bool :=
  !(p.reqs.any fun e => e.seq < r.seq && !e.bad && e.meets r)

/-- Record the response of one line: the first error since the last read, and the counters (R244). -/
def countResponse (p : Nat) (r : Req) (l : ReqLine) (s : State) : State :=
  let o := l.out.getD ⟨0, 0⟩
  if o.resp = 0 then s
  else
    let s := s.note .respBad p
    let s := s.bump (if o.resp = 1 then PT_RESPCNT_UNCHK p else if o.resp = 2 then PT_RESPCNT_POISON p
      else PT_RESPCNT_REFUSED p)
    if s.st (PT_ERRINFO_RESP p) ≠ 0 then s.setSt (PT_ERRINFO_MORE p) 1
    else
      let s := (s.setSt (PT_ERRINFO_CAUSE p) o.cause).setSt (PT_ERRINFO_RESP p) o.resp
      let s := (s.setSt (PT_ERRINFO_WR p) (b2n r.wr)).setSt (PT_ERRINFO_TAG p) r.tag.toNat
      (s.setSt (PT_ERRADDRL_ADDR_LO p) (l.line % 2 ^ 24)).setSt (PT_ERRADDRH_ADDR_HI p) (l.line / 2 ^ 24)

/-- The request's last response has transferred and its tag is free (R209). -/
def finishReq (p seq : Nat) (s : State) : State :=
  s.onPort p fun x => { x with reqs := x.reqs.filter (·.seq ≠ seq) }

/-- PCLK toggles, so a response can transfer (R55, R106); in a halt too, for the lines that had started finish (R441). -/
def State.responds (s : State) : Bool := s.clocked && s.pins.pclk

/-- Requests and lines go on towards their channels: CCLK runs, and the block neither halts nor stops (R441, R484). -/
def State.intakeRuns (s : State) : Bool := s.clocked && s.flt.haltStep == 0

/-- A write has its response, in the order its port owes (R216, R217, R226). -/
def Port.writeDone (x : Port) (r : Req) : Bool := r.wr && r.answered && r.taken = r.count && x.turnOf r

/-- The write whose response stands on the B channel, which keeps it until the transfer (R206). -/
def Port.onB (x : Port) : Option Req := x.bSeq.bind fun n => x.reqs.find? fun r => r.seq = n && x.writeDone r

/-- The write request whose B transfer can be made with a given tag: the one on the B channel, or with none there any that is
due (R206, R216, R217, R226). -/
def State.readyWrite (s : State) (p : Nat) (tag : BitVec 8) : Option Req :=
  let x := s.port p
  if !s.responds then none
  else match x.onB with
    | some r => if r.tag = tag then some r else none
    | none => x.reqs.find? fun r => r.tag == tag && x.writeDone r

/-- A response that is due comes onto an idle B channel, the earliest accepted first (R206). -/
def showB (p : Nat) (s : State) : State :=
  if !s.responds then s
  else match (s.port p).onB with
    | some _ => s
    | none => s.onPort p fun x => { x with bSeq := (x.reqs.find? x.writeDone).map (·.seq) }

/-- The code of a B transfer: the most severe outcome of the lines (R216). -/
def Req.worst (r : Req) : Nat := (r.lines.map fun l => (l.out.getD ⟨0, 0⟩).resp).foldl max 0

/-- The B transfer of a write. -/
def sendB (p : Nat) (r : Req) (s : State) : State :=
  let s := r.lines.foldl (fun s l => countResponse p r l s) s
  finishReq p r.seq (s.onPort p fun x => { x with lastB := (r.tag, r.worst), bSeq := none })

/-- The read request whose D beats have begun. -/
def State.sending (s : State) (p : Nat) : Option Req :=
  if !s.responds then none
  else match (s.port p).dSeq with
    | none => none
    | some n => (s.port p).reqs.find? (·.seq = n)

/-- The next D beat of a request (R218). -/
def State.dBeat (s : State) (p : Nat) (r : Req) : DOut :=
  let i := (s.port p).dBeat
  let b := r.addr.toNat + i
  let l := (r.lines.find? (·.line = b / 4)).getD ⟨0, 0, 0, false, false, none, 0⟩
  ⟨l.data.extractLsb' (512 * (b % 4)) 512, r.tag, (l.out.getD ⟨0, 0⟩).resp, i + 1 = r.count⟩

/-- A D beat transfers; the last beat of a line counts its response, and the last of the request frees its tag (R209,
R218). -/
def sendD (p : Nat) (r : Req) (s : State) : State :=
  let d := s.dBeat p r
  let b := r.addr.toNat + (s.port p).dBeat
  let s := (s.onPort p fun x => { x with lastD := d, dBeat := x.dBeat + 1 }).note .beatsD p
  let s := if d.last || b % 4 = 3 then
      match r.lines.find? (·.line = b / 4) with
      | some l => countResponse p r l s
      | none => s
    else s
  if d.last then finishReq p r.seq (s.onPort p fun x => { x with dSeq := none, dBeat := 0 }) else s

-- Tun reset and flush

/-- A Tun reset (R235): every beat is discarded, and each line not yet handed on is refused; those of an offending request are
gone without an answer, so nothing of it stands before later requests. -/
def tunReset (p : Nat) (s : State) : State :=
  let hit (r : Req) : Req :=
    if r.wr && !r.bad && !(r.lines.all fun l => l.handed || l.out.isSome) || (r.wr && !r.bad && r.lines.isEmpty) then
      { r with
        lost := true, beats := []
        lines := r.lines.map fun l => if l.handed || l.out.isSome then l else { l with out := some ⟨3, 4⟩ }
        stage := if r.stage = .queued then .queued else .off }
    else if r.bad then { r with
        lost := true, lines := r.lines.map fun l => { l with dead := l.dead || !l.handed }
        stage := if r.stage = .queued then .queued else .off }
    else r
  let s := s.onPort p fun x => ({ x with reqs := x.reqs.map hit } : Port).sweep
  raise .tunrst p 0 (s.bump (PT_TUNEVT_RESETS p))

/-- Start a flush (R236): the gills evict every partial line of the port. In a flush that runs it moves the mark
(assumption 40). -/
def flushStart (p : Nat) (s : State) : State :=
  if ingest p then
    let s : State := { s with chans := s.chans.map fun c => c.evictGills .other fun g => g.ports.contains p }
    s.onPort p fun x => { x with flush := some x.nextSeq }
  else s

/-- The flush of a port is complete (R236). -/
def State.flushed (s : State) (p : Nat) : Bool :=
  match (s.port p).flush with
  | none => false
  | some n => (s.port p).occupancy == 0 && !((s.port p).reqs.any fun r => r.wr && !r.bad && r.seq < n)

-- port states

def portStop (p : Nat) (s : State) : State :=
  if (s.port p).state = .run then s.onPort p fun x => { x with state := .drain } else s

def portResume (p : Nat) (s : State) : State :=
  let x := s.port p
  match x.state with
  | .drain | .stopped => s.onPort p fun x => { x with state := .run }
  | .halted =>
    if 2 ≤ x.hcause ∧ x.hcause ≤ 4 ∧ !s.frozenIn (.pt p) ∧ x.tags = 1 ∧ x.reqs.all (·.bad) then
      s.onPort p fun x => ({ x with
        state := .run, hcause := 0, reqs := x.reqs.map fun r => { r with freed := true } } : Port).sweep
    else s
  | _ => s

-- meanings

/-- A Q transfer (R207, R210); offered while Pn_QREADY is 0 it waits, which event QSTALL counts. -/
def execRequest (p : Fin 28) (addr : BitVec 34) (len : BitVec 6) (wr : Bool) (tag : BitVec 8) (fence : Bool)
    (s : State) : Host.Outcome State Fault Refusal :=
  if s.clocked ∧ s.qready p then .next (accept_ p (newReq 0 addr len.toNat wr tag fence) s)
  else if s.clocked ∧ (s.port p).state ≠ .disabled then .next (s.note .qstall p)
  else .next s

/-- A W transfer (R211). -/
def execWriteBeat (p : Fin 28) (data : Beat) (be : BitVec 64) (last : Bool) (s : State) :
    Host.Outcome State Fault Refusal :=
  .next (if s.clocked ∧ s.wready p then takeBeat p ⟨data, be⟩ last s else s)

/-- The splitter takes the next request (R219). -/
def execSplit (p : Fin 30) (s : State) : Host.Outcome State Fault Refusal :=
  .next (if s.intakeRuns then splitNext p s else s)

/-- Every line of a read has its outcome and its D beats begin (R218, R226). -/
def execReadResponseStart (p : Fin 30) (tag : BitVec 8) (s : State) : Host.Outcome State Fault Refusal :=
  if s.responds ∧ (s.port p).dSeq = none then
    match (s.port p).reqs.find? fun r => !r.wr && r.tag == tag && r.answered && (s.port p).turnOf r with
    | some r => .next (s.onPort p fun x => { x with dSeq := some r.seq, dBeat := 0 })
    | none => .next s
  else .next s

/-- The two copies of a Tun pointer differ (R235). -/
def execTunPointerMismatch (p : Fin 4) (s : State) : Host.Outcome State Fault Refusal :=
  .next (if s.clocked then tunReset p s else s)

/-- A write of PTn_CTRL.FLUSH (R236). -/
def execFlush (p : Fin 4) (s : State) : Host.Outcome State Fault Refusal :=
  .next (if s.clocked then flushStart p (dropHeld (PT_CTRL_FLUSH p).addr s) else s)

/-- The flush completes and Pn_WREADY returns (R236). -/
def execFlushDone (p : Fin 4) (s : State) : Host.Outcome State Fault Refusal :=
  .next (if s.clocked ∧ s.flushed p then
    (s.setBits (PT_STATE_FLUSH_DONE p) 1).onPort p fun x => { x with flush := none } else s)

/-- A write of PTn_CTRL.RESUME (R242). -/
def execResume (p : Fin 30) (s : State) : Host.Outcome State Fault Refusal :=
  .next (if s.clocked then portResume p (dropHeld (PT_CTRL_RESUME p).addr s) else s)

/-- A draining port has no tag in use (R242). -/
def execDrainComplete (p : Fin 30) (s : State) : Host.Outcome State Fault Refusal :=
  .next (if s.clocked ∧ (s.port p).state = .drain ∧ (s.port p).tags = 0 then
    s.onPort p fun x => { x with state := .stopped } else s)

end Sys2Proof.Machine
end

