-- ==== Sys2Proof/Machine/Operands.lean ====
section
/-!
DEFINITION. Where a line lives in its channel (R280–R282), the metadata entry and the metadata line (R341–R346), the DRAM
as the block sees it, and the line cipher under the key slots (R464–R468).
-/

namespace Sys2Proof.Machine

-- geometry

/-- ROWBITS (R280). -/
def State.rowBits (s : State) (c : Nat) : Nat := if s.on (CH_GEOM_ROW17 c) then 17 else 16

/-- The number of lines of a channel's DRAM (R280). -/
def State.lineCount (s : State) (c : Nat) : Nat := 2 ^ (s.rowBits c + 8)

/-- The bank mode: 0 BG, 1 16-bank, 2 8-bank (R281); the reserved code acts as the manual does not say (assumption 12). -/
def State.bankMode (s : State) (c : Nat) : Nat :=
  let m := s.cf (CH_GEOM_BANKMODE c)
  if m = 3 then Config.reservedBankMode % 3 else m

/-- A place in DRAM: rank, bank, row, and the line's number in its row. -/
structure Place where
  rank : Nat
  bank : Nat
  row : Nat
  col : Nat
  deriving DecidableEq, Repr

/-- The split of a channel line index (R281). Bank b is group b mod 4, bank b / 4 within it, in BG mode (R313). -/
def State.place (s : State) (c x : Nat) : Place where
  rank := natBits x 7 1
  bank := if s.bankMode c = 2 then natBits x 5 1 * 4 + natBits x 0 2 else natBits x 5 2 * 4 + natBits x 0 2
  row := natBits x 8 (s.rowBits c)
  col := if s.bankMode c = 2 then natBits x 6 1 * 8 + natBits x 2 3 else natBits x 2 3

/-- Two banks of a rank in one bank group; only BG mode has groups (R290). -/
def State.sameGroup (s : State) (c b1 b2 : Nat) : Bool := s.bankMode c == 0 && b1 % 4 == b2 % 4

/-- The banks that REFpb address `a` refreshes (R316): a and a + 8, or a alone in 8-bank mode (assumption 20). -/
def State.refBanks (s : State) (c a : Nat) : List Nat := if s.bankMode c = 2 then [a] else [a, a + 8]

/-- The number of banks of a rank (R290). -/
def State.bankCount (s : State) (c : Nat) : Nat := if s.bankMode c = 2 then 8 else 16

-- DRAM

/-- The key of burst k of a line in the list of bursts. -/
def burstKey (c x k : Nat) : Nat := (c * 2 ^ 25 + x) * 4 + k

/-- Read one burst; cells nothing has written since the contents were last lost hold a free value. -/
def State.burst (s : State) (c x k : Nat) : Beat :=
  (find s.dram (burstKey c x k)).getD (Config.freeBurst (s.free * 2 ^ 32 + burstKey c x k))

/-- Write one burst (R282). -/
def State.setBurst (s : State) (c x k : Nat) (b : Beat) : State := { s with dram := put s.dram (burstKey c x k) b }

/-- Burst k of a line. -/
def burstOf (d : Line) (k : Nat) : Beat := d.extractLsb' (512 * k) 512

/-- Lay burst k into a line. -/
def withBurst (d : Line) (k : Nat) (b : Beat) : Line :=
  (d &&& ~~~((BitVec.allOnes 512).setWidth 2048 <<< (512 * k))) ||| (b.setWidth 2048 <<< (512 * k))

-- bytes of a line

/-- The bits of a line under a byte mask. -/
def maskBits (m : BitVec 256) : Nat → Line
  | 0 => 0
  | n + 1 => (maskBits m n) ||| (if m.getLsbD n then (0xFF : Line) <<< (8 * n) else 0)

/-- Bytes of `new` where the mask is 1, of `old` elsewhere (R353, R356). -/
def merge (old new : Line) (m : BitVec 256) : Line :=
  let w := maskBits m 256
  (new &&& w) ||| (old &&& ~~~w)

-- metadata entries (R343)

abbrev Entry := BitVec 64

def Entry.crc (e : Entry) : Word := e.extractLsb' 0 32

def Entry.written (e : Entry) : Bool := e.getLsbD 32

def Entry.poison (e : Entry) : Bool := e.getLsbD 33

def Entry.unverified (e : Entry) : Bool := e.getLsbD 34

def Entry.epoch (e : Entry) : Nat := b2n (e.getLsbD 35)

def Entry.gen (e : Entry) : Nat := natBits e.toNat 40 8

/-- Set one bit of an entry. -/
def Entry.setBit (e : Entry) (i : Nat) (v : Bool) : Entry :=
  if v then e ||| (1#64 <<< i) else e &&& ~~~(1#64 <<< i)

/-- The entry a write leaves (R355): SPARE is kept, bits marked zero are written zero. A whole write makes a line GOOD that was
lost (R455). -/
def Entry.afterWrite (e : Entry) (crc : Word) (whole : Bool) (slot : Nat) : Entry :=
  let unver := !whole && e.unverified
  let gen := (e.gen + 1) % 256
  (e &&& 0xFFFF000000000000#64) ||| crc.setWidth 64 |||
    BitVec.ofNat 64 (2 ^ 32 + b2n unver * 2 ^ 34 + slot % 2 * 2 ^ 35 + gen * 2 ^ 40)

/-- The entry a recompute builds for a line (R366). -/
def Entry.rebuilt (crc : Word) (slot : Nat) : Entry :=
  crc.setWidth 64 ||| BitVec.ofNat 64 (2 ^ 32 + 2 ^ 34 + slot % 2 * 2 ^ 35)

/-- The entry of line q in its metadata line (R342). -/
def entryOf (d : Line) (q : Nat) : Entry := d.extractLsb' (64 * (q % 32)) 64

def withEntry (d : Line) (q : Nat) (e : Entry) : Line :=
  (d &&& ~~~((BitVec.allOnes 64).setWidth 2048 <<< (64 * (q % 32)))) ||| (e.setWidth 2048 <<< (64 * (q % 32)))

/-- The places of the two MCRC halves in a metadata line: SPARE of entries 0 and 1 (R343, R345). -/
def mcrcBits : Line := (0xFFFF : Line) <<< 48 ||| (0xFFFF : Line) <<< 112

/-- The logical channel whose number a channel's metadata lines carry (R345). -/
def State.mdLogical (s : State) (c : Nat) : Option Nat :=
  match s.logicalOf c with
  | some l => some l
  | none => (s.partner c).bind s.logicalOf

/-- MCRC of metadata line m of a channel (R345). -/
def State.mcrc (s : State) (c m : Nat) (d : Line) : Word :=
  lineCrc (d &&& ~~~mcrcBits) (0x80000000 + (s.mdLogical c).getD 0 * 2 ^ 24 + m)

/-- The MCRC a metadata line carries. -/
def mcrcOf (d : Line) : Word :=
  (d.extractLsb' 48 16).setWidth 32 ||| ((d.extractLsb' 112 16).setWidth 32 <<< 16)

/-- A metadata line with its MCRC computed, as every writeback carries it (R345). -/
def State.sealMd (s : State) (c m : Nat) (d : Line) : Line :=
  let w := s.mcrc c m d
  (d &&& ~~~mcrcBits) ||| ((w.extractLsb' 0 16).setWidth 2048 <<< 48) |||
    ((w.extractLsb' 16 16).setWidth 2048 <<< 112)

-- keys

/-- Every slot counts as valid under bypass (R468). -/
def State.slotValid (s : State) (slot : Nat) : Bool :=
  s.on GL_CRYPT_BYPASS || (s.keys.slots.getD slot .empty).valid

/-- There is a slot for writes (R472, R468). -/
def State.canWrite (s : State) : Bool := s.on GL_CRYPT_BYPASS || s.keys.wvalid

/-- The EPOCH of a write (R355, R468). -/
def State.writeSlot (s : State) : Nat := if s.on GL_CRYPT_BYPASS then 0 else s.keys.wslot

def State.encrypt (s : State) (slot line : Nat) (d : Line) : Line :=
  if s.on GL_CRYPT_BYPASS then d
  else
    let k := s.keys.slots.getD slot .empty
    xtsEnc k.key1 k.key2 line d

def State.decrypt (s : State) (slot line : Nat) (d : Line) : Line :=
  if s.on GL_CRYPT_BYPASS then d
  else
    let k := s.keys.slots.getD slot .empty
    xtsDec k.key1 k.key2 line d

-- line states (R346)

/-- The states of a data line. -/
inductive LineState
  | unwritten | poisoned | epochError | unverified | good
  deriving DecidableEq, Repr

def State.lineState (s : State) (e : Entry) : LineState :=
  if !e.written then .unwritten
  else if e.poison then .poisoned
  else if !s.slotValid e.epoch then .epochError
  else if e.unverified then .unverified else .good

/-- A line of a channel was lost with a channel retired before its evacuation reached it (R455). -/
def State.lostLine (s : State) (c q : Nat) : Bool :=
  s.st (CH_LOST_VALID c) == 1 && q ≥ s.st (CH_LOST_LOSTLO c)

/-- The answer to a read of a line never written: cause 0x5, or 0xA where the line was lost (R346, R455). -/
def State.unwrittenAnswer (s : State) (c q : Nat) : Outcome := ⟨2, if s.lostLine c q then 0xA else 5⟩

/-- The answer to a read in the three states that need no DRAM access (R346). -/
def State.deadAnswer (s : State) (c q : Nat) (st : LineState) : Outcome :=
  match st with
  | .unwritten => s.unwrittenAnswer c q
  | .poisoned => ⟨2, 6⟩
  | _ => ⟨2, 9⟩

/-- Metadata line m of a channel is cleared (R348). -/
def State.cleared (s : State) (c m : Nat) : Bool := m < s.st (CH_MDINIT_PTR c) || (s.chan c).ahead.contains m

end Sys2Proof.Machine
end

