-- ==== Sys2Proof/Machine/Queues.lean ====
section
/-!
DEFINITION. The operations of a channel: the line hazard table with its chains (R283–R289, R350), the queue entries, and
the gills (R353–R357).
-/

namespace Sys2Proof.Machine

-- operations

/-- A new operation without resources. -/
def Op.fresh (kind : OpKind) (phase : OpPhase) (x line q : Nat) : Op where
  id := 0
  kind := kind
  phase := phase
  x := x
  line := line
  q := q
  port := 32
  seq := 0
  idx := 0
  tier := 0
  own := 0
  haz := .none
  rq := .none
  wq := .none
  tries := 0
  bursts := 0
  entry := 0
  way := none
  data := 0
  plain := 0
  mask := 0
  gill := none
  lead := 0
  mark := 0
  partner := none
  acted := false
  done := false
  merged := false
  looked := false

/-- An operation on a line that intake admitted. -/
def Op.isLine (o : Op) : Bool :=
  match o.kind with
  | .read | .write | .scrub | .migration | .rekey | .scratch => true
  | _ => false

/-- A metadata fill (R283). -/
def Op.isFill (o : Op) : Bool :=
  match o.kind with
  | .demand | .preload | .opFill _ | .bypass | .bypassWrite | .recompute _ => true
  | _ => false

/-- A fill of a whole metadata line; its `q` is m. -/
def Op.isMetaFill (o : Op) : Bool :=
  match o.kind with
  | .demand | .preload | .opFill _ | .bypass | .bypassWrite => true
  | _ => false

def Chan.op (c : Chan) (id : Nat) : Option Op := c.ops.find? (·.id = id)

def Chan.onOp (c : Chan) (id : Nat) (f : Op → Op) : Chan :=
  { c with ops := c.ops.map fun o => if o.id = id then f o else o }

def State.onOp (s : State) (c id : Nat) (f : Op → Op) : State := s.onChan c (·.onOp id f)

/-- Release every resource of an operation and drop it. -/
def State.dropOp (s : State) (c id : Nat) : State :=
  s.onChan c fun x => { x with ops := x.ops.filter (·.id ≠ id) }

/-- Add an operation at the tail; it takes the next number of the channel. -/
def State.addOp (s : State) (c : Nat) (o : Op) : State :=
  s.onChan c fun x => { x with ops := x.ops ++ [{ o with id := x.nextOp }], nextOp := x.nextOp + 1 }

/-- Add an operation directly ahead of another one (R350). -/
def State.insertOp (s : State) (c before : Nat) (o : Op) : State :=
  s.onChan c fun x => { x with
    ops := x.ops.takeWhile (·.id ≠ before) ++ { o with id := x.nextOp } :: x.ops.dropWhile (·.id ≠ before)
    nextOp := x.nextOp + 1 }

/-- The operation has issued a DRAM access for its line. -/
def Op.issued (o : Op) : Bool :=
  o.bursts > 0 || o.tries > 0 || (o.acted && o.kind ≠ .mirror) || o.phase == .flight || o.phase == .pause || o.phase == .recovering ||
    o.phase == .paired

/-- Add a recompute read directly behind the last entry of its line that has issued a DRAM access (R366). -/
def State.addRecompute (s : State) (c : Nat) (o : Op) : State :=
  s.onChan c fun x =>
    let tail := x.ops.reverse.takeWhile fun e => !(e.x == o.x && e.issued)
    { x with
      ops := x.ops.take (x.ops.length - tail.length) ++ { o with id := x.nextOp } :: tail.reverse
      nextOp := x.nextOp + 1 }

-- chains

/-- An earlier operation of the line that a later one waits for: anything but a write past its last column command, a
further write of a gill, or a migration waiting for its write at the spare (R288, R350). -/
def Op.blocks (e o : Op) : Bool :=
  e.x == o.x && !(e.phase == .recovering || e.phase == .paired || e.phase == .follow) &&
    !(e.kind == .write && e.lead == o.lead && (o.kind == .write || o.kind == .rmw))

def Chan.before (c : Chan) (o : Op) : List Op := c.ops.takeWhile (·.id ≠ o.id)

/-- The operation stands at the head of its line's chain, or may be served as if it did. -/
def Chan.chainFree (c : Chan) (o : Op) : Bool := !((c.before o).any (·.blocks o))

/-- The chain lets the operation go on, and no rebuild of its metadata line is under way (R389). -/
def State.opFree (s : State) (c : Nat) (o : Op) : Bool :=
  (s.chan c).chainFree o &&
    !(o.isMetaFill && (s.quad (quadOf c)).rebuilds.any fun b => b.chan = c && b.m = o.q)

-- queue entries in use

def Chan.haz (c : Chan) (r : Res) : Nat := (c.ops.filter (·.haz == r)).length

def Chan.rq (c : Chan) (r : Res) : Nat := (c.ops.filter (·.rq == r)).length

def Chan.wq (c : Chan) (r : Res) : Nat := (c.ops.filter (·.wq == r)).length

def Chan.hazUsed (c : Chan) : Nat := (c.ops.filter (·.haz ≠ .none)).length

def Chan.rqUsed (c : Chan) : Nat := (c.ops.filter (·.rq ≠ .none)).length

def Chan.wqUsed (c : Chan) : Nat := (c.ops.filter (·.wq ≠ .none)).length

/-- Lines granted and not yet admitted: their room is reserved (R284). -/
def Arb.coming (a : Arb) : List PerchLine := a.xfer.toList.map Prod.fst ++ a.next.toList.map Prod.fst

def Arb.comingReads (a : Arb) : Nat := (a.coming.filter fun l => !l.wr).length

/-- Shared entries free of holders and of reservations (R283). -/
def Chan.hazFree (c : Chan) : Bool := c.haz .shared + c.arb.coming.length < 122

def Chan.rqFree (c : Chan) : Bool := c.rq .shared + c.arb.comingReads < 40

-- what intake counts (R284–R286)

/-- The tier with which an operation counts against the ceilings; what intake did not admit counts as tier 0 (R285). -/
def Op.counts (o : Op) : Nat := if o.isLine || o.kind == .mirror then o.own else 0

/-- The holders of shared entries of a kind, by number and tier. -/
def Chan.holders (c : Chan) (shared : Op → Bool) : List (Nat × Nat) := (c.ops.filter shared).map fun o => (o.id, o.counts)

/-- Holders now, and those of the start of the cc that have released since: a resource freed in a cycle is room from the next
one (R284). -/
def union (live before : List (Nat × Nat)) : List (Nat × Nat) := live ++ before.filter fun e => !live.any (·.1 == e.1)

def Chan.hazHeld (c : Chan) : List (Nat × Nat) := union (c.holders (·.haz == .shared)) c.ccHaz

def Chan.rqHeld (c : Chan) : List (Nat × Nat) := union (c.holders (·.rq == .shared)) c.ccRq

/-- Admitted operations that wait for a shared read-queue entry: they go ahead of intake (R286, R306). -/
def Chan.rqOwed (c : Chan) : Nat :=
  (c.ops.filter fun o => o.phase == .wantQueue && (match o.kind with
    | .read | .scrub | .migration => true
    | .rmw => o.tries > 0
    | .rekey => !o.acted
    | _ => false)).length

/-- The gills in use, with the tier that opened each. -/
def Chan.openGills (c : Chan) : List (Nat × Nat) := c.gills.toList.zipIdx.filterMap fun e => e.1.map fun g => (e.2, g.opener)

def Chan.gillHeld (c : Chan) : List (Nat × Nat) := union c.openGills c.ccGill

/-- Note at the start of a cc what is held (R284). -/
def noteHeld (x : Chan) : Chan :=
  { x with
    ccHaz := x.holders (·.haz == .shared), ccRq := x.holders (·.rq == .shared)
    ccGill := x.openGills }

def Chan.wqFree (c : Chan) : Bool := c.wq .shared < 30

/-- The entry a writeback takes: one reserved for writebacks when free, else a shared one (R283). -/
def pick (reserved : Bool) (kind : Res) (shared : Bool) : Option Res :=
  if reserved then some kind else if shared then some .shared else none

def Chan.hazFor (c : Chan) (kind : Res) : Option Res :=
  pick (c.haz kind < if kind = .rmw then 4 else 2) kind c.hazFree

def Chan.rqRmw (c : Chan) : Option Res := pick (c.rq .rmw < 4) .rmw c.rqFree

def Chan.wqWb (c : Chan) : Option Res := pick (c.wq .wb < 2) .wb c.wqFree

-- answers

/-- A line of a port gets its outcome; the lines of P30 and P31 answer to nobody. -/
def answerOp (o : Op) (out : Outcome) (d : Line) (s : State) : State :=
  if o.port < 30 then answer o.port o.seq o.idx out d s else s

/-- The writes merged into one gill carry the number of the first of them in `lead`. -/
def Op.inGroup (o : Op) (lead : Nat) : Bool := o.kind == .write && o.lead == lead

/-- The writes merged into a gill complete with an outcome (R352). -/
def completeWrites (c lead : Nat) (out : Outcome) (s : State) : State :=
  (s.chan c).ops.foldl (fun s o =>
    if o.inGroup lead ∧ !o.done then (answerOp o out 0 s).onOp c o.id fun o => { o with done := true } else s) s

-- gills

def Chan.gill (c : Chan) (g : Nat) : Option Gill := (c.gills.getD g none)

def Chan.onGill (c : Chan) (g : Nat) (f : Gill → Gill) : Chan := { c with gills := upd c.gills g fun x => x.map f }

def Chan.freeGills (c : Chan) : Nat := (c.gills.toList.filter (·.isNone)).length

/-- Gills free for intake: not those freed in this cc (R284). -/
def Chan.gillRoom (c : Chan) : Nat := 16 - c.gillHeld.length

def Chan.freeGill (c : Chan) : Option Nat := c.gills.toList.findIdx? (·.isNone)

/-- The gill of a line that accepts merges (R353). -/
def Chan.openGill (c : Chan) (line : Nat) : Option Nat :=
  c.gills.toList.findIdx? fun g => match g with | some g => g.line == line && g.evict.isNone | none => false

/-- The gill in which a line being admitted has its merge reserved (R354). -/
def Chan.reservedGill (c : Chan) (line : Nat) : Option Nat :=
  c.gills.toList.findIdx? fun g => match g with | some g => g.line == line && g.reserved > 0 | none => false

/-- The first write merged into a gill, or the migration write that fills it. -/
def Chan.leadOf (c : Chan) (g : Nat) : Option Op :=
  c.ops.find? fun o => (o.kind == .write || o.kind == .mirror) && o.gill == some g

/-- Free a gill (R286). -/
def State.freeGillAt (s : State) (c g : Nat) : State := s.onChan c fun x => { x with gills := upd x.gills g fun _ => none }

/-- Release the hazard entries of a gill's writes and drop them. -/
def State.dropWrites (s : State) (c lead : Nat) : State :=
  s.onChan c fun x => { x with ops := x.ops.filter fun o => !o.inGroup lead }

/-- The newest write data held on a line, if a later operation finds any (R351): the lead write of its newest gill. -/
def Chan.heldLead (c : Chan) (line : Nat) : Option Op :=
  c.ops.reverse.find? fun o => o.kind == .write && o.line == line && (o.phase == .gather || o.phase == .writing) &&
    (o.lead == o.id)

/-- Held data that is whole: that of a whole gill, or a merged line on its way to DRAM. -/
def Chan.heldWhole (c : Chan) (o : Op) : Option Line :=
  if o.phase = .writing then some o.plain
  else match o.gill.bind c.gill with
    | some g => if g.whole then some g.data else none
    | none => none

/-- The counter of an eviction cause. -/
def EvictCause.field (c : Nat) : EvictCause → Field
  | .age => CH_GILLCAUSE_AGE c
  | .read => CH_GILLCAUSE_READ c
  | .press => CH_GILLCAUSE_PRESS c
  | .other => CH_GILLCAUSE_OTHER c

/-- The read-modify-write of a gill has started. -/
def Chan.rmwOf (c : Chan) (g : Nat) : Option Op := c.ops.find? fun o => o.kind == .rmw && o.gill == some g

/-- A gill due for eviction starts its read-modify-write: the read takes its entries and its place directly ahead of the
gill's first write (R350, R357). -/
def startEviction (c g : Nat) (s : State) : State :=
  let x := s.chan c
  match x.gill g, x.leadOf g, x.hazFor .rmw, x.rqRmw with
  | some gl, some lead, some h, some r =>
    match gl.evict with
    | none => s
    | some why =>
      let o := { Op.fresh .rmw .lookup lead.x lead.line lead.q with haz := h, rq := r, gill := some g, lead := lead.id }
      let s := (s.insertOp c lead.id o).bump (why.field c)
      (s.bump (CH_GILLEVT_RMW c)).note .rmw c
  | _, _, _, _ => s

/-- Gills that may start their eviction: marked, still incomplete, with no merge reserved and no read started, oldest
first (R354, R357). -/
def Chan.dueEvictions (c : Chan) : List Nat :=
  let due := (c.gills.toList.zipIdx.filterMap fun e => e.1.map fun g => (g.opened, e.2, g)).filter fun e =>
    e.2.2.evict.isSome && !e.2.2.whole && !e.2.2.merged && e.2.2.reserved == 0 && (c.rmwOf e.2.1).isNone
  (sortBy (·.1) due).map (·.2.1)

def startEvictions (c : Nat) (s : State) : State := (s.chan c).dueEvictions.foldl (fun s g => startEviction c g s) s

end Sys2Proof.Machine
end

