-- ==== Sys2Proof/Machine/Cache.lean ====
section
/-!
DEFINITION. The metadata cache of a quad: its ways (R372, R373), victims (R376, R377), the update of an entry (R355),
lines created cleared (R348, R365) and the release of pinned ways.
-/

namespace Sys2Proof.Machine

-- ways

def Way.empty : Way := ⟨.invalid, false, 0, 0, 0⟩

/-- The set of metadata line m of a channel (R372). -/
def setOf (c m : Nat) : Nat := (m % 256) ^^^ (0x42 * (c % 4))

/-- The lane of a metadata line. -/
def laneOf (c m : Nat) : Nat := setOf c m % 8

def Quad.way (q : Quad) (w : Nat) : Way := (find q.ways w).getD .empty

/-- Hold a way; an INVALID unlocked way is not listed. -/
def Quad.setWay (q : Quad) (w : Nat) (v : Way) : Quad :=
  { q with ways := if v.st = .invalid ∧ !v.locked then drop q.ways w else put q.ways w v }

def Quad.onWay (q : Quad) (w : Nat) (f : Way → Way) : Quad := q.setWay w (f (q.way w))

def State.onWay (s : State) (q w : Nat) (f : Way → Way) : State := s.onQuad q (·.onWay w f)

/-- The ways of a set. -/
def waysOf (set : Nat) : List Nat := (List.range 8).map fun i => 8 * set + i

/-- The way names a metadata line, locked-empty ways included (R373). -/
def Way.names (v : Way) (c m : Nat) : Bool := (v.st ≠ .invalid || v.locked) && v.chan == c && v.m == m

/-- The way that holds, fills or keeps the tag of a metadata line. -/
def Quad.wayFor (q : Quad) (c m : Nat) : Option Nat := (waysOf (setOf c m)).find? fun w => (q.way w).names c m

/-- A locked-empty way (R373). -/
def Way.lockedEmpty (v : Way) : Bool := v.st == .invalid && v.locked

/-- An operation of the quad pins a way (R374). -/
def State.pinned (s : State) (q w : Nat) : Bool :=
  (quadChans q).any fun c => (s.chan c).ops.any fun o => o.way == some w && !o.isFill

/-- The order in which R376 tries the ways of a set after its pointer. -/
def fromPointer (set p : Nat) : List Nat := (List.range 8).map fun i => 8 * set + (p + i) % 8

/-- The way R376 chooses for a line, and the round-robin pointer after it. -/
def State.victim (s : State) (q set : Nat) : Option (Nat × Option Nat) :=
  let x := s.quad q
  match (waysOf set).find? fun w => (x.way w).st == .invalid && !(x.way w).locked with
  | some w => some (w, none)
  | none =>
    let p := (find x.rr set).getD 0
    let ok (w : Nat) : Bool :=
      let v := x.way w
      (v.st == .clean || v.st == .dirty) && !v.locked && !s.pinned q w
    ((fromPointer set p).find? ok).map fun w => (w, some ((w % 8 + 1) % 8))

-- writebacks

/-- The channel line index of a metadata line (R341). -/
def State.metaX (s : State) (m : Nat) : Nat := s.lines + m

/-- A metadata line leaves the cache as a writeback with its MCRC computed (R345, R377); it waits for its hazard and
write-queue entries. `mop` marks the writeback of a maintenance operation, a bypass entry or a flush of the cache. -/
def State.writeback (s : State) (c m : Nat) (d : Line) (mop : Bool) : State :=
  let d := s.sealMd c m d
  let o := Op.fresh .writeback .wantQueue (s.metaX m) 0 m
  (s.addOp c { o with data := d, plain := d, acted := mop }).note .mdWb c

/-- Write a DIRTY way back; it stays CLEAN. -/
def State.cleanWay (s : State) (q w : Nat) (mop : Bool) : State :=
  let v := (s.quad q).way w
  if v.st = .dirty then (s.writeback v.chan v.m v.data mop).onWay q w fun v => { v with st := .clean } else s

/-- Take a way for a line: a DIRTY victim goes to memory first (R376, R377). The answer names the way and the channel
and number of the victim's writeback. -/
def State.takeWay (s : State) (q c m : Nat) (st : WaySt) (lock : Bool) (d : Line) :
    Option (Nat × Option (Nat × Nat) × State) :=
  (s.victim q (setOf c m)).map fun (w, p) =>
    let v := (s.quad q).way w
    let wb := if v.st = .dirty then some (v.chan, (s.chan v.chan).nextOp) else none
    let s := if v.st = .dirty then s.writeback v.chan v.m v.data false else s
    let s := match p with
      | some p => s.onQuad q fun x => { x with rr := if p = 0 then drop x.rr (setOf c m) else put x.rr (setOf c m) p }
      | none => s
    (w, wb, s.onWay q w fun _ => ⟨st, lock, c, m, d⟩)

-- bypass

/-- BYP_ST of a quad (R387). -/
def Quad.byp (q : Quad) : Nat := if q.bypStep = 0 then 0 else if q.bypStep < 4 then 1 else 2

/-- Lookups run in bypass (R387 step 4). -/
def Quad.bypassed (q : Quad) : Bool := q.bypStep == 4

def Quad.lane (q : Quad) (l : Nat) : Lane := q.lanes.getD l .reset

def Quad.onLane (q : Quad) (l : Nat) (f : Lane → Lane) : Quad := { q with lanes := upd q.lanes l f }

def State.onLane (s : State) (q l : Nat) (f : Lane → Lane) : State := s.onQuad q (·.onLane l f)

/-- Start a metadata fill (R375); its read waits for a read-queue entry reserved for fills (R283), and a fill into the
way of a DIRTY victim for the victim's writeback `wb` to have its write-queue entry (R377). -/
def State.addFill (s : State) (kind : OpKind) (c m : Nat) (way : Option Nat) (wb : Option (Nat × Nat)) (lead : Nat) :
    State :=
  let o := Op.fresh kind .wantQueue (s.metaX m) 0 m
  s.addOp c { o with way := way, lead := lead, partner := wb.map (·.2), port := (wb.map (·.1)).getD 32 }

/-- The victim's writeback has taken its write-queue entry, or there is none (R377). -/
def State.victimGone (s : State) (o : Op) : Bool :=
  match o.partner with
  | none => true
  | some id => match (s.chan o.port).op id with
    | none => true
    | some w => w.phase ≠ .wantQueue

-- entry updates

/-- An operation updates the entry of line q in its pinned way; without one the line is read again, changed and written
back (R355, R374, R385). -/
def updateEntry (c q : Nat) (way : Option Nat) (e : Entry) (s : State) : State :=
  match way with
  | some w => s.onWay (quadOf c) w fun v => { v with st := .dirty, data := withEntry v.data q e }
  | none =>
    s.addOp c { Op.fresh .bypassWrite .wantQueue (s.metaX (q / 32)) 0 (q / 32) with entry := e, idx := q % 32 }

/-- The entry of an operation as its pinned way holds it now. -/
def State.entryNow (s : State) (c : Nat) (o : Op) : Entry :=
  match o.way with
  | some w => entryOf ((s.quad (quadOf c)).way w).data o.q
  | none => o.entry

/-- The operation has made its entry update: the way is no longer pinned. -/
def State.unpin (s : State) (c id : Nat) : State := s.onOp c id fun o => { o with way := none }

-- lines created cleared

/-- The evacuation in which a channel takes part as the spare. -/
def State.evacTo (s : State) (c : Nat) : Option Evac := s.mnt.evac.filter (·.spare = c)

def State.onEvac (s : State) (f : Evac → Evac) : State := { s with mnt := { s.mnt with evac := s.mnt.evac.map f } }

/-- The metadata line of a spare has been created by migration (R365). -/
def Evac.created (e : Evac) (ptr m : Nat) : Bool := 32 * m < ptr || e.made.contains m

/-- Metadata line m of a channel holds entries in DRAM or in the cache: cleared (R348), or at a spare created by
migration (R365). -/
def State.present (s : State) (c m : Nat) : Bool :=
  match s.evacTo c with
  | some e => e.created (s.st (CH_EVPTR_Q e.src)) m
  | none => s.cleared c m

/-- Room to create a metadata line: the ahead list has 16 entries (R348). -/
def State.mayCreate (s : State) (c : Nat) : Bool := (s.evacTo c).isSome || (s.chan c).ahead.length < 16

/-- Note a metadata line as created. -/
def State.noteCreated (s : State) (c m : Nat) : State :=
  if (s.evacTo c).isSome then s.onEvac fun e => { e with made := m :: e.made }
  else s.onChan c fun x => { x with ahead := x.ahead ++ [m] }

/-- Create metadata line m as a cleared, dirty line without a DRAM read (R348, R365). In bypass, and once the cache has been
flushed on the way into it (R387), the cleared line goes to memory at once. `none` while the ahead list is full or no way
qualifies. -/
def createLine (c m : Nat) (s : State) : Option State :=
  let q := quadOf c
  if !s.mayCreate c then none
  else if (s.quad q).bypStep ≥ 3 then some ((s.writeback c m 0 false).noteCreated c m)
  else (s.takeWay q c m .dirty false 0).map fun (_, _, s) => s.noteCreated c m

/-- Set aside everything a quad's cache holds of a channel, without writeback; a drop counts once (R386). -/
def dropCached (c : Nat) (s : State) : State :=
  let q := quadOf c
  let mine (e : Nat × Way) : Bool := e.2.chan == c
  if (s.quad q).ways.any mine then
    (s.onQuad q fun x => { x with ways := x.ways.filter fun e => !mine e }).bump (QD_MCEVT_SWAPDROP q)
  else s

/-- Write back every DIRTY line of a quad (R378). -/
def flushCache (q : Nat) (s : State) : State :=
  (s.quad q).ways.foldl (fun s e => s.cleanWay q e.1 true) s

/-- Every DIRTY line and every writeback of a quad has left for DRAM, the writes of the clearer (`done`) apart. -/
def State.cacheFlushed (s : State) (q : Nat) : Bool :=
  !((s.quad q).ways.any fun e => e.2.st == .dirty) &&
    !((quadChans q).any fun c => (s.chan c).ops.any fun o => o.kind == .writeback && !o.done && o.phase ≠ .recovering)

-- metadata clearing (R347)

/-- PTR passes metadata line m: it leaves the ahead list, and listed lines that follow are skipped. -/
def clearPast : Nat → Nat → State → State
  | 0, _, s => s
  | n + 1, c, s =>
    let p := s.st (CH_MDINIT_PTR c)
    if p < s.lines / 32 ∧ (s.chan c).ahead.contains p then
      clearPast n c ((s.onChan c fun x => { x with ahead := x.ahead.filter (· ≠ p) }).setSt (CH_MDINIT_PTR c) (p + 1))
    else s

/-- Clearing is complete: PTR has reached C/32. -/
def clearDone (c : Nat) (s : State) : State :=
  if (s.chan c).clear.isSome ∧ s.st (CH_MDINIT_PTR c) ≥ s.lines / 32 then
    (s.onChan c fun x => { x with clear := none, ahead := [] }).setSt (CH_MDINIT_DONE c) 1
  else s

/-- Begin clearing at metadata line m (R347, R349, R454). -/
def startClearing (c m : Nat) (s : State) : State :=
  let s := (s.setSt (CH_MDINIT_PTR c) m).setSt (CH_MDINIT_DONE c) 0
  clearDone c (s.onChan c fun x => { x with clear := some m, ahead := [] })

/-- A clearing write is at hand: `done` marks it. -/
def Op.clearing (o : Op) : Bool := o.kind == .writeback && o.done

/-- The clearer issues its next write while fewer than eight wait for the write queue to issue them; `clear` is the next
line it takes (assumption 30). -/
def clearNext (c : Nat) (s : State) : State :=
  let x := s.chan c
  if x.clear.isNone ∨ 8 ≤ (x.ops.filter fun o => o.clearing && o.phase ≠ .recovering).length then s
  else
    let s := clearDone c (clearPast 16 c s)
    let x := s.chan c
    match x.clear with
    | none => s
    | some n =>
      let next := max n (s.st (CH_MDINIT_PTR c))
      if next ≥ s.lines / 32 then s
      else
        let s := s.onChan c fun x => { x with clear := some (next + 1) }
        if x.ahead.contains next then s
        else
          let d := s.sealMd c next 0
          let o := { Op.fresh .writeback .wantQueue (s.metaX next) 0 next with data := d, plain := d, done := true }
          (s.addOp c o).note .mdWb c

/-- A clearing write has reached DRAM (R347): PTR counts the lines before the first one still under way. -/
def clearedLine (c m : Nat) (s : State) : State :=
  let x := s.chan c
  let p := x.ops.foldl (fun n o => if o.clearing then min n o.q else n) (x.clear.getD (m + 1))
  let p := max p (s.st (CH_MDINIT_PTR c))
  let s := s.onChan c fun x => { x with ahead := x.ahead.filter (p ≤ ·) }
  clearDone c (clearPast 16 c (s.setSt (CH_MDINIT_PTR c) p))

end Sys2Proof.Machine
end

