-- ==== Sys2Proof/Machine/Wear.lean ====
section
/-!
DEFINITION. The scruple table (R362), the wear windows with their causes (R447), the reservation of spares (R448), and
the peck of a scrub pass (R392, R397).
-/

namespace Sys2Proof.Machine

-- the scruple table

/-- The entry that gives way when no entry is free: COUNT 1 and the oldest LAST, the lower index on a tie (R362). -/
def scrupleVictim (t : Vector Scruple 16) : Option Nat :=
  ((t.toList.zipIdx.filter fun e => e.1.count == 1).foldl
    (fun best e => match best with
      | none => some e
      | some b => if e.1.last.older b.1.last then some e else some b) none).map Prod.snd

/-- Enter a transient in the scruple table (R362). -/
def enterScruple (c line : Nat) (now : Stamp) (s : State) : State :=
  let t := s.flt.scruple
  let fresh : Scruple := ⟨true, c, 1, line, now, now⟩
  let put (k : Nat) (f : Scruple → Scruple) : State := { s with flt := { s.flt with scruple := upd t k f } }
  match t.toList.findIdx? fun e => e.valid && e.chan == c && e.line == line with
  | some k => put k fun e => { e with count := min 255 (e.count + 1), last := now }
  | none =>
    match t.toList.findIdx? fun e => !e.valid with
    | some k => put k fun _ => fresh
    | none =>
      match scrupleVictim t with
      | some k => put k fun _ => fresh
      | none => s.bump FT_SCRSTAT_DROPPED

/-- A transient goes to the scruple table at the end of its cc. -/
def scruple (c line : Nat) (s : State) : State :=
  { s with flt := { s.flt with transients := s.flt.transients ++ [(c, line, s.tb.last)] } }

/-- The transients of a cc enter the table by physical channel, after a clear of the same cc (R362, R363). -/
def settleScruple (s : State) : State :=
  (sortBy (·.1) s.flt.transients).foldl (fun s e => enterScruple e.1 e.2.1 e.2.2 s)
    { s with flt := { s.flt with transients := [] } }

-- the channel table and the spares

/-- The entries of the table from L on, in order: spares and the retired (R224, R451). -/
def State.tableTail (s : State) : List Nat := s.table.drop s.logicals

/-- A spare is under test (R488). -/
def Chan.spareInTest (x : Chan) : Bool := x.test ≠ 0 && (x.state == .spare || (x.state == .test && x.prev == .spare))

/-- A spare is available: SPARE, without partner, not reserved (R448); one under test counts (R490). -/
def State.available (s : State) (c : Nat) : Bool :=
  ((s.chan c).state == .spare || (s.chan c).spareInTest) && (s.partner c).isNone &&
    !(s.chans.any fun x => x.reserve == some c)

/-- The available spare named first in entries L to 15. -/
def State.firstSpare (s : State) : Option Nat := s.tableTail.find? s.available

/-- Reserve a spare for a WEARING channel, or report that none is left (R448); a spare under test is first returned
(R490). -/
def reserveSpare (c : Nat) (s : State) : State :=
  let cause := s.st (CH_WEARSTAT_CAUSE c)
  match s.firstSpare with
  | some sp =>
    if (s.chan sp).spareInTest then
      (s.onChan sp fun x => { x with testStop := true }).onChan c fun x => { x with reserveDue := true }
    else
    let s := (s.onChan c fun x => { x with reserve := some sp, reserveDue := false }).setSt (CH_WEARSTAT_RESERVED_SP c) 1
    raise .spared c cause s
  | none => raise .nospare c cause (s.onChan c fun x => { x with reserveDue := false })

/-- A channel becomes WEARING with a cause (R447). Its spare is reserved at the end of the cc, where the lower physical
number goes first (R448, R460). -/
def becomeWearing (c cause : Nat) (s : State) : State :=
  (s.onChan c fun x => { x with state := .wearing, wearAt := some s.now, reserveDue := true }).setSt (CH_WEARSTAT_CAUSE c) cause

/-- The wear measures apply to a channel in ACTIVE that stands in entries 0 to L − 1 (R447). -/
def State.wears (s : State) (c : Nat) : Bool := (s.chan c).state == .active && (s.logicalOf c).isSome

/-- The counts of a window reach a threshold (R447 causes 0x1 and 0x2). -/
def wearTest (c : Nat) (s : State) : State :=
  if !s.wears c then s
  else if s.cf FT_WEARCFG0_TRTHR ≠ 0 ∧ s.st (CH_WEARCNT_TRANS c) ≥ s.cf FT_WEARCFG0_TRTHR then becomeWearing c 1 s
  else if s.cf FT_WEARCFG0_PSTHR ≠ 0 ∧ s.st (CH_WEARCNT_PERS c) ≥ s.cf FT_WEARCFG0_PSTHR then becomeWearing c 2 s
  else s

/-- Consecutive low margins that make a channel WEARING (R447). -/
def State.eyeN (s : State) : Nat := max 1 (s.cf FT_WEARCFG0_EYEN)

/-- Add 1 to a 48-bit count held in two registers. -/
def State.bump48 (s : State) (lo hi : Field) (n : Nat := 1) : State :=
  let v := min (2 ^ 48 - 1) (s.st hi * 2 ^ 32 + s.st lo + n)
  ((s.setSt lo (v % 2 ^ 32)).setSt hi (v / 2 ^ 32)).tell lo (.add n)

/-- A data line has been fetched and checked, refetches excluded: it counts at its outcome, with the transient or the
persistent mismatch that its refetches have shown (R370, R447); the window closes at 2^30 lines. -/
def countFetch (c : Nat) (salvage : Bool) (s : State) : State :=
  let s := s.bump48 (CH_RDCNTL_COUNT_LO c) (CH_RDCNTH_COUNT_HI c)
  if salvage ∨ !s.wears c then s
  else
    let n := s.st (CH_WEARRD_READS c) + 1
    if n < 2 ^ 30 then s.setSt (CH_WEARRD_READS c) n
    else
      let s := s.setSt (CH_WEARLAST_TRANS c) (s.st (CH_WEARCNT_TRANS c))
      let s := s.setSt (CH_WEARLAST_PERS c) (s.st (CH_WEARCNT_PERS c))
      ((s.setSt (CH_WEARCNT_TRANS c) 0).setSt (CH_WEARCNT_PERS c) 0).setSt (CH_WEARRD_READS c) 0

/-- A refetch matched: a transient (R358, R361, R362, R447). -/
def transient (c line : Nat) (s : State) : State :=
  let s := scruple c line (s.bump (CH_LIEVT_TRANSIENT c))
  let s := raise .trans c 0 s
  if s.wears c then wearTest c (s.bump (CH_WEARCNT_TRANS c)) else s

/-- A line failed every fetch: a persistent mismatch (R358, R361, R447). -/
def persistent (c line : Nat) (s : State) : State :=
  let s := raise .persist c line (s.bump (CH_LIEVT_PERSIST c))
  if s.wears c then wearTest c (s.bump (CH_WEARCNT_PERS c)) else s

-- the peck (R392)

/-- A 32-bit count of the peck; it saturates. -/
def peckSkipState (q : Nat) (s : State) : State := s.bump (QD_PKSKIPST_COUNT q)

def peckSkipHeld (q : Nat) (s : State) : State := s.bump (QD_PKSKIPHD_COUNT q)

/-- A scrub line was checked: with UNCHECKED, after a refetch. -/
def peckChecked (q : Nat) (unchecked again : Bool) (s : State) : State :=
  let s := s.bump (QD_PKCHECKED_COUNT q)
  let s := if unchecked then s.bump (QD_PKUNVER_COUNT q) else s
  if again then s.bump (QD_PKPOISON_TRANSIENT q) else s

/-- A scrub line was poisoned; the first is latched. -/
def peckPoisoned (q c line : Nat) (s : State) : State :=
  let s := (s.bump (QD_PKCHECKED_COUNT q)).bump (QD_PKPOISON_POISONED q)
  if s.st (QD_PKSTAT_FP_VALID q) = 1 then s
  else ((s.setSt (QD_PKFPIDX_LINE q) line).setSt (QD_PKSTAT_FP_CH q) c).setSt (QD_PKSTAT_FP_VALID q) 1

/-- A scrub line has completed. -/
def scrubDone (c : Nat) (s : State) : State :=
  s.onQuad (quadOf c) fun x => { x with scrub := { x.scrub with out := upd x.scrub.out (c % 4) (· - 1) } }

end Sys2Proof.Machine
end

