-- ==== Sys2Proof/Machine/Lines.lean ====
section
/-!
DEFINITION. What a line's metadata entry and its check lead to: lookups and fills (R374–R380, R385, R389), reads,
read-modify-writes, scrubs, migration and rekey (R346, R351, R356, R358–R360, R364–R367).
-/

namespace Sys2Proof.Machine

-- the walks of migration and rekey

/-- Move a pointer past the lines already done, in order. -/
def advance : Nat → Nat → List Nat → Nat × List Nat
  | 0, p, l => (p, l)
  | n + 1, p, l => if l.contains p then advance n (p + 1) (l.filter (· ≠ p)) else (p, l)

/-- EVPTR has reached C: the swap booking is posted (R450 step 3). -/
def toSwap (s : State) : State :=
  match s.mnt.evac with
  | none => s
  | some e =>
    postBooking .v (.chan e.src) .swap e.src (s.usCc 20) (s.onEvac fun e => { e with step := 3 })

/-- The migration of a line is complete (R450): EVPTR counts the lines in order. -/
def migrated (q : Nat) (s : State) : State :=
  match s.mnt.evac with
  | none => s
  | some e =>
    let r := advance (e.migDone.length + 1) (s.st (CH_EVPTR_Q e.src)) (q :: e.migDone)
    let s := s.setSt (CH_EVPTR_Q e.src) r.1
    let s := s.onEvac fun e => { e with migDone := r.2, made := e.made.filter fun m => 32 * m ≥ r.1 }
    if r.1 = s.lines ∧ e.step = 2 then toSwap s else s

/-- A rekey entry has completed (R476). -/
def rekeyed (c q : Nat) (s : State) : State :=
  let done := (s.chan c).rkDone
  let r := advance (done.length + 1) (s.st (CH_RKPTR_Q c)) (q :: done)
  (s.onChan c fun x => { x with rkDone := r.2 }).setSt (CH_RKPTR_Q c) r.1

/-- An operation has done all it owes and leaves its chain. -/
def finishOp (c : Nat) (o : Op) (s : State) : State :=
  let s := s.dropOp c o.id
  match o.kind with
  | .scrub => scrubDone c s
  | .migration => migrated o.q s
  | .rekey => rekeyed c o.q s
  | _ => s

/-- A read of a port is answered and leaves its chain (R352). -/
def finishRead (c : Nat) (o : Op) (out : Outcome) (d : Line) (s : State) : State := finishOp c o (answerOp o out d s)

/-- The answer of a checked line (R358). -/
def checkedAnswer (unchecked : Bool) : Outcome := if unchecked then ⟨1, 0xB⟩ else ⟨0, 0⟩

-- the mirror path to a spare (R365)

/-- The spare to which changes of line q of an evacuating channel are mirrored: those of a line whose migration is complete or
under way (R365), also while the spare readies itself anew after a block reset (R460). -/
def State.mirrorTo (s : State) (c q : Nat) : Option Nat :=
  match s.mnt.evac with
  | some e =>
    if e.src = c ∧ (q < s.st (CH_EVPTR_Q c) ∨ e.migDone.contains q ∨
        (s.chan c).ops.any fun o => o.kind == .migration && o.q == q && o.phase == .paired)
    then some e.spare else none
  | none => none

/-- Write a line's stored form, unless `entryOnly`, and its entry to the spare on behalf of an operation: a migration write
of P30, which waits for its perch queue there (R310). -/
def mirror (c sp : Nat) (o : Op) (d : Line) (e : Entry) (entryOnly : Bool) (s : State) : State :=
  let l : PerchLine :=
    ⟨30, 0, 0, o.line, o.q, 3, true, 4, d, if entryOnly then 0 else BitVec.allOnes 256, .mirror, s.now, e, o.id⟩
  (s.onChan sp fun x => { x with mirrors := x.mirrors ++ [l] }).onOp c o.id fun o => { o with partner := some sp }

/-- A mirror write is complete: its migration has completed, or its write owes no more than its own tWR. -/
def mirrorDone (sp id : Nat) (s : State) : State :=
  match s.evacTo sp with
  | none => s
  | some e =>
    match (s.chan e.src).op id with
    | none => s
    | some o =>
      if o.partner ≠ some sp then s
      else if o.phase = .paired then finishOp e.src o s
      else s.onOp e.src id fun o => { o with partner := none }

/-- The next migration write of a spare enters P30's perch queue when it has room (R263). -/
def handMirror (c : Nat) (s : State) : State :=
  match (s.chan c).mirrors with
  | [] => s
  | l :: rest =>
    if (s.perch c 30).length ≥ 4 then s
    else addPerch c 30 { l with since := s.now } (s.onChan c fun x => { x with mirrors := rest })

/-- No migration write is on its way at a spare. -/
def State.mirrorsRest (s : State) (c : Nat) : Bool :=
  let x := s.chan c
  x.mirrors.isEmpty && !((s.perch c 30).any (·.kind == .mirror)) && !(x.arb.coming.any (·.kind == .mirror)) &&
    !(x.ops.any (·.kind == .mirror))

/-- The migration writes of a spare are given up. -/
def dropMirrors (c : Nat) (s : State) : State :=
  let other (l : PerchLine) : Bool := l.kind ≠ .mirror
  s.onChan c fun x => { x with
    mirrors := []
    arb := { x.arb with
      perch := upd x.arb.perch 30 fun q => q.filter other
      xfer := x.arb.xfer.filter fun e => other e.1
      next := x.arb.next.filter fun e => other e.1 } }

/-- An entry-only change of a line is made at its channel and, where it is mirrored, at the spare. -/
def entryChange (c : Nat) (o : Op) (e : Entry) (s : State) : State :=
  let s := (updateEntry c o.q o.way e s).unpin c o.id
  match s.mirrorTo c o.q with
  | some sp => (mirror c sp o 0 e true s).onOp c o.id fun o => { o with phase := .paired }
  | none => finishOp c o s

-- gills

/-- Answer the reads that waited for a gill's outcome (R351): each with the bytes it found held at its admission, over the
line as fetched (R226). -/
def answerBehind (c lead : Nat) (out : Outcome) (d : Line) (s : State) : State :=
  (s.chan c).ops.foldl (fun s o =>
    if o.phase = .behind ∧ o.lead = lead then finishRead c o out (merge d o.plain o.mask) s else s) s

/-- The reads that waited for a gill's outcome fetch the line themselves. -/
def fetchBehind (c lead : Nat) (s : State) : State :=
  let free (o : Op) : Op := if o.phase = .behind ∧ o.lead = lead then { o with phase := .wantQueue, mask := 0 } else o
  s.onChan c fun x => { x with ops := x.ops.map free }

/-- A gill is discarded (R346, R356): its writes complete with an outcome and its data is dropped; reads behind it
answer by the line's state `st`. -/
def discardGill (c : Nat) (o : Op) (out : Outcome) (st : LineState) (s : State) : State :=
  let s := (completeWrites c o.lead out s).bump (CH_LIEVT_DISCARD c)
  let s := match o.gill with | some g => s.freeGillAt c g | none => s
  answerBehind c o.lead (s.deadAnswer c o.q st) 0 ((s.dropWrites c o.lead).dropOp c o.id)

/-- While DEBT_OVER is set a fetched copy that fails its check is not merged (R33, R356) and its line not poisoned (R360):
the gill is discarded as for a mismatch, and the reads behind it fetch the line (assumption 47). -/
def salvageGill (c : Nat) (o : Op) (s : State) : State :=
  let s := (completeWrites c o.lead ⟨2, 8⟩ s).bump (CH_LIEVT_DISCARD c)
  let s := match o.gill with | some g => s.freeGillAt c g | none => s
  fetchBehind c o.lead ((s.dropWrites c o.lead).dropOp c o.id)

/-- The fetched line matched: the gill's bytes are laid over it, and every merged write completes (R356). -/
def mergeGill (c : Nat) (o : Op) (plain : Line) (unchecked : Bool) (s : State) : State :=
  match o.gill with
  | none => s.dropOp c o.id
  | some g =>
    match (s.chan c).gill g with
    | none => s.dropOp c o.id
    | some gl =>
      let d := merge plain gl.data gl.mask
      let s := s.onChan c (·.onGill g fun x => { x with data := d, mask := BitVec.allOnes 256, merged := true })
      let s := completeWrites c o.lead (checkedAnswer unchecked) s
      let s := s.onOp c o.lead fun w => { w with looked := true, entry := o.entry, way := o.way, merged := true }
      answerBehind c o.lead (checkedAnswer (Entry.unverified o.entry)) plain (s.dropOp c o.id)

-- entries served

/-- An operation has its entry: it ends at once where the line's state needs no DRAM access, and otherwise reads
(R346, R351, R364, R365, R367). -/
def serve (c id : Nat) (way : Option Nat) (e : Entry) (s : State) : State :=
  match (s.chan c).op id with
  | none => s
  | some o =>
    let st := s.lineState e
    let dead := st == .unwritten || st == .poisoned || st == .epochError
    let s := s.onOp c id fun o => { o with
      looked := true, entry := if o.kind = .mirror then o.entry else e, way := way
      phase := if o.kind = .write ∨ o.kind = .mirror then o.phase else .reading }
    let o := { o with entry := e, way := way }
    match o.kind with
    | .read => if dead then finishRead c o (s.deadAnswer c o.q st) 0 s else s
    | .rmw =>
      if dead then discardGill c o ⟨2, if st = .epochError then 9 else 8⟩ st s else s
    | .scrub => if dead then finishOp c o (peckSkipState (quadOf c) s) else s
    | .migration =>
      if dead then
        match s.mnt.evac with
        | some v => (mirror c v.spare o 0 e true s).onOp c id fun o => { o with phase := .paired, way := none }
        | none => finishOp c o s
      else s
    | .rekey =>
      if e.epoch = s.writeSlot ∨ st = .epochError then finishOp c o s
      else if dead then entryChange c o (e.setBit 35 (s.writeSlot = 1)) s
      else s
    | .mirror =>
      if o.acted then
        mirrorDone c o.lead ((updateEntry c o.q way ((s.chan c).op id |>.map (·.entry) |>.getD 0) s).dropOp c id)
      else s
    | _ => s

/-- Serve the lookups that wait on a way, in their order (R374, R389). -/
def serveWaiting (q w : Nat) (way : Option Nat) (d : Line) (s : State) : State :=
  (quadChans q).foldl (fun s c => (s.chan c).ops.foldl (fun s o =>
    if o.way = some w ∧ !o.looked ∧ !o.isFill then serve c o.id way (entryOf d o.q) s else s) s) s

/-- The lookups that wait on a way look their line up again. -/
def requeueWaiting (q w : Nat) (s : State) : State :=
  let free (o : Op) : Op := if o.way = some w ∧ !o.looked ∧ !o.isFill then { o with way := none } else o
  (quadChans q).foldl (fun s c => s.onChan c fun x => { x with ops := x.ops.map free }) s

-- lookups

/-- The operation waits to look up its entry. -/
def Op.wantsLookup (o : Op) : Bool :=
  o.way.isNone && !o.looked && (o.phase == .lookup ||
    (o.phase == .writing && ((o.kind == .write && o.lead == o.id) || o.kind == .mirror)))

/-- Start a bypass access (R385): the lane is stopped for it. -/
def bypassAccess (c : Nat) (o : Op) (s : State) : State :=
  let m := o.q / 32
  let id := (s.chan c).nextOp
  (s.addFill .bypass c m none none o.id).onLane (quadOf c) (laneOf c m) fun l => { l with stopped := some (c, id) }

/-- A miss takes a way and its lane stops for the fill; without a way it waits in its lane (R375, R376). -/
def missFill (c : Nat) (o : Op) (s : State) : State :=
  let m := o.q / 32
  let q := quadOf c
  match s.takeWay q c m .filling false 0 with
  | some (w, wb, s) =>
    let id := (s.chan c).nextOp
    let s := (s.addFill .demand c m (some w) wb o.id).onOp c o.id fun o => { o with way := some w }
    s.onLane q (laneOf c m) fun l => { l with stopped := some (c, id), waiting := none }
  | none => s.onLane q (laneOf c m) fun l => { l with waiting := some (c, o.id) }

/-- Look a present metadata line up (R374, R375, R385). -/
def lookupPresent (c : Nat) (o : Op) (s : State) : State :=
  let m := o.q / 32
  let q := quadOf c
  match (s.quad q).wayFor c m with
  | some w =>
    let v := (s.quad q).way w
    match v.st with
    | .clean | .dirty => serve c o.id (some w) (entryOf v.data o.q) s
    | .filling | .recompute => s.onOp c o.id fun o => { o with way := some w }
    | .invalid => bypassAccess c o (s.bump (QD_MCEVT_LEBYP q))
  | none =>
    if (s.quad q).bypassed then bypassAccess c o s
    else missFill c o ((s.bump (QD_MCMISS_COUNT q)).note .mdMiss c)

/-- Look up a line whose metadata line is not cleared (R348): reads answer, P30 skips, and a write has it created. -/
def lookupAbsent (c : Nat) (o : Op) (s : State) : State :=
  match o.kind with
  | .read => finishRead c o (s.unwrittenAnswer c o.q) 0 s
  | .scrub => finishOp c o (peckSkipState (quadOf c) s)
  | .rekey => finishOp c o s
  | .migration => serve c o.id none 0 s
  | _ =>
    match createLine c (o.q / 32) s with
    | none => s
    | some s => lookupPresent c o (if o.kind = .write then completeWrites c o.id ⟨0, 0⟩ s else s)

def lookupOp (c : Nat) (o : Op) (s : State) : State :=
  if s.present c (o.q / 32) then
    lookupPresent c o (if o.kind = .write then completeWrites c o.id ⟨0, 0⟩ s else s)
  else lookupAbsent c o s

/-- The oldest lookup a channel offers a lane. -/
def State.lookupOf (s : State) (c lane : Nat) : Option Op :=
  (s.chan c).ops.find? fun o => o.wantsLookup && laneOf c (o.q / 32) == lane && s.opFree c o

/-- A quad has a clock to issue commands on: no switch is in progress, it does not wait, and no stop has reached its end
(R101, R106, R111, R441, R484). -/
def State.quadLives (s : State) (q : Nat) : Bool :=
  let k := s.quadClk q
  s.clocked && !k.wait && k.sw.isNone && s.clk.coreSw ≠ .toBypass && s.flt.haltStep ≠ 4

/-- The same, with no fallback in progress. -/
def State.quadClocked (s : State) (q : Nat) : Bool := s.quadLives q && (s.quadClk q).fbStep == 0

/-- The command engines of a quad run: its clocks are steady and no return of RSI_CK is in progress (R117). -/
def State.quadRuns (s : State) (q : Nat) : Bool := s.quadClocked q && s.clk.retStep == 0

/-- The quad serves operations: it runs and the block is not stopping. -/
def State.quadWorks (s : State) (q : Nat) : Bool := s.quadRuns q && s.flt.haltStep == 0

/-- The last column command of a line has issued and its line is not finished: data is on its way, or rests tWR. -/
def Op.ending (o : Op) : Bool := o.phase == .flight || (o.phase == .recovering && o.partner.isNone)

/-- An operation goes on: calibration wherever the quad has a clock (R410), the others where it works; lines that had started
finish in a halt (R441). -/
def State.opWorks (s : State) (c : Nat) (o : Op) : Bool :=
  if o.kind = .scratch then s.quadLives (quadOf c)
  else s.quadWorks (quadOf c) || (s.quadRuns (quadOf c) && s.flt.haltStep == 2 && o.ending)

/-- A change in bypass is under way on a lane: its second read, or the writeback it leads to (R385). -/
def Op.changes (o : Op) : Bool :=
  (o.kind == .bypassWrite && o.phase ≠ .lookup) || (o.kind == .writeback && o.merged && o.phase ≠ .recovering)

/-- A lane is free to take a lookup or a maintenance visit, one a cc: no demand miss and no bypass access stops it (R374,
R375, R384, R385). -/
def State.laneFree (s : State) (q lane : Nat) : Bool :=
  let l := (s.quad q).lane lane
  l.stopped.isNone && l.usedAt ≠ some s.now &&
    !((quadChans q).any fun c => (s.chan c).ops.any fun o => o.changes && laneOf c o.q == lane)

/-- One cycle of a lane (R374): a miss waiting for a way first, unless a fill of its line has begun in the meantime (R386),
then the channels round-robin. -/
def laneStep (q lane : Nat) (s : State) : State :=
  let l := (s.quad q).lane lane
  if !s.laneFree q lane then s
  else
    let s := s.onLane q lane fun l => { l with usedAt := some s.now }
    match l.waiting with
    | some (c, id) =>
      match (s.chan c).op id with
      | some o =>
        if ((s.quad q).wayFor c (o.q / 32)).isSome then lookupPresent c o (s.onLane q lane fun l => { l with waiting := none })
        else missFill c o s
      | none => s.onLane q lane fun l => { l with waiting := none }
    | none =>
      let order := [1, 2, 3, 4].map fun i => 4 * q + (l.last + i) % 4
      match order.findSome? fun c => (s.lookupOf c lane).map fun o => (c, o) with
      | some (c, o) => lookupOp c o (s.onLane q lane fun l => { l with last := c % 4 })
      | none => s

-- preloads (R379)

/-- A streaming line has been admitted: the next metadata line may be preloaded. -/
def preloadTest (c q : Nat) (s : State) : State :=
  let k := quadOf c
  let m := q / 32 + 1
  let thr := s.cf (QD_MCCFG_PRETHR k)
  if thr = 0 ∨ q % 32 < thr ∨ (s.quad k).bypStep ≠ 0 ∨ m ≥ s.lines / 32 ∨ !s.present c m ∨
      ((s.quad k).wayFor c m).isSome then s
  else if ((s.quad k).lane (laneOf c m)).slot.isSome then s.bump (QD_MCEVT_PREDROP k)
  else match s.takeWay k c m .filling false 0 with
    | none => s.bump (QD_MCEVT_PREDROP k)
    | some (w, wb, s) =>
      let id := (s.chan c).nextOp
      (s.addFill .preload c m (some w) wb 0).onLane k (laneOf c m) fun l => { l with slot := some (c, id) }

-- fills

/-- The line index of offset q of a logical channel, the inverse of R222. -/
def State.lineAt (s : State) (l q : Nat) : Nat :=
  let f := if s.on GL_AMAP_HASH then (List.range 7).foldl (fun acc i => acc ^^^ natBits q (4 * i) 4) 0 else 0
  q * s.logicals + (l + 16 * s.logicals - f) % s.logicals

/-- The line index of data line q of a channel. -/
def State.lineOf (s : State) (c q : Nat) : Nat := s.lineAt ((s.mdLogical c).getD 0) q

/-- The lane goes on, and the preload slot of a fill is free again. -/
def fillOver (c : Nat) (o : Op) (s : State) : State :=
  s.onLane (quadOf c) (laneOf c o.q) fun l => { l with
    stopped := if l.stopped = some (c, o.id) then none else l.stopped
    slot := if l.slot = some (c, o.id) then none else l.slot }

/-- A metadata line has failed its check twice: it is rebuilt from its 32 data lines (R389). The fill that asked is over;
a change in bypass waits for the rebuilt line. -/
def startRecompute (c : Nat) (o : Op) (s : State) : State :=
  let q := quadOf c
  let id := match o.way with | some w => w | none => 2048 + 16 * o.id + c % 4
  let s := fillOver c o s
  let s := match o.kind, o.way with
    | .bypassWrite, _ => s.onOp c o.id fun o => { o with way := some id, phase := .lookup }
    | .bypass, _ => (s.dropOp c o.id).onOp c o.lead fun o => { o with way := some id }
    | _, some w => (s.dropOp c o.id).onWay q w fun v => { v with st := .recompute }
    | _, none => s.dropOp c o.id
  let mop := match o.kind with | .opFill _ => true | _ => false
  let s := s.onQuad q fun x => { x with rebuilds := x.rebuilds ++ [⟨id, c, o.q, 32, 0, mop⟩] }
  (List.range 32).foldl (fun s i =>
    let d := 32 * o.q + i
    s.addRecompute c { Op.fresh (.recompute i) .wantQueue d (s.lineOf c d) d with lead := id }) s

/-- A fill's line passed its check (R374, R375, R380, R385). -/
def install (c : Nat) (o : Op) (d : Line) (s : State) : State :=
  let q := quadOf c
  let s := fillOver c o s
  match o.kind, o.way with
  | .bypassWrite, _ =>
    let d := s.sealMd c o.q (withEntry d o.idx o.entry)
    (s.onOp c o.id fun w => { w with
      kind := .writeback, phase := .wantQueue, bursts := 0, tries := 0, data := d, plain := d, acted := false
      merged := true }).note .mdWb c
  | .bypass, _ =>
    match (s.chan c).op o.lead with
    | some a => serve c a.id none (entryOf d a.q) (s.dropOp c o.id)
    | none => s.dropOp c o.id
  | k, some w =>
    let lock := match k with | .opFill l => l | _ => false
    let s := (s.dropOp c o.id).onWay q w fun v => { v with st := .clean, data := d, locked := v.locked || lock }
    serveWaiting q w (some w) d s
  | _, none => s.dropOp c o.id

/-- A metadata line has returned from DRAM (R375, R380, R389). -/
def fillReturn (c : Nat) (o : Op) (d : Line) (s : State) : State :=
  let q := quadOf c
  if mcrcOf d == s.mcrc c o.q d then
    let s := if o.tries > 0 then raise .mtrans c 0 (s.bump (QD_MCEVT_MTRANS q)) else s
    install c o d s
  else if o.kind = .preload then
    let s := fillOver c o (s.dropOp c o.id)
    match o.way with
    | some w => requeueWaiting q w ((s.onWay q w fun _ => .empty).bump (QD_MCEVT_PREBAD q))
    | none => s
  else if o.tries = 0 then s.onOp c o.id fun o => { o with phase := .wantQueue, tries := 1, bursts := 0 }
  else startRecompute c o s

/-- Insert a writeback ahead of every fill of its line that has yet to read. -/
def State.writebackFirst (s : State) (c m : Nat) (d : Line) : State :=
  let d := s.sealMd c m d
  let o := { Op.fresh .writeback .wantQueue (s.metaX m) 0 m with data := d, plain := d }
  let s := s.note .mdWb c
  match (s.chan c).ops.find? fun e => e.x == o.x && e.isMetaFill with
  | some e => s.insertOp c e.id o
  | none => s.addOp c o

/-- All 32 lines are read: the rebuilt line is installed DIRTY, or in bypass written back at once (R389). -/
def rebuilt (q : Nat) (b : Rebuild) (s : State) : State :=
  let s := raise .recomp b.chan b.m (s.bump (QD_MCEVT_RECOMP q))
  let s := s.onQuad q fun x => { x with rebuilds := x.rebuilds.filter (·.id ≠ b.id) }
  if b.id < 2048 then
    let s := s.onWay q b.id fun v => { v with st := .dirty, data := b.data }
    serveWaiting q b.id (some b.id) b.data s
  else
    let changes := (s.chan b.chan).ops.filter fun o => o.kind == .bypassWrite && o.way == some b.id
    let d := changes.foldl (fun d o => withEntry d o.idx o.entry) b.data
    let s := changes.foldl (fun s o => s.dropOp b.chan o.id) s
    serveWaiting q b.id none d (s.writebackFirst b.chan b.m d)

-- checks (R358)

/-- The slot that a rekey pass names for line q of a channel, or else the write slot (R366, R478). -/
def State.namedSlot (s : State) (c q : Nat) : Nat :=
  if s.keys.rkState ≠ 0 ∧ q ≥ s.st (CH_RKPTR_Q c) then s.keys.rkOld else s.writeSlot

/-- The line is returned: it matched, or it is salvaged (R360). `again` that a refetch matched. -/
def goodLine (c : Nat) (o : Op) (stored plain : Line) (unchecked salvage isMatch again : Bool) (s : State) : State :=
  match o.kind with
  | .read => finishRead c o (checkedAnswer unchecked) (merge plain o.plain o.mask) s
  | .rmw => mergeGill c o plain unchecked s
  | .scrub =>
    let s := peckChecked (quadOf c) unchecked again s
    finishOp c o (if salvage then s else updateEntry c o.q o.way (Entry.setBit o.entry 36 true) s)
  | .migration =>
    match s.mnt.evac with
    | some v => (mirror c v.spare o stored o.entry false s).onOp c o.id fun o => { o with phase := .paired, way := none }
    | none => finishOp c o s
  | .rekey =>
    if isMatch then s.onOp c o.id fun o => { o with
      phase := .wantQueue, acted := true, tries := 0, bursts := 0, plain := plain }
    else finishOp c o s
  | _ => finishOp c o s

/-- The line failed every fetch and is poisoned (R346, R358, R364–R367). -/
def badLine (c : Nat) (o : Op) (s : State) : State :=
  let e := Entry.setBit o.entry 33 true
  let s := countFetch c false (persistent c o.line s)
  let s := (updateEntry c o.q o.way e s).unpin c o.id
  let o := { o with way := none }
  match o.kind with
  | .read => finishRead c o ⟨2, 7⟩ 0 s
  | .rmw => discardGill c o ⟨2, 8⟩ .poisoned s
  | .scrub => finishOp c o (peckPoisoned (quadOf c) c o.line s)
  | .migration =>
    match s.mnt.evac with
    | some v => (mirror c v.spare o 0 e true s).onOp c o.id fun o => { o with phase := .paired }
    | none => finishOp c o s
  | _ => finishOp c o s

/-- A refetch takes a shared read-queue entry at once, where one is free (R286, R359). -/
def refetch (c id : Nat) (s : State) : State :=
  let free := (s.chan c).rqFree
  s.onOp c id fun o => { o with
    phase := if free then .reading else .wantQueue, rq := if free then .shared else .none, bursts := 0 }

/-- Check a fetched data line (R358–R360). -/
def checkLine (c : Nat) (o : Op) (stored : Line) (s : State) : State :=
  let plain := s.decrypt (Entry.epoch o.entry) o.line stored
  let ok := lineCrc plain o.line == Entry.crc o.entry
  if s.clk.debtOver then
    let s := countFetch c true s
    let s := s.bump (if ok then CH_SALV_MATCH c else CH_SALV_MISMATCH c)
    if o.kind = .rmw ∧ !ok then salvageGill c o s else goodLine c o stored plain true true ok false s
  else
    if ok then
      goodLine c o stored plain (Entry.unverified o.entry) false true (o.tries > 0)
        (countFetch c false (if o.tries > 0 then transient c o.line s else s))
    else if o.tries = 0 then refetch c o.id (s.onOp c o.id fun o => { o with tries := 1 })
    else if o.tries = 1 then s.onOp c o.id fun o => { o with phase := .pause, tries := 2, bursts := 0, mark := s.rsck }
    else badLine c o s

/-- A data line of a rebuild has been read: its entry is built without a check (R366). -/
def recomputeRead (c i : Nat) (o : Op) (stored : Line) (s : State) : State :=
  let slot := s.namedSlot c o.q
  let e := Entry.rebuilt (lineCrc (s.decrypt slot o.line stored) o.line) slot
  let take (b : Rebuild) : Rebuild :=
    if b.id = o.lead ∧ b.chan = c then { b with left := b.left - 1, data := withEntry b.data i e } else b
  let s := s.onQuad (quadOf c) fun x => { x with rebuilds := x.rebuilds.map take }
  s.dropOp c o.id

/-- The cc from the last RD of a line to the end of its data (R303), and through the pipeline (R466). -/
def State.readLatency (s : State) (c : Nat) (piped : Bool) : Nat :=
  (s.cf (CH_TLAT_RL c s.op.cur) + 4) * s.ck + if piped then 28 else 0

/-- The fetch of an operation has returned. -/
def State.fetched (s : State) (c : Nat) (o : Op) : Bool :=
  o.phase == .flight && o.mark + s.readLatency c (!o.isMetaFill && o.kind ≠ .scratch && o.kind ≠ .test) ≤ s.now

-- meanings

/-- A lane takes a lookup (R374); none while the cache enters bypass (R387). -/
def execMetadataLookup (q : Fin 4) (lane : Fin 8) (s : State) : Host.Outcome State Fault Refusal :=
  .next (if s.quadWorks q ∧ ((s.quad q).bypStep = 0 ∨ (s.quad q).bypassed) then laneStep q lane s else s)

/-- Read data of a line arrives: it is decrypted and checked (R358). `err` are the bits that DRAM or the link changed. -/
def execReadDataReturn (ch : Fin 16) (id : Nat) (err : Line) (s : State) : Host.Outcome State Fault Refusal :=
  match (s.chan ch).op id with
  | some o =>
    if s.opWorks ch o ∧ s.fetched ch o then
      let d := o.data ^^^ err
      match o.kind with
      | .recompute i => .next (recomputeRead ch i o d s)
      | .scratch | .test => .next (finishOp ch o s)
      | .read | .rmw | .scrub | .migration | .rekey => .next (checkLine ch o d s)
      | _ => .next s
    else .next s
  | none => .next s

/-- 1 µs after the check of the first refetch (R359). -/
def execSecondRefetchDue (ch : Fin 16) (id : Nat) (s : State) : Host.Outcome State Fault Refusal :=
  match (s.chan ch).op id with
  | some o =>
    if s.quadWorks (quadOf ch) ∧ o.phase = .pause ∧ o.mark + s.usRsck 1 ≤ s.rsck then
      .next (refetch ch id s)
    else .next s
  | none => .next s

/-- A metadata fill returns: its MCRC is checked and the line installed (R345, R375, R389). -/
def execFillInstall (ch : Fin 16) (id : Nat) (err : Line) (s : State) : Host.Outcome State Fault Refusal :=
  match (s.chan ch).op id with
  | some o =>
    if s.opWorks ch o ∧ o.isMetaFill ∧ s.fetched ch o then .next (fillReturn ch o (o.data ^^^ err) s)
    else .next s
  | none => .next s

/-- The 32 lines of a rebuild are read (R389 step 5). -/
def execRecomputeComplete (q : Fin 4) (way : Nat) (s : State) : Host.Outcome State Fault Refusal :=
  match (s.quad q).rebuilds.find? (·.id = way) with
  | some b => .next (if s.quadWorks q ∧ b.left = 0 then rebuilt q b s else s)
  | none => .next s

end Sys2Proof.Machine
end

