-- ==== Sys2Proof/Machine/Shaping.lean ====
section
/-!
DEFINITION. Shapers (R245–R251), the furlong with the calendar (R252–R256) and the time gates (R257–R262).
-/

namespace Sys2Proof.Machine

/-- The ports that have a shaper and a gate. -/
def shapedPorts : List Nat := List.range 30

-- buckets

/-- The depth of a bucket in 1/1,024 beat (R246). -/
def bucketDepth (w : Word) : Nat := max 64 (natBits w.toNat 16 16) * 1024

/-- The rate of a bucket in 1/1,024 beat a rod. -/
def bucketRate (w : Word) : Nat := natBits w.toNat 0 16

/-- Shaping and policing in effect (R247). -/
def Port.shaped (x : Port) : Bool := natBit x.shctl.toNat 0

def Port.policed (x : Port) : Bool := natBit x.shctl.toNat 1

/-- The demoted tier (R248). -/
def Port.demotedTier (x : Port) (tier : Nat) : Nat :=
  let d := natBits x.shctl.toNat 4 2
  if d > tier then d else 3

/-- The cost of a request in 1/1,024 beat (R247). -/
def Req.cost (r : Req) : Nat := r.count * 1024

/-- The rods until a bucket could pay (R249). -/
def rodsToPay (cost level rate : Nat) : Option Nat := if rate = 0 then none else some (ceilDiv (cost - level) rate)

/-- k of R249. -/
def Port.waitRods (x : Port) (cost : Nat) : Nat :=
  let c := rodsToPay cost x.levelC (bucketRate x.shc)
  let p := if x.policed then rodsToPay cost x.levelP (bucketRate x.shp) else none
  let k := match c, p with
    | none, none => 1023
    | some a, none => a
    | none, some b => b
    | some a, some b => min a b
  max 1 (min 1023 k)

/-- The port's shaper takes register values from a record or a write (R250). -/
def loadShaper (p : Nat) (w : Word × Word × Word) (s : State) : State :=
  s.onPort p fun x => { x with shctl := w.1, shc := w.2.1, shp := w.2.2 }

/-- PTn_SHCTL, PTn_SHC and PTn_SHP as they stand. -/
def State.shaperRegs (s : State) (p : Nat) : Word × Word × Word :=
  (s.cfg.get (PT_SHCTL_EN p).addr, s.cfg.get (PT_SHC_RATE p).addr, s.cfg.get (PT_SHP_RATE p).addr)

-- gates

/-- The gate commit copy in progress has yet to copy register `i`, so tests read the shadow (R262). -/
def Wheel.gateShadow (w : Wheel) (i : Nat) : Bool := match w.gateCopy with | some k => i ≥ k | none => false

/-- The order of the gate copy: the 64 windows, TB_GATEVG, then PTn_GATE of P0 to P29. -/
def gateVgIx : Nat := 64

def gatePortIx (p : Nat) : Nat := 65 + p

/-- Window k of a group as tests read it: (EN, START, END) (R258, R262). -/
def State.window (s : State) (g k : Nat) : Bool × Nat × Nat :=
  if s.wheel.gateShadow (8 * g + k) then (s.on (TB_GS_EN g k), s.cf (TB_GS_START g k), s.cf (TB_GS_END g k))
  else (s.st (TB_GW_EN g k) = 1, s.st (TB_GW_START g k), s.st (TB_GW_END g k))

/-- The windows of a group on the running line (R258): in a vertical gap a group may be open as one window. -/
def State.windows (s : State) (g : Nat) : List (Nat × Nat) :=
  let vg := if s.wheel.gateShadow gateVgIx then s.cf TB_GATEVG_VG else s.st TB_GATEVG_VGW
  if s.tb.inV && natBit vg g then [(0, 1024)]
  else (List.range 8).filterMap fun k =>
    let w := s.window g k
    if w.1 ∧ w.2.1 < w.2.2 ∧ w.2.2 ≤ 1024 then some w.2 else none

/-- Gate membership of a port: (GATED, GROUP, CPB) (R257, R262). -/
def State.gateOf (s : State) (p : Nat) : Bool × Nat × Nat :=
  if s.wheel.gateShadow (gatePortIx p) then (s.on (PT_GATE_GATED p), s.cf (PT_GATE_GROUP p), s.cf (PT_GATE_CPB p))
  else (s.st (PT_GATEW_GATED p) = 1, s.st (PT_GATEW_GROUP p), s.st (PT_GATEW_CPB p))

/-- The estimated transfer in grains, E = ⌈e × 16,384 / PERIOD⌉ with e = beats × CPB / 4 (R259). -/
def State.transferGrains (s : State) (p : Nat) (r : Req) : Nat :=
  let cpb := (s.gateOf p).2.2
  let cpb := if cpb = 0 then 4 else cpb
  ceilDiv (r.count * cpb * 16384) (4 * max 1 s.lineper)

/-- What a gate answers a request (R259, R260). -/
inductive GateTest
  | wait | pass | oversize
  deriving DecidableEq, Repr

/-- The test of a waiting request; a port that a commit has made ungated holds nothing back (R257, R262). -/
def State.gateTest (s : State) (p : Nat) (r : Req) : GateTest :=
  let ws := s.windows (s.gateOf p).2.1
  let e := s.transferGrains p r
  let g := s.grain
  if !(s.gateOf p).1 then .pass
  else if ws.any fun w => w.1 ≤ g && g + e ≤ w.2 then .pass
  else if !ws.isEmpty && ws.all (fun w => e > w.2 - w.1) && ws.any (fun w => w.1 ≤ g && g < w.2) then .oversize
  else .wait

/-- The request waiting at a port's gate. -/
def Port.gated (x : Port) : Option Req := x.reqs.find? (·.stage == .gate)

-- the shaper test

/-- The request at the head of the shaper: none while one waits at the gate (R245, R257). -/
def Port.shaping (x : Port) : Option Req :=
  if x.gated.isSome then none else x.reqs.find? (·.stage == .shaping)

/-- Release a request with a tier (R245, R257). -/
def release (p seq tier : Nat) (cal : Bool) (s : State) : State :=
  let next : Stage := if (s.gateOf p).1 then .gate else .hand
  s.onPort p fun x => { x.onReq seq fun r => ({ r with
    tier := tier, cal := cal, stage := next, passAt := if next = .hand then some s.now else none }) with relAt := some s.now }

/-- Test the head request (R247–R249); one release a cc (R245). -/
def shaperTest (p : Nat) (s : State) : State :=
  let x := s.port p
  match (if x.relAt = some s.now then none else x.shaping) with
  | none => s
  | some r =>
    let n := r.lines.length
    let tier := s.cf (PT_ARB_TIER p)
    if x.credit ≥ n then release p r.seq 0 true (s.onPort p fun x => { x with credit := x.credit - n })
    else if !x.shaped then release p r.seq tier false s
    else if x.levelC ≥ r.cost then
      release p r.seq tier false (s.onPort p fun x => { x with levelC := x.levelC - r.cost })
    else if x.policed && x.levelP ≥ r.cost then
      let s := s.onPort p fun x => { x with levelP := x.levelP - r.cost }
      release p r.seq (x.demotedTier tier) false ((s.bump (PT_SHCNT_DEMOTED p)).note .demoted p)
    else
      let s := s.onPort p fun y => { y with rodAt := some ((s.wheel.rod + x.waitRods r.cost) % 1024) }
      (s.bump (PT_SHCNT_SHAPED p)).note .shaped p

-- the furlong

/-- The calendar copy has yet to copy register `i`, so the furlong reads the shadow (R256). -/
def Wheel.calShadow (w : Wheel) (i : Nat) : Bool := match w.calCopy with | some k => i ≥ k | none => false

/-- Calendar entry k of a port as the furlong reads it: (START, STRIDE, LINES). -/
def State.calEntry (s : State) (p k : Nat) : Nat × Nat × Nat :=
  if s.wheel.calShadow (4 * p + k) then (s.cf (PT_CAL_START p k), s.cf (PT_CAL_STRIDE p k), s.cf (PT_CAL_LINES p k))
  else (s.st (PT_CALW_START p k), s.st (PT_CALW_STRIDE p k), s.st (PT_CALW_LINES p k))

/-- The lines an entry adds in a rod (R253). -/
def calFires (e : Nat × Nat × Nat) (rod : Nat) : Nat :=
  let stride := if e.2.1 = 0 then 1024 else e.2.1
  if e.1 ≤ rod ∧ (rod - e.1) % stride = 0 then min 16 e.2.2 else 0

/-- Fire the calendar entries of the current rod (R253). -/
def fireCalendar (s : State) : State :=
  shapedPorts.foldl (fun s p =>
    let n := ([0, 1, 2, 3].map fun k => calFires (s.calEntry p k) s.wheel.rod).sum
    if n = 0 then s else s.onPort p fun x => { x with credit := min 32 (x.credit + n) }) s

/-- Add a rod's tokens to both buckets of a port (R246). -/
def addTokens (x : Port) : Port :=
  { x with
    levelC := min (bucketDepth x.shc) (x.levelC + bucketRate x.shc)
    levelP := min (bucketDepth x.shp) (x.levelP + bucketRate x.shp) }

/-- New shaper values take effect at a boundary: the levels fall to the new depths, tokens are added, and the furlong entry
goes (R250). -/
def reshape (p : Nat) (w : Word × Word × Word) (s : State) : State :=
  (loadShaper p w s).onPort p fun x => addTokens ({ x with
    levelC := min x.levelC (bucketDepth x.shc), levelP := min x.levelP (bucketDepth x.shp), rodAt := none, shDue := none })

/-- A port at a rod boundary: a shaper write made before the boundary takes effect, else only tokens are added (R246,
R250). Answers whether the head request is to be tested again. -/
def rodPort (p : Nat) (s : State) : State × Bool :=
  let x := s.port p
  match x.shDue, x.shWrite with
  | some w, _ => (reshape p w s, true)
  | none, some t =>
    if t < s.wheel.mark then
      (reshape p (s.shaperRegs p) (s.onPort p fun x => { x with shWrite := none }), true)
    else (s.onPort p addTokens, x.rodAt == some s.wheel.rod)
  | none, none => (s.onPort p addTokens, x.rodAt == some s.wheel.rod)

/-- The work of a rod boundary once the rod has advanced: tokens, then calendar credit, then the tests (R252, R253,
R274). -/
def rodWork (s : State) : State :=
  let (s, due) := shapedPorts.foldl (fun acc p =>
    let r := rodPort p acc.1
    (r.1, if r.2 then acc.2 ++ [p] else acc.2)) (s, ([] : List Nat))
  due.foldl (fun s p => shaperTest p (s.onPort p fun x => { x with rodAt := none })) (fireCalendar s)

/-- The furlong has run 16 cc in its rod (R252). -/
def State.rodOver (s : State) : Bool := s.clocked && s.wheel.running && s.wheel.mark + 16 ≤ s.now

/-- Commit the calendar shadow (R256). -/
def commitCalendar (s : State) : State :=
  let s := { s with wheel := { s.wheel with calPend := false, calCopy := some 0 } }
  s.bump TB_CALCTL_COMMITS

/-- A request that passed its gate in the cc of a commit, before the commit, is tested again with the new table (R262,
R274). -/
def regate (p : Nat) (s : State) : State :=
  let test (r : Req) : Req :=
    if r.stage = .hand ∧ r.passAt = some s.now ∧ !(r.lines.any (·.handed)) then { r with stage := .gate, passAt := none }
    else r
  if (s.gateOf p).1 then s.onPort p fun x => { x with reqs := x.reqs.map test } else s

/-- Commit the gate shadow (R262). -/
def commitGates (s : State) : State :=
  let s := { s with wheel := { s.wheel with gatePend := false, gateCopy := some 0 } }
  (shapedPorts.foldl (fun s p => regate p s) s).bump TB_GATECTL_COMMITS

/-- A hardware copy of a whole register between its shadow and its working copy, unless frozen (R173). -/
def copyReg (src dst : Nat) (s : State) : State :=
  if s.frozen.contains dst then s else { s with stat := s.stat.set dst (s.cfg.get src) }

/-- One cc of the calendar copy (R256). -/
def calCopyStep (s : State) : State :=
  match s.wheel.calCopy with
  | some k =>
    if k < 120 then
      let s := copyReg (PT_CAL_START (k / 4) (k % 4)).addr (PT_CALW_START (k / 4) (k % 4)).addr s
      { s with wheel := { s.wheel with calCopy := some (k + 1) } }
    else s
  | none => s

/-- TB_GATEVG holds its shadow VG and its working VGW side by side. -/
def copyGateVg (s : State) : State := s.setSt TB_GATEVG_VGW (s.cf TB_GATEVG_VG)

/-- One cc of the gate copy (R262). -/
def gateCopyStep (s : State) : State :=
  match s.wheel.gateCopy with
  | some k =>
    if k < 95 then
      let s :=
        if k < 64 then copyReg (TB_GS_START (k / 8) (k % 8)).addr (TB_GW_START (k / 8) (k % 8)).addr s
        else if k = 64 then copyGateVg s
        else copyReg (PT_GATE_GATED (k - 65)).addr (PT_GATEW_GATED (k - 65)).addr s
      { s with wheel := { s.wheel with gateCopy := some (k + 1) } }
    else s
  | none => s

/-- Step 10 of R93 at the shapers, the furlong and the gates: buckets full, credits zero, both shadows committed, the
wheel at rod 0 (R251, R252, R256, R262). -/
def startShaping (s : State) : State :=
  let s := shapedPorts.foldl (fun s p =>
    (loadShaper p (s.shaperRegs p) s).onPort p fun x => { x with
      shWrite := none, shDue := none
      levelC := bucketDepth x.shc, levelP := bucketDepth x.shp, credit := 0, rodAt := none }) s
  let s := commitGates (commitCalendar s)
  let s := { s with wheel := { s.wheel with running := true, rod := 0, mark := s.now } }
  fireCalendar (s.setSt TB_CALREVS_REVS 0)

-- meanings

/-- The shaper tests the head request; a port with a furlong entry waits for its rod (R247, R249), and in the cc of a rod
boundary the boundary comes first (R274). -/
def execShaperTest (p : Fin 30) (s : State) : Host.Outcome State Fault Refusal :=
  .next (if s.intakeRuns ∧ (s.port p).rodAt = none ∧ !s.rodOver then shaperTest p s else s)

/-- The furlong advances one rod (R252). -/
def execRodBoundary (s : State) : Host.Outcome State Fault Refusal :=
  if s.rodOver ∧ s.wheel.rod < 1023 then
    .next (rodWork { s with wheel := { s.wheel with rod := s.wheel.rod + 1, mark := s.wheel.mark + 16 } })
  else .next s

/-- The furlong completes a revolution: credits fall to zero, a requested commit takes effect, then rod 0 (R253, R256,
R274). -/
def execRevolutionEnd (s : State) : Host.Outcome State Fault Refusal :=
  if s.rodOver ∧ s.wheel.rod = 1023 then
    let s := shapedPorts.foldl (fun s p => s.onPort p fun x => { x with credit := 0 }) s
    let s := s.setSt TB_CALREVS_REVS (s.st TB_CALREVS_REVS + 1)
    let s := if s.wheel.calPend then commitCalendar s else s
    .next (rodWork { s with wheel := { s.wheel with rod := 0, mark := s.wheel.mark + 16 } })
  else .next s

/-- A write of TB_CALCTL.REQ (R256). -/
def execCalendarCommitRequest (s : State) : Host.Outcome State Fault Refusal :=
  .next (if s.clocked then { s with wheel := { s.wheel with calPend := true } } else s)

/-- A write of TB_GATECTL.REQ (R262). -/
def execGateCommitRequest (s : State) : Host.Outcome State Fault Refusal :=
  .next (if s.clocked then { s with wheel := { s.wheel with gatePend := true } } else s)

/-- The 120 cc of the calendar copy have passed (R256). -/
def execCalendarCopyDone (s : State) : Host.Outcome State Fault Refusal :=
  .next (if s.wheel.calCopy = some 120 then { s with wheel := { s.wheel with calCopy := none } } else s)

/-- The 95 cc of the gate copy have passed (R262). -/
def execGateCopyDone (s : State) : Host.Outcome State Fault Refusal :=
  .next (if s.wheel.gateCopy = some 95 then { s with wheel := { s.wheel with gateCopy := none } } else s)

/-- A waiting request is tested at its gate (R259, R260); a line or frame that ends in this cc ends first (R262, R274). -/
def execGatePass (p : Fin 30) (s : State) : Host.Outcome State Fault Refusal :=
  if s.intakeRuns ∧ !s.lineOver then
    match (s.port p).gated with
    | none => .next s
    | some r =>
      let pass (s : State) : State := s.onPort p (·.onReq r.seq fun r => { r with stage := .hand, passAt := some s.now })
      match s.gateTest p r with
      | .wait =>
        if r.waited then .next s
        else .next ((s.onPort p (·.onReq r.seq fun r => { r with waited := true })).bump (PT_GATESTAT_WAITS p))
      | .pass => .next (pass s)
      | .oversize => .next (pass (s.bump (PT_GATESTAT_OVERSIZE p)))
  else .next s

end Sys2Proof.Machine
end

