-- ==== Sys2Proof/Machine/Intake.lean ====
section
/-!
DEFINITION. The intake arbiter of a channel (R264–R274), room (R284, R285), admission (R287, R351, R353, R364–R367) and
the hold-stall watchdog (R308, R309).
-/

namespace Sys2Proof.Machine

-- perch queues

/-- The head line of a requester at a channel. -/
def Chan.head (c : Chan) (p : Nat) : Option PerchLine := (c.arb.perch.getD p []).head?

/-- The lines present at a channel in this cc (R264). -/
def State.heads (s : State) (c : Nat) : List PerchLine :=
  ((s.chan c).arb.perch.toList.filterMap (·.head?)).filter fun l => l.since ≤ s.now

/-- A line of P0–P29 stands in a perch queue of the channel, or has left one in this cc. -/
def Chan.portsWait (c : Chan) : Bool :=
  (c.arb.perch.toList.any fun q => q.any (·.port < 30)) || c.arb.served.any (· < 30)

/-- The head of a queue is present from a cc on. -/
def nowPresent (cc : Nat) : List PerchLine → List PerchLine
  | [] => []
  | l :: rest => { l with since := cc } :: rest

/-- Take the head line off a perch queue; the line behind it is present from the next cc on. -/
def popHead (c p : Nat) (s : State) : State :=
  s.onChan c fun x => { x with arb := { x.arb with
    perch := upd x.arb.perch p fun q => nowPresent (s.now + 1) q.tail, served := p :: x.arb.served } }

/-- A cc ends: a requester that had nothing present in it falls asleep and loses its finish tag (R268). -/
def Arb.rest (a : Arb) : Arb :=
  let asleep (p : Nat) : Bool := (a.perch.getD p []).isEmpty && !a.served.contains p
  { a with finish := Vector.ofFn fun p => if asleep p.val then none else a.finish.getD p.val none, served := [] }

-- room

/-- The tier a line counts with: P30 as tier 3, P31 as tier 0 (R285). -/
def PerchLine.rank (l : PerchLine) : Nat := if l.port = 30 then 3 else if l.port = 31 then 0 else l.tier

/-- Shared hazard entries, and lines granted, of the tiers from `t` on (R285). -/
def Chan.hazTiers (c : Chan) (t : Nat) : Nat :=
  (c.hazHeld.filter fun e => e.2 ≥ t).length + (c.arb.coming.filter fun l => l.rank ≥ t).length

/-- Room in the shared part of the hazard table and of the read queue (R283, R284); an operation that waits for a read-queue
entry goes ahead of intake (R286). -/
def Chan.hazRoom (c : Chan) : Bool := c.hazHeld.length + c.arb.coming.length < 122

def Chan.rqRoom (c : Chan) : Bool := c.rqHeld.length + c.arb.comingReads + c.rqOwed < 40

/-- The line's tier is below its ceilings (R285). -/
def State.underCeilings (s : State) (c : Nat) (l : PerchLine) : Bool :=
  let x := s.chan c
  let t := l.rank
  (t < 1 || x.hazTiers 1 < s.cf (CH_TCEIL_HC1 c)) && (t < 2 || x.hazTiers 2 < s.cf (CH_TCEIL_HC2 c)) &&
    (t < 3 || x.hazTiers 3 < s.cf (CH_TCEIL_HC3 c)) &&
    (t < 3 || l.wr || (x.rqHeld.filter fun e => e.2 == 3).length +
      (x.arb.coming.filter fun l => !l.wr && l.rank == 3).length < s.cf (CH_TCEIL_RQ3 c))

/-- Lines granted and not yet admitted that will open a gill. -/
def Chan.openers (c : Chan) : List PerchLine :=
  c.arb.coming.filter fun l => l.wr && l.port < 31 && (l.kind == .mirror || (c.reservedGill l.line).isNone)

/-- A write line finds the open gill of its line, or a free gill within the ceiling of tier 3 (R284, R285). -/
def State.gillFor (s : State) (c : Nat) (l : PerchLine) : Bool :=
  let x := s.chan c
  (l.kind ≠ .mirror && (x.openGill l.line).isSome) || (x.openers.length < x.gillRoom &&
    (l.rank < 3 || (x.gillHeld.filter fun e => e.2 == 3).length + (x.openers.filter (·.rank == 3)).length
      < s.cf (CH_WQCFG_GIL3 c)))

/-- The channel takes a line at all (R310): a spare takes the migration writes of its partner's evacuation, which complete
operations admitted before a stop of intake; the lines of P31 serve a return of RSI_CK as well (R117), and those of P29 the
drain of a DMA channel in step 2 of R175 (R504, R506). -/
def State.intakeOpen (s : State) (c : Nat) (l : PerchLine) : Bool :=
  let x := s.chan c
  if l.kind == .mirror then x.state == .spare && x.test == 0 && (s.evacTo c).isSome
  else
    !x.admitStop && (!x.noRoom || (l.port = 29 && s.clk.blkStep = 2)) && x.hardStep == 0 &&
      (if l.port = 31 then x.state ≠ .retired && x.state ≠ .test
        else x.inService && x.test == 0 && s.clk.retStep == 0)

/-- A present line has room (R284, R285). -/
def State.hasRoom (s : State) (c : Nat) (l : PerchLine) : Bool :=
  let x := s.chan c
  s.intakeOpen c l && x.hazRoom && (l.port == 31 || s.underCeilings c l) &&
    (if l.wr then l.port == 31 || s.gillFor c l else x.rqRoom)

/-- P31 holds a granted gap booking at a channel (R265, R279). -/
def State.p31Gap (s : State) (c : Nat) : Bool :=
  s.brk.granted.any fun g => g.book.scope == .chan c && (match g.book.work with | .calStep _ => true | _ => false)

/-- The lines of P31 may be chosen: in a granted booking, until its step ends (R202, R425), or in unbooked work (R265). -/
def State.p31Works (s : State) (c : Nat) : Bool :=
  s.p31Gap c || (s.cal c).step.isSome || (s.chan c).job ≠ .none || (s.chan c).ranks.any (·.check)

/-- A permission of P30 holds: by a booking, or while no line of P0–P29 is present (R393). -/
def Chan.holds (c : Chan) (perm : Nat) : Bool := natBit perm 0 || (natBit perm 1 && !c.portsWait)

/-- P30's permission for a kind of line; a scrub booking at an evacuating channel serves migration as well (R393, R452,
R477). -/
def Chan.permits (c : Chan) (k : LineKind) : Bool :=
  match k with
  | .scrub => c.holds c.scrubPerm
  | .migration => c.holds c.migPerm || natBit c.scrubPerm 0
  | .rekey => c.holds c.rkPerm
  | _ => true

/-- The frame limit on scrub lines leaves room, the lines granted and not yet admitted among them (R394). -/
def State.scrubLimit (s : State) (c : Nat) : Bool :=
  let n := s.cf (QD_SCRCFG_FRAMEMAX (quadOf c))
  let coming := ((s.chan c).arb.coming.filter (·.kind == .scrub)).length
  n == 0 || (s.quad (quadOf c)).scrub.frame.getD (c % 4) 0 + coming < n * 256

/-- A present line is a candidate (R265, R393). -/
def State.candidate (s : State) (c : Nat) (l : PerchLine) : Bool :=
  s.hasRoom c l && (l.port ≠ 31 || s.p31Works c) &&
    (l.port ≠ 30 || ((s.chan c).permits l.kind && (l.kind ≠ .scrub || s.scrubLimit c)))

-- finish tags

/-- Later by modular difference (R267). -/
def laterTag (a b : BitVec 32) : Bool := a ≠ b && (a - b).toNat < 2 ^ 31

/-- S and the next finish tag of a requester in a tier (R267). -/
def State.tag (s : State) (c p t : Nat) : BitVec 32 × BitVec 32 :=
  let a := (s.chan c).arb
  let v := a.vtime.getD t 0
  let w := max 1 (s.cf (PT_ARB_WEIGHT p))
  let st := match a.finish.getD p none with
    | some f => if laterTag f v then f else v
    | none => v
  (st, st + BitVec.ofNat 32 (65536 / w))

/-- The line with the least next finish tag, the lower port on a tie (R267). -/
def State.leastTag (s : State) (c t : Nat) (ls : List PerchLine) : Option PerchLine :=
  ls.foldl (fun best l => match best with
    | none => some l
    | some b => if laterTag (s.tag c b.port t).2 (s.tag c l.port t).2 then some l else some b) none

/-- The order of R266 among candidates. -/
def State.bestOf (s : State) (c : Nat) (cand : List PerchLine) : Option PerchLine :=
  match cand.find? (·.port = 31) with
  | some l => some l
  | none =>
    match [0, 1, 2, 3].findSome? fun t => s.leastTag c t (cand.filter fun l => l.port < 30 && l.tier == t) with
    | some l => some l
    | none => cand.find? (·.port = 30)

-- granting

/-- The cc of an intake transfer (R269). -/
def PerchLine.cycles (l : PerchLine) : Nat := if l.wr then max 1 l.beats else 1

/-- A line is granted: it leaves its perch queue, its tags advance, its room is reserved, and the counters of R276
follow. `first` is the cc of its first transfer cycle, `at_` where the line goes: straight into transfer, or waiting. -/
def grant (c : Nat) (l : PerchLine) (straight : Bool) (s : State) : State :=
  let tags := s.tag c l.port l.tier
  let wait := s.now - l.since
  let s := popHead c l.port s
  let s := s.onChan c fun x =>
    let a := x.arb
    let a := if l.port < 30 then { a with
        vtime := upd a.vtime l.tier fun _ => tags.1, finish := upd a.finish l.port fun _ => some tags.2 } else a
    let a := if straight then { a with xfer := some (l, s.now + l.cycles - 1), park := some l.port }
      else { a with next := some (l, s.now + 1) }
    let x := match (if l.wr ∧ l.port < 31 ∧ l.kind ≠ .mirror then x.openGill l.line else none) with
      | some g => x.onGill g fun g => { g with reserved := g.reserved + 1 }
      | none => x
    { x with arb := a }
  let s := s.bump (CH_AGR_COUNT c l.port)
  let most := min (CH_AMAX_MAX c l.port).max wait
  if most > s.st (CH_AMAX_MAX c l.port) then s.setSt (CH_AMAX_MAX c l.port) most else s

/-- The winner of the last decision begins its transfer. -/
def promote (c : Nat) (s : State) : State :=
  s.onChan c fun x => match x.arb.xfer, x.arb.next with
    | none, some (l, start) =>
      if start ≤ s.now then { x with arb := { x.arb with
        next := none, xfer := some (l, start + l.cycles - 1), park := some l.port } } else x
    | _, _ => x

/-- The hold of a DM2 port ends, and the watchdog with it (R272, R308). -/
def endHold (c : Nat) (s : State) : State :=
  s.onChan c fun x => { x with arb := { x.arb with hold := none }, wdCount := 0, wdTripped := false }

/-- A DM2 port that wins holds the grant (R272). -/
def takeHold (c p : Nat) (s : State) : State :=
  if p < 28 ∧ s.on (PT_ARB_DM2 p) then s.onChan c fun x => { x with arb := { x.arb with hold := some p } } else s

/-- The decision of R270. -/
def decide_ (c : Nat) (s : State) : State :=
  let x := s.chan c
  let cand := (s.heads c).filter (s.candidate c)
  let win (l : PerchLine) (s : State) : State := takeHold c l.port (grant c l false s)
  let free (s : State) : State := match s.bestOf c cand with | some l => win l s | none => s
  match x.arb.hold with
  | none => free s
  | some h =>
    match cand.find? (·.port = 31) with
    | some l => grant c l false (endHold c s)
    | none =>
      match (s.heads c).find? (·.port = h) with
      | some l => if s.candidate c l then grant c l false s else s
      | none => free (endHold c s)

/-- No transfer has been in progress in this cc, and none waits to begin (R271). -/
def State.intakeIdle (s : State) (c : Nat) : Bool :=
  let a := (s.chan c).arb
  a.xfer.isNone && a.next.isNone && a.xferAt ≠ some s.now

/-- The arbiter decides in this cycle (R270): idle, or in the last cycle of a transfer; once a cycle. -/
def State.deciding (s : State) (c : Nat) : Bool :=
  let a := (s.chan c).arb
  a.next.isNone && a.decidedAt ≠ some s.now && (match a.xfer with | none => true | some (_, last) => last ≤ s.now)

/-- The lines present have been looked at in this cc: what comes later waits for the next one (R270, R274). -/
def decided (c : Nat) (s : State) : State :=
  if (s.heads c).isEmpty then s else s.onChan c fun x => { x with arb := { x.arb with decidedAt := some s.now } }

-- lines that are answered without admission

/-- The head lines a channel answers itself: every line at a RETIRED channel, reads POISON 0xA and writes REFUSED 0x3
(R455), or one under test (R488), and write lines in take-preservation mode (R459). -/
def State.turnedAway (s : State) (c : Nat) (l : PerchLine) : Option Outcome :=
  let x := s.chan c
  if l.port ≥ 30 then none
  else if (x.state = .retired ∧ x.hardStep = 0) ∨ x.test ≠ 0 then some (if l.wr then ⟨3, 3⟩ else ⟨2, 0xA⟩)
  else if s.flt.take ∧ l.wr then some ⟨3, 3⟩ else none

/-- Answer the head lines of one requester while they are turned away; four lines fill a queue. -/
def turnAway : Nat → Nat → Nat → State → State
  | 0, _, _, s => s
  | n + 1, c, p, s =>
    match (s.chan c).head p with
    | none => s
    | some l =>
      match s.turnedAway c l with
      | some out => turnAway n c p (popHead c p (answer l.port l.seq l.idx out 0 s))
      | none => s

def turnAwayAll (c : Nat) (s : State) : State := (List.range 30).foldl (fun s p => turnAway 8 c p s) s

/-- A write line waits with no free gill: the oldest incomplete gill not already evicting is evicted, one at a time
(R354). -/
def pressEviction (c : Nat) (s : State) : State :=
  let x := s.chan c
  let waiting := (s.heads c).any fun l => l.wr && l.port < 31 && (x.openGill l.line).isNone
  let busy := x.gills.toList.any fun g => match g with | some g => g.evict == some .press && !g.whole | none => false
  if waiting ∧ x.freeGills = 0 ∧ !busy then
    let best := x.gills.toList.zipIdx.foldl (fun (best : Option (Nat × Nat)) e => match e.1, best with
      | some g, none => if g.whole || g.evict.isSome then none else some (g.opened, e.2)
      | some g, some b => if g.whole || g.evict.isSome || g.opened ≥ b.1 then some b else some (g.opened, e.2)
      | none, b => b) none
    match best with
    | some (_, g) => s.onChan c (·.onGill g (·.evictFor .press))
    | none => s
  else s

-- admission

/-- The operation of an admitted line. -/
def PerchLine.op (l : PerchLine) (kind : OpKind) (phase : OpPhase) : Op :=
  { Op.fresh kind phase l.q l.line l.q with
    port := l.port, seq := l.seq, idx := l.idx, tier := l.rank, own := l.rank, haz := .shared }

/-- The writes of a whole gill complete, once their metadata line stands (R348, R352). -/
def wholeDone (c lead q : Nat) (s : State) : State :=
  if s.present c (q / 32) then completeWrites c lead ⟨0, 0⟩ s
  else match createLine c (q / 32) s with
    | some s => completeWrites c lead ⟨0, 0⟩ s
    | none => s

/-- Reads that wait for the outcome of a gill that a reserved write has made whole in the meantime: they read the line
themselves, ahead of the gill's write, and take what they found held at their admission (R226, R351). -/
def readAhead (c lead : Nat) (s : State) : State :=
  let mine (o : Op) : Bool := o.phase == .behind && o.lead == lead
  s.onChan c fun x =>
    let rest := x.ops.filter (!mine ·)
    { x with ops := rest.takeWhile (·.id ≠ lead) ++ (x.ops.filter mine).map (fun o => { o with phase := .wantQueue }) ++
        rest.dropWhile (·.id ≠ lead) }

/-- A line of a request that a flush waits for leaves its gill evicting (R236). -/
def flushLine (c g : Nat) (l : PerchLine) (s : State) : State :=
  if ((s.port l.port).flush.map fun n => decide (l.seq < n)).getD false then
    s.onChan c (·.onGill g fun v => if v.whole then v else v.evictFor .other)
  else s

/-- A write line merges into its gill (R353, R354); one made whole completes its writes (R352). -/
def admitWrite (c : Nat) (l : PerchLine) (s : State) : State :=
  if !s.canWrite then answer l.port l.seq l.idx ⟨2, 9⟩ 0 s
  else
    let x := s.chan c
    let id := x.nextOp
    let held := match x.reservedGill l.line with
      | some g => some g
      | none => x.openGill l.line
    match held with
    | some g =>
      let lead := match x.leadOf g with | some o => o.id | none => id
      let s := s.onChan c (·.onGill g fun v => { v with
        data := merge v.data l.data l.be, mask := v.mask ||| l.be, tier := min v.tier l.rank
        ports := if v.ports.contains l.port then v.ports else v.ports ++ [l.port]
        reserved := v.reserved - 1 })
      let s := s.addOp c { l.op .write .gather with gill := some g, lead := lead }
      if (((s.chan c).gill g).map Gill.whole).getD false then wholeDone c lead l.q (readAhead c lead s) else flushLine c g l s
    | none =>
      match x.freeGill with
      | none => s
      | some g =>
        let v : Gill :=
          ⟨l.line, l.q, merge 0 l.data l.be, l.be, s.now, [l.port], l.rank, l.rank, none, 0, false⟩
        let s := s.onChan c fun x => { x with gills := upd x.gills g fun _ => some v }
        let s := s.addOp c { l.op .write .gather with gill := some g, lead := id }
        if v.whole then wholeDone c id l.q s else flushLine c g l s

/-- A read line snapshots whole held data, waits behind an incomplete gill, answers at once where its metadata line is
not cleared, then with cause 0x5 or 0xA, or joins its chain (R348, R351, R455). -/
def admitRead (c : Nat) (l : PerchLine) (s : State) : State :=
  let x := s.chan c
  match x.heldLead l.line with
  | some w =>
    match x.heldWhole w with
    | some d => answer l.port l.seq l.idx (checkedAnswer (w.merged && Entry.unverified w.entry)) d s
    | none =>
      match w.gill.bind x.gill with
      | some g =>
        let s := s.onChan c (·.onGill (w.gill.getD 0) (·.evictFor .read))
        s.addOp c { l.op .read .behind with lead := w.id, plain := g.data, mask := g.mask }
      | none => s.addOp c { l.op .read .behind with lead := w.id }
  | none =>
    if !s.present c (l.q / 32) then answer l.port l.seq l.idx (s.unwrittenAnswer c l.q) 0 s
    else s.addOp c { l.op .read .lookup with rq := .shared }

/-- A migration or rekey line forces the eviction of an incomplete gill (R354) and joins its chain. -/
def admitWalk (c : Nat) (l : PerchLine) (kind : OpKind) (s : State) : State :=
  let x := s.chan c
  let s := match (x.heldLead l.line).bind (·.gill) with
    | some g => s.onChan c (·.onGill g fun v => if v.whole then v else v.evictFor .other)
    | none => s
  s.addOp c { l.op kind .lookup with rq := .shared }

/-- A scrub line skips held data and uncleared metadata lines (R364, R348). -/
def admitScrub (c : Nat) (l : PerchLine) (s : State) : State :=
  let s := s.onQuad (quadOf c) fun x => { x with scrub := { x.scrub with frame := upd x.scrub.frame (c % 4) (· + 1) } }
  if ((s.chan c).heldLead l.line).isSome then scrubDone c (peckSkipHeld (quadOf c) s)
  else if !s.present c (l.q / 32) then scrubDone c (peckSkipState (quadOf c) s)
  else s.addOp c { l.op .scrub .lookup with rq := .shared }

/-- A migration write at a spare (R310, R365): a copy of a line fills a gill, and one of an entry alone takes none. -/
def admitMirror (c : Nat) (l : PerchLine) (s : State) : State :=
  let o := { l.op .mirror .lookup with lead := l.ref, entry := l.entry, data := l.data, plain := l.data }
  if l.be = 0 then s.addOp c { o with acted := true }
  else match (s.chan c).freeGill with
    | none => s
    | some g =>
      let v : Gill := ⟨l.line, l.q, l.data, l.be, s.now, [30], 3, 3, some .other, 0, false⟩
      (s.onChan c fun x => { x with gills := upd x.gills g fun _ => some v }).addOp c { o with phase := .gather, gill := some g }

/-- A scratch-row line of P31 (R368). -/
def admitScratch (c : Nat) (l : PerchLine) (s : State) : State :=
  let o := l.op .scratch .lookup
  if l.wr then s.addOp c { o with phase := .wantQueue, acted := true, looked := true, data := l.data, plain := l.data }
  else s.addOp c { o with phase := .reading, rq := .shared, looked := true }

/-- A line is admitted within the skid of a wrap: PMOVF comes with the 32nd at the latest (R514). -/
def skidLine (s : State) : State :=
  match s.perf.ovf with
  | none => s
  | some (t, n) =>
    if n ≥ 31 then event .pmovf { s with perf := { s.perf with ovf := none } }
    else { s with perf := { s.perf with ovf := some (t, n + 1) } }

/-- The counters of an admitted line (R329, R511, R514). -/
def countLine (c : Nat) (l : PerchLine) (s : State) : State :=
  let s := skidLine s
  let s := ((s.note (if l.wr then .linesWr else .linesRd) l.port).note .lines l.port).note .linesAll c
  if l.port < 30 then { s with op := { s.op with lines := s.op.lines + 1 } } else s

/-- A streaming line may trigger a preload (R379). -/
def State.streams (s : State) (c : Nat) (l : PerchLine) : Bool :=
  l.port ≠ 31 && (s.on (PT_CFG_STREAMING l.port) || (l.kind == .scrub && s.on (QD_MCCFG_PRE_SCRUB (quadOf c))))

/-- Admit a line into the channel (R269, R287). -/
def admitLine (c : Nat) (l : PerchLine) (s : State) : State :=
  let s := countLine c l s
  let s := match l.kind with
    | .port => if l.wr then admitWrite c l s else admitRead c l s
    | .scrub => admitScrub c l s
    | .migration => admitWalk c l .migration s
    | .rekey => admitWalk c l .rekey s
    | .mirror => admitMirror c l s
    | .scratch => admitScratch c l s
  if s.streams c l then preloadTest c l.q s else s

/-- The intake of a channel works; in a waiting quad the lines stay where they are (R102). -/
def State.intakeWorks (s : State) (c : Nat) : Bool := s.intakeRuns && !(s.quadClk (quadOf c)).wait

/-- A granted line does not enter the hazard table after all; a merge reserved for it is given back. -/
def refuseLine (c : Nat) (l : PerchLine) (out : Outcome) (s : State) : State :=
  let s := match (if l.wr then (s.chan c).reservedGill l.line else none) with
    | some g => s.onChan c (·.onGill g fun v => { v with reserved := v.reserved - 1 })
    | none => s
  answer l.port l.seq l.idx out 0 s

-- meanings

/-- The arbiter decides (R270); a parked owner alone with a present line transfers in the same cycle (R271). -/
def execIntakeDecision (ch : Fin 16) (s : State) : Host.Outcome State Fault Refusal :=
  if s.intakeWorks ch then
    let s := pressEviction ch (turnAwayAll ch (promote ch s))
    let alone := match s.heads ch, (s.chan ch).arb.park with
      | [l], some p => if l.port = p ∧ s.intakeIdle ch ∧ s.candidate ch l then some l else none
      | _, _ => none
    match alone with
    | some l => .next (takeHold ch l.port (grant ch l true (decided ch s)))
    | none => .next (if s.deciding ch then decide_ ch (decided ch s) else s)
  else .next s

/-- A transfer ends and its line is admitted (R269, R287), or answered without admission where take-preservation mode has
begun in the meantime (R240, R459). -/
def execLineAdmission (ch : Fin 16) (s : State) : Host.Outcome State Fault Refusal :=
  if s.intakeWorks ch then
    let s := promote ch s
    match (s.chan ch).arb.xfer with
    | some (l, last) =>
      if last ≤ s.now then
        let s := s.onChan ch fun x => { x with arb := { x.arb with xfer := none, xferAt := some s.now } }
        .next (promote ch (match s.turnedAway ch l with
          | some out => refuseLine ch l out s
          | none => admitLine ch l s))
      else .next s
    | none => .next s
  else .next s

/-- The hold-stall watchdog trips (R308, R309), but not in a cc in which a line of P31 breaks the hold (R312). -/
def execHoldStallTrip (ch : Fin 16) (s : State) : Host.Outcome State Fault Refusal :=
  let x := s.chan ch
  let limit := s.cf (CH_WDOG_LIMIT ch)
  match x.arb.hold with
  | some h =>
    let broken := s.deciding ch && (s.heads ch).any fun l => l.port = 31 && s.candidate ch l
    if s.intakeWorks ch ∧ limit ≠ 0 ∧ x.wdCount ≥ limit * 256 ∧ !x.wdTripped ∧ !broken then
      let stuck := match x.head h with | some l => !s.hasRoom ch l | none => false
      let s := (s.setSt (CH_WDSTAT_PORT ch) h).setSt (CH_WDSTAT_NOROOM ch) (b2n stuck)
      let s := (s.bump (CH_WDSTAT_STALLS ch)).stamp (CH_WDLINE_LINE ch) (CH_WDFRAME_FRAME ch)
      .next (raise .hstall ch h (s.onChan ch fun x => { x with wdTripped := true }))
    else .next s
  | none => .next s

end Sys2Proof.Machine
end

