-- ==== Sys2Proof/Machine/Load.lean ====
section
/-!
DEFINITION. The configuration store and the load of the record: the image's header and directory entry, the record
reader with the tests of R522 in their order, and the attempts of R142.
-/

namespace Sys2Proof.Machine

/-- The prefixes a section may target (R136). -/
def sectionAllows (id : Nat) (w : Win) : Bool :=
  match id, w with
  | 1, .gl | 1, .tb | 2, .ch _ | 2, .tb | 3, .tb | 3, .qd _ | 4, .qd _ | 4, .ch _ | 5, .gl | 5, .ch _ => true
  | 6, .pt _ | 7, .tb | 7, .pt _ | 8, .tb | 8, .pt _ | 9, .ch _ | 9, .tb => true
  | 10, .ft | 10, .ch _ | 10, .qd _ => true
  | 11, .sp _ | 11, .pm | 11, .gl | 11, .ft | 11, .pt _ | 11, .ch _ => true
  | _, _ => false

/-- The sections a record must hold (R136). -/
def mandatorySections : List Nat := [1, 2, 3, 4, 5, 6, 9, 10]

/-- The magic numbers 'DMCI' and 'DMRC' as little-endian words (R131, R134). -/
def magicImage : Word := 0x49434D44

def magicRecord : Word := 0x43524D44

/-- The first failed test ends the tests (R522); the reader then only counts and sums. -/
def RecParse.fail (p : RecParse) (code : Nat) : RecParse := { p with err := some code, at_ := .done }

/-- What follows a section: another one, or the tests on the whole record, then padding and RCRC (R522 item 5). The section
whose number is SECTIONS is taken as the last one, so a further section fails as padding (DEDUCED, assumption 49). A record
ends its sections no more than 63 bytes before RCRC (R134). -/
def RecParse.sectionEnd (p : RecParse) : RecParse :=
  if p.seen.length = p.sections then
    if !(mandatorySections.all p.seen.contains) || p.length - 4 - p.pos > 63 then p.fail 0x9
    else if p.pos = p.length - 4 then { p with at_ := .rcrc } else { p with at_ := .padding }
  else if p.pos ≥ p.length - 4 then p.fail 0x9
  else { p with at_ := .secHeader0 }

/-- After a run: the next run of the section, or its end, which must fall on the section's length (R522 item 3). -/
def RecParse.runEnd (p : RecParse) : RecParse :=
  if p.runs > 1 then { p with runs := p.runs - 1, at_ := .runHeader }
  else if p.pos ≠ p.secEnd then p.fail 0x9
  else { p with runs := 0 }.sectionEnd

/-- The addresses a run reaches. -/
def runAddrs (target words : Nat) : List Nat := (List.range words).map fun i => target + 4 * i

/-- The tests on a run header, in the order of R522 item 3. `pos` is the place after the header. An address is tested by
the prefix of its window, register or not; one in no window passes, and its value fails (DEDUCED, assumption 49). -/
def RecParse.runHeaderTest (p : RecParse) (target words : Nat) : Option Nat :=
  let reach := runAddrs target words
  if reach.any fun a => 0x5000 ≤ a + 3 ∧ a < 0x6000 then some 0xB
  else if target % 4 ≠ 0 ∨ reach.any fun a => a ≥ 0x40000 then some 0xA
  else if reach.any fun a => winOf a ≠ .reserved ∧ !sectionAllows (p.seen.headD 0) (winOf a) then some 0x9
  else if p.pos + 4 * words > p.secEnd then some 0x9
  else none

/-- The structural side of one word of the record; `pos` already stands after the word. -/
def RecParse.word (p : RecParse) (w : Word) : RecParse :=
  match p.at_ with
  | .recHeader 0 => if w ≠ magicRecord then p.fail 0x7 else { p with at_ := .recHeader 1 }
  | .recHeader 1 => if w.toNat ≠ p.length then p.fail 0x7 else { p with at_ := .recHeader 2 }
  | .recHeader 2 => if w.toNat / 256 ≠ 0x000301 then p.fail 0x8 else { p with at_ := .recHeader 3 }
  | .recHeader 3 => { p with at_ := .recHeader 4, build := w }
  | .recHeader 4 =>
    if w.toNat = 0 ∨ w.toNat > 11 then p.fail 0x9 else { p with at_ := .recHeader 5, sections := w.toNat }
  | .recHeader (i + 5) =>
    if w ≠ 0 then p.fail 0x9
    else if i < 2 then { p with at_ := .recHeader (i + 6) } else { p with at_ := .secHeader0 }
  | .secHeader0 =>
    let id := natBits w.toNat 0 8
    let runs := natBits w.toNat 16 16
    if id = 0 ∨ id > 11 ∨ id ≤ p.seen.headD 0 ∨ natBits w.toNat 8 8 ≠ 0 ∨ runs = 0 then p.fail 0x9
    else { p with at_ := .secHeader1, seen := id :: p.seen, runs := runs }
  | .secHeader1 =>
    let secEnd := p.pos - 8 + w.toNat
    if secEnd > p.length - 4 then p.fail 0x9 else { p with at_ := .runHeader, secEnd := secEnd }
  | .runHeader =>
    let target := natBits w.toNat 0 20
    let words := natBits w.toNat 20 12 + 1
    match p.runHeaderTest target words with
    | some code => p.fail code
    | none => { p with at_ := .value, target := target, words := words }
  | .value =>
    match regDesc p.target with
    | none => p.fail 0xA
    | some d =>
      if d.loadable = 0 ∨ w &&& ~~~d.loadable ≠ 0 then p.fail 0xA
      else
        let p := { p with writes := p.writes.set p.target w, target := p.target + 4 }
        if p.words > 1 then { p with words := p.words - 1 } else { p with words := 0 }.runEnd
  | .padding =>
    if w ≠ 0 then p.fail 0x9 else if p.pos = p.length - 4 then { p with at_ := .rcrc } else p
  | .rcrc | .done => p

/-- Sum a word: every word before RCRC. -/
def RecParse.sum (p : RecParse) (w : Word) : RecParse :=
  if p.pos + 4 = p.length then { p with rcrc := w, pos := p.pos + 4 }
  else { p with crc := crc32cBytes p.crc (bytesOf 4 w.toNat), pos := p.pos + 4 }

/-- Pass 1 takes one word: it sums it and tests it. A section or a run whose header would reach RCRC is malformed. -/
def RecParse.feed (p : RecParse) (w : Word) : RecParse :=
  let p := p.sum w
  if p.err.isSome then p
  else if p.pos = p.length then (if p.at_ = .rcrc then p else p.fail 0x9)
  else p.word w

/-- After a section in pass 2. -/
def RecParse.nextSection (p : RecParse) : RecParse :=
  { p with at_ := if p.seen.length < p.sections then .secHeader0 else .padding }

/-- Pass 2 writes the runs of the record as it reads them, without a test (R139 step 4, R522). -/
def RecParse.store (p : RecParse) (w : Word) : RecParse :=
  match p.at_ with
  | .recHeader i =>
    let p := if i = 3 then { p with build := w } else if i = 4 then { p with sections := w.toNat } else p
    { p with at_ := if i < 7 then .recHeader (i + 1) else .secHeader0 }
  | .secHeader0 => { p with at_ := .secHeader1, seen := natBits w.toNat 0 8 :: p.seen, runs := natBits w.toNat 16 16 }
  | .secHeader1 => if p.runs = 0 then p.nextSection else { p with at_ := .runHeader }
  | .runHeader => { p with at_ := .value, target := natBits w.toNat 0 20, words := natBits w.toNat 20 12 + 1 }
  | .value =>
    let image := (regDesc p.target).map RegDesc.loadable |>.getD 0
    let p := { p with
      writes := if image = 0 then p.writes else p.writes.set p.target (w &&& image), target := p.target + 4 }
    if p.words > 1 then { p with words := p.words - 1 }
    else if p.runs > 1 then { p with words := 0, runs := p.runs - 1, at_ := .runHeader }
    else { p with words := 0, runs := 0 }.nextSection
  | .padding | .rcrc | .done => p

/-- Pass 2 takes one word. -/
def RecParse.feedAgain (p : RecParse) (w : Word) : RecParse :=
  let p := p.sum w
  if p.pos = p.length then p else p.store w

/-- The words of a transaction's bytes, little-endian. -/
def wordsOf (bs : List Byte) : List Word :=
  (List.range (bs.length / 4)).map fun i => BitVec.ofNat 32 (natOfBytes ((bs.drop (4 * i)).take 4))

/-- RCRC of the record as read matches (R134). -/
def RecParse.rcrcGood (p : RecParse) : Bool := crc32cEnd p.crc == p.rcrc

/-- The rsck of a transaction of n bytes: 22 + 2n periods of 4 (R127). -/
def busTime (n : Nat) : Nat := 4 * (22 + 2 * n)

/-- Put a transaction on the configuration bus, with its first rising edge at `start`; `mark` is the end of its last period
(R127). -/
def busRead (phase : LoadPhase) (step off len start : Nat) (s : State) : State :=
  { s with load := { s.load with phase := phase, step := step, off := off, len := len, mark := start + busTime len } }

/-- The first rising edge after a transaction: 20 rsck after the end of its last period (R127). -/
def State.busNext (s : State) : Nat := s.load.mark + 20

/-- The transaction in progress has had its time on the bus. -/
def State.busDone (s : State) : Bool := s.load.phase ≠ .idle && s.load.mark ≤ s.rsck

/-- Step 1 of R139 of the given attempt. -/
def loadAttempt (n start : Nat) (s : State) : State :=
  busRead .header 1 0 64 start { s with load := { s.load with state := 1, attempt := n, parse := .reset } }

/-- The load begins with a fresh count of three attempts (R139, R143), no earlier than 20 rsck after the last transaction
of a former one (R127); ERR and RECLEN stand until there is a new one (R147). -/
def loadStart (s : State) : State :=
  loadAttempt 1 (if s.load.mark = 0 then s.rsck + 2 else max (s.rsck + 2) s.busNext) s

/-- An attempt fails with a code (R142). After a block reset that kept the DRAM, DRESETk_N stays high (R175; DEDUCED,
assumption 49). -/
def loadFail (code : Nat) (s : State) : State :=
  let s := { s with load := { s.load with err := code, phase := .idle } }
  if s.load.attempt < 3 then loadAttempt (s.load.attempt + 1) s.busNext s
  else raise .cfgfail 0 code { s with load := { s.load with state := 3 } }

/-- The header's tests in order (R139 step 1). -/
def headerTest (bs : List Byte) : Option Nat :=
  let w (i : Nat) := natOfBytes ((bs.drop i).take 4)
  if w 0 ≠ magicImage.toNat then some 0x1
  else if w 0x3C ≠ (crc32c (bs.take 0x3C)).toNat then some 0x2
  else if w 4 ≠ 3 ∨ w 8 % 64 ≠ 0 ∨ w 12 = 0 ∨ w 12 > 16384 ∨ ((bs.drop 0x14).take 40).any (· ≠ 0) then some 0x3
  else none

/-- The entry's tests in order (R132, R139 step 2); `id` is the instance ID. -/
def entryTest (bs : List Byte) (id : Nat) : Option Nat :=
  let flags := (bs.getD 6 0).toNat
  let off := natOfBytes (bs.take 4)
  let len := natOfBytes ((bs.drop 4).take 2)
  if flags % 2 = 0 then some 0x5
  else if crc8 (bs.take 7 ++ bytesOf 2 id) ≠ bs.getD 7 0 then some 0x6
  else if len < 4 ∨ len > 1024 ∨ off % 64 ≠ 0 ∨ flags / 2 ≠ 0 then some 0xE
  else none

/-- The next record transaction of a pass, from byte `done` of the record (R127: at most 4 KiB each). -/
def recordRead (phase : LoadPhase) (step done : Nat) (s : State) : State :=
  busRead phase step (s.load.recOffset + done) (min 4096 (64 * s.load.recLen - done)) s.busNext s

/-- Begin a pass over the record. -/
def passStart (phase : LoadPhase) (step : Nat) (s : State) : State :=
  recordRead phase step 0
    { s with load := { s.load with parse := { RecParse.reset with length := 64 * s.load.recLen } } }

/-- The record becomes good (R139 step 5): loaded values appear, the bus returns to its post-load values, and the
channel table a block reset kept overrides the loaded one (R176). -/
def recordValues (s : State) : State :=
  let p := s.load.parse
  let image (a : Nat) : Word := (regDesc a).map RegDesc.loadable |>.getD 0
  let rest : RegFile := (s.cfg.map fun (e : Nat × Word) => (e.1, e.2 &&& ~~~image e.1)).filter fun e => e.2 ≠ 0
  let cfg := p.writes.foldl (fun f e => f.set e.1 ((f.get e.1 &&& ~~~image e.1) ||| e.2)) rest
  let s := { s with
    cfg := cfg
    parErr := s.parErr.filter fun a => image a = 0
    load := { s.load with
      state := 2, err := 0, step := 5, phase := .idle, img := s.load.imageId, bld := p.build, crc := p.rcrc } }
  match s.clk.keptTable with
  | none => s
  | some t => { s.setTable t with clk := { s.clk with keptTable := none } }

/-- What the end of a transaction leads to: the load goes on, or the record is good. -/
inductive LoadResult
  | goOn (s : State)
  | recordGood (s : State)

/-- The bytes of a transaction are tested or written (R139, R522). -/
def loadBytes (bs : List Byte) (s : State) : LoadResult :=
  let w (i n : Nat) := natOfBytes ((bs.drop i).take n)
  match s.load.phase with
  | .idle => .goOn s
  | .header =>
    match headerTest bs with
    | some code => .goOn (loadFail code s)
    | none =>
      let s := { s with load := { s.load with dirOffset := w 8 4, imageId := BitVec.ofNat 32 (w 16 4), step := 2 } }
      if s.instId.toNat ≥ w 12 4 then .goOn (loadFail 0x4 s)
      else .goOn (busRead .entry 2 (s.load.dirOffset + 8 * s.instId.toNat) 8 s.busNext s)
  | .entry =>
    let s := { s with load := { s.load with recOffset := w 0 4, recLen := w 4 2 } }
    match entryTest bs s.instId.toNat with
    | some code => .goOn (loadFail code s)
    | none => .goOn (passStart .pass1 3 s)
  | .pass1 =>
    let p := (wordsOf bs).foldl RecParse.feed s.load.parse
    let s := { s with load := { s.load with parse := p } }
    match p.err with
    | some code => .goOn (loadFail code s)
    | none =>
      if p.pos < p.length then .goOn (recordRead .pass1 3 p.pos s)
      else if !p.rcrcGood then .goOn (loadFail 0xC s)
      else .goOn (passStart .pass2 4 s)
  | .pass2 =>
    let p := (wordsOf bs).foldl RecParse.feedAgain s.load.parse
    let s := { s with load := { s.load with parse := p } }
    if p.pos < p.length then .goOn (recordRead .pass2 4 p.pos s)
    else if !p.rcrcGood then .goOn (loadFail 0xD s)
    else .recordGood (recordValues s)

end Sys2Proof.Machine
end

