-- ==== Sys2Proof/Machine/Clocks.lean ====
section
/-!
DEFINITION. The PLLs and the clock switches: the start criterion (R91, R92), the monitors (R96–R99), fallback (R100,
R101), the core PLL's trip (R106) and restarts (R103, R107).
-/

namespace Sys2Proof.Machine

/-- The place of a PHY PLL in `Clk.phy`: 2q for A, 2q + 1 for B. -/
def phyIx (q : Nat) (b : Bool) : Nat := 2 * q + b2n b

def State.phy (s : State) (q : Nat) (b : Bool) : Pll := s.clk.phy.getD (phyIx q b) .reset

def State.pll (s : State) : PllId → Pll
  | .core => s.clk.core
  | .phy q b => s.phy q b

def State.onPll (s : State) (p : PllId) (f : Pll → Pll) : State :=
  match p with
  | .core => { s with clk := { s.clk with core := f s.clk.core } }
  | .phy q b => { s with clk := { s.clk with phy := upd s.clk.phy (phyIx q b) f } }

/-- A PLL by quad number and side. -/
def phyId (q : Nat) (b : Bool) : PllId := .phy (Fin.ofNat 4 q) b

/-- The PLL runs the start criterion. -/
def Pll.running (p : Pll) : Bool := p.phase ≠ .idle

/-- The PLL has been declared good and a monitor may watch it (R92, R96). -/
def Pll.watched (p : Pll) : Bool := p.phase == .idle && (p.st == .active || p.st == .standby || p.st == .prelock)

/-- Begin the start criterion (R91) for a reason; a pre-lock shows PRELOCK, any other start STARTING. -/
def startPll (p : PllId) (why : PllWhy) (op : Nat) (s : State) : State :=
  s.onPll p fun x => { x with
    st := if why = .prelock then .prelock else .starting
    phase := .amplitude, attempt := 1, mark := s.rsck, op := op, why := why }

/-- Step 5 of R93: the core PLL and all eight PHY PLLs start together, at the start operating point. -/
def startAllPlls (s : State) : State :=
  let k := s.cf TB_OPCFG_START
  let s := startPll .core .start 0 s
  let s := [0, 1, 2, 3].foldl (fun s q => startPll (phyId q true) .start k (startPll (phyId q false) .start k s)) s
  { s with clk := { s.clk with startStep := 5 }, op := { s.op with cur := k } }

/-- The step of the criterion has run past its bound (R91). -/
def State.pllLate (s : State) (p : Pll) : Bool :=
  match p.phase with
  | .amplitude => p.mark + s.usRsck 20 < s.rsck
  | .lock => p.mark + s.usRsck 32 < s.rsck
  | _ => false

/-- The lock delay of a PLL (R91 step 2). -/
def State.lockDelay (s : State) : PllId → Nat
  | .core => s.cf TB_LOCKDLY_CORE
  | .phy _ _ => s.cf TB_LOCKDLY_PHY

/-- A quad has a channel in service and no PLL that counts as STANDBY (R104, R332). -/
def State.noStandby (s : State) (q : Nat) : Bool :=
  let counts (p : Pll) := p.phase == .idle && (p.st == .standby || p.st == .prelock)
  s.quadServes q && !(counts (s.phy q false) || counts (s.phy q true))

/-- Withdraw the bookings of one kind of work. -/
def dropBookings (w : Work) (s : State) : State :=
  { s with brk := { s.brk with posted := s.brk.posted.filter fun b => b.work ≠ w } }

/-- The PRELOCK PLLs go back to STANDBY by a restart at the current frequency (R337). -/
def unprelock (s : State) : State :=
  [0, 1, 2, 3].foldl (fun s q => [false, true].foldl (fun s b =>
    if (s.phy q b).st = .prelock then startPll (phyId q b) .auto s.op.cur s else s) s) s

/-- A quad has a channel that an operating-point change takes along: in service or SPARE (R29, assumption 25). -/
def State.quadLiveChans (s : State) (q : Nat) : Bool := (quadChans q).any s.live

/-- A quad takes part in a change: it has left the bypass, and neither waits nor falls back (R105); one that comes back
from its wait is in step 5 of R101. -/
def State.quadChanges (s : State) (q : Nat) : Bool :=
  let k := s.quadClk q
  !k.wait && k.src ≠ .bypass && (k.fbStep == 0 || k.fbStep == 5)

/-- The channels a change changes: every channel in service or SPARE (R29, R334) of the quads that take part. -/
def State.opChans (s : State) : List Nat := allChans.filter fun c => s.live c && s.quadChanges (quadOf c)

/-- Spares that no evacuation needs return to self-refresh (R311). -/
def restSpares (s : State) : State :=
  allChans.foldl (fun s c =>
    if (s.chan c).state = .spare ∧ (s.partner c).isNone then s.onRanks c fun k => k.ask (.selfRefresh true) else s) s

/-- The channels that steps 2 to 4 of a change have stopped go on at the point kept: ranks that were sent to
self-refresh leave it and are checked, and idle spares rest again (R99, R335, R337). -/
def resumeChans (s : State) : State :=
  if 2 ≤ s.op.step ∧ s.op.step ≤ 4 then
    restSpares (s.opChans.foldl (fun s c =>
      if (s.chan c).state = .spare ∧ (s.partner c).isNone ∧ !(s.chan c).ranks.any Rank.awake then s
      else s.onRanks c (Rank.rouse (3 ≤ s.op.step))) s)
  else s

/-- The switch of a quad begins to move (R111). -/
def quadSwitch (q : Nat) (dst : ClkSrc) (why : SwWhy) (s : State) : State :=
  s.onQuadClk q fun c => { c with sw := some (dst, why), swAt := s.rsck, swForced := false }

def srcOf (b : Bool) : ClkSrc := if b then .pllB else .pllA

/-- Step 4 of a change is undone: a quad that has left its ACTIVE PLL goes back to it, which still runs at the point kept,
and the PLL it had gone to restarts there (R337, assumption 25). -/
def switchBack (s : State) : State :=
  if s.op.step = 4 then
    [0, 1, 2, 3].foldl (fun s q => [false, true].foldl (fun s b =>
      let p := s.phy q b
      if p.st = .starting ∧ p.phase = .idle then
        let s := s.onPll (phyId q b) fun x => { x with st := .active, window := s.rsck }
        quadSwitch q (srcOf b) .opChange (startPll (phyId q !b) .auto s.op.cur s)
      else s) s) s
  else s

/-- A pending change ends: no change is pending or in progress. TARGET keeps the target of the last one (R339). -/
def endPending (s : State) : State :=
  let s := dropBookings .opChange s
  let s := { s with op := { s.op with pend := false, step := 0, granted := false, book := none } }
  s.setSt TB_OPSTAT_PRELOCKED 0

/-- A change is abandoned (R99, R335): counted, the point kept, the PRELOCK PLLs restarted, its channels resumed. -/
def abandonChange (s : State) : State :=
  if s.op.pend || s.op.step ≠ 0 then unprelock ((endPending (switchBack (resumeChans s))).bump TB_OPEVT_ABANDON) else s

/-- The PRELOCK PLL of a quad is lost: before step 4 the change is abandoned in every quad (R99, R335); from there on only a
quad on its bypass still has one, and the change goes on without it (R105). -/
def losePrelock (s : State) : State := if s.op.step < 4 then abandonChange s else s

/-- INFO of PLLSB: bit 0 PLL B, bit 1 a start failure (R435). -/
def pllsbInfo (b start : Bool) : Nat := b2n b + 2 * b2n start

/-- Both PHY PLLs of a quad failed to start: its channels fail training at step 1 (R94, R407). -/
def quadUnclocked (q : Nat) (s : State) : State :=
  (quadChans q).foldl (fun s c =>
    (((s.onChan c fun x => { x with failed := true }).setSt (CH_CALSTAT_FAILSTEP c) 1).setSt
      (CH_CALSTAT_FAILRANK c) 0)) s

/-- Every PHY PLL of a quad is FAILED or OFF. -/
def State.quadDead (s : State) (q : Nat) : Bool :=
  [false, true].all fun b => (s.phy q b).st == .failed || (s.phy q b).st == .off

/-- Ask both ranks of the quad's live channels to enter self-refresh without payment (R326). -/
def quadToSelfRefresh (q : Nat) (s : State) : State :=
  (quadChans q).foldl (fun s c => if s.live c then s.onRanks c Rank.askNow else s) s

/-- A quad closes its banks and puts its ranks into self-refresh, to wait there (R101 steps 3 and 6, R523). -/
def restQuad (q : Nat) (s : State) : State :=
  quadToSelfRefresh q (s.onQuadClk q fun c => { c with fbStep := 3 })

/-- Step 5 of R117: CK restarts with CS low for 5 ck, so no command goes to the quad before. -/
def restartCk (q : Nat) (s : State) : State :=
  (quadChans q).foldl (fun s c => s.onChan c fun x => { x with cmdAt := s.now + 5 * s.ck }) s

/-- The third attempt of a PLL has failed (R92, R94, R103, R107, R523). -/
def pllFailed (p : PllId) (s : State) : State :=
  let why := (s.pll p).why
  let s := s.onPll p fun x => { x with st := .failed, phase := .idle }
  match p with
  | .core =>
    match why with
    | .start => raise .core 0 0 { s with clk := { s.clk with startFail := true } }
    | .restart => raise .core 0 2 s
    | _ =>
      let s := raise .core 0 0 { s with clk := { s.clk with coreRetFail := true } }
      [0, 1, 2, 3].foldl (fun s q =>
        if (s.quadClk q).wait || (s.quadClk q).src == .bypass then s else restQuad q s) s
  | .phy q b =>
    let dead := s.quadDead q
    match why with
    | .prelock => losePrelock (raise .pllsb q (pllsbInfo b true) s)
    | .ret =>
      if dead && (s.quadClk q).src == .bypass then
        restQuad q (restartCk q ((raise .pllbyp q 0 s).bump (QD_PLLEVT_TO_BYPASS q)))
      else raise .pllsb q (pllsbInfo b true) s
    | .start =>
      let s := raise .pllsb q (pllsbInfo b true) s
      if dead then quadUnclocked q s else s
    | .restart => raise .pllsb q (pllsbInfo b true) s
    | .auto =>
      let s := raise .pllsb q (pllsbInfo b true) s
      if dead && s.clk.startStep ≠ 0 then quadUnclocked q s else s

/-- An attempt fails: the PLL is powered down for 10 µs, or FAILED after the third (R92). -/
def attemptFailed (p : PllId) (s : State) : State :=
  if (s.pll p).attempt < 3 then s.onPll p fun x => { x with phase := .pause, mark := s.rsck }
  else pllFailed p s

/-- The core switch begins to move (R111). -/
def coreSwitch (dst : CoreSw) (s : State) : State :=
  { s with clk := { s.clk with coreSw := dst, coreSwAt := s.rsck, coreForced := false } }

/-- A PHY PLL is declared good (R91 step 3): the first of its quad becomes ACTIVE, A being chosen when both become good
in one rsck (R93 step 7, R523); a PLL that host software restarted takes a waiting quad off the bypass (R103); a
pre-locked one sets its PRELOCKED bit (R332); any other becomes STANDBY, and takes no quad off its bypass (R100). -/
def phyGood (q : Nat) (b : Bool) (s : State) : State :=
  let p := s.phy q b
  let set (st : PllSt) (s : State) : State :=
    s.onPll (phyId q b) fun x => { x with st := st, phase := .idle, window := s.rsck }
  let c := s.quadClk q
  match p.why with
  | .prelock => (set .prelock s).setBit TB_OPSTAT_PRELOCKED q
  | .auto => set .standby s
  | .restart =>
    if c.wait && c.src == .bypass && c.sw.isNone then quadSwitch q (srcOf b) .unwait (set .active s)
    else set .standby s
  | _ =>
    if c.src ≠ .bypass then set .standby s
    else match c.sw with
      | none => quadSwitch q (srcOf b) .first (set .active s)
      | some (.pllB, .first) =>
        if !b && (s.phy q true).window = s.rsck then
          let s := s.onPll (phyId q true) fun x => { x with st := .standby }
          quadSwitch q .pllA .first (set .active s)
        else set .standby s
      | some _ => set .standby s

/-- The core PLL is declared good: CCLK is switched to it (R93 step 6, R107, R117 step 4). -/
def coreGood (s : State) : State :=
  let s := coreSwitch .toPll (s.onPll .core fun x => { x with st := .active, phase := .idle, window := s.rsck })
  { s with clk := { s.clk with startStep := if s.clk.startStep = 5 then 6 else s.clk.startStep } }

def pllGood (p : PllId) (s : State) : State :=
  match p with
  | .core => coreGood s
  | .phy q b => phyGood q b s

/-- A trip on the ACTIVE PLL of a quad (R100, R101, R105); a partner that is still starting will not take the quad off
the bypass by itself. -/
def fallback (q : Nat) (b : Bool) (s : State) : State :=
  let partner := s.phy q (!b)
  if partner.st = .standby && partner.phase = .idle then
    let s := (raise .pllfb q (b2n b) s).bump (QD_PLLEVT_TO_PARTNER q)
    let s := s.onPll (phyId q (!b)) fun x => { x with st := .active }
    quadSwitch q (srcOf !b) .fallback (s.onQuadClk q fun c => { c with fbStep := 2 })
  else
    let s := (raise .pllbyp q (b2n b) s).bump (QD_PLLEVT_TO_BYPASS q)
    let s := s.onPll (phyId q (!b)) fun x => { x with
      why := match x.why with | .start | .ret => .auto | w => w }
    quadSwitch q .bypass .fallback (s.onQuadClk q fun c => { c with fbStep := 2 })

/-- A trip on the core PLL (R106 steps 1 and 2); a change before step 5 is abandoned (R337). -/
def coreTrip (s : State) : State :=
  let s := s.onPll .core fun x => { x with st := .failed, phase := .idle }
  let s := if s.op.step < 5 then abandonChange s else s
  let s := coreSwitch .toBypass { s with pins := { s.pins with pclk := false } }
  raise .core 0 1 (s.bump TB_CLKEVT_CORE_TRIPS)

/-- A monitor trips (R96, R97, R99, R100, R106). -/
def trip (p : PllId) (s : State) : State :=
  match p with
  | .core => coreTrip s
  | .phy q b =>
    let st := (s.phy q b).st
    let s := s.bump (if b then QD_PLLEVT_TRIPS_B q else QD_PLLEVT_TRIPS_A q)
    let s := s.onPll p fun x => { x with st := .failed, phase := .idle }
    match st with
    | .active => fallback q b s
    | .prelock => losePrelock (raise .pllsb q (pllsbInfo b false) s)
    | _ => raise .pllsb q (pllsbInfo b false) s

/-- The count of a window differs from E by more than E/200 (R96); E = 1,024 × N, over the CK:CCLK divisor of the point
the PLL runs at for a PHY PLL. -/
def monitorOff (s : State) (p : PllId) (count : Nat) : Bool :=
  let den := s.nDen * (match p with | .core => 1 | .phy q b => s.ratio (s.phy q b).op)
  let e := 1024 * s.nNum
  let c := count * den
  (if c ≥ e then c - e else e - c) * 200 > e

/-- The register that shows a monitor's count. -/
def monitorCount : PllId → Field
  | .core => TB_CMONCNT_COUNT
  | .phy q false => QD_MONCNT_COUNT_A q
  | .phy q true => QD_MONCNT_COUNT_B q

/-- Restart of a FAILED or OFF PHY PLL at the CK of the current point (R103). -/
def restartPhy (q : Nat) (b : Bool) (s : State) : State :=
  let st := (s.phy q b).st
  if st = .failed || st = .off then startPll (phyId q b) .restart s.op.cur s else s

/-- Restart of a FAILED core PLL (R107): not after a failure at step 5 of R93. A restart that fails is a restart failure, at
the return of RSI_CK as well (R107, R435). -/
def restartCore (s : State) : State :=
  if s.clk.core.st = .failed && !s.clk.startFail then startPll .core .restart 0 s else s

/-- The selected clock of CLKMON may be output: a code of R121, at most 400 MHz at its nominal frequency (R73, R122). -/
def State.monitorAllowed (s : State) : Bool :=
  let sel := s.cf TB_CLKMON_SEL
  let kHz := s.cf TB_RSIFREQ_KHZ
  let fits (num den : Nat) : Bool := num ≤ 400000 * (s.cf TB_CLKMON_DIV + 1) * den
  if sel = 1 then fits kHz 1
  else if sel = 2 then fits (kHz * s.nNum) s.nDen
  else if 0x08 ≤ sel ∧ sel < 0x10 then fits (kHz * s.nNum) (s.nDen * s.ck)
  else if 0x10 ≤ sel ∧ sel < 0x20 then fits (4 * kHz * s.nNum) (s.nDen * s.ck)
  else if 0x20 ≤ sel ∧ sel < 0x24 then fits (2 * kHz * s.nNum) (s.nDen * s.ck)
  else false

/-- The clock that TB_CLKMON selects runs (R123): a PHY PLL drives nothing before it is good. -/
def State.monitorRuns (s : State) : Bool :=
  let sel := s.cf TB_CLKMON_SEL
  if 0x08 ≤ sel ∧ sel < 0x10 then (s.phy ((sel - 8) / 2) (sel % 2 == 1)).watched else s.clocked

/-- CLKMON shows the selected clock once the switch to it is complete and while its check passes (R73, R122). -/
def showClkmon (s : State) : State :=
  { s with pins := { s.pins with clkmon := s.clk.monSw && s.monitorAllowed } }

-- meanings

/-- The amplitude detector reports swing above threshold within its 20 µs (R91 step 1). -/
def execAmplitudeReport (p : PllId) (s : State) : Host.Outcome State Fault Refusal :=
  if s.clocked ∧ (s.pll p).phase = .amplitude ∧ !s.pllLate (s.pll p) then
    .next (s.onPll p fun x => { x with phase := .delay, mark := s.rsck })
  else .next s

/-- The lock delay has run out (R91 step 2). -/
def execLockDelayExpiry (p : PllId) (s : State) : Host.Outcome State Fault Refusal :=
  if s.clocked ∧ (s.pll p).phase = .delay ∧ (s.pll p).mark + s.lockDelay p ≤ s.rsck then
    .next (s.onPll p fun x => { x with phase := .lock, mark := s.rsck })
  else .next s

/-- A bound of the criterion is exceeded (R92). -/
def execPllAttemptTimeout (p : PllId) (s : State) : Host.Outcome State Fault Refusal :=
  if s.clocked ∧ s.pllLate (s.pll p) then .next (attemptFailed p s) else .next s

/-- The 10 µs between attempts have passed (R92). -/
def execPllRetryPauseExpiry (p : PllId) (s : State) : Host.Outcome State Fault Refusal :=
  let x := s.pll p
  if s.clocked ∧ x.phase = .pause ∧ x.mark + s.usRsck 10 ≤ s.rsck then
    .next (s.onPll p fun x => { x with phase := .amplitude, attempt := x.attempt + 1, mark := s.rsck })
  else .next s

/-- The amplitude detector drops its report: a failed attempt in steps 2 and 3 of the criterion (R92), a trip of a good
PLL (R97). -/
def execAmplitudeDrop (p : PllId) (s : State) : Host.Outcome State Fault Refusal :=
  let x := s.pll p
  if s.clocked ∧ (x.phase = .delay ∨ x.phase = .lock) then .next (attemptFailed p s)
  else if s.clocked ∧ x.watched then .next (trip p s)
  else .next s

/-- The lock detector of a good PLL reports loss of lock (R97). -/
def execLossOfLock (p : PllId) (s : State) : Host.Outcome State Fault Refusal :=
  if s.clocked ∧ (s.pll p).watched then .next (trip p s) else .next s

/-- A monitor window of 1,024 rsck closes (R96). -/
def execMonitorWindowEnd (p : PllId) (count : BitVec 16) (s : State) : Host.Outcome State Fault Refusal :=
  let x := s.pll p
  if s.clocked ∧ x.watched ∧ x.window + 1024 ≤ s.rsck then
    let s := (s.setSt (monitorCount p) count.toNat).onPll p fun x => { x with window := s.rsck }
    if monitorOff s p count.toNat then .next (trip p s) else .next s
  else .next s

/-- A write of 1 to QDn_PLLCTRL.RESTART_A (R103). -/
def execRestartA (q : Fin 4) (s : State) : Host.Outcome State Fault Refusal :=
  .next (if s.clocked then restartPhy q false s else s)

/-- A write of 1 to QDn_PLLCTRL.RESTART_B (R103). -/
def execRestartB (q : Fin 4) (s : State) : Host.Outcome State Fault Refusal :=
  .next (if s.clocked then restartPhy q true s else s)

/-- A write of 1 to TB_CLKCTRL.CORE_RESTART (R107). -/
def execCoreRestart (s : State) : Host.Outcome State Fault Refusal :=
  .next (if s.clocked then restartCore s else s)

end Sys2Proof.Machine
end

