-- ==== Sys2Proof/Machine/Engine.lean ====
section
/-!
DEFINITION. The command engine of a channel: timing rules (R302, R303), the choice of the next command (R293–R299, R312,
R316–R319, R323, R324), and the row and column commands with their ends.
-/

namespace Sys2Proof.Machine

-- timing

/-- `n` ck have passed since a mark. -/
def State.due (s : State) (mark : Option Nat) (n : Nat) : Bool :=
  match mark with
  | none => true
  | some t => t + n * s.ck ≤ s.now

/-- As `due`, where an auto-precharge that has yet to begin does not count. -/
def State.dueBegun (s : State) (mark : Option Nat) (n : Nat) : Bool :=
  match mark with
  | none => true
  | some t => s.now < t || t + n * s.ck ≤ s.now

/-- A timing field of the set in force (R302). -/
def State.tm (s : State) (c : Nat) (f : Nat → Nat → Field) : Nat := s.cf (f c s.op.cur)

/-- Derating applies to either rank of a channel (R322). -/
def State.derated (s : State) (c : Nat) : Bool := (s.chan c).ranks.any (·.cls ≥ 6)

/-- The derating in force in ck. -/
def State.derate (s : State) (c : Nat) : Nat :=
  if s.derated c then
    s.cf (match s.op.cur with | 0 => CH_DERATE_OP0 c | 1 => CH_DERATE_OP1 c | 2 => CH_DERATE_OP2 c | _ => CH_DERATE_OP3 c)
  else 0

/-- WL + 4, the ck from a WR to the end of its data (R303). -/
def State.writeEnd (s : State) (c : Nat) : Nat := s.tm c CH_TLAT_WL + 4

/-- The rules that hold a whole rank back: its power state, PREab, REFab, MRW, MRR, ZQ latch and the exit from a power
state (R292, R303, R325). -/
def State.rankFree (s : State) (c r : Nat) : Bool :=
  let k := s.rank c r
  k.power == .active && s.due k.preab (s.tm c CH_TBNK_RPAB) && s.due k.refab (s.tm c CH_TRFC_RFCAB) &&
    s.due k.mrw (s.tm c CH_TMR_MRD) && s.due k.mrr (s.tm c CH_TMR_MRR) && s.due k.zqLatch (s.tm c CH_TZQ_ZQLAT) &&
    (match k.upAt with | none => true | some t => t ≤ s.now)

/-- The WCK-DQ interval oscillator of a rank runs: no command issues to the rank but a refresh at its limit (R419). -/
def State.oscOn (s : State) (c r : Nat) : Bool := ((s.cal c).oscRun.getD r none).isSome

/-- A rank that takes commands other than a refresh at its limit. -/
def State.rankQuiet (s : State) (c r : Nat) : Bool := s.rankFree c r && !s.oscOn c r

/-- A calibration step of a rank falls due and waits for a booking (R425). -/
def bookStep (c kind r : Nat) (s : State) : State :=
  s.onCal c fun x => { x with booked := if x.booked.contains (kind, r) then x.booked else x.booked ++ [(kind, r)] }

/-- A ZQ start of a rank falls due; a latch is owed since the first one (R423). -/
def zqDue (c r : Nat) (s : State) : State :=
  bookStep c 3 r (if (s.cal c).zqOwed.getD r false then s
    else s.onCal c fun x => { x with zqOwed := upd x.zqOwed r fun _ => true, zqAt := upd x.zqAt r fun _ => s.now })

/-- A ZQ latch still to come is cancelled, also in its booking (R423). -/
def cancelLatch (c r : Nat) (s : State) : State :=
  (s.onRank c r fun k => { k with zqStart := none, zqReady := false }).onCal c fun x => { x with
    booked := x.booked.filter (· ≠ (2, r)), step := x.step.filter (· ≠ (2, r)) }

/-- One command per ck, chosen in the cc that begins the ck (R292, R293). -/
def State.slot (s : State) (c : Nat) : Bool := s.ckBegins && (s.chan c).cmdAt ≤ s.now

def State.takeSlot (s : State) (c n : Nat) : State := s.onChan c fun x => { x with cmdAt := s.now + n * s.ck }

/-- The state of a bank by R291: an ACT takes two ck, and the bank is CLOSED until ACT-2 issues. -/
def State.bankState (s : State) (x : Bank) : BankSt :=
  if x.st = .opening ∧ !s.due x.act 1 then .closed else x.st

/-- Every bank of a rank with its number. -/
def Rank.list (k : Rank) : List (Bank × Nat) := k.banks.toList.zipIdx

/-- The PRE of a bank, where its last precharge was not that of a PREab, which has its own rule (R303). -/
def Rank.prePb (k : Rank) (x : Bank) : Option Nat := if k.preab = x.pre then none else x.pre

/-- The REFpb of a bank, where its last refresh was not that of a REFab, which has its own rule (R303). -/
def Rank.refPb (k : Rank) (x : Bank) : Option Nat := if k.refab = x.ref then none else x.ref

/-- ACT may issue to a bank (R303, R324). -/
def State.actReady (s : State) (c r b : Nat) : Bool :=
  let k := s.rank c r
  let x := k.bank b
  let d := s.derate c
  x.st == .closed && s.rankFree c r && s.due x.act (s.tm c CH_TBNK_RC + d) && s.due (k.prePb x) (s.tm c CH_TACT_RPPB + d) &&
    k.list.all (fun e => e.2 == b || (s.due e.1.act (s.tm c CH_TBNK_RRD + d) &&
      s.due (k.refPb e.1) (s.tm c CH_TRFC_PBR2ACT) && s.due e.1.rfm (s.tm c CH_TRFC_PBR2ACT))) &&
    (k.faw.length < 4 || s.due (k.faw.getLast?) (s.tm c CH_TFAW_FAW)) &&
    !(s.on (CH_RFMCFG_EN c) && x.raa ≥ s.cf (CH_RFMCFG_RAAMMT c))

/-- The column rules between two bursts, by where the earlier one went (R303). -/
def State.columnGap (s : State) (c : Nat) (p : Place) (rank bank : Nat) (wr : Bool) (e : Bank) : Bool :=
  let here := rank == p.rank
  let near := bank == p.bank || s.sameGroup c bank p.bank
  let ccd := if near then s.tm c CH_TCOL_CCD_L else s.tm c CH_TCOL_CCD_S
  if wr then
    s.due e.wr (if here then ccd else s.tm c CH_TRNK_WRWR_R) &&
      s.due e.rd (if here then s.tm c CH_TTRN_RTW else s.tm c CH_TRNK_RDWR_R)
  else
    s.due e.rd (if here then ccd else s.tm c CH_TRNK_RDRD_R) &&
      s.due e.wr (if here then s.writeEnd c + (if near then s.tm c CH_TTRN_WTR_L else s.tm c CH_TTRN_WTR_S)
        else s.tm c CH_TRNK_WRRD_R)

/-- A column command may issue to an open bank (R301, R303). -/
def State.columnReady (s : State) (c : Nat) (p : Place) (wr : Bool) : Bool :=
  let k := s.rank c p.rank
  s.rankFree c p.rank && k.wckOn && s.due k.wckAt (s.tm c CH_TWCK_WCKPRE) &&
    s.due (k.bank p.bank).act (1 + s.tm c CH_TACT_RCD + s.derate c) &&
    [0, 1].all fun r => (s.rank c r).list.all fun e => s.columnGap c p r e.2 wr e.1

/-- A bank's own rules for PRE are met (R303). -/
def State.preBank (s : State) (c : Nat) (x : Bank) : Bool :=
  s.due x.act (s.tm c CH_TACT_RAS + s.derate c) && s.due x.rd (s.tm c CH_TFAW_RTP) &&
    s.due x.wr (s.writeEnd c + s.tm c CH_TFAW_WR)

-- queued operations

/-- The operation stands in its read queue or write queue with its entry at hand, at the head of its chain: its column
commands may be chosen. -/
def Op.inQueue (o : Op) : Bool :=
  o.phase == .reading || (o.phase == .writing && ((o.kind ≠ .write && o.kind ≠ .mirror) || o.looked))

/-- The direction of the operation's column commands. -/
def Op.writes (o : Op) : Bool := o.phase == .writing

/-- The operation still needs its bank: it has column commands to come. -/
def Op.needsBank (o : Op) : Bool :=
  o.phase == .reading || o.phase == .writing || o.phase == .lookup || o.phase == .wantQueue

def State.opPlace (s : State) (c : Nat) (o : Op) : Place := s.place c o.x

/-- A line is started and not finished (R296). -/
def Op.started (o : Op) : Bool := 0 < o.bursts && o.bursts < 4 && (o.phase == .reading || o.phase == .writing)

def State.startedAt (s : State) (c r b : Nat) : Bool :=
  (s.chan c).ops.any fun o => o.started && (s.opPlace c o).rank == r && (s.opPlace c o).bank == b

/-- Some operation needs a bank of a list. -/
def State.queuedAt (s : State) (c r : Nat) (bs : List Nat) : Bool :=
  (s.chan c).ops.any fun o => o.needsBank && (s.opPlace c o).rank == r && bs.contains (s.opPlace c o).bank

/-- Some operation needs the open row of a bank, or is a write for it that a gill holds (R297, R312). -/
def State.queuedRow (s : State) (c r b row : Nat) : Bool :=
  (s.chan c).ops.any fun o => (o.needsBank || o.phase == .gather) &&
    (s.opPlace c o).rank == r && (s.opPlace c o).bank == b && (s.opPlace c o).row == row

/-- The order of R36 of an operation's commands; writebacks before fills within order 4. -/
def Op.order (o : Op) : Nat :=
  match o.kind with
  | .scratch => 20
  | .rmw => 30
  | .writeback => 40
  | .demand | .preload | .opFill _ | .bypass | .bypassWrite | .recompute _ => 41
  | .read | .write | .test => 50
  | .scrub | .migration | .rekey | .mirror => 60

-- the data bus (R298, R299)

/-- The operation will still issue column commands: writes where it stands or will stand in the write queue. -/
def Op.columns (o : Op) : Option Bool :=
  match o.phase with
  | .reading | .lookup | .wantQueue | .pause | .behind => some false
  | .writing | .gather => some true
  | _ => none

/-- The operation waits in its chain for column commands of the other direction, or for the rebuild of its line. -/
def State.across (s : State) (c : Nat) (o : Op) : Bool :=
  (((s.chan c).before o).any fun e => e.blocks o && e.columns == some (!o.writes)) ||
    (o.isMetaFill && (s.quad (quadOf c)).rebuilds.any fun b => b.chan = c && b.m = o.q)

/-- Operations that stand in the read queue or the write queue, whether they are ready or not (R298, R299), but for those
that only the other direction can serve, which hold nothing back (R306). -/
def State.standing (s : State) (c : Nat) : List Op :=
  (s.chan c).ops.filter fun o => (o.rq ≠ .none || o.phase == .writing) && !s.across c o

/-- Those among them that have their entry at hand: a lookup may wait for a writeback (R306). -/
def State.served (s : State) (c : Nat) : List Op := (s.standing c).filter fun o => o.phase ≠ .lookup

/-- The oldest operation of a list, by its admission to the hazard table (R295, R350). -/
def oldest (ops : List Op) : Option Op :=
  ops.foldl (fun best o => match best with
    | none => some o
    | some b => if o.id < b.id then some o else some b) none

/-- The first order below 5 that has an operation queued. -/
def topOrder (ops : List Op) : Option Op :=
  (ops.filter fun o => o.order < 50).foldl (fun best o => match best with
    | none => some o
    | some b => if o.order < b.order then some o else some b) none

/-- A condition for a change of mode holds (R298, R299). Of the orders up to 4 the first that has its entry at hand decides
(R36); where none has, it is enough that one of the other direction stands in its queue. -/
def State.modeWanted (s : State) (c : Nat) : Bool :=
  let x := s.chan c
  let ops := s.standing c
  let wr := ops.any Op.writes
  let rd := ops.any fun o => !o.writes
  let forced := match topOrder (s.served c) with
    | some o => o.writes ≠ x.wrMode
    | none => ops.any fun o => o.order < 50 && o.writes ≠ x.wrMode
  forced ||
    (if x.wrMode then (x.wqUsed ≤ s.cf (CH_WQCFG_WLO c) && x.modeCount ≥ s.cf (CH_SCHED_WRMIN c)) || (!wr && rd)
      else (x.wqUsed ≥ s.cf (CH_WQCFG_WHI c) && x.modeCount ≥ s.cf (CH_SCHED_RDMIN c)) || (!rd && wr))

/-- R299 lets a line of an operation start: no operation of orders 1 to 4 of the other direction stands before it. Among
those orders themselves the lower number goes first. -/
def State.startOrder (s : State) (c : Nat) (o : Op) : Bool :=
  if o.order < 50 then !((s.served c).any fun e => e.order < o.order && e.writes ≠ o.writes)
  else !((s.standing c).any fun e => e.order < 50 && e.writes ≠ o.writes)

/-- The change of mode is due. -/
def State.turning (s : State) (c : Nat) : Bool := (s.chan c).modeDue || s.modeWanted c

/-- Lines may start on a channel: no operating-point change stands between its steps 2 and 5, no sequence has stopped the
channel, and neither rank is on its way into a low-power state. A calibration line starts in the work it belongs to, which
such a sequence may itself have called (R265, R410), or in the step that the sequence waits for (R334, R337). -/
def State.startsOk (s : State) (c : Nat) (o : Op) : Bool :=
  let x := s.chan c
  let k := s.rank c (s.opPlace c o).rank
  let called := o.kind == .scratch && (x.job ≠ .none || k.check || (s.cal c).step.isSome)
  let stopped := (2 ≤ s.op.step && s.op.step ≤ 5) || s.clk.retStep ≠ 0 || (s.quadClk (quadOf c)).fbStep ≠ 0 ||
    s.tap.quiesce ≥ 4 || x.job ≠ .none || k.check
  (called || !stopped) && s.flt.haltStep == 0 && k.want == .serve

-- refresh (R316–R319)

/-- The address the scheduler refreshes next: the lowest not used whose banks have neither a started line nor a queued
operation, else the lowest without a started line (R316). -/
def State.refAddr (s : State) (c r : Nat) : Option Nat :=
  let free (a : Nat) : Bool := !natBit (s.rank c r).round a && (s.refBanks c a).all fun b => !s.startedAt c r b
  match (List.range 8).find? fun a => free a && !s.queuedAt c r (s.refBanks c a) with
  | some a => some a
  | none => (List.range 8).find? free

/-- Refreshes are all-bank: by configuration, or a forced payment (R315). -/
def State.allBank (s : State) (c r : Nat) : Bool := s.on (CH_REFCFG_ALLBANK c) || (s.rank c r).forced

/-- The scheduler keeps the debt of a rank and may refresh it (R314). -/
def State.scheduled (s : State) (c r : Nat) : Bool := (s.rank c r).keeps && (s.rank c r).power == .active

/-- A rank's next refresh is order 1 (R315, R317). -/
def State.atLimit (s : State) (c r : Nat) : Bool :=
  s.scheduled c r && ((s.rank c r).debt ≥ 64 || ((s.rank c r).forced && (s.rank c r).debt > 0))

/-- The banks that the next refresh of a rank needs. -/
def State.refNeeds (s : State) (c r : Nat) : List Nat :=
  if s.allBank c r then List.range 16 else match s.refAddr c r with | some a => s.refBanks c a | none => []

/-- A bank reserved by a refresh at its limit, or by an RFMpb at order 1: no new line starts in it (R312, R324). -/
def State.bankTaken (s : State) (c r b : Nat) : Bool :=
  (s.atLimit c r && (s.refNeeds c r).contains b) ||
    (s.on (CH_RFMCFG_EN c) && ((s.rank c r).bank b).raa ≥ s.cf (CH_RFMCFG_RAAMMT c) && (s.rank c r).keeps)

-- commands

/-- A command the engine may issue. `placed` tells a placed refresh from one at order 1; `mrr` is the MR4 read, `mrw` the
FSP write of a pending change, `oscStart` the start of the oscillator of a rank and `osc` the read of its count. -/
inductive Cmd
  | act (p : Place) (id : Nat)
  | rd (id : Nat)
  | wr (id : Nat)
  | pre (r b : Nat)
  | refpb (r a : Nat) (placed : Bool)
  | refab (r : Nat) (placed : Bool)
  | rfm (r b : Nat) (placed : Bool)
  | cas (r : Nat)
  | mrr (r : Nat)
  | mrw (r : Nat)
  | zqStart (r : Nat)
  | zqLatch (r : Nat)
  | oscStart (r : Nat)
  | osc (r : Nat)
  deriving DecidableEq, Repr

/-- PRE to a bank is ready: nothing started there, its own rules and PPD met (R296, R303). -/
def State.preReady (s : State) (c r b : Nat) : Bool :=
  let k := s.rank c r
  (k.bank b).st == .opened && !s.startedAt c r b && s.rankFree c r && s.preBank c (k.bank b) &&
    k.list.all fun e => s.dueBegun e.1.pre (s.tm c CH_TCOL_PPD)

/-- The first open bank of a list gets its PRE when ready. -/
def State.preFor (s : State) (c r : Nat) (bs : List Nat) : Option Cmd :=
  (bs.find? fun b => s.preReady c r b).map (Cmd.pre r)

/-- The next command towards a refresh of a rank, if ready. A payment before self-refresh waits for its PREab (R326). -/
def State.refCmd (s : State) (c r : Nat) (placed : Bool) : Option Cmd :=
  let k := s.rank c r
  let bs := s.refNeeds c r
  if bs.isEmpty || (k.forced && k.preDue) then none
  else if bs.all fun b => (k.bank b).st == .closed then
    if !s.rankFree c r then none
    else if s.allBank c r then some (.refab r placed)
    else if k.list.all fun e => s.due (k.refPb e.1) (s.tm c CH_TRFC_PBR2PBR) then (s.refAddr c r).map fun a => .refpb r a placed
    else none
  else s.preFor c r bs

/-- The next command towards an RFMpb to a bank, if ready. -/
def State.rfmCmd (s : State) (c r b : Nat) (placed : Bool) : Option Cmd :=
  match ((s.rank c r).bank b).st with
  | .closed => if s.rankQuiet c r then some (.rfm r b placed) else none
  | .opened => if s.rankQuiet c r then s.preFor c r [b] else none
  | _ => none

/-- Banks whose RAA has reached a threshold (R324). -/
def State.raaBanks (s : State) (c r thr : Nat) : List Nat :=
  if s.on (CH_RFMCFG_EN c) && s.scheduled c r then
    ((s.rank c r).list.filter fun e => e.1.raa ≥ thr && e.1.raa > 0).map (·.2)
  else []

/-- An MR4 read that is due and follows a refresh of one kind: at order 1, or placed (R321). -/
def State.mr4Cmd (s : State) (c r : Nat) (top : Bool) : Option Cmd :=
  let k := s.rank c r
  if k.mr4Due && k.mr4Go && k.mr4Top == top && !k.mr4Wait && s.rankQuiet c r then some (.mrr r) else none

/-- The refresh of a rank at its limit. -/
def State.limitRef (s : State) (c r : Nat) : Option Cmd := if s.atLimit c r then s.refCmd c r false else none

/-- The RFMpb of a rank at RAAMMT. -/
def State.limitRfm (s : State) (c r : Nat) : Option Cmd :=
  (s.raaBanks c r (s.cf (CH_RFMCFG_RAAMMT c))).findSome? fun b => s.rfmCmd c r b false

/-- Order 1: a refresh at its limit, or the MR4 read in its place, then an RFMpb at RAAMMT (R317, R321, R324, R337). -/
def State.order1 (s : State) (c : Nat) : Option Cmd :=
  ((s.mr4Cmd c 0 true).or (s.limitRef c 0)).or <| ((s.mr4Cmd c 1 true).or (s.limitRef c 1)).or <|
    (s.limitRfm c 0).or (s.limitRfm c 1)

/-- A command of training is queued for a rank: a scratch line of P31 (R314). -/
def State.trainQueued (s : State) (c r : Nat) : Bool :=
  let x := s.chan c
  (x.ops.any fun o => o.kind == .scratch && o.needsBank && (s.place c o.x).rank == r) ||
    ((s.perch c 31) ++ x.arb.coming.filter (·.port == 31)).any fun l => (s.place c l.q).rank == r

/-- A placed refresh or RFMpb of a rank: in a granted booking until E of each rank has fallen to its end, or as a pull-in,
which takes E no lower than −64 (R314, R318, R319, R324); before step 10 of R93 pull-ins need no PULLIN and wait for the
training commands of the whole rank (R314). -/
def State.placedRef (s : State) (c r : Nat) : Option Cmd :=
  let pull := s.on (CH_REFCFG_PULLIN c) || s.clk.startStep ≠ 0
  let low : Int := if pull then -64 else 0
  let booked := s.granted .refresh c && [0, 1].any fun i => s.scheduled c i && (s.rank c i).debt > low
  let k := s.rank c r
  if !s.scheduled c r || k.forced || s.oscOn c r then none
  else
    let idle (bs : List Nat) : Bool := !s.queuedAt c r bs && !(s.clk.startStep ≠ 0 && s.trainQueued c r)
    let rfm := (s.raaBanks c r (s.cf (CH_RFMCFG_RAAIMT c))).findSome? fun b =>
      if booked || (pull && k.debt > -64 && idle [b]) then s.rfmCmd c r b true else none
    let pays : Int := if s.allBank c r then 8 else 1
    rfm.or (if k.debt > low && k.debt - pays ≥ -64 && (booked || (pull && idle (s.refNeeds c r))) then s.refCmd c r true
      else none)

/-- A rank has the FSP write of a pending change to make (R332). -/
def State.fspOwed (s : State) (c r : Nat) : Bool :=
  s.op.pend && s.op.step == 0 && (s.chan c).inService && !(s.rank c r).fspDone

/-- The FSP write of a pending change, in the place of a placed refresh (R332). -/
def State.fspCmd (s : State) (c r : Nat) : Option Cmd :=
  if s.fspOwed c r && s.rankQuiet c r && s.due (s.rank c r).mrw (s.tm c CH_TMR_MRW) then some (.mrw r) else none

/-- What issues in the place of a placed refresh (R295, R321, R332). -/
def State.placed (s : State) (c : Nat) : Option Cmd :=
  ((s.mr4Cmd c 0 false).or (s.mr4Cmd c 1 false)).or <| (s.placedRef c 0).or <| (s.placedRef c 1).or <|
    (s.fspCmd c 0).or (s.fspCmd c 1)

/-- The command of a calibration step in its booking, order 2 (R36, R419, R423). -/
def State.calCmd (s : State) (c : Nat) : Option Cmd :=
  match (s.cal c).step with
  | some (3, r) => if s.rankQuiet c r then some (.zqStart r) else none
  | some (2, r) => if (s.rank c r).zqReady && s.rankQuiet c r then some (.zqLatch r) else none
  | some (4, r) => match (s.cal c).oscRun.getD r none with
    | none => if s.rankQuiet c r then some (.oscStart r) else none
    | some t => if s.rankFree c r && t + 256 * 2 ^ s.cf (QD_CALCFG2_OSCRUN (quadOf c)) * s.ck ≤ s.now then some (.osc r)
      else none
  | _ => none

/-- An older operation waits for another row of a bank (R297). -/
def State.olderWaits (s : State) (c : Nat) (o : Op) (p : Place) : Bool :=
  (s.chan c).ops.any fun e => e.id < o.id && e.needsBank && (s.opPlace c e).rank == p.rank && (s.opPlace c e).bank == p.bank &&
    (s.opPlace c e).row ≠ p.row

/-- The data of a write has passed the pipeline (R466). -/
def State.piped (s : State) (o : Op) : Bool :=
  o.bursts > 0 || (o.kind ≠ .write && o.kind ≠ .rekey) || o.mark + 28 ≤ s.now

/-- The next command of an operation, if ready (R294, R296–R299): ahead of its column command a CAS where WCK stands
still (R301). -/
def State.opCmd (s : State) (c : Nat) (o : Op) : Option Cmd :=
  let x := s.chan c
  let p := s.opPlace c o
  let b := (s.rank c p.rank).bank p.bank
  if !s.opFree c o || s.oscOn c p.rank then none
  else match b.st with
  | .closed =>
    if s.startsOk c o && !s.bankTaken c p.rank p.bank && s.actReady c p.rank p.bank then some (.act p o.id) else none
  | .opened =>
    if b.row = p.row then
      let cap := s.cf (CH_SCHED_HITCAP c)
      let mayStart := o.started || (s.startsOk c o && !s.turning c && !s.bankTaken c p.rank p.bank &&
        s.startOrder c o && !(cap ≠ 0 && b.hits ≥ cap && s.olderWaits c o p))
      if o.writes == x.wrMode && mayStart then
        if !(s.rank c p.rank).wckOn then (if s.rankQuiet c p.rank then some (.cas p.rank) else none)
        else if s.piped o && s.columnReady c p o.writes then some (if o.writes then .wr o.id else .rd o.id)
        else none
      else none
    else if s.startsOk c o && s.preReady c p.rank p.bank then some (.pre p.rank p.bank) else none
  | _ => none

/-- A column command. -/
def Cmd.column : Cmd → Bool
  | .rd _ | .wr _ => true
  | _ => false

/-- The ready commands of the operations of one order, each with its operation. -/
def State.cmdsOf (s : State) (c n : Nat) : List (Op × Cmd) :=
  (s.chan c).ops.filterMap fun o => if o.order = n ∧ o.inQueue then (s.opCmd c o).map fun k => (o, k) else none

/-- The command of the oldest operation of a list. -/
def oldestCmd (cs : List (Op × Cmd)) : Option Cmd :=
  (oldest (cs.map (·.1))).bind fun o => (cs.find? fun e => e.1.id == o.id).map (·.2)

/-- The oldest ready command of one order. -/
def State.orderCmd (s : State) (c n : Nat) : Option Cmd := oldestCmd (s.cmdsOf c n)

/-- The ready command of P0–P29: least tier, column commands first, oldest first (R295). -/
def State.portCmd (s : State) (c : Nat) : Option Cmd :=
  let cs := s.cmdsOf c 50
  match [0, 1, 2, 3].find? fun t => cs.any (·.1.tier == t) with
  | none => none
  | some t =>
    let cs := cs.filter (·.1.tier == t)
    (oldestCmd (cs.filter fun e => e.2.column)).or (oldestCmd cs)

/-- The choice of R295, but for the idle-close rule. -/
def State.choose (s : State) (c : Nat) : Option Cmd :=
  (s.order1 c).or <| (s.calCmd c).or <| (s.orderCmd c 20).or <| (s.orderCmd c 30).or <| (s.orderCmd c 40).or <| (s.orderCmd c 41).or <|
    (s.placed c).or <| (s.portCmd c).or <| s.orderCmd c 60

/-- A retired channel still tries to bring its ranks into deep sleep (R311, R326). -/
def Chan.leaving (c : Chan) : Bool :=
  c.state == .retired && c.ranks.any fun k => k.awake && (match k.want with | .deepSleep _ => true | _ => false)

/-- The data bus of a channel may carry lines: also those of a check in step 5 of R101 and from step 6 of R117 on. -/
def State.busRuns (s : State) (c : Nat) : Bool :=
  let f := (s.quadClk (quadOf c)).fbStep
  s.quadLives (quadOf c) && (f == 0 || f == 5) && (s.clk.retStep == 0 || 6 ≤ s.clk.retStep)

/-- The engine of a channel issues commands (R292, R310): refreshes and calibration only in step 5 of R101 and from step 6
of R117 on, and in a retired channel to pay before deep sleep. -/
def State.engineRuns (s : State) (c : Nat) : Bool :=
  s.busRuns c && ((s.chan c).state ≠ .retired || (s.chan c).leaving) && s.slot c

def State.chosen (s : State) (c : Nat) : Option Cmd := if s.engineRuns c then s.choose c else none

-- effects

def State.onBank (s : State) (c r b : Nat) (f : Bank → Bank) : State := s.onRank c r (·.onBank b f)

/-- RAA counters move only with EN (R323); RAAMAX keeps the highest. -/
def raiseRaa (c r b : Nat) (s : State) : State :=
  if s.on (CH_RFMCFG_EN c) then
    let s := s.onBank c r b fun x => { x with raa := x.raa + 1 }
    let n := ((s.rank c r).bank b).raa
    if n > s.st (CH_RFMSTAT_RAAMAX c) then s.setSt (CH_RFMSTAT_RAAMAX c) (min 511 n) else s
  else s

/-- Lower RAA counters of banks by a number of thresholds. -/
def lowerRaa (c r n : Nat) (bs : List Nat) (s : State) : State :=
  if s.on (CH_RFMCFG_EN c) then
    bs.foldl (fun s b => s.onBank c r b fun x => { x with raa := x.raa - n * s.cf (CH_RFMCFG_RAAIMT c) }) s
  else s

/-- ACT-1 and ACT-2 (R291, R293, R323): `act` marks ACT-1, and the bank is OPENING from ACT-2 on (`State.bankState`). -/
def issueAct (c : Nat) (p : Place) (id : Nat) (s : State) : State :=
  let s := s.onRank c p.rank fun k =>
    { k.onBank p.bank fun b => { b with
        st := .opening, row := p.row, act := some s.now, hits := 0, actFor := some id, idleAt := s.now } with
      faw := (s.now :: k.faw).take 4 }
  ((raiseRaa c p.rank p.bank s).takeSlot c 2).note .act c

/-- A column command hits its bank: the hits of R297 and the marks of R303. -/
def hitBank (c : Nat) (o : Op) (wr : Bool) (s : State) : State :=
  let p := s.opPlace c o
  let waits := s.olderWaits c o p
  let own := ((s.rank c p.rank).bank p.bank).actFor == some o.id
  let s := s.onBank c p.rank p.bank fun b => { b with
    rd := if wr then b.rd else some s.now, wr := if wr then some s.now else b.wr
    hits := if waits then b.hits + 1 else 0, idleAt := s.now }
  let from_ := s.now + (if wr then s.tm c CH_TLAT_WL else s.tm c CH_TLAT_RL) * s.ck
  let s := s.onChan c fun x => { x with
    modeCount := x.modeCount + 1, dq := x.dq.filter (fun e => s.now < e.2.1) ++ [(from_, from_ + 4 * s.ck, wr)] }
  let s := if o.bursts = 0 ∧ !own then s.note .rowHit c else s
  (s.takeSlot c 1).note (if wr then .wr else .rd) c

/-- The last column command of a line carries auto-precharge in closed-page mode unless a queued operation hits the same
row (R297). Its precharge begins once the rules of PRE are met. -/
def autoPrecharge (c : Nat) (o : Op) (wr : Bool) (s : State) : State :=
  let p := s.opPlace c o
  if s.on (CH_SCHED_PAGE c) ∧ !s.queuedRow c p.rank p.bank p.row then
    let b := (s.rank c p.rank).bank p.bank
    let ras := match b.act with | some t => t + (s.tm c CH_TACT_RAS + s.derate c) * s.ck | none => s.now
    let own := s.now + (if wr then s.writeEnd c + s.tm c CH_TFAW_WR else s.tm c CH_TFAW_RTP) * s.ck
    (s.onBank c p.rank p.bank fun b => { b with st := .closing, pre := some (max ras own) }).note .pre c
  else s

/-- A data line of a port or an engine, as against a metadata, scratch or test line. -/
def Op.isData (o : Op) : Bool := !o.isMetaFill && o.kind ≠ .scratch && o.kind ≠ .test && o.kind ≠ .writeback

/-- RD of the next burst (R282, R286): the last one ends the line's commands. -/
def issueRd (c id : Nat) (s : State) : State :=
  match (s.chan c).op id with
  | none => s
  | some o =>
    let s := if o.bursts = 0 ∧ o.tries > 0 ∧ o.isData then s.note .refetch c else s
    let s := hitBank c o false s
    let d := withBurst o.data o.bursts (s.burst c o.x o.bursts)
    let last := o.bursts = 3
    let s := s.onOp c id fun o => { o with
      bursts := o.bursts + 1, data := d, rq := if last then .none else o.rq
      phase := if last then .flight else o.phase, mark := if last then s.now else o.mark }
    if last then autoPrecharge c o false s else s

/-- The stored form and the entry with which a write goes to DRAM (R344, R355, R367, R464). -/
def sealWrite (c : Nat) (o : Op) (s : State) : State :=
  if o.acted ∧ o.kind = .write then s
  else match o.kind with
  | .write =>
    let slot := s.writeSlot
    let e := Entry.afterWrite (s.entryNow c o) (lineCrc o.plain o.line) (!o.merged) slot
    s.onOp c o.id fun w => { w with data := s.encrypt slot o.line o.plain, entry := e, acted := true }
  | .rekey =>
    let slot := s.writeSlot
    s.onOp c o.id fun w => { w with
      data := s.encrypt slot o.line o.plain, entry := Entry.setBit (s.entryNow c o) 35 (slot = 1) }
  | _ => s

/-- The line's last burst has issued: its entry is updated and, where it is mirrored, the spare written (R355, R365). A
write repeated by R108 has made its update already. -/
def written (c : Nat) (o : Op) (s : State) : State :=
  let fresh := o.tries == 0
  match o.kind with
  | .write | .rekey =>
    if !fresh then s
    else
      let s := (updateEntry c o.q o.way o.entry s).onOp c o.id fun w => { w with tries := 1, way := none }
      match s.mirrorTo c o.q with
      | some sp => mirror c sp o o.data o.entry false s
      | none => s
  | .mirror =>
    if fresh then (updateEntry c o.q o.way o.entry s).onOp c o.id fun w => { w with tries := 1, way := none } else s
  | _ => s

/-- WR of the next burst (R282, R286). -/
def issueWr (c id : Nat) (s : State) : State :=
  match (s.chan c).op id with
  | none => s
  | some o =>
    let s := if o.bursts = 0 then sealWrite c o s else s
    let o := ((s.chan c).op id).getD o
    let s := hitBank c o true s
    let s := s.setBurst c o.x o.bursts (burstOf o.data o.bursts)
    let last := o.bursts = 3
    let s := s.onOp c id fun o => { o with
      bursts := o.bursts + 1, wq := if last then .none else o.wq
      phase := if last then .recovering else o.phase, mark := if last then s.now else o.mark }
    if last then written c o (autoPrecharge c o true s) else s

/-- PRE (R291). -/
def issuePre (c r b : Nat) (s : State) : State :=
  ((s.onBank c r b fun x => { x with st := .closing, pre := some s.now }).takeSlot c 1).note .pre c

/-- The counters of a refresh (R340, R511), and the MR4 read that may follow it (R321). -/
def countRefresh (c r : Nat) (limit placed : Bool) (s : State) : State :=
  let s := if placed then s.bump (CH_REFCNT_PLACED c) else if limit then s.bump (CH_REFCNT_LIMIT c) else s
  let s := if placed then s else s.note .refLimit c
  let s := if s.oscOn c r then
      bookStep c 4 r ((s.onCal c fun x => { x with oscRun := upd x.oscRun r fun _ => none, step := none }).bump
        (QD_CALEVT_OSCDISC (quadOf c)))
    else s
  let s := s.onRank c r fun k => { k with mr4Go := k.mr4Due, mr4Top := !placed }
  (s.takeSlot c 1).note .ref c

/-- REFpb (R315, R316, R323). -/
def issueRefpb (c r a : Nat) (placed : Bool) (s : State) : State :=
  let bs := s.refBanks c a
  let s := countRefresh c r ((s.rank c r).debt ≥ 64) placed s
  let s := bs.foldl (fun s b => s.onBank c r b fun x => { x with st := .refreshing, ref := some s.now }) s
  let s := s.onRank c r fun k =>
    let round := k.round ||| 2 ^ a
    { k with debt := k.debt - 1, round := if round = 255 then 0 else round }
  lowerRaa c r 1 bs s

/-- REFab (R315, R316, R320, R323). -/
def issueRefab (c r : Nat) (placed : Bool) (s : State) : State :=
  let s := countRefresh c r ((s.rank c r).debt ≥ 64) placed s
  let s := s.onRank c r fun k =>
    { k.mapBanks fun x => { x with st := .refreshing, ref := some s.now } with
      debt := k.debt - 8, round := 0, refab := some s.now }
  lowerRaa c r 1 (List.range 16) s

/-- The decrement multiplier of an RFMpb (R323); the reserved codes act as the manual does not say (assumption 12). -/
def State.rfmDec (s : State) (c : Nat) : Nat :=
  match s.cf (CH_RFMCFG_RFMDEC c) with | 0 => 1 | 1 => 2 | k => Config.reservedRfmDec k

/-- RFMpb (R323, R324). -/
def issueRfm (c r b : Nat) (s : State) : State :=
  let s := (s.bump (CH_RFMSTAT_RFMS c)).onBank c r b fun x => { x with st := .refreshing, rfm := some s.now }
  (lowerRaa c r (s.rfmDec c) [b] s).takeSlot c 1

/-- The oscillator of a rank starts in its booking (R419). -/
def startOsc (c : Nat) (s : State) : State :=
  match s.chosen c with
  | some (.oscStart r) => (s.onCal c fun x => { x with oscRun := upd x.oscRun r fun _ => some s.now }).takeSlot c 1
  | _ => s

/-- A write has rested tWR and its hazard entry is released (R286); the writes merged with it go with it. -/
def recovered (c : Nat) (o : Op) (s : State) : State :=
  match o.kind with
  | .write => s.dropWrites c o.id
  | .mirror => mirrorDone c o.lead (s.dropOp c o.id)
  | .writeback => if o.done then clearedLine c o.q (s.dropOp c o.id) else s.dropOp c o.id
  | _ => finishOp c o s

-- meanings

/-- ACT, when the choice of R295 is an ACT. -/
def execAct (ch : Fin 16) (s : State) : Host.Outcome State Fault Refusal :=
  match s.chosen ch with
  | some (.act p id) => .next (issueAct ch p id s)
  | _ => .next s

/-- RD, when the choice of R295 is a RD. -/
def execRd (ch : Fin 16) (s : State) : Host.Outcome State Fault Refusal :=
  match s.chosen ch with
  | some (.rd id) => .next (issueRd ch id s)
  | _ => .next s

/-- WR, when the choice of R295 is a WR. -/
def execWr (ch : Fin 16) (s : State) : Host.Outcome State Fault Refusal :=
  match s.chosen ch with
  | some (.wr id) => .next (issueWr ch id s)
  | _ => .next s

/-- PRE, when the choice of R295 is a PRE for an operation or a refresh. -/
def execPre (ch : Fin 16) (s : State) : Host.Outcome State Fault Refusal :=
  match s.chosen ch with
  | some (.pre r b) => .next (issuePre ch r b s)
  | _ => .next s

/-- REFpb, when the choice of R295 is a REFpb. -/
def execRefpb (ch : Fin 16) (s : State) : Host.Outcome State Fault Refusal :=
  match s.chosen ch with
  | some (.refpb r a placed) => .next (issueRefpb ch r a placed s)
  | _ => .next s

/-- REFab, when the choice of R295 is a REFab. -/
def execRefab (ch : Fin 16) (s : State) : Host.Outcome State Fault Refusal :=
  match s.chosen ch with
  | some (.refab r placed) => .next (issueRefab ch r placed s)
  | _ => .next s

/-- RFMpb, when the choice of R295 is an RFMpb. -/
def execRfmpb (ch : Fin 16) (s : State) : Host.Outcome State Fault Refusal :=
  match s.chosen ch with
  | some (.rfm r b _) => .next (issueRfm ch r b s)
  | _ => .next s

/-- RCD has run out: the bank is OPEN (R291). -/
def execRcdExpiry (ch : Fin 16) (r : Fin 2) (b : Fin 16) (s : State) : Host.Outcome State Fault Refusal :=
  let x := (s.rank ch r).bank b
  .next (if s.clocked ∧ x.st = .opening ∧ s.due x.act (1 + s.tm ch CH_TACT_RCD + s.derate ch) then
    s.onBank ch r b fun x => { x with st := .opened } else s)

/-- RPPB, or RPAB after a PREab, has run out: the bank is CLOSED (R291). -/
def execPrechargeDone (ch : Fin 16) (r : Fin 2) (b : Fin 16) (s : State) : Host.Outcome State Fault Refusal :=
  let k := s.rank ch r
  let x := k.bank b
  let n := if x.pre.isSome && k.preab == x.pre then s.tm ch CH_TBNK_RPAB else s.tm ch CH_TACT_RPPB + s.derate ch
  .next (if s.clocked ∧ x.st = .closing ∧ s.due x.pre n then s.onBank ch r b fun x => { x with st := .closed } else s)

/-- RFCPB, RFMPB or RFCAB has run out: the bank is CLOSED (R291). -/
def execRefreshDone (ch : Fin 16) (r : Fin 2) (b : Fin 16) (s : State) : Host.Outcome State Fault Refusal :=
  let k := s.rank ch r
  let x := k.bank b
  let done := s.due x.ref (if x.ref.isSome && k.refab == x.ref then s.tm ch CH_TRFC_RFCAB else s.tm ch CH_TREF_RFCPB) &&
    s.due x.rfm (s.tm ch CH_TRFM_RFMPB)
  .next (if s.clocked ∧ x.st = .refreshing ∧ done then s.onBank ch r b fun x => { x with st := .closed } else s)

/-- The data bus changes direction (R298, R299). -/
def execDataBusModeChange (ch : Fin 16) (s : State) : Host.Outcome State Fault Refusal :=
  let x := s.chan ch
  let busy := x.ops.any fun o => o.started && o.writes == x.wrMode
  if s.busRuns ch ∧ s.slot ch ∧ s.turning ch ∧ !busy then
    .next ((s.onChan ch fun x => { x with wrMode := !x.wrMode, modeDue := false, modeCount := 0 }).note .turn ch)
  else .next s

/-- tWR has passed since the last data of a write (R286). -/
def execWriteRecoveryExpiry (ch : Fin 16) (id : Nat) (s : State) : Host.Outcome State Fault Refusal :=
  match (s.chan ch).op id with
  | some o =>
    if s.opWorks ch o ∧ o.phase = .recovering ∧ o.partner.isNone ∧
        o.mark + (s.writeEnd ch + s.tm ch CH_TFAW_WR) * s.ck ≤ s.now then .next (recovered ch o s)
    else .next s
  | none => .next s

/-- A bank that no queued operation has needed for IDLE ck is precharged when nothing else is ready (R295, R297). -/
def execIdleClose (ch : Fin 16) (r : Fin 2) (b : Fin 16) (s : State) : Host.Outcome State Fault Refusal :=
  let x := (s.rank ch r).bank b
  let n := s.cf (CH_SCHED_IDLE ch)
  if s.engineRuns ch ∧ (s.choose ch).isNone ∧ n ≠ 0 ∧ !s.oscOn ch r ∧ s.preReady ch r b ∧ !s.queuedRow ch r b x.row ∧
      x.idleAt + n * s.ck ≤ s.now then .next (issuePre ch r b s)
  else .next s

/-- The age limit of an incomplete gill has passed (R354). -/
def execGillAgeExpiry (ch : Fin 16) (g : Fin 16) (s : State) : Host.Outcome State Fault Refusal :=
  match (s.chan ch).gill g with
  | some v =>
    if s.quadWorks (quadOf ch) ∧ !v.whole ∧ v.evict.isNone ∧ v.opened + s.cf (CH_GILLCFG_AGE ch) ≤ s.now then
      .next (s.onChan ch (·.onGill g (·.evictFor .age)))
    else .next s
  | none => .next s

/-- A whole gill leaves for the write queue (R354) and is free from there on, as R286 has it; R108 names the end of tWR for the
gill as well, and the model follows R286 (assumption 28). -/
def toWriteQueue (c g : Nat) (v : Gill) (lead : Op) (s : State) : State :=
  let s := if v.merged then s else s.bump (CH_GILLEVT_WHOLE c)
  let move (o : Op) : Op :=
    if o.id = lead.id then
      { o with phase := .writing, gill := none, wq := .shared, tier := v.tier, plain := v.data, mark := s.now }
    else if o.inGroup lead.id then { o with phase := .follow, gill := none } else o
  (s.onChan c fun x => { x with ops := x.ops.map move }).freeGillAt c g

def execGillToWriteQueue (ch : Fin 16) (g : Fin 16) (s : State) : Host.Outcome State Fault Refusal :=
  let x := s.chan ch
  match x.gill g, x.leadOf g with
  | some v, some lead =>
    if s.quadWorks (quadOf ch) ∧ v.whole ∧ v.reserved = 0 ∧ x.wqFree then .next (toWriteQueue ch g v lead s) else .next s
  | _, _ => .next s

end Sys2Proof.Machine
end

