-- ==== Sys2Proof/Machine/Power.lean ====
section
/-!
DEFINITION. Refresh debt (R314, R317), temperature (R321, R322) and the power states of a rank (R325, R326).
-/

namespace Sys2Proof.Machine

-- temperature and debt

/-- M in quarters: the class in force, capped by MAXMULT (R321). -/
def State.mult4Of (s : State) (c cls : Nat) : Nat :=
  let cap := match s.cf (CH_REFCFG_MAXMULT c) with
    | 0 => 4 | 1 => 8 | 2 => 16 | _ => Config.reservedMaxMult
  match cls with
  | 0 | 1 => min 16 cap
  | 2 => min 8 cap
  | 3 => 4
  | 4 => 2
  | _ => 1

def State.mult4 (s : State) (c r : Nat) : Nat := s.mult4Of c (s.rank c r).cls

/-- I / 8 in 1/32 cc, I = REFI × M (R314). -/
def State.riseTime (s : State) (c r : Nat) : Nat := s.tm c CH_TREF_REFI * s.mult4 c r * s.ck

/-- The rank owes refreshes: the scheduler keeps its debt and it is out of self-refresh and deep sleep (R115, R314). -/
def State.counts (s : State) (c r : Nat) : Bool := (s.rank c r).keeps && (s.rank c r).awake

/-- E rises by 1; a rise at 64 is lost (R317). -/
def riseDebt (c r : Nat) (s : State) : State :=
  let full := (s.rank c r).debt ≥ 64
  let s := s.onRank c r fun k => { k with debtMark := k.debtMark + s.riseTime c r, debt := min 64 (k.debt + 1) }
  if full then raise .reflost c r (s.bump (CH_REFCNT_OVER c)) else s

/-- A temperature class comes into force (R321, R322). -/
def applyClass (c r cls : Nat) (s : State) : State :=
  let former := (s.rank c r).cls
  let s := s.onRank c r fun k => { k with cls := cls, clsCand := none, clsHeld := none }
  if former = cls then s
  else if cls = 0 then raise .templo c r s
  else if cls = 7 then raise .temphi c r s
  else s

/-- A class that steps 2 to 6 of a change have held back comes into force; a first reading of another class stands (R322,
R337). -/
def applyHeld (c r : Nat) (s : State) : State :=
  let k := s.rank c r
  match k.clsHeld with
  | none => s
  | some cls => (applyClass c r cls s).onRank c r fun x => { x with clsCand := k.clsCand }

/-- A reading of MR4 (R322): a class with a larger M than the one in force, or the one held back, waits for a second
reading; one of the same M takes effect at once (assumption 26). -/
def readClass (c r cls : Nat) (s : State) : State :=
  let k := s.rank c r
  if s.mult4Of c cls > s.mult4Of c (k.clsHeld.getD k.cls) ∧ k.clsCand ≠ some cls then s.onRank c r fun k => { k with clsCand := some cls }
  else if 2 ≤ s.op.step ∧ s.op.step ≤ 6 then s.onRank c r fun k => { k with clsHeld := some cls, clsCand := none }
  else applyClass c r cls s

-- power states

/-- No operation of the channel is on a rank (R325). -/
def State.rankIdle (s : State) (c r : Nat) : Bool :=
  !((s.chan c).ops.any fun o => (s.opPlace c o).rank == r)

/-- The sequences of power states may issue a command to a channel: in order, in steps 3 and 5 of R101, or in a return
of RSI_CK. -/
def State.powerRuns (s : State) (c : Nat) : Bool :=
  s.quadLives (quadOf c) && (s.quadClk (quadOf c)).fbStep ≠ 2 && s.slot c

/-- Every bank of a rank is CLOSED. -/
def Rank.allClosed (k : Rank) : Bool := k.list.all fun e => e.1.st == .closed

/-- The last data of a rank has passed and WCK may stop (R301). -/
def State.dataRested (s : State) (c r : Nat) : Bool :=
  let stop := s.tm c CH_TWCK_WCKSTOP
  (s.rank c r).list.all fun e =>
    s.due e.1.rd (s.tm c CH_TLAT_RL + 4 + stop) && s.due e.1.wr (s.writeEnd c + stop)

/-- PREab may issue: no started line on the rank, and each bank closed, closing or ready for its precharge. -/
def State.preabReady (s : State) (c r : Nat) : Bool :=
  let k := s.rank c r
  k.preDue && s.rankQuiet c r && (List.range 16).all fun b => !s.startedAt c r b &&
    (match (k.bank b).st with
      | .closed | .closing => true
      | .opened => s.preBank c (k.bank b)
      | _ => false)

/-- PREab (R291, R303). -/
def issuePreab (c r : Nat) (s : State) : State :=
  let s := s.onRank c r fun k =>
    { k.mapBanks fun b => if b.st = .opened then { b with st := .closing, pre := some s.now } else b with
      preab := some s.now, preDue := false }
  (s.takeSlot c 1).note .pre c

/-- The rank has closed its banks and paid, and may be put to sleep (R325, R326). -/
def State.maySleep (s : State) (c r : Nat) : Bool :=
  let k := s.rank c r
  s.powerRuns c && k.power == .active && !k.preDue && !k.forced && k.allClosed && s.rankQuiet c r && s.dataRested c r

/-- Enter self-refresh or deep sleep: after a payment E is 0, otherwise it is kept (R314, R326). A ZQ latch still to come
is cancelled (R423). -/
def sleepRank (c r : Nat) (st : PowerSt) (s : State) : State :=
  let s := s.onRank c r fun k => { k with
    power := st, lowAt := some s.now, wckOn := false, debt := if k.want.pays then 0 else k.debt
    mr4Wait := false }
  (cancelLatch c r s).takeSlot c 1

/-- The rank has stayed in self-refresh long enough for a check (R410). -/
def State.longStay (s : State) (c r : Nat) : Bool :=
  let n := s.cf (QD_CALCFG2_SRCHK (quadOf c))
  n == 0 || (match (s.rank c r).lowAt with | some t => t + s.usCc (16 * n) ≤ s.now | none => true)

/-- SRX may issue: the rank is wanted, its residence has lasted SR, and no sequence holds it (R101, R325, R334). -/
def State.srxReady (s : State) (c r : Nat) : Bool :=
  let k := s.rank c r
  s.powerRuns c && (s.quadClk (quadOf c)).fbStep ≠ 3 && k.power == .selfRefresh &&
    (match k.want with | .selfRefresh _ => false | _ => true) && s.due k.lowAt (s.tm c CH_TPWR_SR) &&
    s.op.step ≠ 3 && s.op.step ≠ 4

/-- Self-refresh exit (R314, R321, R325, R334): the scheduler keeps the rank's debt from here on, whatever its channel's
state; a rank on its way to deep sleep closes its banks and pays next. -/
def exitRank (c r : Nat) (s : State) : State :=
  let wait := max (s.tm c CH_TXSR_XSR) (if s.op.step = 5 then s.tm c CH_TXSR_FC else 0)
  let long := s.longStay c r
  let s := s.onRank c r fun k =>
    let deep := k.want ≠ .serve
    { k with
      power := .active, keeps := true, upAt := some (s.now + wait * s.ck), wckOn := false, mr4Due := true, mr4Go := false
      debtMark := 32 * s.now, idleAt := s.now, check := k.check || (long && !deep)
      preDue := k.preDue || deep, forced := k.forced || (deep && k.want.pays) }
  s.takeSlot c 1

/-- A placed refresh or RFMpb of a rank, or one at order 1, is ready (R325). -/
def State.refreshReady (s : State) (c r : Nat) : Bool :=
  (s.limitRef c r).isSome || (s.limitRfm c r).isSome || (s.placedRef c r).isSome

/-- What takes a rank out of power-down (R325); a sequence that needs the rank awake does as well, and an FSP write that is
owed (R333). -/
def State.leavesPd (s : State) (c r : Nat) : Bool :=
  let k := s.rank c r
  !s.rankIdle c r || s.fspOwed c r || k.debt ≥ 48 || s.granted .refresh c || k.mr4Due || s.op.step == 2 || k.want ≠ .serve || k.preDue

-- meanings

/-- E of a rank rises by 1 every I / 8 (R314, R317). -/
def execDebtRise (ch : Fin 16) (r : Fin 2) (s : State) : Host.Outcome State Fault Refusal :=
  .next (if s.clocked ∧ s.counts ch r ∧ (s.rank ch r).debtMark + s.riseTime ch r ≤ 32 * s.now then riseDebt ch r s else s)

/-- POLL µs have passed since the last MR4 read (R321). -/
def execMr4PollDue (ch : Fin 16) (r : Fin 2) (s : State) : Host.Outcome State Fault Refusal :=
  let k := s.rank ch r
  .next (if s.clocked ∧ k.keeps ∧ !k.mr4Due ∧ k.mr4At + s.usCc (s.cf (CH_REFCFG_POLL ch)) ≤ s.now then
    s.onRank ch r fun k => { k with mr4Due := true } else s)

/-- MRR of MR4, when the choice of R295 is it: in the place of a refresh once one has issued (R321). -/
def execMrr (ch : Fin 16) (r : Fin 2) (s : State) : Host.Outcome State Fault Refusal :=
  if s.chosen ch = some (.mrr r) then
    let s := s.onRank ch r fun k => { k with
      mr4Due := false, mr4Go := false, mr4Wait := true, mr4At := s.now, mrr := some s.now }
    .next (s.takeSlot ch 1)
  else .next s

/-- The data of an MR4 read returns with a class (R321, R322). -/
def execMr4Result (ch : Fin 16) (r : Fin 2) (cls : Fin 8) (s : State) : Host.Outcome State Fault Refusal :=
  let k := s.rank ch r
  if s.clocked ∧ k.mr4Wait ∧ s.due k.mrr (s.tm ch CH_TLAT_RL) then
    let s := (s.bump (CH_TEMP_READS ch)).onRank ch r fun k => { k with mr4Wait := false }
    .next (readClass ch r cls s)
  else .next s

/-- PREab, where a sequence asks for it (R325, R326, R334, R117, R101). -/
def execPreab (ch : Fin 16) (r : Fin 2) (s : State) : Host.Outcome State Fault Refusal :=
  .next (if s.powerRuns ch ∧ s.preabReady ch r then issuePreab ch r s else s)

/-- Power-down entry of an idle rank (R325); a ZQ latch still to come is cancelled (R423). -/
def execPde (ch : Fin 16) (r : Fin 2) (s : State) : Host.Outcome State Fault Refusal :=
  let k := s.rank ch r
  let n := s.cf (CH_PWRCFG_PDIDLE ch)
  if s.engineRuns ch ∧ n ≠ 0 ∧ k.power = .active ∧ k.want = .serve ∧ !k.preDue ∧ !k.check ∧ !s.fspOwed ch r ∧
      s.rankIdle ch r ∧
      k.idleAt + n * s.ck ≤ s.now ∧ k.debt < 48 ∧ !s.refreshReady ch r ∧ s.rankQuiet ch r ∧ s.dataRested ch r ∧
      (s.chan ch).cmdAt + s.tm ch CH_TPWR_CSCKE * s.ck ≤ s.now + s.ck then
    .next ((cancelLatch ch r (s.onRank ch r fun k => { k with
      power := .powerDown, lowAt := some s.now, wckOn := false })).takeSlot ch 1)
  else .next s

/-- Power-down exit (R325); the first MR4 read is due at once (R321). -/
def execPdx (ch : Fin 16) (r : Fin 2) (s : State) : Host.Outcome State Fault Refusal :=
  let k := s.rank ch r
  if s.powerRuns ch ∧ k.power = .powerDown ∧ s.leavesPd ch r ∧ s.due k.lowAt (s.tm ch CH_TPWR_CKCSH) then
    let s := s.onRank ch r fun k => { k with
      power := .active, upAt := some (s.now + s.tm ch CH_TPWR_XP * s.ck), mr4Due := true, mr4Go := false
      idleAt := s.now }
    .next (s.takeSlot ch 1)
  else .next s

/-- A rank of a channel in service or SPARE has had no operation for SRIDLE µs: it is asked into self-refresh (R325). -/
def execSelfRefreshIdleExpiry (ch : Fin 16) (r : Fin 2) (s : State) : Host.Outcome State Fault Refusal :=
  let k := s.rank ch r
  let n := s.cf (CH_PWRCFG_SRIDLE ch)
  if s.quadRuns (quadOf ch) ∧ n ≠ 0 ∧ s.live ch ∧ k.awake ∧ k.want = .serve ∧ !k.check ∧
      s.op.step < 2 ∧ !s.fspOwed ch r ∧ s.rankIdle ch r ∧ k.idleAt + s.usCc n ≤ s.now then
    .next (s.onRank ch r fun k => { k.ask (.selfRefresh true) with nap := true })
  else .next s

/-- SRX (R325). -/
def execSrx (ch : Fin 16) (r : Fin 2) (s : State) : Host.Outcome State Fault Refusal :=
  .next (if s.srxReady ch r then exitRank ch r s else s)

/-- Deep sleep entry (R325, R326, R311). -/
def execDeepSleepEntry (ch : Fin 16) (r : Fin 2) (s : State) : Host.Outcome State Fault Refusal :=
  let deep := match (s.rank ch r).want with | .deepSleep _ => true | _ => false
  .next (if deep && s.maySleep ch r then sleepRank ch r .deepSleep s else s)

/-- Deep sleep exit begins (R325). -/
def execDeepSleepExit (ch : Fin 16) (r : Fin 2) (s : State) : Host.Outcome State Fault Refusal :=
  let k := s.rank ch r
  if s.powerRuns ch ∧ k.power = .deepSleep ∧ k.want = .serve ∧ k.exitAt.isNone then
    .next ((s.onRank ch r fun k => { k with exitAt := some s.now }).takeSlot ch 1)
  else .next s

/-- The deep sleep exit time has passed: the rank goes on as at a self-refresh exit, with a check, and a ZQ start falls
due (R325, R410, R428). -/
def execDsmxExpiry (ch : Fin 16) (r : Fin 2) (s : State) : Host.Outcome State Fault Refusal :=
  match (s.rank ch r).exitAt with
  | some t =>
    if s.clocked ∧ t + s.usCc (s.cf (CH_PWRCFG_DSMX ch)) ≤ s.now then
      let s := s.onRank ch r fun k => { k with power := .selfRefresh, exitAt := none, check := true }
      .next (zqDue ch r s)
    else .next s
  | none => .next s

/-- CAS with WS_FS starts WCK before the first column command (R301): when the choice of R295 is it, or for a check or a
training. -/
def execCasWsFs (ch : Fin 16) (r : Fin 2) (s : State) : Host.Outcome State Fault Refusal :=
  let k := s.rank ch r
  let called := k.check || (s.chan ch).job ≠ .none
  if s.chosen ch = some (.cas r) ∨ (s.powerRuns ch ∧ !k.wckOn ∧ called ∧ s.rankQuiet ch r ∧ (s.order1 ch).isNone) then
    .next ((s.onRank ch r fun k => { k with wckOn := true, wckAt := some s.now }).takeSlot ch 1)
  else .next s

end Sys2Proof.Machine
end

