-- ==== Sys2Proof/Machine/OpPoint.lean ====
section
/-!
DEFINITION. Operating points: demand and policy (R329, R330), pending changes (R332, R333), the supply handshake (R70),
the steps of a change (R334–R337), and deep sleep (R327).
-/

namespace Sys2Proof.Machine

-- the supply handshake (R70)

/-- Step 1 of a handshake to a level set. -/
def startHandshake (k : Nat) (s : State) : State :=
  { s with op := { s.op with supply := { s.op.supply with vreq := BitVec.ofNat 3 k, step := 1, mark := s.rsck } } }

-- pending changes

/-- A change may become pending (R104, R332, R336); a handshake owed after a loss of RSI_CK runs before it (R337). -/
def State.changeAllowed (s : State) : Bool :=
  !([0, 1, 2, 3].any s.noStandby) && s.op.supply.step == 0 && !s.op.supply.late && !s.op.resync && s.clk.startStep == 0 &&
    s.clk.retStep == 0 && s.clk.blkStep == 0

/-- The PHY PLLs of a quad whose state passes a test. -/
def State.phyOf (s : State) (q : Nat) (f : Pll → Bool) : List PllId :=
  ([false, true].filter fun b => f (s.phy q b)).map (phyId q)

/-- Start a pre-lock at a point on the PLLs that pass a test, in every quad with a channel to change (R29, R332). -/
def prelock (k : Nat) (f : Pll → Bool) (s : State) : State :=
  [0, 1, 2, 3].foldl (fun s q =>
    if s.quadLiveChans q then (s.phyOf q f).foldl (fun s p => startPll p .prelock k s) s else s) s

/-- The FSP writes of a change are to be made anew. -/
def clearFsp (s : State) : State :=
  allChans.foldl (fun s c => s.onRanks c fun k => { k with fspDone := false, fspSel := false }) s

/-- A target becomes the pending change, and its preparation begins (R332). -/
def beginPending (k : Nat) (s : State) : State :=
  let s := { s with op := { s.op with pend := true, target := k, want := none, book := none } }
  prelock k (fun p => p.st == .standby && p.phase == .idle) (clearFsp (s.setSt TB_OPSTAT_PRELOCKED 0))

/-- A new target before the booking is granted (R337): the PRELOCK PLLs restart, FSP writes are redone. -/
def retarget (k : Nat) (s : State) : State :=
  let s := dropBookings .opChange { s with op := { s.op with target := k, want := none, book := none } }
  prelock k (fun p => p.st == .prelock) (clearFsp (s.setSt TB_OPSTAT_PRELOCKED 0))

/-- A target is requested (R330–R332, R336, R337). -/
def requestOp (k : Nat) (s : State) : State :=
  if s.op.step ≠ 0 ∨ s.op.granted then { s with op := { s.op with want := some k } }
  else if s.op.pend then
    if k = s.op.cur then unprelock (endPending s)
    else if k = s.op.target then s
    else retarget k s
  else if k = s.op.cur then { s with op := { s.op with want := none } }
  else if s.changeAllowed then beginPending k s
  else { s with op := { s.op with want := some k } }

/-- The pin is in force and names a valid point (R331). -/
def State.pinned? (s : State) : Option Nat :=
  let k := s.cf TB_OPPIN_OP
  if s.on TB_OPPIN_EN && s.on (TB_OP_VALID k) then some k else none

/-- TB_OPSTAT.PIN_BAD. -/
def State.pinBad (s : State) : Bool := s.on TB_OPPIN_EN && !s.on (TB_OP_VALID (s.cf TB_OPPIN_OP))

/-- A request held back becomes pending once it may (R104, R336). -/
def takeWant (s : State) : State :=
  if s.op.pend || s.op.step ≠ 0 then s
  else match s.pinned?.or s.op.want with
    | some k => if s.changeAllowed then requestOp k s else s
    | none => s

/-- The FSP of a change is written on both ranks of a channel (R332, R333). -/
def State.fspWritten (s : State) (c : Nat) : Bool := (s.chan c).ranks.all (·.fspDone)

/-- A quad is pre-locked for a pending change (R333); a quad of spares alone, where it has a PLL on its way. -/
def State.prelocked (s : State) (q : Nat) : Bool :=
  natBit (s.st TB_OPSTAT_PRELOCKED) q ||
    (!s.quadServes q && !([false, true].any fun b => (s.phy q b).st == .prelock && (s.phy q b).running))

/-- The booking of a change, once it is prepared (R333) in every quad that takes part (R105); none in deep sleep or in a
quiesce, which wait for a change that was pending before them (R337). -/
def tryPostOp (s : State) : State :=
  let awake := (s.op.dsm == 0 || s.op.dsmStep == 1) && s.tap.quiesce ≤ 1
  let ready := s.op.pend && s.op.step == 0 && s.op.book.isNone && awake && [0, 1, 2, 3].all s.prelocked &&
    allChans.all fun c => !(s.chan c).inService || !s.quadChanges (quadOf c) || s.fspWritten c
  if ready then
    let (id, s) := post .v .inst .opChange 0 (s.usCc (s.cf TB_OPTIME_VSTEP + 25)) s
    { s with op := { s.op with book := some id } }
  else s

-- demand and policy (R329, R330)

/-- RATE: 256 B a line over the frame's length, in 1/16 GB/s, rounded down. -/
def State.demand (s : State) : Nat :=
  let num := if s.clk.cclkPll then s.nNum else 1
  let den := if s.clk.cclkPll then s.nDen else 1
  min 65535 (s.op.lines * 256 * s.cf TB_RSIFREQ_KHZ * 1000 * num / (max 1 (s.now - s.op.frameAt) * den * 62500000))

/-- The points the policy may choose, lowest first: the larger ratio is the lower point (R328). -/
def State.allowedPoints (s : State) : List Nat :=
  sortBy (fun k => 8 - s.ratio k) ([0, 1, 2, 3].filter fun k => natBit (s.cf TB_OPCFG_ALLOW) k)

/-- The policy's choice for a frame. -/
def State.policyChoice (s : State) : Option Nat :=
  let ps := s.allowedPoints
  (ps.find? fun k => s.cf (TB_OP_RATING k) * 4 ≥ s.st TB_OPDEM_RATE * 5).or ps.getLast?

/-- The highest of some points: that with the least ratio. -/
def State.highest (s : State) (ps : List Nat) : Option Nat :=
  ps.foldl (fun best k => match best with
    | none => some k
    | some b => if s.ratio k < s.ratio b then some k else some b) none

/-- The policy at a frame start (R330). -/
def policy (s : State) : State :=
  if !s.on TB_OPCFG_POLICY || s.on TB_OPPIN_EN then s
  else match s.policyChoice with
    | none => s
    | some k =>
      if s.ratio k > s.ck then
        let cs := (k :: s.op.choices).take 8
        let s := { s with op := { s.op with choices := cs } }
        if cs.length = 8 then match s.highest cs with | some b => requestOp b s | none => s else s
      else requestOp k { s with op := { s.op with choices := [] } }

/-- The demand of the frame just ended, and the policy's choice from it (R329, R330). -/
def opFrame (s : State) : State :=
  let s := s.setSt TB_OPDEM_RATE s.demand
  policy { s with op := { s.op with lines := 0, frameAt := s.now } }

-- the steps of a change (R334)

def opStep (n : Nat) (s : State) : State := { s with op := { s.op with step := n, stepAt := s.rsck } }

/-- Step 2: line starts stop, every rank leaves its power state, closes its banks and pays. -/
def opStep2 (s : State) : State :=
  s.opChans.foldl (fun s c => s.onRanks c fun k => { k with
    want := .serve, nap := false, preDue := true, forced := k.keeps, check := false }) (opStep 2 s)

/-- A change is granted and its booking begins: step 1 where it goes up to a level set not yet acknowledged. -/
def opGranted (s : State) : State :=
  let s := { s with op := { s.op with granted := true } }
  let k := s.op.target
  if s.ratio k < s.ck ∧ s.op.supply.vset ≠ k then startHandshake k (opStep 1 s) else opStep2 s

/-- A rank is awake, past its exit time, and owes no check. -/
def State.rankUp (s : State) (k : Rank) : Bool :=
  k.power == .active && !k.check && (match k.upAt with | none => true | some t => t ≤ s.now)

/-- Both ranks of a channel are up and no training or retrain runs. -/
def State.chanUp (s : State) (c : Nat) : Bool :=
  (s.chan c).job == .none && (s.chan c).ranks.all fun k => s.rankUp k && k.want == .serve

/-- Both ranks of a channel have left their power states, and the times of their exits have passed. -/
def State.exited (s : State) (c : Nat) : Bool :=
  (s.chan c).ranks.all fun k => s.rankUp { k with check := false } && k.want == .serve

/-- Both ranks of a channel are in self-refresh or deep sleep. -/
def State.chanDown (s : State) (c : Nat) : Bool := (s.chan c).ranks.all fun k => !k.awake

/-- A calibration step is running, be it past the end of its booking (R337). -/
def State.calRunning (s : State) : Bool := allChans.any fun c => (s.cal c).step.isSome

def State.opStep2Done (s : State) : Bool :=
  !s.calRunning && s.opChans.all fun c => s.chanUp c && !((s.chan c).ops.any Op.started) &&
    (s.chan c).ranks.all fun k => !k.preDue && !k.forced && k.allClosed

/-- Step 3: PREab, FSP-OP and SRE. -/
def opStep3 (s : State) : State :=
  s.opChans.foldl (fun s c => s.onRanks c fun k => { k.ask (.selfRefresh true) with fspSel := false }) (opStep 3 s)

/-- Step 4: each quad switches to its PRELOCK PLL; the PLL it leaves waits for its restart in step 6 and shows STARTING
until then (assumption 25). -/
def opStep4 (s : State) : State :=
  [0, 1, 2, 3].foldl (fun s q =>
    [false, true].foldl (fun s b =>
      let p := s.phy q b
      if p.st = .prelock ∧ p.phase = .idle ∧ s.quadChanges q then
        let s := s.onPll (phyId q (!b)) fun x => { x with st := if x.st = PllSt.active then PllSt.starting else x.st }
        quadSwitch q (srcOf b) .opChange (s.onPll (phyId q b) fun x => { x with st := .active, window := s.rsck })
      else s) s) (opStep 4 s)

/-- The start values of the rank-level delays of a point (R403); the VREF codes are those of the image (R79, R405 steps 1
and 2). -/
def State.startSet (s : State) (c k : Nat) : DelaySet :=
  let v (i : Nat) : Nat := Config.phyStart c k i % 512
  ⟨Vector.ofFn fun i => v i.val, Vector.ofFn fun i => v (4 + i.val), v 8, v 9,
    Vector.replicate 2 (s.cf (QD_PHY_RVREF (quadOf c) k)), Vector.replicate 2 (s.cf (QD_DMR_VREFDQ (quadOf c) k)), false⟩

/-- The rank-level delays of a point: its last values, or before it has been in force the start values, which the image
brings (R403). -/
def State.setOf (s : State) (c k : Nat) : DelaySet :=
  let d := (s.cal c).sets.getD k .reset
  if d.trained || !s.good then d else s.startSet c k

/-- A delay set that has never been in force takes its start values (R403). -/
def initSet (c k : Nat) (s : State) : State :=
  if ((s.cal c).sets.getD k .reset).trained then s
  else
    let d := { s.startSet c k with trained := true }
    let s := s.onCal c fun x => { x with sets := upd x.sets k fun _ => d }
    (List.range 36).foldl (fun s i =>
      (s.setSt (CH_BD_RD c k (i / 18) (i % 18)) (s.cf (CH_DLYST_RD c k))).setSt
        (CH_BD_WR c k (i / 18) (i % 18)) (s.cf (CH_DLYST_WR c k))) s

/-- Tracking restarts empty on the delay set in force, with the targets at its actual values (R427, R428). -/
def restartTracking (c : Nat) (s : State) : State :=
  let k := s.op.cur
  let fresh (i : Nat) (b : BitCal) : BitCal := { b with
    tgtRd := s.st (CH_BD_RD c k (i / 18) (i % 18)), tgtWr := s.st (CH_BD_WR c k (i / 18) (i % 18))
    windows := 0, nextP := false, sweeping := false, left := none, right := none }
  let cal := s.cal c
  s.onCal c fun x => { x with
    bits := Vector.ofFn fun i => fresh i.val (cal.bits.getD i.val .reset)
    sweepOn := false, closedAt := Vector.replicate 2 s.now }

/-- Step 5 at a channel: the delay set of the point is live, its margins are unknown, a ZQ latch to come is cancelled and
posted steps are computed anew (R403, R423, R428). -/
def opDelays (c : Nat) (s : State) : State :=
  let s := cancelLatch c 0 (cancelLatch c 1 (restartTracking c (initSet c s.op.cur s)))
  let s := s.setSt (CH_MARGIN_VALID c) 0
  s.unpost fun b => match b.work with | .calStep _ => b.scope == .chan c | _ => false

/-- No timing count of a bank runs across a change (R304). -/
def Bank.uncount (x : Bank) : Bank :=
  { x with act := none, pre := none, rd := none, wr := none, ref := none, rfm := none }

/-- No timing count of a rank runs across a change: every rule counts from the first command after it (R9, R304). -/
def Rank.uncount (k : Rank) : Rank :=
  { k.mapBanks Bank.uncount with
    faw := [], preab := none, refab := none, mrw := none, mrr := none, zqLatch := none, lowAt := none, wckAt := none }

/-- The data of a read in flight and the tWR of a write have passed with the SRE before the change (R301, R334). -/
def Op.uncount (o : Op) : Op := if o.phase = .flight ∨ o.phase = .recovering then { o with mark := 0 } else o

/-- No count in ck of a channel runs across a change, whatever its state (R9). -/
def uncount (c : Nat) (s : State) : State :=
  s.onChan c fun x => { x with ranks := x.ranks.map Rank.uncount, ops := x.ops.map Op.uncount }

/-- A channel takes the point in force: its delay set, and the FSP that holds the point (R332, R334). -/
def takePoint (c : Nat) (s : State) : State :=
  (opDelays c s).onChan c fun x => { x with
    fspUse := !x.fspUse, fspOp := upd x.fspOp (b2n !x.fspUse) fun _ => some s.op.cur }

/-- A channel works at the point in force; until its first change it holds the start point. -/
def State.atPoint (s : State) (c : Nat) : Bool :=
  ((s.chan c).fspOp.getD (b2n (s.chan c).fspUse) none).getD (s.cf TB_OPCFG_START) == s.op.cur

/-- The clock of a quad runs at the point in force: in a quad without a pre-locked PLL, which has no channel in service or
has only just come back from its wait, the ACTIVE PLL takes the point itself (assumption 25). -/
def tunePlls (q : Nat) (s : State) : State :=
  if s.quadChanges q then
    [false, true].foldl (fun s b => s.onPll (phyId q b) fun x => { x with op := if x.st = .active then s.op.cur else x.op }) s
  else s

/-- Step 5: the point is in force with its timing set; ranks exit self-refresh and are checked. -/
def opStep5 (s : State) : State :=
  let s := showClkmon (opStep 5 { s with op := { s.op with cur := s.op.target } })
  let s := allChans.foldl (fun s c => uncount c s) ([0, 1, 2, 3].foldl (fun s q => tunePlls q s) s)
  s.opChans.foldl (fun s c => (takePoint c s).onRanks c (Rank.rouse true)) s

/-- A PLL at the end of a change: the former ACTIVE PLL restarts at the CK of the point, and so does any other that would
stand by at a former one. One that is still PRELOCK belongs to a quad that fell back to the bypass (R105): it is, or becomes,
a STANDBY PLL of the point, which takes no quad off its bypass (assumption 25). -/
def leftPll (k : Nat) (p : PllId) (s : State) : State :=
  let x := s.pll p
  if x.st = .starting ∧ (x.phase = .idle ∨ x.op ≠ k) then startPll p (if x.phase = .idle then .auto else x.why) k s
  else if x.st = .standby ∧ x.op ≠ k then startPll p .auto k s
  else if x.st = .prelock then
    s.onPll p fun x => { x with
      st := if x.phase = .idle then .standby else .starting, why := .auto }
  else s

/-- Step 6, and step 7 where a lower level set is still to be acknowledged (R334, R447). -/
def opComplete (s : State) : State :=
  let k := s.op.cur
  let s := (s.bump TB_OPEVT_CHANGES).stamp TB_OPLINE_LINE TB_OPFRAME_FRAME
  let s := [0, 1, 2, 3].foldl (fun s q => [false, true].foldl (fun s b => leftPll k (phyId q b) s) s) s
  let s := (ranksOf allChans).foldl (fun s e => applyHeld e.1 e.2 s) s
  let s := allChans.foldl (fun s c => s.onCal c fun x => { x with lowEye := 0, lowWr := 0 }) s
  let s := restSpares (endPending s)
  if s.op.supply.vset ≠ k ∧ s.op.supply.step = 0 then startHandshake k (opStep 7 s) else s

/-- The sequencer goes on to its next step once the one in progress is done; while the core PLL is out it stands (R337). -/
def settleOp (s : State) : State :=
  if !s.clocked || s.clk.coreSw ≠ .none || s.clk.retStep ≠ 0 ||
      (2 ≤ s.op.step && s.op.step ≤ 5 && s.clk.core.st ≠ .active) then s
  else if s.op.step = 2 then if s.opStep2Done then opStep3 s else s
  else if s.op.step = 3 then if s.opChans.all s.chanDown then opStep4 s else s
  else if s.op.step = 4 then
    if s.clk.quads.all fun c => match c.sw with | some (_, .opChange) => false | _ => true then opStep5 s else s
  else if s.op.step = 5 then if s.opChans.all s.chanUp then opComplete s else s
  else if s.op.step = 0 ∧ !s.op.pend ∧ s.op.resync ∧ s.op.supply.step = 0 ∧ (s.clk.startStep = 0 ∨ 5 ≤ s.clk.startStep) ∧
      s.clk.blkStep = 0 then
    let s := { s with op := { s.op with resync := false } }
    if s.op.supply.vset ≠ s.op.cur then startHandshake s.op.cur s else s
  else tryPostOp (takeWant s)

-- deep sleep (R327)

def State.serving (s : State) : List Nat := allChans.filter fun c => (s.chan c).inService

def dsmStep (n : Nat) (s : State) : State := { s with op := { s.op with dsmStep := n } }

/-- No line of a channel is admitted or on its way in, and no gill is in use. -/
def State.drained (s : State) (c : Nat) : Bool :=
  let x := s.chan c
  x.arb.coming.isEmpty && !(x.ops.any fun o => o.isLine || o.kind == .rmw)

/-- Deep sleep goes on: it waits for a change in progress (R337), stops intake and evicts gills, waits for the admitted
operations, flushes the caches, and puts the ranks to sleep; room returns once every rank has exited, before the checks that
the exit calls for, whose scratch lines need it (R265, R410). -/
def settleDsm (s : State) : State :=
  let cs := s.serving
  match s.op.dsmStep with
  | 1 =>
    if s.op.pend || s.op.step ≠ 0 then s
    else cs.foldl (fun s c => s.onChan c fun x => { x with noRoom := true }.evictGills .other fun _ => true) (dsmStep 2 s)
  | 2 =>
    if cs.all s.drained then [0, 1, 2, 3].foldl (fun s q => flushCache q s) (dsmStep 3 s)
    else cs.foldl (fun s c => s.onChan c fun x => x.evictGills .other fun _ => true) s
  | 3 =>
    if cs.all fun c => (s.chan c).ops.isEmpty then
      cs.foldl (fun s c => s.onRanks c fun k => k.ask (.deepSleep true)) (dsmStep 4 s)
    else s
  | 4 =>
    if cs.all fun c => (s.chan c).ranks.all (·.power == .deepSleep) then
      { s with op := { s.op with dsm := 2, dsmStep := 0 } }
    else s
  | 5 =>
    if cs.all s.exited then
      let s := cs.foldl (fun s c => s.onChan c fun x => { x with noRoom := false }) s
      { s with op := { s.op with dsm := 0, dsmStep := 0 } }
    else s
  | _ => s

/-- A write of 1 to DSM_ENTER (R327). -/
def enterDsm (s : State) : State :=
  if s.clocked ∧ s.op.dsm = 0 ∧ s.clk.startStep = 0 then
    settleDsm { s with op := { s.op with dsm := 1, dsmStep := 1 } }
  else s

/-- A write of 1 to DSM_EXIT (R327). -/
def exitDsm (s : State) : State :=
  if s.clocked ∧ s.op.dsm = 2 then
    s.serving.foldl (fun s c => s.onRanks c fun k => { k with want := .serve })
      { s with op := { s.op with dsm := 3, dsmStep := 5 } }
  else s

-- the host's pin

/-- A write of TB_OPPIN (R331). -/
def writePin (en : Bool) (k : Nat) (s : State) : State :=
  let former := s.on TB_OPPIN_EN
  let s := (s.setCf TB_OPPIN_EN (b2n en)).setCf TB_OPPIN_OP k
  if !en then (if former then { s with op := { s.op with choices := [], want := none } } else s)
  else match s.pinned? with
    | some k => requestOp k s
    | none => s

-- meanings

/-- A write of TB_OPPIN by host software (R331, R332, R337). -/
def execOpPin (en : Bool) (op : Fin 4) (s : State) : Host.Outcome State Fault Refusal :=
  .next (if s.clocked ∧ s.good then writePin en op s else s)

/-- 2 rsck after the level set was driven, VREQ[2] rises (R70 step 2). -/
def execVreqStrobe (s : State) : Host.Outcome State Fault Refusal :=
  let v := s.op.supply
  if s.clocked ∧ v.step = 1 ∧ v.mark + 2 ≤ s.rsck then
    .next { s with op := { s.op with supply := { v with vreq := v.vreq ||| 4, step := 2 } } }
  else .next s

/-- VACK is seen high: the level set is acknowledged and VREQ[2] falls (R70 step 4). -/
def execVackRise (s : State) : Host.Outcome State Fault Refusal :=
  let v := s.op.supply
  if s.clocked ∧ v.step = 2 then
    .next { s with op := { s.op with supply := { v with vreq := v.vreq &&& 3, step := 3, vset := (v.vreq &&& 3).toNat } } }
  else .next s

/-- VACK is seen low: the handshake is complete, and the step of a change that waited for it with it (R70, R334). -/
def execVackFall (s : State) : Host.Outcome State Fault Refusal :=
  if s.clocked ∧ s.op.supply.step = 3 then
    let s := { s with op := { s.op with supply := { s.op.supply with step := 0, late := false } } }
    if s.op.step = 1 then .next (opStep2 s)
    else if s.op.step = 7 then .next (settleOp (opStep 0 s))
    else .next (settleOp s)
  else .next s

/-- VSTEP has passed without VACK: at step 1 the change is abandoned, at step 7 it stands (R335). -/
def execVackTimeout (s : State) : Host.Outcome State Fault Refusal :=
  let v := s.op.supply
  let k := (v.vreq &&& 3).toNat
  if s.clocked ∧ (v.step = 1 ∨ v.step = 2) ∧ s.op.stepAt + s.usRsck (s.cf TB_OPTIME_VSTEP) ≤ s.rsck then
    if s.op.step = 1 then .next (abandonChange (raise .vack 0 k s))
    else if s.op.step = 7 then
      .next (raise .vack 0 (k + 4) (opStep 0 { s with op := { s.op with supply := { v with late := true } } }))
    else .next s
  else .next s

/-- MRW of a pending change: the values of the target into the FSP not in use, when the choice of R295 is it, in the place
of a placed refresh (R332); in step 3 the same on a spare, which still owes it, then, with WCK stopped (R301), FSP-OP
(R334). -/
def execMrw (ch : Fin 16) (r : Fin 2) (s : State) : Host.Outcome State Fault Refusal :=
  let k := s.rank ch r
  let ready := s.powerRuns ch && s.rankQuiet ch r && s.due k.mrw (s.tm ch CH_TMR_MRW)
  let done (s : State) (f : Rank → Rank) : State :=
    (s.onRank ch r fun k => { f k with mrw := some s.now }).takeSlot ch 1
  if s.chosen ch = some (.mrw r) then .next (tryPostOp (done s fun k => { k with fspDone := true }))
  else if !ready then .next s
  else if s.op.step = 3 && s.opChans.contains ch.val && !k.preDue && k.allClosed && !k.forced then
    if !k.fspDone then .next (done s fun k => { k with fspDone := true })
    else if !k.fspSel && s.dataRested ch r then .next (done s fun k => { k with fspSel := true, wckOn := false })
    else .next s
  else .next s

/-- SRE (R325, R326, R334): in step 3 of a change after FSP-OP. -/
def execSre (ch : Fin 16) (r : Fin 2) (s : State) : Host.Outcome State Fault Refusal :=
  let k := s.rank ch r
  let asked := match k.want with | .selfRefresh _ => true | _ => false
  if asked && s.maySleep ch r && (s.op.step ≠ 3 || !s.opChans.contains ch.val || k.fspSel) then
    .next (settleOp (sleepRank ch r .selfRefresh s))
  else .next s

/-- A write of 1 to TB_PWRCTL.DSM_ENTER (R327). -/
def execDsmEnter (s : State) : Host.Outcome State Fault Refusal := .next (enterDsm s)

/-- A write of 1 to TB_PWRCTL.DSM_EXIT (R327). -/
def execDsmExit (s : State) : Host.Outcome State Fault Refusal := .next (exitDsm s)

end Sys2Proof.Machine
end

