-- ==== Sys2Proof/Machine/Scrub.lean ====
section
/-!
DEFINITION. The maintenance engine P30: the walk of a scrub pass (R391–R396, R398), permissions (R393, R452, R477), and
the lines it puts into its perch queues.
-/

namespace Sys2Proof.Machine

-- the range of a pass

/-- The line index of a byte address whose high byte and bits [31:8] are given. -/
def lineIndex (hi lo : Nat) : Nat := hi * 2 ^ 24 + lo

def State.scrubLo (s : State) (q : Nat) : Nat := lineIndex (s.cf (QD_SCRSH_ADDR_HI q)) (s.cf (QD_SCRSL_ADDR_LO q))

def State.scrubHi (s : State) (q : Nat) : Nat := lineIndex (s.cf (QD_SCREH_ADDR_HI q)) (s.cf (QD_SCREL_ADDR_LO q))

/-- The last q that a pass walks at a channel, while it is walked. -/
def State.scrubLast (s : State) (c : Nat) : Option Nat := (s.quad (quadOf c)).scrub.last.getD (c % 4) none

def State.scrubPos (s : State) (c : Nat) : Nat := s.st (QD_SCRPOS_Q (quadOf c) (c % 4))

def State.onScrub (s : State) (q : Nat) (f : ScrubPass → ScrubPass) : State :=
  s.onQuad q fun x => { x with scrub := f x.scrub }

/-- The line index of data line q lies in the range (R391). -/
def State.inRange (s : State) (c q : Nat) : Bool :=
  let p := (s.quad (quadOf c)).scrub
  p.lo ≤ s.lineOf c q && s.lineOf c q ≤ p.hi

/-- The next q to walk from a position on; only the ends of the walk can fall outside the range. -/
def State.scrubNext (s : State) (c last : Nat) : Nat → Nat → Option Nat
  | 0, _ => none
  | n + 1, p => if p > last then none else if s.inRange c p then some p else s.scrubNext c last n (p + 1)

/-- The walk of a channel has let in its last line, or the channel is not walked. -/
def State.walked (s : State) (c : Nat) : Bool :=
  match s.scrubLast c with
  | none => true
  | some last => (s.scrubNext c last 3 (s.scrubPos c)).isNone

def State.scrubOut (s : State) (c : Nat) : Nat := (s.quad (quadOf c)).scrub.out.getD (c % 4) 0

/-- CHDONE of a quad. -/
def State.chDone (s : State) (q : Nat) : Nat :=
  ((quadChans q).map fun c => if s.walked c && s.scrubOut c == 0 then 2 ^ (c % 4) else 0).sum

/-- Take the scrub lines out of P30's perch queue of a channel. -/
def dropScrubLines (c : Nat) (s : State) : State :=
  s.onChan c fun x => { x with arb := { x.arb with perch := upd x.arb.perch 30 fun l => l.filter (·.kind ≠ .scrub) } }

def State.scrubLines (s : State) (c : Nat) : Nat := ((s.perch c 30).filter (·.kind == .scrub)).length

/-- The registers of a peck. -/
def peckRegs (q : Nat) : List Nat := (List.range 12).map fun i => 0x20140 + 0x2000 * q + 4 * i

def clearPeck (q : Nat) (s : State) : State :=
  { s with stat := (peckRegs q).foldl (fun f a => f.set a 0) s.stat }

/-- A pass ends: stamps, FINAL, STATE and the event (R396). -/
def endScrub (q : Nat) (aborted : Bool) (s : State) : State :=
  let s := s.stamp (QD_PKELINE_LINE q) (QD_PKEFRAME_FRAME q)
  let s := (s.setSt (QD_PKSTAT_FINAL q) 1).setSt (QD_PKSTAT_ABORTED q) (b2n aborted)
  let s := s.setSt (QD_SCRSTAT_STATE q) (if aborted then 3 else 2)
  event .scrub (s.onScrub q fun p => { p with running := false, aborting := false })

/-- START (R396). -/
def startScrub (q : Nat) (s : State) : State :=
  if (s.quad q).scrub.running then s
  else
    let lo := s.scrubLo q
    let hi := s.scrubHi q
    let l := s.logicals
    let s := (clearPeck q s).stamp (QD_PKSLINE_LINE q) (QD_PKSFRAME_FRAME q)
    let s := (s.setSt (QD_SCRSTAT_STATE q) 1).setSt (QD_SCRSTAT_ACAUSE q) 0
    let walks (c : Nat) : Bool := (s.chan c).inService && (s.logicalOf c).isSome && lo ≤ hi && s.lines ≠ 0
    let last (i : Fin 4) : Option Nat := if walks (4 * q + i.val) then some (min (hi / l) (s.lines - 1)) else none
    let s := s.onScrub q fun p => { p with
      running := true, aborting := false, lo := lo, hi := hi, last := Vector.ofFn last
      out := Vector.replicate 4 0, k := Vector.replicate 4 none }
    let s := (List.range 4).foldl (fun s c => s.setSt (QD_SCRPOS_Q q c) (lo / l)) s
    if hi < lo then endScrub q false s else s

/-- ABORT of a running pass (R396), by host software or by a halt of P30 (R398). -/
def abortScrub (q cause : Nat) (s : State) : State :=
  if !(s.quad q).scrub.running then s
  else
    let s := s.setSt (QD_SCRSTAT_ACAUSE q) cause
    (quadChans q).foldl (fun s c =>
      let n := s.scrubLines c
      (dropScrubLines c s).onScrub q fun p => { p with out := upd p.out (c % 4) (· - n) })
      (s.onScrub q fun p => { p with aborting := true })

/-- A walked channel is retired during the pass: its remaining lines count as not reached (R398). -/
def scrubRetired (c : Nat) (s : State) : State :=
  let q := quadOf c
  match s.scrubLast c with
  | none => s
  | some last =>
    if !(s.quad q).scrub.running then s
    else
      let ends := ([s.scrubPos c, last].eraseDups.filter fun p => s.scrubPos c ≤ last && !s.inRange c p).length
      let n := last + 1 - s.scrubPos c - ends + s.scrubOut c
      let s := (s.bump (QD_PKSKIPRT_COUNT q) n).setSt (QD_PKSTAT_INCOMPLETE q) 1
      (dropScrubLines c s).onScrub q fun p => { p with
        last := upd p.last (c % 4) fun _ => none, out := upd p.out (c % 4) fun _ => 0 }

-- lines of P30

/-- A line of P30. -/
def State.maintLine (s : State) (c q : Nat) (k : LineKind) : PerchLine :=
  ⟨30, 0, 0, s.lineOf c q, q, 3, false, 1, 0, 0, k, s.now, 0, 0⟩

/-- P30 takes new work (R172, R176, R398, R460). -/
def State.p30Works (s : State) (c : Nat) : Bool :=
  s.intakeRuns && s.op.dsm == 0 && s.clk.blkStep == 0 && (s.port 30).state ≠ .halted &&
    (s.chan c).inService && (s.chan c).test == 0 && s.flt.haltStep == 0

/-- May a line of a kind enter the perch queue: with room left in a booking, or on idle permission. -/
def Chan.lets (c : Chan) (perm room : Nat) : Bool := (natBit perm 0 && room ≠ 0) || (natBit perm 1 && c.holds 2)

/-- The rekey pass walks a channel (R476). -/
def State.rekeys (s : State) (c : Nat) : Bool :=
  s.keys.rkState == 1 && (s.chan c).inService && (s.logicalOf c).isSome && !(s.quadClk (quadOf c)).wait

/-- P30's next line at a channel: migration, then rekey, then scrub (R477). -/
def handMaint (c : Nat) (s : State) : State :=
  let x := s.chan c
  let add (q : Nat) (k : LineKind) (s : State) : State := addPerch c 30 (s.maintLine c q k) s
  let scrub (s : State) : State :=
    match s.scrubLast c with
    | none => s
    | some last =>
      let p := (s.quad (quadOf c)).scrub
      if !p.running || p.aborting || !x.lets x.scrubPerm x.scrubRoom then s
      else match s.scrubNext c last 3 (s.scrubPos c) with
        | none => s
        | some q =>
          let s := (add q .scrub s).setSt (QD_SCRPOS_Q (quadOf c) (c % 4)) (q + 1)
          let s := s.onScrub (quadOf c) fun p => { p with out := upd p.out (c % 4) (· + 1) }
          s.onChan c fun x => { x with scrubRoom := x.scrubRoom - 1 }
  let rekey (s : State) : State :=
    if s.rekeys c && x.rkNext < s.lines && x.lets x.rkPerm x.rkRoom then
      (add x.rkNext .rekey s).onChan c fun x => { x with rkNext := x.rkNext + 1, rkRoom := x.rkRoom - 1 }
    else scrub s
  if !s.p30Works c || (s.perch c 30).length ≥ 4 then s
  else match s.mnt.evac with
    | some e =>
      let viaScrub := natBit x.scrubPerm 0 && x.scrubRoom ≠ 0
      if e.src = c ∧ e.step = 2 ∧ e.next < s.lines ∧ (x.lets x.migPerm x.migRoom || viaScrub) then
        let own := x.lets x.migPerm x.migRoom
        let s := (add e.next .migration s).onEvac fun e => { e with next := e.next + 1 }
        s.onChan c fun x => if own then { x with migRoom := x.migRoom - 1 } else { x with scrubRoom := x.scrubRoom - 1 }
      else rekey s
    | none => rekey s

-- permissions

/-- The kinds of P30's work, with the idle configuration of each. -/
inductive Duty
  | scrub | migration | rekey
  deriving DecidableEq, Repr

def State.idleOn (s : State) (c : Nat) : Duty → Bool
  | .scrub => s.on (QD_SCRCFG_IDLE (quadOf c))
  | .migration => s.on FT_EVCFG_IDLE
  | .rekey => s.on KY_RKCFG_IDLE

def State.idleWait (s : State) (c : Nat) : Duty → Nat
  | .scrub => s.cf (QD_SCRCFG_IDLEWAIT (quadOf c))
  | .migration => s.cf FT_EVCFG_IDLEWAIT
  | .rekey => s.cf KY_RKCFG_IDLEWAIT

def Chan.perm (c : Chan) : Duty → Nat
  | .scrub => c.scrubPerm
  | .migration => c.migPerm
  | .rekey => c.rkPerm

def Chan.setPerm (c : Chan) (d : Duty) (v : Nat) : Chan :=
  match d with
  | .scrub => { c with scrubPerm := v }
  | .migration => { c with migPerm := v }
  | .rekey => { c with rkPerm := v }

def Chan.setRoom (c : Chan) (d : Duty) (n : Nat) : Chan :=
  match d with
  | .scrub => { c with scrubRoom := n }
  | .migration => { c with migRoom := n }
  | .rekey => { c with rkRoom := n }

def duties : List Duty := [.scrub, .migration, .rekey]

/-- No line of P0–P29 has been present for the time a kind of work asks for (R393): idle permission. -/
def idlePermit (c : Nat) (s : State) : State :=
  duties.foldl (fun s d =>
    if s.idleOn c d && (s.chan c).idleAt + 16 * s.idleWait c d ≤ s.now && (s.chan c).holds 2 then
      s.onChan c fun x => x.setPerm d (x.perm d ||| 2)
    else s) s

/-- A granted booking gives permission and lets k lines in; its end takes the permission back (R393). -/
def bookedPermit (c : Nat) (d : Duty) (k : Nat) (s : State) : State :=
  s.onChan c fun x => (x.setPerm d (x.perm d ||| 1)).setRoom d k

def endPermit (c : Nat) (d : Duty) (s : State) : State :=
  s.onChan c fun x => (x.setPerm d (x.perm d &&& 2)).setRoom d 0

-- meanings

/-- A write of 1 to QDn_SCRCTL.START (R396). -/
def execScrubStart (q : Fin 4) (s : State) : Host.Outcome State Fault Refusal :=
  .next (if s.clocked then startScrub q s else s)

/-- A write of 1 to QDn_SCRCTL.ABORT (R396). -/
def execScrubAbort (q : Fin 4) (s : State) : Host.Outcome State Fault Refusal :=
  .next (if s.clocked then abortScrub q 0 s else s)

/-- A pass ends once every walked channel is done, or it is aborted and its admitted lines have completed (R396). -/
def execScrubPassEnd (q : Fin 4) (s : State) : Host.Outcome State Fault Refusal :=
  let p := (s.quad q).scrub
  let done := (quadChans q).all fun c => (p.aborting || s.walked c) && s.scrubOut c == 0
  .next (if s.clocked && p.running && done then endScrub q p.aborting s else s)

/-- Idle permission at a channel (R393, R452, R477). -/
def execIdlePermission (ch : Fin 16) (s : State) : Host.Outcome State Fault Refusal :=
  .next (if s.intakeRuns then idlePermit ch s else s)

end Sys2Proof.Machine
end

