-- ==== Sys2Proof/Machine/Evac.lean ====
section
/-!
DEFINITION. Evacuation and swap (R448–R453), hard failure (R454, R455), the retirement of spares (R456) and of channels
at start-up (R457).
-/

namespace Sys2Proof.Machine

-- the table after a change (R451)

/-- Entries L to 15 after a change: the remaining spares in their former order, then the retired. -/
def State.tailWith (s : State) (gone : Option Nat) (retired : Option Nat) : List Nat :=
  let tail := s.tableTail.filter fun c => some c ≠ gone ∧ some c ≠ retired
  let isRetired (c : Nat) : Bool := (s.chan c).state == .retired
  tail.filter (!isRetired ·) ++ tail.filter isRetired ++ retired.toList

/-- The spare takes the entry of a channel, which joins the retired. -/
def replaceInTable (c sp : Nat) (s : State) : State :=
  let head := (s.table.take s.logicals).map fun x => if x = c then sp else x
  s.setTable (head ++ s.tailWith (some sp) (some c))

/-- A spare joins the retired. -/
def retireInTable (sp : Nat) (s : State) : State :=
  s.setTable (s.table.take s.logicals ++ s.tailWith none (some sp))

-- retirement

/-- A channel enters RETIRED (R311): it tries PREab, the payment of R326 and deep sleep; its bookings, permissions and
calibration work end, and a scrub pass counts what it has not reached. -/
def retire (c : Nat) (s : State) : State :=
  let s := scrubRetired c s
  let s := (s.setSt (CH_WEARSTAT_RESERVED_SP c) 0).stamp (CH_RETLINE_LINE c) (CH_RETFRAME_FRAME c)
  let s := s.unpost fun b => b.scope == .chan c
  let s := s.onCal c fun x => { x with
    booked := [], rtCause := 0, sweepOn := false, oscRun := Vector.replicate 2 none, step := none, lines := []
    work := [], checking := [] }
  (s.onRanks c fun k => k.ask (.deepSleep true)).onChan c fun x => { x with
    state := .retired, reserve := none, clear := none, ahead := [], job := .none, admitStop := false
    scrubPerm := 0, scrubRoom := 0, migPerm := 0, migRoom := 0, rkPerm := 0, rkRoom := 0, wearAt := none }

/-- Lines granted at intake and not yet admitted go back to the head of their perch queues. -/
def unGrant (c : Nat) (s : State) : State :=
  s.onChan c fun x =>
    let perch := x.arb.coming.reverse.foldl (fun v l => upd v l.port fun ls => l :: ls) x.arb.perch
    let clear (g : Option Gill) : Option Gill := g.map fun g => { g with reserved := 0 }
    { x with
      gills := x.gills.map clear
      arb := { x.arb with perch := perch, xfer := none, next := none, hold := none }, wdCount := 0, wdTripped := false }

/-- The perch entries of P0–P30 move in order to the spare, and those of P31 are dropped (R450 step 5). -/
def movePerch (c sp : Nat) (s : State) : State :=
  let from_ := (s.chan c).arb.perch
  let s := s.onChan sp fun x => { x with arb := { x.arb with
    perch := Vector.ofFn fun p =>
      let own := x.arb.perch.getD p.val []
      if p.val < 31 then (if own.isEmpty then nowPresent s.now (from_.getD p.val []) else own ++ from_.getD p.val []) else own } }
  s.onChan c fun x => { x with arb := { x.arb with
    perch := Vector.replicate 32 [], finish := Vector.replicate 32 none, park := none } }

/-- The spare becomes the ACTIVE channel of the logical channel it takes over; it takes the rekey pointer with it
(R311, R476). -/
def promoteSpare (c sp : Nat) (s : State) : State :=
  let s := (s.setPartner sp none).setPartner c none
  let s := s.setSt (CH_RKPTR_Q sp) (s.st (CH_RKPTR_Q c))
  s.onChan sp fun x => { x with
    state := .active, rkNext := s.st (CH_RKPTR_Q c), rkDone := [], ahead := [] }

-- evacuation (R450)

/-- The WEARING channel that evacuates next: it holds a reservation and became WEARING first. -/
def State.nextEvac (s : State) : Option Nat :=
  allChans.foldl (fun best c =>
    let x := s.chan c
    if x.state == .wearing && x.reserve.isSome then
      match best with
      | none => some c
      | some b => if x.wearAt.getD 0 < (s.chan b).wearAt.getD 0 then some c else some b
    else best) none

/-- Step 1: the channel evacuates into its spare, which leaves self-refresh and is checked. -/
def startEvac (c sp : Nat) (s : State) : State :=
  let s := (s.setPartner c (some sp)).setPartner sp (some c)
  let s := (s.setSt (CH_WEARSTAT_RESERVED_SP c) 0).setSt (CH_EVPTR_Q c) 0
  let s := s.onChan c fun x => { x with state := .evacuating, reserve := none }
  let s := s.onRanks sp (Rank.rouse true)
  { s with mnt := { s.mnt with evac := some ⟨c, sp, 1, s.now, 0, [], []⟩, refusals := 0 } }

/-- Post the swap booking (R450 step 3). -/
def postSwap (s : State) : State :=
  match s.mnt.evac with
  | some e => if s.isPosted .swap e.src then s else postBooking .v (.chan e.src) .swap e.src (s.usCc 20) s
  | none => s

/-- The source of the evacuation is still in service: it has not failed hard (R460). -/
def State.evacuates (s : State) (e : Evac) : Bool := (s.chan e.src).state == .evacuating

/-- The spare is ready: migration begins, or the swap where EVPTR has been kept at C (R311, R450, R460). -/
def settleEvac (s : State) : State :=
  match s.mnt.evac with
  | some e =>
    if e.step = 1 ∧ s.evacuates e ∧ s.chanUp e.spare then
      if s.st (CH_EVPTR_Q e.src) = s.lines then toSwap s else s.onEvac fun e => { e with step := 2 }
    else s
  | none => s

/-- Step 4: the channel admits no new line and drains. -/
def beginSwap (s : State) : State :=
  match s.mnt.evac with
  | some e =>
    if e.step = 3 ∧ s.evacuates e then
      (s.onEvac fun e => { e with step := 4, mark := s.now }).onChan e.src fun x => { x with admitStop := true }
    else s
  | none => s

/-- Nothing is admitted, or on its way in, at a channel; a hazard entry is held by no operation. -/
def State.emptied (s : State) (c : Nat) : Bool := (s.chan c).ops.isEmpty && (s.chan c).arb.coming.isEmpty

/-- Steps 5 and 6 (R450): the table is rewritten, the perch entries move, the channel is retired. -/
def swapChannels (c sp : Nat) (s : State) : State :=
  let s := scrubRetired c s
  let s := { s with mnt := { s.mnt with evac := none, refusals := 0, forcedSwap := false } }
  let s := dropCached c (movePerch c sp (replaceInTable c sp s))
  let s := (s.setSt (CH_LOST_LOSTLO sp) (s.st (CH_LOST_LOSTLO c))).setSt (CH_LOST_VALID sp) (s.st (CH_LOST_VALID c))
  let s := (s.setSt (CH_MDINIT_PTR sp) (s.lines / 32)).setSt (CH_MDINIT_DONE sp) 1
  event .swap (retire c (promoteSpare c sp s))

/-- An evacuation is abandoned with its spare (R456): the channel returns to WEARING. -/
def abandonEvac (s : State) : State :=
  match s.mnt.evac with
  | none => s
  | some e =>
    let s := { s with mnt := { s.mnt with evac := none, refusals := 0, forcedSwap := false } }
    let s := s.unpost fun b => b.work == .swap || b.work == .migration
    let s := ((s.setPartner e.src none).setPartner e.spare none).onChan e.src fun x => { x with
      state := .wearing, admitStop := false, migPerm := 0, migRoom := 0
      arb := { x.arb with perch := upd x.arb.perch 30 fun l => l.filter (·.kind ≠ .migration) } }
    let s := dropMirrors e.spare s
    (s.chan e.src).ops.foldl (fun s o =>
      if o.kind = .migration then s.dropOp e.src o.id
      else if o.phase = .paired then finishOp e.src o s
      else s.onOp e.src o.id fun o => { o with partner := none }) s

-- hard failure (R454)

/-- The data of one write group of a channel: its gill as it stands, an incomplete one to be completed by read-modify-write,
or the whole line that has left its gill. -/
def Chan.heldGill (x : Chan) (o : Op) (now : Nat) : Option Gill :=
  match o.phase, o.gill.bind x.gill with
  | .gather, some v => some { v with reserved := 0, merged := false, evict := if v.whole then none else some .other }
  | .writing, _ => some ⟨o.line, o.q, o.plain, BitVec.allOnes 256, now, [], o.tier, o.tier, none, 0, false⟩
  | _, _ => none

/-- The held write data of the lines below EVPTR, oldest first, each with the writes merged into it. -/
def State.heldGroups (s : State) (c ptr : Nat) : List (Gill × List Op) :=
  let x := s.chan c
  (x.ops.filter fun o => o.kind == .write && o.q < ptr && x.ops.find? (·.inGroup o.lead) == some o).filterMap fun o =>
    (x.heldGill o s.now).map fun v => (v, x.ops.filter (·.inGroup o.lead))

/-- The oldest held write data of a failed channel goes to the partner, as a gill of its own there, once one is free: a whole
one is written, an incomplete one completed by read-modify-write against the partner's copy (R454 step 2). -/
def moveNext (c sp : Nat) (s : State) : State :=
  match (s.chan c).moving, (s.chan sp).freeGill with
  | (v, ws) :: rest, some g =>
    let first := (s.chan sp).nextOp
    let s := (s.onChan c fun x => { x with moving := rest }).onChan sp fun y => { y with
      gills := upd y.gills g fun _ => some v }
    ws.foldl (fun s w => s.addOp sp { w with
      phase := .gather, gill := some g, lead := first, way := none, looked := false, partner := none, wq := .none
      bursts := 0, acted := false, tries := 0 }) s
  | _, _ => s

/-- Held write data that has no partner left to go to is lost: its writes that are not complete end with POISON 0xA. -/
def loseMoving (c : Nat) (s : State) : State :=
  ((s.chan c).moving.flatMap (·.2)).foldl (fun s w => if w.done then s else answerOp w ⟨2, 0xA⟩ 0 s)
    (s.onChan c fun x => { x with moving := [] })

/-- Step 2 at one channel: reads end with POISON 0xA, held writes of migrated lines wait to go to the partner, every other
write not yet complete ends with POISON 0xA, and nothing waits in the cache for the channel. -/
def abandonOps (c : Nat) (partner : Option Nat) (s : State) : State :=
  let groups := if partner.isSome then s.heldGroups c (s.st (CH_EVPTR_Q c)) else []
  let held (o : Op) : Bool := groups.any fun e => e.2.contains o
  let s := (s.chan c).ops.foldl (fun (s : State) o =>
    if (o.kind == .read || o.kind == .write) && !o.done && !held o then answerOp o ⟨2, 0xA⟩ 0 s else s) s
  let mine (l : Option (Nat × Nat)) : Option (Nat × Nat) := l.filter fun e => e.1 ≠ c
  let freeLane (l : Lane) : Lane := { l with stopped := mine l.stopped, waiting := mine l.waiting, slot := mine l.slot }
  let s := s.onQuad (quadOf c) fun x => { x with
    lanes := x.lanes.map freeLane
    rebuilds := x.rebuilds.filter (·.chan ≠ c) }
  s.onChan c fun x => { x with ops := [], gills := Vector.replicate 16 none, moving := groups }

/-- The evacuation of a channel. -/
def State.evacFrom (s : State) (c : Nat) : Option Evac := s.mnt.evac.filter (·.src = c)

/-- A spare that counts for a failed channel: its own partner, its own reservation, or one that is available (R454). -/
def State.spareFor (s : State) (c : Nat) : Option Nat :=
  ((s.evacFrom c).map (·.spare)).or (((s.chan c).reserve).or s.firstSpare)

/-- Step 3: the spare readies itself, unless it is the partner; step 5 where none counts. -/
def hardSpare (c : Nat) (s : State) : State :=
  match s.spareFor c with
  | none => raise .nospare c (s.st (CH_WEARSTAT_CAUSE c)) (s.onChan c fun x => { x with hardStep := 0, reserve := none })
  | some sp =>
    if (s.chan sp).spareInTest then s.onChan sp fun x => { x with testStop := true }
    else
    let partner := (s.evacFrom c).any (·.spare == sp)
    let s := if partner then s else s.onRanks sp (Rank.rouse true)
    s.onChan c fun x => { x with hardStep := 3, reserve := some sp }

/-- A hard failure with its cause, 0x8 or 0x9 of R447 (R454 steps 1 and 2). -/
def hardFailure (c cause : Nat) (s : State) : State :=
  let spare := s.spareFor c
  let sp := (s.evacFrom c).map (·.spare)
  let s := s.setSt (CH_WEARSTAT_CAUSE c) cause
  let s := retire c (unGrant c s)
  let s := s.onChan c fun x => { x with hardStep := 2, reserve := spare, reserveDue := false }
  dropCached c (abandonOps c sp s)

/-- Step 4: the table is rewritten, the spare clears its metadata from EVPTR on and serves. -/
def hardReplace (c sp : Nat) (s : State) : State :=
  let mine := (s.evacFrom c).isSome
  let ptr := if mine then s.st (CH_EVPTR_Q c) else 0
  let s := if mine then
      let s := s.unpost fun b => b.work == .swap
      { s with mnt := .reset }
    else s
  let s := movePerch c sp (replaceInTable c sp s)
  let s := (s.setSt (CH_LOST_LOSTLO sp) ptr).setSt (CH_LOST_VALID sp) 1
  let s := promoteSpare c sp s
  let s := s.onChan c fun x => { x with hardStep := 0, reserve := none }
  raise .lost c ptr (startClearing sp (ceilDiv ptr 32) s)

/-- The lines of a failed channel have been written at its partner. -/
def State.partnerRests (s : State) (sp : Nat) : Bool :=
  s.mirrorsRest sp && !((s.chan sp).ops.any fun o => o.kind == .write || o.kind == .rmw)

/-- A hard failure goes on: held data goes to the partner and has been written there, then the spare is ready. -/
def settleHard (c : Nat) (s : State) : State :=
  let x := s.chan c
  if x.hardStep = 2 then
    match s.evacFrom c with
    | some e =>
      if !x.moving.isEmpty then moveNext c e.spare s else if s.partnerRests e.spare then hardSpare c s else s
    | none => hardSpare c (loseMoving c s)
  else if x.hardStep = 3 then
    match x.reserve with
    | some sp => if s.chanUp sp then hardReplace c sp s else s
    | none => s
  else s

-- the retirement of a spare (R456)

/-- A SPARE channel fails its check or a retrain. -/
def spareFailed (sp cause : Nat) (s : State) : State :=
  let owner := allChans.find? fun c => (s.chan c).reserve == some sp
  let partner := match s.mnt.evac with | some e => if e.spare = sp then some e.src else none | none => none
  let s := s.setSt (CH_WEARSTAT_CAUSE sp) cause
  let s := retire sp (retireInTable sp (abandonOps sp none s))
  let s := raise .spared sp cause (dropCached sp s)
  let s := match partner with
    | some c =>
      if (s.chan c).state = .retired then { s with mnt := .reset }
      else reserveSpare c (abandonEvac s)
    | none => s
  match owner with
  | none => s
  | some c =>
    let s := (s.onChan c fun x => { x with reserve := none }).setSt (CH_WEARSTAT_RESERVED_SP c) 0
    if (s.chan c).hardStep ≠ 0 then hardSpare c s
    else if (s.chan c).state = .wearing then reserveSpare c s
    else s

/-- A test is over: the channel is in the state it came from (R488 step 6). -/
def leaveTest (c : Nat) (s : State) : State :=
  let x := s.chan c
  if x.test = 0 then s
  else
    (s.setBits (CH_TSTSTAT_DONE c) 1).onChan c fun x => { x with
      state := if x.state = .test then x.prev else x.state, test := 0, testStop := false }

/-- A retrain of a channel has failed (R411, R431, R454, R456, R489). -/
def retrainFailed (c : Nat) (s : State) : State :=
  let s := leaveTest c s
  if (s.chan c).state = .spare then spareFailed c 9 s else if (s.chan c).inService then hardFailure c 9 s else s

-- start-up retirement (R457)

/-- A channel of entries 0 to L − 1 that failed training: the first spare that passed replaces it. -/
def startupReplace (c : Nat) (s : State) : State :=
  let s := s.setSt (CH_WEARSTAT_CAUSE c) 8
  match s.tableTail.find? fun sp => !(s.chan sp).failed && (s.chan sp).state ≠ .retired with
  | some sp => raise .spared c 8 (retire c (replaceInTable c sp (s.onChan c fun x => { x with state := .retired })))
  | none => raise .nospare c 8 (retire c s)

/-- Channels that failed training are replaced or retired, and the others take their states (R311, R457). -/
def startupRetirement (s : State) : State :=
  let s := (s.table.take s.logicals).foldl (fun s c => if (s.chan c).failed then startupReplace c s else s) s
  let s := s.tableTail.foldl (fun s c =>
    if (s.chan c).failed ∧ (s.chan c).state ≠ .retired then
      let s := (s.setSt (CH_WEARSTAT_CAUSE c) 8).onChan c fun x => { x with state := .retired }
      raise .spared c 8 (retire c (retireInTable c s))
    else s) s
  let s := (s.table.take s.logicals).foldl (fun s c =>
    if (s.chan c).state = .init ∨ (s.chan c).state = .spare then s.onChan c fun x => { x with state := .active } else s) s
  restSpares (s.tableTail.foldl (fun s c =>
    if (s.chan c).state = .init then s.onChan c fun x => { x with state := .spare } else s) s)

-- the host's request (R449)

/-- A write of FT_EVCTL with EVAC. -/
def requestEvac (c : Nat) (s : State) : State :=
  let s := s.setCf FT_EVCTL_CH c
  if s.wears c && s.firstSpare.isSome then becomeWearing c 5 s else s.setBits FT_EVSTAT_REFUSED 1

-- meanings

/-- A write of 1 to FT_EVCTL.EVAC for a channel (R449). -/
def execEvac (ch : Fin 16) (s : State) : Host.Outcome State Fault Refusal :=
  .next (if s.clocked then requestEvac ch s else s)

/-- The next WEARING channel with a reservation starts its evacuation (R450 step 1). -/
def execEvacuationStart (s : State) : Host.Outcome State Fault Refusal :=
  match s.nextEvac with
  | some c =>
    match (s.chan c).reserve with
    | some sp =>
      if s.intakeRuns ∧ s.mnt.evac.isNone ∧ s.clk.startStep = 0 ∧ s.clk.retStep = 0 ∧ s.clk.blkStep = 0 ∧
          (s.port 30).state ≠ .halted ∧ (s.chan sp).test = 0 then .next (settleEvac (startEvac c sp s))
      else .next s
    | none => .next s
  | none => .next s

/-- The hazard table of the draining channel is empty within the 20 µs: the swap (R450 steps 5 and 6), unless the channel has
failed hard (R460); a block reset keeps the table and the states of its step 1 (R176). -/
def execChannelSwap (s : State) : Host.Outcome State Fault Refusal :=
  match s.mnt.evac with
  | some e =>
    .next (if s.intakeRuns ∧ s.clk.blkStep = 0 ∧ e.step = 4 ∧ s.evacuates e ∧ s.emptied e.src ∧
        s.now < e.mark + s.usCc 20 then swapChannels e.src e.spare s else s)
  | none => .next s

/-- The hazard table has not emptied within 20 µs: admission resumes and the swap is booked again (R453). -/
def execSwapDrainTimeout (s : State) : Host.Outcome State Fault Refusal :=
  match s.mnt.evac with
  | some e =>
    if s.intakeRuns ∧ e.step = 4 ∧ s.evacuates e ∧ e.mark + s.usCc 20 ≤ s.now then
      let s := (s.onEvac fun e => { e with step := 3 }).onChan e.src fun x => { x with admitStop := false }
      .next (postSwap (s.bump FT_EVSTAT_RETRY))
    else .next s
  | none => .next s

end Sys2Proof.Machine
end

