-- ==== Sys2Proof/Machine/Calib.lean ====
section
/-!
DEFINITION. The calibration engines P31: results of training, checks and retrains (R405–R412), live read tracking and
sweeps (R413–R418), write tracking (R419–R421), ZQ and PHY codes (R422, R423), booked steps with their scratch lines
(R424, R425), and corrections (R426–R430). Bit b of rank r has index 18r + b.
-/

namespace Sys2Proof.Machine

-- tracked bits

def bitRank (i : Nat) : Nat := i / 18

def bitNum (i : Nat) : Nat := i % 18

/-- DMI bits take part in reads and writes only with their DBI (R404). -/
def State.trackedRd (s : State) (c i : Nat) : Bool := bitNum i < 16 || s.on (CH_GEOM_DBI_RD c)

def State.trackedWr (s : State) (c i : Nat) : Bool := bitNum i < 16 || s.on (CH_GEOM_DBI_WR c)

def allBits : List Nat := List.range 36

def State.bitCal (s : State) (c i : Nat) : BitCal := (s.cal c).bits.getD i .reset

def State.onBit (s : State) (c i : Nat) (f : BitCal → BitCal) : State := s.onCal c fun x => { x with bits := upd x.bits i f }

/-- The per-bit delays of the point in force. -/
def State.rdField (s : State) (c i : Nat) : Field := CH_BD_RD c s.op.cur (bitRank i) (bitNum i)

def State.wrField (s : State) (c i : Nat) : Field := CH_BD_WR c s.op.cur (bitRank i) (bitNum i)

def ofsField (c r : Nat) : Field := if r = 0 then CH_WOFS_OFS0 c else CH_WOFS_OFS1 c

-- the engine at work

def State.paused (s : State) (q : Nat) : Bool := s.on (QD_CALCTL_PAUSE q)

/-- Live tracking runs on a rank (R428, R429). -/
def State.calWorks (s : State) (c r : Nat) : Bool :=
  let x := s.chan c
  s.quadRuns (quadOf c) && !(s.quadClk (quadOf c)).wait && x.state ≠ .init && x.state ≠ .retired && x.state ≠ .test &&
    x.job == .none && !s.paused (quadOf c) && (s.rank c r).power == .active && !(s.rank c r).check

/-- The engine runs booked steps on a channel: neither SPARE at rest, nor in test, nor in deep sleep (R428). -/
def State.calServes (s : State) (c : Nat) : Bool :=
  let x := s.chan c
  s.quadRuns (quadOf c) && !(s.quadClk (quadOf c)).wait && x.state ≠ .init && x.state ≠ .retired && x.state ≠ .test &&
    s.op.dsm == 0 && (x.state ≠ .spare || x.ranks.any (·.awake))

/-- The engine posts bookings for a channel: not while it is paused (R429). -/
def State.calBooks (s : State) (c : Nat) : Bool := s.calServes c && !s.paused (quadOf c)

-- requests

/-- A retrain is requested (R412); a channel that has one pending, which no booking has been granted for, keeps it. -/
def requestRetrain (c cause : Nat) (s : State) : State :=
  let pending := (s.cal c).booked.any (·.1 == 1)
  if s.paused (quadOf c) || pending || (s.chan c).state = .retired || (s.chan c).state = .test then s
  else bookStep c 1 0 (s.onCal c fun x => { x with rtCause := cause })

/-- A tracker asks to move past the end of the range (R415, R420). -/
def limitReached (c : Nat) (s : State) : State := requestRetrain c 1 (s.bump (QD_CALEVT_LIMITS (quadOf c)))

-- booked steps

/-- A booked step is done: it counts with its stamp (R430). -/
def stampCal (q : Nat) (s : State) : State := s.stamp (QD_CALLINE_LINE q) (QD_CALFRAME_FRAME q)

/-- A step that has run past its booking counts what it has run past its gap against the next gap of the kind in its scope,
with what the booking itself overran (R202, R425). -/
def stepOverrun (c : Nat) (s : State) : State :=
  match (s.cal c).step with
  | none => s
  | some (kind, r) =>
    match s.brk.granted.find? fun g => g.begun && g.book.work == .calStep kind && g.book.unit == 2 * c + r with
    | none => s
    | some g =>
      let t := max g.ends (g.gapEnd.getD s.now)
      if g.gapEnd.isNone || s.now ≤ t then s
      else
        let same (e : GapKind × Scope × Nat) : Bool := e.1 == g.gap && e.2.1 == g.book.scope
        let n := (s.brk.overruns.filter same).foldl (fun m e => max m e.2.2) 0
        { s with brk := { s.brk with
          overruns := s.brk.overruns.filter (fun e => !same e) ++ [(g.gap, g.book.scope, n + (s.now - t))] } }

def stepDone (c : Nat) (s : State) : State :=
  let s := (stepOverrun c s).onCal c fun x => { x with step := none, lines := [] }
  stampCal (quadOf c) (s.bump (QD_CALCNT_STEPS (quadOf c)))

/-- The kind of gap a step is booked in, and its length in cc (R424). -/
def calGap (kind : Nat) : GapKind := if kind = 1 ∨ kind = 5 then .v else .h

def State.oscRunCk (s : State) (c : Nat) : Nat := 256 * 2 ^ s.cf (QD_CALCFG2_OSCRUN (quadOf c))

def State.calLength (s : State) (c kind : Nat) : Nat :=
  let t (f : Nat → Nat → Field) : Nat := s.tm c f
  let fill := 16 * s.cf (QD_CALCFG2_FILLN (quadOf c)) + t CH_TACT_RCD + t CH_TLAT_RL + t CH_TACT_RPPB + 16
  let wrc := 640 + 4 * (t CH_TLAT_WL + t CH_TTRN_WTR_L + t CH_TTRN_RTW) + t CH_TACT_RCD + t CH_TACT_RPPB + 64
  match kind with
  | 1 => s.usCc 28
  | 2 => (t CH_TZQ_ZQLAT + 8) * s.ck
  | 3 => 8 * s.ck
  | 4 => (s.oscRunCk c + 32) * s.ck
  | 5 => wrc * s.ck
  | _ => fill * s.ck

/-- The first channel line index of the scratch row (R341). -/
def State.scratchBase (s : State) (c : Nat) : Nat := s.lineCount c - 256

/-- The scratch lines of a rank, in rising order. -/
def State.scratchOf (s : State) (c r : Nat) : List Nat :=
  ((List.range 256).map (s.scratchBase c + ·)).filter fun x => (s.place c x).rank == r

/-- The eight scratch lines of one bank of a rank. -/
def State.scratchBank (s : State) (c r b : Nat) : List Nat := ((s.scratchOf c r).filter fun x => (s.place c x).bank == b).take 8

/-- The lines of a write-read-compare (R421). -/
def State.wrcLines (s : State) (c r : Nat) : List (Bool × Nat) :=
  let xs := s.scratchBank c r ((s.cal c).wrcBank.getD r 0)
  let w := xs.map (true, ·)
  let d := xs.map (false, ·)
  w ++ d ++ w ++ d ++ w

/-- The scratch row of both ranks, to be written or read. -/
def State.rowLines (s : State) (c : Nat) (wr : Bool) : List (Bool × Nat) :=
  (List.range 256).map fun i => (wr, s.scratchBase c + i)

/-- The scratch lines of a retrain: the write-read-compares of its write search, one for each rank, and its scratch row
written anew (R411 phase 3, R421). In TEST the channel is under test control, and no line goes through intake (R310). -/
def State.retrainLines (s : State) (c : Nat) : List (Bool × Nat) :=
  if (s.chan c).state = .test then [] else s.wrcLines c 0 ++ s.wrcLines c 1 ++ s.rowLines c true

/-- A training begins with step 1 of R405, or a retrain with its lines (R411). -/
def startJob (c : Nat) (job : CalJob) (s : State) : State :=
  let lines := match job with | .retrain _ => s.retrainLines c | _ => []
  (s.onChan c fun x => { x with job := job }).onCal c fun x => { x with
    work := lines, checking := [], trainStep := if job = .training then 1 else 0, trainAt := s.rsck }

/-- A granted step begins (R412, R418, R419, R421, R423). A read fill stays to be posted until a window closes (R418). -/
def beginStep (c kind r : Nat) (s : State) : State :=
  let q := quadOf c
  let s := s.onCal c fun x => { x with
    step := some (kind, r), lines := [], booked := x.booked.filter fun e => e = (6, r) || e ≠ (kind, r) }
  match kind with
  | 1 =>
    (startJob c (.retrain false) s).setSt (CH_CALSTAT_RTCAUSE c) (s.cal c).rtCause
  | 5 =>
    let ls := s.wrcLines c r
    s.onCal c fun x => { x with lines := ls, wrcBank := upd x.wrcBank r fun b => (b + 1) % s.bankCount c }
  | 6 =>
    let ls := ((s.scratchOf c r).take (s.cf (QD_CALCFG2_FILLN q))).map fun x => (false, x)
    (s.onCal c fun x => { x with lines := ls }).bump (QD_CALEVT_FILLS q)
  | _ => s

/-- A scratch line of P31 (R406, R425). -/
def scratchLine (c : Nat) (wr : Bool) (x now : Nat) : PerchLine :=
  ⟨31, 0, 0, x, x, 0, wr, if wr then 4 else 1, if wr then Config.scratch c x else 0, BitVec.allOnes 256, .scratch, now, 0, 0⟩

/-- P31 puts its next scratch line into its perch queue: of the booked step, or of unbooked work (R36, R265, R368). -/
def handScratch (c : Nat) (s : State) : State :=
  if (s.perch c 31).length ≥ 4 then s
  else match (s.cal c).lines, (s.cal c).work with
    | (wr, x) :: rest, _ => addPerch c 31 (scratchLine c wr x s.now) (s.onCal c fun y => { y with lines := rest })
    | [], (wr, x) :: rest => addPerch c 31 (scratchLine c wr x s.now) (s.onCal c fun y => { y with work := rest })
    | [], [] => s

/-- No scratch line is on its way. -/
def State.scratchIdle (s : State) (c : Nat) : Bool :=
  (s.perch c 31).isEmpty && !((s.chan c).arb.coming.any (·.port == 31)) && !((s.chan c).ops.any (·.kind == .scratch))

/-- No scratch line of the step is to come or on its way. -/
def State.scratchRest (s : State) (c : Nat) : Bool := (s.cal c).lines.isEmpty && s.scratchIdle c

/-- No scratch line of a training, check or retrain is to come or on its way. -/
def State.calRested (s : State) (c : Nat) : Bool := (s.cal c).work.isEmpty && s.scratchIdle c

/-- Scratch lines not yet done are given up. -/
def dropScratch (c : Nat) (s : State) : State :=
  (s.onCal c fun x => { x with lines := [], work := [], checking := [], trainStep := 0 }).onChan c fun x => { x with
    ops := x.ops.filter (·.kind ≠ .scratch)
    arb := { x.arb with
      perch := upd x.arb.perch 31 fun _ => []
      xfer := x.arb.xfer.filter fun e => e.1.port ≠ 31
      next := x.arb.next.filter fun e => e.1.port ≠ 31 } }

/-- A read fill ends with its last line (R418, R430). -/
def settleFill (c : Nat) (s : State) : State :=
  match (s.cal c).step with
  | some (6, _) => if s.scratchRest c then stepDone c s else s
  | _ => s

/-- A step is abandoned and posted again (R428). -/
def abandonStep (c : Nat) (s : State) : State :=
  match (s.cal c).step with
  | none => s
  | some (kind, r) =>
    let s := bookStep c kind r (s.onCal c fun x => { x with step := none, oscRun := Vector.replicate 2 none })
    dropScratch c (s.onChan c fun x => { x with job := if kind = 1 then .none else x.job })

-- windows and sweeps

/-- Windows and sweeps of a channel are discarded; tracking restarts empty (R428, R429). -/
def discardWindows (c : Nat) (s : State) : State :=
  let fresh (b : BitCal) : BitCal := { b with windows := 0, nextP := false, sweeping := false, left := none, right := none }
  s.onCal c fun x => { x with bits := x.bits.map fresh, sweepOn := false, closedAt := Vector.replicate 2 s.now }

/-- A sweep starts on every bit of the channel (R416). -/
def startSweep (c : Nat) (s : State) : State :=
  if (s.cal c).sweepOn then s
  else
    let h := s.cf (QD_CALCFG_TRKOFS (quadOf c)) + 1
    let start (b : BitCal) : BitCal :=
      { b with sweeping := true, nextP := true, h := h, left := none, right := none, windows := 0 }
    s.onCal c fun x => { x with bits := x.bits.map start, sweepOn := true }

/-- The least of some values with its place; the lowest index on a tie. -/
def leastOf (l : List (Nat × Nat)) : Option (Nat × Nat) :=
  l.foldl (fun best e => match best with
    | none => some e
    | some b => if e.2 < b.2 then some e else some b) none

/-- The read margins of the tracked bits. -/
def State.readMargins (s : State) (c : Nat) : List (Nat × Nat) :=
  (allBits.filter (s.trackedRd c)).map fun i =>
    (i, min (s.st (CH_BM_LEFT c (bitRank i) (bitNum i))) (s.st (CH_BM_RIGHT c (bitRank i) (bitNum i))))

def State.writeMargins (s : State) (c : Nat) : List (Nat × Nat) :=
  (allBits.filter (s.trackedWr c)).map fun i => (i, s.st (CH_BM_WMARGIN c (bitRank i) (bitNum i)))

/-- The wear measure of a margin (R447): consecutive margins below a threshold. -/
def wearMargin (c cause margin thr count : Nat) (set : Nat → State → State) (s : State) : State :=
  if thr = 0 then s
  else if margin ≥ thr then set 0 s
  else
    let s := set (count + 1) s
    if s.wears c ∧ count + 1 ≥ s.eyeN then becomeWearing c cause s else s

/-- EYE, WBIT, WRANK and VALID after a sweep of every tracked bit (R417, R447). -/
def showEye (c : Nat) (s : State) : State :=
  match leastOf (s.readMargins c) with
  | none => s
  | some (i, m) =>
    let s := ((s.setSt (CH_MARGIN_EYE c) m).setSt (CH_MARGIN_WBIT c) (bitNum i)).setSt (CH_MARGIN_WRANK c) (bitRank i)
    let s := stampCal (quadOf c) ((s.setSt (CH_MARGIN_VALID c) 1).bump (QD_CALEVT_SWEEPS (quadOf c)))
    wearMargin c 3 m (s.cf FT_WEARCFG1_EYETHR) (s.cal c).lowEye
      (fun n s => s.onCal c fun x => { x with lowEye := n }) s

/-- WEYE (R421). -/
def showWeye (c : Nat) (s : State) : State :=
  match leastOf (s.writeMargins c) with
  | none => s
  | some (_, m) => s.setSt (CH_MARGIN_WEYE c) m

/-- The sweep of the channel ends when that of every tracked bit has (R417). -/
def settleSweep (c : Nat) (s : State) : State :=
  if (s.cal c).sweepOn && allBits.all fun i => !s.trackedRd c i || !(s.bitCal c i).sweeping then
    showEye c (s.onCal c fun x => { x with
      sweepOn := false, bits := x.bits.map fun b => { b with sweeping := false, nextP := false, windows := 0 } })
  else s

/-- A P window has closed (R416, R417). -/
def closeSweep (c i n errE errL : Nat) (s : State) : State :=
  let b := s.bitCal c i
  let edge (found : Option Nat) (err : Nat) : Option Nat :=
    found.or (if err > n >>> s.cf (QD_CALCFG_ERRSH (quadOf c)) then some (b.h - 1) else if b.h ≥ 63 then some 63 else none)
  let l := edge b.left errE
  let r := edge b.right errL
  match l, r with
  | some lv, some rv =>
    let s := (s.setSt (CH_BM_LEFT c (bitRank i) (bitNum i)) lv).setSt (CH_BM_RIGHT c (bitRank i) (bitNum i)) rv
    let s := s.onBit c i fun b => { b with left := l, right := r, sweeping := false, nextP := false }
    settleSweep c (if lv = 0 ∨ rv = 0 then requestRetrain c 2 s else s)
  | _, _ => s.onBit c i fun b => { b with left := l, right := r, h := b.h + 1, nextP := false }

/-- A T window has closed: the tracker moves the target (R415). Those within a sweep do not count towards the next (R416). -/
def closeTrack (c i n errE errL : Nat) (s : State) : State :=
  let t := (s.bitCal c i).tgtRd
  let s := s.onBit c i fun b => { b with
    windows := if (s.cal c).sweepOn then 0 else b.windows + 1, nextP := b.sweeping }
  let apart := if errE ≥ errL then errE - errL else errL - errE
  if apart ≤ n >>> s.cf (QD_CALCFG_THR (quadOf c)) then s
  else if errL > errE then (if t = 0 then limitReached c s else s.onBit c i fun b => { b with tgtRd := t - 1 })
  else if t ≥ 511 then limitReached c s else s.onBit c i fun b => { b with tgtRd := t + 1 }

-- results of training, checks and retrains

/-- The least margin each tracked bit must keep. -/
def State.marginsPass (s : State) (c least : Nat) (f : CalFound) : Bool :=
  allBits.all fun i =>
    (!s.trackedRd c i || (least ≤ f.left.getD i 0 && least ≤ f.right.getD i 0)) &&
      (!s.trackedWr c i || least ≤ f.wmargin.getD i 0)

/-- Rank-level delays found, into the set in force (R402, R427). A retrain moves the read VREF of a lane only where its
search has found no edge on a side, and no DRAM VREF (R405, R411). -/
def putSet (c : Nat) (training : Bool) (f : CalFound) (s : State) : State :=
  let o := s.setOf c s.op.cur
  let rv (i : Nat) : Nat := if training || f.noEdge.getD i false then f.rv.getD i 0 % 128 else o.rv.getD i 0
  let d : DelaySet := ⟨Vector.ofFn fun i => f.wck.getD i.val 0 % 512, Vector.ofFn fun i => f.rdqs.getD i.val 0 % 512,
    f.ca % 512, f.cs % 512, Vector.ofFn fun i => rv i.val,
    if training then Vector.ofFn fun i => f.dv.getD i.val 0 % 128 else o.dv, true⟩
  s.onCal c fun x => { x with sets := upd x.sets s.op.cur fun _ => d }

/-- A value found lies within the 32 taps on either side of the present one that a retrain searches (R411). -/
def inReach (now found : Nat) : Bool := found ≤ now + 32 && now ≤ found + 32

/-- The delays found are ones that the searches of a retrain reach (R411). -/
def State.retrainReach (s : State) (c : Nat) (f : CalFound) : Bool :=
  let d := s.setOf c s.op.cur
  ((List.range 4).all fun i => inReach (d.wck.getD i 0) (f.wck.getD i 0) && inReach (d.rdqs.getD i 0) (f.rdqs.getD i 0)) &&
    allBits.all fun i => (!s.trackedRd c i || inReach (s.st (s.rdField c i)) (f.rd.getD i 0)) &&
      (!s.trackedWr c i || inReach (s.st (s.wrField c i)) (f.wr.getD i 0))

/-- Per-bit results as actual and target values, with the margins found and a new oscillator baseline (R407, R411, R420,
R421). Training sets every bit; a retrain leaves untracked bits as they are (R404). -/
def putResults (c : Nat) (training : Bool) (f : CalFound) (s : State) : State :=
  let s := putSet c training f s
  let s := allBits.foldl (fun s i =>
    let m := min 63 (f.wmargin.getD i 0)
    let s := if training || s.trackedRd c i then
        let s := s.setSt (s.rdField c i) (f.rd.getD i 0 % 512)
        let s := (s.setSt (CH_BM_LEFT c (bitRank i) (bitNum i)) (min 63 (f.left.getD i 0))).setSt
          (CH_BM_RIGHT c (bitRank i) (bitNum i)) (min 63 (f.right.getD i 0))
        s.onBit c i fun b => { b with tgtRd := f.rd.getD i 0 % 512 }
      else s
    if training || s.trackedWr c i then
      let s := (s.setSt (s.wrField c i) (f.wr.getD i 0 % 512)).setSt (CH_BM_WMARGIN c (bitRank i) (bitNum i)) m
      s.onBit c i fun b => { b with tgtWr := f.wr.getD i 0 % 512, probe := m, margin := m }
    else s) s
  let s := [0, 1].foldl (fun s r => (s.setSt (CH_OSC_BASE c r) (f.osc.getD r 0)).setSt (ofsField c r) 0) s
  showWeye c (discardWindows c s)

/-- Test control writes the scratch row of both ranks with its pattern, in a retrain (R310, R411). -/
def writeScratch (c : Nat) (s : State) : State :=
  (List.range 256).foldl (fun s i =>
    let x := s.scratchBase c + i
    (List.range 4).foldl (fun s k => s.setBurst c x k (burstOf (Config.scratch c x) k)) s) s

/-- After a training the first column command needs its CAS anew (R301). -/
def restartWck (c : Nat) (s : State) : State := s.onRanks c fun k => { k with wckOn := false, wckAt := none }

/-- Initial training passes (R407). -/
def State.trainPass (s : State) (c : Nat) (f : CalFound) : Bool :=
  f.failStep == 0 && s.marginsPass c (s.cf (QD_CALLIM_MINTRAIN (quadOf c))) f

/-- The result of the initial training of a channel (R407, R457). A thin margin at step 9 fails step 9. -/
def trainDone (c : Nat) (f : CalFound) (s : State) : State :=
  let s := dropScratch c (restartWck c (s.onChan c fun x => { x with job := .none }))
  if s.trainPass c f then showEye c (putResults c true f (s.setSt (CH_CALSTAT_TRAINED c) 1))
  else
    let s := s.setSt (CH_CALSTAT_FAILSTEP c) (if f.failStep = 0 then 9 else f.failStep)
    (s.setSt (CH_CALSTAT_FAILRANK c) f.failRank).onChan c fun x => { x with failed := true }

/-- A check passes on a rank (R409). -/
def State.checkPass (s : State) (c r : Nat) (f : CalFound) : Bool :=
  let live := (s.setOf c s.op.cur).wck
  let tol := s.cf (QD_CALLIM_LVTOL (quadOf c))
  let least := s.cf (QD_CALLIM_MINCHK (quadOf c))
  f.failStep == 0 &&
    [0, 1].all (fun lane =>
      let a := live.getD (2 * r + lane) 0
      let b := f.wck.getD (2 * r + lane) 0
      a ≤ b + tol && b ≤ a + tol) &&
    (List.range 18).all fun b => !s.trackedRd c (18 * r + b) ||
      (least ≤ f.left.getD (18 * r + b) 0 && least ≤ f.right.getD (18 * r + b) 0)

/-- A channel goes into an in-place retrain after a failed check (R410). -/
def retrainInPlace (c : Nat) (s : State) : State :=
  (startJob c (.retrain true) s).setSt (CH_CALSTAT_RTCAUSE c) 5

/-- The ranks of a channel that are due a check. -/
def State.checkRanks (s : State) (c : Nat) : List Nat := [0, 1].filter fun r => (s.rank c r).check

/-- Both or one of the ranks of a channel are awake and past their exit times, a check that is due apart. -/
def State.checkUp (s : State) (c r : Nat) : Bool := s.rankUp { s.rank c r with check := false }

/-- A check names its eight scratch lines of each rank due, once the rank is awake (R409); one no longer due names none. -/
def settleCheck (c : Nat) (s : State) : State :=
  let due := s.checkRanks c
  let kept := (s.cal c).checking.filter due.contains
  let on := (s.chan c).job == .none && (s.chan c).state ≠ .test && s.quadLives (quadOf c)
  let more := if on then due.filter fun r => !kept.contains r && s.checkUp c r else []
  if kept.length = (s.cal c).checking.length ∧ more.isEmpty then s
  else s.onCal c fun x => { x with
    checking := kept ++ more
    work := (if due.isEmpty && on then [] else x.work) ++
      more.flatMap fun r => ((s.scratchOf c r).take 8).map fun x => (false, x) }

/-- The scratch lines of a check have been read; a channel in TEST is under test control (R310, R409). -/
def State.checkRead (s : State) (c : Nat) : Bool :=
  (s.chan c).state == .test || ((s.checkRanks c).all (s.cal c).checking.contains && s.calRested c)

/-- A check has run on the ranks due: their WCK delays take the edges found, and a failure calls the in-place retrain (R409,
R410, R427). -/
def checkDone (c : Nat) (f : CalFound) (s : State) : State :=
  let rs := s.checkRanks c
  let pass := rs.all fun r => s.checkPass c r f
  let s := (stampCal (quadOf c) (s.bump (QD_CALCNT_CHECKS (quadOf c)))).onRanks c fun k => { k with check := false }
  let s := s.onCal c fun x => { x with checking := [] }
  if pass then
    rs.foldl (fun s r => [0, 1].foldl (fun s lane =>
      s.onCal c fun x => { x with sets := upd x.sets s.op.cur fun d => { d with
        wck := upd d.wck (2 * r + lane) fun _ => f.wck.getD (2 * r + lane) 0 % 512 } }) s) s
  else retrainInPlace c s

/-- A retrain passes (R411). -/
def State.retrainPass (s : State) (c : Nat) (f : CalFound) : Bool :=
  f.failStep == 0 && s.marginsPass c (s.cf (QD_CALLIM_MINCHK (quadOf c))) f

/-- A retrain has run (R411, R430, R431). -/
def retrainDone (c : Nat) (f : CalFound) (s : State) : State :=
  let booked := match (s.chan c).job with | .retrain inPlace => !inPlace | _ => false
  let cause := s.st (CH_CALSTAT_RTCAUSE c)
  let pass := s.retrainPass c f
  let s := stampCal (quadOf c) (s.bump (QD_CALCNT_RETRAINS (quadOf c)))
  let s := if booked then stepDone c s else s
  let s := if (s.chan c).state = .test then writeScratch c s else s
  let s := dropScratch c (restartWck c (s.onChan c fun x => { x with job := .none }))
  let s := s.setSt (CH_CALSTAT_RTPASS c) (b2n pass)
  if pass then raise .retrain c cause (putResults c false f s) else retrainFailed c s

-- write tracking

/-- The value of an 8-bit two's complement field. -/
def State.ofs (s : State) (c r : Nat) : Int :=
  let v := s.st (ofsField c r)
  if v < 128 then v else (v : Int) - 256

/-- A quotient rounded to the nearest whole number, halves away from 0 (R420). -/
def roundDiv (n : Int) (d : Nat) : Int :=
  let m := (2 * n.natAbs + d) / (2 * d)
  if n < 0 then -(m : Int) else m

/-- A kept oscillator count (R420): the common write offset of the rank follows it. The offset
from a count and a baseline of 0 is free, and so is what CHn_WOFS holds of one beyond its 8 bits (assumption 51). -/
def oscCount (c r count : Nat) (s : State) : State :=
  let base := s.st (CH_OSC_BASE c r)
  let s := s.setSt (CH_OSC_COUNT c r) count
  let apart := if count ≥ base then count - base else base - count
  if apart * 8 > base then requestRetrain c 3 s
  else
    let delta := if count = 0 then Config.zeroCount (s.cf (CH_OSCCFG_K c))
      else roundDiv ((s.cf (CH_OSCCFG_K c) : Int) * ((base : Int) - count)) count
    let move := delta - s.ofs c r
    let bits := allBits.filter fun i => bitRank i == r && s.trackedWr c i
    let out (i : Nat) : Bool :=
      let t := ((s.bitCal c i).tgtWr : Int) + move
      t < 0 || 511 < t
    if bits.any out then requestRetrain c 1 s
    else
      let s := bits.foldl (fun s i => s.onBit c i fun b => { b with tgtWr := ((b.tgtWr : Int) + move).toNat }) s
      s.setSt (ofsField c r)
        (if -128 ≤ delta ∧ delta ≤ 127 then ((delta + 256) % 256).toNat else Config.wideOffset delta % 256)

/-- The outcome of a compare at one bit: the margin is the largest h at which both sides last passed, so that a failure at h
on either side takes it below h (R421). -/
def wrcBit (c i : Nat) (lo hi : Bool) (s : State) : State :=
  let b := s.bitCal c i
  let s := if lo && hi then s else s.onBit c i fun b => { b with margin := min b.margin (b.probe - 1) }
  match lo, hi with
  | true, true => s.onBit c i fun b => { b with margin := b.probe, probe := min 63 (b.probe + 1) }
  | false, false =>
    if b.probe = 0 then requestRetrain c 2 s else s.onBit c i fun b => { b with probe := b.probe - 1 }
  | false, true =>
    if b.tgtWr ≥ 511 then requestRetrain c 1 s else s.onBit c i fun b => { b with tgtWr := b.tgtWr + 1 }
  | true, false =>
    if b.tgtWr = 0 then requestRetrain c 1 s else s.onBit c i fun b => { b with tgtWr := b.tgtWr - 1 }

/-- A write-read-compare has run on a rank (R421, R447). -/
def wrcDone (c r : Nat) (pass : List (Bool × Bool)) (s : State) : State :=
  let s := (List.range 18).foldl (fun s b =>
    let i := 18 * r + b
    if s.trackedWr c i then
      let p := pass.getD b (false, false)
      let s := wrcBit c i p.1 p.2 s
      s.setSt (CH_BM_WMARGIN c r b) (s.bitCal c i).margin
    else s) s
  let s := showWeye c (stepDone c s)
  wearMargin c 4 (s.st (CH_MARGIN_WEYE c)) (s.cf FT_WEARCFG1_WEYETHR) (s.cal c).lowWr
    (fun n s => s.onCal c fun x => { x with lowWr := n }) s

-- corrections

/-- DQ carries data in one direction in this cc. -/
def State.laneBusy (s : State) (c : Nat) (wr : Bool) : Bool :=
  (s.chan c).dq.any fun e => e.2.2 == wr && e.1 ≤ s.now && s.now < e.2.1

/-- One step towards a target. -/
def toward (v t : Nat) : Nat := if v < t then v + 1 else if v > t then v - 1 else v

def codeField (q c : Nat) : Field := match c with | 0 => QD_PHYCODE_PU q | 1 => QD_PHYCODE_PD q | _ => QD_PHYCODE_ODT q

/-- A move is counted (R426). -/
def countMove (q : Nat) (s : State) : State := s.bump (QD_CALTAPS_MOVES q)

/-- A PHY code moves; one that reaches an end of its range is a fault (R422). -/
def moveCode (q c : Nat) (s : State) : State :=
  let v := toward (s.st (codeField q c)) ((s.quad q).codeTgt.getD c 0)
  let s := s.onQuad q fun x => { x with codeAt := upd x.codeAt c fun _ => s.now }
  let s := countMove q (s.setSt (codeField q c) v)
  if v = 0 ∨ v = 63 then raise .phycode q c (s.bump (QD_CALEVT_CODEEND q)) else s

-- pause

/-- PAUSE is written 1: bookings not yet granted are withdrawn, and with them the periodic steps, while a requested retrain
and a ZQ latch owed wait (R412, R423, R429). -/
def calPause (q : Nat) (s : State) : State :=
  let cs := quadChans q
  let s := (s.setCf (QD_CALCTL_PAUSE q) 1).unpost fun b =>
    (match b.work with | .calStep _ => true | _ => false) && cs.any fun c => b.scope == .chan c
  let held (c : Nat) (e : Nat × Nat) : Bool :=
    s.brk.granted.any fun g => g.book.work == .calStep e.1 && g.book.unit == 2 * c + e.2
  cs.foldl (fun s c => discardWindows c (s.onCal c fun x => { x with
    booked := x.booked.filter fun e => e.1 ≤ 2 || held c e })) s

/-- PAUSE returns to 0: windows restart empty and every interval restarts (R429). -/
def calUnpause (q : Nat) (s : State) : State :=
  let s := s.setCf (QD_CALCTL_PAUSE q) 0
  let s := s.onQuad q fun x => { x with zqAt := s.now }
  (quadChans q).foldl (fun s c => (discardWindows c s).onCal c fun x => { x with
    oscAt := Vector.replicate 2 s.now, wrcAt := Vector.replicate 2 s.now }) s

-- meanings

/-- A window of a bit closes with its disagreements (R413–R417). -/
def execCalWindowClose (ch : Fin 16) (bit : Fin 36) (errE errL : Nat) (s : State) : Host.Outcome State Fault Refusal :=
  let r := bitRank bit
  let n := 2 ^ s.cf (QD_CALCFG_WIN (quadOf ch))
  if s.calWorks ch r ∧ s.trackedRd ch bit ∧ errE ≤ n ∧ errL ≤ n then
    let s := s.onCal ch fun x => { x with
      closedAt := upd x.closedAt r fun _ => s.now, booked := x.booked.filter (· ≠ (6, r)) }
    let s := s.unpost fun b => b.work == .calStep 6 && b.unit == 2 * ch + r
    let b := s.bitCal ch bit
    .next (if b.sweeping && b.nextP then closeSweep ch bit n errE errL s else closeTrack ch bit n errE errL s)
  else .next s

/-- The slowest bit has closed MPER T windows since the last sweep (R416). -/
def execPeriodicSweep (ch : Fin 16) (s : State) : Host.Outcome State Fault Refusal :=
  let n := s.cf (QD_CALCFG_MPER (quadOf ch))
  let ready := allBits.all fun i => !s.trackedRd ch i || n ≤ (s.bitCal ch i).windows
  .next (if s.calWorks ch 0 && s.calWorks ch 1 && n ≠ 0 && ready then startSweep ch s else s)

/-- A write of 1 to QDn_CALCTL.SWEEP (R416). -/
def sweepQuad (q : Nat) (s : State) : State :=
  (quadChans q).foldl (fun s c => if (s.chan c).inService then startSweep c s else s) s

def execSweep (q : Fin 4) (s : State) : Host.Outcome State Fault Refusal :=
  .next (if s.clocked ∧ !s.paused q then sweepQuad q s else s)

/-- A write of 1 to a bit of QDn_CALCTL.RETRAIN (R412). -/
def execRetrain (ch : Fin 16) (s : State) : Host.Outcome State Fault Refusal :=
  .next (if s.clocked then requestRetrain ch 4 s else s)

/-- A write of 1 to QDn_CALCTL.PAUSE (R429). -/
def execCalPause (q : Fin 4) (s : State) : Host.Outcome State Fault Refusal :=
  .next (if s.clocked ∧ !s.paused q then calPause q s else s)

/-- A write of 0 to QDn_CALCTL.PAUSE (R429). -/
def execCalUnpause (q : Fin 4) (s : State) : Host.Outcome State Fault Refusal :=
  .next (if s.clocked ∧ s.paused q then calUnpause q s else s)

/-- No window of a rank has closed for STALE × 16 µs: fills are posted (R418). -/
def execStaleExpiry (ch : Fin 16) (r : Fin 2) (s : State) : Host.Outcome State Fault Refusal :=
  let n := s.cf (QD_CALCFG2_STALE (quadOf ch))
  .next (if s.calWorks ch r ∧ (s.chan ch).inService ∧ n ≠ 0 ∧
      (s.cal ch).closedAt.getD r 0 + s.usCc (16 * n) ≤ s.now then bookStep ch 6 r s else s)

/-- OSCINT × 100 µs have passed (R419). -/
def execOscillatorInterval (ch : Fin 16) (r : Fin 2) (s : State) : Host.Outcome State Fault Refusal :=
  let n := s.cf (QD_CALPER_OSCINT (quadOf ch))
  .next (if s.calBooks ch ∧ n ≠ 0 ∧ (s.cal ch).oscAt.getD r 0 + s.usCc (100 * n) ≤ s.now then
    bookStep ch 4 r (s.onCal ch fun x => { x with oscAt := upd x.oscAt r fun _ => s.now }) else s)

/-- The oscillator has run its time and its count is read (R419, R420). -/
def execOscillatorCount (ch : Fin 16) (r : Fin 2) (count : BitVec 16) (s : State) : Host.Outcome State Fault Refusal :=
  if s.chosen ch = some (.osc r) then
    let s := s.onCal ch fun x => { x with oscRun := upd x.oscRun r fun _ => none }
    .next (oscCount ch r count.toNat (stepDone ch (s.takeSlot ch 1)))
  else .next s

/-- WRCINT ms have passed (R421). -/
def execWriteReadCompareInterval (ch : Fin 16) (r : Fin 2) (s : State) : Host.Outcome State Fault Refusal :=
  let n := s.cf (QD_CALPER_WRCINT (quadOf ch))
  .next (if s.calBooks ch ∧ n ≠ 0 ∧ (s.cal ch).wrcAt.getD r 0 + s.usCc (1000 * n) ≤ s.now then
    bookStep ch 5 r (s.onCal ch fun x => { x with wrcAt := upd x.wrcAt r fun _ => s.now }) else s)

/-- A compare has run through its lines, with the outcome of each bit at − h and + h (R421). -/
def execWriteReadCompareDone (ch : Fin 16) (r : Fin 2) (pass : List (Bool × Bool)) (s : State) :
    Host.Outcome State Fault Refusal :=
  .next (if s.clocked ∧ (s.cal ch).step = some (5, r.val) ∧ s.scratchRest ch then wrcDone ch r pass s else s)

/-- ZQINT ms have passed: the PHY's new codes are known, and a ZQ start falls due on every rank (R422, R423). -/
def zqInterval (q : Nat) (codes : Vector Nat 3) (s : State) : State :=
  let s := s.onQuad q fun x => { x with zqAt := s.now, codeTgt := codes }
  (ranksOf ((quadChans q).filter s.calBooks)).foldl (fun s e => zqDue e.1 e.2 s) s

def execZqInterval (q : Fin 4) (pu pd odt : BitVec 6) (s : State) : Host.Outcome State Fault Refusal :=
  let n := s.cf (QD_CALPER_ZQINT q)
  .next (if s.quadRuns q ∧ !s.paused q ∧ n ≠ 0 ∧ s.clk.startStep = 0 ∧ (s.quad q).zqAt + s.usCc (1000 * n) ≤ s.now then
    zqInterval q #v[pu.toNat, pd.toNat, odt.toNat] s else s)

/-- ZQ calibration start, in its booking (R423). -/
def execZqCalibrationStart (ch : Fin 16) (r : Fin 2) (s : State) : Host.Outcome State Fault Refusal :=
  if s.chosen ch = some (.zqStart r) then
    .next (stepDone ch ((s.onRank ch r fun k => { k with zqStart := some s.now, zqReady := false }).takeSlot ch 1))
  else .next s

/-- ZQCAL has run after the start: the latch is posted (R423). -/
def execZqcalExpiry (ch : Fin 16) (r : Fin 2) (s : State) : Host.Outcome State Fault Refusal :=
  let k := s.rank ch r
  .next (if s.clocked ∧ k.zqStart.isSome ∧ s.due k.zqStart (s.tm ch CH_TZQ_ZQCAL) then
    bookStep ch 2 r (s.onRank ch r fun k => { k with zqStart := none, zqReady := true }) else s)

/-- ZQ latch, in its booking; one later than ZQINT counts (R423). -/
def execZqLatch (ch : Fin 16) (r : Fin 2) (s : State) : Host.Outcome State Fault Refusal :=
  let q := quadOf ch
  if s.chosen ch = some (.zqLatch r) then
    let due := (s.cal ch).zqAt.getD r 0 + s.tm ch CH_TZQ_ZQCAL * s.ck + s.usCc (1000 * s.cf (QD_CALPER_ZQINT q))
    let s := if due < s.now then s.bump (QD_CALEVT_LATE q) else s
    let s := s.onCal ch fun x => { x with zqOwed := upd x.zqOwed r fun _ => false }
    .next (stepDone ch ((s.onRank ch r fun k => { k with zqReady := false, zqLatch := some s.now }).takeSlot ch 1))
  else .next s

/-- A delay or code moves one step towards its target (R426). -/
def execTapMove (t : TapId) (s : State) : Host.Outcome State Fault Refusal :=
  match t with
  | .read ch bit =>
    let b := s.bitCal ch bit
    let v := s.st (s.rdField ch bit)
    if s.calWorks ch (bitRank bit) ∧ v ≠ b.tgtRd ∧ b.movedRd + 256 ≤ s.now ∧ !s.laneBusy ch false then
      .next (countMove (quadOf ch) ((s.setSt (s.rdField ch bit) (toward v b.tgtRd)).onBit ch bit fun b => { b with
        movedRd := s.now }))
    else .next s
  | .write ch bit =>
    let b := s.bitCal ch bit
    let v := s.st (s.wrField ch bit)
    if s.calWorks ch (bitRank bit) ∧ v ≠ b.tgtWr ∧ b.movedWr + 256 ≤ s.now ∧ !s.laneBusy ch true then
      .next (countMove (quadOf ch) ((s.setSt (s.wrField ch bit) (toward v b.tgtWr)).onBit ch bit fun b => { b with
        movedWr := s.now }))
    else .next s
  | .code q c =>
    let x := s.quad q
    let busy := (quadChans q).any fun ch => s.laneBusy ch false || s.laneBusy ch true
    if s.quadRuns q ∧ !s.paused q ∧ s.st (codeField q c) ≠ x.codeTgt.getD c 0 ∧ x.codeAt.getD c 0 + 256 ≤ s.now ∧ !busy then
      .next (moveCode q c s)
    else .next s

end Sys2Proof.Machine
end

