-- ==== Sys2Proof/Machine/Perf.lean ====
section
/-!
DEFINITION. Performance counters (R508–R518), and the acknowledgements and clears of the fault registers (R438, R446,
R363).
-/

namespace Sys2Proof.Machine

-- counters

def ctrNum : CounterId → Nat
  | .port p k => 4 * p + k
  | .chan c k => 128 + 4 * c + k
  | .bushel j => 192 + j

def ctrLo : CounterId → Field
  | .port p k => PT_PML_CNT_LO p k
  | .chan c k => CH_PML_CNT_LO c k
  | .bushel j => PM_CNTL_CNT_LO j

def ctrHi : CounterId → Field
  | .port p k => PT_PMH_CNT_HI p k
  | .chan c k => CH_PMH_CNT_HI c k
  | .bushel j => PM_CNTH_CNT_HI j

/-- The overflow flags that hold a counter's bit, its enables, and the number of the bit. -/
def ctrOvf : CounterId → Field × Nat
  | .port p k => (PT_PMOVF_OVF p, k)
  | .chan c k => (CH_PMOVF_OVF c, k)
  | .bushel j => (PM_STAT_OVF, j)

def ctrEn : CounterId → Field
  | .port p _ => PT_PMCTL_EN p
  | .chan c _ => CH_PMCTL_EN c
  | .bushel _ => PM_EN_EN

def ctrOvie : CounterId → Field
  | .port p _ => PT_PMCTL_OVIE p
  | .chan c _ => CH_PMCTL_OVIE c
  | .bushel _ => PM_EN_OVIE

def ctrSel : CounterId → Field
  | .port p k => (match k with | 0 => PT_PMSEL_EV0 p | 1 => PT_PMSEL_EV1 p | 2 => PT_PMSEL_EV2 p | 3 => PT_PMSEL_EV3 p)
  | .chan c k => (match k with | 0 => CH_PMSEL_EV0 c | 1 => CH_PMSEL_EV1 c | 2 => CH_PMSEL_EV2 c | 3 => CH_PMSEL_EV3 c)
  | .bushel j => PM_SEL_EV j

def allCounters : List CounterId :=
  ((List.finRange 32).flatMap fun p => (List.finRange 4).map (.port p)) ++
    ((List.finRange 16).flatMap fun c => (List.finRange 4).map (.chan c)) ++ (List.finRange 16).map .bushel

def State.counter (s : State) (c : CounterId) : Nat := s.cf (ctrHi c) * 2 ^ 32 + s.cf (ctrLo c)

def setCounter (c : CounterId) (v : Nat) (s : State) : State := (s.setCf (ctrLo c) (v % 2 ^ 32)).setCf (ctrHi c) (v / 2 ^ 32)

-- events (R511)

/-- The events that are levels rather than occurrences, at a unit in this cc. -/
def State.levelEvent (s : State) (ev unit : Nat) : Nat :=
  match ev with
  | 0x01 => 1
  | 0x0D => b2n ((s.port unit).reqs.any fun r => r.stage == .gate)
  | 0x0E => b2n (s.perchBlocked unit)
  | 0x10 => (s.chans.toList.map fun c => (c.ops.filter fun o => o.kind == .read && o.port == unit).length).sum
  | 0x11 => b2n (unit < 4 && s.pins.ingHold.getLsbD unit)
  | 0x48 => b2n (s.ckBegins && (s.chan unit).dq.any fun e => e.1 ≤ s.now && s.now < e.2.1)
  | 0x4D => b2n ((s.chan unit).haz .shared ≥ 122)
  | 0x4F => b2n (s.ckBegins && (s.chan unit).ranks.any fun k => k.power ≠ .active)
  | _ => 0

/-- The most an event adds in a cc (R511). -/
def evMax (ev : Nat) : Nat :=
  if ev = 0x10 then 8192 else if ev = 0x04 ∨ ev = 0x05 ∨ ev = 0x06 ∨ ev = 0x09 then 16 else 1

/-- The events noted at a unit and not yet counted. -/
def State.noted (s : State) (ev unit : Nat) : Nat :=
  ((s.perf.evts.filter fun e => e.1 == ev && e.2.1 == unit).map (·.2.2)).sum

/-- The occurrences of an event at a unit in this cc. -/
def State.occurred (s : State) (ev unit : Nat) : Nat := min (evMax ev) (s.levelEvent ev unit + s.noted ev unit)

/-- What is left of the events noted: the beats of a chunk, and evictions and writebacks that begin at once, come one a cc,
so that those beyond the range of R511 count in the cc that follow (assumption 52). A stalled request is a cc, not an
occurrence. -/
def State.leftEvents (s : State) : List (Nat × Nat × Nat) :=
  let keys := (s.perf.evts.map fun e => (e.1, e.2.1)).dedup
  keys.filterMap fun e =>
    let n := s.noted e.1 e.2 - evMax e.1
    if e.1 = Ev.qstall.num ∨ n = 0 then none else some (e.1, e.2, n)

def portEvent (ev : Nat) : Bool := 0x02 ≤ ev && ev ≤ 0x11

def chanEvent (ev : Nat) : Bool := 0x40 ≤ ev && ev ≤ 0x4F

/-- The selection a counter's registers hold: event, unit and ALLU. -/
def State.selects (s : State) (c : CounterId) : Nat × Nat × Bool :=
  match c with
  | .bushel j => (s.cf (ctrSel c), s.cf (PM_SEL_UNIT j), s.on (PM_SEL_ALLU j))
  | _ => (s.cf (ctrSel c), 0, false)

/-- The selection in force in this cc: a change takes effect from the next (R510). -/
def State.selected (s : State) (c : CounterId) : Nat × Nat × Bool :=
  match s.perf.sels.find? (·.1 == ctrNum c) with
  | some e => e.2
  | none => s.selects c

/-- The occurrences of this cc that a counter counts, whether or not it is enabled (R508–R510, R517). -/
def State.adds (s : State) (c : CounterId) : Nat :=
  let (ev, u, all) := s.selected c
  match c with
  | .port p _ => if ev = 1 then 1 else if portEvent ev then s.occurred ev p else 0
  | .chan n _ => if ev = 1 then 1 else if chanEvent ev then s.occurred ev n else 0
  | .bushel _ =>
    if ev = 1 then 1
    else if portEvent ev then (if all then ((List.range 30).map (s.occurred ev)).sum else s.occurred ev u)
    else if chanEvent ev then
      (if all then ((List.range 16).map (s.occurred ev)).sum else if u < 16 then s.occurred ev u else 0)
    else 0

/-- A register of the bushel's window has been found with a mismatch: its values and snapshots stay (R172, R518). -/
def State.bushelKept (s : State) : Bool := s.frozen.any fun a => 0x3000 ≤ a && a < 0x4000

/-- The bushel does not count: frozen since an earlier cc, or after a parity mismatch in its window (R515, R518). -/
def State.bushelStopped (s : State) : Bool :=
  s.perf.frozen || s.bushelKept

/-- A counter takes the events of this cc. -/
def State.counts_ (s : State) (c : CounterId) : Bool :=
  natBit (s.cf (ctrEn c)) (ctrOvf c).2 && !s.perf.done.contains (ctrNum c) &&
    (match c with | .bushel _ => !s.bushelStopped | _ => true)

/-- A counter has wrapped: OVF, the skid towards PMOVF, and the freeze, over which a host write of the cc wins (R158, R509,
R514, R515). -/
def wrapped (c : CounterId) (s : State) : State :=
  let s := s.setBit (ctrOvf c).1 (ctrOvf c).2
  let s := if natBit (s.cf (ctrOvie c)) (ctrOvf c).2 && s.perf.ovf.isNone then s.onPerf fun f => { f with ovf := some (s.now, 0) } else s
  match c with
  | .bushel _ => if s.on PM_CTL_FRZOVF ∧ !s.perf.hostFreeze then s.setCf PM_CTL_FREEZE 1 else s
  | _ => s

/-- The occurrences of this cc that a counter has added already. -/
def State.taken (s : State) (c : CounterId) : Nat := ((s.perf.taken.find? (·.1 == ctrNum c)).map (·.2)).getD 0

/-- The occurrences of this cc that a counter has yet to add. -/
def State.owed (s : State) (c : CounterId) : Nat := if s.counts_ c then s.adds c - s.taken c else 0

/-- A counter adds the events of this cc. -/
def countNow (c : CounterId) (s : State) : State :=
  let n := s.owed c
  if n = 0 then s
  else
    let v := s.counter c + n
    let s := setCounter c (v % 2 ^ 48) (s.onPerf fun f => { f with taken := (ctrNum c, s.adds c) :: f.taken })
    if v ≥ 2 ^ 48 then wrapped c s else s

/-- A counter takes no events in this cc. -/
def settled (c : CounterId) (s : State) : State :=
  s.onPerf fun f => { f with done := (ctrNum c) :: f.done, taken := f.taken.filter (·.1 ≠ ctrNum c) }

/-- The end of a cc: every counter adds, and the freeze takes effect from the next cc. -/
def countAll (s : State) : State :=
  let left := s.leftEvents
  let s := allCounters.foldl (fun s c => countNow c s) s
  let s := s.onPerf fun f => { f with evts := left, done := [], taken := [], sels := [], hostFreeze := false, frozen := s.on PM_CTL_FREEZE }
  match s.perf.ovf with
  | some (t, _) => if t + 256 ≤ s.now then event .pmovf (s.onPerf fun f => { f with ovf := none }) else s
  | none => s

-- writes

/-- A write to a low register is held; one held for another counter of the window is dropped (R513). -/
def holdLow (c : CounterId) (d : Word) (s : State) : State :=
  s.onPerf fun f => { f with held := (f.held.filter fun e => winOf e.1 ≠ winOf (ctrLo c).addr) ++ [((ctrLo c).addr, d)] }

/-- A write to a high register writes both halves; it wins over an event (R513, R518). -/
def writeHigh (c : CounterId) (d : Word) (s : State) : State :=
  let low := ((find s.perf.held (ctrLo c).addr).getD 0).toNat
  let s := s.onPerf fun f => { f with held := f.held.filter fun e => winOf e.1 ≠ winOf (ctrLo c).addr }
  settled c (setCounter c (d.toNat % 2 ^ 16 * 2 ^ 32 + low) s)

/-- A new selection takes effect from the next cc (R510): the one that stood holds until then. -/
def beforeSelect (c : CounterId) (s : State) : State :=
  if s.perf.sels.any (·.1 == ctrNum c) then s else s.onPerf fun f => { f with sels := (ctrNum c, s.selects c) :: f.sels }

/-- A counter is cleared, and the events of this cc are added after (R518). -/
def clearCounter (c : CounterId) (s : State) : State :=
  setCounter c 0 (s.onPerf fun f => { f with taken := f.taken.filter (·.1 ≠ ctrNum c) })

/-- CLR of some counters of a port or channel. -/
def clearCounters (cs : CounterSet) (mask : Nat) (s : State) : State :=
  (List.finRange 4).foldl (fun (s : State) (k : Fin 4) =>
    if natBit mask k then clearCounter (match cs with | .port p => .port p k | .chan c => .chan c k) s else s) s

/-- CLRALL. -/
def clearBushel (s : State) : State :=
  if s.bushelKept then s else (List.finRange 16).foldl (fun s j => clearCounter (.bushel j) s) s

/-- A counter as it stood before the events of this cc. -/
def State.before (s : State) (c : CounterId) : Nat := (s.counter c + 2 ^ 48 - s.taken c % 2 ^ 48) % 2 ^ 48

/-- A snapshot (R516); one in a cc (R518). -/
def snapshot (s : State) : State :=
  if s.perf.snapAt = some s.now ∨ s.bushelKept then s
  else
    let s := (List.finRange 16).foldl (fun s j =>
      let v := s.before (.bushel j)
      (s.setSt (PM_SNPL_SNP_LO j) (v % 2 ^ 32)).setSt (PM_SNPH_SNP_HI j) (v / 2 ^ 32)) s
    let s := s.setSt PM_STAT_SEQ ((s.st PM_STAT_SEQ + 1) % 256)
    let s := s.onPerf fun f => { f with snapAt := some s.now }
    if s.on PM_CTL_SNAPCLR then clearBushel s else s

/-- The host writes FREEZE (R158, R515). -/
def writeFreeze (on : Bool) (s : State) : State :=
  (s.setCf PM_CTL_FREEZE (b2n on)).onPerf fun f => { f with hostFreeze := true }

-- acknowledgements and clears

/-- A write of FT_ACK: it takes effect before an occurrence of the same cycle, which the collector takes at its end
(R438). -/
def ack (bits : Nat) (s : State) : State :=
  let f := s.flt
  { s with flt := { f with
    unackCorr := f.unackCorr && !natBit bits 0, unackCont := f.unackCont && !natBit bits 1
    unackFatal := f.unackFatal && !natBit bits 2 } }

/-- A write of FT_LOGCTL.CLEAR (R446). -/
def clearLog (mask : Nat) (s : State) : State :=
  let log := s.flt.log.mapIdx fun i e => if natBit mask i then { e with valid := false } else e
  { s with flt := { s.flt with log := log } }

/-- A write of FT_SCRCTL.CLEAR (R363). -/
def clearScruple (mask : Nat) (s : State) : State :=
  let t := s.flt.scruple.mapIdx fun i e => if natBit mask i then { e with valid := false } else e
  { s with flt := { s.flt with scruple := t } }

-- meanings

/-- A write by host software to a W1P or RW field acts with the clock running (R20, R156). -/
def hostWrite (f : State → State) (s : State) : Host.Outcome State Fault Refusal :=
  .next (if s.clocked then f s else s)

/-- A write to a counter's low register (R513). -/
def execCounterLowWrite (c : CounterId) (data : Word) (s : State) : Host.Outcome State Fault Refusal :=
  hostWrite (holdLow c data) s

/-- A write to a counter's high register (R513). -/
def execCounterHighWrite (c : CounterId) (data : Word) (s : State) : Host.Outcome State Fault Refusal :=
  hostWrite (writeHigh c data) s

/-- A write of PMCTL.CLR (R518). -/
def execClr (cs : CounterSet) (mask : BitVec 4) (s : State) : Host.Outcome State Fault Refusal :=
  let at_ : Nat := match cs with | .port p => (PT_PMCTL_CLR p).addr | .chan c => (CH_PMCTL_CLR c).addr
  hostWrite (fun s => clearCounters cs mask.toNat (dropHeld at_ s)) s

/-- A write of 1 to PM_CTL.CLRALL (R518, R520). -/
def execClrall (s : State) : Host.Outcome State Fault Refusal :=
  hostWrite (fun s => clearBushel (dropHeld PM_CTL_CLRALL.addr s)) s

/-- A write of 1 to PM_CTL.SNAP (R516). -/
def execSnap (s : State) : Host.Outcome State Fault Refusal :=
  hostWrite (fun s => snapshot (dropHeld PM_CTL_SNAP.addr s)) s

/-- A write of PM_CTL.FREEZE (R515). -/
def execFreeze (on : Bool) (s : State) : Host.Outcome State Fault Refusal :=
  hostWrite (fun s => let s := dropHeld PM_CTL_FREEZE.addr s; if s.good then writeFreeze on s else s) s

/-- A counter passes 2^48 − 1 with the events of this cc (R509, R515). -/
def execCounterWrap (c : CounterId) (s : State) : Host.Outcome State Fault Refusal :=
  .next (if s.clocked && s.counter c + s.owed c ≥ 2 ^ 48 then countNow c s else s)

/-- Within the skid of a wrap the event is raised (R514). -/
def execPmovf (s : State) : Host.Outcome State Fault Refusal :=
  .next (if s.clocked && s.perf.ovf.isSome then event .pmovf (s.onPerf fun f => { f with ovf := none }) else s)

/-- A write of FT_ACK (R438). -/
def execAck (classes : BitVec 3) (s : State) : Host.Outcome State Fault Refusal := hostWrite (ack classes.toNat) s

/-- A write of FT_LOGCTL.CLEAR (R446). -/
def execLogClear (mask : BitVec 16) (s : State) : Host.Outcome State Fault Refusal := hostWrite (clearLog mask.toNat) s

/-- A write of FT_SCRCTL.CLEAR (R363). -/
def execScrupleClear (mask : BitVec 16) (s : State) : Host.Outcome State Fault Refusal :=
  hostWrite (clearScruple mask.toNat) s

end Sys2Proof.Machine
end

