-- ==== Sys2Proof/Machine/Gaps.lean ====
section
/-!
DEFINITION. Frames (R188, R200) and gaps (R198, R199): the bookings posted at the start of a gap (R318, R393, R412, R424),
the broker's grants (R201–R203), the work that a grant begins and its end; and the lines handed to perch queues (R263).
-/

namespace Sys2Proof.Machine

-- posting

/-- The estimate of a gap in cc (R199), rounded down where it is no whole number, which the spec leaves open (assumption
48). -/
def State.gapEstimate (s : State) : GapKind → Nat
  | .h => (1024 - s.hStart) * s.lineper / 16384
  | .v => (s.tb.frmLines - s.tb.frmVb) * s.lineper / 16

/-- Post a booking of channel scope that is not posted yet. -/
def postOnce (g : GapKind) (c : Nat) (w : Work) (unit len lines : Nat) (s : State) : State :=
  let there := s.brk.posted.any fun b => b.kind == g && b.work == w && b.unit == unit
  if there then s else (post g (.chan c) w unit len s lines).2

/-- A channel has refreshes to place in a gap (R318). -/
def State.wantsRefresh (s : State) (c : Nat) : Bool :=
  let low : Int := if s.on (CH_REFCFG_PULLIN c) then -64 else 0
  [0, 1].any fun r => s.counts c r && (s.rank c r).debt > low

def postRefresh (g : GapKind) (c : Nat) (s : State) : State :=
  let n := match g with | .h => s.cf (CH_REFCFG_HLEN c) | .v => 64 * s.cf (CH_REFCFG_VLEN c)
  if s.wantsRefresh c && n ≠ 0 then postOnce g c .refresh c n 0 s else s

/-- A booked step may run: the retrain of a channel goes before its other steps, and a step waits for its rank, a retrain for
both, to leave a power state (R425, R428). -/
def State.stepReady (s : State) (c kind r : Nat) : Bool :=
  let up (r : Nat) : Bool := (s.rank c r).power == .active
  s.calServes c && (s.chan c).job == .none && (s.cal c).booked.contains (kind, r) &&
    (if kind = 1 then up 0 && up 1 else up r && !(s.cal c).booked.any (·.1 == 1))

/-- Calibration steps that wait are posted in the order of R425, none while the engine is paused; a fill at each horizontal gap
alone (R418, R429). -/
def postSteps (g : GapKind) (c : Nat) (s : State) : State :=
  (sortBy (·.1) (s.cal c).booked).foldl (fun s e =>
    let held := s.brk.granted.any fun g => g.book.work == .calStep e.1 && g.book.unit == 2 * c + e.2
    if s.calBooks c && s.stepReady c e.1 e.2 && !held && (e.1 ≠ 6 || g == .h) then
      postOnce (calGap e.1) c (.calStep e.1) (2 * c + e.2) (s.calLength c e.1) 0 s
    else s) s

/-- P30 has lines of a kind to bring at a channel (R391, R450, R476). -/
def State.dutyDue (s : State) (c : Nat) (d : Duty) : Bool :=
  s.p30Works c && match d with
    | .scrub => (s.quad (quadOf c)).scrub.running && !(s.quad (quadOf c)).scrub.aborting && !s.walked c
    | .migration => match s.mnt.evac with
      | some e => e.src == c && e.step == 2 && s.evacuates e && e.next < s.lines
      | none => false
    | .rekey => s.rekeys c && (s.chan c).rkNext < s.lines

/-- The lines of a booking (R393, R395, R452, R477). -/
def State.dutyLines (s : State) (c : Nat) (d : Duty) (g : GapKind) : Nat :=
  match d, g with
  | .scrub, .h => s.cf (QD_SCRCFG_HLINES (quadOf c))
  | .scrub, .v =>
    ((s.quad (quadOf c)).scrub.k.getD (c % 4) none).getD (64 * s.cf (QD_SCRCFG_VLINES (quadOf c)))
  | .migration, .h => s.cf FT_EVCFG_HLINES
  | .migration, .v => 64 * s.cf FT_EVCFG_VLINES
  | .rekey, .h => s.cf KY_RKCFG_HLINES
  | .rekey, .v => 64 * s.cf KY_RKCFG_VLINES

def Duty.work : Duty → Work
  | .scrub => .scrub
  | .migration => .migration
  | .rekey => .rekey

def postDuties (g : GapKind) (c : Nat) (s : State) : State :=
  duties.foldl (fun s d =>
    let k := s.dutyLines c d g
    if s.dutyDue c d && k ≠ 0 then postOnce g c d.work c (s.linesLength k) k s else s) s

/-- The bookings of the engines at the start of a gap. -/
def postAll (g : GapKind) (s : State) : State :=
  allChans.foldl (fun s c => postDuties g c (postSteps g c (postRefresh g c s))) (tryPostOp s)

-- the work of a grant

/-- The work of a granted booking begins. -/
def beginWork (b : Booking) (s : State) : State :=
  match b.work with
  | .opChange => if s.op.book = some b.id ∧ s.op.pend ∧ s.op.step = 0 then opGranted s else s
  | .refresh => s
  | .calStep k =>
    let c := b.unit / 2
    let r := b.unit % 2
    beginStep c k r s
  | .swap => match s.mnt.evac with
    | some e => if e.src = b.unit then beginSwap s else s
    | none => s
  | .migration => bookedPermit b.unit .migration b.lines s
  | .rekey => bookedPermit b.unit .rekey b.lines s
  | .scrub => bookedPermit b.unit .scrub b.lines s

/-- The work of a granted booking can begin: a calibration step where no other is still running past its own booking (R202,
R425). -/
def State.canBegin (s : State) (g : Grant) : Bool :=
  match g.book.work with
  | .calStep k => (s.cal (g.book.unit / 2)).step.isNone && s.stepReady (g.book.unit / 2) k (g.book.unit % 2) &&
      s.now ≤ g.ends
  | _ => true

/-- Granted bookings whose time has come begin; one that an earlier one has held up keeps its length. -/
def beginGrants (s : State) : State :=
  s.brk.granted.foldl (fun s g =>
    if g.begun || s.now < g.starts || !s.canBegin g then s
    else
      let mark (x : Grant) : Grant :=
        if x.book.id = g.book.id then { x with begun := true, ends := max x.ends (s.now + x.book.len) } else x
      beginWork g.book { s with brk := { s.brk with granted := s.brk.granted.map mark } }) s

/-- The work of a booking ends with it (R393, R418). -/
def endWork (b : Booking) (s : State) : State :=
  let again := s.granted b.work b.unit
  match b.work with
  | .migration => if again then s else endPermit b.unit .migration s
  | .rekey => if again then s else endPermit b.unit .rekey s
  | .scrub => if again then s else endPermit b.unit .scrub s
  | .calStep _ => settleFill (b.unit / 2) s
  | _ => s

-- granting (R201–R203)

/-- Two scopes overlap (R202). -/
def Scope.meets (a b : Scope) : Bool :=
  match a, b with
  | .chan x, .chan y => x == y
  | .quad x, .quad y => x == y
  | .chan x, .quad y => quadOf x == y
  | .quad x, .chan y => x == quadOf y
  | _, _ => true

/-- The place of a booking in the order of R201; in a vertical gap the horizontal bookings come last. -/
def Booking.rank (g : GapKind) (b : Booking) : Nat :=
  let n := match b.work with
    | .opChange => 0 | .refresh => 1 | .calStep k => 10 + k
    | .swap => 20 | .migration => 21 | .rekey => 22 | .scrub => 23
  if g = .v ∧ b.kind = .h then 100 + n else n

/-- The cc at which a booking could start: after the grants it overlaps, and after what an earlier one has overrun. -/
def State.startAt (s : State) (over_ : List (GapKind × Scope × Nat)) (b : Booking) : Nat :=
  let lost := over_.foldl (fun m e => if e.2.1.meets b.scope then max m e.2.2 else m) 0
  s.brk.granted.foldl (fun t g => if g.book.scope.meets b.scope then max t g.ends else t) (s.now + lost)

/-- A booking is granted. A vertical scrub booking restores k (R395), and the grant of a swap its refusals (R453). -/
def grantBooking (g : GapKind) (t : Nat) (b : Booking) (s : State) : State :=
  let x : Grant := ⟨b, g, t, t + b.len, false, none⟩
  let s := s.unpost (·.id == b.id)
  let s := { s with brk := { s.brk with granted := s.brk.granted ++ [x] } }
  match b.work with
  | .opChange => { s with op := { s.op with granted := true } }
  | .swap => { s with mnt := { s.mnt with refusals := 0, forcedSwap := false } }
  | .scrub =>
    if b.kind = .v then s.onScrub (quadOf b.unit) fun p => { p with k := upd p.k (b.unit % 4) fun _ => none } else s
  | _ => s

/-- A booking has been counted as not fitting in this frame (R203). -/
def noteNoFit (b : Booking) (s : State) : State :=
  { s with brk := { s.brk with
    posted := s.brk.posted.map fun x => if x.id = b.id then { x with noFit := true } else x } }

/-- A vertical booking longer than the gap (R203, R333, R395, R453) counts once a frame. -/
def tooLong (est : Nat) (b : Booking) (s : State) : State :=
  let s := if b.noFit then s else noteNoFit b (s.bump TB_GAPMISS_V_NOFIT)
  match b.work with
  | .opChange => if b.noFit then s else s.bump TB_OPEVT_NOFIT
  | .swap =>
    let n := s.mnt.refusals + 1
    if b.noFit then s else { s with mnt := { s.mnt with refusals := n, forcedSwap := n ≥ 16 } }
  | .scrub =>
    let k := (est - 128) / (64 * s.ck) / 64 * 64
    if k = 0 then s
    else (s.unpost (·.id == b.id)).onScrub (quadOf b.unit) fun p => { p with k := upd p.k (b.unit % 4) fun _ => some k }
  | _ => s

/-- The broker tries one booking. -/
def tryGrant (g : GapKind) (est : Nat) (over_ : List (GapKind × Scope × Nat)) (b : Booking) (s : State) : State :=
  if est < b.len then (if b.kind = .v then tooLong est b s else s)
  else
    let waits := match b.work with
      | .calStep k => !s.calBooks (b.unit / 2) || !s.stepReady (b.unit / 2) k (b.unit % 2)
      | _ => false
    let t := s.startAt over_ b
    if !waits && t + b.len ≤ s.now + est then grantBooking g t b s else s

/-- A swap refused at 16 consecutive frame starts runs without a grant (R453). -/
def forceSwap (s : State) : State :=
  if s.mnt.forcedSwap && (s.mnt.evac.any fun e => e.step == 3 && s.evacuates e) then
    let s := { s with mnt := { s.mnt with forcedSwap := false, refusals := 0 } }
    beginSwap ((s.bump FT_EVSTAT_FORCED).unpost (·.work == .swap))
  else s

/-- A gap begins (R198–R203): its length is estimated, the engines post, the broker grants, and a refresh booking that is
not granted is dropped (R318). -/
def openGap (g : GapKind) (s : State) : State :=
  let est := s.gapEstimate g
  let s := match g with
    | .h => { s with tb := { s.tb with inH := true, hgap := est } }
    | .v => forceSwap { endGap .h s with tb := { (endGap .h s).tb with inV := true, vgap := est } }
  let s := postAll g s
  let over_ := s.brk.overruns.filter (·.1 == g)
  let s := { s with brk := { s.brk with overruns := s.brk.overruns.filter fun e => e.1 ≠ g } }
  let cand := s.brk.posted.filter fun b => g == .v || b.kind == .h
  let s := (sortBy (Booking.rank g) cand).foldl (fun s b => tryGrant g est over_ b s) s
  beginGrants (s.unpost (·.work == .refresh))

def openV (s : State) : State := if s.gapsUsed ∧ !s.tb.inV then openGap .v s else s

-- frames (R188)

/-- A frame in which the swap booking stood and was not refused as too long breaks the row of refusals (R453). -/
def swapHeld (s : State) : State :=
  if s.brk.posted.any fun b => b.work == .swap && !b.noFit then { s with mnt := { s.mnt with refusals := 0 } } else s

/-- Bookings not granted at the second frame start after their posting count once, by their kind (R203). -/
def countLate (s : State) : State :=
  let s := swapHeld s
  let s := { s with brk := { s.brk with
    posted := s.brk.posted.map fun (b : Booking) => { b with frames := b.frames + 1, noFit := false } } }
  let due := s.brk.posted.filter fun b => 2 ≤ b.frames && !b.late
  let s := (s.bump TB_GAPMISS_V_LATE (due.countP (·.kind == .v))).bump TB_GAPMISS_H_LATE (due.countP (·.kind == .h))
  { s with brk := { s.brk with
    posted := s.brk.posted.map fun (b : Booking) => { b with late := b.late || 2 ≤ b.frames } } }

/-- The frame just ended is recorded (R188, R200). -/
def recordFrame (s : State) : State :=
  let b := s.tb
  if !b.begunLocked then s
  else
    let s := if b.vbSeen.isNone then s.bump TB_RSIERR_NOVB else s
    { s with tb := { s.tb with frmLines := b.line.toNat + 1, frmVb := b.vbSeen.getD b.frmVb } }

/-- What the engines do at a frame start (R262, R329, R330, R394, R516). -/
def frameWork (s : State) : State :=
  let s := if s.clk.startStep = 0 then opFrame s else s
  let s := [0, 1, 2, 3].foldl (fun s q => s.onScrub q fun p => { p with frame := Vector.replicate 4 0 }) s
  let s := if s.wheel.gatePend then commitGates s else s
  let s := if s.on PM_CTL_SNAPFS then snapshot s else s
  countLate s

/-- A frame begins with line 0. -/
def newFrame (f : BitVec 24) (own : Bool) (s : State) : State :=
  let s := recordFrame (endGaps s)
  let locked := !s.tb.synthetic
  let s := { s with tb := { s.tb with
    frame := f, begunLocked := locked, vbSeen := none, onlyWord := s.tb.mcNext || s.tb.mcDefer
    mcPend := s.tb.mcPend || s.tb.mcDefer, mcNext := false, mcDefer := false, corrupt := 0 } }
  frameWork (beginLine 0 own s)

-- meanings

/-- A frame start word takes effect (R187, R188): a realignment where the block has just begun the frame itself. -/
def execFrameStart (w : BitVec 64) (s : State) : Host.Outcome State Fault Refusal :=
  if !s.takes w 2 then .next s
  else
    let s := takeWord w s
    let f := wordFrame w
    let realign := s.justBegun 0
    let s := if realign || s.aboutToBegin 0 then s else slip s
    let s := if f ≠ (if realign then s.tb.frame else s.tb.frame + 1) then slip s else s
    let s := lineWordSeen s
    let s := if realign then beginLine 0 false { s with tb := { s.tb with frame := f } } else newFrame f false s
    .next (measure f 0 s)

/-- The running line number reaches TB_FRMLINES.LINES without a frame start word (R188), at the end of a line also where a
word has set it beyond them (assumption 48). -/
def execFrameLineLimit (s : State) : Host.Outcome State Fault Refusal :=
  if s.lineOver ∧ s.tb.frmLines ≤ s.tb.line.toNat + 1 then
    let s := { s with tb := { s.tb with since := s.tb.since + 1, held := s.tb.held + 1 } }
    .next (newFrame (s.tb.frame + 1) true s)
  else .next s

/-- A horizontal blank word: the grain of its effect becomes H, and the horizontal gap of the line begins (R198). Before the
record is good no grain is defined and it sets no H, which the spec leaves open (assumption 48). -/
def execHorizontalBlank (w : BitVec 64) (s : State) : Host.Outcome State Fault Refusal :=
  if !s.takes w 3 then .next s
  else
    let s := takeWord w s
    if !s.rasterRuns then .next s
    else
      let s := { s with tb := { s.tb with hbGrain := some s.grain } }
      .next (if s.gapsUsed ∧ !s.tb.inV ∧ !s.tb.inH then openGap .h s else s)

/-- The running grain reaches H outside a vertical gap (R198). -/
def execHorizontalGapStart (s : State) : Host.Outcome State Fault Refusal :=
  .next (if s.gapsUsed ∧ !s.tb.inV ∧ !s.tb.inH ∧ s.hStart ≤ s.grain then openGap .h s else s)

/-- A vertical blank word: its line begins, and the vertical gap with it unless it has begun (R187, R200). -/
def execVerticalBlank (w : BitVec 64) (s : State) : Host.Outcome State Fault Refusal :=
  if !s.takes w 4 then .next s
  else
    let l := (wordLine w).toNat
    let s := measure (wordFrame w) l (lineWord w (takeWord w s))
    .next (openV { s with tb := { s.tb with vbSeen := some (s.tb.vbSeen.getD l) } })

/-- The running line reaches TB_FRMLINES.VBSTART (R200). -/
def execVerticalGapStart (s : State) : Host.Outcome State Fault Refusal :=
  .next (if !s.tb.onlyWord ∧ s.tb.frmVb ≤ s.tb.line.toNat then openV s else s)

/-- A granted booking may end: a calibration step that runs past its end completes first, and one that could not begin is
given up, to be posted again (R202, R425). -/
def State.grantOver (s : State) (g : Grant) : Bool :=
  g.ends ≤ s.now && match g.book.work with
    | .calStep k => if g.begun then (s.cal (g.book.unit / 2)).step ≠ some (k, g.book.unit % 2) else g.ends < s.now
    | _ => g.begun

/-- A granted booking ends (R202, R318, R393). -/
def execBookingEnd (id : Nat) (s : State) : Host.Outcome State Fault Refusal :=
  match s.brk.granted.find? fun g => g.book.id == id with
  | some g =>
    if s.clocked ∧ s.grantOver g then
      .next (endWork g.book { s with brk := { s.brk with granted := s.brk.granted.filter fun x => x.book.id ≠ id } })
    else .next s
  | none => .next s

-- perch queues

/-- The home channel of the line a port hands on next (R225). -/
def State.handsTo (s : State) (p : Nat) : Option Nat :=
  (((s.port p).handing.bind Req.nextLine).map fun l => s.tableAt l.2.logical)

/-- A line may enter a perch queue of a channel in this cc: one that entered after the decision of the cc would miss it, and
waits for the next cc (R264, R274). -/
def State.perchOpen (s : State) (c : Nat) : Bool := s.intakeRuns && (s.chan c).arb.decidedAt ≠ some s.now

/-- While a gate commit is due, a request that has passed its gate in this cc hands no line on before the next one, since the
commit may test it again (R274). -/
def State.gateHeld (s : State) (p : Nat) : Bool :=
  s.wheel.gatePend && ((s.port p).handing.bind (·.passAt)) == some s.now

/-- A requester hands its next line to the perch queue of a channel with room, a port one line a cc (R263); none during the
return of RSI_CK (R240). A line that its channel answers without admission is answered there, but not in a waiting quad
(R102). -/
def execPerchHandover (p : Fin 32) (ch : Fin 16) (s : State) : Host.Outcome State Fault Refusal :=
  if !s.perchOpen ch then .next s
  else if p.val = 30 then .next (handMaint ch s)
  else if p.val = 31 then .next (handScratch ch s)
  else if s.handsTo p = some ch.val ∧ (s.port p).handAt ≠ some s.now ∧ s.clk.retStep = 0 ∧ !s.gateHeld p then
    .next (if s.intakeWorks ch then turnAway 8 ch p (handLine p s) else handLine p s)
  else .next s

end Sys2Proof.Machine
end

