-- ==== Sys2Proof/Machine/Keys.lean ====
section
/-!
DEFINITION. The key slots (R469–R474), the rekey pass (R475–R479) and the zeroize (R484 step 3).
-/

namespace Sys2Proof.Machine

def Keys.slot (k : Keys) (i : Nat) : KeySlot := k.slots.getD i .empty

def State.onKeys (s : State) (f : Keys → Keys) : State := { s with keys := f s.keys }

def Keys.onSlot (k : Keys) (i : Nat) (f : KeySlot → KeySlot) : Keys := { k with slots := upd k.slots i f }

/-- 32 bytes of the staging registers from register `i` on, byte 0 first (R470). -/
def State.staged (s : State) (i : Nat) : BitVec 256 :=
  BitVec.ofNat 256 ((List.range 8).foldr (fun j acc => acc * 2 ^ 32 + s.cf (KY_STG_KEY (i + j))) 0)

/-- Zero the staging registers. -/
def clearStaging (s : State) : State := (List.range 16).foldl (fun s i => s.setCf (KY_STG_KEY i) 0) s

/-- The code of R474 for a LOAD. -/
def State.loadCode (s : State) (i : Nat) : Nat :=
  let k := s.keys.slot i
  if s.keys.void || s.on GL_CRYPT_BYPASS then 3
  else if k.valid || k.erase then 1
  else if s.staged 0 == s.staged 8 then 2
  else 0

/-- LOAD (R470, R471); the answer is its code. -/
def loadKey (i : Nat) (s : State) : Nat × State :=
  let code := s.loadCode i
  let k1 := s.staged 0
  let s := if code = 0 then
      let slot : KeySlot := ⟨true, k1, s.staged 8, keyCheck k1, false⟩
      s.onKeys fun k => { k.onSlot i fun _ => slot with wvalid := true, wslot := if k.wvalid then k.wslot else i }
    else s
  (code, clearStaging s)

/-- A slot is retired (R473): VALID clears; the material waits for the last decrypt under it. -/
def retireSlot (i : Nat) (s : State) : State :=
  s.onKeys fun k => k.onSlot i fun x => { x with valid := false, kcv := 0, erase := true }

def State.retireCode (s : State) (i : Nat) : Nat :=
  if s.keys.void || s.on GL_CRYPT_BYPASS then 3
  else if !(s.keys.slot i).valid || (s.keys.wvalid && s.keys.wslot == i) || s.keys.rkState == 1 then 4
  else 0

/-- RETIRE (R473); the answer is its code. -/
def retireKey (i : Nat) (s : State) : Nat × State :=
  let code := s.retireCode i
  (code, if code = 0 then (retireSlot i s).onKeys fun k => { k with rkState := 0 } else s)

def setResult (n : Nat) (s : State) : State := s.onKeys fun k => { k with result := n }

/-- A write of KY_CTL (R474, R490): RETIRE first, then LOAD; RESULT shows the first that was refused. -/
def writeKeyCtl (doLoad doRetire : Bool) (s : State) : State :=
  let i := s.cf KY_CTL_SLOT
  let (a, s) := if doRetire then retireKey i s else (0, s)
  let (b, s) := if doLoad then loadKey i s else (0, s)
  if doLoad || doRetire then setResult (if a ≠ 0 then a else b) s else s

/-- An operation that looked up under a slot has yet to decrypt (R473). -/
def State.decrypts (s : State) (i : Nat) : Bool :=
  s.chans.any fun c => c.ops.any fun o =>
    o.looked && Entry.epoch o.entry == i && Entry.written o.entry &&
      (o.phase == .reading || o.phase == .flight || o.phase == .pause || o.phase == .wantQueue) &&
      (o.kind == .read || o.kind == .rmw || o.kind == .scrub || o.kind == .migration || o.kind == .rekey)

-- the rekey pass

/-- START (R475); in take-preservation mode it is refused in PAUSED too (R459, R474; assumption 35). -/
def startRekey (s : State) : State :=
  let k := s.keys
  if k.rkState = 1 then s
  else if k.rkState = 2 then
    if s.flt.take then setResult 5 s else setResult 0 (s.onKeys fun k => { k with rkState := 1 })
  else if k.void || s.on GL_CRYPT_BYPASS then setResult 3 s
  else if !(k.wvalid && (k.slot (1 - k.wslot)).valid) || s.flt.take then setResult 5 s
  else
    let s := setResult 0 (s.onKeys fun k => { k with rkState := 1, rkOld := k.wslot, wslot := 1 - k.wslot })
    allChans.foldl (fun s c => (s.setSt (CH_RKPTR_Q c) 0).onChan c fun x => { x with rkNext := 0, rkDone := [] }) s

/-- ABORT (R479). -/
def abortRekey (s : State) : State := if s.keys.rkState = 1 then s.onKeys fun k => { k with rkState := 2 } else s

/-- A write of KY_RKCTL: START and ABORT together act as ABORT (R479). -/
def writeRekeyCtl (start abort : Bool) (s : State) : State :=
  if abort then abortRekey s else if start then startRekey s else s

/-- Every walked channel has reached C (R476, R479). -/
def State.rekeyOver (s : State) : Bool :=
  (s.table.take s.logicals).all fun c => (s.chan c).state == .retired || s.st (CH_RKPTR_Q c) == s.lines

-- zeroize

/-- Step 3 of R484: both slots, the staging and the rekey state are cleared, and VOID sets. -/
def zeroize (s : State) : State :=
  (clearStaging s).onKeys fun k => { k with
    slots := Vector.replicate 2 .empty, wvalid := false, wslot := 0, void := true, rkState := 0 }

-- meanings

/-- A write of 1 to KY_CTL.LOAD (R470). -/
def execLoad (s : State) : Host.Outcome State Fault Refusal :=
  .next (if s.clocked then writeKeyCtl true false s else s)

/-- A write of 1 to KY_CTL.RETIRE (R473). -/
def execRetire (s : State) : Host.Outcome State Fault Refusal :=
  .next (if s.clocked then writeKeyCtl false true s else s)

/-- The last decrypt under a retired slot has passed: its material is erased (R473). -/
def execKeyErase (slot : Fin 2) (s : State) : Host.Outcome State Fault Refusal :=
  .next (if s.clocked && (s.keys.slot slot).erase && !s.decrypts slot then
    s.onKeys fun k => k.onSlot slot fun _ => .empty else s)

/-- A write of 1 to KY_RKCTL.START (R475). -/
def execRekeyStart (s : State) : Host.Outcome State Fault Refusal :=
  .next (if s.clocked then startRekey s else s)

/-- A write of 1 to KY_RKCTL.ABORT (R479). -/
def execRekeyAbort (s : State) : Host.Outcome State Fault Refusal :=
  .next (if s.clocked then abortRekey s else s)

/-- The pass is over: slot OLD is retired and the event raised (R479). -/
def execRekeyPassEnd (s : State) : Host.Outcome State Fault Refusal :=
  if s.clocked && s.keys.rkState == 1 && s.rekeyOver then
    let s := (retireSlot s.keys.rkOld s).onKeys fun k => { k with rkState := 0 }
    .next (event .rekey (s.bump KY_RKSTAT_PASSES))
  else .next s

end Sys2Proof.Machine
end

