-- ==== Sys2Proof/Machine/Maint.lean ====
section
/-!
DEFINITION. Maintenance operations of the metadata caches (R382–R384, R386) and their bypass (R387, R388).
-/

namespace Sys2Proof.Machine

-- the walk of an operation

/-- The ends of the range of an operation, as line indices (R383). -/
def State.mopLo (s : State) (q : Nat) : Nat := lineIndex (s.cf (QD_MCOPSH_ADDR_HI q)) (s.cf (QD_MCOPSL_ADDR_LO q))

def State.mopHi (s : State) (q : Nat) : Nat := lineIndex (s.cf (QD_MCOPEH_ADDR_HI q)) (s.cf (QD_MCOPEL_ADDR_LO q))

/-- The logical channel of a channel under the address map in force when the operation started (R383). -/
def State.mopLogical (s : State) (o : CacheOp) (c : Nat) : Option Nat := (o.map.take s.logicals).findIdx? (· == c)

/-- Some data line of metadata line m of a logical channel lies in the range; only the ends of the walk need the test. -/
def State.meetsRange (s : State) (o : CacheOp) (lc m : Nat) : Bool :=
  (List.range 32).any fun i =>
    let l := s.lineAt lc (32 * m + i)
    o.lo ≤ l && l ≤ o.hi

/-- The least element of a list at or above a bound. -/
def leastFrom (n : Nat) (l : List Nat) : Option Nat :=
  l.foldl (fun best x => if x < n then best else match best with
    | none => some x
    | some b => some (min b x)) none

/-- The metadata line an operation visits next at a channel. -/
def State.mopNext (s : State) (q : Nat) (o : CacheOp) : Option Nat :=
  let c := o.chan
  if o.all then leastFrom o.m (((s.quad q).ways.filter fun e => e.2.chan == c).map (·.2.m))
  else
    let l := s.logicals
    let last := min (o.hi / l) (s.lines - 1) / 32
    let first := max o.m (o.lo / l / 32)
    match s.mopLogical o c with
    | none => none
    | some lc =>
      if o.hi < o.lo || s.lines == 0 then none
      else ((List.range 3).map (first + ·)).find? fun m => m ≤ last && s.meetsRange o lc m

/-- Locked ways of a set. -/
def Quad.locks (x : Quad) (set : Nat) : Nat := ((waysOf set).filter fun w => (x.way w).locked).length

/-- PRELOAD and PRELOAD_LOCK of a line that is not present: `none` while no way may be chosen. -/
def fillLine (q c m : Nat) (lock : Bool) (w : Option Nat) (s : State) : Option State :=
  match w with
  | some w => some ((s.onWay q w fun v => { v with st := .filling }).addFill (.opFill lock) c m (some w) none 0)
  | none => (s.takeWay q c m .filling lock 0).map fun (w, wb, s) => s.addFill (.opFill lock) c m (some w) wb 0

/-- A lock is refused (R382). -/
def refuseLock (q : Nat) (s : State) : State :=
  (s.bump (QD_MCOPSTAT_REFUSED q)).onQuad q fun x => { x with mop := x.mop.map fun o => { o with refused := true } }

/-- An operation acts on one metadata line (R382); `none`: it waits (R386). -/
def visit (q op c m : Nat) (s : State) : Option State :=
  let x := s.quad q
  let full := x.locks (setOf c m) ≥ 6
  match x.wayFor c m with
  | none =>
    if !s.present c m || !(s.chan c).inService then some s
    else match op with
      | 2 => fillLine q c m false none s
      | 3 => if full then some (refuseLock q s) else fillLine q c m true none s
      | _ => some s
  | some w =>
    let v := x.way w
    if v.st = .filling ∨ v.st = .recompute ∨ s.pinned q w then none
    else if v.lockedEmpty then
      match op with
      | 2 | 3 => if s.present c m && (s.chan c).inService then fillLine q c m true (some w) s else some s
      | 4 => some (s.onWay q w fun _ => .empty)
      | _ => some s
    else match op with
      | 0 => some (s.cleanWay q w true)
      | 1 =>
        let s := s.cleanWay q w true
        if v.locked then some ((s.onWay q w fun v => { v with st := .invalid }).bump (QD_MCEVT_LOCKEMPTY q))
        else some (s.onWay q w fun _ => .empty)
      | 3 =>
        if v.locked then some s
        else if full then some (refuseLock q s)
        else some (s.onWay q w fun v => { v with locked := true })
      | 4 => some (s.onWay q w fun v => { v with locked := false })
      | _ => some s

/-- One cc of an operation: one line is visited, through its lane's pipeline (R384). -/
def mopStep (q : Nat) (s : State) : State :=
  match (s.quad q).mop with
  | none => s
  | some o =>
    let go (f : CacheOp → CacheOp) (s : State) : State := s.onQuad q fun x => { x with mop := x.mop.map f }
    if o.chan > 4 * q + 3 then s
    else match s.mopNext q o with
      | none => go (fun o => { o with chan := o.chan + 1, m := 0 }) s
      | some m =>
        let lane := laneOf o.chan m
        if !s.laneFree q lane || ((s.quad q).lane lane).waiting.isSome then s
        else match visit q o.op o.chan m (s.onLane q lane fun l => { l with usedAt := some s.now }) with
          | some s => go (fun o => { o with m := m + 1 }) s
          | none => s

/-- The last writeback has issued its last column command and the last fill has installed, or the rebuild it has led to
(R384). -/
def State.mopOver (s : State) (q : Nat) (o : CacheOp) : Bool :=
  let owed (e : Op) : Bool :=
    (match e.kind with | .opFill _ => true | .writeback => e.acted && e.phase ≠ .recovering | _ => false)
  o.chan > 4 * q + 3 && !((quadChans q).any fun c => (s.chan c).ops.any owed) &&
    !((s.quad q).rebuilds.any (·.mop))

/-- GO (R382, R383, R386). -/
def startMop (q op : Nat) (all : Bool) (s : State) : State :=
  let x := s.quad q
  let result (n : Nat) : State := s.setSt (QD_MCOPSTAT_RESULT q) n
  if x.mop.isSome then s
  else if x.bypStep ≠ 0 ∨ s.on (QD_MCCTL_BYPASS q) then result 3
  else if op > 4 ∨ (all ∧ (op = 2 ∨ op = 3)) then result 1
  else s.onQuad q fun x => { x with mop := some ⟨op, all, s.mopLo q, s.mopHi q, 4 * q, 0, false, s.table⟩ }

-- bypass

/-- Fills and recomputes are over and no way is pinned (R387 step 2). -/
def State.cacheStill (s : State) (q : Nat) : Bool :=
  (s.quad q).rebuilds.isEmpty &&
    (quadChans q).all fun c => (s.chan c).ops.all fun o => !o.isFill && (o.way.isNone || o.phase == .recovering)

/-- Entry to bypass goes on (R386, R387 steps 1 to 3). -/
def settleBypass (q : Nat) (s : State) : State :=
  let x := s.quad q
  let to_ (n : Nat) (s : State) : State := s.onQuad q fun x => { x with bypStep := n }
  if x.bypStep = 0 ∧ s.on (QD_MCCTL_BYPASS q) ∧ x.mop.isNone then to_ 1 s
  else if x.bypStep = 1 then to_ 2 s
  else if x.bypStep = 2 ∧ s.cacheStill q then
    let idle (l : Lane) : Lane := { l with waiting := none }
    (to_ 3 (flushCache q s)).onQuad q fun x => { x with ways := [], lanes := x.lanes.map idle }
  else s

/-- A write of 1 to BYPASS. -/
def enterBypass (q : Nat) (s : State) : State := settleBypass q (s.setCf (QD_MCCTL_BYPASS q) 1)

/-- A write of 0 to BYPASS (R388). -/
def leaveBypass (q : Nat) (s : State) : State :=
  (s.setCf (QD_MCCTL_BYPASS q) 0).onQuad q fun x => { x with bypStep := if x.bypStep = 4 then 0 else x.bypStep }

-- meanings

/-- GO with an operation code; the range and ALL stand in the registers. -/
def goOp (q op : Nat) (s : State) : State :=
  if s.clocked then startMop q op (s.on (QD_MCOPCTL_ALL q)) (s.setCf (QD_MCOPCTL_OP q) op) else s

/-- CLEAN (R382). -/
def execClean (q : Fin 4) (s : State) : Host.Outcome State Fault Refusal := .next (goOp q 0 s)

/-- INVALIDATE (R382). -/
def execInvalidate (q : Fin 4) (s : State) : Host.Outcome State Fault Refusal := .next (goOp q 1 s)

/-- PRELOAD (R382). -/
def execPreload (q : Fin 4) (s : State) : Host.Outcome State Fault Refusal := .next (goOp q 2 s)

/-- PRELOAD_LOCK (R382). -/
def execPreloadLock (q : Fin 4) (s : State) : Host.Outcome State Fault Refusal := .next (goOp q 3 s)

/-- UNLOCK (R382). -/
def execUnlock (q : Fin 4) (s : State) : Host.Outcome State Fault Refusal := .next (goOp q 4 s)

/-- GO with a reserved code: no effect, RESULT 0b01 (R382). The code is the register's where that is a reserved one, and
the lowest reserved code otherwise. -/
def execReservedOperation (q : Fin 4) (s : State) : Host.Outcome State Fault Refusal :=
  .next (goOp q (max 5 (s.cf (QD_MCOPCTL_OP q))) s)

/-- An operation is over: BUSY clears and RESULT shows its outcome (R382, R384); a bypass that waited begins. -/
def execMcOperationDone (q : Fin 4) (s : State) : Host.Outcome State Fault Refusal :=
  match (s.quad q).mop with
  | some o =>
    .next (if s.clocked && s.mopOver q o then
      settleBypass q ((s.setSt (QD_MCOPSTAT_RESULT q) (if o.refused then 2 else 0)).onQuad q fun x => { x with mop := none })
    else s)
  | none => .next s

/-- A write of 1 to QDn_MCCTL.BYPASS (R387). -/
def execCacheBypassEntry (q : Fin 4) (s : State) : Host.Outcome State Fault Refusal :=
  .next (if s.clocked then enterBypass q s else s)

/-- Every DIRTY line has left: the quad is in bypass, or resumes empty where BYPASS is 0 again (R387 step 4, R388). -/
def execBypassEntryDone (q : Fin 4) (s : State) : Host.Outcome State Fault Refusal :=
  .next (if s.clocked ∧ (s.quad q).bypStep = 3 ∧ s.cacheFlushed q then
    s.onQuad q fun x => { x with bypStep := if s.on (QD_MCCTL_BYPASS q) then 4 else 0 } else s)

/-- A write of 0 to QDn_MCCTL.BYPASS (R388). -/
def execCacheBypassExit (q : Fin 4) (s : State) : Host.Outcome State Fault Refusal :=
  .next (if s.clocked then leaveBypass q s else s)

end Sys2Proof.Machine
end

