-- ==== Sys2Proof/Machine/SpillEngine.lean ====
section
/-!
DEFINITION. The spill engine: descriptors (R493–R495, R499, R501), chunks (R496–R498, R500), the states of a DMA channel
(R502–R505), and the transfers on P28 and P29 that carry its chunks.
-/

namespace Sys2Proof.Machine

-- registers of a channel

/-- SPn_CUR (R507). -/
def State.spCur (s : State) (d : Nat) : Nat := s.cf (SP_CURH_ADDR_HI d) * 2 ^ 32 + s.cf (SP_CURL_ADDR_LO d) * 32

def setCur (d a : Nat) (s : State) : State :=
  (s.setCf (SP_CURL_ADDR_LO d) (a / 32 % 2 ^ 27)).setCf (SP_CURH_ADDR_HI d) (a / 2 ^ 32)

/-- The first unit of a descriptor that has not been both read and written (R504). -/
def Spill.done (x : Spill) (e : Desc) : Nat :=
  ((x.chunks.filter (·.desc == e.num)).map (·.start)).foldl min e.issued

/-- SPn_POS and DIR follow the oldest descriptor in use, or the one that is fetched next (R504). SPn_CUR names it: it is
written when the chain goes on to the next (`descDone`), and by host software in IDLE. -/
def showSpill (d : Nat) (s : State) : State :=
  let x := s.spill_ d
  match x.descs with
  | e :: _ => (s.setSt (SP_POS_UNITS d) (x.done e)).onSpill d fun x => { x with dir := e.dir }
  | [] => if x.stopped || x.state == .idle then s else s.setSt (SP_POS_UNITS d) x.pos

-- AXI4 bursts (R67, R495, R499)

/-- A burst with the attributes that SPn_CFG holds. -/
def State.axi (s : State) (d : Nat) (write : Bool) (kind addr len : Nat) (strb : BitVec 64) (data : List Beat) : Axi :=
  ⟨write, kind, addr, len, strb, data, s.cf (SP_CFG_CACHE d), s.cf (SP_CFG_PROT d), s.cf (SP_CFG_QOS d), true⟩

/-- A response of the spill master is taken whenever PCLK toggles: S_RREADY and S_BREADY are 1 (R68). -/
def State.axiTakes (s : State) : Bool := s.clocked && s.pins.pclk

/-- A burst that waits for the channel's turn at AR or AW (R497). -/
def Axi.waiting (b : Axi) : Axi := { b with sent := false }

/-- A burst of a channel waits for its turn at AR or AW. -/
def Spill.waits (x : Spill) (write : Bool) : Bool := x.bursts.any fun b => b.write == write && !b.sent

/-- The burst that waited is issued, with the attributes that SPn_CFG holds then (R507). -/
def sendBurst (d : Nat) (write : Bool) (s : State) : State :=
  let send (b : Axi) : Axi :=
    if b.write == write && !b.sent then s.axi d b.write b.kind b.addr b.len b.strb b.data else b
  s.onSpill d fun x => { x with bursts := x.bursts.map send }

/-- A channel that no longer runs issues no fetch, and no writeback unless it is pausing (R502, R504). -/
def Spill.dropWaiting (x : Spill) : Spill :=
  let keeps (b : Axi) : Bool := b.sent || (match x.state with
    | .run | .wait => true
    | .pausing => b.write
    | _ => false)
  { x with bursts := x.bursts.filter keeps, fetching := x.fetching && x.bursts.any fun b => b.kind == 0 && keeps b }

/-- The burst that reads the next chunk of a descriptor. -/
def State.chunkRead (s : State) (d : Nat) (e : Desc) (n : Nat) : Axi :=
  s.axi d false 1 (e.haddr + 64 * e.issued) (n - 1) 0 []

/-- The burst that writes a chunk. -/
def State.chunkWrite (s : State) (d : Nat) (e : Desc) (c : Chunk) : Axi :=
  s.axi d true 1 (e.haddr + 64 * c.start) (c.units - 1) (BitVec.allOnes 64) c.data

/-- The burst of one beat that reads a descriptor. -/
def fetchDesc (d a : Nat) (s : State) : State :=
  s.onSpill d fun x => { x with
    fetching := true, fetchAddr := a, bursts := x.bursts ++ [(s.axi d false 0 (a / 64 * 64) 0 0 []).waiting] }

/-- The one-beat write of bytes 2–3 (kind 2: CODE and BAD) or of byte 0 (kind 3: OWN is 0) of a descriptor. -/
def State.writebackBurst (s : State) (d kind : Nat) (e : Desc) : Axi :=
  let off := e.addr % 64
  let word := if kind = 2 then (e.code + 16 * e.bad) * 2 ^ 16 else 0
  (s.axi d true kind (e.addr / 64 * 64) 0 ((if kind = 2 then 0b1100 else 0b1) <<< off)
    [BitVec.ofNat 512 word <<< (8 * off)]).waiting

/-- The oldest burst of a direction that has been issued. -/
def Spill.oldest (x : Spill) (write : Bool) : Option Axi := x.bursts.find? fun b => b.write == write && b.sent

/-- The oldest burst of a direction has its response. -/
def Spill.answered (x : Spill) (write : Bool) : Spill :=
  match x.bursts.findIdx? fun b => b.write == write && b.sent with
  | some i => { x with bursts := x.bursts.eraseIdx i }
  | none => x

-- halts (R505)

/-- A bus error: the failing burst is latched with the first cause. -/
def busError (d : Nat) (b : Axi) (s : State) : State :=
  let run := match (s.spill_ d).state with | .run | .wait | .pausing => true | _ => false
  if run then
    let s := spillHalt d 1 s
    let s := (s.setSt (SP_ERRL_ADDR_LO d) (b.addr % 2 ^ 32)).setSt (SP_ERRH_ADDR_HI d) (b.addr / 2 ^ 32)
    raise .spillerr d 0 (s.onSpill d fun x => { x with hdir := b.write, hkind := b.kind })
  else s

/-- The port that carries the chunks of a direction. -/
def spillPort (dir : Bool) : Nat := if dir then 29 else 28

/-- A cause of a halt stands whatever the channel does (R505): the port of a direction HALTED, the channel's registers frozen,
the block halted. -/
def State.causeStands (s : State) (d : Nat) (dir : Bool) (cause : Nat) : Bool :=
  match cause with
  | 3 => (s.port (spillPort dir)).state == .halted
  | 4 => s.frozen.any fun a => 0x4000 + 0x200 * d ≤ a && a < 0x4200 + 0x200 * d
  | 6 => s.flt.haltStep ≠ 0
  | _ => false

/-- The first cause that stands for a channel as it runs. -/
def State.spillCause (s : State) (d : Nat) : Option Nat := [3, 4, 6].find? (s.causeStands d (s.spill_ d).dir)

/-- A channel halts since the port of a direction is HALTED (R505). -/
def portHalts (d : Nat) (dir : Bool) (s : State) : State := spillHalt d 3 (s.onSpill d fun x => { x with hport := dir })

-- chunks (R496, R497)

/-- The length of the chunk that starts at a unit of a descriptor: at most 64 units, to the next 4 KiB boundary of the
host address. -/
def Desc.chunkLen (e : Desc) (start : Nat) : Nat := min (e.len - start) (64 - (e.haddr / 64 + start) % 64)

/-- The descriptor whose next chunk is to be read: its chunks wait while it is fenced and an earlier one is not written
back (R501). -/
def Spill.reading (x : Spill) : Option Desc :=
  match x.descs.find? fun e => e.issued < e.len with
  | some e => if e.fence && (x.descs.head?.map (·.num)) ≠ some e.num then none else some e
  | none => none

/-- P29 takes a request of the engine: as any port, and in step 2 of a block reset those that drain its channels (R175, R506). -/
def State.spillAccepts (s : State) : Bool :=
  s.qready 29 || ({ s with pins := { s.pins with dmReady := s.clk.blkStep = 2 } } : State).qready 29

/-- Which shared request of R497 a channel has ready: 0 P28, 1 P29, 2 AR, 3 AW. -/
def State.spillWants (s : State) (res d : Nat) : Bool :=
  let x := s.spill_ d
  let failed := x.chunks.any (·.st == .failed)
  let dirOf (c : Chunk) : Bool := ((x.descs.find? (·.num == c.desc)).map (·.dir)).getD false
  if (res = 2 ∧ x.waits false) ∨ (res = 3 ∧ x.waits true) then x.dropWaiting.waits (res == 3)
  else match res with
  | 0 | 2 =>
    match x.reading with
    | some e =>
      x.state == .run && e.dir == (res == 2) && x.chunks.length < s.cf (SP_CFG_SLOTS d) + 1 && (res == 2 || s.qready 28)
    | none => false
  | 1 =>
    !failed && s.spillAccepts && (match x.chunks.find? fun c => dirOf c && c.st == .ready with
      | some c => (s.port 29).occupancy + c.units ≤ writeBuffer 29
      | none => false)
  | _ =>
    !failed && (match x.chunks.find? fun c => !dirOf c && c.st ≠ .writing with
      | some c => c.st == .ready
      | none => false)

/-- The channel whose turn it is at a shared request, round-robin from the one after the last served. -/
def State.spillNext (s : State) (res : Nat) : Option Nat :=
  if s.flt.haltStep ≠ 0 then none
  else ((List.range 8).map fun i => (s.spillLast.getD res 7 + 1 + i) % 8).find? (s.spillWants res)

/-- The channel that is served: PCLK runs, and one request of a kind passes in a cc. -/
def State.spillTurn (s : State) (res : Nat) : Option Nat :=
  if !s.responds || s.spillAt.getD res 0 > s.now then none else s.spillNext res

def spillServed (res d : Nat) (s : State) : State :=
  { s with spillLast := upd s.spillLast res fun _ => d, spillAt := upd s.spillAt res fun _ => s.now + 1 }

/-- The least tag of a port that is not in use. -/
def Port.freeTag (x : Port) : Nat := ((List.range 256).find? fun t => !x.reqs.any (·.tag.toNat == t)).getD 0

/-- A request of the engine on P28 or P29 (R492); the answer is its acceptance number. -/
def spillRequest (p : Nat) (e : Desc) (start : Nat) (units : Nat) (data : List Beat) (s : State) : Nat × State :=
  let x := s.port p
  let r := newReq x.nextSeq (BitVec.ofNat 34 (e.daddr / 64 + start)) (units - 1) (p = 29) (BitVec.ofNat 8 x.freeTag) false
  let s := accept_ p r s
  let beats := data.map fun b => WBeat.mk b (BitVec.allOnes 64)
  let s := if p = 29 then (s.onPort p (·.onReq x.nextSeq fun r => { r with beats := beats, taken := units })).note .beatsW p units
    else s
  (x.nextSeq, s)

/-- Issue the next chunk read of a channel (R496, R497). -/
def issueChunk (d : Nat) (s : State) : State :=
  let x := s.spill_ d
  match x.reading with
  | none => s
  | some e =>
    let n := e.chunkLen e.issued
    let (seq, s) := if e.dir then
        (0, (s.onSpill d fun x => { x with bursts := x.bursts ++ [s.chunkRead d e n] }))
      else spillRequest 28 e e.issued n [] s
    let c : Chunk := ⟨e.num, e.issued, n, .reading, seq, []⟩
    s.onSpill d fun x => { x with
      chunks := x.chunks ++ [c]
      descs := x.descs.map fun (y : Desc) => if y.num = e.num then { y with issued := y.issued + n } else y }

/-- Change the first chunk of a channel that meets a test. -/
def Spill.onChunk (x : Spill) (f : Chunk → Bool) (g : Chunk → Chunk) : Spill :=
  match x.chunks.findIdx? f with
  | some i => { x with chunks := x.chunks.modify i g }
  | none => x

def Spill.dirOf (x : Spill) (c : Chunk) : Bool := ((x.descs.find? (·.num == c.desc)).map (·.dir)).getD false

/-- Issue a write that is ready: of DIR = 0 over AXI4 in chunk order, of DIR = 1 on P29. -/
def issueWrite (res d : Nat) (s : State) : State :=
  let x := s.spill_ d
  match x.chunks.find? fun c => c.st == .ready && x.dirOf c == (res == 1) with
  | none => s
  | some c =>
    match x.descs.find? (·.num == c.desc) with
    | none => s
    | some e =>
      let mine (y : Chunk) : Bool := y.desc == c.desc && y.start == c.start
      if res = 1 then
        let (seq, s) := spillRequest 29 e c.start c.units c.data s
        s.onSpill d (·.onChunk mine fun y => { y with st := .writing, seq := seq, data := [] })
      else
        s.onSpill d fun x => { x.onChunk mine fun y => { y with st := .writing } with
          bursts := x.bursts ++ [s.chunkWrite d e c] }

/-- The burst with which a channel stands at AR or AW. -/
def State.axiNext (s : State) (d : Nat) (write : Bool) : Option Axi :=
  let x := s.spill_ d
  match x.bursts.find? fun b => b.write == write && !b.sent with
  | some b => some (s.axi d b.write b.kind b.addr b.len b.strb b.data)
  | none =>
    if write then
      (x.chunks.find? fun c => c.st == .ready && !x.dirOf c).bind fun c =>
        (x.descs.find? (·.num == c.desc)).map fun e => s.chunkWrite d e c
    else x.reading.map fun e => s.chunkRead d e (e.chunkLen e.issued)

/-- The channel served at a shared request issues a write that is ready, a writeback or a descriptor fetch; the reads of
chunks are commands of their own. -/
def spillServe (res : Nat) (s : State) : State :=
  match s.spillTurn res with
  | some d =>
    if res = 1 then spillServed res d (issueWrite res d s)
    else if (s.spill_ d).waits (res == 3) then spillServed res d (sendBurst d (res == 3) s)
    else if res = 3 then spillServed res d (issueWrite res d s)
    else s
  | none => s

/-- One cc of the engine at P29, AR and AW (R497). -/
def spillRequests (s : State) : State := [1, 2, 3].foldl (fun s res => spillServe res s) s

-- line responses (R498)

/-- The line responses of a chunk's request count for its descriptor; the first that is not OK is latched. -/
def chunkLines (d num : Nat) (r : Req) (s : State) : State :=
  r.lines.foldl (fun s l =>
    let o := l.out.getD ⟨0, 0⟩
    if o.resp = 0 then s
    else
      let s := s.bump (SP_DONE_BAD d)
      let s := s.onSpill d fun x => { x with descs := x.descs.map fun e =>
        if e.num = num then { e with code := max e.code o.resp, bad := min 4095 (e.bad + 1) } else e }
      if s.st (SP_BADH_VALID d) = 1 then s
      else
        let s := (s.setSt (SP_BADL_ADDR_LO d) (l.line % 2 ^ 24)).setSt (SP_BADH_ADDR_HI d) (l.line / 2 ^ 24)
        ((s.setSt (SP_BADH_CAUSE d) o.cause).setSt (SP_BADH_RESP d) o.resp).setSt (SP_BADH_VALID d) 1) s

/-- A chunk has been acknowledged: its buffer is free and its units count (R497, R507). -/
def chunkAcked (d : Nat) (c : Chunk) (s : State) : State :=
  let n := (s.st (SP_UNITSH_COUNT_HI d) * 2 ^ 32 + s.st (SP_UNITSL_COUNT_LO d) + c.units) % 2 ^ 48
  let s := (s.setSt (SP_UNITSL_COUNT_LO d) (n % 2 ^ 32)).setSt (SP_UNITSH_COUNT_HI d) (n / 2 ^ 32)
  s.onSpill d fun x => { x with chunks := x.chunks.filter fun y => !(y.desc == c.desc && y.start == c.start) }

/-- The chunk that a request of P28 or P29 carries. -/
def State.chunkOf (s : State) (p seq : Nat) : Option (Nat × Chunk) :=
  (List.range 8).findSome? fun d =>
    let x := s.spill_ d
    (x.chunks.find? fun c => c.seq == seq && x.dirOf c == (p == 29) && c.st == (if p = 29 then .writing else .reading)).map
      fun c => (d, c)

-- the course of a channel

/-- Writebacks, the next fetch, and the halts that a standing cause brings (R499, R501, R505). -/
def settleSpill (d : Nat) (s : State) : State :=
  let s := s.onSpill d Spill.dropWaiting
  let x := s.spill_ d
  let s := match x.state with
    | .run | .wait | .pausing => match s.spillCause d with
      | some k => if k ≠ 3 then spillHalt d k s else if x.descs.isEmpty then s else portHalts d x.dir s
      | none => s
    | _ => s
  let x := s.spill_ d
  let active : Bool := match x.state with | .run | .wait | .pausing => true | _ => false
  let s := match x.descs with
    | e :: _ =>
      if active && e.wb = 0 && e.issued = e.len && !x.chunks.any (·.desc == e.num) then
        s.onSpill d fun x => { x with
          descs := x.descs.map fun (y : Desc) => if y.num = e.num then { y with wb := 1 } else y
          bursts := x.bursts ++ [s.writebackBurst d 2 e] }
      else s
    | [] => s
  let x := s.spill_ d
  let s := match x.descs.getLast? with
    | some e =>
      if x.state == SpillState.run && !x.fetching && !x.stopped && e.issued = e.len && !e.stop &&
          !x.chunks.any (fun (c : Chunk) => c.desc == e.num && c.st == .reading) then
        fetchDesc d e.next s
      else s
    | none => s
  showSpill d s

/-- The fields of a descriptor (R493). -/
def parseDesc (a num pos code bad : Nat) (w : BitVec 256) : Desc :=
  let f (lo n : Nat) : Nat := natBits w.toNat lo n
  ⟨num, a, natBit w.toNat 8, natBit w.toNat 9, natBit w.toNat 10, natBit w.toNat 11, f 32 24, f 64 40, f 128 48, f 192 48,
    pos, code, bad, 0⟩

/-- A descriptor is malformed (R494). -/
def malformed (w : BitVec 256) : Bool :=
  let f (lo n : Nat) : Nat := natBits w.toNat lo n
  let len := f 32 24
  len == 0 || f 1 7 ≠ 0 || f 12 4 ≠ 0 || f 56 8 ≠ 0 || f 64 6 ≠ 0 || f 104 24 ≠ 0 || f 128 6 ≠ 0 || f 176 16 ≠ 0 ||
    f 192 5 ≠ 0 || f 240 16 ≠ 0 || f 64 40 + 64 * len > 2 ^ 40 || f 128 48 + 64 * len > 2 ^ 48

/-- A descriptor has been read (R494, R495, R505); one not owned is fetched again at once where a KICK has come meanwhile. -/
def gotDesc (d : Nat) (w : BitVec 256) (s : State) : State :=
  let x := s.spill_ d
  let s := s.onSpill d fun x => { x with fetching := false, kicked := false }
  match x.state with
  | .run | .wait =>
    if !natBit w.toNat 0 then
      let s := s.onSpill d fun x => { x with state := .wait, waitAt := s.now }
      if x.kicked then fetchDesc d x.fetchAddr s else s
    else if malformed w then spillHalt d 2 s
    else
      let e := parseDesc x.fetchAddr x.nextNum (min x.pos (natBits w.toNat 32 24)) x.keptCode x.keptBad w
      let s := if x.descs.isEmpty then s.onSpill d fun x => { x with dir := e.dir } else s
      if e.dir ∧ s.flt.take then spillHalt d 5 s
      else if (s.port (spillPort e.dir)).state = .halted then portHalts d e.dir s
      else settleSpill d (s.onSpill d fun x => { x with
        state := .run, descs := x.descs ++ [e], nextNum := x.nextNum + 1, pos := 0, keptCode := 0, keptBad := 0
        stopped := e.stop })
  | _ => s

/-- A draining channel has finished what it may; in a halt of the block that is its bursts (R441, R504). -/
def State.spillDrained (s : State) (d : Nat) : Bool :=
  let x := s.spill_ d
  let failed := x.chunks.any (·.st == .failed)
  let owed := x.state == .pausing && (match x.descs with
    | e :: _ => e.issued == e.len && !x.chunks.any (·.desc == e.num)
    | [] => false)
  x.bursts.isEmpty && !x.fetching && !owed &&
    (s.flt.haltStep ≠ 0 || x.chunks.all fun c => c.st == .failed || c.st == .unread || (failed && c.st == .ready))

/-- The drain ends in PAUSED, HALTED or IDLE, with SPn_CUR and SPn_POS at the first unit not done (R504). -/
def drainSpill (d : Nat) (s : State) : State :=
  let s := showSpill d s
  let x := s.spill_ d
  let e := x.descs.head?
  let ended := x.stopped && x.descs.isEmpty
  let next : SpillState := match x.state with
    | .pausing => if ended then .idle else .paused
    | .halting => .halted
    | _ => .idle
  s.onSpill d fun x => { x with
    state := next, descs := [], chunks := [], pos := s.st (SP_POS_UNITS d)
    keptCode := (e.map (·.code)).getD x.keptCode, keptBad := (e.map (·.bad)).getD x.keptBad
    fetchAddr := s.spCur d, kicked := false }

-- control (R503)

def spillStart (d : Nat) (s : State) : State :=
  if (s.spill_ d).state = .idle then
    let a := s.spCur d
    fetchDesc d a ((s.setSt (SP_POS_UNITS d) 0).onSpill d fun x => { x with
      state := .run, pos := 0, keptCode := 0, keptBad := 0, stopped := false })
  else s

/-- A fetch is asked for in WAIT; while one is under way it is owed (R495). -/
def refetchDesc (d : Nat) (s : State) : State :=
  let x := s.spill_ d
  if x.fetching then s.onSpill d fun x => { x with kicked := true } else fetchDesc d x.fetchAddr s

def spillKick (d : Nat) (s : State) : State := if (s.spill_ d).state = .wait then refetchDesc d s else s

def spillPause (d : Nat) (s : State) : State :=
  let x := s.spill_ d
  if x.state = .run ∨ x.state = .wait then
    let s := s.onSpill d fun x => { x with state := .pausing }.dropWaiting
    if x.state = .wait ∧ s.spillDrained d then drainSpill d s else s
  else s

/-- RESUME: a channel whose cause of a halt stands halts again at once (R505). -/
def spillResume (d : Nat) (s : State) : State :=
  let x := s.spill_ d
  if x.state = .paused then
    fetchDesc d (s.spCur d) (s.onSpill d fun x => { x with state := .run, hcause := 0, stopped := false })
  else if x.state = .halted then
    if s.causeStands d x.hport x.hcause then event .spill s
    else fetchDesc d (s.spCur d) (s.onSpill d fun x => { x with state := .run, hcause := 0, stopped := false })
  else s

def spillAbort (d : Nat) (s : State) : State :=
  if (s.spill_ d).state = .idle then s
  else
    let s := s.onSpill d fun x => { x with state := .aborting }.dropWaiting
    if s.spillDrained d then drainSpill d s else s

/-- A block reset drains the channels that are not IDLE, PAUSED or HALTED as for ABORT (R506). -/
def abortSpills (s : State) : State :=
  (List.range 8).foldl (fun s d => match (s.spill_ d).state with
    | .idle | .paused | .halted => s
    | _ => s.onSpill d fun x => { x with state := .aborting }.dropWaiting) s

/-- A channel has nothing more that completes in a block reset: its bursts have their responses, the chunks it has read are
written, and its requests on P28 and P29 are over or were discarded at step 1 of R175 (R504, R506). -/
def State.spillQuiet (s : State) (d : Nat) : Bool :=
  let x := s.spill_ d
  let failed := x.chunks.any (·.st == .failed)
  let held (p : Nat) (c : Chunk) : Bool := (s.port p).reqs.any (·.seq == c.seq)
  (match x.state with | .idle | .paused | .halted => true | _ => false) ||
    (x.bursts.isEmpty && x.chunks.all fun c => match c.st with
      | .failed | .unread => true
      | .reading => !held 28 c
      | .ready => failed
      | .writing => x.dirOf c && !held 29 c)

/-- A write of SPn_CTRL: the first of ABORT, PAUSE, RESUME, START and KICK that applies in the channel's state. -/
def writeSpillCtrl (d bits : Nat) (s : State) : State :=
  let st := (s.spill_ d).state
  if natBit bits 3 ∧ st ≠ .idle then spillAbort d s
  else if natBit bits 1 ∧ (st = .run ∨ st = .wait) then spillPause d s
  else if natBit bits 2 ∧ (st = .paused ∨ st = .halted) then spillResume d s
  else if natBit bits 0 ∧ st = .idle then spillStart d s
  else if natBit bits 4 then spillKick d s
  else s

-- meanings

/-- The control writes act with the clock running (R156). -/
def spillWrite (f : State → State) (s : State) : Host.Outcome State Fault Refusal :=
  .next (if s.clocked then f s else s)

/-- START (R503). -/
def execSpillStart (d : Fin 8) (s : State) : Host.Outcome State Fault Refusal := spillWrite (spillStart d) s

/-- KICK (R495, R503). -/
def execKick (d : Fin 8) (s : State) : Host.Outcome State Fault Refusal := spillWrite (spillKick d) s

/-- PAUSE (R503, R506). -/
def execSpillPause (d : Fin 8) (s : State) : Host.Outcome State Fault Refusal := spillWrite (spillPause d) s

/-- RESUME (R503, R505). -/
def execSpillResume (d : Fin 8) (s : State) : Host.Outcome State Fault Refusal := spillWrite (spillResume d) s

/-- ABORT (R503). -/
def execSpillAbort (d : Fin 8) (s : State) : Host.Outcome State Fault Refusal := spillWrite (spillAbort d) s

/-- POLL µs in WAIT have passed (R495). -/
def execPollExpiry (d : Fin 8) (s : State) : Host.Outcome State Fault Refusal :=
  let x := s.spill_ d
  let n := s.cf (SP_CFG_POLL d)
  .next (if s.responds ∧ x.state = .wait ∧ n ≠ 0 ∧ x.waitAt + s.usCc n ≤ s.now then refetchDesc d s else s)

/-- The AXI4 read of a descriptor returns (R494, R495, R505). -/
def execDescriptorFetched (d : Fin 8) (desc : BitVec 256) (resp : BitVec 2) (s : State) :
    Host.Outcome State Fault Refusal :=
  match (s.spill_ d).oldest false with
  | some b =>
    if s.axiTakes ∧ b.kind = 0 then
      let s := s.onSpill d (·.answered false)
      if resp.toNat ≥ 2 then .next (busError d b (s.onSpill d fun x => { x with fetching := false }))
      else .next (gotDesc d desc s)
    else .next s
  | none => .next s

/-- A channel issues its next chunk read (R496, R497). -/
def execChunkIssue (d : Fin 8) (s : State) : Host.Outcome State Fault Refusal :=
  let res := match (s.spill_ d).reading with | some e => if e.dir then 2 else 0 | none => 0
  .next (if s.spillTurn res = some d.val ∧ !(s.spill_ d).waits false then spillServed res d (showSpill d (issueChunk d s)) else s)

/-- The AXI4 read of a chunk's data returns (R67, R505). -/
def execAxiReadResponse (d : Fin 8) (data : List Beat) (resp : BitVec 2) (s : State) : Host.Outcome State Fault Refusal :=
  match (s.spill_ d).oldest false with
  | some b =>
    if s.axiTakes ∧ b.kind = 1 ∧ data.length = b.len + 1 then
      let s := s.onSpill d (·.answered false)
      let mine (c : Chunk) : Bool := c.st == .reading && (s.spill_ d).dirOf c
      if resp.toNat ≥ 2 then
        .next (busError d b (s.onSpill d (·.onChunk mine fun c => { c with st := .unread })))
      else .next (settleSpill d (s.onSpill d (·.onChunk mine fun c => { c with st := .ready, data := data })))
    else .next s
  | none => .next s

/-- The OWN writeback is acknowledged (R499, R501): SPn_CUR goes on to the next descriptor of the chain (R504). -/
def descDone (d : Nat) (s : State) : State :=
  match (s.spill_ d).descs with
  | [] => s
  | e :: rest =>
    let s := (s.bump (SP_DONE_DESC d)).onSpill d fun x => { x with
      descs := rest, state := if e.stop && x.state == .run then .idle else x.state
      fetchAddr := if rest.isEmpty && !e.stop then e.next else x.fetchAddr }
    let s := if e.stop then s else setCur d e.next s
    if e.irq then event .spill (s.setBits (SP_STAT_IRQ d) 1) else s

/-- A B response acknowledges a chunk's write or a descriptor writeback (R497, R499, R505). -/
def execAxiWriteResponse (d : Fin 8) (resp : BitVec 2) (s : State) : Host.Outcome State Fault Refusal :=
  match (s.spill_ d).oldest true with
  | some b =>
    if s.axiTakes then
      let s := s.onSpill d (·.answered true)
      let mine (c : Chunk) : Bool := c.st == .writing && !(s.spill_ d).dirOf c
      let head (f : Desc → Desc) : State := s.onSpill d fun x => { x with descs := match x.descs with
        | [] => []
        | e :: rest => f e :: rest }
      if resp.toNat ≥ 2 then
        .next (busError d b (if b.kind = 1 then s.onSpill d (·.onChunk mine fun c => { c with st := .failed }) else s))
      else if b.kind = 1 then
        match (s.spill_ d).chunks.find? mine with
        | some c => .next (settleSpill d (chunkAcked d c s))
        | none => .next s
      else if b.kind = 2 then
        let own := match (s.spill_ d).state with | .run | .wait | .pausing => true | _ => false
        let own3 := (s.spill_ d).descs.head?.toList.map (s.writebackBurst d 3)
        let s := head fun e => { e with wb := 2 }
        .next (if own then s.onSpill d fun x => { x with bursts := x.bursts ++ own3 } else s)
      else .next (settleSpill d (descDone d s))
    else .next s
  | none => .next s

/-- A draining channel has finished (R504). -/
def execSpillDrainComplete (d : Fin 8) (s : State) : Host.Outcome State Fault Refusal :=
  let draining := match (s.spill_ d).state with | .pausing | .halting | .aborting => true | _ => false
  .next (if s.clocked && draining && s.spillDrained d then drainSpill d s else s)

-- transfers on the ports

/-- The data of a read request, beat by beat (R218). -/
def Req.allBeats (r : Req) : List Beat :=
  (List.range r.count).map fun i =>
    let b := r.addr.toNat + i
    ((r.lines.find? (·.line = b / 4)).map fun l => l.data.extractLsb' (512 * (b % 4)) 512).getD 0

/-- The last D transfer of a chunk's request: its data is at hand (R498, R500). -/
def spillRead (seq : Nat) (r : Req) (s : State) : State :=
  match s.chunkOf 28 seq with
  | none => s
  | some (d, c) =>
    let mine (y : Chunk) : Bool := y.desc == c.desc && y.start == c.start
    let s := s.onSpill d (·.onChunk mine fun y => { y with st := .ready, data := r.allBeats })
    settleSpill d (chunkLines d c.desc r s)

/-- The B transfer of a chunk's request (R498, R500). -/
def spillWrote (seq : Nat) (r : Req) (s : State) : State :=
  match s.chunkOf 29 seq with
  | none => s
  | some (d, c) => settleSpill d (chunkAcked d c (chunkLines d c.desc r s))

/-- A D beat transfers (R218); on P28 the spill engine takes it. -/
def execReadDataTransfer (p : Fin 30) (s : State) : Host.Outcome State Fault Refusal :=
  match s.sending p with
  | some r =>
    let last := (s.dBeat p r).last
    let s := sendD p r s
    .next (if p = 28 && last then spillRead r.seq r s else s)
  | none => .next s

/-- The B transfer of a write (R216, R217); on P29 the spill engine takes it. -/
def execWriteResponseTransfer (p : Fin 30) (tag : BitVec 8) (s : State) : Host.Outcome State Fault Refusal :=
  match s.readyWrite p tag with
  | some r =>
    let s := sendB p r s
    .next (if p = 29 then spillWrote r.seq r s else s)
  | none => .next s

/-- A write of PTn_CTRL.STOP (R242). -/
def execStop (p : Fin 30) (s : State) : Host.Outcome State Fault Refusal :=
  .next (if s.clocked then portStop p (dropHeld (PT_CTRL_STOP p).addr s) else s)

end Sys2Proof.Machine
end

