-- ==== Sys2Proof/Machine/Tap.lean ====
section
/-!
DEFINITION. The test access port (R480–R483), the stop of the block with the zeroize (R441, R484, R485), and the test of
one channel (R486–R490).
-/

namespace Sys2Proof.Machine

-- the stop of the block

/-- Abandon every operation of a channel without a response (R441 step 2). -/
def dropAll (c : Nat) (s : State) : State :=
  let s := abandonStep c s
  s.onChan c fun x => { x with ops := [], gills := Vector.replicate 16 none, moving := [], clear := none, job := .none }

/-- The lanes of a quad stand free of any operation. -/
def freeLanes (q : Nat) (s : State) : State :=
  let free (l : Lane) : Lane := { l with stopped := none, waiting := none, slot := none }
  s.onQuad q fun x => { x with lanes := x.lanes.map free, rebuilds := [], mop := none }

/-- Access to the secure segment or the scan chains is granted (R484 step 5). -/
def grantSecure (s : State) : State := event .keyz { s with tap := { s.tap with secStep := 6 } }

/-- Without RSI_CK the key material clears at once and access is granted; what the stop shows in status registers, and the
KEYZ event, come with the return (R82, R484). -/
def grantDark (s : State) : State :=
  let s := zeroize s
  { s with
    flt := { s.flt with testStop := true, haltStep := 4 }
    tap := { s.tap with secStep := 6 }
    keys := { s.keys with keyzLater := true } }

/-- The channels whose ranks a stop or a quiesce puts to sleep: in service, SPARE, and one that a DBIST may have roused. -/
def State.roused (s : State) : List Nat := allChans.filter fun c => s.live c || (s.chan c).state == .test

/-- The started lines of a channel have finished, or its quad has no clock to finish them (R296, R441 step 2). -/
def State.linesRest (s : State) (c : Nat) : Bool :=
  !s.quadRuns (quadOf c) || !((s.chan c).ops.any fun o => o.started || o.ending)

/-- A halt, or the stop for secure test access, goes on: started lines finish, keys are zeroed for the latter, and the
ranks go to self-refresh (R441 steps 2 and 3, R484 steps 2 to 5). -/
def settleHalt (s : State) : State :=
  let cs := s.roused
  if s.flt.haltStep = 2 ∧ allChans.all s.linesRest then
    let s := [0, 1, 2, 3].foldl (fun s q => freeLanes q s) (allChans.foldl (fun s c => dropAll c s) s)
    let s := if s.flt.testStop then zeroize s else s
    cs.foldl (fun s c => s.onRanks c Rank.askNow) { s with flt := { s.flt with haltStep := 3 } }
  else if s.flt.haltStep = 3 ∧ cs.all s.chanDown then
    let s := { s with flt := { s.flt with haltStep := 4 } }
    if s.flt.testStop then grantSecure s else s
  else s

/-- IJTAG_SEC or SCANMODE is selected (R484): the block stops, and a block that is stopped goes through the steps from 2 on.
It takes the place of a quiesce (R490). -/
def startSecure (s : State) : State :=
  if s.tap.secStep ≠ 0 then s
  else
    let s := { s with tap := { s.tap with secStep := 1, quiesce := 0, leaving := false } }
    if !s.rsiAlive then grantDark s
    else
      let s := if s.flt.haltStep = 0 then stopBlock s else s
      { s with flt := { s.flt with testStop := true, haltStep := 2 } }

-- the quiesce of R482

def quiesceStep (n : Nat) (s : State) : State := { s with tap := { s.tap with quiesce := n } }

/-- The pins are taken: DM_READY is 0 (R482). -/
def takePins (s : State) : State :=
  quiesceStep 5 { s with pins := { s.pins with dmReady := false } }

-- outputs

/-- Ports are enabled and DM_READY rises, unless the block is stopped or in a block reset (R175) or its pins are taken;
ING_HOLD follows the Tuns (R56, R62). -/
def raiseReady (s : State) : State :=
  if s.flt.haltStep ≠ 0 ∨ s.tap.quiesce ≠ 0 ∨ s.clk.blkStep ≠ 0 then s
  else [0, 1, 2, 3].foldl (fun s p => setIngHold p (s.port p).holdNow s) { s with pins := { s.pins with dmReady := true } }

-- tests of one channel

def setTest (c n : Nat) (s : State) : State := s.onChan c fun x => { x with test := n }

/-- Step 5 of a test (R488): the check, or the retrain where the operating point has changed. -/
def testReturn (c : Nat) (s : State) : State :=
  let x := s.chan c
  let s := (setTest c 5 s).onChan c fun x => { x with testStop := false }
  if x.testOp = s.op.cur then
    s.onRanks c fun k => if k.power = .active ∧ k.want = .serve then { k with check := true } else k.rouse true
  else
    let s := (restartTracking c (initSet c s.op.cur s)).setSt (CH_MARGIN_VALID c) 0
    startJob c (.retrain true) (s.onRanks c (Rank.rouse false))

/-- The test lines of a channel that meet a condition are given up. -/
def dropTests (c : Nat) (f : Op → Bool) (s : State) : State :=
  s.onChan c fun x => { x with ops := x.ops.filter fun o => o.kind ≠ .test || !f o }

def Chan.testLines (x : Chan) : Nat := x.ops.countP (·.kind == .test)

/-- The next line of a DBIST: each line of both ranks is written with the pattern of R406 and then, once all are written, read
back (R488 step 4b). Eight at a time are on their way (assumption 42). -/
def feedTest (c : Nat) (s : State) : State :=
  let x := s.chan c
  let n := s.lineCount c
  if x.testLines ≥ 8 ∨ 2 * n ≤ x.testAt ∨ (x.testAt = n ∧ x.testLines ≠ 0) ∨ !x.ranks.all s.rankUp then s
  else
    let l := x.testAt % n
    let d := Config.scratch c l
    let o := { Op.fresh .test .wantQueue l l 0 with acted := x.testAt < n, data := d, plain := d, looked := true }
    (s.addOp c o).onChan c fun x => { x with testAt := x.testAt + 1 }

/-- The cached metadata lines of a channel no longer hold: locked ways stay locked-empty. -/
def forgetCached (c : Nat) (s : State) : State :=
  let keep (e : Nat × Way) : Option (Nat × Way) :=
    if e.2.chan ≠ c then some e
    else if e.2.locked then some (e.1, { e.2 with st := WaySt.invalid, data := 0 }) else none
  s.onQuad (quadOf c) fun x => { x with ways := x.ways.filterMap keep }

/-- The state a test returns its channel to (R488 step 6). -/
def Chan.home (x : Chan) : ChanState := if x.state = .test then x.prev else x.state

/-- Step 6 (R488); a DBIST that ended before its step 4 has lost nothing. -/
def testEnd (c : Nat) (s : State) : State :=
  let x := s.chan c
  let s := leaveTest c s
  if x.home = .spare then s.onRanks c fun k => k.ask (.selfRefresh true)
  else if x.testDbist ∧ x.state = .test then
    let s := (s.setSt (CH_LOST_LOSTLO c) 0).setSt (CH_LOST_VALID c) 1
    startClearing c 0 (forgetCached c s)
  else s

/-- A test goes on to its next step (R488). -/
def settleTest (c : Nat) (s : State) : State :=
  let x := s.chan c
  match x.test with
  | 1 =>
    let s := s.onChan c fun x => x.evictGills .other fun _ => true
    if x.testStop then testReturn c s
    else if x.state ≠ .spare ∧ !s.emptied c then s
    else
      let dirty := (s.quad (quadOf c)).ways.filter fun e => e.2.chan == c && e.2.st == .dirty
      if dirty.isEmpty then (setTest c 2 s).onRanks c fun k => if k.awake then k.ask (.selfRefresh false) else k
      else dirty.foldl (fun s e => s.cleanWay (quadOf c) e.1 false) s
  | 2 =>
    if x.testStop then testReturn c s
    else if s.chanDown c then
      let s := s.onChan c fun x => { x with prev := x.state, state := .test, test := if x.testDbist then 4 else 3 }
      if x.testDbist then s.onRanks c (Rank.rouse false) else s
    else s
  | 3 => if x.testStop then testReturn c s else s
  | 4 =>
    if !x.testStop then (if s.quadWorks (quadOf c) then feedTest c s else s)
    else
      let s := dropTests c (fun o => o.bursts = 0) s
      if (s.chan c).testLines = 0 then testReturn c s else s
  | 5 => if s.chanUp c then testEnd c s else s
  | _ => s

/-- A request for a test (R486). -/
def testGo (c : Nat) (dbist lossok : Bool) (s : State) : State :=
  let x := s.chan c
  let s := (s.setCf (CH_TSTCTL_MODE c) (b2n dbist)).setCf (CH_TSTCTL_LOSSOK c) (b2n lossok)
  let spare := x.state == .spare && (s.partner c).isNone && !(s.chans.any fun y => y.reserve == some c)
  let serving := (x.state == .active || x.state == .wearing) && lossok && !s.flt.take
  if s.chans.all (·.test == 0) && (spare || serving) && !(s.quadClk (quadOf c)).wait && s.op.step == 0 &&
      s.tap.quiesce == 0 && s.flt.haltStep == 0 && s.clk.blkStep == 0 then
    settleTest c (s.onChan c fun x => { x with test := 1, testDbist := dbist, testOp := s.op.cur, testStop := false, testAt := 0 })
  else s.setBits (CH_TSTSTAT_REFUSED c) 1

/-- ABORT of a test (R488). -/
def testAbort (c : Nat) (s : State) : State :=
  let n := (s.chan c).test
  if 1 ≤ n ∧ n ≤ 4 then settleTest c (s.onChan c fun x => { x with testStop := true }) else s

/-- A write of CHn_TSTCTL, or the same by CHTEST (R486, R487). -/
def writeTst (c : Nat) (go abort mode lossok : Bool) (s : State) : State :=
  let s := dropHeld (CH_TSTCTL_GO c).addr s
  let s := (s.setCf (CH_TSTCTL_MODE c) (b2n mode)).setCf (CH_TSTCTL_LOSSOK c) (b2n lossok)
  let s := if abort then testAbort c s else s
  if go then testGo c mode lossok s else s

/-- A test is abandoned (R490): the channel runs steps 5 and 6 later. -/
def abandonTest (c : Nat) (s : State) : State :=
  let n := (s.chan c).test
  if n = 0 then s
  else
    let s := (setTest c 6 (dropTests c (fun _ => true) s)).onChan c fun x => { x with
      job := if n = 5 then .none else x.job, testStop := false }
    if n = 2 ∧ (s.chan c).state ≠ .spare then s.onRanks c (Rank.rouse false) else s

def abandonTests (s : State) : State := allChans.foldl (fun s c => abandonTest c s) s

/-- Abandoned tests go on with steps 5 and 6. -/
def resumeTests (s : State) : State :=
  allChans.foldl (fun s c => if (s.chan c).test = 6 then testReturn c s else s) s

/-- Lines have room again unless the channels sleep deeply. -/
def giveRoom (s : State) : State := s.serving.foldl (fun s c => s.onChan c fun x => { x with noRoom := s.op.dsm ≠ 0 }) s

/-- The pins are given back. -/
def openQuiesce (s : State) : State :=
  let s := giveRoom s
  { s with tap := { s.tap with quiesce := 0, leaving := false } }

/-- A quiesce goes on as steps 1 to 3 of R327 with self-refresh in place of deep sleep, and so does its exit (R482), at
whose end DM_READY rises (R56); it waits for a return of RSI_CK that has begun (R84). Room returns once the ranks have exited,
before the checks, whose scratch lines need it (R265, R409). -/
def settleQuiesce (s : State) : State :=
  let cs := s.serving
  match s.tap.quiesce with
  | 1 =>
    if s.op.pend || s.op.step ≠ 0 || s.op.dsmStep ≠ 0 then s
    else if s.op.dsm = 2 then takePins s
    else cs.foldl (fun s c => s.onChan c fun x => { x with noRoom := true }.evictGills .other fun _ => true)
      (quiesceStep 2 s)
  | 2 =>
    if cs.all s.drained then [0, 1, 2, 3].foldl (fun s q => flushCache q s) (quiesceStep 3 s)
    else cs.foldl (fun s c => s.onChan c fun x => x.evictGills .other fun _ => true) s
  | 3 =>
    if cs.all fun c => (s.chan c).ops.isEmpty then
      s.roused.foldl (fun s c => s.onRanks c fun k => if k.awake then k.ask (.selfRefresh true) else k) (quiesceStep 4 s)
    else s
  | 4 => if s.roused.all s.chanDown then takePins s else s
  | 5 =>
    let stands := !s.clocked || !s.pins.pclk || s.flt.haltStep ≠ 0 || s.clk.retStep ≠ 0 || s.clk.blkStep ≠ 0 ||
      s.clk.startStep ≠ 0
    if !s.tap.leaving || stands then s
    else if s.op.dsm = 2 ∨ cs.all s.chanUp then raiseReady (resumeTests (openQuiesce s))
    else if cs.all s.exited then giveRoom s
    else s
  | _ => s

/-- EXTEST, CLAMP or HIGHZ is selected; one selected while the block leaves a quiesce begins it anew (R482). -/
def startQuiesce (s : State) : State :=
  if s.tap.quiesce ≠ 0 ∧ !s.tap.leaving then s
  else
  let s := { s with tap := { s.tap with leaving := false } }
  if s.flt.haltStep ≠ 0 ∨ !s.rsiAlive ∨ s.clk.startStep ≠ 0 ∨ s.clk.retStep ≠ 0 ∨ s.clk.blkStep ≠ 0 then takePins s
  else settleQuiesce (quiesceStep 1 (abandonTests s))

/-- Another instruction is selected after a quiesce: ranks exit self-refresh and are checked (R482). -/
def endQuiesce (s : State) : State :=
  if s.tap.quiesce = 0 ∨ s.tap.leaving then s
  else if s.flt.haltStep ≠ 0 ∨ !s.rsiAlive ∨ s.clk.startStep ≠ 0 ∨ s.clk.blkStep ≠ 0 then openQuiesce s
  else
    let s := { s with tap := { s.tap with quiesce := 5, leaving := true } }
    if s.op.dsm = 2 then settleQuiesce s
    else
      let partners := s.mnt.evac.toList.map (·.spare)
      settleQuiesce (partners.foldl (fun s c => s.onRanks c (Rank.rouse false))
        (s.serving.foldl (fun s c => s.onRanks c (Rank.rouse true)) s))

-- the controller of IEEE 1149.1 (R74)

/-- The next state of the controller at a rising edge of TCK, by TMS (R74, IEEE 1149.1). -/
def TapCtl.next (tms : Bool) : TapCtl → TapCtl
  | .testLogicReset => if tms then .testLogicReset else .runTestIdle
  | .runTestIdle => if tms then .selectDr else .runTestIdle
  | .selectDr => if tms then .selectIr else .captureDr
  | .captureDr => if tms then .exit1Dr else .shiftDr
  | .shiftDr => if tms then .exit1Dr else .shiftDr
  | .exit1Dr => if tms then .updateDr else .pauseDr
  | .pauseDr => if tms then .exit2Dr else .pauseDr
  | .exit2Dr => if tms then .updateDr else .shiftDr
  | .updateDr => if tms then .selectDr else .runTestIdle
  | .selectIr => if tms then .testLogicReset else .captureIr
  | .captureIr => if tms then .exit1Ir else .shiftIr
  | .shiftIr => if tms then .exit1Ir else .shiftIr
  | .exit1Ir => if tms then .updateIr else .pauseIr
  | .pauseIr => if tms then .exit2Ir else .pauseIr
  | .exit2Ir => if tms then .updateIr else .shiftIr
  | .updateIr => if tms then .selectDr else .runTestIdle

/-- The TMS of a whole scan of n bits into the instruction register or a data register, by way of Run-Test/Idle. -/
def scanTms (ir : Bool) (n : Nat) : List Bool :=
  [false, true] ++ (if ir then [true] else []) ++ [false, false] ++ List.replicate (n - 1) false ++ [true, true]

/-- TDO by state of the controller: the bit that leaves the register while it shifts, high impedance otherwise (R74). -/
def TapCtl.tdo (bit : Bool) : TapCtl → Option Bool
  | .shiftDr | .shiftIr => some bit
  | _ => none

/-- The states a scan passes through, with TDO in each: the captured bits leave from bit 0 (R74). -/
def scanOut (bits : List Bool) : TapCtl → List Bool → List (TapCtl × Option Bool)
  | _, [] => []
  | c, tms :: rest =>
    let c' := c.next tms
    (c', c'.tdo (bits.headD false)) :: scanOut (if c'.tdo true = none then bits else bits.tail) c' rest

/-- The low n bits of a number, bit 0 first. -/
def lowBits (n v : Nat) : List Bool := (List.range n).map fun i => natBit v i

/-- What TDO drives through the scan of an instruction: the instruction register captures 0b000001 (R480). -/
def State.irScan (s : State) : List (TapCtl × Option Bool) := scanOut (lowBits 6 1) s.tap.ctl (scanTms true 6)

-- instructions

def TapInstr.quiesces : TapInstr → Bool
  | .extest | .clamp | .highz => true
  | _ => false

def TapInstr.secure : TapInstr → Bool
  | .ijtagSec | .scanmode => true
  | _ => false

/-- The instruction of a code; every code without one acts as BYPASS (R480). -/
def tapInstr (code : BitVec 6) : TapInstr :=
  match code.toNat with
  | 0x01 => .idcode | 0x02 => .sample | 0x03 => .extest | 0x04 => .clamp | 0x05 => .highz
  | 0x08 => .chtest | 0x09 => .ijtagPub | 0x0A => .ijtagSec | 0x0B => .scanmode
  | _ => .bypass

/-- Update-IR (R480). -/
def selectInstr (i : TapInstr) (s : State) : State :=
  if !s.porst then s
  else
    let s := { s with tap := { s.tap with ctl := (scanTms true 6).foldl (fun c m => c.next m) s.tap.ctl, instr := i } }
    if i.secure then startSecure s
    else if i.quiesces then startQuiesce s
    else endQuiesce s

/-- Update-IR with a code in the register (R480). -/
def updateIr (code : BitVec 6) (s : State) : State := selectInstr (tapInstr code) s

/-- IDCODE (R481). -/
def idcode : BitVec 32 := 0x3#4 ++ 0xD003#16 ++ Config.manufacturer ++ 1#1

/-- STATE of CHn_TSTSTAT. -/
def Chan.testCode (x : Chan) : Nat :=
  match x.test with
  | 0 => 0
  | 1 | 2 => 1
  | 3 | 4 => 2
  | _ => 3

/-- The data registers that the instructions select (R480, R483, R484): a register of this block with its width and the value
that Capture-DR loads, the boundary register, a segment of the IEEE 1687 network, or the scan chains. -/
inductive DataReg
  | here (width : Nat) (captured : BitVec 32)
  | boundary | publicSegment | secureSegment | scanChains
  deriving DecidableEq, Repr

/-- The register that a Capture-DR selects: until access is granted that of IJTAG_SEC and SCANMODE is one bit that captures 0;
the first Capture-DR after it captures 1, and the `n`-th after that opens the segment or the scan chains (R484). -/
def State.dataReg (s : State) (n : Nat) : DataReg :=
  match s.tap.instr with
  | .idcode => .here 32 idcode
  | .clamp | .highz | .bypass => .here 1 0
  | .chtest =>
    let c := natBits s.tap.dr.toNat 0 4
    let st := (s.chan c).testCode + (s.stat.get (CH_TSTSTAT_DONE c).addr).toNat % 2 ^ 16
    .here 32 (BitVec.ofNat 32 (s.tap.dr.toNat % 2 ^ 16 + st * 2 ^ 16))
  | .sample | .extest => .boundary
  | .ijtagPub => .publicSegment
  | .ijtagSec => if s.tap.secStep ≠ 6 then .here 1 0 else if n = 0 then .here 1 1 else .secureSegment
  | .scanmode => if s.tap.secStep ≠ 6 then .here 1 0 else if n = 0 then .here 1 1 else .scanChains

/-- What TDO drives through a scan of the selected data register, where its length and layout are the block's own. -/
def State.drScan (s : State) (n : Nat) : Option (List (TapCtl × Option Bool)) :=
  match s.dataReg n with
  | .here w v => some (scanOut (lowBits w v.toNat) s.tap.ctl (scanTms false w))
  | _ => none

/-- TDO at rest (R74). -/
def State.tdo (s : State) : Option Bool := s.tap.ctl.tdo false

-- meanings

/-- TRST_N puts the TAP into Test-Logic-Reset (R480). -/
def execTrstNAssert (s : State) : Host.Outcome State Fault Refusal :=
  let s := updateIr 0x01 s
  .next { s with tap := { s.tap with ctl := .testLogicReset } }

/-- IDCODE (R481). -/
def execIdcode (s : State) : Host.Outcome State Fault Refusal := .next (updateIr 0x01 s)

/-- SAMPLE/PRELOAD (R480). -/
def execSamplePreload (s : State) : Host.Outcome State Fault Refusal := .next (updateIr 0x02 s)

/-- EXTEST (R482). -/
def execExtest (s : State) : Host.Outcome State Fault Refusal := .next (updateIr 0x03 s)

/-- CLAMP (R482). -/
def execClamp (s : State) : Host.Outcome State Fault Refusal := .next (updateIr 0x04 s)

/-- HIGHZ (R482). -/
def execHighz (s : State) : Host.Outcome State Fault Refusal := .next (updateIr 0x05 s)

/-- CHTEST (R487). -/
def execChtest (s : State) : Host.Outcome State Fault Refusal := .next (updateIr 0x08 s)

/-- Update-DR of CHTEST (R487). -/
def execChtestUpdate (dr : BitVec 32) (s : State) : Host.Outcome State Fault Refusal :=
  if s.porst ∧ s.tap.instr = .chtest then
    let s := { s with tap := { s.tap with ctl := (scanTms false 32).foldl (fun c m => c.next m) s.tap.ctl, dr := dr } }
    .next (if s.clocked then
      writeTst (natBits dr.toNat 0 4) (dr.getLsbD 6) (dr.getLsbD 7) (dr.getLsbD 4) (dr.getLsbD 5) s else s)
  else .next s

/-- IJTAG_PUB (R483). -/
def execIjtagPub (s : State) : Host.Outcome State Fault Refusal := .next (updateIr 0x09 s)

/-- IJTAG_SEC (R484). -/
def execIjtagSec (s : State) : Host.Outcome State Fault Refusal := .next (updateIr 0x0A s)

/-- SCANMODE (R484). -/
def execScanmode (s : State) : Host.Outcome State Fault Refusal := .next (updateIr 0x0B s)

/-- BYPASS, and every code that is not listed (R480). -/
def execBypass (s : State) : Host.Outcome State Fault Refusal := .next (updateIr 0x3F s)

/-- A write of 1 to CHn_TSTCTL.GO (R486). -/
def execChannelTestGo (ch : Fin 16) (dbist lossok : Bool) (s : State) : Host.Outcome State Fault Refusal :=
  .next (if s.clocked then testGo ch dbist lossok (dropHeld (CH_TSTCTL_GO ch).addr s) else s)

/-- A write of 1 to CHn_TSTCTL.ABORT (R488). -/
def execChannelTestAbort (ch : Fin 16) (s : State) : Host.Outcome State Fault Refusal :=
  .next (if s.clocked then testAbort ch (dropHeld (CH_TSTCTL_ABORT ch).addr s) else s)

/-- Step 4 of a test is over: a LOOP ends in the PHY, and a DBIST once every line has been written and read back (R488). -/
def State.testOver (s : State) (c : Nat) : Bool :=
  let x := s.chan c
  x.test == 3 || (x.test == 4 && !x.testStop && x.testAt == 2 * s.lineCount c && x.testLines == 0)

/-- Step 4 of a test ends with its errors (R488, R489). -/
def execChannelTestEnd (ch : Fin 16) (errs : BitVec 16) (fbit : BitVec 5) (s : State) :
    Host.Outcome State Fault Refusal :=
  if s.clocked ∧ s.testOver ch then
    let s := (s.setSt (CH_TSTSTAT_ERRS ch) errs.toNat).setSt (CH_TSTSTAT_PASS ch) (b2n (errs == 0))
    .next (testReturn ch (s.setSt (CH_TSTSTAT_FBIT ch) (if errs = 0 then 0 else fbit.toNat)))
  else .next s

end Sys2Proof.Machine
end

