-- ==== Sys2Proof/Machine/Start.lean ====
section
/-!
DEFINITION. Reset and start-up (R52–R57, R93–R95), the load's transactions (R139–R143), the ends of clock switches
(R100–R112), the loss and return of RSI_CK (R82, R114–R119, R523), block reset (R174–R176), and the results of training,
checks, retrains and forced payments as the sequences take them up.
-/

namespace Sys2Proof.Machine

-- the absence timer (R115)

/-- The ranks that owe refreshes. -/
def State.counting (s : State) : List (Nat × Nat) := (ranksOf allChans).filter fun e => s.counts e.1 e.2

/-- D, the largest debt in units of the refresh interval, rounded up. -/
def State.worstDebt (s : State) : Nat :=
  s.counting.foldl (fun d e => max d (ceilDiv (s.rank e.1 e.2).debt.toNat 8)) 0

/-- 0.8 × (8 − D) × tREFI in units of 8 ns, at the shortest interval in force; at most 0xFFFF (R115). From step 1 of R117
until step 6 it is 0 (R119). -/
def State.absThreshold (s : State) : Nat :=
  if s.clk.retStep ≠ 0 ∧ s.clk.retStep < 6 then 0
  else match s.counting.map fun e => s.riseTime e.1 e.2 with
    | [] => 0xFFFF
    | t :: ts =>
      min 0xFFFF ((8 - s.worstDebt) * ts.foldl min t * 25000 * s.nDen / max 1 (s.cf TB_RSIFREQ_KHZ * s.nNum))

/-- The ramp is armed. -/
def State.absArmed (s : State) : Bool := !s.counting.isEmpty || (s.clk.retStep ≠ 0 && s.clk.retStep < 6)

-- replay (R108)

/-- An operation whose commands are lost begins them again: a read that has not been checked, a write that has not rested
tWR. A write that has made its entry keeps it. -/
def Op.replay (o : Op) : Op :=
  match o.phase with
  | .reading | .writing => { o with bursts := 0 }
  | .flight => { o with phase := .wantQueue, bursts := 0 }
  | .recovering => { o with phase := .wantQueue, bursts := 0, tries := 1 }
  | _ => o

/-- The operations of a channel are replayed; its data bus and WCK stand still. -/
def replay (c : Nat) (s : State) : State :=
  (s.onChan c fun x => { x with ops := x.ops.map Op.replay, dq := [] }).onRanks c fun k => { k with wckOn := false }

-- channels and quads in the sequences

/-- Both ranks of a channel serve, or sleep deeply as they are asked to. -/
def State.serviceUp (s : State) (c : Nat) : Bool :=
  s.chanUp c || ((s.chan c).ranks.all fun k => match k.want with | .deepSleep _ => true | _ => false)

/-- A quad stops for a clock fault: commands are lost, its ranks go to self-refresh, its tests and booked steps are
abandoned (R101, R106, R428, R490). -/
def stopQuad (q : Nat) (s : State) : State :=
  restQuad q ((quadChans q).foldl (fun s c => abandonTest c (abandonStep c (replay c s))) s)

/-- A quad goes on at step 4 of R101: its ranks leave self-refresh and are checked. Channels that a change has passed while
their quad stood on its bypass take the point in force (R29, R105; assumption 25). -/
def restartQuad (q : Nat) (s : State) : State :=
  let s := s.onQuadClk q fun k => { k with fbStep := 5, wait := false }
  ((quadChans q).filter s.live).foldl (fun s c =>
    (if s.atPoint c then s else takePoint c s).onRanks c (Rank.rouse true)) s

/-- Step 3 of R101 or R106 ends with the quad waiting, or with its return; step 5 ends when its channels serve. -/
def settleQuad (q : Nat) (s : State) : State :=
  let k := s.quadClk q
  let cs := (quadChans q).filter s.live
  if k.fbStep = 3 ∧ k.sw.isNone ∧ s.clk.coreSw = .none ∧ cs.all s.chanDown then
    if k.src = .bypass ∨ s.clk.core.st ≠ .active then s.onQuadClk q fun k => { k with fbStep := 0, wait := true }
    else restartQuad q s
  else if k.fbStep = 5 ∧ cs.all s.serviceUp then
    let s := restSpares (s.onQuadClk q fun k => { k with fbStep := 0 })
    if s.clk.retStep = 0 then resumeTests s else s
  else s

-- the return of RSI_CK (R117, R523)

def retStep (n : Nat) (s : State) : State := { s with clk := { s.clk with retStep := n } }

/-- The quads that take part in steps 5 to 7. -/
def State.returning (s : State) (q : Nat) : Bool :=
  let k := s.quadClk q
  !k.wait && k.src ≠ .bypass

/-- Channels whose ranks the return restarts. -/
def State.returnChans (s : State) : List Nat := allChans.filter fun c => s.live c && s.returning (quadOf c)

/-- No quad is still on its way to a clock or to its wait. -/
def State.quadsStill (s : State) : Bool :=
  [0, 1, 2, 3].all fun q =>
    let k := s.quadClk q
    k.wait || (k.src ≠ .bypass && k.sw.isNone && (k.fbStep == 0 || k.fbStep == 5))

/-- Step 5 is done: PREab has issued on every awake rank, and ranks that were asked to serve are awake. -/
def State.returnOpen (s : State) : Bool :=
  s.quadsStill && s.returnChans.all fun c => (s.chan c).ranks.all fun k => !k.preDue && (k.want ≠ .serve || k.awake)

/-- Step 7: every channel in service is checked. -/
def returnChecks (s : State) : State :=
  (s.returnChans.filter fun c => (s.chan c).inService).foldl (fun s c => s.onRanks c (Rank.rouse true)) (retStep 7 s)

/-- Step 6, or R118 in its place. -/
def returnPay (s : State) : State :=
  if s.clk.expired then
    let s := { s with clk := { s.clk with debtOver := true } }
    returnChecks (raise .rsidebt 0 s.clk.lossD s)
  else
    let s := raise .rsiret 0 s.clk.lossD s
    s.returnChans.foldl (fun s c => s.onRanks c fun k =>
      if k.keeps && k.awake then { k with debt := 64, forced := true } else k) (retStep 6 s)

/-- Step 8: service resumes with the operations that the return has replayed; DM_READY rises once every other output has
left its loss state (R84). -/
def returnDone (s : State) : State :=
  raiseReady (resumeTests (restSpares (showClkmon (retStep 0 { s with clk := { s.clk with expired := false } }))))

/-- A stopped block restarts its clocks at the return and reports it; nothing is paid or checked (R441). -/
def returnStopped (s : State) : State :=
  let s := if s.clk.expired then
      raise .rsidebt 0 s.clk.lossD { s with clk := { s.clk with debtOver := true } }
    else raise .rsiret 0 s.clk.lossD s
  showClkmon (retStep 0 { s with clk := { s.clk with expired := false } })

/-- The return goes on to its next step. -/
def settleReturn (s : State) : State :=
  if s.clk.retStep < 5 ∨ !s.clocked ∨ !s.pins.pclk then s
  else if s.flt.haltStep ≠ 0 then returnStopped s
  else if s.clk.retStep = 5 then (if s.returnOpen then returnPay s else s)
  else if s.clk.retStep = 6 then
    if s.returnChans.all fun c => (s.chan c).ranks.all (!·.forced) then returnChecks s else s
  else if (s.returnChans.filter fun c => (s.chan c).inService).all s.serviceUp then returnDone s
  else s

/-- Steps 1 to 3 (R117, R197, R523). The commands of the operations under way are lost with the clock: they begin anew once
service resumes (R108). -/
def startReturn (s : State) : State :=
  let s := allChans.foldl (fun s c => if s.live c then replay c s else s) s
  let s := (s.bump TB_CLKEVT_RSI_LOSSES).stamp TB_LOSSLINE_LINE TB_LOSSFRAME_FRAME
  let s := if s.keys.keyzLater then spillStops (event .keyz { s with keys := { s.keys with keyzLater := false } }) else s
  let s := sourceChanged { s with clk := { s.clk with
    retStep := 3, ramp := false, cclkPll := false, coreSw := .none, coreRetFail := false } }
  let s := startPll .core .ret 0 s
  [0, 1, 2, 3].foldl (fun s q =>
    let runs (p : Pll) : Bool := p.st ≠ .failed && p.st ≠ .off
    let ps := s.phyOf q runs
    let s := ps.foldl (fun s p => startPll p .ret s.op.cur s) s
    let s := s.onQuadClk q fun k => { k with src := .bypass, sw := none, fbStep := 0 }
    if ps.isEmpty && !(s.quadClk q).wait then stopQuad q s else s) s

-- the loss of RSI_CK

/-- What the absence timer takes with it: D, and whether it runs and expires at once (R115, R119). -/
def startRamp (s : State) : State :=
  { s with clk := { s.clk with
    lossD := if s.clk.retStep = 0 then s.worstDebt else s.clk.lossD
    ramp := s.absArmed
    expired := s.clk.expired || (s.absArmed && s.absThreshold == 0) } }

/-- An operating-point change before its step 5 is abandoned; a handshake to the point's level set may be owed (R337). -/
def loseChange (s : State) : State :=
  if s.op.step < 5 && (s.op.pend || s.op.step ≠ 0) then
    let s := abandonChange s
    { s with op := { s.op with
      resync := s.op.resync || s.op.supply.vset ≠ s.op.cur || s.op.supply.step ≠ 0 } }
  else s

/-- A swap in its steps 4 and 5 is abandoned and booked again (R460). -/
def loseSwap (s : State) : State :=
  match s.mnt.evac with
  | some e =>
    if e.step = 4 then
      postSwap ((s.onEvac fun e => { e with step := 3 }).onChan e.src fun x => { x with admitStop := false })
    else s
  | none => s

/-- The calibration of a channel stands: booked steps are posted again, windows and a ZQ latch to come are discarded
(R423, R428). -/
def loseCalibration (c : Nat) (s : State) : State := cancelLatch c 0 (cancelLatch c 1 (discardWindows c (abandonStep c s)))

/-- A loss in service; tests are abandoned (R490), and a quiesce that is under way takes the pins (R482). -/
def stopService (s : State) : State :=
  let s := abandonTests (endGaps (startRamp s))
  let s := loseSwap (loseChange (allChans.foldl (fun s c => loseCalibration c s) s))
  retStep 0 (if 1 ≤ s.tap.quiesce && s.tap.quiesce ≤ 4 then takePins s else s)

/-- The loss states (R82). A zeroizing sequence that the loss cuts short ends at once (R484). -/
def loseClock (s : State) : State :=
  let s := if s.clk.everUp ∧ s.clk.startStep = 0 ∧ s.clk.blkStep = 0 then stopService s else s
  let s := if 1 ≤ s.tap.secStep ∧ s.tap.secStep ≤ 5 then grantDark s else s
  { s with
    rsiAlive := false
    apbM := { s.apbM with ready := false }
    apbK := { s.apbK with ready := false }
    pins := { s.pins with pclk := false, dmReady := false, ingHold := 0b1111, clkmon := false } }

-- start-up

/-- The state that PORST_N leaves, with the strap sampled at its release (R54, R95); the DRAM is in reset and its
contents are new free values. -/
def State.afterReset (s : State) : State :=
  { State.reset with
    porst := s.porst, instId := s.instId, rsiAlive := s.rsiAlive, free := s.free + 1, pending := s.pending }

/-- Step 4 of R93 begins. -/
def startLoad (s : State) : State := loadStart { s with frozen := [], clk := { s.clk with startStep := 4 } }

/-- Step 9 of R93 begins on some channels of a quad. -/
def startTraining (q : Nat) (cs : List Nat) (f : Rank → Rank) (s : State) : State :=
  cs.foldl (fun s c => startJob c .training (s.onRanks c f))
    (s.onQuad q fun x => { x with initAt := none, trainAt := some s.rsck })

/-- A quad whose DRAM a block reset has kept leaves self-refresh, in place of step 8, and trains: its channels in service,
and those that an unfinished start-up has left in INIT (R175 step 6); the scheduler keeps the debt of a rank that a test has
left awake (R314). -/
def startKeptQuad (q : Nat) (s : State) : State :=
  let s := startTraining q ((quadChans q).filter fun c => ((s.chan c).inService || (s.chan c).state == .init) &&
      !(s.chan c).failed && s.st (CH_CALSTAT_TRAINED c) == 0)
    (fun k => { k with want := .serve, keeps := true, debtMark := 32 * s.now }) s
  ((quadChans q).filter fun c => (s.chan c).state == .test).foldl (fun s c => s.onRanks c fun k =>
    { k with keeps := k.awake, debtMark := 32 * s.now }) s

/-- The quad has its clock (step 7 of R93). -/
def State.quadGood (s : State) (q : Nat) : Bool := (s.quadClk q).src ≠ .bypass && (s.quadClk q).sw.isNone

/-- Steps 8 and 9 begin wherever the DRAM of a quad is not in reset. -/
def startQuads (s : State) : State :=
  if s.clk.startStep < 7 then s
  else
    let s := [0, 1, 2, 3].foldl (fun s q =>
      if s.quadGood q && s.pins.dreset.getLsbD q && (s.quad q).initAt.isNone && (s.quad q).trainAt.isNone then
        startKeptQuad q s
      else s) s
    let on := [0, 1, 2, 3].all fun q => s.quadDead q || (s.quad q).trainAt.isSome
    { s with clk := { s.clk with startStep := if on then 9 else s.clk.startStep } }

/-- DRESETk_N rises and the JEDEC power-up initialization of the quad begins (R93 step 8). -/
def releaseDreset (q : Nat) (s : State) : State :=
  let s := { s with
    pins := { s.pins with dreset := s.pins.dreset ||| (1#4 <<< q) }
    clk := { s.clk with startStep := max 8 s.clk.startStep } }
  s.onQuad q fun x => { x with initAt := some s.rsck, trainAt := none }

/-- The time of the power-up initialization in rsck: the manual gives only its bound of 3 ms (assumption 46). -/
def State.initTime (s : State) (q : Nat) : Nat := min (Config.initTime (4 * s.free + q)) (s.usRsck 3000)

/-- The initialization ends, with the ranks awake and their banks closed: the refresh scheduler starts and every channel of
the quad trains (R93 step 9, R314). -/
def settleInit (q : Nat) (s : State) : State :=
  match (s.quad q).initAt with
  | none => s
  | some t =>
    if t + s.initTime q ≤ s.rsck then
      startQuads (startTraining q ((quadChans q).filter fun c => (s.chan c).state ≠ .retired)
        (fun _ => { Rank.reset with keeps := true, debtMark := 32 * s.now, mr4At := s.now, idleAt := s.now }) s)
    else s

/-- Step 9 of R93 has run past its 10 ms in a quad. -/
def State.trainLate (s : State) (q : Nat) : Bool :=
  match (s.quad q).trainAt with
  | some t => s.clk.startStep ≠ 0 && t + s.usRsck 10000 < s.rsck
  | none => false

/-- The bound of a step of R405 in µs. -/
def stepBound (n : Nat) : Nat := [100, 20, 1500, 300, 2000, 3000, 1000, 200, 1000].getD (n - 1) 0

/-- The time in rsck that a step of a channel's training takes in the PHY, within its bound (R405, assumption 46). -/
def State.stepTime (s : State) (c n : Nat) : Nat := min (Config.stepTime s.free c n) (s.usRsck (stepBound n))

/-- Both ranks are awake and past their exit times; a training or retrain takes the place of a check that is due. -/
def State.ranksUp (s : State) (c : Nat) : Bool := (s.chan c).ranks.all fun k => s.rankUp { k with check := false }

/-- A step of a training is done: step 1 ends once both ranks answer, and step 8 with its scratch lines. Step 9 ends with
TRAINING_COMPLETE (R405). -/
def State.trainStepDone (s : State) (c : Nat) : Bool :=
  let x := s.cal c
  let n := x.trainStep
  s.quadLives (quadOf c) && n < 9 && (n ≠ 1 || s.ranksUp c) && (if n = 8 then s.calRested c else x.trainAt + s.stepTime c n ≤ s.rsck)

/-- A step of a training begins (R405): step 2 writes the mode registers, with FSP0 for the start point, step 8 follows the ZQ
latch of step 7 and writes the scratch row, and step 9 sweeps on its reads, with one compare for each rank (assumption 46). -/
def beginTrainStep (c n : Nat) (s : State) : State :=
  let s := s.onCal c fun x => { x with trainStep := n, trainAt := s.rsck }
  if n = 2 then s.onChan c fun x => { x with fspUse := false, fspOp := #v[some s.op.cur, none] }
  else if n = 8 then
    (s.onRanks c fun k => { k with zqLatch := some s.now }).onCal c fun x => { x with work := s.rowLines c true }
  else if n = 9 then
    s.onCal c fun x => { x with work := s.rowLines c false ++ s.wrcLines c 0 ++ s.wrcLines c 1 }
  else s

/-- A training fails at the step in progress, whose bound has passed (R94, R407). -/
def failTraining (c : Nat) (s : State) : State :=
  dropScratch c <| ((s.setSt (CH_CALSTAT_FAILSTEP c) (s.cal c).trainStep).setSt (CH_CALSTAT_FAILRANK c)
    (Config.lateRank (16 * s.free + c) % 2)).onChan c fun x => { x with job := .none, failed := true }

/-- The training of a channel goes on (R405). The bound of step 1 begins with step 8 of R93 done, its ranks awake. -/
def settleTrain (c : Nat) (s : State) : State :=
  let x := s.cal c
  if (s.chan c).job ≠ .training then s
  else if s.trainLate (quadOf c) || (x.trainStep ≠ 1 && x.trainAt + s.usRsck (stepBound x.trainStep) < s.rsck) then
    failTraining c s
  else if s.trainStepDone c then beginTrainStep c (x.trainStep + 1) s
  else s

/-- The trainings of a quad go on in parallel (R405). -/
def settleTraining (q : Nat) (s : State) : State :=
  (quadChans q).foldl (fun s c => settleTrain c s) s

/-- A channel has finished step 9 of R93 or has nothing to do in it. -/
def State.trained (s : State) (c : Nat) : Bool :=
  let x := s.chan c
  x.job == .none && (x.state == .retired || x.failed || s.st (CH_CALSTAT_TRAINED c) == 1 ||
    (s.clk.everUp && (x.state == .spare || x.state == .test)))

/-- The DRAM contents start anew in this start-up: after PORST_N, or after a block reset that lost them. -/
def State.freshDram (s : State) : Bool := !s.clk.everUp || s.clk.rstCause == 3

/-- Clearing begins on every channel in service (R347), or its end is shown where nothing was lost (R349). -/
def startMetadata (s : State) : State :=
  let again := s.freshDram || !s.clk.mdDone
  let s := (allChans.filter fun c => (s.chan c).inService).foldl (fun s c =>
    if again then startClearing c 0 s
    else (s.setSt (CH_MDINIT_PTR c) (s.lines / 32)).setSt (CH_MDINIT_DONE c) 1) s
  match s.mnt.evac with
  | none => s
  | some e =>
    let s := s.onRanks e.spare (Rank.rouse true)
    let s := s.onEvac fun e => { e with step := 1, mark := s.now, next := if again then 0 else s.st (CH_EVPTR_Q e.src) }
    if again then (s.setSt (CH_EVPTR_Q e.src) 0).onEvac fun e => { e with migDone := [], made := [] } else s

/-- The channels that a repeated training has failed after their DRAM was kept (R457). -/
def keptFailures (s : State) : State :=
  allChans.foldl (fun s c =>
    if !(s.chan c).failed then s
    else if (s.chan c).inService then hardFailure c 8 (leaveTest c <| s.onChan c fun x => { x with failed := false })
    else if (s.chan c).state = .spare then spareFailed c 8 (leaveTest c <| s.onChan c fun x => { x with failed := false })
    else s) s

/-- Take-preservation mode is entered again after a block reset (R458). -/
def retake (s : State) : State :=
  if !s.clk.everUp then s
  else if s.clk.debtOver then takeMode Src.rsidebt.bit s
  else
    let bare (c : Nat) : Bool :=
      ((s.chan c).state == .wearing || (s.chan c).state == .retired) && (s.chan c).reserve.isNone
    if (s.table.take s.logicals).any bare then takeMode Src.nospare.bit s else s

/-- Step 10 of R93. -/
def completeStart (s : State) : State :=
  let s := if s.clk.everUp ∧ !s.freshDram then keptFailures s else startupRetirement s
  let s := retake s
  let s := startMetadata s
  let s := allChans.foldl (fun s c => if (s.chan c).hardStep ≠ 0 then hardSpare c s else s) s
  let s := (List.range 30).foldl (fun s p =>
    if !s.on (PT_CFG_ENABLE p) then s
    else if s.frozen.any fun a => winOf a == .pt p then s.onPort p fun x => { x with state := .halted, hcause := 1 }
    else s.onPort p fun x => { x with state := .run }) s
  let s := startShaping { s with
    clk := { s.clk with startStep := 0, everUp := true }
    op := { s.op with frameAt := s.now } }
  resumeTests (raiseReady s)

-- block reset (R175, R176)

def blkStep (n : Nat) (s : State) : State := { s with clk := { s.clk with blkStep := n, blkMark := s.rsck } }

/-- The lines of a port that wait before a hazard table. -/
def State.unadmitted (s : State) (p : Nat) : List (Nat × Nat) :=
  allChans.flatMap fun c =>
    ((s.perch c p) ++ (s.chan c).arb.coming.filter (·.port == p)).map fun l => (l.seq, l.idx)

/-- Step 1: what has not been admitted is discarded; the mirror lines at a spare belong to writes already admitted. -/
def discardWaiting (s : State) : State :=
  let s := (List.range 30).foldl (fun s p =>
    let waits := s.unadmitted p
    let stays (r : Req) : Bool :=
      r.stage == .off && r.lines.zipIdx.all fun l => l.1.out.isSome || (l.1.handed && !waits.contains (r.seq, l.2))
    s.onPort p fun x => { x with reqs := x.reqs.filter stays }) s
  allChans.foldl (fun s c => (unGrant c s).onChan c fun x => { x with
    noRoom := true, arb := { x.arb with perch := x.arb.perch.map fun ls => ls.filter (·.kind == .mirror) } }) s

/-- The keys a block reset keeps: slots, write slot and VOID (R176, R469); a retired slot is erased, for no decrypt under it
is left (R473). -/
def Keys.kept (k : Keys) : Keys :=
  { Keys.reset with
    slots := k.slots.map fun x => if x.erase then .empty else x
    wvalid := k.wvalid, wslot := k.wslot, void := k.void }

/-- A rank across step 4: what its DRAM does goes on. -/
def Rank.kept (k : Rank) (now : Nat) : Rank :=
  let down : Want := if k.power = .deepSleep then .deepSleep false else .selfRefresh false
  { Rank.reset with power := k.power, want := if k.awake then .serve else down, lowAt := some now }

/-- A channel across step 4: its state as it stood at step 1, its reservation, and an abandoned test (R176, R490). -/
def Chan.kept (x : Chan) (st : ChanState) (now : Nat) : Chan :=
  { Chan.reset with
    state := st, ranks := x.ranks.map fun k => k.kept now, wearAt := x.wearAt, reserve := x.reserve
    hardStep := if st = .retired then x.hardStep else 0, prev := x.prev, test := if x.test = 0 then 0 else 6, testDbist := x.testDbist
    testOp := x.testOp }

/-- The RO fields a block reset keeps (R176). -/
def State.keptFields (s : State) : RegFile :=
  let fs := allChans.flatMap fun c =>
    [CH_STATE_PARTNER c, CH_STATE_PART_VALID c, CH_WEARSTAT_RESERVED_SP c] ++
      (if s.partner c = none then [] else [CH_EVPTR_Q c])
  fs.foldl (fun f x => f.fset x (s.st x)) State.reset.stat

/-- What a block reset keeps as it stands at its step 1: the channel table and states, and whether clearing was complete
(R176, R349). -/
def noteKept (s : State) : State :=
  let serving := allChans.filter fun c => (s.chan c).inService
  { s with clk := { s.clk with
    keptTable := if s.good then some s.table else s.clk.keptTable
    keptStates := s.chans.toList.map (·.state)
    mdDone := serving.all fun c => s.st (CH_MDINIT_DONE c) == 1 } }

/-- The supply handshake goes on across a block reset: the level set requested stays, and one to the point's set is owed
once the point is known (R71, R80). -/
def OpSeq.kept (o : OpSeq) : OpSeq := { OpSeq.reset with supply := { o.supply with late := false }, resync := true }

/-- Step 4: the logic is reset; where the steps before it did not complete, the DRAM goes into reset and its contents are lost.
The reservations, PARTNER, CHn_EVPTR and the evacuation are kept as they stand at this step; R176 names step 1 for the states
and the table alone, and RST_CAUSE 0b01 says that this reset has kept the DRAM (assumption 53). The bus keeps its distance
from a transaction that the reset cuts short (R127). -/
def resetState (lost : Bool) (s : State) : State :=
  let s := if s.clk.blkStep = 0 then noteKept s else s
  let clk : Clk := { Clk.reset with
    everUp := s.clk.everUp, debtOver := s.clk.debtOver, keptTable := s.clk.keptTable, keptStates := s.clk.keptStates
    mdDone := s.clk.mdDone, rstCause := if lost then 3 else 1 }
  let r : State := State.reset
  { r with
    porst := s.porst, instId := s.instId, now := s.now, rsck := s.rsck, rfrac := s.rfrac, rsiAlive := s.rsiAlive
    apbM := s.apbM, apbK := s.apbK, clk := clk, keys := s.keys.kept
    pins := { Pins.reset with dreset := if lost then 0 else s.pins.dreset }
    stat := s.keptFields
    flt := { Flt.reset with log := (settleLog s).flt.log, scruple := (settleScruple s).flt.scruple }
    op := s.op.kept
    chans := s.chans.mapIdx fun i x => x.kept (s.clk.keptStates.getD i x.state) s.now
    quads := s.quads.mapIdx fun q x => { Quad.reset with
      dresetAt := if lost && s.pins.dreset.getLsbD q then s.rsck else x.dresetAt }
    mnt := { r.mnt with evac := s.mnt.evac }
    tap := { s.tap with secStep := 0, leaving := false, quiesce := if s.tap.leaving then 0 else s.tap.quiesce }
    load := { Load.reset with mark := s.load.mark }
    dram := if lost then [] else s.dram, free := if lost then s.free + 1 else s.free
    pending := s.pending }

/-- The load begins with step 4. -/
def resetBlock (lost : Bool) (s : State) : State := startLoad (resetState lost s)

/-- A block that R484 has stopped before its start-up was over stays stopped when RSI_CK returns, its keys cleared: it loads
nothing until PORST_N or a block reset (R485, assumption 21). -/
def stayStopped (s : State) : State :=
  event .keyz { zeroize s with
    clk := { s.clk with startStep := 3 }
    flt := { s.flt with testStop := true, haltStep := 4 }
    tap := { s.tap with secStep := 6 } }

/-- A block reset goes on: admitted operations complete, the DMA channels drain and the caches are written back, then the
ranks in service go to self-refresh (R175 steps 2 and 3); in a halt neither step completes (R441). -/
def settleReset (s : State) : State :=
  let cs := allChans.filter s.live
  if s.flt.haltStep ≠ 0 then s
  else if s.clk.blkStep = 2 then
    let s := cs.foldl (fun s c => s.onChan c fun x => x.evictGills .other fun _ => true) s
    let quiet := (cs.all fun c => (s.chan c).ops.isEmpty) && (allChans.all fun c => (s.chan c).moving.isEmpty) &&
      (List.range 8).all s.spillQuiet
    if !quiet then s
    else if !([0, 1, 2, 3].all s.cacheFlushed) then [0, 1, 2, 3].foldl (fun s q => flushCache q s) s
    else cs.foldl (fun s c => s.onRanks c fun k => if k.awake then k.ask (.selfRefresh true) else k) (blkStep 3 s)
  else if s.clk.blkStep = 3 ∧ cs.all s.chanDown then resetBlock false s
  else s

/-- A block reset is accepted (R175 step 1); the clearer stops (R349), and scrub passes are aborted (R398). -/
def startReset (s : State) : State :=
  if s.clk.blkStep ≠ 0 then s
  else
    let s := noteKept { s with pins := { s.pins with dmReady := false, ingHold := 0b1111 } }
    let s := { s with chans := s.chans.map fun x => { x with clear := none } }
    let s := discardWaiting ([0, 1, 2, 3].foldl (fun s q => abortScrub q 0 s) (abortSpills s))
    settleReset (blkStep 2 (abandonTests (allChans.foldl (fun s c => abandonStep c s) s)))

/-- RSI_CK is declared present (R93 step 3, R95, R117). A loss during a load, also one of a block reset, starts everything
anew but for the key slots, which R469 keeps (R95, R143, assumption 21); a block reset or its start-up that the loss has
cut short elsewhere goes on at step 4, with the DRAM in reset. -/
def gainClock (s : State) : State :=
  if !s.porst then
    let answer (a : Apb) : Apb := if a.held.isSome then ⟨true, true, 0, none⟩ else a
    { s with rsiAlive := true, apbM := answer s.apbM, apbK := answer s.apbK }
  else
  let s := { s with
    rsiAlive := true
    apbM := { s.apbM with ready := s.apbM.held.isNone }
    apbK := { s.apbK with ready := s.apbK.held.isNone } }
  let stopped := s.flt.testStop && s.clk.blkStep == 0
  if !s.clk.everUp ∨ s.load.state = 1 then
    let t := { s.afterReset with apbM := s.apbM, apbK := s.apbK, keys := s.keys.kept }
    if stopped then stayStopped t else startLoad t
  else if s.clk.startStep ≠ 0 ∨ s.clk.blkStep ≠ 0 then
    if stopped then stayStopped (resetState true s) else resetBlock true s
  else startReturn s

-- ends of clock switches

/-- The core switch has moved to the core PLL (R93 step 6, R107, R117 step 4, R523); its monitor starts a new window
(R98). -/
def coreOnPll (s : State) : State :=
  let s := s.onPll .core fun x => { x with window := s.rsck }
  let s := sourceChanged { s with clk := { s.clk with cclkPll := true, coreSw := .none } }
  if s.clk.startStep = 6 then startQuads { s with clk := { s.clk with startStep := 7 } }
  else if s.clk.retStep ≠ 0 then
    let s := { s with clk := { s.clk with retStep := 5, coreRetFail := false } }
    [0, 1, 2, 3].foldl (fun s q =>
      let k := s.quadClk q
      if k.src = .bypass ∨ !(k.wait || k.fbStep == 3) then s
      else
        let s := s.onQuadClk q fun k => { k with wait := false, fbStep := 0 }
        ((quadChans q).filter s.live).foldl (fun s c => s.onRanks c (Rank.rouse false)) s) s
  else
    [0, 1, 2, 3].foldl (fun s q =>
      if (s.quadClk q).wait && (s.quadClk q).src ≠ .bypass then restartQuad q s else s) s

/-- The core switch has moved to the bypass (R106 steps 3 and 4, R110). -/
def coreOnBypass (s : State) : State :=
  let s := sourceChanged { s with clk := { s.clk with cclkPll := false, coreSw := .none } }
  [0, 1, 2, 3].foldl (fun s q => if (s.quadClk q).wait then s else stopQuad q s) s

/-- A quad switch has moved (R93 step 7, R101, R103, R117 step 5, R334 step 4). -/
def quadOn (q : Nat) (dst : ClkSrc) (why : SwWhy) (s : State) : State :=
  let s := s.onQuadClk q fun k => { k with src := dst, sw := none }
  let s := [false, true].foldl (fun s b => s.onPll (phyId q b) fun x => { x with window := s.rsck }) s
  let k := s.quadClk q
  match why with
  | .first =>
    if k.wait then startQuads (if s.clk.core.st = .active then restartQuad q s else s)
    else if s.clk.retStep ≠ 0 ∧ k.fbStep = 0 then
      let s := restartCk q s
      if s.clk.coreRetFail then restQuad q s
      else ((quadChans q).filter s.live).foldl (fun s c => s.onRanks c fun k => { k with preDue := k.awake }) s
    else startQuads s
  | .fallback => stopQuad q s
  | .unwait => startQuads (if s.clk.core.st = .active then restartQuad q s else s)
  | .opChange => settleOp s

/-- A write of TB_CLKMON (R123): the output is gated until the switch to the new clock is done. -/
def writeClkmon (sel div : Nat) (s : State) : State :=
  let s := (s.setCf TB_CLKMON_SEL sel).setCf TB_CLKMON_DIV div
  showClkmon { s with clk := { s.clk with monSw := false } }

-- meanings

/-- A low pulse of PORST_N of a given length (R52); from 20 ns to 100 ns its effect is not defined. The detector of RSI_CK
goes on (R82). -/
def execPorstNAssert (ns : Nat) (s : State) : Host.Outcome State Fault Refusal :=
  if ns < 20 then .next s
  else if ns < 100 then .refused .porstPulseUndefined
  else .next { s.afterReset with porst := false }

/-- PORST_N rises: INST_ID is sampled; the load begins once RSI_CK is present (R54, R93 steps 2 to 4). -/
def execPorstNRelease (instId : BitVec 14) (s : State) : Host.Outcome State Fault Refusal :=
  if s.porst then .next s
  else
    let s := { s with
      porst := true, instId := instId
      apbM := ⟨s.rsiAlive, false, 0, s.apbM.held⟩
      apbK := ⟨s.rsiAlive, false, 0, s.apbK.held⟩
      clk := { s.clk with startStep := 3 } }
    .next (if s.rsiAlive then startLoad s else s)

/-- The activity detector declares RSI_CK present (R114). -/
def execRsiCkPresent (s : State) : Host.Outcome State Fault Refusal := .next (if s.rsiAlive then s else gainClock s)

/-- The activity detector declares RSI_CK absent (R82, R114). -/
def execRsiCkLoss (s : State) : Host.Outcome State Fault Refusal :=
  .next (if !s.rsiAlive then s else if s.porst then loseClock s else { s with rsiAlive := false })

/-- The absence ramp passes its threshold (R115, R116). -/
def execAbsenceTimerExpiry (s : State) : Host.Outcome State Fault Refusal :=
  .next (if s.porst ∧ !s.rsiAlive ∧ s.clk.ramp then { s with clk := { s.clk with expired := true } } else s)

/-- A transaction of the configuration bus completes with its bytes (R127, R139); a good record starts the PLLs (R93
step 5). -/
def execCfgTransactionEnd (data : List Byte) (s : State) : Host.Outcome State Fault Refusal :=
  if s.clocked ∧ s.busDone ∧ data.length = s.load.len then
    match loadBytes data s with
    | .goOn s => .next s
    | .recordGood s => .next (startAllPlls (synFrame s))
  else .next s

/-- A write of 1 to GL_CFGCTRL.RELOAD (R143). -/
def reload (s : State) : State := if s.clocked ∧ s.load.state = 3 then startLoad s else s

def execReload (s : State) : Host.Outcome State Fault Refusal := .next (reload s)

/-- The lock detector reports lock in time: the PLL is good (R91 step 3). -/
def execLockDetect (p : PllId) (s : State) : Host.Outcome State Fault Refusal :=
  if s.clocked ∧ (s.pll p).phase = .lock ∧ !s.pllLate (s.pll p) then
    .next (settleReturn (tryPostOp (takeWant (pllGood p s))))
  else .next s

/-- A clock switch ungates its output at the new clock (R111). -/
def execClockSwitchDone (x : SwitchId) (s : State) : Host.Outcome State Fault Refusal :=
  if !s.clocked then .next s
  else match x with
  | .core => match s.clk.coreSw with
    | .toPll => .next (settleReturn (coreOnPll s))
    | .toBypass => .next (coreOnBypass s)
    | .none => .next s
  | .quad q => match (s.quadClk q).sw with
    | some (dst, why) => .next (settleReturn (quadOn q dst why s))
    | none => .next s
  | .pclk =>
    .next (if s.clk.cclkPll ∧ s.clk.coreSw = .none then settleReturn { s with pins := { s.pins with pclk := true } } else s)
  | .clkmon =>
    .next (if s.monitorAllowed && s.monitorRuns then showClkmon { s with clk := { s.clk with monSw := true } } else s)

/-- 64 cycles of a new clock have passed since a switch was asked for (R112): of RSI_CK on a bypass, else of a clock at
1 / `div` of the core PLL's. -/
def State.forceDue (s : State) (at_ : Nat) (bypass : Bool) (div : Nat) : Bool :=
  if bypass then at_ + 64 ≤ s.rsck else 64 * div * s.nDen ≤ (s.rsck - at_) * s.nNum

/-- A switch whose old side has not acknowledged in time forces it shut, once, and counts it (R112). -/
def execForcedSwitch (x : SwitchId) (s : State) : Host.Outcome State Fault Refusal :=
  match x with
  | .core =>
    let k := s.clk
    .next (if s.clocked ∧ k.coreSw ≠ .none ∧ !k.coreForced ∧ s.forceDue k.coreSwAt (k.coreSw == .toBypass) 1 then
      { s with clk := { k with coreForced := true } }.bump TB_CLKEVT_FORCED_SW else s)
  | .quad q =>
    let k := s.quadClk q
    match k.sw with
    | none => .next s
    | some (dst, _) =>
      let div := match dst with | .pllA => s.ratio (s.phy q false).op | .pllB => s.ratio (s.phy q true).op | .bypass => 1
      .next (if s.clocked ∧ !k.swForced ∧ s.forceDue k.swAt (dst == .bypass) div then
        (s.onQuadClk q fun k => { k with swForced := true }).bump (QD_PLLEVT_FORCED_SW q) else s)
  | .pclk | .clkmon => .next s

/-- DRESETk_N is released, 200 µs after PORST_N or after it was driven low (R93 step 8, R175 step 6). -/
def execDresetRelease (q : Fin 4) (s : State) : Host.Outcome State Fault Refusal :=
  .next (if s.clocked ∧ s.good ∧ 7 ≤ s.clk.startStep ∧ s.quadGood q ∧ !s.pins.dreset.getLsbD q ∧
      (s.quad q).dresetAt + s.usRsck 200 ≤ s.rsck then releaseDreset q s else s)

/-- The PHY codes that step 1 of the training has calibrated (R405, R422). -/
def putCodes (q : Nat) (codes : List Nat) (s : State) : State :=
  let v (i : Nat) : Nat := codes.getD i 0 % 64
  let s := [0, 1, 2].foldl (fun s i => s.setSt (codeField q i) (v i)) s
  s.onQuad q fun x => { x with codeTgt := #v[v 0, v 1, v 2], zqAt := s.now }

def noChecks (c : Nat) (s : State) : State := s.onRanks c fun k => { k with check := false }

/-- The result is one that the training can have at this point: a step that has begun has failed, or step 9 has run through
its lines (R405, R407). -/
def State.trainAnswers (s : State) (c : Nat) (f : CalFound) : Bool :=
  let n := (s.cal c).trainStep
  if f.failStep = 0 then n == 9 && s.ranksUp c && s.calRested c else f.failStep ≤ n

/-- A channel finishes its initial training (R405, R407). -/
def execTrainingComplete (ch : Fin 16) (found : CalFound) (s : State) : Host.Outcome State Fault Refusal :=
  .next (if s.clocked ∧ (s.chan ch).job = .training ∧ !s.trainLate (quadOf ch) ∧ s.trainAnswers ch found then
    let s := noChecks ch (restartTracking ch (initSet ch s.op.cur s))
    trainDone ch found (putCodes (quadOf ch) found.codes s) else s)

/-- Every quad is trained or its failures handled (R93 step 10). -/
def execStartupComplete (s : State) : Host.Outcome State Fault Refusal :=
  let ready := [0, 1, 2, 3].all fun q => (s.quadDead q || s.quadGood q) && (quadChans q).all s.trained
  .next (if s.clocked ∧ s.good ∧ 7 ≤ s.clk.startStep ∧ s.clk.blkStep = 0 ∧ s.flt.haltStep = 0 ∧ s.pins.pclk ∧ ready then
    completeStart s else s)

/-- What waits for a rank or channel goes on. -/
def settleRanks (s : State) : State :=
  let s := [0, 1, 2, 3].foldl (fun s q => settleQuad q s) s
  settleReset (settleReturn (settleEvac (settleOp s)))

/-- A forced payment has brought a rank to E ≤ 0 (R315, R326). -/
def execDebtPaymentDone (ch : Fin 16) (r : Fin 2) (s : State) : Host.Outcome State Fault Refusal :=
  let k := s.rank ch r
  .next (if s.clocked ∧ k.forced ∧ k.debt ≤ 0 then
    settleRanks (s.onRank ch r fun k => { k with forced := false }) else s)

/-- A check has run on the ranks that are due one, once they are awake (R409). -/
def execCheckDone (ch : Fin 16) (found : CalFound) (s : State) : Host.Outcome State Fault Refusal :=
  let rs := s.checkRanks ch
  let up := rs.all fun r => s.rankUp { s.rank ch r with check := false }
  .next (if s.quadLives (quadOf ch) ∧ (s.chan ch).job = .none ∧ rs ≠ [] ∧ up ∧ s.checkRead ch then
    settleRanks (checkDone ch found s) else s)

/-- A retrain has run; lines already started have finished (R411, R412). One that finds both edges has found them within the
reach of its searches. -/
def execRetrainDone (ch : Fin 16) (found : CalFound) (s : State) : Host.Outcome State Fault Refusal :=
  let on := match (s.chan ch).job with | .retrain _ => true | _ => false
  .next (if s.quadLives (quadOf ch) && on && s.ranksUp ch && (found.failStep ≠ 0 || (s.calRested ch && s.retrainReach ch found)) &&
      !(s.chan ch).ops.any Op.started then
    settleRanks (retrainDone ch found (noChecks ch s)) else s)

/-- Step 2 or 3 of a block reset overruns its bound (R175). -/
def execBlockResetTimeout (s : State) : Host.Outcome State Fault Refusal :=
  let bound := if s.clk.blkStep = 2 then 100 else 5
  .next (if s.clocked ∧ (s.clk.blkStep = 2 ∨ s.clk.blkStep = 3) ∧ s.clk.blkMark + s.usRsck bound ≤ s.rsck then
    resetBlock true s else s)

/-- A write of TB_CLKMON (R121, R123); live once the record is good. -/
def execClkmonSelect (sel : BitVec 6) (div : BitVec 10) (s : State) : Host.Outcome State Fault Refusal :=
  .next (if s.clocked ∧ s.good then writeClkmon sel.toNat div.toNat s else s)

end Sys2Proof.Machine
end

