-- ==== Sys2Proof/Machine/Register.lean ====
section
/-!
DEFINITION. The register ports (R151–R176): what a read answers, captures and clears, what a write changes and starts,
the aliases, the flagged writes, and the register parity.
-/

namespace Sys2Proof.Machine

-- fields whose value follows the state (R20)

def PllSt.code : PllSt → Nat
  | .off => 0 | .starting => 1 | .standby => 2 | .active => 3 | .prelock => 4 | .failed => 5

def ClkSrc.code : ClkSrc → Nat
  | .pllA => 0 | .pllB => 1 | .bypass => 2

def TbState.code : TbState → Nat
  | .nosync => 0 | .acquire => 1 | .locked => 2 | .holdover => 3

def PortState.code : PortState → Nat
  | .disabled => 0 | .run => 1 | .drain => 2 | .stopped => 3 | .halted => 4

def SpillState.code : SpillState → Nat
  | .idle => 0 | .run => 1 | .wait => 2 | .pausing => 3 | .paused => 4 | .halting => 5 | .halted => 6 | .aborting => 7

def PowerSt.code : PowerSt → Nat
  | .active => 0 | .powerDown => 1 | .selfRefresh => 2 | .deepSleep => 3

/-- The global window (R147, R178); of a longer REC_LEN RECLEN shows the low 11 bits (assumption 49). -/
def State.liveGl (s : State) : List (Field × Nat) := [
  (GL_VERSION_MINOR, 1), (GL_VERSION_MAJOR, 3), (GL_ID_PRODUCT, 0xD003), (GL_ID_VENDOR, 0x0452),
  (GL_INSTANCE_ID, s.instId.toNat),
  (GL_STATUS_READY, b2n s.pins.dmReady), (GL_STATUS_CFG_GOOD, b2n s.good), (GL_STATUS_HALTED, b2n s.haltedBit),
  (GL_STATUS_TAKE_PRES, b2n s.flt.take), (GL_STATUS_FATAL, b2n (s.st FT_STSFATAL_SRC ≠ 0)),
  (GL_STATUS_CONT, b2n (s.st FT_STSCONT_SRC ≠ 0)), (GL_STATUS_CORR, b2n (s.st FT_STSCORR_SRC ≠ 0)),
  (GL_STATUS_EVT, b2n (s.st FT_STSEVT_EVT ≠ 0)), (GL_STATUS_OP, s.op.cur),
  (GL_STATUS_PAR_ERR, b2n !s.frozen.isEmpty), (GL_STATUS_RST_CAUSE, s.clk.rstCause),
  (GL_CFGSTAT_STATE, s.load.state), (GL_CFGSTAT_ATTEMPT, s.load.attempt), (GL_CFGSTAT_ERR, s.load.err),
  (GL_CFGSTAT_STEP, s.load.step), (GL_CFGSTAT_RECLEN, s.load.recLen), (GL_CFGIMG_VALUE, s.load.img.toNat),
  (GL_CFGBUILD_VALUE, s.load.bld.toNat), (GL_CFGCRC_VALUE, s.load.crc.toNat)]

/-- The timebase window (R125–R131, R206, R278, R338). -/
def State.liveTb (s : State) : List (Field × Nat) := [
  (TB_RSISTAT_STATE, s.tb.state.code), (TB_RSISTAT_IN_VGAP, b2n s.tb.inV), (TB_RSISTAT_IN_HGAP, b2n s.tb.inH),
  (TB_RSISTAT_HB_WORD, b2n s.tb.hbGrain.isSome), (TB_RSISTAT_MC_PEND, b2n (s.tb.mcPend || s.tb.mcDefer)),
  (TB_RSISTAT_CAND, b2n s.tb.cand.isSome), (TB_LINEPER_PERIOD, s.lineper),
  (TB_POSLINE_LINE, s.tb.line.toNat), (TB_POSLINE_GRAIN, s.grain), (TB_POSFRAME_FRAME, s.tb.frame.toNat),
  (TB_LASTLINE_LINE, s.tb.last.line.toNat), (TB_LASTFRAME_FRAME, s.tb.last.frame.toNat),
  (TB_FRMLINES_LINES, s.tb.frmLines), (TB_FRMLINES_VBSTART, s.tb.frmVb), (TB_HGAP_CC, s.tb.hgap),
  (TB_VGAP_CC, min (2 ^ 32 - 1) s.tb.vgap),
  (TB_GATECTL_PENDING, b2n s.wheel.gatePend), (TB_GATECTL_COPYING, b2n s.wheel.gateCopy.isSome),
  (TB_CALCTL_PENDING, b2n s.wheel.calPend), (TB_CALCTL_COPYING, b2n s.wheel.calCopy.isSome),
  (TB_CALCTL_ROD, s.wheel.rod),
  (TB_OPSTAT_TARGET, s.op.target), (TB_OPSTAT_PEND, b2n s.op.pend), (TB_OPSTAT_PIN_BAD, b2n s.pinBad),
  (TB_OPSTAT_STEP, s.op.step), (TB_OPSTAT_VWAIT, b2n s.op.supply.late), (TB_OPSTAT_VSET, s.op.supply.vset),
  (TB_OPSTAT_COUNT, s.op.choices.length), (TB_PWRCTL_DSM_STATE, s.op.dsm),
  (TB_CLKSTAT_CORE_STATE, s.clk.core.st.code), (TB_CLKSTAT_CCLK_SRC, b2n s.clk.cclkPll),
  (TB_CLKSTAT_PCLK_ON, b2n s.pins.pclk), (TB_CLKSTAT_RETURNING, b2n (s.clk.retStep ≠ 0)),
  (TB_CLKSTAT_DEBT_OVER, b2n s.clk.debtOver), (TB_CLKSTAT_START_DONE, b2n s.clk.everUp),
  (TB_CLKSTAT_START_STEP, s.clk.startStep),
  (TB_CLKMON_REFUSED, b2n (s.cf TB_CLKMON_SEL ≠ 0 && !s.monitorAllowed)),
  (TB_ABSBUD_THRESH, if !s.good then 0 else if s.absArmed then s.absThreshold else 0xFFFF),
  (TB_ABSBUD_DEBT, if s.good && s.absArmed then s.worstDebt else 0)]

/-- Log entry k (R444, R446). -/
def LogEntry.live (e : LogEntry) (k : Nat) : List (Field × Nat) := [
  (FT_LOGSRC_SRC k, e.src), (FT_LOGSRC_NCLASS k, e.ncls), (FT_LOGSRC_ECLASS k, e.ecls), (FT_LOGSRC_HALT k, b2n e.halt),
  (FT_LOGSRC_VALID k, b2n e.valid), (FT_LOGSRC_UNIT k, e.unit), (FT_LOGINFO_INFO k, e.info.toNat),
  (FT_LOGLINE_LINE k, e.stamp.line.toNat), (FT_LOGFRAME_FRAME k, e.stamp.frame.toNat)]

/-- Scruple entry k (R362, R371). -/
def Scruple.live (e : Scruple) (k : Nat) : List (Field × Nat) := [
  (FT_SCRIDX_LINE k, e.line), (FT_SCRINFO_VALID k, b2n e.valid), (FT_SCRINFO_CHANNEL k, e.chan),
  (FT_SCRINFO_COUNT k, e.count), (FT_SCRFLINE_LINE k, e.first.line.toNat),
  (FT_SCRFFRAME_FRAME k, e.first.frame.toNat), (FT_SCRLLINE_LINE k, e.last.line.toNat),
  (FT_SCRLFRAME_FRAME k, e.last.frame.toNat)]

/-- One bit for each valid entry of a table. -/
def validBits (l : List Bool) : Nat := l.foldr (fun b acc => b2n b + 2 * acc) 0

/-- The fault window (R371, R462–R464); entries of the log and the scruple table by address. -/
def State.liveFt (s : State) (a : Nat) : List (Field × Nat) :=
  if 0x2400 ≤ a ∧ a < 0x2500 then
    let k := (a - 0x2400) / 16
    (s.flt.log.getD k .empty).live k
  else if 0x2840 ≤ a ∧ a < 0x2A40 then
    let k := (a - 0x2840) / 32
    (s.flt.scruple.getD k .empty).live k
  else
    let e := s.mnt.evac.getD ⟨0, 0, 0, 0, 0, [], []⟩
    [(FT_UNACK_CORR, b2n s.flt.unackCorr), (FT_UNACK_CONT, b2n s.flt.unackCont),
      (FT_UNACK_FATAL, b2n s.flt.unackFatal), (FT_TAKE_SRC, s.flt.takeSrc), (FT_TAKE_ACTIVE, b2n s.flt.take),
      (FT_TAKELINE_LINE, s.flt.takeStamp.line.toNat), (FT_TAKEFRAME_FRAME, s.flt.takeStamp.frame.toNat),
      (FT_EVSTAT_RUNNING, b2n s.mnt.evac.isSome), (FT_EVSTAT_STEP, e.step), (FT_EVSTAT_SRC, e.src),
      (FT_EVSTAT_SPARE, e.spare), (FT_EVSTAT_AVAIL, min 3 (s.tableTail.filter s.available).length),
      (FT_LOGSTAT_VALID, validBits (s.flt.log.toList.map (·.valid))),
      (FT_SCRSTAT_VALID, validBits (s.flt.scruple.toList.map (·.valid)))]

/-- The key page (R491). -/
def State.liveKy (s : State) : List (Field × Nat) := [
  (KY_STAT_VALID0, b2n (s.keys.slot 0).valid), (KY_STAT_VALID1, b2n (s.keys.slot 1).valid),
  (KY_STAT_WVALID, b2n s.keys.wvalid), (KY_STAT_WSLOT, s.keys.wslot), (KY_STAT_VOID, b2n s.keys.void),
  (KY_STAT_ERASING, b2n (s.keys.slots.any (·.erase))), (KY_STAT_BYPASS, s.cf GL_CRYPT_BYPASS),
  (KY_STAT_RESULT, s.keys.result), (KY_KCV_KCV0, (s.keys.slot 0).kcv.toNat), (KY_KCV_KCV1, (s.keys.slot 1).kcv.toNat),
  (KY_RKSTAT_STATE, s.keys.rkState), (KY_RKSTAT_OLD, s.keys.rkOld)]

/-- The window of a DMA channel (R507). -/
def State.liveSp (s : State) (d : Nat) : List (Field × Nat) :=
  let x := s.spill_ d
  [(SP_STAT_STATE d, x.state.code), (SP_STAT_HCAUSE d, x.hcause), (SP_STAT_HDIR d, b2n x.hdir),
    (SP_STAT_HKIND d, x.hkind), (SP_STAT_DIR d, b2n x.dir)]

/-- PTn_STATE.STATE: P30 and P31 show only RUN and HALTED, and every port DISABLED until start-up is over (R241, R242). -/
def State.portCode (s : State) (p : Nat) : Nat :=
  if p < 30 then (s.port p).state.code
  else if s.frozenIn (.pt p) then 4
  else if s.clk.startStep = 0 then 1 else 0

/-- The window of a port (R243, R277). -/
def State.livePt (s : State) (p : Nat) : List (Field × Nat) :=
  let x := s.port p
  [(PT_CFG_INGEST p, b2n (ingest p)), (PT_STATE_STATE p, s.portCode p), (PT_STATE_FLUSHING p, b2n x.flush.isSome),
    (PT_STATE_HCAUSE p, x.hcause), (PT_STATE_TAGS p, x.tags), (PT_TUNSTAT_LEVEL p, x.occ),
    (PT_TUNSTAT_HOLD p, b2n (s.pins.ingHold.getLsbD p)), (PT_TUNSTAT_FULL p, b2n (x.occ ≥ 1024)),
    (PT_SHLVL_LEVEL_C p, x.levelC / 1024), (PT_SHLVL_LEVEL_P p, x.levelP / 1024),
    (PT_SHSTAT_NEXT_ROD p, x.rodAt.getD 0), (PT_SHSTAT_WAITING p, b2n x.rodAt.isSome), (PT_SHSTAT_CREDIT p, x.credit),
    (PT_GATESTAT_WAITING p, b2n x.gated.isSome)]

/-- OPENING and OPEN banks of a rank (R291). -/
def State.openBits (s : State) (k : Rank) : Nat :=
  validBits (k.banks.toList.map fun b => s.bankState b == .opening || s.bankState b == .opened)

/-- The window of a channel but for its per-bit delays (R311, R339, R370, R433, R465, R491, R279). -/
def State.liveChan (s : State) (c : Nat) : List (Field × Nat) :=
  let x := s.chan c
  let k := x.rank
  let d := s.setOf c s.op.cur
  let owner := match x.arb.xfer, x.arb.park with
    | some e, _ => e.1.port
    | none, some p => p
    | none, none => 0
  let raa := (x.ranks.toList.flatMap fun k => k.banks.toList.map (·.raa)).foldl max 0
  [(CH_STATE_STATE c, x.state.code), (CH_STATE_WRMODE c, b2n x.wrMode), (CH_STATE_PREV c, x.prev.code),
    (CH_OCC_HAZ c, x.hazUsed), (CH_OCC_RQ c, x.rqUsed), (CH_OCC_WQ c, x.wqUsed), (CH_OCC_GILL c, 16 - x.freeGills),
    (CH_WDSTAT_COUNTING c, b2n (x.wdCount ≠ 0)), (CH_BANKSTAT_OPEN_CS0 c, s.openBits (k 0)),
    (CH_BANKSTAT_OPEN_CS1 c, s.openBits (k 1)), (CH_REFSTAT_DEBT0 c, ((k 0).debt % 256).toNat),
    (CH_REFSTAT_DEBT1 c, ((k 1).debt % 256).toNat), (CH_REFSTAT_ROUND0 c, (k 0).round),
    (CH_REFSTAT_ROUND1 c, (k 1).round), (CH_TEMP_CLASS0 c, (k 0).cls), (CH_TEMP_CLASS1 c, (k 1).cls),
    (CH_TEMP_DERATED c, b2n (s.derated c)), (CH_PWRSTAT_STATE0 c, (k 0).power.code),
    (CH_PWRSTAT_STATE1 c, (k 1).power.code), (CH_RFMSTAT_RAAMAX c, min 511 (max (s.st (CH_RFMSTAT_RAAMAX c)) raa)),
    (CH_MDINIT_DONE c, b2n (s.st (CH_MDINIT_DONE c) == 1 || (s.clk.startStep == 0 && !x.inService))),
    (CH_MDINIT_RUNNING c, b2n x.clear.isSome), (CH_MDINIT_AHEAD c, x.ahead.length),
    (CH_VREF_RV0 c, d.rv.getD 0 0), (CH_VREF_RV1 c, d.rv.getD 1 0), (CH_VREF_DV0 c, d.dv.getD 0 0),
    (CH_VREF_DV1 c, d.dv.getD 1 0), (CH_CADLY_CA c, d.ca), (CH_CADLY_CS c, d.cs),
    (CH_WCK_L0 c 0, d.wck.getD 0 0), (CH_WCK_L1 c 0, d.wck.getD 1 0), (CH_WCK_L0 c 1, d.wck.getD 2 0),
    (CH_WCK_L1 c 1, d.wck.getD 3 0), (CH_RDQS_L0 c 0, d.rdqs.getD 0 0), (CH_RDQS_L1 c 0, d.rdqs.getD 1 0),
    (CH_RDQS_L0 c 1, d.rdqs.getD 2 0), (CH_RDQS_L1 c 1, d.rdqs.getD 3 0),
    (CH_WEARCNT_LOWEYE c, min 15 (s.cal c).lowEye), (CH_TSTSTAT_STATE c, x.testCode),
    (CH_ARBSTAT_OWNER c, owner), (CH_ARBSTAT_PARKED c, b2n (x.arb.xfer.isNone && x.arb.park.isSome)),
    (CH_ARBSTAT_HELD c, b2n x.arb.hold.isSome), (CH_ARBSTAT_BUSY c, b2n x.arb.xfer.isSome),
    (CH_ARBSTAT_P31_GAP c, b2n (s.p31Gap c))]

/-- The per-bit delays of a bit at a point: those of a point neither trained nor tracked are its start values (R403);
RDP and WRP concern the point in force (R426). -/
def State.liveBit (s : State) (c k i : Nat) : List (Field × Nat) :=
  let r := bitRank i
  let b := bitNum i
  if !((s.cal c).sets.getD k .reset).trained then
    [(CH_BD_RD c k r b, s.cf (CH_DLYST_RD c k)), (CH_BD_WR c k r b, s.cf (CH_DLYST_WR c k))]
  else if k = s.op.cur then
    [(CH_BD_RDP c k r b, b2n (s.st (CH_BD_RD c k r b) ≠ (s.bitCal c i).tgtRd)),
      (CH_BD_WRP c k r b, b2n (s.st (CH_BD_WR c k r b) ≠ (s.bitCal c i).tgtWr))]
  else []

/-- The window of a channel, by address. -/
def State.liveCh (s : State) (c a : Nat) : List (Field × Nat) :=
  let o := a % 0x1000
  if 0xB00 ≤ o ∧ o < 0xF00 then
    let d := (o - 0xB00) % 0x100
    s.liveBit c ((o - 0xB00) / 0x100) (18 * (d / 0x80) + d % 0x80 / 4)
  else s.liveChan c

/-- A calibration step runs on a channel, or has been granted a booking to run in (R429). -/
def State.calHeld (s : State) (c : Nat) : Bool :=
  (s.cal c).step.isSome ||
    s.brk.granted.any fun g => g.book.scope == .chan c && (match g.book.work with | .calStep _ => true | _ => false)

/-- The step of R405 in progress in a quad: the least of its channels' (assumption 46). -/
def State.trainStepOf (s : State) (q : Nat) : Nat :=
  match ((quadChans q).filter fun c => (s.chan c).job == .training).map fun c => (s.cal c).trainStep with
  | [] => 0
  | n :: ns => ns.foldl min n

/-- The granted booking of a calibration step runs on a channel (R425). -/
def State.calBooked (s : State) (c : Nat) : Bool :=
  s.brk.granted.any fun g =>
    g.begun && g.book.scope == .chan c && (match g.book.work with | .calStep _ => true | _ => false)

/-- The window of a quad (R131, R399, R432). -/
def State.liveQd (s : State) (q : Nat) : List (Field × Nat) :=
  let x := s.quad q
  let k := s.quadClk q
  let cs := quadChans q
  [(QD_MCCTL_BYP_ST q, x.byp), (QD_MCOPSTAT_BUSY q, b2n x.mop.isSome),
    (QD_MCLOCK_LOCKED q, (x.ways.filter (·.2.locked)).length),
    (QD_MCLOCK_EMPTY q, (x.ways.filter (·.2.lockedEmpty)).length),
    (QD_SCRSTAT_CHDONE q, if s.st (QD_SCRSTAT_STATE q) = 0 then 0 else s.chDone q),
    (QD_CALSTAT_PAUSED q, b2n (s.paused q && !cs.any s.calHeld)),
    (QD_CALSTAT_SWEEPING q, b2n (cs.any fun c => (s.cal c).sweepOn)),
    (QD_CALSTAT_TRAIN_STEP q, s.trainStepOf q),
    (QD_CALSTAT_RTPEND q, validBits (cs.map fun c => (s.cal c).booked.any (·.1 == 1))),
    (QD_CALSTAT_BOOKED q, validBits (cs.map s.calBooked)),
    (QD_PLLSTAT_A_STATE q, (s.phy q false).st.code), (QD_PLLSTAT_B_STATE q, (s.phy q true).st.code),
    (QD_PLLSTAT_SRC q, k.src.code), (QD_PLLSTAT_WAIT q, b2n k.wait), (QD_PLLSTAT_NO_STANDBY q, b2n (s.noStandby q))]

/-- The fields of the register at an address whose value follows the state. -/
def State.liveFields (s : State) (a : Nat) : List (Field × Nat) :=
  match winOf a with
  | .gl => s.liveGl
  | .tb => s.liveTb
  | .ft => s.liveFt a
  | .pm => [(PM_STAT_FROZEN, s.cf PM_CTL_FREEZE)]
  | .sp d => s.liveSp d
  | .ky => s.liveKy
  | .pt p => s.livePt p
  | .ch c => s.liveCh c a
  | .qd q => s.liveQd q
  | .reserved => []

/-- The value of the register at a base address. -/
def State.regValue (s : State) (a : Nat) : Word :=
  (s.liveFields a).foldl (fun w e => if e.1.addr = a then e.1.put w e.2 else w) (s.cfg.get a ||| s.stat.get a)

-- parity (R170–R173)

/-- The parity of a word. -/
def oddBits (w : Word) : Bool := (List.range 32).foldl (fun p i => xor p (w.getLsbD i)) false

/-- A check finds a mismatch: the register stays as it is from now on, and its window's fault is raised (R172, R173). -/
def parityFound (a : Nat) (s : State) : State :=
  let s := { s with caps := put s.caps a (s.regValue a), frozen := a :: s.frozen }
  match winOf a with
  | .pm => raise .parc 0 a s
  | .sp d => raise .parc 0 a (spillHalt d 4 s)
  | .pt p =>
    if p < 30 then raise .parc 0 a (portHalt p 1 s)
    else if p = 30 then
      raise .parc 0 a ((List.range 4).foldl (fun s q => abortScrub q 1 s)
        (s.onPort 30 fun x => { x with state := .halted, hcause := 1 }))
    else raise .parf 0 a s
  | _ => raise .parf 0 a s

/-- Check a register (R171). -/
def parityCheck (a : Nat) (s : State) : State :=
  if s.parErr.contains a && !s.frozen.contains a then parityFound a s else s

/-- The bits of a register's parity that an upset inverts since the last check. -/
def upset (a : Nat) (bits : Word) (s : State) : State :=
  let bits := bits &&& ((regDesc a).map RegDesc.held).getD 0
  let s := { s with cfg := s.cfg.set a (s.cfg.get a ^^^ bits) }
  if !oddBits bits then s
  else if s.parErr.contains a then { s with parErr := s.parErr.filter (· ≠ a) }
  else { s with parErr := a :: s.parErr }

-- addresses (R151, R154, R163)

/-- The image of a base address that an access addresses. -/
inductive Image
  | base | set | clear | toggle
  deriving DecidableEq, Repr

def imageOf (a : Nat) : Image :=
  match a / 0x40000 with
  | 0 => .base
  | 1 => .set
  | 2 => .clear
  | _ => .toggle

/-- The address on the maintenance port's map, alias offset included; the key port reaches the key page alone (R64). -/
def mapAddr (p : ApbPort) (a : BitVec 20) : Nat :=
  match p with
  | .m => a.toNat
  | .k => 0x5000 + a.toNat % 0x1000

/-- Accesses that complete with PSLVERR whatever they address (R151, R154). -/
def refusedAccess (p : ApbPort) (a : BitVec 20) (prot : BitVec 3) : Bool :=
  a.toNat % 4 ≠ 0 ||
    (match p with
    | .m => winOf (a.toNat % 0x40000) == .ky
    | .k => prot.getLsbD 1)

-- reads (R159–R162, R165)

/-- The registers that form one value with a register: the lowest address and the number of parts (R12, R162). -/
def partsOf (a : Nat) : Option (Nat × Nat) :=
  let group (o : Nat) (n : Nat) (firsts : List Nat) : Option (Nat × Nat) :=
    (firsts.find? fun f => f ≤ o && o < f + 4 * n).map fun f => (a - o + f, n)
  let pairs (o lo hi : Nat) : Option (Nat × Nat) := if lo ≤ o ∧ o < hi then some (a / 8 * 8, 2) else none
  match winOf a with
  | .gl => group a 2 [0x308]
  | .tb => group a 2 [0x1018, 0x1020, 0x1818, 0x1C1C]
  | .ft =>
    if 0x2400 ≤ a ∧ a < 0x2500 then some (a / 16 * 16, 4)
    else if 0x2840 ≤ a ∧ a < 0x2A40 then group ((a - 0x2840) % 32) 6 [0]
    else group a 2 [0x2030]
  | .pm => (pairs a 0x3100 0x3180).or (pairs a 0x3200 0x3280)
  | .sp _ => group (a % 0x200) 2 [0x0C, 0x18, 0x24, 0x2C]
  | .ky => none
  | .pt _ => (group (a % 0x200) 3 [0x0C]).or (pairs (a % 0x200) 0x110 0x130)
  | .ch _ =>
    let o := a % 0x1000
    if 0x800 ≤ o ∧ o < 0xA00 then group (o % 16) 2 [4]
    else (group o 2 [0x20, 0x94, 0x218]).or (pairs o 0x310 0x330)
  | .qd _ => (group (a % 0x2000) 12 [0x140]).or (group (a % 0x2000) 2 [0x0C, 0x14, 0x108, 0x110, 0x420])
  | .reserved => none

/-- The addresses of the parts of a value. -/
def partAddrs (e : Nat × Nat) : List Nat := (List.range e.2).map fun i => e.1 + 4 * i

/-- A word with what this cc has done to a field. -/
def News.on (f : Field) (w : Word) : News → Word
  | .bits b => f.put w (f.of w ||| b)
  | .add n => f.put w (satAdd f.max (f.of w) n)

/-- What a register with its RC fields cleared holds at the end of this cc: an event of the cc is not lost to a clear
(R161), and a status bit whose cause persists is set again (R160). -/
def State.rcCleared (s : State) (a : Nat) : Word :=
  let w := s.stat.get a
  let rc := ((regDesc a).map RegDesc.rc).getD 0
  let again : Word := if a = 0x2000 ∨ a = 0x2004 ∨ a = 0x2008 then BitVec.ofNat 32 (persistBits s w.toNat) else 0
  (s.news.filter fun e => e.1.addr == a && e.1.mask &&& rc ≠ 0).foldr (fun e w => e.2.on e.1 w) ((w &&& ~~~rc) ||| again)

/-- Clear the RC fields of a register (R159–R161). -/
def clearRc (a : Nat) (s : State) : State :=
  if s.frozen.contains a then s else { s with stat := s.stat.set a (s.rcCleared a) }

/-- Capture a part, which a register found with a mismatch does not need. -/
def capture (a : Nat) (s : State) : State :=
  if s.frozen.contains a then s else { s with caps := put s.caps a (s.regValue a) }

/-- The value a register shows: a kept one its stored bits (R173). -/
def State.shown (s : State) (a : Nat) : Word := if s.frozen.contains a then (find s.caps a).getD 0 else s.regValue a

/-- What a base read returns and does: a kept register returns its stored bits; the lowest register of a value captures
every part and clears it; a higher one returns its part, a host write since the capture or not (R159, R162, R173;
assumption 16). -/
def readBase (a : Nat) (s : State) : Word × State :=
  let s := parityCheck a s
  match partsOf a with
  | some e =>
    if a = e.1 then
      (s.shown a, (partAddrs e).foldl (fun s b => clearRc b s) ((partAddrs e).foldl (fun s b => capture b s) s))
    else ((find s.caps a).getD (s.shown a), s)
  | none => (s.shown a, clearRc a s)

def State.apb (s : State) : ApbPort → Apb
  | .m => s.apbM
  | .k => s.apbK

def State.onApb (s : State) (p : ApbPort) (f : Apb → Apb) : State :=
  match p with
  | .m => { s with apbM := f s.apbM }
  | .k => { s with apbK := f s.apbK }

/-- An access completes. -/
def answerApb (p : ApbPort) (err : Bool) (data : Word) (s : State) : State :=
  s.onApb p fun x => { x with ready := true, slverr := err, rdata := data, held := none }

/-- A read (R154, R165, R166). -/
def apbRead (r : ApbRead) (s : State) : State :=
  let a := mapAddr r.port r.addr
  if refusedAccess r.port r.addr r.prot then answerApb r.port true 0 s
  else match imageOf a with
    | .base =>
      match regDesc a with
      | none => answerApb r.port false 0 s
      | some _ =>
        let (v, s) := readBase a s
        answerApb r.port (s.frozen.contains a) v s
    | _ => answerApb r.port false 0 s

-- writes (R152, R156, R157, R163)

/-- The bits of the strobed bytes. -/
def strobeMask (b : BitVec 4) : Word :=
  (List.range 4).foldl (fun m i => if b.getLsbD i then m ||| (0xFF <<< (8 * i)) else m) 0

/-- The cause for which a write is flagged (R157); of two the lower code (assumption 40). -/
def State.flagCause (s : State) (im : Image) (a : Nat) (d : RegDesc) (w : ApbWrite) : Option Nat :=
  if !s.good then none
  else if d.rw ||| d.lv ||| d.w1p = 0 then some 1
  else if im ≠ .base ∧ w.strb ≠ 0xF then some 2
  else if im = .base ∧ a = GL_CTRL_ARM.addr ∧ w.strb.getLsbD 0 ∧ w.data.getLsbD 0 ∧ !s.on GL_CTRL_ARM then some 3
  else none

/-- Flag a write (R157). -/
def flagWrite (a cause : Nat) (s : State) : State :=
  let s := s.setBits GL_STATUS_WR_IGN 1
  if s.stat.get GL_ACCERR_ADDR.addr = 0 then (s.setSt GL_ACCERR_ADDR a).setSt GL_ACCERR_CAUSE cause
  else s.setSt GL_ACCERR_MORE 1

/-- The counter a register is a half of, and whether it is the high half. -/
def counterOf (a : Nat) : Option (CounterId × Bool) :=
  let high := a % 8 = 4
  match winOf a with
  | .pm => if 0x3100 ≤ a ∧ a < 0x3180 then some (.bushel (Fin.ofNat 16 ((a - 0x3100) / 8)), high) else none
  | .pt p =>
    let o := a % 0x200
    if 0x110 ≤ o ∧ o < 0x130 then some (.port (Fin.ofNat 32 p) (Fin.ofNat 4 ((o - 0x110) / 8)), high) else none
  | .ch c =>
    let o := a % 0x1000
    if 0x310 ≤ o ∧ o < 0x330 then some (.chan (Fin.ofNat 16 c) (Fin.ofNat 4 ((o - 0x310) / 8)), high) else none
  | _ => none

/-- The counters whose selection a register holds (R510). -/
def selectedBy (a : Nat) : List CounterId :=
  match winOf a with
  | .pm => if 0x3040 ≤ a ∧ a < 0x3080 then [.bushel (Fin.ofNat 16 ((a - 0x3040) / 4))] else []
  | .pt p => if a % 0x200 = 0x104 then (List.finRange 4).map (.port (Fin.ofNat 32 p)) else []
  | .ch c => if a % 0x1000 = 0x304 then (List.finRange 4).map (.chan (Fin.ofNat 16 c)) else []
  | _ => []

/-- A write to the cache's control: BYPASS rises or falls (R387, R388). -/
def storeBypass (q a : Nat) (old new : Word) (s : State) : State :=
  if new.getLsbD 0 = old.getLsbD 0 then s.setCfgWord a new
  else if new.getLsbD 0 then enterBypass q s else leaveBypass q s

/-- A write to the calibration control: PAUSE rises or falls (R429). -/
def storePause (q a : Nat) (old new : Word) (s : State) : State :=
  if new.getLsbD 0 = old.getLsbD 0 then s.setCfgWord a new
  else if new.getLsbD 0 then calPause q s else calUnpause q s

/-- A shaper write waits for the next rod boundary; one of a cycle whose boundary is still to come leaves to it what was
written earlier (R250). -/
def storeShaper (p a : Nat) (old new : Word) (s : State) : State :=
  let x := s.port p
  let due := match x.shWrite with | some w => s.rodOver && w < s.wheel.mark + 16 && x.shDue.isNone | none => false
  let former := s.shaperRegs p
  let s := s.setCfgWord a new
  if new = old then s
  else s.onPort p fun x => { x with shWrite := some s.now, shDue := if due then some former else x.shDue }

/-- The written bits of a register with LV or RW fields change, with what that change brings. -/
def storeReg (a : Nat) (old new : Word) (s : State) : State :=
  if s.frozen.contains a then
    if a = GL_CTRL_ARM.addr then { s with cfg := s.cfg.set a new, caps := put s.caps a new } else s
  else match counterOf a with
    | some (c, false) => holdLow c new s
    | some (c, true) => writeHigh c new s
    | none =>
      let s := (selectedBy a).foldl (fun s c => beforeSelect c s) s
      match winOf a with
      | .tb =>
        if a = TB_OPPIN_EN.addr then writePin (TB_OPPIN_EN.of new = 1) (TB_OPPIN_OP.of new) s
        else if a = TB_CLKMON_SEL.addr then writeClkmon (TB_CLKMON_SEL.of new) (TB_CLKMON_DIV.of new) s
        else s.setCfgWord a new
      | .sp d =>
        if (a % 0x200 = 0xC ∨ a % 0x200 = 0x10) ∧ (s.spill_ d).state ≠ .idle then s else s.setCfgWord a new
      | .pt p =>
        if p < 30 ∧ 0x44 ≤ a % 0x200 ∧ a % 0x200 ≤ 0x4C then storeShaper p a old new s else s.setCfgWord a new
      | .qd q =>
        if a % 0x2000 = 4 then storeBypass q a old new s
        else if a % 0x2000 = 0x410 then storePause q a old new s
        else s.setCfgWord a new
      | _ => s.setCfgWord a new

/-- Do `f` if a bit of the written W1P bits is 1. -/
def bitDoes (w : Word) (i : Nat) (f : State → State) (s : State) : State := if w.getLsbD i then f s else s

def actTb (o : Nat) (w : Word) (s : State) : State :=
  if o = TB_GATECTL_REQ.addr then bitDoes w 0 (fun s => { s with wheel := { s.wheel with gatePend := true } }) s
  else if o = TB_CALCTL_REQ.addr then bitDoes w 0 (fun s => { s with wheel := { s.wheel with calPend := true } }) s
  else if o = TB_PWRCTL_DSM_ENTER.addr then bitDoes w 1 exitDsm (bitDoes w 0 enterDsm s)
  else if o = TB_CLKCTRL_CORE_RESTART.addr then bitDoes w 0 restartCore s
  else s

def actFt (o : Nat) (w : Word) (s : State) : State :=
  if o = FT_ACK_CORR.addr then ack w.toNat s
  else if o = FT_EVCTL_EVAC.addr then bitDoes w 0 (requestEvac (s.cf FT_EVCTL_CH)) s
  else if o = FT_LOGCTL_CLEAR.addr then clearLog w.toNat s
  else if o = FT_SCRCTL_CLEAR.addr then clearScruple w.toNat s
  else s

def actPt (p o : Nat) (w : Word) (s : State) : State :=
  if o = 0x8 then
    let s := if w.getLsbD 0 then portStop p s else bitDoes w 1 (portResume p) s
    bitDoes w 2 (flushStart p) s
  else if o = 0x100 then clearCounters (.port (Fin.ofNat 32 p)) (w.toNat / 256) s
  else s

def actCh (c o : Nat) (w : Word) (s : State) : State :=
  if o = 0x244 then
    writeTst c (w.getLsbD 0) (w.getLsbD 1) (s.on (CH_TSTCTL_MODE c)) (s.on (CH_TSTCTL_LOSSOK c)) s
  else if o = 0x300 then clearCounters (.chan (Fin.ofNat 16 c)) (w.toNat / 256) s
  else s

def actQd (q o : Nat) (w : Word) (s : State) : State :=
  if o = 0x8 then bitDoes w 0 (goOp q (s.cf (QD_MCOPCTL_OP q))) s
  else if o = 0x104 then (if w.getLsbD 1 then abortScrub q 0 s else bitDoes w 0 (startScrub q) s)
  else if o = 0x410 then
    let s := if w.getLsbD 1 && !s.paused q then sweepQuad q s else s
    [0, 1, 2, 3].foldl (fun s i => bitDoes w (4 + i) (requestRetrain (4 * q + i) 4) s) s
  else if o = 0x1804 then bitDoes w 1 (restartPhy q true) (bitDoes w 0 (restartPhy q false) s)
  else s

/-- The written W1P bits start their actions; `armed` is ARM before the write (R174). -/
def actReg (a : Nat) (w : Word) (armed : Bool) (s : State) : State :=
  if w = 0 then s
  else match winOf a with
    | .gl =>
      if a = GL_CTRL_BLK_RESET.addr then (if armed then startReset s else s)
      else if a = GL_CFGCTRL_RELOAD.addr then reload s
      else s
    | .tb => actTb a w s
    | .ft => actFt a w s
    | .pm => if a = PM_CTL_SNAP.addr then bitDoes w 5 clearBushel (bitDoes w 4 snapshot s) else s
    | .sp d => if a % 0x200 = 4 then writeSpillCtrl d w.toNat s else s
    | .ky =>
      if a = KY_CTL_LOAD.addr then writeKeyCtl (w.getLsbD 0) (w.getLsbD 1) s
      else if a = KY_RKCTL_START.addr then writeRekeyCtl (w.getLsbD 0) (w.getLsbD 1) s
      else s
    | .pt p => actPt p (a % 0x200) w s
    | .ch c => actCh c (a % 0x1000) w s
    | .qd q => actQd q (a % 0x2000) w s
    | .reserved => s

/-- The bits of a register that a write may change (R156). -/
def State.writable (s : State) (d : RegDesc) : Word := d.rw ||| (if s.good then d.lv else 0)

/-- The bits a write addresses, and the value it gives the register (R152, R156, R163). -/
def writtenBits (im : Image) (m old : Word) (w : ApbWrite) : Word × Word :=
  match im with
  | .base =>
    let m := m &&& strobeMask w.strb
    (m, (old &&& ~~~m) ||| (w.data &&& m))
  | .set => (w.data &&& m, old ||| (w.data &&& m))
  | .clear => (w.data &&& m, old &&& ~~~(w.data &&& m))
  | .toggle => (w.data &&& m, old ^^^ (w.data &&& m))

/-- The W1P bits a write starts. -/
def startedBits (im : Image) (d : RegDesc) (w : ApbWrite) : Word :=
  match im with
  | .base => w.data &&& d.w1p &&& strobeMask w.strb
  | .set => w.data &&& d.w1p
  | _ => 0

/-- A write to a register (R156, R157, R163, R164): the fields are written, then the actions start. A write of 1 to
GL_CTRL.BLK_RESET while ARM reads 0 is ignored (R174). -/
def writeReg (im : Image) (a : Nat) (d : RegDesc) (w : ApbWrite) (s : State) : State :=
  if im ≠ .base ∧ w.strb ≠ 0xF then s
  else
    let old := s.cfg.get a
    let (m, new) := writtenBits im (s.writable d) old w
    let armed := s.on GL_CTRL_ARM
    let started := startedBits im d w
    if a = GL_CTRL_ARM.addr ∧ started.getLsbD 0 ∧ !armed then s
    else
    let s := if a = PM_CTL_FREEZE.addr ∧ m.getLsbD 0 then s.onPerf fun f => { f with hostFreeze := true } else s
    actReg a started armed (if m = 0 then s else storeReg a old new s)

/-- A write completes (R154, R157, R166). -/
def apbWrite (w : ApbWrite) (s : State) : State :=
  let a := mapAddr w.port w.addr
  let b := a % 0x40000
  if refusedAccess w.port w.addr w.prot then answerApb w.port true 0 s
  else match regDesc b with
    | none => answerApb w.port false 0 s
    | some d =>
      let s := dropHeld b s
      match s.flagCause (imageOf a) b d w with
      | some cause => answerApb w.port false 0 (flagWrite a cause s)
      | none => writeReg (imageOf a) b d w (answerApb w.port false 0 s)

-- the progress of an access (R66, R82, R153, R168)

/-- A register of the shadow gate table, or of the shadow calendar, by window and offset. -/
def gateShadowReg (a : Nat) : Bool :=
  match winOf a with
  | .tb => a == TB_GATEVG_VG.addr || (0x1500 ≤ a && a < 0x1600)
  | .pt p => p < 30 && a % 0x200 == 0x60
  | _ => false

def calShadowReg (a : Nat) : Bool :=
  match winOf a with
  | .pt p => p < 30 && 0x70 ≤ a % 0x200 && a % 0x200 < 0x80
  | _ => false

/-- The port, address and protection of an access. -/
def Access.on : Access → ApbPort × BitVec 20 × BitVec 3
  | .write w => (w.port, w.addr, w.prot)
  | .read r => (r.port, r.addr, r.prot)

/-- An access is held with PREADY = 0: the clock is absent, or the copy of the shadow it writes runs. -/
def State.holdsAccess (s : State) (x : Access) : Bool :=
  let (p, addr, prot) := x.on
  let b := mapAddr p addr % 0x40000
  !s.rsiAlive || (!refusedAccess p addr prot &&
    (match x with
    | .write _ => (gateShadowReg b && s.wheel.gateCopy.isSome) || (calShadowReg b && s.wheel.calCopy.isSome)
    | .read _ => false))

/-- An access takes effect. -/
def runAccess (x : Access) (s : State) : State :=
  match x with
  | .write w => apbWrite w s
  | .read r => apbRead r s

/-- An access is presented on a port that has none in progress; during PORST_N it completes as soon as RSI_CK clocks it
(R66). -/
def beginAccess (x : Access) (s : State) : State :=
  let p := x.on.1
  if (s.apb p).held.isSome then s
  else if !s.porst then
    if s.rsiAlive then answerApb p true 0 s else s.onApb p fun y => { y with held := some x }
  else if s.holdsAccess x then s.onApb p fun y => { y with ready := false, held := some x }
  else runAccess x s

/-- A held access completes once nothing holds it. -/
def settleAccess (p : ApbPort) (s : State) : State :=
  match (s.apb p).held with
  | some x => if s.holdsAccess x then s else runAccess x s
  | none => s

/-- A write at an alias image of its base address (R163); K_PADDR reaches none. -/
def aliasAccess (im : Nat) (w : ApbWrite) (s : State) : State :=
  if w.port = .k then s
  else beginAccess (.write { w with addr := BitVec.ofNat 20 (w.addr.toNat % 0x40000 + im * 0x40000) }) s

-- meanings

/-- A write at any address of a port (R156). -/
def execRegisterWrite (a : ApbWrite) (s : State) : Host.Outcome State Fault Refusal := .next (beginAccess (.write a) s)

/-- A write at the set alias of an address (R163). -/
def execSetAliasWrite (a : ApbWrite) (s : State) : Host.Outcome State Fault Refusal :=
  .next (aliasAccess 1 a s)

/-- A write at the clear alias of an address (R163). -/
def execClearAliasWrite (a : ApbWrite) (s : State) : Host.Outcome State Fault Refusal :=
  .next (aliasAccess 2 a s)

/-- A write at the toggle alias of an address (R163). -/
def execToggleAliasWrite (a : ApbWrite) (s : State) : Host.Outcome State Fault Refusal :=
  .next (aliasAccess 3 a s)

/-- A read of a register with RC fields (R159, R160). -/
def execReadClear (a : ApbRead) (s : State) : Host.Outcome State Fault Refusal := .next (beginAccess (.read a) s)

/-- A read of the lowest register of a value in several registers (R162). -/
def execMultiRegisterCapture (a : ApbRead) (s : State) : Host.Outcome State Fault Refusal :=
  .next (beginAccess (.read a) s)

/-- A write of a shadow register while its copy runs (R168): held, it completes after the copy. -/
def execHeldShadowWrite (a : ApbWrite) (s : State) : Host.Outcome State Fault Refusal := .next (beginAccess (.write a) s)

/-- A read at any address of a port (R155). -/
def execRegisterRead (a : ApbRead) (s : State) : Host.Outcome State Fault Refusal := .next (beginAccess (.read a) s)

/-- At the end of its cc the walker has checked a register, after any write of that cc (R171). Bits that are upset behind
it stand until the next check; those of a register already found stay as they are (R173). -/
def settleWalks (s : State) : State :=
  let walk (s : State) (e : Nat × Word) : State :=
    let s := parityCheck e.1 s
    if s.frozen.contains e.1 then s else upset e.1 e.2 s
  s.walks.foldl walk { s with walks := [] }

/-- The walker reaches a register (R171); `bits` are those of its bits that an upset inverts behind it. -/
def execParityWalk (addr : BitVec 20) (bits : Word) (s : State) : Host.Outcome State Fault Refusal :=
  .next (if s.clocked ∧ hasParity addr.toNat then { s with walks := s.walks ++ [(addr.toNat, bits)] } else s)

/-- A base write of GL_CTRL with BLK_RESET = 1 (R174). -/
def execBlkReset (s : State) : Host.Outcome State Fault Refusal :=
  .next (beginAccess (.write ⟨.m, 0x00010, 1, 0xF, 0⟩) s)

end Sys2Proof.Machine
end

