-- ==== Sys2Proof/Machine/Dispatch.lean ====
section
/-!
DEFINITION. The effect of each command on everything but the queue: one arm for each row of spec/opcode_table.json.
-/

namespace Sys2Proof.Machine

-- The command's meaning, one call for each constructor.
def exec (i : Instr) (s : State) : Host.Outcome State Fault Refusal :=
  match i with
  -- reset, clocks and the configuration load
  | .porstNAssert ns => Sys2Proof.Machine.execPorstNAssert ns s
  | .porstNRelease instId => Sys2Proof.Machine.execPorstNRelease instId s
  | .rsiCkPresent => Sys2Proof.Machine.execRsiCkPresent s
  | .rsiCkLoss => Sys2Proof.Machine.execRsiCkLoss s
  | .absenceTimerExpiry => Sys2Proof.Machine.execAbsenceTimerExpiry s
  | .cfgTransactionEnd data => Sys2Proof.Machine.execCfgTransactionEnd data s
  | .reload => Sys2Proof.Machine.execReload s
  | .amplitudeReport p => Sys2Proof.Machine.execAmplitudeReport p s
  | .lockDelayExpiry p => Sys2Proof.Machine.execLockDelayExpiry p s
  | .lockDetect p => Sys2Proof.Machine.execLockDetect p s
  | .pllAttemptTimeout p => Sys2Proof.Machine.execPllAttemptTimeout p s
  | .pllRetryPauseExpiry p => Sys2Proof.Machine.execPllRetryPauseExpiry p s
  | .amplitudeDrop p => Sys2Proof.Machine.execAmplitudeDrop p s
  | .lossOfLock p => Sys2Proof.Machine.execLossOfLock p s
  | .monitorWindowEnd p count => Sys2Proof.Machine.execMonitorWindowEnd p count s
  | .clockSwitchDone x => Sys2Proof.Machine.execClockSwitchDone x s
  | .forcedSwitch x => Sys2Proof.Machine.execForcedSwitch x s
  | .restartA q => Sys2Proof.Machine.execRestartA q s
  | .restartB q => Sys2Proof.Machine.execRestartB q s
  | .coreRestart => Sys2Proof.Machine.execCoreRestart s
  | .dresetRelease q => Sys2Proof.Machine.execDresetRelease q s
  | .trainingComplete ch found => Sys2Proof.Machine.execTrainingComplete ch found s
  | .startupComplete => Sys2Proof.Machine.execStartupComplete s
  | .debtPaymentDone ch r => Sys2Proof.Machine.execDebtPaymentDone ch r s
  | .checkDone ch found => Sys2Proof.Machine.execCheckDone ch found s
  | .retrainDone ch found => Sys2Proof.Machine.execRetrainDone ch found s
  -- raster words and gaps
  | .rsiEventNone w => Sys2Proof.Machine.execRsiEventNone w s
  | .lineStart w => Sys2Proof.Machine.execLineStart w s
  | .frameStart w => Sys2Proof.Machine.execFrameStart w s
  | .horizontalBlank w => Sys2Proof.Machine.execHorizontalBlank w s
  | .verticalBlank w => Sys2Proof.Machine.execVerticalBlank w s
  | .modeChange w => Sys2Proof.Machine.execModeChange w s
  | .corruptWord w => Sys2Proof.Machine.execCorruptWord w s
  | .grainWrap => Sys2Proof.Machine.execGrainWrap s
  | .frameLineLimit => Sys2Proof.Machine.execFrameLineLimit s
  | .holdoverEntry => Sys2Proof.Machine.execHoldoverEntry s
  | .holdoverLimit => Sys2Proof.Machine.execHoldoverLimit s
  | .horizontalGapStart => Sys2Proof.Machine.execHorizontalGapStart s
  | .verticalGapStart => Sys2Proof.Machine.execVerticalGapStart s
  | .bookingEnd id => Sys2Proof.Machine.execBookingEnd id s
  -- registers
  | .registerWrite a => Sys2Proof.Machine.execRegisterWrite a s
  | .setAliasWrite a => Sys2Proof.Machine.execSetAliasWrite a s
  | .clearAliasWrite a => Sys2Proof.Machine.execClearAliasWrite a s
  | .toggleAliasWrite a => Sys2Proof.Machine.execToggleAliasWrite a s
  | .readClear a => Sys2Proof.Machine.execReadClear a s
  | .multiRegisterCapture a => Sys2Proof.Machine.execMultiRegisterCapture a s
  | .heldShadowWrite a => Sys2Proof.Machine.execHeldShadowWrite a s
  | .clkmonSelect sel div => Sys2Proof.Machine.execClkmonSelect sel div s
  | .parityWalk addr upset => Sys2Proof.Machine.execParityWalk addr upset s
  | .blkReset => Sys2Proof.Machine.execBlkReset s
  | .blockResetTimeout => Sys2Proof.Machine.execBlockResetTimeout s
  -- ports, shaping and intake
  | .request p addr len wr tag fence => Sys2Proof.Machine.execRequest p addr len wr tag fence s
  | .writeBeat p data be last => Sys2Proof.Machine.execWriteBeat p data be last s
  | .split p => Sys2Proof.Machine.execSplit p s
  | .shaperTest p => Sys2Proof.Machine.execShaperTest p s
  | .rodBoundary => Sys2Proof.Machine.execRodBoundary s
  | .revolutionEnd => Sys2Proof.Machine.execRevolutionEnd s
  | .calendarCommitRequest => Sys2Proof.Machine.execCalendarCommitRequest s
  | .gateCommitRequest => Sys2Proof.Machine.execGateCommitRequest s
  | .calendarCopyDone => Sys2Proof.Machine.execCalendarCopyDone s
  | .gateCopyDone => Sys2Proof.Machine.execGateCopyDone s
  | .gatePass p => Sys2Proof.Machine.execGatePass p s
  | .perchHandover p ch => Sys2Proof.Machine.execPerchHandover p ch s
  | .intakeDecision ch => Sys2Proof.Machine.execIntakeDecision ch s
  | .lineAdmission ch => Sys2Proof.Machine.execLineAdmission ch s
  | .holdStallTrip ch => Sys2Proof.Machine.execHoldStallTrip ch s
  | .readResponseStart p tag => Sys2Proof.Machine.execReadResponseStart p tag s
  | .readDataTransfer p => Sys2Proof.Machine.execReadDataTransfer p s
  | .writeResponseTransfer p tag => Sys2Proof.Machine.execWriteResponseTransfer p tag s
  | .tunPointerMismatch p => Sys2Proof.Machine.execTunPointerMismatch p s
  | .flush p => Sys2Proof.Machine.execFlush p s
  | .flushDone p => Sys2Proof.Machine.execFlushDone p s
  | .stop p => Sys2Proof.Machine.execStop p s
  | .resume p => Sys2Proof.Machine.execResume p s
  | .drainComplete p => Sys2Proof.Machine.execDrainComplete p s
  -- channel commands
  | .act ch => Sys2Proof.Machine.execAct ch s
  | .rd ch => Sys2Proof.Machine.execRd ch s
  | .wr ch => Sys2Proof.Machine.execWr ch s
  | .pre ch => Sys2Proof.Machine.execPre ch s
  | .preab ch r => Sys2Proof.Machine.execPreab ch r s
  | .refpb ch => Sys2Proof.Machine.execRefpb ch s
  | .refab ch => Sys2Proof.Machine.execRefab ch s
  | .rfmpb ch => Sys2Proof.Machine.execRfmpb ch s
  | .mrw ch r => Sys2Proof.Machine.execMrw ch r s
  | .mrr ch r => Sys2Proof.Machine.execMrr ch r s
  | .sre ch r => Sys2Proof.Machine.execSre ch r s
  | .srx ch r => Sys2Proof.Machine.execSrx ch r s
  | .pde ch r => Sys2Proof.Machine.execPde ch r s
  | .pdx ch r => Sys2Proof.Machine.execPdx ch r s
  | .deepSleepEntry ch r => Sys2Proof.Machine.execDeepSleepEntry ch r s
  | .deepSleepExit ch r => Sys2Proof.Machine.execDeepSleepExit ch r s
  | .casWsFs ch r => Sys2Proof.Machine.execCasWsFs ch r s
  | .zqCalibrationStart ch r => Sys2Proof.Machine.execZqCalibrationStart ch r s
  | .zqLatch ch r => Sys2Proof.Machine.execZqLatch ch r s
  | .rcdExpiry ch r b => Sys2Proof.Machine.execRcdExpiry ch r b s
  | .prechargeDone ch r b => Sys2Proof.Machine.execPrechargeDone ch r b s
  | .refreshDone ch r b => Sys2Proof.Machine.execRefreshDone ch r b s
  | .dataBusModeChange ch => Sys2Proof.Machine.execDataBusModeChange ch s
  | .writeRecoveryExpiry ch id => Sys2Proof.Machine.execWriteRecoveryExpiry ch id s
  | .idleClose ch r b => Sys2Proof.Machine.execIdleClose ch r b s
  | .readDataReturn ch id err => Sys2Proof.Machine.execReadDataReturn ch id err s
  | .secondRefetchDue ch id => Sys2Proof.Machine.execSecondRefetchDue ch id s
  | .gillAgeExpiry ch g => Sys2Proof.Machine.execGillAgeExpiry ch g s
  | .gillToWriteQueue ch g => Sys2Proof.Machine.execGillToWriteQueue ch g s
  -- refresh, power and operating points
  | .debtRise ch r => Sys2Proof.Machine.execDebtRise ch r s
  | .mr4PollDue ch r => Sys2Proof.Machine.execMr4PollDue ch r s
  | .mr4Result ch r cls => Sys2Proof.Machine.execMr4Result ch r cls s
  | .selfRefreshIdleExpiry ch r => Sys2Proof.Machine.execSelfRefreshIdleExpiry ch r s
  | .dsmEnter => Sys2Proof.Machine.execDsmEnter s
  | .dsmExit => Sys2Proof.Machine.execDsmExit s
  | .dsmxExpiry ch r => Sys2Proof.Machine.execDsmxExpiry ch r s
  | .opPin en op => Sys2Proof.Machine.execOpPin en op s
  | .vreqStrobe => Sys2Proof.Machine.execVreqStrobe s
  | .vackRise => Sys2Proof.Machine.execVackRise s
  | .vackFall => Sys2Proof.Machine.execVackFall s
  | .vackTimeout => Sys2Proof.Machine.execVackTimeout s
  -- metadata cache and scrub
  | .metadataLookup q lane => Sys2Proof.Machine.execMetadataLookup q lane s
  | .fillInstall ch id err => Sys2Proof.Machine.execFillInstall ch id err s
  | .recomputeComplete q way => Sys2Proof.Machine.execRecomputeComplete q way s
  | .clean q => Sys2Proof.Machine.execClean q s
  | .invalidate q => Sys2Proof.Machine.execInvalidate q s
  | .preload q => Sys2Proof.Machine.execPreload q s
  | .preloadLock q => Sys2Proof.Machine.execPreloadLock q s
  | .unlock q => Sys2Proof.Machine.execUnlock q s
  | .reservedOperation q => Sys2Proof.Machine.execReservedOperation q s
  | .mcOperationDone q => Sys2Proof.Machine.execMcOperationDone q s
  | .cacheBypassEntry q => Sys2Proof.Machine.execCacheBypassEntry q s
  | .bypassEntryDone q => Sys2Proof.Machine.execBypassEntryDone q s
  | .cacheBypassExit q => Sys2Proof.Machine.execCacheBypassExit q s
  | .scrubStart q => Sys2Proof.Machine.execScrubStart q s
  | .scrubAbort q => Sys2Proof.Machine.execScrubAbort q s
  | .scrubPassEnd q => Sys2Proof.Machine.execScrubPassEnd q s
  | .idlePermission ch => Sys2Proof.Machine.execIdlePermission ch s
  -- calibration
  | .calWindowClose ch bit errE errL => Sys2Proof.Machine.execCalWindowClose ch bit errE errL s
  | .periodicSweep ch => Sys2Proof.Machine.execPeriodicSweep ch s
  | .sweep q => Sys2Proof.Machine.execSweep q s
  | .retrain ch => Sys2Proof.Machine.execRetrain ch s
  | .calPause q => Sys2Proof.Machine.execCalPause q s
  | .calUnpause q => Sys2Proof.Machine.execCalUnpause q s
  | .staleExpiry ch r => Sys2Proof.Machine.execStaleExpiry ch r s
  | .oscillatorInterval ch r => Sys2Proof.Machine.execOscillatorInterval ch r s
  | .oscillatorCount ch r count => Sys2Proof.Machine.execOscillatorCount ch r count s
  | .writeReadCompareInterval ch r => Sys2Proof.Machine.execWriteReadCompareInterval ch r s
  | .writeReadCompareDone ch r pass => Sys2Proof.Machine.execWriteReadCompareDone ch r pass s
  | .zqInterval q pu pd odt => Sys2Proof.Machine.execZqInterval q pu pd odt s
  | .zqcalExpiry ch r => Sys2Proof.Machine.execZqcalExpiry ch r s
  | .tapMove t => Sys2Proof.Machine.execTapMove t s
  -- faults, wear and channel retirement
  | .ack classes => Sys2Proof.Machine.execAck classes s
  | .logClear mask => Sys2Proof.Machine.execLogClear mask s
  | .scrupleClear mask => Sys2Proof.Machine.execScrupleClear mask s
  | .evac ch => Sys2Proof.Machine.execEvac ch s
  | .evacuationStart => Sys2Proof.Machine.execEvacuationStart s
  | .channelSwap => Sys2Proof.Machine.execChannelSwap s
  | .swapDrainTimeout => Sys2Proof.Machine.execSwapDrainTimeout s
  -- keys and test access
  | .load => Sys2Proof.Machine.execLoad s
  | .retire => Sys2Proof.Machine.execRetire s
  | .keyErase slot => Sys2Proof.Machine.execKeyErase slot s
  | .rekeyStart => Sys2Proof.Machine.execRekeyStart s
  | .rekeyAbort => Sys2Proof.Machine.execRekeyAbort s
  | .rekeyPassEnd => Sys2Proof.Machine.execRekeyPassEnd s
  | .trstNAssert => Sys2Proof.Machine.execTrstNAssert s
  | .idcode => Sys2Proof.Machine.execIdcode s
  | .samplePreload => Sys2Proof.Machine.execSamplePreload s
  | .extest => Sys2Proof.Machine.execExtest s
  | .clamp => Sys2Proof.Machine.execClamp s
  | .highz => Sys2Proof.Machine.execHighz s
  | .chtest => Sys2Proof.Machine.execChtest s
  | .chtestUpdate dr => Sys2Proof.Machine.execChtestUpdate dr s
  | .ijtagPub => Sys2Proof.Machine.execIjtagPub s
  | .ijtagSec => Sys2Proof.Machine.execIjtagSec s
  | .scanmode => Sys2Proof.Machine.execScanmode s
  | .bypass => Sys2Proof.Machine.execBypass s
  | .channelTestGo ch dbist lossok => Sys2Proof.Machine.execChannelTestGo ch dbist lossok s
  | .channelTestAbort ch => Sys2Proof.Machine.execChannelTestAbort ch s
  | .channelTestEnd ch errs fbit => Sys2Proof.Machine.execChannelTestEnd ch errs fbit s
  -- spill engine
  | .spillStart d => Sys2Proof.Machine.execSpillStart d s
  | .kick d => Sys2Proof.Machine.execKick d s
  | .spillPause d => Sys2Proof.Machine.execSpillPause d s
  | .spillResume d => Sys2Proof.Machine.execSpillResume d s
  | .spillAbort d => Sys2Proof.Machine.execSpillAbort d s
  | .pollExpiry d => Sys2Proof.Machine.execPollExpiry d s
  | .descriptorFetched d desc resp => Sys2Proof.Machine.execDescriptorFetched d desc resp s
  | .chunkIssue d => Sys2Proof.Machine.execChunkIssue d s
  | .axiReadResponse d data resp => Sys2Proof.Machine.execAxiReadResponse d data resp s
  | .axiWriteResponse d resp => Sys2Proof.Machine.execAxiWriteResponse d resp s
  | .spillDrainComplete d => Sys2Proof.Machine.execSpillDrainComplete d s
  -- performance counters, and the plain register read
  | .counterLowWrite c data => Sys2Proof.Machine.execCounterLowWrite c data s
  | .counterHighWrite c data => Sys2Proof.Machine.execCounterHighWrite c data s
  | .clr cs mask => Sys2Proof.Machine.execClr cs mask s
  | .clrall => Sys2Proof.Machine.execClrall s
  | .snap => Sys2Proof.Machine.execSnap s
  | .freeze on => Sys2Proof.Machine.execFreeze on s
  | .counterWrap c => Sys2Proof.Machine.execCounterWrap c s
  | .pmovf => Sys2Proof.Machine.execPmovf s
  | .registerRead a => Sys2Proof.Machine.execRegisterRead a s

end Sys2Proof.Machine
end

