-- ==== Sys2Proof/Machine/Tick.lean ====
section
/-!
DEFINITION. One cc of the block, the step on an empty queue (assumption 1): counters, waits and copies advance, queue
entries are taken, bookings begin, and every sequence whose condition is met goes on to its next step.
-/

namespace Sys2Proof.Machine

-- time

/-- One cc passes: RSI_CK runs at CCLK / N, and at CCLK on the bypass (R86). -/
def advanceClock (s : State) : State :=
  let s := { s with now := s.now + 1 }
  if s.clk.cclkPll ∧ s.nNum ≠ 0 then
    let f := s.rfrac + s.nDen
    { s with rsck := s.rsck + f / s.nNum, rfrac := f % s.nNum }
  else { s with rsck := s.rsck + 1, rfrac := 0 }

/-- The running line is one cc older (R185). -/
def advanceLine (s : State) : State := if s.rasterRuns then { s with tb := { s.tb with t := s.tb.t + 1 } } else s

-- waits

/-- The lines that were present in the cc that has ended and were not granted in it (R264). -/
def State.stood (s : State) (c : Nat) : List PerchLine := (s.heads c).filter fun l => l.since < s.now

/-- The hold-stall watchdog counts (R308). -/
def watchHold (c : Nat) (s : State) : State :=
  let x := s.chan c
  match x.arb.hold with
  | none => if x.wdCount = 0 then s else s.onChan c fun x => { x with wdCount := 0 }
  | some h =>
    let stuck := (s.stood c).any fun l => l.port == h && !s.hasRoom c l
    let other := (s.stood c).any fun l => l.port ≠ h && l.port ≠ 31
    s.onChan c fun x => { x with wdCount := if stuck || other then x.wdCount + 1 else 0 }

/-- A cc passes for every present line that was not granted (R276). -/
def countWaits (c : Nat) (s : State) : State :=
  (s.stood c).foldl (fun s l => s.bump48 (CH_AWTL_WAIT_LO c l.port) (CH_AWTH_WAIT_HI c l.port)) s

/-- The time since an operation last needed a bank's open row, a rank, or the channel (R297, R325, R393). A present line
of P0–P29 ends the permission of an idle channel. -/
def markIdle (c : Nat) (s : State) : State :=
  let busy := (s.chan c).portsWait
  let bank (r : Nat) (e : Bank × Nat) : Bank :=
    if e.1.st == .opened && s.queuedRow c r e.2 e.1.row then { e.1 with idleAt := s.now } else e.1
  let rank (k : Rank) (r : Nat) : Rank :=
    { k with
      banks := k.banks.mapIdx fun b x => bank r (x, b)
      idleAt := if s.rankIdle c r then k.idleAt else s.now }
  s.onChan c fun x =>
    let x := { x with ranks := x.ranks.mapIdx fun r k => rank k r, idleAt := if busy then s.now else x.idleAt }
    if busy then duties.foldl (fun x d => x.setPerm d (x.perm d % 2)) x else x

/-- A rank that went to self-refresh for idleness is wanted again, by an operation or for its FSP write (R325, R332). -/
def wakeRank (c r : Nat) (s : State) : State :=
  if (s.rank c r).nap && (!s.rankIdle c r || s.fspOwed c r) then s.onRank c r (Rank.rouse false) else s

-- queue entries (R283, R286, R289)

/-- The entry a waiting operation takes, if one is free: its place in a queue, or for a writeback its hazard entry and
its place in the write queue. -/
def State.entriesFor (s : State) (c : Nat) (o : Op) : Option (Op → Op) :=
  let x := s.chan c
  let read (r : Res) : Op → Op := fun o => { o with phase := if o.looked || o.isFill then .reading else .lookup, rq := r }
  let write (r : Res) : Op → Op := fun o => { o with phase := .writing, wq := r, mark := s.now }
  let shared : Option (Op → Op) := if x.wqFree then some (write .shared) else none
  match o.kind with
  | .writeback =>
    match (if o.haz = .none then x.hazFor .wb else some o.haz), x.wqWb with
    | some h, some w => some fun o => { write w o with haz := h }
    | _, _ => none
  | .write | .mirror => shared
  | .rekey => if o.acted then shared else if x.rqFree then some (read .shared) else none
  | .scratch | .test => if o.acted then shared else if x.rqFree then some (read .shared) else none
  | .read | .scrub | .migration | .rmw => if x.rqFree then some (read .shared) else none
  | .demand | .preload | .opFill _ | .bypass | .bypassWrite | .recompute _ =>
    if s.opFree c o && s.victimGone o && x.rq .fill < 4 then some (read .fill) else none

/-- The order of R36 among waiting operations: by party, ports by tier, and then the oldest. -/
def Op.rank (o : Op) : Nat := (8 * o.order + if o.order = 50 then o.tier else 0) * 2 ^ 64 + o.id

/-- Waiting operations of some orders take the entries that are free, in the order of R36. -/
def takeEntries (c : Nat) (some_ : Op → Bool) (s : State) : State :=
  let wait := (s.chan c).ops.filter fun o => o.phase == .wantQueue && some_ o && s.opWorks c o
  (sortBy Op.rank wait).foldl (fun s o => match s.entriesFor c o with
    | some f => s.onOp c o.id f
    | none => s) s

/-- One cc of the entries of a channel: calibration, then the reads of read-modify-writes, then the rest (R36). -/
def serveEntries (c : Nat) (s : State) : State :=
  let s := takeEntries c (fun o => o.order < 30) s
  let s := if s.quadWorks (quadOf c) then startEvictions c (promote c s) else s
  takeEntries c (fun o => 30 ≤ o.order) s

-- channels and quads

/-- The change of mode stays due once its condition has held (R298, R299). -/
def latchMode (c : Nat) (s : State) : State :=
  if s.busRuns c then s.onChan c fun x => { x with modeDue := s.turning c } else s

/-- The reservation of a channel that has become WEARING, or that waits for a spare under test (R448, R460, R490). -/
def settleReserve (c : Nat) (s : State) : State := if (s.chan c).reserveDue then reserveSpare c s else s

/-- The work of a channel that serves operations. -/
def serveChan (c : Nat) (s : State) : State :=
  if s.quadWorks (quadOf c) then
    let s := if s.op.dsm = 0 then clearNext c s else s
    wakeRank c 1 (wakeRank c 0 s)
  else s

/-- P30's mirror lines and P31's scratch lines come to their perch queues (R310, R406). -/
def handWork (c : Nat) (s : State) : State := if s.intakeRuns then handScratch c (handMirror c (settleCheck c s)) else s

/-- What the arbiter of a channel keeps of the cc that has ended (R268, R276, R308). -/
def restIntake (c : Nat) (s : State) : State :=
  let s := if s.intakeRuns then countWaits c (watchHold c s) else s
  (markIdle c s).onChan c fun x => { x with arb := x.arb.rest }

/-- One cc of a channel. -/
def tickChan (c : Nat) (s : State) : State :=
  let s := startOsc c (restIntake c s)
  let s := latchMode c (handWork c (serveChan c (serveEntries c s)))
  settleReserve c (settleFill c (settleTest c (settleHard c s)))

/-- One cc of a quad. -/
def tickQuad (q : Nat) (s : State) : State :=
  let s := if s.quadWorks q then mopStep q s else s
  settleTraining q (settleInit q (settleQuad q (settleBypass q s)))

/-- The sequences of the whole block go on. -/
def settleBlock (s : State) : State :=
  let s := settleHalt (settleQuiesce (settleDsm (settleEvac (settleOp s))))
  settleReset (settleReturn s)

/-- The spill engine's cc. -/
def tickSpill (s : State) : State := (List.range 8).foldl (fun s d => settleSpill d s) (spillRequests s)

/-- A cc ends: the Tuns take their occupancy and the counters their events, the parity walker checks what the cc has
written, and the transients and the occurrences of the cc enter their tables (R171, R240, R362, R438, R445, R509). -/
def endCc (s : State) : State :=
  settleLog (settleScruple (settleWalks (countAll ([0, 1, 2, 3].foldl (fun s p => tunCc p s) s))))

/-- The responses that are due come onto the B channels (R206). -/
def showResponses (s : State) : State := (List.range 30).foldl (fun s p => showB p s) s

/-- One cycle of RSI_CK while CCLK stands for its switch to the bypass (R106 step 2): counters and sequences stand with it,
and the collector and the register ports go on (R509, R518). -/
def tickStopped (s : State) : State :=
  settleAccess .k (settleAccess .m { settleLog (settleScruple s) with rsck := s.rsck + 1, rfrac := 0, news := [] })

/-- One cc; without a clock nothing happens. -/
def tick (s : State) : State :=
  if !s.clocked then s
  else if s.clk.coreSw = .toBypass then tickStopped s
  else
    let s := advanceLine (advanceClock { endCc s with news := [] })
    let s := settleAccess .k (settleAccess .m (gateCopyStep (calCopyStep s)))
    let s := beginGrants s
    let s := allChans.foldl (fun s c => tickChan c s) s
    let s := [0, 1, 2, 3].foldl (fun s q => tickQuad q s) s
    let s := settleBlock (tickSpill s)
    showResponses { s with chans := s.chans.map noteHeld }

end Sys2Proof.Machine
end

