-- ==== Sys2Proof/WellFormed.lean ====
section
/-!
DEFINITION. Well-formed commands: operands that the world outside the block can present. The rules leave the block's
reaction to any other operand unsaid; exec is total on them all the same.
-/

namespace Sys2Proof

open Sys2Proof.Machine

/-- A result of the PHY (R405, R409, R411) has an entry for each bit, WCK byte, rank and code it reports, within the range of
each, and names a step of R405 (R79, R402). -/
def CalFound.wf (f : CalFound) : Bool :=
  f.failStep ≤ 9 && f.rd.length == 36 && f.wr.length == 36 && f.left.length == 36 && f.right.length == 36 &&
    f.wmargin.length == 36 && f.wck.length == 4 && f.rdqs.length == 4 && f.rv.length == 2 && f.dv.length == 2 &&
    f.osc.length == 2 && f.codes.length == 3 && f.noEdge.length == 2 &&
    (f.rd ++ f.wr ++ f.wck ++ f.rdqs ++ [f.ca, f.cs]).all (· < 512) && f.rv.all (· ≤ 80) && f.dv.all (· < 128) &&
    f.codes.all (· < 64)

/-- A valid raster word with the event of its command (R179, R181, R183). -/
def wordOf (w : BitVec 64) (event : Nat) : Bool := validWord w && wordEvent w == event

/-- The operands of a command are ones that its rule admits. -/
def Instr.wf : Instr → Bool
  | .rsiEventNone w => wordOf w 0
  | .lineStart w => wordOf w 1
  | .frameStart w => wordOf w 2
  | .horizontalBlank w => wordOf w 3
  | .verticalBlank w => wordOf w 4
  | .modeChange w => wordOf w 5
  | .corruptWord w => wordSync w == 0xA7 && !validWord w
  | .trainingComplete _ f | .checkDone _ f | .retrainDone _ f => f.wf
  | .writeReadCompareDone _ _ pass => pass.length == 18
  | .axiReadResponse _ data _ => 1 ≤ data.length && data.length ≤ 64
  | .cfgTransactionEnd data => 1 ≤ data.length
  | _ => true

end Sys2Proof
end

