-- ==== Sys2Proof/Safety.lean ====
section
/-!
DEFINITION. What the claims about whole runs are said in: the canonical form of a state's sparse data, the end of a step,
a run of commands that neither faults nor is refused, and the registers that only store.
-/

namespace Sys2Proof.Machine

/-- The keys of sparse data rise strictly. -/
def rising {α : Type} (l : List (Nat × α)) : Bool := (l.map Prod.fst).Pairwise (· < ·)

/-- The canonical form: no zero and no repeated address in the register files, no repeated key in the captures or in the
DRAM, so that equal contents are equal data. -/
def State.canonical (s : State) : Bool := s.cfg.wf && s.stat.wf && rising s.caps && rising s.dram

/-- The state after a step that answers one. -/
def after : Host.Outcome State Fault Refusal → Option State
  | .next t => some t
  | _ => none

/-- The step neither faults nor is refused. -/
def goesOn (o : Host.Outcome State Fault Refusal) : Bool := (after o).isSome

/-- Commands run one after the other from a state, as long as each step goes on. -/
def runAll : List Instr → State → Option State
  | [], s => some s
  | c :: cs, s => (after (exec c s)).bind (runAll cs)

/-- A safe run: every command is well formed and every step goes on. -/
def safeRun (cs : List Instr) (s : State) : Bool := cs.all Instr.wf && (runAll cs s).isSome

/-- The register at a base address does nothing but hold what is written to it (R156): it is no half of a counter and selects
no counter's event, and no unit acts on a write of it. -/
def plainReg (b : Nat) : Bool :=
  (counterOf b).isNone && (selectedBy b).isEmpty &&
    match winOf b with
    | .tb => b ≠ TB_OPPIN_EN.addr && b ≠ TB_CLKMON_SEL.addr
    | .sp _ => b % 0x200 ≠ 0xC && b % 0x200 ≠ 0x10
    | .pt p => 30 ≤ p || b % 0x200 < 0x44 || 0x4C < b % 0x200
    | .qd _ => b % 0x2000 ≠ 4 && b % 0x2000 ≠ 0x410
    | _ => true

end Sys2Proof.Machine
end

