-- ==== Sys2Proof/Certificates/Slice0/Obligations.lean ====
section
/-!
DEFINITION. The statements about the block, for the provers: `def Obligations.<Name> : Prop`, in the order of the table's
families; what each cites stands in OBLIGATIONS.json.
-/

open Sys2Proof Sys2Proof.Machine

/-- A step runs the command at the front of the queue on the state with the queue's rest; with no command waiting it is one
cc, and without a clock nothing happens in it (the model's choice: log entry 1). -/
def Obligations.StepRunsTheFrontCommand : Prop :=
  (∀ (s : State) (c : Instr) (rest : List Instr), s.pending = c :: rest → step s = exec c { s with pending := rest }) ∧
  ∀ s : State, s.pending = [] → step s = .next (tick s) ∧ (s.clocked = false → step s = .next s)

/-- Every step, of a command or of one cc, keeps the canonical form of the register files, the captures and the DRAM, and
takes the front command from the queue; no step but the two commands of PORST_N changes the reset pin's level. -/
def Obligations.StepsKeepTheCanonicalForm : Prop :=
  ∀ s t : State, s.canonical → step s = .next t → t.canonical ∧ t.pending = s.pending.tail ∧
    (t.porst = s.porst ∨ (∃ ns, s.pending.head? = some (.porstNAssert ns)) ∨
      ∃ i, s.pending.head? = some (.porstNRelease i))

/-- R54: the strap is sampled when PORST_N rises, by no other command, and by no cc of the block's own; it selects the entry
of the image's directory that the load reads next, and GL_INSTANCE reports it. -/
def Obligations.StrapIsSampledOnlyAtRelease : Prop :=
  (∀ (s : State) (i : BitVec 14), s.porst = false → ∃ t, exec (.porstNRelease i) s = .next t ∧ t.instId = i) ∧
  (∀ (s : State) (i : BitVec 14), s.porst = true → exec (.porstNRelease i) s = .next s) ∧
  (∀ (c : Instr) (s t : State), s.canonical → exec c s = .next t → (∀ i, c ≠ .porstNRelease i) → t.instId = s.instId) ∧
  (∀ s : State, s.canonical → (tick s).instId = s.instId) ∧
  (∀ (s : State) (data : List Byte), s.clocked → s.load.phase = .header → s.load.mark ≤ s.rsck →
    data.length = s.load.len → headerTest data = none → s.instId.toNat < natOfBytes ((data.drop 12).take 4) →
    ∃ t, exec (.cfgTransactionEnd data) s = .next t ∧ t.load.phase = .entry ∧ t.load.len = 8 ∧
      t.load.off = natOfBytes ((data.drop 8).take 4) + 8 * s.instId.toNat) ∧
  ∀ s : State, GL_INSTANCE_ID.of (s.regValue GL_INSTANCE_ID.addr) = s.instId.toNat

/-- No command faults, and the only refusal, the model's choice of log entry 8, is that of a pulse of PORST_N whose effect
R52 leaves undefined. -/
def Obligations.OnlyUndefinedPulsesStop : Prop :=
  ∀ (c : Instr) (s : State), (∃ t, exec c s = .next t) ∨
    exec c s = .refused .porstPulseUndefined ∧ ∃ ns, c = .porstNAssert ns ∧ 20 ≤ ns ∧ ns < 100

/-- R82, the outputs while PORST_N is low, and the canonical form there. -/
def Obligations.ResetStateHasItsOutputs : Prop :=
  let s := State.reset
  s.canonical ∧ s.porst = false ∧ s.pending = [] ∧ s.pins.pclk = false ∧ s.pins.dmReady = false ∧ s.pins.ingHold = 0b1111 ∧
    s.pins.dreset = 0 ∧ s.pins.clkmon = false ∧ s.op.supply.vreq = 0 ∧ irqCorr s = false ∧ irqCont s = false ∧
    irqFatal s = false ∧ irqEvt s = false

/-- R52: the length of a low pulse of PORST_N decides whether it resets the whole instance. That a pulse whose effect R52
leaves undefined is refused is the model's choice (log entry 8), and so are the values of internal state (entry 7). -/
def Obligations.ResetPulsesActByTheirLength : Prop :=
  ∀ (s : State) (ns : Nat),
    (ns < 20 → exec (.porstNAssert ns) s = .next s) ∧
    (20 ≤ ns → ns < 100 → exec (.porstNAssert ns) s = .refused .porstPulseUndefined) ∧
    (100 ≤ ns → exec (.porstNAssert ns) s = .next { State.reset with
      instId := s.instId, rsiAlive := s.rsiAlive, free := s.free + 1, pending := s.pending })

/-- R93 steps 2 to 4 with R54: a release samples the strap; with RSI_CK present, or once it is, the load begins at its
first attempt with the header on the bus; an access that came in PORST_N without RSI_CK waits for the clock and answers PSLVERR
with zero data then (R66). That a clock which comes before the first start-up is over finds everything in its reset state but
the key slots, and that a block stopped for secure test access stays stopped there with its keys cleared, is the model's choice
between R95 and R469, R485 (log entry 21). -/
def Obligations.StartUpReachesTheLoad : Prop :=
  (∀ (s : State) (i : BitVec 14), s.porst = false →
    ∃ t, exec (.porstNRelease i) s = .next t ∧ t.porst = true ∧ t.instId = i ∧ t.apbM.ready = s.rsiAlive ∧
      (s.rsiAlive = false → t.load = s.load ∧ t.clk.startStep = 3) ∧
      (s.rsiAlive = true → t.load.state = 1 ∧ t.load.attempt = 1 ∧ t.load.phase = .header ∧ t.load.len = 64 ∧
        t.clk.startStep = 4)) ∧
  (∀ s : State, s.porst = true → s.rsiAlive = false → s.clk.everUp = false →
    (s.flt.testStop = false →
      ∃ t, exec .rsiCkPresent s = .next t ∧ t.rsiAlive = true ∧ t.instId = s.instId ∧ t.load.state = 1 ∧
        t.load.attempt = 1 ∧ t.load.phase = .header ∧ t.load.mark = t.rsck + 2 + busTime 64 ∧ t.clk.startStep = 4 ∧
        t.keys = s.keys.kept ∧ t.dram = []) ∧
    (s.flt.testStop = true → s.clk.blkStep = 0 →
      ∃ t, exec .rsiCkPresent s = .next t ∧ t.rsiAlive = true ∧ t.load.state = 0 ∧ t.clk.startStep = 3 ∧
        t.haltedBit = true ∧ t.keys.slots = Vector.replicate 2 .empty ∧ t.keys.void = true ∧ t.dram = [])) ∧
  ∀ s : State, s.porst = false → s.rsiAlive = false →
    ∃ t, exec .rsiCkPresent s = .next t ∧ t = { s with rsiAlive := true, apbM := t.apbM, apbK := t.apbK } ∧
      (s.apbM.held ≠ none → t.apbM = ⟨true, true, 0, none⟩) ∧ (s.apbM.held = none → t.apbM = s.apbM) ∧
      (s.apbK.held ≠ none → t.apbK = ⟨true, true, 0, none⟩) ∧ (s.apbK.held = none → t.apbK = s.apbK)

/-- R82 and R116: the outputs that a loss of RSI_CK forces, in whatever state it comes, and the absence timer's end. -/
def Obligations.LossOfRasterClockForcesOutputs : Prop :=
  (∀ s : State, s.porst = true → s.rsiAlive = true →
    ∃ t, exec .rsiCkLoss s = .next t ∧ t.rsiAlive = false ∧ t.apbM.ready = false ∧ t.apbK.ready = false ∧
      t.pins.pclk = false ∧ t.pins.dmReady = false ∧ t.pins.ingHold = 0b1111 ∧ t.pins.clkmon = false ∧ t.clocked = false) ∧
  (∀ s : State, s.porst = true → s.rsiAlive = false → s.clk.ramp = true →
    exec .absenceTimerExpiry s = .next { s with clk := { s.clk with expired := true } })

/-- R142 and R143: an attempt that fails at its header is repeated up to three times; then the load has failed, and a
write of RELOAD starts it again from step 1 with a fresh count, in state FAILED and in no other. -/
def Obligations.LoadFailsAfterThreeAttempts : Prop :=
  (∀ (s : State) (data : List Byte) (code : Nat), s.clocked → s.load.phase = .header → s.load.mark ≤ s.rsck →
    data.length = s.load.len → headerTest data = some code →
    ∃ t, exec (.cfgTransactionEnd data) s = .next t ∧ t.load.err = code ∧
      (s.load.attempt < 3 → t.load.state = 1 ∧ t.load.attempt = s.load.attempt + 1 ∧ t.load.phase = .header ∧ t.load.off = 0) ∧
      (3 ≤ s.load.attempt → t.load.state = 3 ∧ t.load.phase = .idle ∧ irqFatal t = true)) ∧
  (∀ s : State, s.clocked → s.load.state = 3 →
    ∃ t, exec .reload s = .next t ∧ t.load.state = 1 ∧ t.load.attempt = 1 ∧ t.load.phase = .header ∧ t.load.off = 0) ∧
  ∀ s : State, s.load.state ≠ 3 → exec .reload s = .next s

/-- R91 and R92: the steps of the start criterion of a PLL, one by one, and an attempt that exceeds a bound.
Everything but that PLL stays as it is. R93 steps 6 and 7: in start-up the core PLL, once good, has CCLK switched to
it; of the PHY PLLs of a quad the first good one becomes ACTIVE and takes the quad's clock, and one that comes later
becomes STANDBY. -/
def Obligations.PllsStartAndTakeTheirClocks : Prop :=
  (∀ (s : State) (p : PllId), s.clocked →
    ((s.pll p).phase = .amplitude → s.rsck ≤ (s.pll p).mark + s.usRsck 20 →
      exec (.amplitudeReport p) s = .next (s.onPll p fun x => { x with phase := .delay, mark := s.rsck })) ∧
    ((s.pll p).phase = .delay → (s.pll p).mark + s.lockDelay p ≤ s.rsck →
      exec (.lockDelayExpiry p) s = .next (s.onPll p fun x => { x with phase := .lock, mark := s.rsck })) ∧
    ((s.pll p).phase = .amplitude ∧ (s.pll p).mark + s.usRsck 20 < s.rsck ∨
        (s.pll p).phase = .lock ∧ (s.pll p).mark + s.usRsck 32 < s.rsck →
      (s.pll p).attempt < 3 →
      exec (.pllAttemptTimeout p) s = .next (s.onPll p fun x => { x with phase := .pause, mark := s.rsck })) ∧
    ((s.pll p).phase = .delay ∨ (s.pll p).phase = .lock → (s.pll p).attempt < 3 →
      exec (.amplitudeDrop p) s = .next (s.onPll p fun x => { x with phase := .pause, mark := s.rsck })) ∧
    ((s.pll p).phase = .pause → (s.pll p).mark + s.usRsck 10 ≤ s.rsck →
      exec (.pllRetryPauseExpiry p) s = .next (s.onPll p fun x => { x with
        phase := .amplitude, attempt := x.attempt + 1, mark := s.rsck }))) ∧
  (∀ s : State, s.clocked → s.clk.startStep ≠ 0 → s.clk.retStep = 0 → s.op.pend = false → s.op.step = 0 →
    (s.clk.core.phase = .lock → s.rsck ≤ s.clk.core.mark + s.usRsck 32 →
      ∃ t, exec (.lockDetect .core) s = .next t ∧ t.clk.core.st = .active ∧ t.clk.core.phase = .idle ∧
        t.clk.coreSw = .toPll ∧ t = { s with clk := t.clk } ∧ t.clk.phy = s.clk.phy ∧ t.clk.quads = s.clk.quads ∧
        t.clk.startStep = if s.clk.startStep = 5 then 6 else s.clk.startStep) ∧
    ∀ (q : Fin 4) (b : Bool), (s.phy q b).phase = .lock → s.rsck ≤ (s.phy q b).mark + s.usRsck 32 →
      (s.phy q b).why = .start → (s.quadClk q).src = .bypass →
      ((s.quadClk q).sw = none →
        ∃ t, exec (.lockDetect (.phy q b)) s = .next t ∧ (t.phy q b).st = .active ∧ (t.phy q b).phase = .idle ∧
          (t.quadClk q).sw = some (srcOf b, .first) ∧ t = { s with clk := t.clk } ∧ t.clk.core = s.clk.core) ∧
      (∀ dst why, (s.quadClk q).sw = some (dst, why) → (s.phy q true).window ≠ s.rsck →
        ∃ t, exec (.lockDetect (.phy q b)) s = .next t ∧ (t.phy q b).st = .standby ∧ (t.phy q b).phase = .idle ∧
          t.quadClk q = s.quadClk q ∧ t = { s with clk := t.clk } ∧ t.clk.core = s.clk.core) ∧
      (b = false → (s.quadClk q).sw = some (.pllB, .first) → (s.phy q true).window = s.rsck →
        ∃ t, exec (.lockDetect (.phy q b)) s = .next t ∧ (t.phy q false).st = .active ∧ (t.phy q true).st = .standby ∧
          (t.quadClk q).sw = some (.pllA, .first) ∧ t = { s with clk := t.clk } ∧ t.clk.core = s.clk.core))

/-- R96 and R97: a monitor trips on a dropped amplitude report, a loss of lock or a window's count; the PLL is FAILED.
For the core PLL PCLK stops and CCLK goes to the bypass (R106); for an ACTIVE PHY PLL the quad's clock goes to a good
partner in STANDBY, else to the bypass (R100, R101). A window whose count is near enough shows it and nothing else.
R103 and R107: a restart runs the start criterion of a PLL that is FAILED or, for a PHY PLL, OFF, and has no effect in
any other state; the core PLL is not restarted after a failure at step 5 of R93. -/
def Obligations.PllsFailAndRestart : Prop :=
  (∀ (s : State) (p : PllId), s.clocked → (s.pll p).watched →
    (∀ c, c = .amplitudeDrop p ∨ c = .lossOfLock p →
      ∃ t, exec c s = .next t ∧ (t.pll p).st = .failed ∧ (t.pll p).phase = .idle ∧
        (p = .core → t.pins.pclk = false ∧ t.clk.coreSw = .toBypass) ∧
        ∀ q b, p = .phy q b → (s.phy q b).st = .active →
          ((s.phy q !b).st = .standby → (s.phy q !b).phase = .idle →
            (t.phy q !b).st = .active ∧ (t.quadClk q).sw = some (srcOf !b, .fallback)) ∧
          ((s.phy q !b).st ≠ .standby → (t.quadClk q).sw = some (.bypass, .fallback))) ∧
    ∀ count : BitVec 16, (s.pll p).window + 1024 ≤ s.rsck →
      (monitorOff s p count.toNat = true → ∃ t, exec (.monitorWindowEnd p count) s = .next t ∧ (t.pll p).st = .failed) ∧
      (monitorOff s p count.toNat = false → exec (.monitorWindowEnd p count) s =
        .next ((s.setSt (monitorCount p) count.toNat).onPll p fun x => { x with window := s.rsck }))) ∧
  (∀ s : State, s.clocked →
    (∀ (q : Fin 4) (b : Bool), let c := if b then Instr.restartB q else .restartA q
      ((s.phy q b).st = .failed ∨ (s.phy q b).st = .off →
        ∃ t, exec c s = .next t ∧ t.phy q b = ⟨.starting, .amplitude, 1, s.rsck, (s.phy q b).window, s.op.cur, .restart⟩ ∧
          t.phy q (!b) = s.phy q (!b) ∧ t = { s with clk := { s.clk with phy := t.clk.phy } }) ∧
      ((s.phy q b).st ≠ .failed → (s.phy q b).st ≠ .off → exec c s = .next s)) ∧
    (s.clk.core.st = .failed → s.clk.startFail = false →
      ∃ t, exec .coreRestart s = .next t ∧ t.clk.core.st = .starting ∧ t.clk.core.phase = .amplitude ∧
        t.clk.core.attempt = 1 ∧ t = { s with clk := { s.clk with core := t.clk.core } }) ∧
    (s.clk.core.st ≠ .failed ∨ s.clk.startFail = true → exec .coreRestart s = .next s))

/-- R111 and R93 steps 6 and 7: a switch that has moved has its new side on the output. The switches of start-up
change nothing else; the switch of PCLK and that of CLKMON drive their pins. R112: a switch that forces its old side
shut, 64 cycles of the new clock after it was asked to move, counts once in the register of its kind, up to the counter's
maximum; nothing else changes. R122 and R123: CLKMON rises where the check passes and the selected clock runs. -/
def Obligations.ClockSwitchesEndAndForcedOnesCount : Prop :=
  (∀ s : State, s.clocked → s.clk.retStep = 0 →
    (s.clk.coreSw = .toPll →
      ∃ t, exec (.clockSwitchDone .core) s = .next t ∧ t.clk.cclkPll = true ∧ t.clk.coreSw = .none) ∧
    (s.clk.coreSw = .toBypass →
      ∃ t, exec (.clockSwitchDone .core) s = .next t ∧ t.clk.cclkPll = false ∧ t.clk.coreSw = .none) ∧
    (∀ (q : Fin 4) (dst : ClkSrc), (s.quadClk q).sw = some (dst, .first) → (s.quadClk q).wait = false →
      s.clk.startStep < 7 →
      ∃ t, exec (.clockSwitchDone (.quad q)) s = .next t ∧ (t.quadClk q).src = dst ∧ (t.quadClk q).sw = none ∧
        t = { s with clk := t.clk } ∧ t.clk.core = s.clk.core) ∧
    (∀ (q : Fin 4) (dst : ClkSrc) (why : SwWhy), (s.quadClk q).sw = some (dst, why) →
      exec (.clockSwitchDone (.quad q)) s = .next (settleReturn (quadOn q dst why s))) ∧
    (s.clk.cclkPll = true → s.clk.coreSw = .none →
      exec (.clockSwitchDone .pclk) s = .next { s with pins := { s.pins with pclk := true } }) ∧
    exec (.clockSwitchDone .clkmon) s =
      .next (if s.monitorAllowed && s.monitorRuns then
        { s with clk := { s.clk with monSw := true }, pins := { s.pins with clkmon := true } } else s)) ∧
  (∀ s : State, s.canonical → s.clocked →
    (s.clk.coreSw ≠ .none → s.clk.coreForced = false → s.forceDue s.clk.coreSwAt (s.clk.coreSw == .toBypass) 1 = true →
      TB_CLKEVT_FORCED_SW.addr ∉ s.frozen →
      ∃ t, exec (.forcedSwitch .core) s = .next t ∧ t = { s with clk := { s.clk with coreForced := true }, stat := t.stat, news := t.news } ∧
        t.st TB_CLKEVT_FORCED_SW = min TB_CLKEVT_FORCED_SW.max (s.st TB_CLKEVT_FORCED_SW + 1) ∧
        ∀ g : Field, g.addr ≠ TB_CLKEVT_FORCED_SW.addr → t.st g = s.st g) ∧
    (s.clk.coreForced = true → exec (.forcedSwitch .core) s = .next s) ∧
    ∀ (q : Fin 4) (why : SwWhy), (s.quadClk q).sw = some (.bypass, why) → (s.quadClk q).swForced = false →
      (s.quadClk q).swAt + 64 ≤ s.rsck → (QD_PLLEVT_FORCED_SW q).addr ∉ s.frozen →
      ∃ t, exec (.forcedSwitch (.quad q)) s = .next t ∧ t = { s with clk := t.clk, stat := t.stat, news := t.news } ∧
        t.quadClk q = { s.quadClk q with swForced := true } ∧ t.clk = { s.clk with quads := t.clk.quads } ∧
        t.st (QD_PLLEVT_FORCED_SW q) = min (QD_PLLEVT_FORCED_SW q).max (s.st (QD_PLLEVT_FORCED_SW q) + 1) ∧
        ∀ g : Field, g.addr ≠ (QD_PLLEVT_FORCED_SW q).addr → t.st g = s.st g)

/-- R93 steps 8 to 10: DRESETk_N is released 200 µs after it was driven low, and the power-up initialization of the quad
begins; when it ends every channel of the quad that is not retired trains; a channel finishes its training (R405) within
10 ms, once its scratch rows are written; start-up ends, and DM_READY rises unless the block is stopped. R315,
R409 and R411: a forced payment ends at E ≤ 0, a check and a retrain once the ranks they need are awake; then every sequence
that waits for ranks or channels goes on. -/
def Obligations.TrainingPaymentsAndChecksGoOn : Prop :=
  (∀ (s : State) (q : Fin 4), s.clocked → s.good → 7 ≤ s.clk.startStep → s.quadGood q → s.pins.dreset.getLsbD q = false →
    (s.quad q).dresetAt + s.usRsck 200 ≤ s.rsck →
    ∃ t, exec (.dresetRelease q) s = .next t ∧ t.pins.dreset.getLsbD q = true ∧
      t.clk.startStep = max 8 s.clk.startStep ∧ (t.quad q).initAt = some s.rsck ∧ (t.quad q).trainAt = none ∧
      t = { s with
        pins := { s.pins with dreset := t.pins.dreset }, clk := { s.clk with startStep := t.clk.startStep }, quads := t.quads }) ∧
  (∀ (s : State) (q : Fin 4) (n : Nat), (s.quad q).initAt = some n → n + s.initTime q ≤ s.rsck →
    ∀ c ∈ quadChans q, (s.chan c).state ≠ .retired → ((settleInit q s).chan c).job = .training) ∧
  (∀ (s : State) (ch : Fin 16) (f : CalFound), s.clocked → (s.chan ch).job = .training → (f.failStep = 0 → s.ranksUp ch) →
    s.trainLate (quadOf ch) = false →
    (f.failStep ≠ 0 ∧ f.failStep ≤ (s.cal ch).trainStep ∨ f.failStep = 0 ∧ (s.cal ch).trainStep = 9 ∧ s.calRested ch = true) →
    exec (.trainingComplete ch f) s = .next (trainDone ch f (putCodes (quadOf ch) f.codes
      (noChecks ch (restartTracking ch (initSet ch s.op.cur s)))))) ∧
  (∀ s : State, s.clocked → s.good → 7 ≤ s.clk.startStep → s.clk.blkStep = 0 → s.flt.haltStep = 0 → s.pins.pclk →
    (∀ q : Fin 4, (s.quadDead q || s.quadGood q) = true ∧ ∀ c ∈ quadChans q, s.trained c = true) →
    ∃ t, exec .startupComplete s = .next t ∧ t.clk.startStep = 0 ∧ t.clk.everUp = true ∧
      (t.flt.haltStep = 0 → t.tap.quiesce = 0 → t.clk.blkStep = 0 → t.pins.dmReady = true)) ∧
  (∀ (s : State) (ch : Fin 16) (r : Fin 2), s.clocked → (s.rank ch r).forced → (s.rank ch r).debt ≤ 0 →
    exec (.debtPaymentDone ch r) s = .next (settleRanks (s.onRank ch r fun k => { k with forced := false }))) ∧
  (∀ (s : State) (ch : Fin 16) (f : CalFound), s.quadLives (quadOf ch) → (s.chan ch).job = .none → s.checkRanks ch ≠ [] →
    (∀ r ∈ s.checkRanks ch, s.rankUp { s.rank ch r with check := false }) → s.checkRead ch →
    exec (.checkDone ch f) s = .next (settleRanks (checkDone ch f s))) ∧
  ∀ (s : State) (ch : Fin 16) (f : CalFound) (inPlace : Bool), s.quadLives (quadOf ch) → (s.chan ch).job = .retrain inPlace →
    s.ranksUp ch → (f.failStep ≠ 0 ∨ s.calRested ch = true ∧ s.retrainReach ch f = true) →
    (∀ o ∈ (s.chan ch).ops, o.started = false) →
    exec (.retrainDone ch f) s = .next (settleRanks (retrainDone ch f (noChecks ch s)))

/-- R183, R184, R187 and R189: a valid word updates the timestamp, and one in NOSYNC begins ACQUIRE once the record is good;
a line start word begins its line at grain 0 in the word's frame; a mode change word is pending, deferred to the next frame
start unless a vertical gap is open (R193, R200); that a further one takes no pending one back is the model's choice (log entry
24). R181 and R204: a word that begins as one and fails a test counts in TB_RSIERR.CRC, unless one counted less than 64 rsck
before; 64 bits that overlap a valid word are no word at all. -/
def Obligations.RasterWordsActByTheirEvent : Prop :=
  (∀ (s : State) (w : BitVec 64), s.clocked → validWord w → s.overlapsWord = false →
    (wordEvent w = 0 → ∃ t, exec (.rsiEventNone w) s = .next t ∧ t.tb.last = ⟨wordFrame w, wordLine w⟩ ∧
      t.tb.state = (if s.tb.state = .nosync ∧ s.good = true then TbState.acquire else s.tb.state) ∧
      t = { s with tb := { s.tb with last := t.tb.last, state := t.tb.state, validAt := some s.rsck } }) ∧
    (wordEvent w = 1 → ∃ t, exec (.lineStart w) s = .next t ∧ t.tb.last = ⟨wordFrame w, wordLine w⟩ ∧
      t.tb.line = wordLine w ∧ t.tb.t = 0 ∧ t.tb.own = false ∧ t.tb.inH = false ∧ t.tb.since = 0 ∧ t.tb.frame = wordFrame w) ∧
    (wordEvent w = 5 → s.good → ∃ t, exec (.modeChange w) s = .next t ∧ t.tb.mcPend = (s.tb.mcPend || s.tb.inV) ∧
      t.tb.mcDefer = (s.tb.mcDefer || !s.tb.inV) ∧
      t.tb.last = ⟨wordFrame w, wordLine w⟩ ∧ t = { s with tb := t.tb } ∧ t.tb.line = s.tb.line ∧ t.tb.t = s.tb.t)) ∧
  (∀ (s : State) (w : BitVec 64), s.canonical → s.clocked → wordSync w = 0xA7 → validWord w = false → s.overlapsWord = false →
    ((∀ n, s.tb.corruptAt = some n → n + 64 ≤ s.rsck) →
      ∃ t, exec (.corruptWord w) s = .next t ∧ t.tb = { s.tb with corruptAt := some s.rsck, corrupt := s.tb.corrupt + 1 } ∧
        (TB_RSIERR_CRC.addr ∉ s.frozen → t.st TB_RSIERR_CRC = min TB_RSIERR_CRC.max (s.st TB_RSIERR_CRC + 1)) ∧
        (∀ g : Field, g.addr ≠ TB_RSIERR_CRC.addr → t.st g = s.st g) ∧
        t = { s with tb := t.tb, stat := t.stat, news := t.news, flt := t.flt } ∧
        (s.tb.corrupt + 1 ≠ 16 → t.flt = s.flt)) ∧
    (∀ n, s.tb.corruptAt = some n → s.rsck < n + 64 → exec (.corruptWord w) s = .next s)) ∧
  ∀ (s : State) (w : BitVec 64), s.overlapsWord = true →
    ∀ c ∈ [Instr.rsiEventNone w, .lineStart w, .frameStart w, .horizontalBlank w, .verticalBlank w, .modeChange w,
      .corruptWord w], exec c s = .next s

/-- R187 and R188: a frame start word begins line 0 of its frame; without one the block begins the next line, or at the
frame's length the next frame, itself, at grain 0 (R186). -/
def Obligations.FramesAndLinesBegin : Prop :=
  (∀ (s : State) (w : BitVec 64), s.clocked → validWord w → s.overlapsWord = false → wordEvent w = 2 →
    ∃ t, exec (.frameStart w) s = .next t ∧ t.tb.frame = wordFrame w ∧ t.tb.line = 0 ∧ t.tb.t = 0 ∧ t.tb.own = false) ∧
  (∀ s : State, s.lineOver → s.tb.line.toNat + 1 < s.tb.frmLines →
    ∃ t, exec .grainWrap s = .next t ∧ t.tb.line = s.tb.line + 1 ∧ t.tb.t = 0 ∧ t.tb.own = true ∧ t.tb.frame = s.tb.frame ∧
      t = { s with tb := t.tb, brk := t.brk }) ∧
  ∀ s : State, s.lineOver → s.tb.frmLines ≤ s.tb.line.toNat + 1 →
    ∃ t, exec .frameLineLimit s = .next t ∧ t.tb.frame = s.tb.frame + 1 ∧ t.tb.line = 0 ∧ t.tb.t = 0 ∧ t.tb.own = true

/-- R195 and R204: 32 lines without a line-start word in LOCKED enter HOLDOVER, which is counted and raises its event;
HOLDOVER of HOLD × 16 lines ends in NOSYNC. -/
def Obligations.HoldoverBeginsAndEnds : Prop :=
  (∀ s : State, s.canonical → s.rasterRuns → s.tb.state = .locked → 32 ≤ s.tb.since →
    ∃ t, exec .holdoverEntry s = .next t ∧ t.tb = { s.tb with state := .holdover, held := 0 } ∧
      t = { s with tb := t.tb, stat := t.stat, news := t.news } ∧
      (TB_RSIEVT_HOLDS.addr ∉ s.frozen →
        t.st TB_RSIEVT_HOLDS = min TB_RSIEVT_HOLDS.max (s.st TB_RSIEVT_HOLDS + 1)) ∧
      (FT_STSEVT_EVT.addr ∉ s.frozen → natBit (t.st FT_STSEVT_EVT) Evt.hold.bit = true)) ∧
  ∀ s : State, s.rasterRuns → s.tb.state = .holdover → 16 * s.cf TB_RSICFG_HOLD ≤ s.tb.held →
    ∃ t, exec .holdoverLimit s = .next t ∧ t.tb.state = .nosync ∧ t.tb.period = 0 ∧ t.tb.cand = none ∧
      t.tb.linePeriod = s.cf TB_SYNPER_PERIOD

/-- R198 to R200: a horizontal blank word sets H to the grain of its effect, and opens the horizontal gap; so does the
grain's own arrival at H. A vertical blank word, or the line's arrival at VBSTART, opens the vertical gap, within
which no horizontal gap is open. R202: a booking that has begun and has had its length ends, and holds nothing of its
scope any more. -/
def Obligations.GapsOpenAndBookingsEnd : Prop :=
  ((∀ (s : State) (w : BitVec 64), s.clocked → validWord w → s.overlapsWord = false → wordEvent w = 3 →
    s.good → s.tb.linePeriod ≠ 0 → s.clk.startStep = 0 → s.tb.inV = false →
    ∃ t, exec (.horizontalBlank w) s = .next t ∧ t.tb.hbGrain = some s.grain ∧ t.tb.inH = true ∧ t.tb.inV = false ∧
      t.tb.last = ⟨wordFrame w, wordLine w⟩) ∧
  (∀ s : State, s.gapsUsed → s.tb.inV = false → s.tb.inH = false → s.hStart ≤ s.grain →
    ∃ t, exec .horizontalGapStart s = .next t ∧ t.tb = { s.tb with inH := true, hgap := s.gapEstimate .h }) ∧
  (∀ (s : State) (w : BitVec 64), s.clocked → validWord w → s.overlapsWord = false → wordEvent w = 4 → s.good → s.tb.linePeriod ≠ 0 →
    s.lineper ≠ 0 → s.clk.startStep = 0 →
    ∃ t, exec (.verticalBlank w) s = .next t ∧ t.tb.inV = true ∧ t.tb.inH = false ∧ t.tb.line = wordLine w ∧
      t.tb.vbSeen = some (s.tb.vbSeen.getD (wordLine w).toNat)) ∧
  ∀ s : State, s.gapsUsed → s.tb.onlyWord = false → s.tb.frmVb ≤ s.tb.line.toNat → s.tb.inV = false →
    ∃ t, exec .verticalGapStart s = .next t ∧ t.tb = { s.tb with inV := true, inH := false, vgap := s.gapEstimate .v }) ∧
  (∀ (s : State) (g : Grant), s.clocked → s.brk.granted.find? (fun x => x.book.id == g.book.id) = some g →
    s.grantOver g →
    ∃ t, exec (.bookingEnd g.book.id) s = .next t ∧ t.brk.granted = s.brk.granted.filter (fun x => x.book.id ≠ g.book.id) ∧
      t.dram = s.dram ∧ t.clk = s.clk ∧ t.tb = s.tb)

/-- R151, R154 and R66: an access that is not aligned, one to the key page through the maintenance port, an
unprivileged one through the key port, and any access during PORST_N complete with PSLVERR, read zero, and change
nothing else; in PORST_N they complete as soon as RSI_CK clocks them. R168 and R82: a write of a shadow register while its
copy runs, and any access while RSI_CK is absent, is held with PREADY = 0 and changes nothing else. -/
def Obligations.AccessesAreRefusedOrHeld : Prop :=
  (∀ (s : State) (p : ApbPort) (addr : BitVec 20) (prot : BitVec 3), (s.apb p).held = none →
    s.rsiAlive = true → s.porst = false ∨ refusedAccess p addr prot = true →
    (∀ (data : Word) (strb : BitVec 4), exec (.registerWrite ⟨p, addr, data, strb, prot⟩) s =
      .next (s.onApb p fun _ => ⟨true, true, 0, none⟩)) ∧
    ∀ c : Instr, c = .registerRead ⟨p, addr, prot⟩ ∨ c = .readClear ⟨p, addr, prot⟩ ∨
        c = .multiRegisterCapture ⟨p, addr, prot⟩ →
      exec c s = .next (s.onApb p fun _ => ⟨true, true, 0, none⟩)) ∧
  (∀ (s : State) (w : ApbWrite), s.porst = false → s.rsiAlive = false → (s.apb w.port).held = none →
    exec (.registerWrite w) s = .next (s.onApb w.port fun x => { x with held := some (.write w) })) ∧
  (∀ (s : State) (w : ApbWrite), s.porst = true → (s.apb w.port).held = none →
    s.rsiAlive = false ∨ refusedAccess w.port w.addr w.prot = false ∧
      (gateShadowReg (mapAddr w.port w.addr % 0x40000) = true ∧ s.wheel.gateCopy.isSome ∨
        calShadowReg (mapAddr w.port w.addr % 0x40000) = true ∧ s.wheel.calCopy.isSome) →
    exec (.heldShadowWrite w) s = .next (s.onApb w.port fun x => { x with ready := false, held := some (.write w) }) ∧
      exec (.registerWrite w) s = .next (s.onApb w.port fun x => { x with ready := false, held := some (.write w) }))

/-- R156, R157 and R163 on the registers of every window that only store what is written to them (`plainReg`) and hold no
action: a base write, through either port, gives the strobed bits of its RW and, once the record is good, LV fields the
written value; the aliases set, clear and invert the bits written 1. Its RO, RC and LK fields and every other register keep
their values. A write to a register with no field to write is flagged once the record is good, and changes nothing else. -/
def Obligations.WritesActByAccessCodeAndImage : Prop :=
  ∀ (s : State) (p : ApbPort) (a : BitVec 20) (d : RegDesc) (data : Word) (strb : BitVec 4) (prot : BitVec 3),
    let b := mapAddr p a % 0x40000
    let m := s.writable d
    let old := s.cfg.get b
    let done (t u : State) : Prop := t = u.onApb p fun _ => ⟨true, false, 0, none⟩
    let wrote (c : Instr) (v : Word) : Prop := ∃ t, exec c s = .next t ∧ t.cfg.get b = v ∧
      (∀ x, x ≠ b → t.cfg.get x = s.cfg.get x) ∧ done t { s with cfg := t.cfg, parErr := t.parErr, perf := t.perf }
    s.canonical → s.clocked → (s.apb p).held = none → refusedAccess p a prot = false → s.wheel.gateCopy = none →
    s.wheel.calCopy = none → regDesc b = some d →
    (plainReg b → d.w1p = 0 → d.rw ||| d.lv ≠ 0 → b ∉ s.frozen →
      (mapAddr p a < 0x40000 → wrote (.registerWrite ⟨p, a, data, strb, prot⟩)
        ((old &&& ~~~(m &&& strobeMask strb)) ||| (data &&& (m &&& strobeMask strb)))) ∧
      (p = .m → wrote (.setAliasWrite ⟨p, a, data, 0xF, prot⟩) (old ||| (data &&& m)) ∧
        wrote (.clearAliasWrite ⟨p, a, data, 0xF, prot⟩) (old &&& ~~~(data &&& m)) ∧
        wrote (.toggleAliasWrite ⟨p, a, data, 0xF, prot⟩) (old ^^^ (data &&& m)))) ∧
    (d.rw ||| d.lv ||| d.w1p = 0 → s.good →
      ∃ t, exec (.registerWrite ⟨p, a, data, strb, prot⟩) s = .next t ∧
        (GL_STATUS_WR_IGN.addr ∉ s.frozen → t.st GL_STATUS_WR_IGN = 1) ∧
        (GL_ACCERR_ADDR.addr ∉ s.frozen → s.stat.get GL_ACCERR_ADDR.addr = 0 → t.st GL_ACCERR_CAUSE = 1) ∧
        (GL_ACCERR_ADDR.addr ∉ s.frozen → s.stat.get GL_ACCERR_ADDR.addr ≠ 0 → t.st GL_ACCERR_MORE = 1) ∧
        done t { s with stat := t.stat, news := t.news, perf := t.perf })

/-- R159, R161 and R162: a base read returns the register's value. Of a register that is a value of its own it then clears the
RC fields, where no cause persists and none has arisen in the cc; a counter that has counted in the cc ends with that number;
of a value in several registers the read of the lowest captures every part, and clears the RC fields of each. -/
def Obligations.ReadsClearAndCapture : Prop :=
  ∀ (s : State) (p : ApbPort) (addr : BitVec 20) (prot : BitVec 3) (d : RegDesc) (c : Instr),
    let a := mapAddr p addr
    (c = .registerRead ⟨p, addr, prot⟩ ∨ c = .readClear ⟨p, addr, prot⟩ ∨ c = .multiRegisterCapture ⟨p, addr, prot⟩) →
    s.canonical → s.clocked → (s.apb p).held = none → refusedAccess p addr prot = false → imageOf a = .base →
    regDesc a = some d → a ∉ s.frozen → a ∉ s.parErr →
    (partsOf a = none → a ≠ 0x2000 → a ≠ 0x2004 → a ≠ 0x2008 →
      ∃ t, exec c s = .next t ∧ t.apb p = ⟨true, false, s.regValue a, none⟩ ∧
        ((∀ e ∈ s.news, e.1.addr ≠ a) → t.stat.get a = s.stat.get a &&& ~~~d.rc) ∧
        (∀ (f : Field) (n : Nat), s.news = [(f, .add n)] → f.addr = a → f.lo + f.width ≤ 32 →
          f.mask &&& d.rc ≠ 0 → f.mask &&& ~~~d.rc = 0 → t.st f = min f.max n) ∧
        (∀ x, x ≠ a → t.stat.get x = s.stat.get x) ∧ t.cfg = s.cfg ∧ t.dram = s.dram) ∧
    (∀ n, partsOf a = some (a, n) →
      ∃ t, exec c s = .next t ∧ t.apb p = ⟨true, false, s.regValue a, none⟩ ∧
        (∀ b ∈ partAddrs (a, n), b ∉ s.frozen → find t.caps b = some (s.regValue b) ∧
          ((∀ e ∈ s.news, e.1.addr ≠ b) → ∀ e, regDesc b = some e → t.stat.get b = s.stat.get b &&& ~~~e.rc)) ∧
        (∀ x, x ∉ partAddrs (a, n) → t.stat.get x = s.stat.get x) ∧ t.cfg = s.cfg ∧ t.dram = s.dram)

/-- R123: a write of TB_CLKMON takes its values and gates the output until the switch is done. R171 to R173: the walker
reaches a register, and at the end of that cc it has checked it: bits upset behind it stand, an odd number of them until the
next check finds the parity wrong and keeps the register as it is from then on. That the operand names the bits upset behind
the walker is the model's choice (log entry 18). -/
def Obligations.MonitorSelectAndParityWalk : Prop :=
  (∀ (s : State) (sel : BitVec 6) (div : BitVec 10), s.canonical → s.clocked → s.good → TB_CLKMON_SEL.addr ∉ s.frozen →
    ∃ t, exec (.clkmonSelect sel div) s = .next t ∧ t.cf TB_CLKMON_SEL = sel.toNat ∧ t.cf TB_CLKMON_DIV = div.toNat ∧
      t.pins.clkmon = false ∧ (∀ g : Field, g.addr ≠ TB_CLKMON_SEL.addr → t.cf g = s.cf g) ∧
      t = { s with cfg := t.cfg, parErr := t.parErr, pins := t.pins, clk := { s.clk with monSw := false } }) ∧
  (∀ (s : State) (a : BitVec 20) (bits : Word), s.clocked → hasParity a.toNat →
    exec (.parityWalk a bits) s = .next { s with walks := s.walks ++ [(a.toNat, bits)] }) ∧
  ∀ (s : State) (a : Nat) (bits : Word) (d : RegDesc), s.walks = [(a, bits)] → a ∉ s.frozen → regDesc a = some d →
    (a ∈ s.parErr → (settleWalks s).frozen = a :: s.frozen ∧ (settleWalks s).dram = s.dram ∧
      find (settleWalks s).caps a = some ({ s with walks := [] }.regValue a)) ∧
    (a ∉ s.parErr → settleWalks s = { s with
      walks := [], cfg := s.cfg.set a (s.cfg.get a ^^^ (bits &&& d.held))
      parErr := if oddBits (bits &&& d.held) then a :: s.parErr else s.parErr })

/-- R174 to R176: BLK_RESET with ARM read 1 before it begins a block reset; without ARM it has no effect but to be flagged
once the record is good, and changes nothing else (R157). A step that overruns its bound resets the block with the DRAM
lost, and the load begins again; the strap, the fault log with the occurrences of the cc, and the key slots with the write
slot stay, but for the material of a retired slot, under which no decrypt is left. -/
def Obligations.BlockResetStartsArmedAndEnds : Prop :=
  (∀ s : State, s.clocked → s.apbM.held = none → s.good → s.on GL_CTRL_ARM = true → s.clk.blkStep = 0 →
    GL_CTRL_ARM.addr ∉ s.frozen →
    ∃ t, exec .blkReset s = .next t ∧ (t.clk.blkStep = 2 ∨ t.clk.blkStep = 3) ∧ t.pins.dmReady = false ∧
      t.pins.ingHold = 0b1111 ∧ t.apbM.slverr = false) ∧
  (∀ s : State, s.canonical → s.clocked → s.apbM.held = none → s.good → s.on GL_CTRL_ARM = false →
    GL_STATUS_WR_IGN.addr ∉ s.frozen →
    ∃ t, exec .blkReset s = .next t ∧ t.st GL_STATUS_WR_IGN = 1 ∧ t.apbM = ⟨true, false, 0, none⟩ ∧
      t = { s with stat := t.stat, news := t.news, apbM := t.apbM, perf := t.perf }) ∧
  ∀ s : State, s.clocked →
    s.clk.blkStep = 2 ∧ s.clk.blkMark + s.usRsck 100 ≤ s.rsck ∨ s.clk.blkStep = 3 ∧ s.clk.blkMark + s.usRsck 5 ≤ s.rsck →
    ∃ t, exec .blockResetTimeout s = .next t ∧ t.dram = [] ∧ t.clk.rstCause = 3 ∧ t.load.state = 1 ∧ t.load.attempt = 1 ∧
      t.instId = s.instId ∧ t.flt.log = (settleLog s).flt.log ∧ t.keys.wvalid = s.keys.wvalid ∧ t.keys.void = s.keys.void ∧
      t.keys.wslot = s.keys.wslot ∧ (∀ i : Fin 2, t.keys.slots[i] = if s.keys.slots[i].erase then .empty else s.keys.slots[i]) ∧
      t.pins.dreset = 0 ∧ t.cfg = []

/-- R207, R209, R210 and R220: an offered request is taken while QREADY is 1, joins the end of the port's requests and
marks its tag in use; a tag in use already halts the port with cause 2, the offending request staying without an answer.
While QREADY is 0 it waits, which a port that is not DISABLED counts. -/
def Obligations.RequestsAreTakenWhileReady : Prop :=
  ∀ (s : State) (p : Fin 28) (addr : BitVec 34) (len : BitVec 6) (wr : Bool) (tag : BitVec 8) (fence : Bool), s.clocked →
    let c := Instr.request p addr len wr tag fence
    let x := s.port p
    let r := { newReq x.nextSeq addr len.toNat wr tag fence with at_ := s.now }
    (s.qready p → (∀ e ∈ x.reqs, e.tag = tag → e.freed = true) →
      ∃ t, exec c s = .next t ∧ t.port p = { x with reqs := x.reqs ++ [r], nextSeq := x.nextSeq + 1 } ∧
        (∀ q, q ≠ p.val → t.port q = s.port q) ∧ t = { s with ports := t.ports, perf := t.perf }) ∧
    (s.qready p → (∃ e ∈ x.reqs, e.tag = tag ∧ e.freed = false) →
      ∃ t, exec c s = .next t ∧ (t.port p).state = .halted ∧ (t.port p).hcause = 2 ∧
        (t.port p).reqs = x.reqs ++ [{ r with bad := true, stage := .off }] ∧ (∀ q, q ≠ p.val → t.port q = s.port q) ∧
        t = { s with ports := t.ports, perf := t.perf }) ∧
    (s.qready p = false → exec c s = .next (if (s.port p).state = .disabled then s else s.note .qstall p))

/-- R211 to R213, R219, R220, R222 and R233: a write beat goes to the oldest request that lacks one, in the buffer, and none other
is taken in its cc (R233); one whose `last` does not match the request's length halts the port with cause 3 or 4. The
splitter cuts the oldest queued request into lines, refusing those beyond the data capacity (R208, R221) and then those whose
data a Tun reset has lost (R235). That P4 to P27 take one beat a cc too, that a second error of a halted port keeps its cause,
and the order of the causes of a refused line are the model's choices (log entry 40). -/
def Obligations.BeatsAndLinesOfARequest : Prop :=
  ∀ s : State, s.clocked →
    (∀ (p : Fin 28) (data : Beat) (be : BitVec 64) (last : Bool) (r : Req), s.wready p → (s.port p).lacking = some r →
      (last = decide (r.taken + 1 = r.count) →
        ∃ t, exec (.writeBeat p data be last) s = .next t ∧
          (t.port p).reqs = (s.port p).reqs.map (fun e => if e.seq = r.seq then
            { e with taken := e.taken + 1, beats := if e.lost then [] else e.beats ++ [⟨data, be⟩] } else e) ∧
          (t.port p).state = (s.port p).state ∧ t.wready p = false ∧ (∀ q, q ≠ p.val → t.port q = s.port q) ∧
          t = { s with ports := t.ports, perf := t.perf }) ∧
      (last ≠ decide (r.taken + 1 = r.count) →
        ∃ t, exec (.writeBeat p data be last) s = .next t ∧ (t.port p).state = .halted ∧
          (t.port p).hcause = (if (s.port p).state = .halted then (s.port p).hcause else if last then 3 else 4) ∧
          (t.port p).reqs = (s.port p).reqs.map (fun e => if e.seq = r.seq then { e with bad := true } else e) ∧
          (∀ q, q ≠ p.val → t.port q = s.port q) ∧ t = { s with ports := t.ports, perf := t.perf })) ∧
    ∀ (p : Fin 30) (r : Req), s.flt.haltStep = 0 → (s.port p).reqs.find? (·.stage == .queued) = some r →
      (s.port p).splittable r →
      ∃ t, exec (.split p) s = .next t ∧
        t.port p = ((s.port p).onReq r.seq fun e => { e with
          lines := s.cut r, crossed := e.crosses
          stage := if (s.cut r).all (·.out.isSome) then .off else .shaping }).sweep ∧
        (s.cut r).length = r.lastLine + 1 - r.firstLine ∧
        (∀ l ∈ s.cut r, (l.logical, l.q) = s.homeOf l.line ∧ l.handed = false ∧ l.dead = false ∧
          (r.crosses = true → l.out = some ⟨3, 2⟩) ∧
          (r.crosses = false → s.logicals * s.lines ≤ l.line → l.out = some ⟨3, 1⟩) ∧
          (r.crosses = false → l.line < s.logicals * s.lines → l.out = if r.lost then some ⟨3, 4⟩ else none)) ∧
        (∀ q, q ≠ p.val → t.port q = s.port q) ∧ t = { s with ports := t.ports }

/-- R222: the home of each line, with the hash of the digits of its offset and without; the map takes no two lines to the same
place and fills every logical channel with exactly C lines; the splitter uses it, and a line is handed to no channel but the
one its logical channel's entry of the table names. -/
def Obligations.AddressMapIsOneToOne : Prop :=
  ∀ s : State,
    (∀ l m : Nat, s.homeOf l = s.homeOf m → l = m) ∧
    (∀ lc q : Nat, lc < s.logicals → ∃ l, s.homeOf l = (lc, q) ∧ (q < s.lines ↔ l < s.logicals * s.lines)) ∧
    (∀ l : Nat,
      let q := l / s.logicals
      let digit (i : Nat) := natBits q (4 * i) 4
      let f := if s.on GL_AMAP_HASH then
        digit 0 ^^^ digit 1 ^^^ digit 2 ^^^ digit 3 ^^^ digit 4 ^^^ digit 5 ^^^ digit 6 else 0
      s.homeOf l = ((l % s.logicals + f) % s.logicals, q)) ∧
    (∀ (r : Req), ∀ l ∈ s.cut r, s.homeOf l.line = (l.logical, l.q)) ∧
    ∀ (p : Fin 32) (ch : Fin 16) (r : Req) (i : Nat) (l : ReqLine), p < 30 → (s.port p).handing = some r →
      r.nextLine = some (i, l) → s.tableAt l.logical ≠ ch.val → exec (.perchHandover p ch) s = .next s

/-- R245, R247 to R249 and R274: one head request a cc is released, on calendar credit with tier 0, else at once without
shaping, on the committed bucket with the port's tier, on the peak bucket with the demoted tier, and else is entered in
the furlong, 1 to 1,023 rods ahead. -/
def Obligations.ShapersTestTheHeadRequest : Prop :=
  ∀ (s : State) (p : Fin 30) (r : Req),
    let x := s.port p
    let tier := s.cf (PT_ARB_TIER p)
    let released (tier : Nat) (cal : Bool) (y : Port) : Port := { y.onReq r.seq (fun e => { e with
      tier := tier, cal := cal, stage := if (s.gateOf p).1 then .gate else .hand
      passAt := if (s.gateOf p).1 then none else some s.now }) with relAt := some s.now }
    let gives (y : Port) : Prop := exec (.shaperTest p) s = .next (s.onPort p fun _ => y)
    (x.relAt = some s.now → exec (.shaperTest p) s = .next s) ∧
    (s.canonical → s.clocked → s.flt.haltStep = 0 → x.rodAt = none → s.rodOver = false → x.relAt ≠ some s.now →
    x.shaping = some r →
    (r.lines.length ≤ x.credit → gives (released 0 true { x with credit := x.credit - r.lines.length })) ∧
    (x.credit < r.lines.length →
      (x.shaped = false → gives (released tier false x)) ∧
      (x.shaped = true →
        (r.count * 1024 ≤ x.levelC → gives (released tier false { x with levelC := x.levelC - r.count * 1024 })) ∧
        (x.levelC < r.count * 1024 →
          (x.policed = true → r.count * 1024 ≤ x.levelP →
            ∃ t, exec (.shaperTest p) s = .next t ∧ t.port p =
                released (x.demotedTier tier) false { x with levelP := x.levelP - r.count * 1024 } ∧
              t = { s with ports := t.ports, stat := (s.bump (PT_SHCNT_DEMOTED p)).stat, news := (s.bump (PT_SHCNT_DEMOTED p)).news, perf := t.perf } ∧
              ∀ q, q ≠ p.val → t.port q = s.port q) ∧
          (x.policed = false ∨ x.levelP < r.count * 1024 →
            ∃ t k, exec (.shaperTest p) s = .next t ∧ 1 ≤ k ∧ k ≤ 1023 ∧
              t.port p = { x with rodAt := some ((s.wheel.rod + k) % 1024) } ∧
              t = { s with ports := t.ports, stat := (s.bump (PT_SHCNT_SHAPED p)).stat, news := (s.bump (PT_SHCNT_SHAPED p)).news, perf := t.perf } ∧
              ∀ q, q ≠ p.val → t.port q = s.port q)))))

/-- R246, R252, R253 and R256: each rod adds its tokens to both buckets of every port, up to their depths, and the lines of
the calendar entries that fire, up to 32; a revolution clears the credits first, counts, and begins a requested commit.
Copies and commits are requested and end. -/
def Obligations.RodsAddTokensAndCredit : Prop :=
  (∀ (s : State) (u : State) (c : Instr), s.canonical → s.rodOver →
    (c = .rodBoundary ∧ s.wheel.rod < 1023 ∧ u = { s with wheel := { s.wheel with rod := s.wheel.rod + 1 } } ∨
      c = .revolutionEnd ∧ s.wheel.rod = 1023 ∧ u = { s with
        ports := u.ports, wheel := { s.wheel with
          rod := 0, calPend := false, calCopy := if s.wheel.calPend then some 0 else s.wheel.calCopy } } ∧
        ∀ p, u.port p = if p < 30 then { s.port p with credit := 0 } else s.port p) →
    ∃ t, exec c s = .next t ∧ t.wheel = { u.wheel with mark := s.wheel.mark + 16 } ∧
      t = { s with ports := t.ports, stat := t.stat, news := t.news, perf := t.perf, wheel := t.wheel } ∧
      (c = .revolutionEnd → TB_CALREVS_REVS.addr ∉ s.frozen →
        t.st TB_CALREVS_REVS = (s.st TB_CALREVS_REVS + 1) % 2 ^ TB_CALREVS_REVS.width) ∧
      ∀ p : Fin 30, (u.port p).shDue = none → (∀ w, (u.port p).shWrite = some w → s.wheel.mark + 16 ≤ w) →
        (u.port p).rodAt ≠ some u.wheel.rod →
        let n := ([0, 1, 2, 3].map fun k => calFires (u.calEntry p k) u.wheel.rod).sum
        t.port p = { u.port p with
          levelC := min (bucketDepth (u.port p).shc) ((u.port p).levelC + bucketRate (u.port p).shc)
          levelP := min (bucketDepth (u.port p).shp) ((u.port p).levelP + bucketRate (u.port p).shp)
          credit := if n = 0 then (u.port p).credit else min 32 ((u.port p).credit + n) }) ∧
  ∀ s : State,
    (s.clocked → exec .calendarCommitRequest s = .next { s with wheel := { s.wheel with calPend := true } } ∧
      exec .gateCommitRequest s = .next { s with wheel := { s.wheel with gatePend := true } }) ∧
    (s.wheel.calCopy = some 120 →
      exec .calendarCopyDone s = .next { s with wheel := { s.wheel with calCopy := none } }) ∧
    (s.wheel.gateCopy = some 95 → exec .gateCopyDone s = .next { s with wheel := { s.wheel with gateCopy := none } })

/-- R259 and R260: a request waiting at a gate passes when a window is open and leaves room for its estimated transfer; one
longer than every window passes in any open window, counted; any other waits, counted once. At a port that a commit has made
ungated it passes (R257, R262). -/
def Obligations.GatesPassWhatFitsTheWindow : Prop :=
  ∀ (s : State) (p : Fin 30) (r : Req),
    let ws := s.windows (s.gateOf p).2.1
    let e := s.transferGrains p r
    let fits := ∃ w ∈ ws, w.1 ≤ s.grain ∧ s.grain + e ≤ w.2
    let long := (∀ w ∈ ws, w.2 - w.1 < e) ∧ ∃ w ∈ ws, w.1 ≤ s.grain ∧ s.grain < w.2
    let passed (t : State) : State := t.onPort p (·.onReq r.seq fun r => { r with stage := .hand, passAt := some s.now })
    s.clocked → s.flt.haltStep = 0 → s.lineOver = false → (s.port p).gated = some r →
    ((s.gateOf p).1 = false ∨ fits → exec (.gatePass p) s = .next (passed s)) ∧
    ((s.gateOf p).1 = true → ¬ fits → long → exec (.gatePass p) s = .next (passed (s.bump (PT_GATESTAT_OVERSIZE p)))) ∧
    ((s.gateOf p).1 = true → ¬ fits → ¬ long → exec (.gatePass p) s = .next (if r.waited then s else
      (s.onPort p (·.onReq r.seq fun r => { r with waited := true })).bump (PT_GATESTAT_WAITS p)))

/-- R212, R225, R263 and R264: a requester hands the next line of its request to its queue at the home channel, while that
has room, one line a cc; the lines of P30 and P31 come from their engines. A line that comes after the decision of the
cc waits for the next one, and one that its gate has let pass in a cc in which a commit of the gates is pending for the next
(R274, as the model reads it: log entry 47). -/
def Obligations.LinesAreHandedToPerchQueues : Prop :=
  ∀ (s : State) (p : Fin 32) (ch : Fin 16), s.intakeRuns →
    ((s.chan ch).arb.decidedAt = some s.now → exec (.perchHandover p ch) s = .next s) ∧
    ((s.chan ch).arb.decidedAt ≠ some s.now →
    (p < 30 → (s.port p).handAt = some s.now ∨ s.gateHeld p = true → exec (.perchHandover p ch) s = .next s) ∧
    (∀ (r : Req) (i : Nat) (l : ReqLine), p < 30 → (s.port p).handing = some r → r.nextLine = some (i, l) →
      s.tableAt l.logical = ch.val → (s.perch ch p).length < 4 →
      r.wr = false ∨ r.holds l.line ∧ (r.lineData l.line).2 ≠ 0 → (s.port p).handAt ≠ some s.now → s.clk.retStep = 0 →
      s.gateHeld p = false → (s.chan ch).state ≠ .retired → (s.chan ch).test = 0 → s.flt.take = false →
      let d := if r.wr then r.lineData l.line else (0, 0)
      ∃ t, exec (.perchHandover p ch) s = .next t ∧
        t.perch ch p = s.perch ch p ++
          [⟨p, r.seq, i, l.line, l.q, r.tier, r.wr, (r.beatsOf l.line).length, d.1, d.2, .port, s.now, 0, 0⟩] ∧
        t.port p = ({ s.port p with handAt := some s.now }.onReq r.seq fun e =>
          (e.onLine i fun l => { l with handed := true }).settle).sweep ∧
        (∀ q, q ≠ p.val → t.port q = s.port q) ∧ (∀ c, c ≠ ch.val → t.chan c = s.chan c) ∧
        t = { s with ports := t.ports, chans := t.chans, perf := t.perf }) ∧
    (p = 30 → exec (.perchHandover p ch) s = .next (handMaint ch s)) ∧
    (p = 31 → exec (.perchHandover p ch) s = .next (handScratch ch s)))

/-- R266 and R270: of the candidates the arbiter takes P31 first, then P0 to P29 by tier, then P30; the line granted leaves
its queue and transfers from the next cc on. R271: a parked owner whose line is alone transfers in the same cc. That the line
behind it is present from the next cc on, and not the one after, is the model's choice (log entries 40 and 47). -/
def Obligations.IntakeGrantsByOrder : Prop :=
  (∀ (u : State) (ch : Nat) (cand : List PerchLine), (∀ x ∈ cand, x.port ≤ 31 ∧ x.tier ≤ 3) → cand ≠ [] →
    ∃ l ∈ cand, u.bestOf ch cand = some l ∧ ((∃ x ∈ cand, x.port = 31) → l.port = 31) ∧
      ((∀ x ∈ cand, x.port ≠ 31) → ∀ x ∈ cand, x.port < 30 → l.port < 30 ∧ l.tier ≤ x.tier)) ∧
  ∀ (s : State) (ch : Fin 16) (l : PerchLine), s.intakeWorks ch → l.port < 32 →
    let u := pressEviction ch (turnAwayAll ch (promote ch s))
    let x := u.chan ch
    (u.deciding ch → x.arb.hold = none → (∀ e, u.heads ch = [e] → x.arb.park ≠ some e.port) →
      u.bestOf ch ((u.heads ch).filter (u.candidate ch)) = some l →
      ∃ t, exec (.intakeDecision ch) s = .next t ∧ (t.chan ch).arb.next = some (l, u.now + 1) ∧
        (t.chan ch).arb.decidedAt = some u.now ∧ t.perch ch l.port = nowPresent (u.now + 1) (u.perch ch l.port).tail ∧ (∀ c, c ≠ ch.val → t.chan c = u.chan c) ∧
        t = { u with chans := t.chans, stat := t.stat, news := t.news }) ∧
    (u.heads ch = [l] → x.arb.park = some l.port → u.intakeIdle ch → u.candidate ch l →
      ∃ t, exec (.intakeDecision ch) s = .next t ∧ (t.chan ch).arb.xfer = some (l, u.now + l.cycles - 1) ∧
        (t.chan ch).arb.next = none ∧ t.perch ch l.port = nowPresent (u.now + 1) (u.perch ch l.port).tail ∧
        (∀ c, c ≠ ch.val → t.chan c = u.chan c) ∧ t = { u with chans := t.chans, stat := t.stat, news := t.news })

/-- R269, R287, R351 and R353: a read line whose transfer ends joins its channel's operations where no held data covers it
and its metadata line is present; an incomplete write line that no flush waits for opens a gill, or merges into the one of its
line. R308: the watchdog trips on a hold that outlasts its limit. -/
def Obligations.TransferredLinesAreAdmitted : Prop :=
  ∀ (s : State) (ch : Fin 16), s.canonical → s.intakeWorks ch →
    (∀ (l : PerchLine) (last : Nat), (s.chan ch).arb.next = none → (s.chan ch).arb.xfer = some (l, last) → last ≤ s.now →
      s.turnedAway ch l = none → l.kind = .port → l.port < 30 → s.on (PT_CFG_STREAMING l.port) = false →
      let x := s.chan ch
      let admitted (f : Chan → Chan) : Prop := ∃ t, exec (.lineAdmission ch) s = .next t ∧
        t.chan ch = f { x with arb := { x.arb with xfer := none, xferAt := some s.now } } ∧ (∀ c, c ≠ ch.val → t.chan c = s.chan c) ∧
        t = { s with chans := t.chans, op := { s.op with lines := s.op.lines + 1 }, perf := t.perf, stat := t.stat, news := t.news }
      let adds (o : Op) (y : Chan) : Chan := { y with ops := y.ops ++ [{ o with id := y.nextOp }], nextOp := y.nextOp + 1 }
      (l.wr = false → x.heldLead l.line = none → s.present ch (l.q / 32) →
        admitted (adds { l.op .read .lookup with rq := .shared })) ∧
      let unflushed : Prop := ∀ n, (s.port l.port).flush = some n → n ≤ l.seq
      (l.wr = true → s.canWrite → unflushed → x.reservedGill l.line = none → x.openGill l.line = none →
        ∀ g, x.freeGill = some g → l.be ≠ BitVec.allOnes 256 →
        let v : Gill := ⟨l.line, l.q, merge 0 l.data l.be, l.be, s.now, [l.port], l.tier, l.tier, none, 0, false⟩
        admitted fun y => adds { l.op .write .gather with gill := some g, lead := x.nextOp }
          { y with gills := upd y.gills g fun _ => some v }) ∧
      (l.wr = true → s.canWrite → unflushed → x.reservedGill l.line = none →
        ∀ (g : Nat) (v : Gill) (o : Op), x.openGill l.line = some g → x.gill g = some v → x.leadOf g = some o →
        v.mask ||| l.be ≠ BitVec.allOnes 256 → l.port ∈ v.ports →
        admitted fun y => adds { l.op .write .gather with gill := some g, lead := o.id }
          (y.onGill g fun v => { v with
            data := merge v.data l.data l.be, mask := v.mask ||| l.be, tier := min v.tier l.tier, reserved := v.reserved - 1 }))) ∧
    ∀ h : Nat, (s.chan ch).arb.hold = some h → s.cf (CH_WDOG_LIMIT ch) ≠ 0 →
      s.cf (CH_WDOG_LIMIT ch) * 256 ≤ (s.chan ch).wdCount → (s.chan ch).wdTripped = false →
      (s.deciding ch → ∀ l ∈ s.heads ch, l.port = 31 → s.candidate ch l = false) →
      ∃ t, exec (.holdStallTrip ch) s = .next t ∧ t.chan ch = { s.chan ch with wdTripped := true } ∧
        (∀ c, c ≠ ch.val → t.chan c = s.chan c) ∧ t = { s with chans := t.chans, stat := t.stat, news := t.news, flt := t.flt }

/-- R209, R216 to R218 and R226: a read all of whose lines are answered, and whose turn it is, begins its D beats; each
beat carries its data, tag and code; the last frees the tag, as the B transfer of a write does. The spill engine takes the
responses of P28 and P29. -/
def Obligations.ResponsesReturnInTurn : Prop :=
  ∀ (s : State) (p : Fin 30), s.responds →
    (∀ (tag : BitVec 8) (r : Req), (s.port p).dSeq = none → (s.port p).reqs.find? (fun r => !r.wr && r.tag == tag &&
        r.answered && (s.port p).turnOf r) = some r →
      exec (.readResponseStart p tag) s = .next (s.onPort p fun x => { x with dSeq := some r.seq, dBeat := 0 })) ∧
    (∀ r : Req, s.sending p = some r →
      ((s.dBeat p r).last = false → p ≠ 28 →
        ∃ t, exec (.readDataTransfer p) s = .next t ∧
          t.port p = { s.port p with lastD := s.dBeat p r, dBeat := (s.port p).dBeat + 1 } ∧
          (∀ q, q ≠ p.val → t.port q = s.port q) ∧ t = { s with ports := t.ports, perf := t.perf, stat := t.stat, news := t.news }) ∧
      ((s.dBeat p r).last = true → p ≠ 28 →
        ∃ t, exec (.readDataTransfer p) s = .next t ∧ (t.port p).lastD = s.dBeat p r ∧ (t.port p).dSeq = none ∧
          (t.port p).reqs = (s.port p).reqs.filter (·.seq ≠ r.seq) ∧ (∀ q, q ≠ p.val → t.port q = s.port q) ∧
          t = { s with ports := t.ports, perf := t.perf, stat := t.stat, news := t.news }) ∧
      (p = 28 → exec (.readDataTransfer p) s =
        .next (if (s.dBeat p r).last then spillRead r.seq r (sendD p r s) else sendD p r s))) ∧
    ∀ (tag : BitVec 8) (r : Req), s.readyWrite p tag = some r →
      (p ≠ 29 → ∃ t, exec (.writeResponseTransfer p tag) s = .next t ∧ (t.port p).lastB = (r.tag, r.worst) ∧
        (t.port p).reqs = (s.port p).reqs.filter (·.seq ≠ r.seq) ∧ (∀ q, q ≠ p.val → t.port q = s.port q) ∧
        t = { s with ports := t.ports, perf := t.perf, stat := t.stat, news := t.news }) ∧
      (p = 29 → exec (.writeResponseTransfer p tag) s = .next (spillWrote r.seq r (sendB p r s)))

/-- R235 and R236: the Tun of an ingest port is reset when its pointer copies differ, its write lines not handed on being
refused with cause 4; a flush takes the beats of earlier requests, evicts the port's incomplete gills, raises ING_HOLD at
the end of the cc, where DM_READY is 1 and PCLK runs, and ends with FLUSH_DONE. R242: the port states a STOP, a RESUME and the
last response move through; a parity mismatch keeps a port HALTED (R172). That a flush in a flush moves its mark, and the
causes that the lines of a reset Tun keep, are the model's choices (log entry 40). -/
def Obligations.PortsFlushStopAndResume : Prop :=
  (∀ (s : State) (p : Fin 4), s.clocked →
    (∃ t, exec (.tunPointerMismatch p) s = .next t ∧ (t.port p).occupancy = 0 ∧ (t.port p).state = (s.port p).state ∧
      (∀ r ∈ (s.port p).reqs, r.wr = true → r.bad = false → r.freed = false → ∃ u ∈ (t.port p).reqs, u.seq = r.seq ∧ u.lines =
        r.lines.map fun l => if l.handed || l.out.isSome then l else { l with out := some ⟨3, 4⟩ }) ∧
      t = { s with ports := t.ports, stat := t.stat, news := t.news, flt := t.flt }) ∧
    (∃ t, exec (.flush p) s = .next t ∧ (t.port p).flush = some (s.port p).nextSeq ∧
      (s.pins.dmReady = true → s.pins.pclk = true → (tunCc p t).pins.ingHold.getLsbD p = true) ∧
      t.chans = s.chans.map (·.evictGills .other fun g => g.ports.contains p) ∧
      t = { s with ports := t.ports, chans := t.chans, perf := (dropHeld (PT_CTRL_FLUSH p).addr s).perf }) ∧
    (s.canonical → s.flushed p → (PT_STATE_FLUSH_DONE p).addr ∉ s.frozen →
      ∃ t, exec (.flushDone p) s = .next t ∧ (t.port p).flush = none ∧ t.st (PT_STATE_FLUSH_DONE p) = 1 ∧
        t = { s with ports := t.ports, stat := t.stat, news := t.news })) ∧
  ∀ (s : State) (p : Fin 30), s.clocked →
    let x := s.port p
    let w := dropHeld (PT_CTRL_STOP p).addr s
    let moves (c : Instr) (s' : State) (st : PortState) : Prop := ∃ t, exec c s = .next t ∧ (t.port p).state = st ∧
      (t.port p).reqs = x.reqs ∧ (∀ q, q ≠ p.val → t.port q = s.port q) ∧ t = { s' with ports := t.ports }
    (x.state = .run → moves (.stop p) w .drain) ∧
    (x.state ≠ .run → exec (.stop p) s = .next w) ∧
    (x.state = .drain ∨ x.state = .stopped → moves (.resume p) w .run) ∧
    (x.state = .drain → x.tags = 0 → moves (.drainComplete p) s .stopped) ∧
    (x.state = .halted → 2 ≤ x.hcause → x.hcause ≤ 4 → s.frozenIn (.pt p) = false → x.tags = 1 → (∀ r ∈ x.reqs, r.bad = true) →
      exec (.resume p) s = .next (w.onPort p fun _ => ({ x with
        state := .run, hcause := 0, reqs := x.reqs.map fun r => { r with freed := true } } : Port).sweep)) ∧
    (x.state = .run ∨ x.state = .disabled ∨
        x.state = .halted ∧ (x.hcause = 1 ∨ s.frozenIn (.pt p) = true ∨ x.tags ≠ 1 ∨ ∃ r ∈ x.reqs, r.bad = false) → exec (.resume p) s = .next w)

/-- R292, R295, R296 and R303: whatever command the choice of a channel's engine falls on meets the timing rules of its
kind: ACT to a closed bank ready for it, a column command to the open row of its operation, PRE to an open bank with no
started line, a refresh or RFMpb to closed banks, CAS, MRR, MRW and the ZQ commands to a rank that no command keeps busy. The
choice names ranks and banks that exist, and for a calibration step the rank of the step. -/
def Obligations.ChosenCommandsMeetTheirTimings : Prop :=
  ∀ (s : State) (ch : Fin 16) (k : Cmd), s.chosen ch = some k →
    let column (id : Nat) (wr : Bool) : Prop := ∃ o ∈ (s.chan ch).ops, o.id = id ∧ o.inQueue ∧ o.writes = wr ∧
      s.columnReady ch (s.opPlace ch o) wr ∧ (s.chan ch).wrMode = wr ∧
      ((s.rank ch (s.opPlace ch o).rank).bank (s.opPlace ch o).bank).st = .opened ∧
      ((s.rank ch (s.opPlace ch o).rank).bank (s.opPlace ch o).bank).row = (s.opPlace ch o).row
    s.slot ch ∧ s.clocked ∧
      match k with
      | .act p id => p.rank < 2 ∧ p.bank < 16 ∧ s.actReady ch p.rank p.bank ∧
          ∃ o ∈ (s.chan ch).ops, o.id = id ∧ o.inQueue ∧ s.opPlace ch o = p
      | .rd id => column id false
      | .wr id => column id true
      | .pre r b => r < 2 ∧ b < 16 ∧ s.preReady ch r b
      | .refpb r a _ => r < 2 ∧ a < 8 ∧ s.rankFree ch r ∧ (∀ b ∈ s.refBanks ch a, ((s.rank ch r).bank b).st = .closed) ∧
          ∀ b < 16, ((s.rank ch r).bank b).ref ≠ (s.rank ch r).refab →
            s.due ((s.rank ch r).bank b).ref (s.tm ch CH_TRFC_PBR2PBR)
      | .refab r _ => r < 2 ∧ s.rankFree ch r ∧ ∀ b < 16, ((s.rank ch r).bank b).st = .closed
      | .rfm r b _ => r < 2 ∧ b < 16 ∧ s.rankQuiet ch r ∧ ((s.rank ch r).bank b).st = .closed
      | .cas r => r < 2 ∧ s.rankQuiet ch r ∧ (s.rank ch r).wckOn = false
      | .mrr r => r < 2 ∧ s.rankQuiet ch r ∧ (s.rank ch r).mr4Due
      | .mrw r => r < 2 ∧ s.rankQuiet ch r ∧ s.due (s.rank ch r).mrw (s.tm ch CH_TMR_MRW) ∧ s.fspOwed ch r
      | .zqStart r => s.rankQuiet ch r ∧ (s.cal ch).step = some (3, r)
      | .zqLatch r => s.rankQuiet ch r ∧ (s.cal ch).step = some (2, r) ∧ (s.rank ch r).zqReady
      | .oscStart r => s.rankQuiet ch r ∧ (s.cal ch).step = some (4, r)
      | .osc r => s.rankFree ch r ∧ (s.cal ch).step = some (4, r)

/-- R291, R293 and R325: ACT opens the row of its bank and takes two ck; PRE, and the idle-close rule, begin the precharge of
one bank and PREab that of every open bank of a rank; when RCD, the precharge or the refresh has run, the bank is open or
closed. No other bank changes. -/
def Obligations.RowCommandsMoveTheirBanks : Prop :=
  ∀ (s : State) (ch : Fin 16),
    let bank (t : State) (r b : Nat) : Bank := (t.rank ch r).bank b
    let others (t : State) (r b : Nat) : Prop := (∀ r' b', (r', b') ≠ (r, b) → bank t r' b' = bank s r' b') ∧
      ∀ c, c ≠ ch.val → t.chan c = s.chan c
    let closing (c : Instr) (r b : Nat) : Prop := ∃ t, exec c s = .next t ∧
      bank t r b = { bank s r b with st := .closing, pre := some s.now } ∧ others t r b ∧
      (t.chan ch).cmdAt = s.now + s.ck ∧ t = { s with chans := t.chans, perf := t.perf }
    (∀ (p : Place) (id : Nat), s.chosen ch = some (.act p id) → p.rank < 2 → p.bank < 16 →
      ∃ t, exec (.act ch) s = .next t ∧
        bank t p.rank p.bank = { bank s p.rank p.bank with
          st := .opening, row := p.row, act := some s.now, hits := 0, actFor := some id, idleAt := s.now
          raa := (bank s p.rank p.bank).raa + if s.on (CH_RFMCFG_EN ch) then 1 else 0 } ∧
        others t p.rank p.bank ∧ (t.rank ch p.rank).faw = (s.now :: (s.rank ch p.rank).faw).take 4 ∧
        (t.chan ch).cmdAt = s.now + 2 * s.ck ∧ t = { s with chans := t.chans, stat := t.stat, news := t.news, perf := t.perf }) ∧
    (∀ r b, s.chosen ch = some (.pre r b) → r < 2 → b < 16 → closing (.pre ch) r b) ∧
    (∀ (r : Fin 2) (b : Fin 16), s.engineRuns ch → s.choose ch = none → s.cf (CH_SCHED_IDLE ch) ≠ 0 → s.oscOn ch r = false →
      s.preReady ch r b → s.queuedRow ch r b (bank s r b).row = false →
      (bank s r b).idleAt + s.cf (CH_SCHED_IDLE ch) * s.ck ≤ s.now → closing (.idleClose ch r b) r b) ∧
    (∀ r : Fin 2, s.powerRuns ch → s.preabReady ch r →
      ∃ t, exec (.preab ch r) s = .next t ∧ (t.rank ch r).preDue = false ∧ (t.rank ch r).preab = some s.now ∧
        (∀ b < 16, bank t r b = if (bank s r b).st = .opened then { bank s r b with st := .closing, pre := some s.now }
          else bank s r b) ∧
        (∀ r', r' ≠ r.val → t.rank ch r' = s.rank ch r') ∧ (∀ c, c ≠ ch.val → t.chan c = s.chan c) ∧
        (t.chan ch).cmdAt = s.now + s.ck ∧ t = { s with chans := t.chans, perf := t.perf }) ∧
    ∀ (r : Fin 2) (b : Fin 16), s.clocked →
      ((bank s r b).st = .opening → s.due (bank s r b).act (1 + s.tm ch CH_TACT_RCD + s.derate ch) →
        exec (.rcdExpiry ch r b) s = .next (s.onBank ch r b fun x => { x with st := .opened })) ∧
      ((bank s r b).st = .closing → (bank s r b).pre ≠ (s.rank ch r).preab →
        s.due (bank s r b).pre (s.tm ch CH_TACT_RPPB + s.derate ch) →
        exec (.prechargeDone ch r b) s = .next (s.onBank ch r b fun x => { x with st := .closed })) ∧
      ((bank s r b).st = .closing → (bank s r b).pre.isSome → (bank s r b).pre = (s.rank ch r).preab →
        s.due (bank s r b).pre (s.tm ch CH_TBNK_RPAB) →
        exec (.prechargeDone ch r b) s = .next (s.onBank ch r b fun x => { x with st := .closed })) ∧
      ((bank s r b).st = .refreshing →
        s.due (bank s r b).ref (if (bank s r b).ref.isSome ∧ (bank s r b).ref = (s.rank ch r).refab then s.tm ch CH_TRFC_RFCAB
          else s.tm ch CH_TREF_RFCPB) →
        s.due (bank s r b).rfm (s.tm ch CH_TRFM_RFMPB) →
        exec (.refreshDone ch r b) s = .next (s.onBank ch r b fun x => { x with st := .closed }))

/-- R282, R286 and R298: RD adds the next burst of its line to its operation and changes no DRAM; WR writes exactly the next
burst of its operation's data; the fourth burst ends the line's commands, and a write then rests with its hazard entry until
tWR after its data, its write-queue entry free. The data bus turns when it may. That a write is encrypted and takes its
entry's new value at its first column command is the model's choice (log entries 28 and 35). -/
def Obligations.ColumnCommandsMoveOneBurst : Prop :=
  ∀ (s : State) (ch : Fin 16) (id : Nat) (o : Op), (s.chan ch).op id = some o →
    (s.chosen ch = some (.rd id) →
      ∃ t, exec (.rd ch) s = .next t ∧ t.dram = s.dram ∧ (t.chan ch).op id = some { o with
          bursts := o.bursts + 1, data := withBurst o.data o.bursts (s.burst ch o.x o.bursts)
          rq := if o.bursts = 3 then .none else o.rq, phase := if o.bursts = 3 then .flight else o.phase
          mark := if o.bursts = 3 then s.now else o.mark } ∧
        (∀ c, c ≠ ch.val → t.chan c = s.chan c) ∧ t = { s with chans := t.chans, perf := t.perf }) ∧
    (s.chosen ch = some (.wr id) → 0 < o.bursts →
      ∃ t, exec (.wr ch) s = .next t ∧ find t.dram (burstKey ch o.x o.bursts) = some (burstOf o.data o.bursts) ∧
        (∀ a, a ≠ burstKey ch o.x o.bursts → find t.dram a = find s.dram a) ∧ t.cfg = s.cfg ∧ t.ports = s.ports ∧
        (o.bursts = 3 → ∃ w ∈ (t.chan ch).ops, w.id = id ∧ w.bursts = 4 ∧ w.phase = .recovering ∧ w.mark = s.now ∧
          w.wq = .none) ∧
        (o.bursts ≠ 3 → (t.chan ch).op id = some { o with bursts := o.bursts + 1 } ∧
          t = { s with chans := t.chans, perf := t.perf, dram := t.dram })) ∧
    (s.chosen ch = some (.wr id) → o.bursts = 0 →
      ∃ t w, exec (.wr ch) s = .next t ∧ ((sealWrite ch o s).chan ch).op id = some w ∧
        find t.dram (burstKey ch o.x 0) = some (burstOf w.data 0) ∧
        (∀ a, a ≠ burstKey ch o.x 0 → find t.dram a = find s.dram a) ∧
        (t.chan ch).op id = some { w with bursts := 1 } ∧ t = { s with chans := t.chans, perf := t.perf, dram := t.dram }) ∧
    (s.busRuns ch → s.slot ch → s.turning ch →
      (∀ e ∈ (s.chan ch).ops, e.started → e.writes ≠ (s.chan ch).wrMode) →
      exec (.dataBusModeChange ch) s = .next ((s.onChan ch fun x => { x with
        wrMode := !x.wrMode, modeDue := false, modeCount := 0 }).note .turn ch)) ∧
    (s.opWorks ch o → o.phase = .recovering → o.partner = none →
      o.mark + (s.writeEnd ch + s.tm ch CH_TFAW_WR) * s.ck ≤ s.now →
      exec (.writeRecoveryExpiry ch id) s = .next (recovered ch o s) ∧
        (o.kind = .write → exec (.writeRecoveryExpiry ch id) s = .next (s.dropWrites ch o.id)))

/-- R354, R358, R359 and R286: a fetched line of a read whose check matches is answered with its plain data, under the bytes
the read found held at its admission (R226 and R351 as the model reads them: log entry 47); one that fails is fetched again
at once, then after 1 µs, with a shared read-queue entry where one is free; a line of the block's own goes where it belongs. An
incomplete gill is evicted by age, and a whole one leaves for the write queue. -/
def Obligations.FetchedLinesAreChecked : Prop :=
  (∀ (s : State) (ch : Fin 16) (id : Nat) (o : Op) (err : Line), (s.chan ch).op id = some o → s.opWorks ch o → s.fetched ch o →
    let d := o.data ^^^ err
    let plain := s.decrypt (Entry.epoch o.entry) o.line d
    let good := lineCrc plain o.line = Entry.crc o.entry
    (o.kind = .read → s.clk.debtOver = false → good → o.tries = 0 → o.port < 30 →
      ∃ t, exec (.readDataReturn ch id err) s = .next t ∧ (t.chan ch).ops = (s.chan ch).ops.filter (·.id ≠ o.id) ∧
        (t.port o.port).reqs = (s.port o.port).reqs.map (fun r => if r.seq = o.seq then r.onLine o.idx fun l =>
          { l with out := some (checkedAnswer (Entry.unverified o.entry)), data := merge plain o.plain o.mask } else r) ∧ t.dram = s.dram) ∧
    (o.kind = .read ∨ o.kind = .rmw ∨ o.kind = .scrub ∨ o.kind = .migration ∨ o.kind = .rekey → s.clk.debtOver = false →
      ¬ good →
      (o.tries = 0 → ∃ t, exec (.readDataReturn ch id err) s = .next t ∧ (t.chan ch).op id =
          some { o with
            phase := if (s.chan ch).rqFree then .reading else .wantQueue, rq := if (s.chan ch).rqFree then .shared else .none
            tries := 1, bursts := 0 } ∧ t.ports = s.ports ∧ t.dram = s.dram) ∧
      (o.tries = 1 → exec (.readDataReturn ch id err) s = .next (s.onOp ch o.id fun o => { o with
          phase := .pause, tries := 2, bursts := 0, mark := s.rsck })) ∧
      (2 ≤ o.tries → exec (.readDataReturn ch id err) s = .next (badLine ch o s))) ∧
    (o.kind = .scratch → exec (.readDataReturn ch id err) s = .next (s.dropOp ch o.id)) ∧
    ∀ i, o.kind = .recompute i → exec (.readDataReturn ch id err) s = .next (recomputeRead ch i o d s)) ∧
  (∀ (s : State) (ch : Fin 16) (id : Nat) (o : Op), (s.chan ch).op id = some o → s.quadWorks (quadOf ch) →
    o.phase = .pause → o.mark + s.usRsck 1 ≤ s.rsck →
    exec (.secondRefetchDue ch id) s = .next (s.onOp ch id fun o => { o with
      phase := if (s.chan ch).rqFree then .reading else .wantQueue, rq := if (s.chan ch).rqFree then .shared else .none
      bursts := 0 })) ∧
  ∀ (s : State) (ch g : Fin 16) (v : Gill), s.quadWorks (quadOf ch) → (s.chan ch).gill g = some v →
    (v.whole = false → v.evict = none → v.opened + s.cf (CH_GILLCFG_AGE ch) ≤ s.now →
      exec (.gillAgeExpiry ch g) s = .next (s.onChan ch (·.onGill g fun v => { v with evict := some .age }))) ∧
    ∀ o : Op, v.whole → v.reserved = 0 → (s.chan ch).leadOf g = some o → (s.chan ch).wqFree →
      ∃ t, exec (.gillToWriteQueue ch g) s = .next t ∧ (t.chan ch).gill g = none ∧
        (∀ k, k ≠ g.val → (t.chan ch).gill k = (s.chan ch).gill k) ∧
        (∃ e ∈ (t.chan ch).ops, e.id = o.id ∧ e.phase = .writing ∧ e.plain = v.data ∧ e.wq = .shared ∧ e.gill = none) ∧
        (∀ c, c ≠ ch.val → t.chan c = s.chan c) ∧ t = { s with chans := t.chans, stat := t.stat, news := t.news }

/-- R314 to R317, R321 and R323: a refresh lowers the debt of its rank by an eighth of an all-bank one or by the whole, makes
its banks busy and lowers their RAA counters; the debt rises by 1 every I/8 and stays at 64, a rise lost there being
reported; an MR4 read follows a refresh; a class with a larger multiplier waits for a second reading, and steps 2 to 6 of a
change hold a class back (R322, R337). That a class with an equal multiplier takes effect at once is the model's choice (log
entry 26). -/
def Obligations.RefreshesPayTheDebt : Prop :=
  ∀ (s : State) (ch : Fin 16),
    let bank (t : State) (r b : Nat) : Bank := (t.rank ch r).bank b
    let lower (n : Nat) (x : Bank) : Nat :=
      if s.on (CH_RFMCFG_EN ch) then x.raa - n * s.cf (CH_RFMCFG_RAAIMT ch) else x.raa
    (∀ r a placed, s.chosen ch = some (.refpb r a placed) → r < 2 → a < 8 →
      ∃ t, exec (.refpb ch) s = .next t ∧ (t.rank ch r).debt = (s.rank ch r).debt - 1 ∧
        (t.rank ch r).round = (if (s.rank ch r).round ||| 2 ^ a = 255 then 0 else (s.rank ch r).round ||| 2 ^ a) ∧
        (∀ b ∈ s.refBanks ch a, bank t r b = { bank s r b with
          st := .refreshing, ref := some s.now, raa := lower 1 (bank s r b) }) ∧
        (∀ b, b ∉ s.refBanks ch a → bank t r b = bank s r b) ∧ (∀ r', r' ≠ r → t.rank ch r' = s.rank ch r') ∧
        (t.chan ch).cmdAt = s.now + s.ck ∧ t.dram = s.dram ∧ t.ports = s.ports) ∧
    (∀ r placed, s.chosen ch = some (.refab r placed) → r < 2 →
      ∃ t, exec (.refab ch) s = .next t ∧ (t.rank ch r).debt = (s.rank ch r).debt - 8 ∧ (t.rank ch r).round = 0 ∧
        (∀ b < 16, bank t r b = { bank s r b with
          st := .refreshing, ref := some s.now, raa := lower 1 (bank s r b) }) ∧
        (∀ r', r' ≠ r → t.rank ch r' = s.rank ch r') ∧ (t.chan ch).cmdAt = s.now + s.ck ∧ t.dram = s.dram ∧
        t.ports = s.ports) ∧
    (∀ r b placed, s.chosen ch = some (.rfm r b placed) → r < 2 → b < 16 →
      ∃ t, exec (.rfmpb ch) s = .next t ∧ bank t r b = { bank s r b with
          st := .refreshing, rfm := some s.now, raa := lower (s.rfmDec ch) (bank s r b) } ∧
        (∀ r' b', (r', b') ≠ (r, b) → bank t r' b' = bank s r' b') ∧ (t.chan ch).cmdAt = s.now + s.ck ∧
        t = { s with chans := t.chans, stat := t.stat, news := t.news }) ∧
    ∀ r : Fin 2,
      (s.clocked → s.counts ch r → (s.rank ch r).debtMark + s.riseTime ch r ≤ 32 * s.now →
        ((s.rank ch r).debt < 64 → exec (.debtRise ch r) s = .next (s.onRank ch r fun k => { k with
          debtMark := k.debtMark + s.riseTime ch r, debt := k.debt + 1 })) ∧
        (64 ≤ (s.rank ch r).debt → ∃ t, exec (.debtRise ch r) s = .next t ∧ (t.rank ch r).debt = 64 ∧
          ∃ e, t.flt = { s.flt with logs := s.flt.logs ++ [e] } ∧ e.valid = true ∧ e.src = Src.reflost.bit ∧
            e.ncls = Src.reflost.cls ∧ e.stamp = s.tb.last)) ∧
      (s.clocked → (s.rank ch r).keeps → (s.rank ch r).mr4Due = false →
        (s.rank ch r).mr4At + s.usCc (s.cf (CH_REFCFG_POLL ch)) ≤ s.now →
        exec (.mr4PollDue ch r) s = .next (s.onRank ch r fun k => { k with mr4Due := true })) ∧
      (s.chosen ch = some (.mrr r) →
        exec (.mrr ch r) s = .next ((s.onRank ch r fun k => { k with
          mr4Due := false, mr4Go := false, mr4Wait := true, mr4At := s.now, mrr := some s.now }).takeSlot ch 1)) ∧
      ∀ cls : Fin 8, s.clocked → (s.rank ch r).mr4Wait → s.due (s.rank ch r).mrr (s.tm ch CH_TLAT_RL) →
        ∃ t, exec (.mr4Result ch r cls) s = .next t ∧ (t.rank ch r).mr4Wait = false ∧
          let known := s.mult4Of ch ((s.rank ch r).clsHeld.getD (s.rank ch r).cls)
          (s.mult4Of ch cls ≤ known ∨ (s.rank ch r).clsCand = some cls.val →
            (s.op.step < 2 ∨ 6 < s.op.step → (t.rank ch r).cls = cls ∧ (t.rank ch r).clsHeld = none) ∧
            (2 ≤ s.op.step → s.op.step ≤ 6 →
              (t.rank ch r).cls = (s.rank ch r).cls ∧ (t.rank ch r).clsHeld = some cls.val)) ∧
          (known < s.mult4Of ch cls → (s.rank ch r).clsCand ≠ some cls.val →
            (t.rank ch r).cls = (s.rank ch r).cls ∧ (t.rank ch r).clsCand = some cls.val)

/-- R301, R325 and R326: how the power state of a rank moves: into power-down, self-refresh and deep sleep, the debt being 0
after a payment and kept otherwise; and out of each, with its exit time. WCK starts before column commands. -/
def Obligations.RanksEnterAndLeavePowerStates : Prop :=
  ∀ (s : State) (ch : Fin 16) (r : Fin 2),
    let k := s.rank ch r
    let moves (c : Instr) (p : PowerSt) : Prop := ∃ t, exec c s = .next t ∧ (t.rank ch r).power = p ∧
      (t.chan ch).cmdAt = s.now + s.ck ∧ t.dram = s.dram ∧ t.ports = s.ports ∧ t.cfg = s.cfg
    (s.engineRuns ch → s.cf (CH_PWRCFG_PDIDLE ch) ≠ 0 → k.power = .active → k.want = .serve → k.preDue = false →
      k.check = false → s.fspOwed ch r = false → s.rankIdle ch r → k.idleAt + s.cf (CH_PWRCFG_PDIDLE ch) * s.ck ≤ s.now → k.debt < 48 →
      s.refreshReady ch r = false → s.rankQuiet ch r → s.dataRested ch r →
      (s.chan ch).cmdAt + s.tm ch CH_TPWR_CSCKE * s.ck ≤ s.now + s.ck → moves (.pde ch r) .powerDown) ∧
    (s.powerRuns ch → k.power = .powerDown → s.leavesPd ch r → s.due k.lowAt (s.tm ch CH_TPWR_CKCSH) →
      exec (.pdx ch r) s = .next ((s.onRank ch r fun k => { k with
        power := .active, upAt := some (s.now + s.tm ch CH_TPWR_XP * s.ck), mr4Due := true, mr4Go := false
        idleAt := s.now }).takeSlot ch 1)) ∧
    (∀ pay, k.want = .selfRefresh pay → s.maySleep ch r → s.op.step ≠ 3 ∨ ch.val ∉ s.opChans ∨ k.fspSel = true →
      ∃ t, exec (.sre ch r) s = .next t ∧ t = settleOp (sleepRank ch r .selfRefresh s) ∧
        let u := sleepRank ch r .selfRefresh s
        (u.rank ch r).power = .selfRefresh ∧ (u.rank ch r).debt = (if pay then 0 else k.debt) ∧
          (u.rank ch r).lowAt = some s.now ∧ (u.rank ch r).wckOn = false) ∧
    (∀ pay, k.want = .deepSleep pay → s.maySleep ch r → moves (.deepSleepEntry ch r) .deepSleep ∧
      exec (.deepSleepEntry ch r) s = .next (sleepRank ch r .deepSleep s)) ∧
    (s.srxReady ch r → ∃ t, exec (.srx ch r) s = .next t ∧ (t.rank ch r).power = .active ∧
      (t.rank ch r).upAt = some (s.now + max (s.tm ch CH_TXSR_XSR) (if s.op.step = 5 then s.tm ch CH_TXSR_FC else 0) * s.ck) ∧
      (t.rank ch r).debt = k.debt ∧ (t.rank ch r).debtMark = 32 * s.now ∧ (t.rank ch r).mr4Due = true ∧
      (t.chan ch).cmdAt = s.now + s.ck ∧ t = { s with chans := t.chans }) ∧
    (s.powerRuns ch → k.power = .deepSleep → k.want = .serve → k.exitAt = none →
      exec (.deepSleepExit ch r) s =
        .next ((s.onRank ch r fun k => { k with exitAt := some s.now }).takeSlot ch 1)) ∧
    (∀ m, s.clocked → k.exitAt = some m → m + s.usCc (s.cf (CH_PWRCFG_DSMX ch)) ≤ s.now →
      ∃ t, exec (.dsmxExpiry ch r) s = .next t ∧ (t.rank ch r).power = .selfRefresh ∧ (t.rank ch r).check = true ∧
        (t.rank ch r).exitAt = none ∧ (3, r.val) ∈ (t.cal ch).booked ∧ t = { s with chans := t.chans, cals := t.cals }) ∧
    (s.quadRuns (quadOf ch) → s.cf (CH_PWRCFG_SRIDLE ch) ≠ 0 → s.live ch → k.awake → k.want = .serve →
      k.check = false → s.op.step < 2 → s.fspOwed ch r = false → s.rankIdle ch r → k.idleAt + s.usCc (s.cf (CH_PWRCFG_SRIDLE ch)) ≤ s.now →
      ∃ t, exec (.selfRefreshIdleExpiry ch r) s = .next t ∧ (t.rank ch r).want = .selfRefresh true ∧
        (t.rank ch r).preDue = true ∧ (t.rank ch r).forced = k.keeps ∧ t = { s with chans := t.chans }) ∧
    (s.chosen ch = some (.cas r) ∨ (s.powerRuns ch ∧ k.wckOn = false ∧ (k.check = true ∨ (s.chan ch).job ≠ .none) ∧
        s.rankQuiet ch r ∧ s.order1 ch = none) →
      exec (.casWsFs ch r) s =
        .next ((s.onRank ch r fun k => { k with wckOn := true, wckAt := some s.now }).takeSlot ch 1))

/-- R70, R331, R332, R334 and R335: the supply handshake step by step; a timeout abandons a change that goes up and lets
one that went down stand, reported with its level set; the pin takes its values and requests its point; the MRW of a change
writes and then, with WCK stopped, selects the other FSP. -/
def Obligations.OperatingPointsChangeByTheirSteps : Prop :=
  ∀ s : State, s.clocked →
    let v := s.op.supply
    let supply (w : Supply) : State := { s with op := { s.op with supply := w } }
    (v.step = 1 → v.mark + 2 ≤ s.rsck →
      exec .vreqStrobe s = .next (supply { v with vreq := v.vreq ||| 4, step := 2 })) ∧
    (v.step = 2 → exec .vackRise s = .next (supply { v with
      vreq := v.vreq &&& 3, step := 3, vset := (v.vreq &&& 3).toNat })) ∧
    (v.step = 3 →
      let u := supply { v with step := 0, late := false }
      exec .vackFall s = .next (if s.op.step = 1 then opStep2 u else if s.op.step = 7 then settleOp (opStep 0 u)
        else settleOp u)) ∧
    (v.step = 1 ∨ v.step = 2 → s.op.stepAt + s.usRsck (s.cf TB_OPTIME_VSTEP) ≤ s.rsck →
      (s.op.step = 1 → ∃ t, exec .vackTimeout s = .next t ∧ t.op.pend = false ∧ t.op.step = 0 ∧ t.op.cur = s.op.cur) ∧
      (s.op.step = 7 → ∃ t, exec .vackTimeout s = .next t ∧ t.op.step = 0 ∧ t.op.cur = s.op.cur ∧
        t.op.supply = { v with late := true } ∧ t.clk = s.clk)) ∧
    (∀ (en : Bool) (k : Fin 4), s.canonical → s.good → TB_OPPIN_EN.addr ∉ s.frozen →
      ∃ t, exec (.opPin en k) s = .next t ∧ t.cf TB_OPPIN_EN = b2n en ∧ t.cf TB_OPPIN_OP = k ∧
        (en = true → s.on (TB_OP_VALID k) → s.op.step = 0 → s.op.granted = false → s.op.pend = false → k.val ≠ s.op.cur →
          (s.changeAllowed = true → t.op.pend = true ∧ t.op.target = k) ∧
          (s.changeAllowed = false → t.op.want = some k.val ∧ t.op.pend = false))) ∧
    ∀ (ch : Fin 16) (r : Fin 2),
      let wrote (f : Rank → Rank) : State := (s.onRank ch r fun k => { f k with mrw := some s.now }).takeSlot ch 1
      (s.chosen ch = some (.mrw r) →
        exec (.mrw ch r) s = .next (tryPostOp (wrote fun k => { k with fspDone := true }))) ∧
      (s.powerRuns ch → s.rankQuiet ch r → s.due (s.rank ch r).mrw (s.tm ch CH_TMR_MRW) →
        s.op.step = 3 → ch.val ∈ s.opChans → (s.rank ch r).preDue = false → (s.rank ch r).allClosed →
        (s.rank ch r).forced = false →
        ((s.rank ch r).fspDone = false → exec (.mrw ch r) s = .next (wrote fun k => { k with fspDone := true })) ∧
        ((s.rank ch r).fspDone = true → (s.rank ch r).fspSel = false → s.dataRested ch r →
          exec (.mrw ch r) s = .next (wrote fun k => { k with fspSel := true, wckOn := false })))

/-- R327: deep sleep begins, in normal operation only, by stopping intake and evicting every gill of the channels in
service, once no change of the operating point is pending; it ends from deep sleep alone, every rank being asked to
serve. -/
def Obligations.DeepSleepBeginsAndEnds : Prop :=
  ∀ s : State, s.clocked →
    (s.op.dsm = 0 → s.clk.startStep = 0 →
      ∃ t, exec .dsmEnter s = .next t ∧ t.op.dsm = 1 ∧ t.dram = s.dram ∧ t.cfg = s.cfg ∧ t.ports = s.ports ∧
        (s.op.pend = true ∨ s.op.step ≠ 0 → t.chans = s.chans) ∧
        (s.op.pend = false → s.op.step = 0 → ∀ c < 16, t.chan c =
          if (s.chan c).inService then ({ s.chan c with noRoom := true } : Chan).evictGills .other (fun _ => true)
          else s.chan c)) ∧
    (s.op.dsm ≠ 0 ∨ s.clk.startStep ≠ 0 → exec .dsmEnter s = .next s) ∧
    (s.op.dsm = 2 → ∃ t, exec .dsmExit s = .next t ∧ t.op.dsm = 3 ∧ (∀ c < 16, t.chan c =
        if (s.chan c).inService then { s.chan c with ranks := (s.chan c).ranks.map fun k => { k with want := .serve } }
        else s.chan c) ∧ t = { s with chans := t.chans, op := t.op }) ∧
    (s.op.dsm ≠ 2 → exec .dsmExit s = .next s)

/-- R374, R375 and R389: a lane that is free looks up the next operation, which a line held CLEAN or DIRTY answers with its
entry; a returned line whose check matches is installed, one that fails its first check is read again; a rebuilt line is
installed DIRTY. -/
def Obligations.MetadataLinesAreLookedUpAndInstalled : Prop :=
  ∀ (s : State) (q : Fin 4), s.quadWorks q →
    (∀ (lane : Fin 8), (s.quad q).bypStep = 0 →
      (((s.quad q).lane lane).stopped.isSome → exec (.metadataLookup q lane) s = .next s) ∧
      (s.laneFree q lane → ((s.quad q).lane lane).waiting = none →
        ∀ (c : Nat) (o : Op) (w : Nat), c < 16 → quadOf c = q.val →
        ([1, 2, 3, 4].map fun i => 4 * q.val + (((s.quad q).lane lane).last + i) % 4).findSome? (fun c =>
          (s.lookupOf c lane).map fun o => (c, o)) = some (c, o) →
        s.present c (o.q / 32) → (s.quad q).wayFor c (o.q / 32) = some w →
        ((s.quad q).way w).st = .clean ∨ ((s.quad q).way w).st = .dirty → o.kind = .read →
        s.lineState (entryOf ((s.quad q).way w).data o.q) ∈ [LineState.good, .unverified] →
        (s.chan c).op o.id = some o →
        ∃ t, exec (.metadataLookup q lane) s = .next t ∧ (t.chan c).op o.id = some { o with
            looked := true, entry := entryOf ((s.quad q).way w).data o.q, way := some w, phase := .reading } ∧
          t.dram = s.dram ∧ t.ports = s.ports ∧ t.cfg = s.cfg)) ∧
    (∀ (ch : Fin 16) (id : Nat) (o : Op) (err : Line), quadOf ch = q.val → (s.chan ch).op id = some o → o.isMetaFill →
      s.fetched ch o →
      let d := o.data ^^^ err
      (mcrcOf d = s.mcrc ch o.q d → o.tries = 0 → exec (.fillInstall ch id err) s = .next (install ch o d s)) ∧
      (mcrcOf d = s.mcrc ch o.q d → o.tries = 0 → o.kind = .demand → ∀ w, o.way = some w →
        (∀ e ∈ quadChans q, ∀ a ∈ (s.chan e).ops, a.way = some w → e = ch.val ∧ a.id = o.id) →
        ∃ t, exec (.fillInstall ch id err) s = .next t ∧ (t.quad q).way w = { (s.quad q).way w with st := .clean, data := d } ∧
          (t.chan ch).ops = (s.chan ch).ops.filter (·.id ≠ o.id) ∧ t.dram = s.dram) ∧
      (mcrcOf d ≠ s.mcrc ch o.q d → o.kind ≠ .preload → o.tries = 0 → exec (.fillInstall ch id err) s =
        .next (s.onOp ch o.id fun o => { o with phase := .wantQueue, tries := 1, bursts := 0 })) ∧
      (mcrcOf d ≠ s.mcrc ch o.q d → o.kind ≠ .preload → o.tries ≠ 0 →
        exec (.fillInstall ch id err) s = .next (startRecompute ch o s))) ∧
    ∀ (way : Nat) (b : Rebuild), (s.quad q).rebuilds.find? (·.id = way) = some b → b.left = 0 →
      exec (.recomputeComplete q way) s = .next (rebuilt q b s) ∧
      (b.id < 2048 → (∀ c ∈ quadChans q, ∀ o ∈ (s.chan c).ops, o.way ≠ some b.id) →
      ∃ t, exec (.recomputeComplete q way) s = .next t ∧
        (t.quad q).way b.id = { (s.quad q).way b.id with st := .dirty, data := b.data } ∧
        (t.quad q).rebuilds = (s.quad q).rebuilds.filter (·.id ≠ b.id) ∧ t.dram = s.dram)

/-- R382 to R384 and R386 to R388: GO starts an operation of its code over its range, under the address map of that moment,
when none runs and the cache is not in bypass; a reserved code, and ALL with a preload, give RESULT 1; its end gives RESULT
0, or 2 where a lock was refused. The bypass of a quad is entered once its DIRTY lines have left, and left on request. That
RESULT 3 comes ahead of RESULT 1 is the model's choice (log entry 31). -/
def Obligations.CacheMaintenanceStartsAndEnds : Prop :=
  ∀ (s : State) (q : Fin 4), s.clocked →
    (∀ (c : Instr) (op : Nat), (c, op) ∈ [(Instr.clean q, 0), (.invalidate q, 1), (.preload q, 2), (.preloadLock q, 3),
        (.unlock q, 4), (.reservedOperation q, max 5 (s.cf (QD_MCOPCTL_OP q)))] → s.canonical →
      let u := s.setCf (QD_MCOPCTL_OP q) op
      let all := s.on (QD_MCOPCTL_ALL q)
      let bypass := (s.quad q).bypStep ≠ 0 ∨ s.on (QD_MCCTL_BYPASS q) = true
      let wrong := 4 < op ∨ all = true ∧ (op = 2 ∨ op = 3)
      ((s.quad q).mop.isSome → exec c s = .next u) ∧
      ((s.quad q).mop = none → bypass → exec c s = .next (u.setSt (QD_MCOPSTAT_RESULT q) 3)) ∧
      ((s.quad q).mop = none → ¬ bypass → wrong → exec c s = .next (u.setSt (QD_MCOPSTAT_RESULT q) 1)) ∧
      ((s.quad q).mop = none → ¬ bypass → ¬ wrong → exec c s =
        .next (u.onQuad q fun x => { x with mop := some ⟨op, all, s.mopLo q, s.mopHi q, 4 * q, 0, false, s.table⟩ }))) ∧
    (∀ o : CacheOp, (s.quad q).mop = some o → s.mopOver q o → (s.quad q).bypStep = 0 →
      exec (.mcOperationDone q) s = .next ((s.setSt (QD_MCOPSTAT_RESULT q) (if o.refused then 2 else 0)).onQuad q fun x =>
        { x with mop := none, bypStep := if s.on (QD_MCCTL_BYPASS q) then 1 else 0 })) ∧
    (s.canonical → (QD_MCCTL_BYPASS q).addr ∉ s.frozen → (s.quad q).bypStep = 0 →
      ∃ t, exec (.cacheBypassEntry q) s = .next t ∧ t.cf (QD_MCCTL_BYPASS q) = 1 ∧
        (t.quad q).bypStep = (if (s.quad q).mop = none then 1 else 0) ∧
        t = { s with cfg := t.cfg, parErr := t.parErr, quads := t.quads }) ∧
    ((s.quad q).bypStep = 3 → s.cacheFlushed q → exec (.bypassEntryDone q) s =
      .next (s.onQuad q fun x => { x with bypStep := if s.on (QD_MCCTL_BYPASS q) then 4 else 0 })) ∧
    (s.canonical → (QD_MCCTL_BYPASS q).addr ∉ s.frozen →
      ∃ t, exec (.cacheBypassExit q) s = .next t ∧ t.cf (QD_MCCTL_BYPASS q) = 0 ∧
        (t.quad q).bypStep = (if (s.quad q).bypStep = 4 then 0 else (s.quad q).bypStep) ∧
        t = { s with cfg := t.cfg, parErr := t.parErr, quads := t.quads })

/-- R393, R396 and R391: START of a pass that does not run clears the peck, stamps it and shows RUNNING; a range with its
end below its start ends at once; START has no effect while RUNNING. ABORT takes the pass's lines from the perch queues, which
is the model's choice for the lines not yet admitted (log entry 32); a pass that is done shows DONE or ABORTED, FINAL, and the
event. A channel at rest gives idle permission. -/
def Obligations.ScrubPassesStartAndEnd : Prop :=
  ∀ (s : State) (q : Fin 4), s.canonical → s.clocked →
    let running (t : State) : Bool := (t.quad q).scrub.running
    let shows (t : State) (n : Nat) : Prop := (QD_SCRSTAT_STATE q).addr ∉ s.frozen → t.st (QD_SCRSTAT_STATE q) = n
    let final (t : State) (aborted : Bool) : Prop := running t = false ∧ shows t (if aborted then 3 else 2) ∧
      ((QD_PKSTAT_FINAL q).addr ∉ s.frozen → t.st (QD_PKSTAT_FINAL q) = 1 ∧ t.st (QD_PKSTAT_ABORTED q) = b2n aborted) ∧
      (FT_STSEVT_EVT.addr ∉ s.frozen → natBit (t.st FT_STSEVT_EVT) Evt.scrub.bit = true)
    let quiet (t : State) : Prop := t = { s with stat := t.stat, news := t.news, quads := t.quads, chans := t.chans } ∧
      ∀ k, k ≠ q.val → t.quad k = s.quad k
    (running s = false → s.scrubLo q ≤ s.scrubHi q →
      ∃ t, exec (.scrubStart q) s = .next t ∧ running t = true ∧ (t.quad q).scrub.aborting = false ∧ shows t 1 ∧
        (t.quad q).scrub.lo = s.scrubLo q ∧ (t.quad q).scrub.hi = s.scrubHi q ∧ t.chans = s.chans ∧ quiet t ∧
        ((QD_PKSLINE_LINE q).addr ∉ s.frozen → t.st (QD_PKSLINE_LINE q) = s.tb.last.line.toNat) ∧
        t.st (QD_PKSKIPST_COUNT q) = 0 ∧ t.st (QD_PKSKIPHD_COUNT q) = 0) ∧
    (running s = false → s.scrubHi q < s.scrubLo q →
      ∃ t, exec (.scrubStart q) s = .next t ∧ final t false ∧ t.chans = s.chans ∧ quiet t) ∧
    (running s = true → exec (.scrubStart q) s = .next s) ∧
    (running s = true → ∃ t, exec (.scrubAbort q) s = .next t ∧ (t.quad q).scrub.aborting = true ∧ running t = true ∧
      (∀ c ∈ quadChans q, t.perch c 30 = (s.perch c 30).filter (·.kind ≠ .scrub)) ∧ quiet t) ∧
    (running s = false → exec (.scrubAbort q) s = .next s) ∧
    (running s = true →
      (∀ c ∈ quadChans q, ((s.quad q).scrub.aborting = true ∨ s.walked c = true) ∧ s.scrubOut c = 0) →
      ∃ t, exec (.scrubPassEnd q) s = .next t ∧ final t (s.quad q).scrub.aborting ∧ t.chans = s.chans ∧ quiet t) ∧
    ∀ ch : Fin 16, s.flt.haltStep = 0 →
      ∃ t, exec (.idlePermission ch) s = .next t ∧ t = { s with chans := t.chans } ∧
        (∀ c, c ≠ ch.val → t.chan c = s.chan c) ∧
        ∀ d : Duty, (t.chan ch).perm d = if s.idleOn ch d && decide ((s.chan ch).idleAt + 16 * s.idleWait ch d ≤ s.now) &&
          !(s.chan ch).portsWait then (s.chan ch).perm d ||| 2 else (s.chan ch).perm d

/-- R413, R415 to R417: a window that closes outside a sweep moves its bit's target by one step against the sign of the
difference, where that exceeds the threshold, or at the end of the range counts in LIMITS and asks for a retrain with cause 1.
Sweeps start on every bit, by period or by request; R412: a retrain is booked once, a request while one is pending adding
nothing; that one in PAUSE, or of a channel RETIRED or in TEST, is ignored is the model's choice (log entry 33); R418: fills
are booked for a stale rank. -/
def Obligations.WindowsMoveReadTargets : Prop :=
  (∀ (s : State) (ch : Fin 16) (bit : Fin 36) (e l : Nat),
    let n := 2 ^ s.cf (QD_CALCFG_WIN (quadOf ch))
    let thr := n >>> s.cf (QD_CALCFG_THR (quadOf ch))
    let b := s.bitCal ch bit
    s.calWorks ch (bitRank bit) → s.trackedRd ch bit → e ≤ n → l ≤ n → b.sweeping = false →
    ∃ t, exec (.calWindowClose ch bit e l) s = .next t ∧
      (t.bitCal ch bit).tgtRd = (if l > e + thr ∧ 0 < b.tgtRd then b.tgtRd - 1
        else if e > l + thr ∧ b.tgtRd < 511 then b.tgtRd + 1 else b.tgtRd) ∧
      (t.bitCal ch bit).windows = (if (s.cal ch).sweepOn then 0 else b.windows + 1) ∧
      (∀ i, i ≠ bit.val → t.bitCal ch i = s.bitCal ch i) ∧
      (e ≤ l + thr → l ≤ e + thr → t = { s with cals := t.cals, brk := t.brk }) ∧
      (l > e + thr ∧ b.tgtRd = 0 ∨ e > l + thr ∧ 511 ≤ b.tgtRd →
        ((t.cal ch).booked.any (·.1 == 1) = true) ∧
        ((s.cal ch).booked.any (·.1 == 1) = false → (t.cal ch).rtCause = 1 ∧ (1, 0) ∈ (t.cal ch).booked) ∧
        (s.canonical → (QD_CALEVT_LIMITS (quadOf ch)).addr ∉ s.frozen → t.st (QD_CALEVT_LIMITS (quadOf ch)) =
          min (QD_CALEVT_LIMITS (quadOf ch)).max (s.st (QD_CALEVT_LIMITS (quadOf ch)) + 1))) ∧
      t.chans = s.chans ∧ t.dram = s.dram ∧ t.cfg = s.cfg) ∧
  (∀ (s : State) (ch : Fin 16), s.calWorks ch 0 → s.calWorks ch 1 → s.cf (QD_CALCFG_MPER (quadOf ch)) ≠ 0 →
    (∀ i : Fin 36, s.trackedRd ch i → s.cf (QD_CALCFG_MPER (quadOf ch)) ≤ (s.bitCal ch i).windows) →
    exec (.periodicSweep ch) s = .next (startSweep ch s) ∧
      ((s.cal ch).sweepOn = false → ∀ i : Fin 36, ((startSweep ch s).bitCal ch i).sweeping = true ∧
        ((startSweep ch s).bitCal ch i).h = s.cf (QD_CALCFG_TRKOFS (quadOf ch)) + 1)) ∧
  (∀ (s : State) (q : Fin 4), s.clocked → s.paused q = false →
    ∃ t, exec (.sweep q) s = .next t ∧ t = { s with cals := t.cals } ∧
      ∀ c < 16, t.cal c = if c ∈ quadChans q ∧ (s.chan c).inService then (startSweep c s).cal c else s.cal c) ∧
  (∀ (s : State) (ch : Fin 16), s.clocked →
    let busy := (s.cal ch).booked.any (·.1 == 1) = true
    let out := (s.chan ch).state = .retired ∨ (s.chan ch).state = .test
    (s.paused (quadOf ch) = true ∨ busy ∨ out → exec (.retrain ch) s = .next s) ∧
    (s.paused (quadOf ch) = false → ¬ busy → ¬ out → ∃ t, exec (.retrain ch) s = .next t ∧
      (t.cal ch).booked = (s.cal ch).booked ++ [(1, 0)] ∧ (t.cal ch).rtCause = 4 ∧ t = { s with cals := t.cals })) ∧
  ∀ (s : State) (ch : Fin 16) (r : Fin 2), s.calWorks ch r → (s.chan ch).inService →
    s.cf (QD_CALCFG2_STALE (quadOf ch)) ≠ 0 →
    (s.cal ch).closedAt.getD r 0 + s.usCc (16 * s.cf (QD_CALCFG2_STALE (quadOf ch))) ≤ s.now →
    exec (.staleExpiry ch r) s = .next (bookStep ch 6 r s) ∧ (6, r.val) ∈ ((bookStep ch 6 r s).cal ch).booked

/-- R419 to R421, R423 and R429: the intervals of a quad book their steps; a count of the oscillator, and a compare, end
theirs; a ZQ start, its latch and the time between them, the commands when the choice of the engine falls on them (R36).
PAUSE withdraws the bookings of the quad's channels that are not yet granted and discards their windows; its end restarts
every interval. -/
def Obligations.CalibrationIntervalsBookTheirSteps : Prop :=
  (∀ (s : State) (ch : Fin 16) (r : Fin 2),
    let q := quadOf ch
    let ends (c : Instr) (f : Rank → Rank) : Prop := ∃ t, exec c s = .next t ∧ (t.cal ch).step = none ∧
      (t.cal ch).lines = [] ∧ t.rank ch r = f (s.rank ch r) ∧ (t.chan ch).cmdAt = s.now + s.ck ∧
      (∀ c, c ≠ ch.val → t.chan c = s.chan c) ∧
      t = { s with chans := t.chans, cals := t.cals, stat := t.stat, news := t.news, brk := t.brk }
    (s.calBooks ch → s.cf (QD_CALPER_OSCINT q) ≠ 0 →
      (s.cal ch).oscAt.getD r 0 + s.usCc (100 * s.cf (QD_CALPER_OSCINT q)) ≤ s.now →
      ∃ t, exec (.oscillatorInterval ch r) s = .next t ∧ (4, r.val) ∈ (t.cal ch).booked ∧
        (t.cal ch).oscAt.getD r 0 = s.now ∧ t = { s with cals := t.cals }) ∧
    (s.calBooks ch → s.cf (QD_CALPER_WRCINT q) ≠ 0 →
      (s.cal ch).wrcAt.getD r 0 + s.usCc (1000 * s.cf (QD_CALPER_WRCINT q)) ≤ s.now →
      ∃ t, exec (.writeReadCompareInterval ch r) s = .next t ∧ (5, r.val) ∈ (t.cal ch).booked ∧
        (t.cal ch).wrcAt.getD r 0 = s.now ∧ t = { s with cals := t.cals }) ∧
    (∀ count : BitVec 16, s.chosen ch = some (.osc r) →
      ∃ t, exec (.oscillatorCount ch r count) s = .next t ∧ (t.cal ch).oscRun.getD r none = none ∧
        (t.cal ch).step = none ∧ (s.canonical → (CH_OSC_COUNT ch r).addr ∉ s.frozen → t.st (CH_OSC_COUNT ch r) = count.toNat) ∧
        t.dram = s.dram ∧ t.cfg = s.cfg) ∧
    (∀ pass : List (Bool × Bool), s.clocked → (s.cal ch).step = some (5, r.val) → s.scratchRest ch →
      exec (.writeReadCompareDone ch r pass) s = .next (wrcDone ch r pass s)) ∧
    (s.chosen ch = some (.zqStart r) →
      ends (.zqCalibrationStart ch r) fun k => { k with zqStart := some s.now, zqReady := false }) ∧
    (s.clocked → (s.rank ch r).zqStart.isSome → s.due (s.rank ch r).zqStart (s.tm ch CH_TZQ_ZQCAL) →
      ∃ t, exec (.zqcalExpiry ch r) s = .next t ∧ (t.rank ch r).zqReady = true ∧ (t.rank ch r).zqStart = none ∧
        (2, r.val) ∈ (t.cal ch).booked ∧ t = { s with chans := t.chans, cals := t.cals }) ∧
    (s.chosen ch = some (.zqLatch r) →
      ends (.zqLatch ch r) fun k => { k with zqReady := false, zqLatch := some s.now })) ∧
  (∀ (s : State) (q : Fin 4) (pu pd odt : BitVec 6), s.quadRuns q → s.paused q = false → s.cf (QD_CALPER_ZQINT q) ≠ 0 →
    s.clk.startStep = 0 → (s.quad q).zqAt + s.usCc (1000 * s.cf (QD_CALPER_ZQINT q)) ≤ s.now →
    ∃ t, exec (.zqInterval q pu pd odt) s = .next t ∧ (t.quad q).zqAt = s.now ∧
      (t.quad q).codeTgt = #v[pu.toNat, pd.toNat, odt.toNat] ∧
      (∀ c ∈ quadChans q, s.calBooks c → ∀ r < 2, (3, r) ∈ (t.cal c).booked) ∧
      t = { s with quads := t.quads, cals := t.cals }) ∧
  ∀ (s : State) (q : Fin 4), s.canonical → s.clocked → (QD_CALCTL_PAUSE q).addr ∉ s.frozen →
    (s.paused q = false → ∃ t, exec (.calPause q) s = .next t ∧ t.paused q = true ∧
      (∀ b ∈ t.brk.posted, (∃ k, b.work = .calStep k) → ∀ c ∈ quadChans q, b.scope ≠ .chan c) ∧
      (∀ c ∈ quadChans q, (t.cal c).sweepOn = false ∧ ∀ e ∈ (t.cal c).booked, e.1 ≤ 2 ∨
        ∃ g ∈ s.brk.granted, g.book.work = .calStep e.1 ∧ g.book.unit = 2 * c + e.2) ∧
      t = { s with cfg := t.cfg, parErr := t.parErr, cals := t.cals, brk := t.brk }) ∧
    (s.paused q = true → ∃ t, exec (.calUnpause q) s = .next t ∧ t.paused q = false ∧ (t.quad q).zqAt = s.now ∧
      (∀ c ∈ quadChans q, (t.cal c).oscAt = Vector.replicate 2 s.now ∧ (t.cal c).wrcAt = Vector.replicate 2 s.now ∧
        (t.cal c).sweepOn = false) ∧
      t = { s with cfg := t.cfg, parErr := t.parErr, cals := t.cals, quads := t.quads }) ∧
    (s.paused q = true → exec (.calPause q) s = .next s) ∧ (s.paused q = false → exec (.calUnpause q) s = .next s)

/-- R426: a delay or a code moves one step towards its target, at most once in 256 cc, while its direction of the data bus
is idle; the move is counted in MOVES, and no other delay moves. -/
def Obligations.DelaysMoveOneStep : Prop :=
  ∀ (s : State), s.canonical →
    let counted (q : Nat) (t : State) : Prop := (QD_CALTAPS_MOVES q).addr ∉ s.frozen →
      t.st (QD_CALTAPS_MOVES q) = min (QD_CALTAPS_MOVES q).max (s.st (QD_CALTAPS_MOVES q) + 1)
    (∀ (ch : Fin 16) (bit : Fin 36), (s.rdField ch bit).addr ∉ s.frozen → s.op.cur < 4 →
      s.calWorks ch (bitRank bit) → s.st (s.rdField ch bit) ≠ (s.bitCal ch bit).tgtRd → (s.bitCal ch bit).tgtRd < 512 →
      (s.bitCal ch bit).movedRd + 256 ≤ s.now → s.laneBusy ch false = false →
      ∃ t, exec (.tapMove (.read ch bit)) s = .next t ∧ (t.bitCal ch bit).movedRd = s.now ∧
        t.st (s.rdField ch bit) = toward (s.st (s.rdField ch bit)) (s.bitCal ch bit).tgtRd ∧
        (∀ i : Fin 36, i ≠ bit → t.st (s.rdField ch i) = s.st (s.rdField ch i)) ∧
        (∀ i : Fin 36, t.st (s.wrField ch i) = s.st (s.wrField ch i)) ∧ counted (quadOf ch) t ∧ t = { s with stat := t.stat, news := t.news, cals := t.cals }) ∧
    (∀ (ch : Fin 16) (bit : Fin 36), (s.wrField ch bit).addr ∉ s.frozen → s.op.cur < 4 →
      s.calWorks ch (bitRank bit) → s.st (s.wrField ch bit) ≠ (s.bitCal ch bit).tgtWr → (s.bitCal ch bit).tgtWr < 512 →
      (s.bitCal ch bit).movedWr + 256 ≤ s.now → s.laneBusy ch true = false →
      ∃ t, exec (.tapMove (.write ch bit)) s = .next t ∧ (t.bitCal ch bit).movedWr = s.now ∧
        t.st (s.wrField ch bit) = toward (s.st (s.wrField ch bit)) (s.bitCal ch bit).tgtWr ∧
        (∀ i : Fin 36, i ≠ bit → t.st (s.wrField ch i) = s.st (s.wrField ch i)) ∧
        (∀ i : Fin 36, t.st (s.rdField ch i) = s.st (s.rdField ch i)) ∧ counted (quadOf ch) t ∧ t = { s with stat := t.stat, news := t.news, cals := t.cals }) ∧
    ∀ (q : Fin 4) (k : Fin 3), s.quadRuns q → s.paused q = false → (s.quad q).codeTgt.getD k 0 < 64 →
      s.st (codeField q k) ≠ (s.quad q).codeTgt.getD k 0 → (s.quad q).codeAt.getD k 0 + 256 ≤ s.now →
      (∀ c ∈ quadChans q, s.laneBusy c false = false ∧ s.laneBusy c true = false) → (codeField q k).addr ∉ s.frozen →
      ∃ t, exec (.tapMove (.code q k)) s = .next t ∧ (t.quad q).codeAt.getD k 0 = s.now ∧
        t.st (codeField q k) = toward (s.st (codeField q k)) ((s.quad q).codeTgt.getD k 0) ∧
        (∀ j : Fin 3, j ≠ k → t.st (codeField q j) = s.st (codeField q j)) ∧ counted q t ∧ t.dram = s.dram ∧ t.chans = s.chans

/-- R438, R446, R363, R448 and R449: writes of 1 acknowledge the classes, and clear the entries of the log and of the scruple
table, whose bits they set; an evacuation asked for makes an ACTIVE channel with a spare at hand WEARING with cause 5, for
which the first spare is reserved, and is otherwise refused. That the spare is reserved at the end of the cc is the model's
choice (log entry 34). -/
def Obligations.FaultWritesActByTheirBits : Prop :=
  ∀ s : State, s.clocked →
    (∀ bits : BitVec 3, exec (.ack bits) s = .next { s with flt := { s.flt with
      unackCorr := s.flt.unackCorr && !bits.getLsbD 0, unackCont := s.flt.unackCont && !bits.getLsbD 1
      unackFatal := s.flt.unackFatal && !bits.getLsbD 2 } }) ∧
    (∀ mask : BitVec 16, ∃ t, exec (.logClear mask) s = .next t ∧ t = { s with flt := { s.flt with log := t.flt.log } } ∧
      ∀ i : Fin 16, t.flt.log[i] = if mask.getLsbD i then { s.flt.log[i] with valid := false } else s.flt.log[i]) ∧
    (∀ mask : BitVec 16, ∃ t, exec (.scrupleClear mask) s = .next t ∧
      t = { s with flt := { s.flt with scruple := t.flt.scruple } } ∧
      ∀ i : Fin 16, t.flt.scruple[i] =
        if mask.getLsbD i then { s.flt.scruple[i] with valid := false } else s.flt.scruple[i]) ∧
    ∀ ch : Fin 16,
      (s.wears ch → s.firstSpare ≠ none →
        ∃ t, exec (.evac ch) s = .next t ∧
          t.chan ch = { s.chan ch with state := .wearing, wearAt := some s.now, reserveDue := true } ∧
          ((CH_WEARSTAT_CAUSE ch).addr ∉ s.frozen → t.st (CH_WEARSTAT_CAUSE ch) = 5) ∧
          (∀ c, c ≠ ch.val → t.chan c = s.chan c) ∧
          t = { s with cfg := t.cfg, parErr := t.parErr, stat := t.stat, news := t.news, chans := t.chans }) ∧
      ((s.chan ch).reserveDue → ∀ sp, s.firstSpare = some sp → (s.chan sp).spareInTest = false →
        (settleReserve ch s).chan ch = { s.chan ch with reserve := some sp, reserveDue := false }) ∧
      (s.wears ch = false ∨ s.firstSpare = none →
        ∃ t, exec (.evac ch) s = .next t ∧ (FT_EVSTAT_REFUSED.addr ∉ s.frozen → t.st FT_EVSTAT_REFUSED = 1) ∧
          (∀ g : Field, g.addr ≠ FT_EVSTAT_REFUSED.addr → t.st g = s.st g) ∧
          t = { s with cfg := t.cfg, parErr := t.parErr, stat := t.stat, news := t.news })

/-- R450, R451 and R453: the WEARING channel that comes first starts its evacuation with its pointer at 0; at the swap the
spare takes the place of the channel in the table and serves, and the channel is retired; a drain that outlasts 20 µs lets
lines in again and is booked anew. A block reset under way swaps nothing (R176). -/
def Obligations.EvacuationsStartAndSwap : Prop :=
  ∀ s : State, s.canonical → s.intakeRuns →
    (∀ c sp : Nat, s.nextEvac = some c → (s.chan c).reserve = some sp → sp < 16 → sp ≠ c → s.mnt.evac = none →
      s.clk.startStep = 0 → s.clk.retStep = 0 → s.clk.blkStep = 0 → (s.port 30).state ≠ .halted → (s.chan sp).test = 0 →
      ∃ t e, exec .evacuationStart s = .next t ∧ (t.chan c).state = .evacuating ∧ (t.chan c).reserve = none ∧
        t.mnt.evac = some e ∧ e.src = c ∧ e.spare = sp ∧ e.next = 0 ∧
        (e.step = 1 ∨ e.step = 2 ∨ e.step = 3 ∧ t.st (CH_EVPTR_Q c) = s.lines) ∧
        ((CH_EVPTR_Q c).addr ∉ s.frozen → t.st (CH_EVPTR_Q c) = 0) ∧
        (∀ d, d ≠ c → d ≠ sp → t.chan d = s.chan d) ∧
        t = { s with chans := t.chans, stat := t.stat, mnt := t.mnt, brk := t.brk }) ∧
    ∀ e : Evac, s.mnt.evac = some e → e.step = 4 → s.evacuates e → e.src < 16 → e.spare < 16 → e.src ≠ e.spare →
      (s.clk.blkStep = 0 → s.emptied e.src → s.now < e.mark + s.usCc 20 → GL_L2P0_LOG.addr ∉ s.frozen → GL_L2P1_LOG.addr ∉ s.frozen →
        ∃ t, exec .channelSwap s = .next t ∧ (t.chan e.src).state = .retired ∧ (t.chan e.spare).state = .active ∧
          t.mnt.evac = none ∧
          (∀ i < s.logicals, t.tableAt i = if s.tableAt i = e.src then e.spare else s.tableAt i) ∧ t.dram = s.dram ∧
          t.ports = s.ports) ∧
      (e.mark + s.usCc 20 ≤ s.now →
        ∃ t, exec .swapDrainTimeout s = .next t ∧ t.mnt.evac = some { e with step := 3 } ∧
          t.chan e.src = { s.chan e.src with admitStop := false } ∧ (∀ d, d ≠ e.src → t.chan d = s.chan d) ∧
          (FT_EVSTAT_RETRY.addr ∉ s.frozen →
            t.st FT_EVSTAT_RETRY = min FT_EVSTAT_RETRY.max (s.st FT_EVSTAT_RETRY + 1)) ∧
          t = { s with mnt := t.mnt, chans := t.chans, stat := t.stat, news := t.news, brk := t.brk })

/-- R470, R471, R473 and R474: a LOAD copies the staging into the slot or gives the first code that refuses it, and zeroes the
staging either way; a RETIRE invalidates the slot or is refused; the material is erased once no decrypt under it is left. -/
def Obligations.KeysAreLoadedRetiredAndErased : Prop :=
  ∀ s : State, s.clocked →
    (∃ t, exec .load s = .next t ∧
      t.keys.result = (if s.keys.void ∨ s.on GL_CRYPT_BYPASS then 3
        else if (s.keys.slot (s.cf KY_CTL_SLOT)).valid ∨ (s.keys.slot (s.cf KY_CTL_SLOT)).erase then 1
        else if s.staged 0 = s.staged 8 then 2 else 0) ∧
      (t.keys.result = 0 →
        t.keys.slot (s.cf KY_CTL_SLOT) = ⟨true, s.staged 0, s.staged 8, keyCheck (s.staged 0), false⟩ ∧
        t.keys.slot (1 - s.cf KY_CTL_SLOT) = s.keys.slot (1 - s.cf KY_CTL_SLOT) ∧
        t.keys = { s.keys with result := 0, slots := t.keys.slots, wvalid := true
                               wslot := if s.keys.wvalid then s.keys.wslot else s.cf KY_CTL_SLOT }) ∧
      (t.keys.result ≠ 0 → t.keys = { s.keys with result := t.keys.result }) ∧
      (s.canonical → ∀ i < 16, (KY_STG_KEY i).addr ∉ s.frozen → t.cf (KY_STG_KEY i) = 0) ∧
      t = { s with keys := t.keys, cfg := t.cfg, parErr := t.parErr }) ∧
    (∃ t, exec .retire s = .next t ∧
      t.keys.result = (if s.keys.void ∨ s.on GL_CRYPT_BYPASS then 3
        else if (s.keys.slot (s.cf KY_CTL_SLOT)).valid = false ∨
          (s.keys.wvalid ∧ s.keys.wslot = s.cf KY_CTL_SLOT) ∨ s.keys.rkState = 1 then 4 else 0) ∧
      (t.keys.result = 0 →
        t.keys.slot (s.cf KY_CTL_SLOT) = { s.keys.slot (s.cf KY_CTL_SLOT) with valid := false, kcv := 0, erase := true } ∧
        t.keys.slot (1 - s.cf KY_CTL_SLOT) = s.keys.slot (1 - s.cf KY_CTL_SLOT) ∧
        t.keys = { s.keys with result := 0, slots := t.keys.slots, rkState := 0 }) ∧
      (t.keys.result ≠ 0 → t.keys = { s.keys with result := t.keys.result }) ∧ t = { s with keys := t.keys }) ∧
    ∀ i : Fin 2,
      ((s.keys.slot i).erase → s.decrypts i = false →
        ∃ t, exec (.keyErase i) s = .next t ∧ t.keys.slot i = .empty ∧ t.keys.slot (1 - i.val) = s.keys.slot (1 - i.val) ∧
          t.keys = { s.keys with slots := t.keys.slots } ∧ t = { s with keys := t.keys }) ∧
      ((s.keys.slot i).erase = false ∨ s.decrypts i → exec (.keyErase i) s = .next s)

/-- R475 and R479: START of an idle pass switches the write slot and sets the pointers to 0, or is refused; it resumes a
paused one, outside take-preservation mode (as the model reads R479: log entry 35), and has no effect on a running one; ABORT
pauses; once every walked channel is at its end the old slot is retired, the pass is counted and its event raised. -/
def Obligations.RekeyPassesStartPauseAndEnd : Prop :=
  ∀ s : State, s.canonical → s.clocked →
    (s.keys.rkState = 1 → exec .rekeyStart s = .next s ∧
      exec .rekeyAbort s = .next { s with keys := { s.keys with rkState := 2 } }) ∧
    (s.keys.rkState = 2 → exec .rekeyStart s = .next { s with keys :=
      if s.flt.take then { s.keys with result := 5 } else { s.keys with rkState := 1, result := 0 } }) ∧
    (s.keys.rkState ≠ 1 → exec .rekeyAbort s = .next s) ∧
    (s.keys.rkState = 0 →
      (s.keys.void ∨ s.on GL_CRYPT_BYPASS → exec .rekeyStart s = .next { s with keys := { s.keys with result := 3 } }) ∧
      (s.keys.void = false → s.on GL_CRYPT_BYPASS = false →
        (s.keys.wvalid = false ∨ (s.keys.slot (1 - s.keys.wslot)).valid = false ∨ s.flt.take →
          exec .rekeyStart s = .next { s with keys := { s.keys with result := 5 } }) ∧
        (s.keys.wvalid → (s.keys.slot (1 - s.keys.wslot)).valid → s.flt.take = false →
          ∃ t, exec .rekeyStart s = .next t ∧
            t.keys = { s.keys with result := 0, rkState := 1, rkOld := s.keys.wslot, wslot := 1 - s.keys.wslot } ∧
            (∀ c < 16, t.chan c = { s.chan c with rkNext := 0, rkDone := [] } ∧
              ((CH_RKPTR_Q c).addr ∉ s.frozen → t.st (CH_RKPTR_Q c) = 0)) ∧
            t = { s with keys := t.keys, chans := t.chans, stat := t.stat, news := t.news }))) ∧
    (s.keys.rkState = 1 → s.rekeyOver → s.keys.rkOld < 2 →
      ∃ t, exec .rekeyPassEnd s = .next t ∧
        t.keys.slot s.keys.rkOld = { s.keys.slot s.keys.rkOld with valid := false, kcv := 0, erase := true } ∧
        t.keys.slot (1 - s.keys.rkOld) = s.keys.slot (1 - s.keys.rkOld) ∧
        t.keys = { s.keys with slots := t.keys.slots, rkState := 0 } ∧
        (KY_RKSTAT_PASSES.addr ∉ s.frozen →
          t.st KY_RKSTAT_PASSES = min KY_RKSTAT_PASSES.max (s.st KY_RKSTAT_PASSES + 1)) ∧
        (FT_STSEVT_EVT.addr ∉ s.frozen → t.st FT_STSEVT_EVT = s.st FT_STSEVT_EVT ||| 2 ^ Evt.rekey.bit) ∧
        t = { s with keys := t.keys, stat := t.stat, news := t.news }) ∧
    (s.keys.rkState ≠ 1 ∨ s.rekeyOver = false → exec .rekeyPassEnd s = .next s)

/-- R480, R482, R484 and R487: each TAP instruction is selected by Update-IR, and TRST_N selects IDCODE in Test-Logic-Reset; a
quiesce starts or takes the pins at once, and ends with another instruction; the secure instructions stop the block, and
without RSI_CK clear the keys at once; nothing is selected in PORST_N. Between commands the controller of IEEE 1149.1 rests in
Test-Logic-Reset, Update-IR or Update-DR (presumed from that standard: log entry 50). -/
def Obligations.TapInstructionsAreSelected : Prop :=
  ∀ s : State,
    let scanned : TapCtl := (scanTms true 6).foldl (fun c m => c.next m) s.tap.ctl
    (s.tap.ctl = .testLogicReset ∨ s.tap.ctl = .updateIr ∨ s.tap.ctl = .updateDr → scanned = .updateIr) ∧
    (∀ p ∈ [(Instr.trstNAssert, TapInstr.idcode, TapCtl.testLogicReset), (.idcode, .idcode, scanned),
        (.samplePreload, .sample, scanned), (.chtest, .chtest, scanned), (.ijtagPub, .ijtagPub, scanned),
        (.bypass, .bypass, scanned)],
      (s.porst = false → exec p.1 s =
        .next (if p.1 = .trstNAssert then { s with tap := { s.tap with ctl := .testLogicReset } } else s)) ∧
      (s.porst → s.tap.quiesce = 0 ∨ s.tap.leaving →
        exec p.1 s = .next { s with tap := { s.tap with instr := p.2.1, ctl := p.2.2 } }) ∧
      (s.porst → s.tap.quiesce ≠ 0 → s.tap.leaving = false →
        ∃ t, exec p.1 s = .next t ∧ t.tap.instr = p.2.1 ∧ t.tap.ctl = p.2.2 ∧
          (t.tap.quiesce = 0 ∨ (t.tap.quiesce = 5 ∧ t.tap.leaving)) ∧ t.keys = s.keys ∧ t.dram = s.dram)) ∧
    (∀ p ∈ [(Instr.extest, TapInstr.extest), (.clamp, .clamp), (.highz, .highz)],
      (s.porst = false → exec p.1 s = .next s) ∧
      (s.porst → s.tap.leaving = false → s.tap.quiesce ≠ 0 →
        exec p.1 s = .next { s with tap := { s.tap with instr := p.2, ctl := scanned } }) ∧
      (s.porst → s.tap.leaving ∨ s.tap.quiesce = 0 →
        (s.flt.haltStep ≠ 0 ∨ s.rsiAlive = false ∨ s.clk.startStep ≠ 0 ∨ s.clk.retStep ≠ 0 ∨ s.clk.blkStep ≠ 0 →
          exec p.1 s = .next { s with
            tap := { s.tap with instr := p.2, ctl := scanned, quiesce := 5, leaving := false }
            pins := { s.pins with dmReady := false } }) ∧
        (s.flt.haltStep = 0 → s.rsiAlive → s.clk.startStep = 0 → s.clk.retStep = 0 → s.clk.blkStep = 0 →
          ∃ t, exec p.1 s = .next t ∧ t.tap.instr = p.2 ∧ t.tap.ctl = scanned ∧ t.tap.leaving = false ∧
            (t.tap.quiesce = 1 ∨ t.tap.quiesce = 2 ∨ t.tap.quiesce = 5) ∧ t.keys = s.keys ∧ t.dram = s.dram))) ∧
    (∀ p ∈ [(Instr.ijtagSec, TapInstr.ijtagSec), (.scanmode, .scanmode)],
      (s.porst = false → exec p.1 s = .next s) ∧
      (s.porst → s.tap.secStep ≠ 0 →
        exec p.1 s = .next { s with tap := { s.tap with instr := p.2, ctl := scanned } }) ∧
      (s.porst → s.tap.secStep = 0 →
        (s.rsiAlive = false → ∃ t, exec p.1 s = .next t ∧ t.haltedBit ∧ t.keys.void ∧
          t.keys.slots = Vector.replicate 2 .empty ∧ t.keys.rkState = 0 ∧ t.keys.keyzLater ∧
          t = { s with
            tap := { s.tap with instr := p.2, ctl := scanned, secStep := 6, quiesce := 0, leaving := false }
            flt := { s.flt with testStop := true, haltStep := 4 }
            keys := t.keys, cfg := t.cfg, parErr := t.parErr }) ∧
        (s.rsiAlive → ∃ t, exec p.1 s = .next t ∧
          t.tap = { s.tap with instr := p.2, ctl := scanned, secStep := 1, quiesce := 0, leaving := false } ∧
          t.flt.testStop ∧ t.flt.haltStep = 2 ∧ t.keys = s.keys ∧ t.dram = s.dram ∧
          (s.flt.haltStep = 0 → t.pins.dmReady = false ∧ t.pins.ingHold = 0b1111))))

/-- R486, R488 and R489: a test is accepted or refused; ABORT stops it, a DBIST once its started lines are over; when step 4
ends, a DBIST having written and read every line, its errors are recorded; and CHTEST with neither GO nor ABORT keeps MODE and
LOSSOK. -/
def Obligations.ChannelTestsStartStopAndReport : Prop :=
  ∀ (s : State) (ch : Fin 16), s.canonical → s.clocked →
    let w := dropHeld (CH_TSTCTL_GO ch).addr s
    (∀ dbist lossok : Bool,
      let x := s.chan ch
      let spare := x.state = .spare ∧ s.partner ch = none ∧ ∀ c < 16, (s.chan c).reserve ≠ some ch.val
      let serving := (x.state = .active ∨ x.state = .wearing) ∧ lossok ∧ s.flt.take = false
      let free := (∀ c < 16, (s.chan c).test = 0) ∧ (s.quadClk (quadOf ch)).wait = false ∧ s.op.step = 0 ∧
        s.tap.quiesce = 0 ∧ s.flt.haltStep = 0 ∧ s.clk.blkStep = 0
      ((spare ∨ serving) → free → ∃ t, exec (.channelTestGo ch dbist lossok) s = .next t ∧
        ((t.chan ch).test = 1 ∨ (t.chan ch).test = 2) ∧ (t.chan ch).testDbist = dbist ∧
        (t.chan ch).testOp = s.op.cur ∧ (t.chan ch).testStop = false) ∧
      (¬((spare ∨ serving) ∧ free) → ∃ t, exec (.channelTestGo ch dbist lossok) s = .next t ∧
        ((CH_TSTSTAT_REFUSED ch).addr ∉ s.frozen → t.st (CH_TSTSTAT_REFUSED ch) = 1) ∧
        t = { w with cfg := t.cfg, parErr := t.parErr, stat := t.stat, news := t.news })) ∧
    ((s.chan ch).test = 0 ∨ 5 ≤ (s.chan ch).test → exec (.channelTestAbort ch) s = .next w) ∧
    (1 ≤ (s.chan ch).test → (s.chan ch).test ≤ 4 → ∃ t, exec (.channelTestAbort ch) s = .next t ∧
      ((s.chan ch).test ≠ 4 ∨ (∀ o ∈ (s.chan ch).ops, o.kind = .test → o.bursts = 0) →
        (t.chan ch).test = 5 ∧ (t.chan ch).testStop = false) ∧
      ((s.chan ch).test = 4 → (∃ o ∈ (s.chan ch).ops, o.kind = .test ∧ o.bursts ≠ 0) →
        (t.chan ch).test = 4 ∧ (t.chan ch).testStop ∧ ∀ o ∈ (t.chan ch).ops, o.kind = .test → o.bursts ≠ 0)) ∧
    (∀ (errs : BitVec 16) (fbit : BitVec 5),
      (s.chan ch).test = 3 ∨ ((s.chan ch).test = 4 ∧ (s.chan ch).testStop = false ∧
        (s.chan ch).testAt = 2 * s.lineCount ch ∧ ∀ o ∈ (s.chan ch).ops, o.kind ≠ .test) →
      ∃ t, exec (.channelTestEnd ch errs fbit) s = .next t ∧ (t.chan ch).test = 5 ∧ (t.chan ch).testStop = false ∧
        ((CH_TSTSTAT_ERRS ch).addr ∉ s.frozen →
          t.st (CH_TSTSTAT_ERRS ch) = errs.toNat ∧ t.st (CH_TSTSTAT_PASS ch) = (if errs = 0 then 1 else 0) ∧
          t.st (CH_TSTSTAT_FBIT ch) = if errs = 0 then 0 else fbit.toNat)) ∧
    ∀ dr : BitVec 32,
      (s.tap.instr ≠ .chtest → exec (.chtestUpdate dr) s = .next s) ∧
      (s.tap.instr = .chtest → ∃ t, exec (.chtestUpdate dr) s = .next t ∧ t.tap.dr = dr ∧
        (dr.getLsbD 6 = false → dr.getLsbD 7 = false →
          ((CH_TSTCTL_MODE (natBits dr.toNat 0 4)).addr ∉ s.frozen →
            t.cf (CH_TSTCTL_MODE (natBits dr.toNat 0 4)) = b2n (dr.getLsbD 4) ∧
            t.cf (CH_TSTCTL_LOSSOK (natBits dr.toNat 0 4)) = b2n (dr.getLsbD 5)) ∧
          t = { dropHeld (CH_TSTCTL_GO (natBits dr.toNat 0 4)).addr s with
            tap := { s.tap with dr := dr, ctl := t.tap.ctl }, cfg := t.cfg, parErr := t.parErr }))

/-- R484 and R485: from the grant of secure test access on, and from the moment its stop has cleared the key material, no
command and no cc brings a key back: both slots are empty, VOID is 1 and no rekey pass stands; the reset state is such a
state. -/
def Obligations.KeysAreGoneBeforeSecureAccess : Prop :=
  let gone (s : State) : Prop :=
    (s.tap.secStep = 6 ∨ (s.flt.testStop ∧ (s.flt.haltStep = 3 ∨ s.flt.haltStep = 4))) →
      s.keys.void ∧ s.keys.rkState = 0 ∧ s.keys.slots = Vector.replicate 2 .empty
  (∀ s t : State, gone s → step s = .next t → gone t) ∧ gone State.reset

/-- R495, R503 and R505: what START, KICK, PAUSE, RESUME and ABORT do in each state of a DMA channel, the fetch again after
POLL µs in WAIT, and the end of a drain. A fetch asked for while one is under way is owed; RESUME fetches again unless the cause
of the halt stands, in which case the channel halts at once again. A fetch waits for the turn of R497 at AR; PAUSE drops one that waits still, and ABORT every
burst that does. -/
def Obligations.SpillChannelsActByTheirState : Prop :=
  ∀ (s : State) (d : Fin 8), s.clocked →
    let x := s.spill_ d
    let fetch (y : Spill) (a : Nat) : Spill :=
      { y with fetching := true, fetchAddr := a, bursts := y.bursts ++ [(s.axi d false 0 (a / 64 * 64) 0 0 []).waiting] }
    let again : Spill := if x.fetching then { x with kicked := true } else fetch x x.fetchAddr
    let resumed := fetch { x with state := .run, hcause := 0, stopped := false } (s.spCur d)
    let stands : Prop := (x.hcause = 3 ∧ (s.port (if x.hport then 29 else 28)).state = .halted) ∨
      (x.hcause = 4 ∧ ∃ a ∈ s.frozen, 0x4000 + 0x200 * d.val ≤ a ∧ a < 0x4200 + 0x200 * d.val) ∨
      (x.hcause = 6 ∧ s.flt.haltStep ≠ 0)
    let ended : SpillState := if x.stopped ∧ x.descs = [] then .idle else .paused
    let only (t : State) : Prop := (∀ e < 8, e ≠ d.val → t.spill_ e = s.spill_ e) ∧ t = { s with spill := t.spill }
    (x.state ≠ .idle → exec (.spillStart d) s = .next s) ∧
    (x.state = .idle → ∃ t, exec (.spillStart d) s = .next t ∧
      t.spill_ d = fetch { x with state := .run, pos := 0, keptCode := 0, keptBad := 0, stopped := false }
        (s.spCur d) ∧
      (s.canonical → (SP_POS_UNITS d).addr ∉ s.frozen → t.st (SP_POS_UNITS d) = 0) ∧
      t = { s with spill := t.spill, stat := t.stat, news := t.news }) ∧
    (x.state ≠ .wait → exec (.kick d) s = .next s ∧ exec (.pollExpiry d) s = .next s) ∧
    (x.state = .wait →
      (∃ t, exec (.kick d) s = .next t ∧ t.spill_ d = again ∧ only t) ∧
      (s.responds → s.cf (SP_CFG_POLL d) ≠ 0 → x.waitAt + s.usCc (s.cf (SP_CFG_POLL d)) ≤ s.now →
        ∃ t, exec (.pollExpiry d) s = .next t ∧ t.spill_ d = again ∧ only t) ∧
      (s.cf (SP_CFG_POLL d) = 0 ∨ s.now < x.waitAt + s.usCc (s.cf (SP_CFG_POLL d)) → exec (.pollExpiry d) s = .next s)) ∧
    (x.state = .run → ∃ t, exec (.spillPause d) s = .next t ∧ t.spill_ d = Spill.dropWaiting { x with state := .pausing } ∧ only t) ∧
    (x.state = .wait → ∃ t, exec (.spillPause d) s = .next t ∧
      (t.spill_ d = Spill.dropWaiting { x with state := .pausing } ∨
        ((t.spill_ d).state = ended ∧ (t.spill_ d).descs = [] ∧ (t.spill_ d).chunks = [])) ∧
      t = { s with spill := t.spill, cfg := t.cfg, parErr := t.parErr, stat := t.stat, news := t.news }) ∧
    (x.state ≠ .run → x.state ≠ .wait → exec (.spillPause d) s = .next s) ∧
    (x.state = .paused ∨ (x.state = .halted ∧ ¬stands) →
      ∃ t, exec (.spillResume d) s = .next t ∧ t.spill_ d = resumed ∧ only t) ∧
    (x.state = .halted → stands →
      ∃ t, exec (.spillResume d) s = .next t ∧
        (FT_STSEVT_EVT.addr ∉ s.frozen → natBit (t.st FT_STSEVT_EVT) Evt.spill.bit = true) ∧
        t = { s with stat := t.stat, news := t.news }) ∧
    (x.state ≠ .paused → x.state ≠ .halted → exec (.spillResume d) s = .next s) ∧
    (x.state = .idle → exec (.spillAbort d) s = .next s) ∧
    (x.state ≠ .idle → ∃ t, exec (.spillAbort d) s = .next t ∧
      (t.spill_ d = Spill.dropWaiting { x with state := .aborting } ∨
        ((t.spill_ d).state = .idle ∧ (t.spill_ d).descs = [] ∧ (t.spill_ d).chunks = [])) ∧
      t = { s with spill := t.spill, cfg := t.cfg, parErr := t.parErr, stat := t.stat, news := t.news }) ∧
    (∀ b ∈ (Spill.dropWaiting { x with state := .pausing }).bursts, b.write = false → b.sent) ∧
    (∀ b ∈ (Spill.dropWaiting { x with state := .aborting }).bursts, b.sent) ∧
    (x.state = .pausing ∨ x.state = .halting ∨ x.state = .aborting →
      (s.spillDrained d = false → exec (.spillDrainComplete d) s = .next s) ∧
      (s.spillDrained d → ∃ t, exec (.spillDrainComplete d) s = .next t ∧
        (t.spill_ d).state = (if x.state = .pausing then ended else if x.state = .halting then .halted else .idle) ∧
        (t.spill_ d).descs = [] ∧ (t.spill_ d).chunks = [] ∧
        t = { s with spill := t.spill, cfg := t.cfg, parErr := t.parErr, stat := t.stat, news := t.news }))

/-- R494, R495 and R505: a descriptor read with OWN = 0 makes the channel wait, and fetches it again at once where a KICK came
during the read; one that is malformed, that writes to the
DRAM in take-preservation mode, whose port is halted, or whose read failed, halts the channel with its cause; any other is
appended to those in use. -/
def Obligations.DescriptorsAreTakenOrHalt : Prop :=
  ∀ (s : State) (d : Fin 8) (w : BitVec 256) (resp : BitVec 2) (b : Axi), s.axiTakes →
    (s.spill_ d).oldest false = some b → b.kind = 0 →
    let x := { (s.spill_ d).answered false with fetching := false }
    let y := { x with kicked := false }
    let open_ := x.state = .run ∨ x.state = .wait
    let e := parseDesc x.fetchAddr x.nextNum (min x.pos (natBits w.toNat 32 24)) x.keptCode x.keptBad w
    let haltsWith (k : Nat) : Prop := ∃ t, exec (.descriptorFetched d w resp) s = .next t ∧
      (t.spill_ d).state = .halting ∧ (t.spill_ d).hcause = k ∧ (t.spill_ d).descs = x.descs ∧
      t = { s with spill := t.spill, stat := t.stat, news := t.news, flt := t.flt }
    (resp.toNat ≥ 2 → open_ ∨ x.state = .pausing → haltsWith 1) ∧
    (resp.toNat < 2 → open_ →
      (natBit w.toNat 0 = false → ∃ t, exec (.descriptorFetched d w resp) s = .next t ∧
        (let z := { y with state := SpillState.wait, waitAt := s.now }
         t.spill_ d = if x.kicked then
           { z with fetching := true
                    bursts := z.bursts ++ [(s.axi d false 0 (x.fetchAddr / 64 * 64) 0 0 []).waiting] }
           else z) ∧ t = { s with spill := t.spill }) ∧
      (natBit w.toNat 0 → malformed w → haltsWith 2) ∧
      (natBit w.toNat 0 → malformed w = false →
        (e.dir → s.flt.take → haltsWith 5) ∧
        (¬(e.dir ∧ s.flt.take) → (s.port (if e.dir then 29 else 28)).state = .halted → haltsWith 3) ∧
        (¬(e.dir ∧ s.flt.take) → (s.port (if e.dir then 29 else 28)).state ≠ .halted →
          ∃ t y, exec (.descriptorFetched d w resp) s = .next t ∧ (t.spill_ d).descs.getLast? = some y ∧
            { y with wb := 0 } = e ∧ (t.spill_ d).descs.length = x.descs.length + 1 ∧
            (t.spill_ d).nextNum = x.nextNum + 1 ∧ (t.spill_ d).stopped = e.stop ∧
            (x.descs = [] → (t.spill_ d).dir = e.dir) ∧
            ((t.spill_ d).state = .run ∨ (t.spill_ d).state = .halting) ∧ t.dram = s.dram ∧ t.keys = s.keys ∧
            t.ports = s.ports))) ∧
    (resp.toNat < 2 → ¬open_ → ∃ t, exec (.descriptorFetched d w resp) s = .next t ∧ t.spill_ d = y ∧
      t = { s with spill := t.spill }) ∧
    (2 ≤ resp.toNat → ¬(open_ ∨ x.state = .pausing) → ∃ t, exec (.descriptorFetched d w resp) s = .next t ∧
      t.spill_ d = x ∧ t = { s with spill := t.spill })

/-- R496, R497 and R507: the channel whose turn it is issues the read of its next chunk, as an AXI4 read or as a request of
P28; the data that come make the chunk ready, or an error halts the channel with cause 1; an acknowledged write frees the
chunk and counts its units; and the two writebacks end the descriptor, with SPn_CUR at the next of the chain (R504). -/
def Obligations.ChunksAreReadWrittenAndAcknowledged : Prop :=
  ∀ (s : State) (d : Fin 8), s.canonical →
    let x := s.spill_ d
    let fails (t : State) (b : Axi) : Prop := x.state = .run ∨ x.state = .wait ∨ x.state = .pausing →
      (t.spill_ d).state = .halting ∧ (t.spill_ d).hcause = 1 ∧ (t.spill_ d).hdir = b.write ∧
        (t.spill_ d).hkind = b.kind ∧ ((SP_ERRL_ADDR_LO d).addr ∉ s.frozen → t.st (SP_ERRL_ADDR_LO d) = b.addr % 2 ^ 32)
    (∀ e, x.reading = some e → x.waits false = false → s.spillTurn (if e.dir then 2 else 0) = some d.val →
      (e.dir = false → (s.port 28).reqs.any (·.tag.toNat == (s.port 28).freeTag) = false) →
      ∃ t, exec (.chunkIssue d) s = .next t ∧
        (t.spill_ d).chunks = x.chunks ++
          [⟨e.num, e.issued, e.chunkLen e.issued, .reading, if e.dir then 0 else (s.port 28).nextSeq, []⟩] ∧
        (t.spill_ d).descs = x.descs.map (fun (y : Desc) =>
          if y.num = e.num then { y with issued := y.issued + e.chunkLen e.issued } else y) ∧
        (t.spill_ d).bursts = x.bursts ++ (if e.dir then
          [s.axi d false 1 (e.haddr + 64 * e.issued) (e.chunkLen e.issued - 1) 0 []] else []) ∧
        (e.dir → t.ports = s.ports) ∧
        (e.dir = false → ∃ r, (t.port 28).reqs = (s.port 28).reqs ++ [r] ∧
          r.addr = BitVec.ofNat 34 (e.daddr / 64 + e.issued) ∧ r.len = e.chunkLen e.issued - 1 ∧ r.wr = false ∧
          r.stage = .queued)) ∧
    (∀ (b : Axi) (data : List Beat) (resp : BitVec 2), s.axiTakes → x.oldest false = some b → b.kind = 1 →
      data.length = b.len + 1 →
      let mine (c : Chunk) : Bool := c.st == .reading && x.dirOf c
      ∃ t, exec (.axiReadResponse d data resp) s = .next t ∧
        (resp.toNat < 2 → (t.spill_ d).chunks = (x.onChunk mine fun c => { c with st := .ready, data := data }).chunks) ∧
        (resp.toNat ≥ 2 → (t.spill_ d).chunks = (x.onChunk mine fun c => { c with st := .unread }).chunks ∧ fails t b) ∧
        t.dram = s.dram ∧ t.ports = s.ports) ∧
    ∀ (b : Axi) (resp : BitVec 2), s.axiTakes → x.oldest true = some b →
      (resp.toNat ≥ 2 → ∃ t, exec (.axiWriteResponse d resp) s = .next t ∧ fails t b ∧ t.dram = s.dram) ∧
      (∀ c, resp.toNat < 2 → b.kind = 1 → x.chunks.find? (fun c => c.st == .writing && !x.dirOf c) = some c →
        ∃ t, exec (.axiWriteResponse d resp) s = .next t ∧
          (t.spill_ d).chunks = x.chunks.filter (fun y => !(y.desc == c.desc && y.start == c.start)) ∧
          ((SP_UNITSL_COUNT_LO d).addr ∉ s.frozen → (SP_UNITSH_COUNT_HI d).addr ∉ s.frozen →
            t.st (SP_UNITSH_COUNT_HI d) * 2 ^ 32 + t.st (SP_UNITSL_COUNT_LO d) =
              (s.st (SP_UNITSH_COUNT_HI d) * 2 ^ 32 + s.st (SP_UNITSL_COUNT_LO d) + c.units) % 2 ^ 48)) ∧
      (∀ e rest, resp.toNat < 2 → x.descs = e :: rest →
        (b.kind = 2 → ∃ t, exec (.axiWriteResponse d resp) s = .next t ∧
          (t.spill_ d).descs = { e with wb := 2 } :: rest ∧
          (t.spill_ d).bursts = (x.answered true).bursts ++ (if x.state = .run ∨ x.state = .wait ∨ x.state = .pausing then
            [s.writebackBurst d 3 e] else [])) ∧
        (b.kind = 3 → ∃ t, exec (.axiWriteResponse d resp) s = .next t ∧
          (t.spill_ d).descs.map (·.num) = rest.map (·.num) ∧
          ((SP_DONE_DESC d).addr ∉ s.frozen → t.st (SP_DONE_DESC d) = min (SP_DONE_DESC d).max (s.st (SP_DONE_DESC d) + 1)) ∧
          (e.irq → (SP_STAT_IRQ d).addr ∉ s.frozen → t.st (SP_STAT_IRQ d) = 1) ∧
          (e.stop → x.state = .run → (t.spill_ d).state = .idle) ∧ (e.stop → t.cfg = s.cfg) ∧
          (e.stop = false → e.next % 32 = 0 → e.next < 2 ^ 48 → (SP_CURL_ADDR_LO d).addr ∉ s.frozen →
            (SP_CURH_ADDR_HI d).addr ∉ s.frozen → t.spCur d = e.next)))

/-- R513 and R518: a write to a low register is held and one of its window dropped, as any other write to the window drops it
but for one to the counter's own registers; a write to the high register writes both
halves; the clears set the chosen counters to 0 with no event of the cc taken yet, change no other counter, and drop a low
write held in their window; CLRALL changes no counter after a parity mismatch in the window of the bushel (R172). -/
def Obligations.CounterWritesSetBothHalves : Prop :=
  ∀ s : State, s.canonical → s.clocked →
    let writable (c : CounterId) : Prop := (ctrLo c).addr ∉ s.frozen ∧ (ctrHi c).addr ∉ s.frozen
    let counts (w t : State) : Prop :=
      t = { s with cfg := t.cfg, parErr := t.parErr, perf := { w.perf with taken := t.perf.taken } }
    let pm := dropHeld PM_CTL_CLRALL.addr s
    let cleared (t : State) (c : CounterId) : Prop := t.taken c = 0 ∧ (writable c → t.counter c = 0)
    (∀ (c : CounterId) (w : Word),
      (∃ t, exec (.counterLowWrite c w) s = .next t ∧ find t.perf.held (ctrLo c).addr = some w ∧
        (∀ d, d ≠ c → winOf (ctrLo d).addr = winOf (ctrLo c).addr → find t.perf.held (ctrLo d).addr = none) ∧
        (∀ d, winOf (ctrLo d).addr ≠ winOf (ctrLo c).addr →
          find t.perf.held (ctrLo d).addr = find s.perf.held (ctrLo d).addr) ∧
        t = { s with perf := { s.perf with held := t.perf.held } }) ∧
      (∃ t, exec (.counterHighWrite c w) s = .next t ∧
        (writable c → t.counter c =
          w.toNat % 2 ^ 16 * 2 ^ 32 + ((find s.perf.held (ctrLo c).addr).getD 0).toNat) ∧
        (∀ d, d ≠ c → t.counter d = s.counter d) ∧ find t.perf.held (ctrLo c).addr = none ∧
        t = { s with cfg := t.cfg, parErr := t.parErr, perf := t.perf })) ∧
    (∀ (p : Fin 32) (mask : BitVec 4), ∃ t, exec (.clr (.port p) mask) s = .next t ∧
      (∀ k, mask.getLsbD k.val → cleared t (.port p k)) ∧
      (∀ d, (∀ k, mask.getLsbD k.val → d ≠ .port p k) → t.counter d = s.counter d) ∧ counts (dropHeld (PT_PMCTL_CLR p).addr s) t) ∧
    (∀ (n : Fin 16) (mask : BitVec 4), ∃ t, exec (.clr (.chan n) mask) s = .next t ∧
      (∀ k, mask.getLsbD k.val → cleared t (.chan n k)) ∧
      (∀ d, (∀ k, mask.getLsbD k.val → d ≠ .chan n k) → t.counter d = s.counter d) ∧ counts (dropHeld (CH_PMCTL_CLR n).addr s) t) ∧
    (s.bushelKept → exec .clrall s = .next pm) ∧
    (s.bushelKept = false → ∃ t, exec .clrall s = .next t ∧ (∀ j, cleared t (.bushel j)) ∧
      (∀ d, (∀ j, d ≠ .bushel j) → t.counter d = s.counter d) ∧ counts pm t) ∧
    (∀ a, (dropHeld a s).perf.held = s.perf.held.filter fun e => winOf e.1 ≠ winOf a || e.1 == a / 8 * 8)

/-- R509, R514, R515 and R516: a snapshot copies the 16 bushel counters as they stood before the events of the cc, and counts
itself, and clears them with SNAPCLR; FREEZE is written once the record is good, and a wrap of the cc does not change what the
host has written (R158); a counter that passes 2^48 − 1 with the events
it has yet to add wraps and sets its flag; the event of the wrap is raised. -/
def Obligations.SnapshotsFreezesAndWraps : Prop :=
  ∀ s : State, s.canonical → s.clocked →
    let writable (c : CounterId) : Prop := (ctrLo c).addr ∉ s.frozen ∧ (ctrHi c).addr ∉ s.frozen
    let w := dropHeld PM_CTL_SNAP.addr s
    (s.perf.snapAt = some s.now ∨ s.bushelKept → exec .snap s = .next w) ∧
    (s.perf.snapAt ≠ some s.now → s.bushelKept = false → ∃ t, exec .snap s = .next t ∧
      (∀ j : Fin 16, t.st (PM_SNPH_SNP_HI j) * 2 ^ 32 + t.st (PM_SNPL_SNP_LO j) = s.before (.bushel j) ∧
        (s.taken (.bushel j) = 0 → s.before (.bushel j) = s.counter (.bushel j))) ∧
      t.st PM_STAT_SEQ = (s.st PM_STAT_SEQ + 1) % 256 ∧
      (s.on PM_CTL_SNAPCLR → ∀ j, t.counter (.bushel j) = 0 ∧ t.taken (.bushel j) = 0) ∧
      (s.on PM_CTL_SNAPCLR = false → t.cfg = s.cfg) ∧ t.perf.snapAt = some s.now ∧
      t = { s with cfg := t.cfg, parErr := t.parErr, stat := t.stat, news := t.news, perf := { w.perf with snapAt := some s.now, taken := t.perf.taken } }) ∧
    (∀ on : Bool,
      (s.good = false → exec (.freeze on) s = .next w) ∧
      (s.good → ∃ t, exec (.freeze on) s = .next t ∧ (PM_CTL_FREEZE.addr ∉ s.frozen → t.cf PM_CTL_FREEZE = b2n on) ∧
        t.cf PM_CTL_FRZOVF = s.cf PM_CTL_FRZOVF ∧ t.cf PM_CTL_SNAPFS = s.cf PM_CTL_SNAPFS ∧
        t.cf PM_CTL_SNAPCLR = s.cf PM_CTL_SNAPCLR ∧
        t = { w with cfg := t.cfg, parErr := t.parErr, perf := { w.perf with hostFreeze := true } })) ∧
    (∀ c : CounterId,
      (s.counts_ c = false ∨ s.counter c + s.owed c < 2 ^ 48 → exec (.counterWrap c) s = .next s) ∧
      (s.counts_ c → 2 ^ 48 ≤ s.counter c + s.owed c → ∃ t, exec (.counterWrap c) s = .next t ∧
        (writable c → t.counter c = (s.counter c + s.owed c) % 2 ^ 48) ∧ t.taken c = s.adds c ∧ (∀ d, d ≠ c → t.counter d = s.counter d) ∧
        ((ctrOvf c).1.addr ∉ s.frozen → t.st (ctrOvf c).1 = s.st (ctrOvf c).1 ||| 2 ^ (ctrOvf c).2) ∧
        (natBit (s.cf (ctrOvie c)) (ctrOvf c).2 → s.perf.ovf = none → t.perf.ovf = some (s.now, 0)) ∧
        (∀ j, c = .bushel j → s.on PM_CTL_FRZOVF → s.perf.hostFreeze = false → t.on PM_CTL_FREEZE) ∧
        (∀ j, c = .bushel j → s.perf.hostFreeze → t.cf PM_CTL_FREEZE = s.cf PM_CTL_FREEZE) ∧
        t = { s with cfg := t.cfg, parErr := t.parErr, stat := t.stat, news := t.news, perf := t.perf })) ∧
    (s.perf.ovf = none → exec .pmovf s = .next s) ∧
    (s.perf.ovf ≠ none → ∃ t, exec .pmovf s = .next t ∧
      (FT_STSEVT_EVT.addr ∉ s.frozen → t.st FT_STSEVT_EVT = s.st FT_STSEVT_EVT ||| 2 ^ Evt.pmovf.bit) ∧
      t = { s with stat := t.stat, news := t.news, perf := { s.perf with ovf := none } })

/-- The frame of the DRAM: a command other than a write burst, an end of a retrain, of a payment or of a check that a test may
wait for, a write or read of the registers, a reset, a gain of RSI_CK or the end of a transaction of the
configuration load leaves what the DRAM holds as it was. -/
def Obligations.OtherCommandsLeaveTheDram : Prop :=
  let mayChange (c : Instr) : Prop := match c with
    | .wr _ | .retrainDone _ _ | .debtPaymentDone _ _ | .checkDone _ _ | .porstNAssert _ | .rsiCkPresent | .cfgTransactionEnd _
    | .blockResetTimeout | .blkReset | .registerWrite _ | .setAliasWrite _ | .clearAliasWrite _ | .toggleAliasWrite _
    | .heldShadowWrite _ | .readClear _ | .multiRegisterCapture _ | .registerRead _ => True
    | _ => False
  ∀ (s t : State) (c : Instr), ¬mayChange c → exec c s = .next t → t.dram = s.dram
end

