-- ==== Sys2Proof/Laws/Canonical.lean ====
section
/-!
SUPPORT. The canonical form of sparse data: the operations on it keep the form, and a read after a write gives what was
written and leaves every other place alone. `Kept` is what every operation of the block keeps: the
queue, the strap and the reset pin, and the canonical form of the register files, the captures and the DRAM.
-/

namespace Sys2Proof.Machine

-- keys that rise

theorem rising_iff {α : Type} {l : List (Nat × α)} : rising l = true ↔ l.Pairwise fun a b => a.1 < b.1 := by
  simp [rising, List.pairwise_map]

theorem rising_filter {α : Type} {l : List (Nat × α)} (f : Nat × α → Bool) (h : rising l) : rising (l.filter f) := by
  rw [rising_iff] at *
  exact h.filter f

theorem put_keys {α : Type} {l : List (Nat × α)} {a k : Nat} {v : α} (h : k < a) (hl : ∀ e ∈ l, k < e.1) :
    ∀ e ∈ put l a v, k < e.1 := by
  induction l with
  | nil => simpa [put] using h
  | cons x l ih =>
    obtain ⟨b, w⟩ := x
    have hb : k < b := hl (b, w) (by simp)
    have ht : ∀ e ∈ l, k < e.1 := fun e he => hl e (by simp [he])
    unfold put
    split
    · intro e he
      rcases List.mem_cons.1 he with rfl | he
      · exact h
      · exact hl e he
    · split
      · intro e he
        rcases List.mem_cons.1 he with rfl | he
        · exact h
        · exact ht e he
      · intro e he
        rcases List.mem_cons.1 he with rfl | he
        · exact hb
        · exact ih ht e he

/-- Writing a place of sparse data keeps its keys rising. -/
theorem put_rising {α : Type} {l : List (Nat × α)} (a : Nat) (v : α) (h : rising l) : rising (put l a v) := by
  rw [rising_iff] at *
  induction l with
  | nil => simp [put]
  | cons x l ih =>
    obtain ⟨b, w⟩ := x
    obtain ⟨h1, h2⟩ := List.pairwise_cons.1 h
    unfold put
    split
    · rename_i hab
      refine List.pairwise_cons.2 ⟨?_, h⟩
      intro e he
      rcases List.mem_cons.1 he with rfl | he
      · exact hab
      · exact Nat.lt_trans hab (h1 e he)
    · split
      · rename_i hab
        exact List.pairwise_cons.2 ⟨fun e he => hab ▸ h1 e he, h2⟩
      · exact List.pairwise_cons.2 ⟨put_keys (by omega) h1, ih h2⟩

/-- A read of the place written gives the value written. -/
@[simp] theorem find_put_self {α : Type} (l : List (Nat × α)) (a : Nat) (v : α) : find (put l a v) a = some v := by
  induction l with
  | nil => simp [put, find]
  | cons x l ih =>
    obtain ⟨b, w⟩ := x
    unfold put
    split
    · simp [find]
    · split
      · simp [find]
      · rename_i h1 h2
        simp [find, h2, ih]

/-- A write leaves every other place alone. -/
theorem find_put_other {α : Type} (l : List (Nat × α)) {a k : Nat} (v : α) (h : k ≠ a) : find (put l a v) k = find l k := by
  induction l with
  | nil => simp [put, find, h]
  | cons x l ih =>
    obtain ⟨b, w⟩ := x
    unfold put
    split
    · simp [find, h]
    · split
      · rename_i h1 h2
        simp [find, h, h2 ▸ h]
      · simp [find, ih]

-- register files

theorem wf_iff {f : RegFile} : f.wf = true ↔ (f.Pairwise fun a b => a.1 < b.1) ∧ ∀ e ∈ f, e.2 ≠ 0 := by
  simp [RegFile.wf, List.pairwise_map]

theorem set_keys {f : RegFile} {a k : Nat} {v : Word} (h : k < a) (hf : ∀ e ∈ f, k < e.1) :
    ∀ e ∈ f.set a v, k < e.1 := by
  induction f with
  | nil =>
    unfold RegFile.set
    split <;> simp [h]
  | cons x f ih =>
    obtain ⟨b, w⟩ := x
    have hb : k < b := hf (b, w) (by simp)
    have ht : ∀ e ∈ f, k < e.1 := fun e he => hf e (by simp [he])
    unfold RegFile.set
    intro e he
    split at he
    · split at he
      · exact hf e he
      · rcases List.mem_cons.1 he with rfl | he
        · exact h
        · exact hf e he
    · split at he
      · split at he
        · exact ht e he
        · rcases List.mem_cons.1 he with rfl | he
          · exact h
          · exact ht e he
      · rcases List.mem_cons.1 he with rfl | he
        · exact hb
        · exact ih ht e he

/-- Writing a register keeps the canonical form of a register file. -/
theorem set_wf {f : RegFile} (a : Nat) (v : Word) (h : f.wf) : (f.set a v).wf := by
  rw [wf_iff] at *
  induction f with
  | nil =>
    unfold RegFile.set
    split <;> simp_all
  | cons x f ih =>
    obtain ⟨b, w⟩ := x
    obtain ⟨h1, h2⟩ := List.pairwise_cons.1 h.1
    have hw : w ≠ 0 := h.2 (b, w) (by simp)
    have ht : ∀ e ∈ f, e.2 ≠ 0 := fun e he => h.2 e (by simp [he])
    obtain ⟨i1, i2⟩ := ih ⟨h2, ht⟩
    unfold RegFile.set
    split
    · rename_i hab
      split
      · exact h
      · rename_i hv
        refine ⟨List.pairwise_cons.2 ⟨?_, h.1⟩, ?_⟩
        · intro e he
          rcases List.mem_cons.1 he with rfl | he
          · exact hab
          · exact Nat.lt_trans hab (h1 e he)
        · intro e he
          rcases List.mem_cons.1 he with rfl | he
          · exact hv
          · exact h.2 e he
    · split
      · rename_i hab
        split
        · exact ⟨h2, ht⟩
        · rename_i hv
          refine ⟨List.pairwise_cons.2 ⟨fun e he => hab ▸ h1 e he, h2⟩, ?_⟩
          intro e he
          rcases List.mem_cons.1 he with rfl | he
          · exact hv
          · exact ht e he
      · refine ⟨List.pairwise_cons.2 ⟨set_keys (by omega) h1, i1⟩, ?_⟩
        intro e he
        rcases List.mem_cons.1 he with rfl | he
        · exact hw
        · exact i2 e he

theorem get_of_lt {f : RegFile} {a : Nat} (h : ∀ e ∈ f, a < e.1) : f.get a = 0 := by
  cases f with
  | nil => rfl
  | cons x f =>
    have := h x (by simp)
    simp [RegFile.get, this, Nat.ne_of_lt this]

/-- A read of the register written gives the value written. -/
theorem get_set_self {f : RegFile} (a : Nat) (v : Word) (h : f.wf) : (f.set a v).get a = v := by
  rw [wf_iff] at h
  induction f with
  | nil =>
    unfold RegFile.set
    split <;> simp_all [RegFile.get]
  | cons x f ih =>
    obtain ⟨b, w⟩ := x
    obtain ⟨h1, h2⟩ := List.pairwise_cons.1 h.1
    have ht : ∀ e ∈ f, e.2 ≠ 0 := fun e he => h.2 e (by simp [he])
    unfold RegFile.set
    split
    · rename_i hab
      split
      · rename_i hv
        simp [RegFile.get, hab, Nat.ne_of_lt hab, hv]
      · simp [RegFile.get]
    · split
      · rename_i hab
        split
        · rename_i hv
          subst hab hv
          exact get_of_lt h1
        · simp [RegFile.get]
      · rename_i h3 h4
        simp [RegFile.get, h3, h4, ih ⟨h2, ht⟩]

/-- A write leaves every other register alone. -/
theorem get_set_other {f : RegFile} {a k : Nat} (v : Word) (h : f.wf) (hk : k ≠ a) : (f.set a v).get k = f.get k := by
  rw [wf_iff] at h
  induction f with
  | nil =>
    unfold RegFile.set
    split <;> simp [RegFile.get, hk]
  | cons x f ih =>
    obtain ⟨b, w⟩ := x
    obtain ⟨h1, h2⟩ := List.pairwise_cons.1 h.1
    have ht : ∀ e ∈ f, e.2 ≠ 0 := fun e he => h.2 e (by simp [he])
    unfold RegFile.set
    split
    · rename_i hab
      split
      · rfl
      · by_cases h5 : k < a
        · simp [RegFile.get, hk, h5, Nat.ne_of_lt (Nat.lt_trans h5 hab), Nat.lt_trans h5 hab]
        · simp [RegFile.get, hk, h5]
    · split
      · rename_i hab
        subst hab
        split
        · by_cases h5 : k < a
          · simp [RegFile.get, hk, h5, get_of_lt fun e he => Nat.lt_trans h5 (h1 e he)]
          · simp [RegFile.get, hk, h5]
        · simp [RegFile.get, hk]
      · simp only [RegFile.get]
        rw [ih ⟨h2, ht⟩]

-- what every operation keeps

/-- What only the queue, a release of PORST_N and its fall change. -/
structure Fixed where
  pending : List Instr
  instId : BitVec 14
  porst : Bool

def State.fixed (s : State) : Fixed := ⟨s.pending, s.instId, s.porst⟩

/-- The queue, the sampled strap and the reset pin are those of `p`, and the sparse data has its canonical form. -/
def Kept (p : Fixed) (s : State) : Prop := s.fixed = p ∧ s.canonical = true

theorem Kept.of {p : Fixed} {s : State} (hp : s.fixed = p) (h1 : s.cfg.wf) (h2 : s.stat.wf)
    (h3 : rising s.caps) (h4 : rising s.dram) : Kept p s := ⟨hp, by simp [State.canonical, h1, h2, h3, h4]⟩

theorem kept_self {s : State} (h : s.canonical) : Kept s.fixed s := ⟨rfl, h⟩

theorem Kept.fixed {p : Fixed} {s : State} (h : Kept p s) : s.fixed = p := h.1

theorem Kept.pending {p : Fixed} {s : State} (h : Kept p s) : s.pending = p.pending := congrArg Fixed.pending h.1

theorem Kept.instId {p : Fixed} {s : State} (h : Kept p s) : s.instId = p.instId := congrArg Fixed.instId h.1

theorem Kept.porst {p : Fixed} {s : State} (h : Kept p s) : s.porst = p.porst := congrArg Fixed.porst h.1

theorem Kept.cfg {p : Fixed} {s : State} (h : Kept p s) : s.cfg.wf := by
  have := h.2
  simp only [State.canonical, Bool.and_eq_true] at this
  exact this.1.1.1

theorem Kept.stat {p : Fixed} {s : State} (h : Kept p s) : s.stat.wf := by
  have := h.2
  simp only [State.canonical, Bool.and_eq_true] at this
  exact this.1.1.2

theorem Kept.caps {p : Fixed} {s : State} (h : Kept p s) : rising s.caps := by
  have := h.2
  simp only [State.canonical, Bool.and_eq_true] at this
  exact this.1.2

theorem Kept.dram {p : Fixed} {s : State} (h : Kept p s) : rising s.dram := by
  have := h.2
  simp only [State.canonical, Bool.and_eq_true] at this
  exact this.2

/-- An update of other fields keeps the queue and the form. -/
theorem kept_mk {p : Fixed} {s : State}
    {now : Nat} {rsck : Nat} {rfrac : Nat} {rsiAlive : Bool} {news : List (Field × News)} {parErr : List Nat} {walks : List (Nat × Word)}
    {frozen : List Nat} {apbM : Apb} {apbK : Apb} {pins : Pins} {clk : Clk} {load : Load} {tb : Tb} {brk : Broker}
    {ports : Vector Port 32} {wheel : Wheel} {chans : Vector Chan 16} {cals : Vector ChanCal 16} {quads : Vector
    Quad 4} {op : OpSeq} {flt : Flt} {mnt : Mnt} {keys : Keys} {tap : Tap} {spill : Vector Spill 8} {spillLast :
    Vector Nat 4} {spillAt : Vector Nat 4} {perf : Perf} {free : Nat}
    (h : Kept p s) :
    Kept p (State.mk s.porst s.instId now rsck rfrac rsiAlive s.cfg s.stat s.caps news parErr walks frozen apbM apbK pins clk load tb brk ports
      wheel chans cals quads op flt mnt keys tap spill spillLast spillAt perf s.dram free s.pending) := h

theorem kept_ite {p : Fixed} {a b : State} {c : Prop} [Decidable c] (ha : Kept p a) (hb : Kept p b) :
    Kept p (if c then a else b) := by
  split
  · exact ha
  · exact hb

theorem kept_foldl {p : Fixed} {α : Type} {f : State → α → State} {s : State} {l : List α}
    (hf : ∀ s x, Kept p s → Kept p (f s x)) (h : Kept p s) : Kept p (l.foldl f s) := by
  induction l generalizing s with
  | nil => exact h
  | cons x l ih => exact ih (hf s x h)

theorem foldl_set_wf {α : Type} {f : RegFile} {l : List α} (k : α → Nat) (v : RegFile → α → Word) (h : f.wf) :
    (l.foldl (fun f x => f.set (k x) (v f x)) f).wf := by
  induction l generalizing f with
  | nil => exact h
  | cons x l ih => exact ih (set_wf _ _ h)

end Sys2Proof.Machine
end

