-- ==== Sys2Proof/Laws/Commands.lean ====
section
/-!
SUPPORT. What exec calls for each command, one lemma for each.
-/

namespace Sys2Proof.Machine

@[simp] theorem exec_porstNAssert (ns : Nat) (s : State) : exec (.porstNAssert ns) s = execPorstNAssert ns s := rfl
@[simp] theorem exec_porstNRelease (instId : BitVec 14) (s : State) : exec (.porstNRelease instId) s = execPorstNRelease instId s := rfl
@[simp] theorem exec_rsiCkPresent (s : State) : exec .rsiCkPresent s = execRsiCkPresent s := rfl
@[simp] theorem exec_rsiCkLoss (s : State) : exec .rsiCkLoss s = execRsiCkLoss s := rfl
@[simp] theorem exec_absenceTimerExpiry (s : State) : exec .absenceTimerExpiry s = execAbsenceTimerExpiry s := rfl
@[simp] theorem exec_cfgTransactionEnd (data : List Byte) (s : State) : exec (.cfgTransactionEnd data) s = execCfgTransactionEnd data s := rfl
@[simp] theorem exec_reload (s : State) : exec .reload s = execReload s := rfl
@[simp] theorem exec_amplitudeReport (p : PllId) (s : State) : exec (.amplitudeReport p) s = execAmplitudeReport p s := rfl
@[simp] theorem exec_lockDelayExpiry (p : PllId) (s : State) : exec (.lockDelayExpiry p) s = execLockDelayExpiry p s := rfl
@[simp] theorem exec_lockDetect (p : PllId) (s : State) : exec (.lockDetect p) s = execLockDetect p s := rfl
@[simp] theorem exec_pllAttemptTimeout (p : PllId) (s : State) : exec (.pllAttemptTimeout p) s = execPllAttemptTimeout p s := rfl
@[simp] theorem exec_pllRetryPauseExpiry (p : PllId) (s : State) : exec (.pllRetryPauseExpiry p) s = execPllRetryPauseExpiry p s := rfl
@[simp] theorem exec_amplitudeDrop (p : PllId) (s : State) : exec (.amplitudeDrop p) s = execAmplitudeDrop p s := rfl
@[simp] theorem exec_lossOfLock (p : PllId) (s : State) : exec (.lossOfLock p) s = execLossOfLock p s := rfl
@[simp] theorem exec_monitorWindowEnd (p : PllId) (count : BitVec 16) (s : State) : exec (.monitorWindowEnd p count) s = execMonitorWindowEnd p count s := rfl
@[simp] theorem exec_clockSwitchDone (x : SwitchId) (s : State) : exec (.clockSwitchDone x) s = execClockSwitchDone x s := rfl
@[simp] theorem exec_forcedSwitch (x : SwitchId) (s : State) : exec (.forcedSwitch x) s = execForcedSwitch x s := rfl
@[simp] theorem exec_restartA (q : Fin 4) (s : State) : exec (.restartA q) s = execRestartA q s := rfl
@[simp] theorem exec_restartB (q : Fin 4) (s : State) : exec (.restartB q) s = execRestartB q s := rfl
@[simp] theorem exec_coreRestart (s : State) : exec .coreRestart s = execCoreRestart s := rfl
@[simp] theorem exec_dresetRelease (q : Fin 4) (s : State) : exec (.dresetRelease q) s = execDresetRelease q s := rfl
@[simp] theorem exec_trainingComplete (ch : Fin 16) (found : CalFound) (s : State) : exec (.trainingComplete ch found) s = execTrainingComplete ch found s := rfl
@[simp] theorem exec_startupComplete (s : State) : exec .startupComplete s = execStartupComplete s := rfl
@[simp] theorem exec_debtPaymentDone (ch : Fin 16) (r : Fin 2) (s : State) : exec (.debtPaymentDone ch r) s = execDebtPaymentDone ch r s := rfl
@[simp] theorem exec_checkDone (ch : Fin 16) (found : CalFound) (s : State) : exec (.checkDone ch found) s = execCheckDone ch found s := rfl
@[simp] theorem exec_retrainDone (ch : Fin 16) (found : CalFound) (s : State) : exec (.retrainDone ch found) s = execRetrainDone ch found s := rfl
@[simp] theorem exec_rsiEventNone (w : BitVec 64) (s : State) : exec (.rsiEventNone w) s = execRsiEventNone w s := rfl
@[simp] theorem exec_lineStart (w : BitVec 64) (s : State) : exec (.lineStart w) s = execLineStart w s := rfl
@[simp] theorem exec_frameStart (w : BitVec 64) (s : State) : exec (.frameStart w) s = execFrameStart w s := rfl
@[simp] theorem exec_horizontalBlank (w : BitVec 64) (s : State) : exec (.horizontalBlank w) s = execHorizontalBlank w s := rfl
@[simp] theorem exec_verticalBlank (w : BitVec 64) (s : State) : exec (.verticalBlank w) s = execVerticalBlank w s := rfl
@[simp] theorem exec_modeChange (w : BitVec 64) (s : State) : exec (.modeChange w) s = execModeChange w s := rfl
@[simp] theorem exec_corruptWord (w : BitVec 64) (s : State) : exec (.corruptWord w) s = execCorruptWord w s := rfl
@[simp] theorem exec_grainWrap (s : State) : exec .grainWrap s = execGrainWrap s := rfl
@[simp] theorem exec_frameLineLimit (s : State) : exec .frameLineLimit s = execFrameLineLimit s := rfl
@[simp] theorem exec_holdoverEntry (s : State) : exec .holdoverEntry s = execHoldoverEntry s := rfl
@[simp] theorem exec_holdoverLimit (s : State) : exec .holdoverLimit s = execHoldoverLimit s := rfl
@[simp] theorem exec_horizontalGapStart (s : State) : exec .horizontalGapStart s = execHorizontalGapStart s := rfl
@[simp] theorem exec_verticalGapStart (s : State) : exec .verticalGapStart s = execVerticalGapStart s := rfl
@[simp] theorem exec_bookingEnd (id : Nat) (s : State) : exec (.bookingEnd id) s = execBookingEnd id s := rfl
@[simp] theorem exec_registerWrite (a : ApbWrite) (s : State) : exec (.registerWrite a) s = execRegisterWrite a s := rfl
@[simp] theorem exec_setAliasWrite (a : ApbWrite) (s : State) : exec (.setAliasWrite a) s = execSetAliasWrite a s := rfl
@[simp] theorem exec_clearAliasWrite (a : ApbWrite) (s : State) : exec (.clearAliasWrite a) s = execClearAliasWrite a s := rfl
@[simp] theorem exec_toggleAliasWrite (a : ApbWrite) (s : State) : exec (.toggleAliasWrite a) s = execToggleAliasWrite a s := rfl
@[simp] theorem exec_readClear (a : ApbRead) (s : State) : exec (.readClear a) s = execReadClear a s := rfl
@[simp] theorem exec_multiRegisterCapture (a : ApbRead) (s : State) : exec (.multiRegisterCapture a) s = execMultiRegisterCapture a s := rfl
@[simp] theorem exec_heldShadowWrite (a : ApbWrite) (s : State) : exec (.heldShadowWrite a) s = execHeldShadowWrite a s := rfl
@[simp] theorem exec_clkmonSelect (sel : BitVec 6) (div : BitVec 10) (s : State) : exec (.clkmonSelect sel div) s = execClkmonSelect sel div s := rfl
@[simp] theorem exec_parityWalk (addr : BitVec 20) (upset : Word) (s : State) : exec (.parityWalk addr upset) s = execParityWalk addr upset s := rfl
@[simp] theorem exec_blkReset (s : State) : exec .blkReset s = execBlkReset s := rfl
@[simp] theorem exec_blockResetTimeout (s : State) : exec .blockResetTimeout s = execBlockResetTimeout s := rfl
@[simp] theorem exec_request (p : Fin 28) (addr : BitVec 34) (len : BitVec 6) (wr : Bool) (tag : BitVec 8) (fence : Bool) (s : State) : exec (.request p addr len wr tag fence) s = execRequest p addr len wr tag fence s := rfl
@[simp] theorem exec_writeBeat (p : Fin 28) (data : Beat) (be : BitVec 64) (last : Bool) (s : State) : exec (.writeBeat p data be last) s = execWriteBeat p data be last s := rfl
@[simp] theorem exec_split (p : Fin 30) (s : State) : exec (.split p) s = execSplit p s := rfl
@[simp] theorem exec_shaperTest (p : Fin 30) (s : State) : exec (.shaperTest p) s = execShaperTest p s := rfl
@[simp] theorem exec_rodBoundary (s : State) : exec .rodBoundary s = execRodBoundary s := rfl
@[simp] theorem exec_revolutionEnd (s : State) : exec .revolutionEnd s = execRevolutionEnd s := rfl
@[simp] theorem exec_calendarCommitRequest (s : State) : exec .calendarCommitRequest s = execCalendarCommitRequest s := rfl
@[simp] theorem exec_gateCommitRequest (s : State) : exec .gateCommitRequest s = execGateCommitRequest s := rfl
@[simp] theorem exec_calendarCopyDone (s : State) : exec .calendarCopyDone s = execCalendarCopyDone s := rfl
@[simp] theorem exec_gateCopyDone (s : State) : exec .gateCopyDone s = execGateCopyDone s := rfl
@[simp] theorem exec_gatePass (p : Fin 30) (s : State) : exec (.gatePass p) s = execGatePass p s := rfl
@[simp] theorem exec_perchHandover (p : Fin 32) (ch : Fin 16) (s : State) : exec (.perchHandover p ch) s = execPerchHandover p ch s := rfl
@[simp] theorem exec_intakeDecision (ch : Fin 16) (s : State) : exec (.intakeDecision ch) s = execIntakeDecision ch s := rfl
@[simp] theorem exec_lineAdmission (ch : Fin 16) (s : State) : exec (.lineAdmission ch) s = execLineAdmission ch s := rfl
@[simp] theorem exec_holdStallTrip (ch : Fin 16) (s : State) : exec (.holdStallTrip ch) s = execHoldStallTrip ch s := rfl
@[simp] theorem exec_readResponseStart (p : Fin 30) (tag : BitVec 8) (s : State) : exec (.readResponseStart p tag) s = execReadResponseStart p tag s := rfl
@[simp] theorem exec_readDataTransfer (p : Fin 30) (s : State) : exec (.readDataTransfer p) s = execReadDataTransfer p s := rfl
@[simp] theorem exec_writeResponseTransfer (p : Fin 30) (tag : BitVec 8) (s : State) : exec (.writeResponseTransfer p tag) s = execWriteResponseTransfer p tag s := rfl
@[simp] theorem exec_tunPointerMismatch (p : Fin 4) (s : State) : exec (.tunPointerMismatch p) s = execTunPointerMismatch p s := rfl
@[simp] theorem exec_flush (p : Fin 4) (s : State) : exec (.flush p) s = execFlush p s := rfl
@[simp] theorem exec_flushDone (p : Fin 4) (s : State) : exec (.flushDone p) s = execFlushDone p s := rfl
@[simp] theorem exec_stop (p : Fin 30) (s : State) : exec (.stop p) s = execStop p s := rfl
@[simp] theorem exec_resume (p : Fin 30) (s : State) : exec (.resume p) s = execResume p s := rfl
@[simp] theorem exec_drainComplete (p : Fin 30) (s : State) : exec (.drainComplete p) s = execDrainComplete p s := rfl
@[simp] theorem exec_act (ch : Fin 16) (s : State) : exec (.act ch) s = execAct ch s := rfl
@[simp] theorem exec_rd (ch : Fin 16) (s : State) : exec (.rd ch) s = execRd ch s := rfl
@[simp] theorem exec_wr (ch : Fin 16) (s : State) : exec (.wr ch) s = execWr ch s := rfl
@[simp] theorem exec_pre (ch : Fin 16) (s : State) : exec (.pre ch) s = execPre ch s := rfl
@[simp] theorem exec_preab (ch : Fin 16) (r : Fin 2) (s : State) : exec (.preab ch r) s = execPreab ch r s := rfl
@[simp] theorem exec_refpb (ch : Fin 16) (s : State) : exec (.refpb ch) s = execRefpb ch s := rfl
@[simp] theorem exec_refab (ch : Fin 16) (s : State) : exec (.refab ch) s = execRefab ch s := rfl
@[simp] theorem exec_rfmpb (ch : Fin 16) (s : State) : exec (.rfmpb ch) s = execRfmpb ch s := rfl
@[simp] theorem exec_mrw (ch : Fin 16) (r : Fin 2) (s : State) : exec (.mrw ch r) s = execMrw ch r s := rfl
@[simp] theorem exec_mrr (ch : Fin 16) (r : Fin 2) (s : State) : exec (.mrr ch r) s = execMrr ch r s := rfl
@[simp] theorem exec_sre (ch : Fin 16) (r : Fin 2) (s : State) : exec (.sre ch r) s = execSre ch r s := rfl
@[simp] theorem exec_srx (ch : Fin 16) (r : Fin 2) (s : State) : exec (.srx ch r) s = execSrx ch r s := rfl
@[simp] theorem exec_pde (ch : Fin 16) (r : Fin 2) (s : State) : exec (.pde ch r) s = execPde ch r s := rfl
@[simp] theorem exec_pdx (ch : Fin 16) (r : Fin 2) (s : State) : exec (.pdx ch r) s = execPdx ch r s := rfl
@[simp] theorem exec_deepSleepEntry (ch : Fin 16) (r : Fin 2) (s : State) : exec (.deepSleepEntry ch r) s = execDeepSleepEntry ch r s := rfl
@[simp] theorem exec_deepSleepExit (ch : Fin 16) (r : Fin 2) (s : State) : exec (.deepSleepExit ch r) s = execDeepSleepExit ch r s := rfl
@[simp] theorem exec_casWsFs (ch : Fin 16) (r : Fin 2) (s : State) : exec (.casWsFs ch r) s = execCasWsFs ch r s := rfl
@[simp] theorem exec_zqCalibrationStart (ch : Fin 16) (r : Fin 2) (s : State) : exec (.zqCalibrationStart ch r) s = execZqCalibrationStart ch r s := rfl
@[simp] theorem exec_zqLatch (ch : Fin 16) (r : Fin 2) (s : State) : exec (.zqLatch ch r) s = execZqLatch ch r s := rfl
@[simp] theorem exec_rcdExpiry (ch : Fin 16) (r : Fin 2) (b : Fin 16) (s : State) : exec (.rcdExpiry ch r b) s = execRcdExpiry ch r b s := rfl
@[simp] theorem exec_prechargeDone (ch : Fin 16) (r : Fin 2) (b : Fin 16) (s : State) : exec (.prechargeDone ch r b) s = execPrechargeDone ch r b s := rfl
@[simp] theorem exec_refreshDone (ch : Fin 16) (r : Fin 2) (b : Fin 16) (s : State) : exec (.refreshDone ch r b) s = execRefreshDone ch r b s := rfl
@[simp] theorem exec_dataBusModeChange (ch : Fin 16) (s : State) : exec (.dataBusModeChange ch) s = execDataBusModeChange ch s := rfl
@[simp] theorem exec_writeRecoveryExpiry (ch : Fin 16) (id : Nat) (s : State) : exec (.writeRecoveryExpiry ch id) s = execWriteRecoveryExpiry ch id s := rfl
@[simp] theorem exec_idleClose (ch : Fin 16) (r : Fin 2) (b : Fin 16) (s : State) : exec (.idleClose ch r b) s = execIdleClose ch r b s := rfl
@[simp] theorem exec_readDataReturn (ch : Fin 16) (id : Nat) (err : Line) (s : State) : exec (.readDataReturn ch id err) s = execReadDataReturn ch id err s := rfl
@[simp] theorem exec_secondRefetchDue (ch : Fin 16) (id : Nat) (s : State) : exec (.secondRefetchDue ch id) s = execSecondRefetchDue ch id s := rfl
@[simp] theorem exec_gillAgeExpiry (ch : Fin 16) (g : Fin 16) (s : State) : exec (.gillAgeExpiry ch g) s = execGillAgeExpiry ch g s := rfl
@[simp] theorem exec_gillToWriteQueue (ch : Fin 16) (g : Fin 16) (s : State) : exec (.gillToWriteQueue ch g) s = execGillToWriteQueue ch g s := rfl
@[simp] theorem exec_debtRise (ch : Fin 16) (r : Fin 2) (s : State) : exec (.debtRise ch r) s = execDebtRise ch r s := rfl
@[simp] theorem exec_mr4PollDue (ch : Fin 16) (r : Fin 2) (s : State) : exec (.mr4PollDue ch r) s = execMr4PollDue ch r s := rfl
@[simp] theorem exec_mr4Result (ch : Fin 16) (r : Fin 2) (cls : Fin 8) (s : State) : exec (.mr4Result ch r cls) s = execMr4Result ch r cls s := rfl
@[simp] theorem exec_selfRefreshIdleExpiry (ch : Fin 16) (r : Fin 2) (s : State) : exec (.selfRefreshIdleExpiry ch r) s = execSelfRefreshIdleExpiry ch r s := rfl
@[simp] theorem exec_dsmEnter (s : State) : exec .dsmEnter s = execDsmEnter s := rfl
@[simp] theorem exec_dsmExit (s : State) : exec .dsmExit s = execDsmExit s := rfl
@[simp] theorem exec_dsmxExpiry (ch : Fin 16) (r : Fin 2) (s : State) : exec (.dsmxExpiry ch r) s = execDsmxExpiry ch r s := rfl
@[simp] theorem exec_opPin (en : Bool) (op : Fin 4) (s : State) : exec (.opPin en op) s = execOpPin en op s := rfl
@[simp] theorem exec_vreqStrobe (s : State) : exec .vreqStrobe s = execVreqStrobe s := rfl
@[simp] theorem exec_vackRise (s : State) : exec .vackRise s = execVackRise s := rfl
@[simp] theorem exec_vackFall (s : State) : exec .vackFall s = execVackFall s := rfl
@[simp] theorem exec_vackTimeout (s : State) : exec .vackTimeout s = execVackTimeout s := rfl
@[simp] theorem exec_metadataLookup (q : Fin 4) (lane : Fin 8) (s : State) : exec (.metadataLookup q lane) s = execMetadataLookup q lane s := rfl
@[simp] theorem exec_fillInstall (ch : Fin 16) (id : Nat) (err : Line) (s : State) : exec (.fillInstall ch id err) s = execFillInstall ch id err s := rfl
@[simp] theorem exec_recomputeComplete (q : Fin 4) (way : Nat) (s : State) : exec (.recomputeComplete q way) s = execRecomputeComplete q way s := rfl
@[simp] theorem exec_clean (q : Fin 4) (s : State) : exec (.clean q) s = execClean q s := rfl
@[simp] theorem exec_invalidate (q : Fin 4) (s : State) : exec (.invalidate q) s = execInvalidate q s := rfl
@[simp] theorem exec_preload (q : Fin 4) (s : State) : exec (.preload q) s = execPreload q s := rfl
@[simp] theorem exec_preloadLock (q : Fin 4) (s : State) : exec (.preloadLock q) s = execPreloadLock q s := rfl
@[simp] theorem exec_unlock (q : Fin 4) (s : State) : exec (.unlock q) s = execUnlock q s := rfl
@[simp] theorem exec_reservedOperation (q : Fin 4) (s : State) : exec (.reservedOperation q) s = execReservedOperation q s := rfl
@[simp] theorem exec_mcOperationDone (q : Fin 4) (s : State) : exec (.mcOperationDone q) s = execMcOperationDone q s := rfl
@[simp] theorem exec_cacheBypassEntry (q : Fin 4) (s : State) : exec (.cacheBypassEntry q) s = execCacheBypassEntry q s := rfl
@[simp] theorem exec_bypassEntryDone (q : Fin 4) (s : State) : exec (.bypassEntryDone q) s = execBypassEntryDone q s := rfl
@[simp] theorem exec_cacheBypassExit (q : Fin 4) (s : State) : exec (.cacheBypassExit q) s = execCacheBypassExit q s := rfl
@[simp] theorem exec_scrubStart (q : Fin 4) (s : State) : exec (.scrubStart q) s = execScrubStart q s := rfl
@[simp] theorem exec_scrubAbort (q : Fin 4) (s : State) : exec (.scrubAbort q) s = execScrubAbort q s := rfl
@[simp] theorem exec_scrubPassEnd (q : Fin 4) (s : State) : exec (.scrubPassEnd q) s = execScrubPassEnd q s := rfl
@[simp] theorem exec_idlePermission (ch : Fin 16) (s : State) : exec (.idlePermission ch) s = execIdlePermission ch s := rfl
@[simp] theorem exec_calWindowClose (ch : Fin 16) (bit : Fin 36) (errE errL : Nat) (s : State) : exec (.calWindowClose ch bit errE errL) s = execCalWindowClose ch bit errE errL s := rfl
@[simp] theorem exec_periodicSweep (ch : Fin 16) (s : State) : exec (.periodicSweep ch) s = execPeriodicSweep ch s := rfl
@[simp] theorem exec_sweep (q : Fin 4) (s : State) : exec (.sweep q) s = execSweep q s := rfl
@[simp] theorem exec_retrain (ch : Fin 16) (s : State) : exec (.retrain ch) s = execRetrain ch s := rfl
@[simp] theorem exec_calPause (q : Fin 4) (s : State) : exec (.calPause q) s = execCalPause q s := rfl
@[simp] theorem exec_calUnpause (q : Fin 4) (s : State) : exec (.calUnpause q) s = execCalUnpause q s := rfl
@[simp] theorem exec_staleExpiry (ch : Fin 16) (r : Fin 2) (s : State) : exec (.staleExpiry ch r) s = execStaleExpiry ch r s := rfl
@[simp] theorem exec_oscillatorInterval (ch : Fin 16) (r : Fin 2) (s : State) : exec (.oscillatorInterval ch r) s = execOscillatorInterval ch r s := rfl
@[simp] theorem exec_oscillatorCount (ch : Fin 16) (r : Fin 2) (count : BitVec 16) (s : State) : exec (.oscillatorCount ch r count) s = execOscillatorCount ch r count s := rfl
@[simp] theorem exec_writeReadCompareInterval (ch : Fin 16) (r : Fin 2) (s : State) : exec (.writeReadCompareInterval ch r) s = execWriteReadCompareInterval ch r s := rfl
@[simp] theorem exec_writeReadCompareDone (ch : Fin 16) (r : Fin 2) (pass : List (Bool × Bool)) (s : State) : exec (.writeReadCompareDone ch r pass) s = execWriteReadCompareDone ch r pass s := rfl
@[simp] theorem exec_zqInterval (q : Fin 4) (pu pd odt : BitVec 6) (s : State) : exec (.zqInterval q pu pd odt) s = execZqInterval q pu pd odt s := rfl
@[simp] theorem exec_zqcalExpiry (ch : Fin 16) (r : Fin 2) (s : State) : exec (.zqcalExpiry ch r) s = execZqcalExpiry ch r s := rfl
@[simp] theorem exec_tapMove (t : TapId) (s : State) : exec (.tapMove t) s = execTapMove t s := rfl
@[simp] theorem exec_ack (classes : BitVec 3) (s : State) : exec (.ack classes) s = execAck classes s := rfl
@[simp] theorem exec_logClear (mask : BitVec 16) (s : State) : exec (.logClear mask) s = execLogClear mask s := rfl
@[simp] theorem exec_scrupleClear (mask : BitVec 16) (s : State) : exec (.scrupleClear mask) s = execScrupleClear mask s := rfl
@[simp] theorem exec_evac (ch : Fin 16) (s : State) : exec (.evac ch) s = execEvac ch s := rfl
@[simp] theorem exec_evacuationStart (s : State) : exec .evacuationStart s = execEvacuationStart s := rfl
@[simp] theorem exec_channelSwap (s : State) : exec .channelSwap s = execChannelSwap s := rfl
@[simp] theorem exec_swapDrainTimeout (s : State) : exec .swapDrainTimeout s = execSwapDrainTimeout s := rfl
@[simp] theorem exec_load (s : State) : exec .load s = execLoad s := rfl
@[simp] theorem exec_retire (s : State) : exec .retire s = execRetire s := rfl
@[simp] theorem exec_keyErase (slot : Fin 2) (s : State) : exec (.keyErase slot) s = execKeyErase slot s := rfl
@[simp] theorem exec_rekeyStart (s : State) : exec .rekeyStart s = execRekeyStart s := rfl
@[simp] theorem exec_rekeyAbort (s : State) : exec .rekeyAbort s = execRekeyAbort s := rfl
@[simp] theorem exec_rekeyPassEnd (s : State) : exec .rekeyPassEnd s = execRekeyPassEnd s := rfl
@[simp] theorem exec_trstNAssert (s : State) : exec .trstNAssert s = execTrstNAssert s := rfl
@[simp] theorem exec_idcode (s : State) : exec .idcode s = execIdcode s := rfl
@[simp] theorem exec_samplePreload (s : State) : exec .samplePreload s = execSamplePreload s := rfl
@[simp] theorem exec_extest (s : State) : exec .extest s = execExtest s := rfl
@[simp] theorem exec_clamp (s : State) : exec .clamp s = execClamp s := rfl
@[simp] theorem exec_highz (s : State) : exec .highz s = execHighz s := rfl
@[simp] theorem exec_chtest (s : State) : exec .chtest s = execChtest s := rfl
@[simp] theorem exec_chtestUpdate (dr : BitVec 32) (s : State) : exec (.chtestUpdate dr) s = execChtestUpdate dr s := rfl
@[simp] theorem exec_ijtagPub (s : State) : exec .ijtagPub s = execIjtagPub s := rfl
@[simp] theorem exec_ijtagSec (s : State) : exec .ijtagSec s = execIjtagSec s := rfl
@[simp] theorem exec_scanmode (s : State) : exec .scanmode s = execScanmode s := rfl
@[simp] theorem exec_bypass (s : State) : exec .bypass s = execBypass s := rfl
@[simp] theorem exec_channelTestGo (ch : Fin 16) (dbist lossok : Bool) (s : State) : exec (.channelTestGo ch dbist lossok) s = execChannelTestGo ch dbist lossok s := rfl
@[simp] theorem exec_channelTestAbort (ch : Fin 16) (s : State) : exec (.channelTestAbort ch) s = execChannelTestAbort ch s := rfl
@[simp] theorem exec_channelTestEnd (ch : Fin 16) (errs : BitVec 16) (fbit : BitVec 5) (s : State) : exec (.channelTestEnd ch errs fbit) s = execChannelTestEnd ch errs fbit s := rfl
@[simp] theorem exec_spillStart (d : Fin 8) (s : State) : exec (.spillStart d) s = execSpillStart d s := rfl
@[simp] theorem exec_kick (d : Fin 8) (s : State) : exec (.kick d) s = execKick d s := rfl
@[simp] theorem exec_spillPause (d : Fin 8) (s : State) : exec (.spillPause d) s = execSpillPause d s := rfl
@[simp] theorem exec_spillResume (d : Fin 8) (s : State) : exec (.spillResume d) s = execSpillResume d s := rfl
@[simp] theorem exec_spillAbort (d : Fin 8) (s : State) : exec (.spillAbort d) s = execSpillAbort d s := rfl
@[simp] theorem exec_pollExpiry (d : Fin 8) (s : State) : exec (.pollExpiry d) s = execPollExpiry d s := rfl
@[simp] theorem exec_descriptorFetched (d : Fin 8) (desc : BitVec 256) (resp : BitVec 2) (s : State) : exec (.descriptorFetched d desc resp) s = execDescriptorFetched d desc resp s := rfl
@[simp] theorem exec_chunkIssue (d : Fin 8) (s : State) : exec (.chunkIssue d) s = execChunkIssue d s := rfl
@[simp] theorem exec_axiReadResponse (d : Fin 8) (data : List Beat) (resp : BitVec 2) (s : State) : exec (.axiReadResponse d data resp) s = execAxiReadResponse d data resp s := rfl
@[simp] theorem exec_axiWriteResponse (d : Fin 8) (resp : BitVec 2) (s : State) : exec (.axiWriteResponse d resp) s = execAxiWriteResponse d resp s := rfl
@[simp] theorem exec_spillDrainComplete (d : Fin 8) (s : State) : exec (.spillDrainComplete d) s = execSpillDrainComplete d s := rfl
@[simp] theorem exec_counterLowWrite (c : CounterId) (data : Word) (s : State) : exec (.counterLowWrite c data) s = execCounterLowWrite c data s := rfl
@[simp] theorem exec_counterHighWrite (c : CounterId) (data : Word) (s : State) : exec (.counterHighWrite c data) s = execCounterHighWrite c data s := rfl
@[simp] theorem exec_clr (cs : CounterSet) (mask : BitVec 4) (s : State) : exec (.clr cs mask) s = execClr cs mask s := rfl
@[simp] theorem exec_clrall (s : State) : exec .clrall s = execClrall s := rfl
@[simp] theorem exec_snap (s : State) : exec .snap s = execSnap s := rfl
@[simp] theorem exec_freeze (on : Bool) (s : State) : exec (.freeze on) s = execFreeze on s := rfl
@[simp] theorem exec_counterWrap (c : CounterId) (s : State) : exec (.counterWrap c) s = execCounterWrap c s := rfl
@[simp] theorem exec_pmovf (s : State) : exec .pmovf s = execPmovf s := rfl
@[simp] theorem exec_registerRead (a : ApbRead) (s : State) : exec (.registerRead a) s = execRegisterRead a s := rfl

end Sys2Proof.Machine
end

