-- ==== Sys2Proof/Laws/DramFrame.lean ====
section
/-!
SUPPORT. The frame of the DRAM: every operation and every meaning that leaves what the DRAM holds as it was, function by
function. Absent are the functions that may change it: write bursts, what writes the scratch lines, resets.
-/

open Sys2Proof
namespace Sys2Proof.Machine

/-- The DRAM holds `p`. -/
def SameDram (p : List (Nat × Beat)) (s : State) : Prop := s.dram = p

theorem sameDram_mk {p : List (Nat × Beat)} {s : State} {porst : Bool} {instId : BitVec 14} {now : Nat} {rsck : Nat} {rfrac : Nat} {rsiAlive : Bool} {cfg : RegFile} {stat : RegFile} {caps : RegFile} {news : List (Field × News)} {parErr : List Nat} {walks : List (Nat × Word)} {frozen : List Nat} {apbM : Apb} {apbK : Apb} {pins : Pins} {clk : Clk} {load : Load} {tb : Tb} {brk : Broker} {ports : Vector Port 32} {wheel : Wheel} {chans : Vector Chan 16} {cals : Vector ChanCal 16} {quads : Vector Quad 4} {op : OpSeq} {flt : Flt} {mnt : Mnt} {keys : Keys} {tap : Tap} {spill : Vector Spill 8} {spillLast : Vector Nat 4} {spillAt : Vector Nat 4} {perf : Perf} {free : Nat} {pending : List Instr} (h : SameDram p s) : SameDram p (State.mk porst instId now rsck rfrac rsiAlive cfg stat caps news parErr walks frozen apbM apbK pins clk load tb brk ports wheel chans cals quads op flt mnt keys tap spill spillLast spillAt perf s.dram free pending) := h

theorem sameDram_ite {p : List (Nat × Beat)} {a b : State} {c : Prop} [Decidable c] (ha : SameDram p a) (hb : SameDram p b) : SameDram p (if c then a else b) := by
  split
  · exact ha
  · exact hb

theorem sameDram_foldl {p : List (Nat × Beat)} {α : Type} {f : State → α → State} {s : State} {l : List α}
    (hf : ∀ s x, SameDram p s → SameDram p (f s x)) (h : SameDram p s) : SameDram p (l.foldl f s) := by
  induction l generalizing s with
  | nil => exact h
  | cons x l ih => exact ih (hf s x h)

/-- A next state keeps the DRAM at `p`. -/
def SameDramO (p : List (Nat × Beat)) (o : Host.Outcome State Fault Refusal) : Prop := ∀ t, o = .next t → SameDram p t

theorem sameDramO_next {p : List (Nat × Beat)} {t : State} (h : SameDram p t) : SameDramO p (.next t) := by
  intro t' e
  cases e
  exact h

theorem sameDramO_refused {p : List (Nat × Beat)} {r : Refusal} : SameDramO p (.refused r) := by
  intro t e
  cases e

theorem sameDramO_ite {p : List (Nat × Beat)} {a b : Host.Outcome State Fault Refusal} {c : Prop} [Decidable c] (ha : SameDramO p a) (hb : SameDramO p b) :
    SameDramO p (if c then a else b) := by
  split
  · exact ha
  · exact hb

variable {p : List (Nat × Beat)} {s : State}

theorem State.setSt_sameDram {a1 : Field} {a2 : Nat} (h : SameDram p s) : SameDram p (State.setSt s a1 a2) := by
  unfold State.setSt
  exact sameDram_ite h (h)

theorem State.tell_sameDram {a1 : Field} {a2 : News} (h : SameDram p s) :
    SameDram p (State.tell s a1 a2) := by
  unfold State.tell
  exact (sameDram_mk h)

theorem State.bump_sameDram {a1 : Field} {a2 : Nat} (h : SameDram p s) :
    SameDram p (State.bump s a1 a2) := by
  unfold State.bump
  exact (State.tell_sameDram (State.setSt_sameDram h))

theorem State.setBits_sameDram {a1 : Field} {a2 : Nat} (h : SameDram p s) :
    SameDram p (State.setBits s a1 a2) := by
  unfold State.setBits
  exact (State.tell_sameDram (State.setSt_sameDram h))

theorem State.setCfgWord_sameDram {a1 : Nat} {a2 : Word} (h : SameDram p s) : SameDram p (State.setCfgWord s a1 a2) := by
  unfold State.setCfgWord
  exact sameDram_ite h (h)

theorem State.setCf_sameDram {a1 : Field} {a2 : Nat} (h : SameDram p s) :
    SameDram p (State.setCf s a1 a2) := by
  unfold State.setCf
  exact (State.setCfgWord_sameDram h)

theorem State.stamp_sameDram {a1 : Field} {a2 : Field} (h : SameDram p s) :
    SameDram p (State.stamp s a1 a2) := by
  unfold State.stamp
  exact (State.setSt_sameDram (State.setSt_sameDram h))

theorem State.note_sameDram {a1 : Ev} {a2 : Nat} {a3 : Nat} (h : SameDram p s) :
    SameDram p (State.note s a1 a2 a3) := by
  unfold State.note
  extract_lets x1
  exact (sameDram_mk h)

theorem State.onChan_sameDram {a1 : Nat} {a2 : Chan → Chan} (h : SameDram p s) :
    SameDram p (State.onChan s a1 a2) := by
  unfold State.onChan
  exact (sameDram_mk h)

theorem State.onCal_sameDram {a1 : Nat} {a2 : ChanCal → ChanCal} (h : SameDram p s) :
    SameDram p (State.onCal s a1 a2) := by
  unfold State.onCal
  exact (sameDram_mk h)

theorem State.onQuad_sameDram {a1 : Nat} {a2 : Quad → Quad} (h : SameDram p s) :
    SameDram p (State.onQuad s a1 a2) := by
  unfold State.onQuad
  exact (sameDram_mk h)

theorem State.onPort_sameDram {a1 : Nat} {a2 : Port → Port} (h : SameDram p s) :
    SameDram p (State.onPort s a1 a2) := by
  unfold State.onPort
  exact (sameDram_mk h)

theorem State.onSpill_sameDram {a1 : Nat} {a2 : Spill → Spill} (h : SameDram p s) :
    SameDram p (State.onSpill s a1 a2) := by
  unfold State.onSpill
  exact (sameDram_mk h)

theorem State.onRank_sameDram {a1 : Nat} {a2 : Nat} {a3 : Rank → Rank} (h : SameDram p s) :
    SameDram p (State.onRank s a1 a2 a3) := by
  unfold State.onRank
  exact (State.onChan_sameDram h)

theorem State.onQuadClk_sameDram {a1 : Nat} {a2 : QuadClk → QuadClk} (h : SameDram p s) :
    SameDram p (State.onQuadClk s a1 a2) := by
  unfold State.onQuadClk
  extract_lets x1
  exact (sameDram_mk h)

theorem State.setTable_sameDram {a1 : List Nat} (h : SameDram p s) :
    SameDram p (State.setTable s a1) := by
  unfold State.setTable
  extract_lets x1
  exact (State.setCf_sameDram (State.setCf_sameDram h))

theorem State.onRanks_sameDram {a1 : Nat} {a2 : Rank → Rank} (h : SameDram p s) :
    SameDram p (State.onRanks s a1 a2) := by
  unfold State.onRanks
  exact (State.onChan_sameDram h)

theorem State.setPartner_sameDram {a1 : Nat} {a2 : Option Nat} (h : SameDram p s) :
    SameDram p (State.setPartner s a1 a2) := by
  unfold State.setPartner
  exact (State.setSt_sameDram (State.setSt_sameDram h))

theorem State.onPerf_sameDram {a1 : Perf → Perf} (h : SameDram p s) :
    SameDram p (State.onPerf s a1) := by
  unfold State.onPerf
  exact (sameDram_mk h)

theorem dropHeld_sameDram {a0 : Nat} (h : SameDram p s) :
    SameDram p (dropHeld a0 s) := by
  unfold dropHeld
  exact (State.onPerf_sameDram h)

theorem State.setBit_sameDram {a1 : Field} {a2 : Nat} (h : SameDram p s) :
    SameDram p (State.setBit s a1 a2) := by
  unfold State.setBit
  exact (State.setBits_sameDram h)

theorem event_sameDram {a0 : Evt} (h : SameDram p s) :
    SameDram p (event a0 s) := by
  unfold event
  exact (State.setBit_sameDram h)

theorem enterLog_sameDram {a0 : LogEntry} (h : SameDram p s) :
    SameDram p (enterLog a0 s) := by
  unfold enterLog
  split
  · exact (State.bump_sameDram h)
  · extract_lets x1
    exact (sameDram_mk h)

theorem raise_sameDram {a0 : Src} {a1 : Nat} {a2 : Nat} (h : SameDram p s) :
    SameDram p (raise a0 a1 a2 s) := by
  unfold raise
  extract_lets x1 x2
  exact (sameDram_mk h)

theorem spillHalt_sameDram {a0 : Nat} {a1 : Nat} (h : SameDram p s) :
    SameDram p (spillHalt a0 a1 s) := by
  unfold spillHalt
  split
  · exact (event_sameDram (State.onSpill_sameDram h))
  · exact (event_sameDram (State.onSpill_sameDram h))
  · exact (event_sameDram (State.onSpill_sameDram h))
  · exact h

theorem spillStops_sameDram (h : SameDram p s) :
    SameDram p (spillStops s) := by
  unfold spillStops
  exact (sameDram_foldl (fun _ _ h1 => (spillHalt_sameDram h1)) h)

theorem stopBlock_sameDram (h : SameDram p s) :
    SameDram p (stopBlock s) := by
  unfold stopBlock
  extract_lets x1 x2
  exact (spillStops_sameDram (sameDram_mk h))

theorem halt_sameDram (h : SameDram p s) :
    SameDram p (halt s) := by
  unfold halt
  extract_lets x1
  exact (stopBlock_sameDram (sameDram_mk h))

theorem takeMode_sameDram {a0 : Nat} (h : SameDram p s) :
    SameDram p (takeMode a0 s) := by
  unfold takeMode
  extract_lets x1 x2 x3
  have h4 : SameDram p x2 := (sameDram_ite h (sameDram_mk h))
  exact (sameDram_ite (sameDram_mk h4) h4)

theorem judge_sameDram {a0 : Flt} {a1 : LogEntry} (h : SameDram p s) :
    SameDram p (judge a0 a1 s) := by
  unfold judge
  extract_lets x1 x2 x3 x4 x5 x6
  have h7 : ∀ y0 y1, SameDram p y1 → SameDram p (x3 y0 y1) := by
    intro y0 y1 h7_1
    unfold x3
    exact (sameDram_ite h7_1 (enterLog_sameDram h7_1))
  have h8 : SameDram p x4 := (h7 _ _ (sameDram_ite (halt_sameDram h) h))
  have h9 : SameDram p x5 := (State.bump_sameDram (State.setBit_sameDram h8))
  have h10 : SameDram p x6 := (sameDram_mk h9)
  exact (sameDram_ite (h7 _ _ h) (sameDram_ite h9 (sameDram_ite (takeMode_sameDram h10) h10)))

theorem settleLog_sameDram (h : SameDram p s) :
    SameDram p (settleLog s) := by
  unfold settleLog
  extract_lets x1
  exact (sameDram_foldl (fun _ _ h2 => (judge_sameDram h2)) (sameDram_mk h))

theorem setIngHold_sameDram {a0 : Nat} {a1 : Bool} (h : SameDram p s) :
    SameDram p (setIngHold a0 a1 s) := by
  unfold setIngHold
  extract_lets x1 x2
  exact (sameDram_ite (sameDram_mk h) h)

theorem tunFallback_sameDram {a0 : Nat} {a1 : Nat} {a2 : Nat} (h : SameDram p s) :
    SameDram p (tunFallback a0 a1 a2 s) := by
  unfold tunFallback
  extract_lets x1 x2
  have h3 : SameDram p x2 := (sameDram_ite (event_sameDram (State.setSt_sameDram h)) h)
  exact (sameDram_ite (State.setSt_sameDram h3) h3)

theorem tunCc_sameDram {a0 : Nat} (h : SameDram p s) :
    SameDram p (tunCc a0 s) := by
  unfold tunCc
  extract_lets x1 x2 x3 x4 x5 x6 x7 x8 x9
  have h10 : SameDram p x4 := (State.onPort_sameDram h)
  have h11 : SameDram p x6 := (sameDram_ite (State.bump_sameDram h10) h10)
  have h12 : SameDram p x7 := (setIngHold_sameDram h11)
  have h13 : SameDram p x8 := (sameDram_ite (State.setSt_sameDram h12) h12)
  have h14 : SameDram p x9 := (sameDram_ite (State.bump_sameDram h13) h13)
  exact (sameDram_ite (tunFallback_sameDram h14) h14)

theorem portHalt_sameDram {a0 : Nat} {a1 : Nat} (h : SameDram p s) :
    SameDram p (portHalt a0 a1 s) := by
  unfold portHalt
  split
  · exact (State.onPort_sameDram h)
  · exact (State.onPort_sameDram h)
  · exact (State.onPort_sameDram h)
  · exact (sameDram_ite (State.onPort_sameDram h) h)
  · exact h

theorem accept__sameDram {a0 : Nat} {a1 : Req} (h : SameDram p s) :
    SameDram p (accept_ a0 a1 s) := by
  unfold accept_
  extract_lets x1 x2 x3 x4 x5
  have h6 : SameDram p x4 := (State.onPort_sameDram h)
  have h7 : SameDram p x5 := (State.note_sameDram h6)
  exact (sameDram_ite (portHalt_sameDram h7) h7)

theorem takeBeat_sameDram {a0 : Nat} {a1 : WBeat} {a2 : Bool} (h : SameDram p s) :
    SameDram p (takeBeat a0 a1 a2 s) := by
  unfold takeBeat
  split
  · exact h
  · extract_lets x1
    have h2 : SameDram p x1 := (State.onPort_sameDram (State.note_sameDram h))
    exact (sameDram_ite (portHalt_sameDram (State.onPort_sameDram h2)) (State.onPort_sameDram h2))

theorem splitNext_sameDram {a0 : Nat} (h : SameDram p s) :
    SameDram p (splitNext a0 s) := by
  unfold splitNext
  split
  · exact h
  · extract_lets x1
    exact (sameDram_ite (State.onPort_sameDram h) h)

theorem addPerch_sameDram {a0 : Nat} {a1 : Nat} {a2 : PerchLine} (h : SameDram p s) :
    SameDram p (addPerch a0 a1 a2 s) := by
  unfold addPerch
  exact (State.onChan_sameDram h)

theorem handLine_sameDram {a0 : Nat} (h : SameDram p s) :
    SameDram p (handLine a0 s) := by
  unfold handLine
  split
  · exact h
  · split
    · exact (State.onPort_sameDram h)
    · extract_lets x1 x2 x3
      have h4 : ∀ y0 y1, SameDram p y1 → SameDram p (x1 y0 y1) := by
        intro y0 y1 h4_1
        unfold x1
        extract_lets x5
        have h6 : SameDram p x5 := (State.onPort_sameDram h4_1)
        exact (State.onPort_sameDram h6)
      have h7 : SameDram p x3 := (sameDram_ite (State.note_sameDram h) h)
      apply sameDram_ite
      · exact (sameDram_ite (h4 _ _ h) h)
      · split
        · extract_lets x8
          exact (sameDram_ite (h4 _ _ h) (sameDram_ite h (h4 _ _ (addPerch_sameDram h7))))

theorem answer_sameDram {a0 : Nat} {a1 : Nat} {a2 : Nat} {a3 : Outcome} {a4 : Line} (h : SameDram p s) :
    SameDram p (answer a0 a1 a2 a3 a4 s) := by
  unfold answer
  exact (State.onPort_sameDram h)

theorem countResponse_sameDram {a0 : Nat} {a1 : Req} {a2 : ReqLine} (h : SameDram p s) :
    SameDram p (countResponse a0 a1 a2 s) := by
  unfold countResponse
  extract_lets x1 x2 x3 x4 x5
  have h6 : SameDram p x2 := (State.note_sameDram h)
  have h7 : SameDram p x3 := (State.bump_sameDram h6)
  have h8 : SameDram p x4 := (State.setSt_sameDram (State.setSt_sameDram h7))
  have h9 : SameDram p x5 := (State.setSt_sameDram (State.setSt_sameDram h8))
  exact (sameDram_ite h (sameDram_ite (State.setSt_sameDram h7) (State.setSt_sameDram (State.setSt_sameDram h9))))

theorem finishReq_sameDram {a0 : Nat} {a1 : Nat} (h : SameDram p s) :
    SameDram p (finishReq a0 a1 s) := by
  unfold finishReq
  exact (State.onPort_sameDram h)

theorem showB_sameDram {a0 : Nat} (h : SameDram p s) :
    SameDram p (showB a0 s) := by
  unfold showB
  apply sameDram_ite
  · exact h
  · split
    · exact h
    · exact (State.onPort_sameDram h)

theorem sendB_sameDram {a0 : Nat} {a1 : Req} (h : SameDram p s) :
    SameDram p (sendB a0 a1 s) := by
  unfold sendB
  extract_lets x1
  have h2 : SameDram p x1 := (sameDram_foldl (fun _ _ h3 => (countResponse_sameDram h3)) h)
  exact (finishReq_sameDram (State.onPort_sameDram h2))

theorem sendD_sameDram {a0 : Nat} {a1 : Req} (h : SameDram p s) :
    SameDram p (sendD a0 a1 s) := by
  unfold sendD
  extract_lets x1 x2 x3 x4
  have h5 : SameDram p x3 := (State.note_sameDram (State.onPort_sameDram h))
  have h6 : SameDram p x4 := by
    unfold x4
    apply sameDram_ite
    · split
      · exact (countResponse_sameDram h5)
      · exact h5
    · exact h5
  exact (sameDram_ite (finishReq_sameDram (State.onPort_sameDram h6)) h6)

theorem tunReset_sameDram {a0 : Nat} (h : SameDram p s) :
    SameDram p (tunReset a0 s) := by
  unfold tunReset
  extract_lets x1 x2
  have h3 : SameDram p x2 := (State.onPort_sameDram h)
  exact (raise_sameDram (State.bump_sameDram h3))

theorem flushStart_sameDram {a0 : Nat} (h : SameDram p s) :
    SameDram p (flushStart a0 s) := by
  unfold flushStart
  extract_lets x1
  have h2 : SameDram p x1 := (sameDram_mk h)
  exact (sameDram_ite (State.onPort_sameDram h2) h)

theorem portStop_sameDram {a0 : Nat} (h : SameDram p s) :
    SameDram p (portStop a0 s) := by
  unfold portStop
  exact (sameDram_ite (State.onPort_sameDram h) h)

theorem portResume_sameDram {a0 : Nat} (h : SameDram p s) :
    SameDram p (portResume a0 s) := by
  unfold portResume
  extract_lets x1
  split
  · exact (State.onPort_sameDram h)
  · exact (State.onPort_sameDram h)
  · exact (sameDram_ite (State.onPort_sameDram h) h)
  · exact h

theorem State.onOp_sameDram {a1 : Nat} {a2 : Nat} {a3 : Op → Op} (h : SameDram p s) :
    SameDram p (State.onOp s a1 a2 a3) := by
  unfold State.onOp
  exact (State.onChan_sameDram h)

theorem State.dropOp_sameDram {a1 : Nat} {a2 : Nat} (h : SameDram p s) :
    SameDram p (State.dropOp s a1 a2) := by
  unfold State.dropOp
  exact (State.onChan_sameDram h)

theorem State.addOp_sameDram {a1 : Nat} {a2 : Op} (h : SameDram p s) :
    SameDram p (State.addOp s a1 a2) := by
  unfold State.addOp
  exact (State.onChan_sameDram h)

theorem State.insertOp_sameDram {a1 : Nat} {a2 : Nat} {a3 : Op} (h : SameDram p s) :
    SameDram p (State.insertOp s a1 a2 a3) := by
  unfold State.insertOp
  exact (State.onChan_sameDram h)

theorem State.addRecompute_sameDram {a1 : Nat} {a2 : Op} (h : SameDram p s) :
    SameDram p (State.addRecompute s a1 a2) := by
  unfold State.addRecompute
  exact (State.onChan_sameDram h)

theorem answerOp_sameDram {a0 : Op} {a1 : Outcome} {a2 : Line} (h : SameDram p s) :
    SameDram p (answerOp a0 a1 a2 s) := by
  unfold answerOp
  exact (sameDram_ite (answer_sameDram h) h)

theorem completeWrites_sameDram {a0 : Nat} {a1 : Nat} {a2 : Outcome} (h : SameDram p s) :
    SameDram p (completeWrites a0 a1 a2 s) := by
  unfold completeWrites
  exact (sameDram_foldl (fun _ _ h1 => (sameDram_ite (State.onOp_sameDram (answerOp_sameDram h1)) h1)) h)

theorem State.freeGillAt_sameDram {a1 : Nat} {a2 : Nat} (h : SameDram p s) :
    SameDram p (State.freeGillAt s a1 a2) := by
  unfold State.freeGillAt
  exact (State.onChan_sameDram h)

theorem State.dropWrites_sameDram {a1 : Nat} {a2 : Nat} (h : SameDram p s) :
    SameDram p (State.dropWrites s a1 a2) := by
  unfold State.dropWrites
  exact (State.onChan_sameDram h)

theorem startEviction_sameDram {a0 : Nat} {a1 : Nat} (h : SameDram p s) :
    SameDram p (startEviction a0 a1 s) := by
  unfold startEviction
  extract_lets x1
  split
  · split
    · exact h
    · extract_lets x2 x3 x4
      have h5 : SameDram p x4 := (State.bump_sameDram (State.insertOp_sameDram h))
      exact (State.note_sameDram (State.bump_sameDram h5))
  · exact h

theorem startEvictions_sameDram {a0 : Nat} (h : SameDram p s) :
    SameDram p (startEvictions a0 s) := by
  unfold startEvictions
  exact (sameDram_foldl (fun _ _ h1 => (startEviction_sameDram h1)) h)

theorem State.onWay_sameDram {a1 : Nat} {a2 : Nat} {a3 : Way → Way} (h : SameDram p s) :
    SameDram p (State.onWay s a1 a2 a3) := by
  unfold State.onWay
  exact (State.onQuad_sameDram h)

theorem State.writeback_sameDram {a1 : Nat} {a2 : Nat} {a3 : Line} {a4 : Bool} (h : SameDram p s) :
    SameDram p (State.writeback s a1 a2 a3 a4) := by
  unfold State.writeback
  extract_lets x1 x2
  exact (State.note_sameDram (State.addOp_sameDram h))

theorem State.cleanWay_sameDram {a1 : Nat} {a2 : Nat} {a3 : Bool} (h : SameDram p s) :
    SameDram p (State.cleanWay s a1 a2 a3) := by
  unfold State.cleanWay
  extract_lets x1
  exact (sameDram_ite (State.onWay_sameDram (State.writeback_sameDram h)) h)

theorem State.onLane_sameDram {a1 : Nat} {a2 : Nat} {a3 : Lane → Lane} (h : SameDram p s) :
    SameDram p (State.onLane s a1 a2 a3) := by
  unfold State.onLane
  exact (State.onQuad_sameDram h)

theorem State.addFill_sameDram {a1 : OpKind} {a2 : Nat} {a3 : Nat} {a4 : Option Nat} {a5 : Option (Nat × Nat)} {a6 : Nat} (h : SameDram p s) :
    SameDram p (State.addFill s a1 a2 a3 a4 a5 a6) := by
  unfold State.addFill
  extract_lets x1
  exact (State.addOp_sameDram h)

theorem updateEntry_sameDram {a0 : Nat} {a1 : Nat} {a2 : Option Nat} {a3 : Entry} (h : SameDram p s) :
    SameDram p (updateEntry a0 a1 a2 a3 s) := by
  unfold updateEntry
  split
  · exact (State.onWay_sameDram h)
  · extract_lets x1
    exact (State.addOp_sameDram h)

theorem State.unpin_sameDram {a1 : Nat} {a2 : Nat} (h : SameDram p s) :
    SameDram p (State.unpin s a1 a2) := by
  unfold State.unpin
  exact (State.onOp_sameDram h)

theorem State.onEvac_sameDram {a1 : Evac → Evac} (h : SameDram p s) :
    SameDram p (State.onEvac s a1) := by
  unfold State.onEvac
  extract_lets x1
  exact (sameDram_mk h)

theorem State.noteCreated_sameDram {a1 : Nat} {a2 : Nat} (h : SameDram p s) :
    SameDram p (State.noteCreated s a1 a2) := by
  unfold State.noteCreated
  exact (sameDram_ite (State.onEvac_sameDram h) (State.onChan_sameDram h))

theorem dropCached_sameDram {a0 : Nat} (h : SameDram p s) :
    SameDram p (dropCached a0 s) := by
  unfold dropCached
  extract_lets x1 x2
  exact (sameDram_ite (State.bump_sameDram (State.onQuad_sameDram h)) h)

theorem flushCache_sameDram {a0 : Nat} (h : SameDram p s) :
    SameDram p (flushCache a0 s) := by
  unfold flushCache
  exact (sameDram_foldl (fun _ _ h1 => (State.cleanWay_sameDram h1)) h)

theorem clearPast_sameDram {a0 a1 : Nat} (h : SameDram p s) : SameDram p (clearPast a0 a1 s) := by
  induction a0 generalizing s with
  | zero => exact h
  | succ n ih =>
    unfold clearPast
    exact sameDram_ite (ih (State.setSt_sameDram (State.onChan_sameDram h))) h

theorem clearDone_sameDram {a0 : Nat} (h : SameDram p s) :
    SameDram p (clearDone a0 s) := by
  unfold clearDone
  exact (sameDram_ite (State.setSt_sameDram (State.onChan_sameDram h)) h)

theorem startClearing_sameDram {a0 : Nat} {a1 : Nat} (h : SameDram p s) :
    SameDram p (startClearing a0 a1 s) := by
  unfold startClearing
  extract_lets x1
  have h2 : SameDram p x1 := (State.setSt_sameDram (State.setSt_sameDram h))
  exact (clearDone_sameDram (State.onChan_sameDram h2))

theorem clearNext_sameDram {a0 : Nat} (h : SameDram p s) :
    SameDram p (clearNext a0 s) := by
  unfold clearNext
  extract_lets x1 x2 x3
  have h4 : SameDram p x2 := (clearDone_sameDram (clearPast_sameDram h))
  apply sameDram_ite
  · exact h
  · split
    · exact h4
    · extract_lets x5 x6 x7 x8 x9
      have h10 : SameDram p x6 := (State.onChan_sameDram h4)
      exact (sameDram_ite h4 (sameDram_ite h10 (State.note_sameDram (State.addOp_sameDram h10))))

theorem clearedLine_sameDram {a0 : Nat} {a1 : Nat} (h : SameDram p s) :
    SameDram p (clearedLine a0 a1 s) := by
  unfold clearedLine
  extract_lets x1 x2 x3 x4
  have h5 : SameDram p x4 := (State.onChan_sameDram h)
  exact (clearDone_sameDram (clearPast_sameDram (State.setSt_sameDram h5)))

theorem enterScruple_sameDram {a0 : Nat} {a1 : Nat} {a2 : Stamp} (h : SameDram p s) :
    SameDram p (enterScruple a0 a1 a2 s) := by
  unfold enterScruple
  extract_lets x1 x2 x3 x4
  have h5 : ∀ y0 y1, SameDram p (x4 y0 y1) := by
    intro y0 y1 
    unfold x4
    exact (sameDram_mk h)
  split
  · exact (h5 _ _)
  · split
    · exact (h5 _ _)
    · split
      · exact (h5 _ _)
      · exact (State.bump_sameDram h)

theorem scruple_sameDram {a0 : Nat} {a1 : Nat} (h : SameDram p s) :
    SameDram p (scruple a0 a1 s) := by
  unfold scruple
  extract_lets x1
  exact (sameDram_mk h)

theorem settleScruple_sameDram (h : SameDram p s) :
    SameDram p (settleScruple s) := by
  unfold settleScruple
  extract_lets x1
  exact (sameDram_foldl (fun _ _ h2 => (enterScruple_sameDram h2)) (sameDram_mk h))

theorem reserveSpare_sameDram {a0 : Nat} (h : SameDram p s) :
    SameDram p (reserveSpare a0 s) := by
  unfold reserveSpare
  extract_lets x1
  split
  · extract_lets x2
    have h3 : SameDram p x2 := (State.setSt_sameDram (State.onChan_sameDram h))
    exact (sameDram_ite (State.onChan_sameDram (State.onChan_sameDram h)) (raise_sameDram h3))
  · exact (raise_sameDram (State.onChan_sameDram h))

theorem becomeWearing_sameDram {a0 : Nat} {a1 : Nat} (h : SameDram p s) :
    SameDram p (becomeWearing a0 a1 s) := by
  unfold becomeWearing
  exact (State.setSt_sameDram (State.onChan_sameDram h))

theorem wearTest_sameDram {a0 : Nat} (h : SameDram p s) :
    SameDram p (wearTest a0 s) := by
  unfold wearTest
  exact (sameDram_ite h (sameDram_ite (becomeWearing_sameDram h) (sameDram_ite (becomeWearing_sameDram h) h)))

theorem State.bump48_sameDram {a1 : Field} {a2 : Field} {a3 : Nat} (h : SameDram p s) :
    SameDram p (State.bump48 s a1 a2 a3) := by
  unfold State.bump48
  extract_lets x1
  exact (State.tell_sameDram (State.setSt_sameDram (State.setSt_sameDram h)))

theorem countFetch_sameDram {a0 : Nat} {a1 : Bool} (h : SameDram p s) :
    SameDram p (countFetch a0 a1 s) := by
  unfold countFetch
  extract_lets x1 x2 x3 x4
  have h5 : SameDram p x1 := (State.bump48_sameDram h)
  have h6 : SameDram p x3 := (State.setSt_sameDram h5)
  have h7 : SameDram p x4 := (State.setSt_sameDram h6)
  exact (sameDram_ite h5 (sameDram_ite (State.setSt_sameDram h5) (State.setSt_sameDram (State.setSt_sameDram (State.setSt_sameDram h7)))))

theorem transient_sameDram {a0 : Nat} {a1 : Nat} (h : SameDram p s) :
    SameDram p (transient a0 a1 s) := by
  unfold transient
  extract_lets x1 x2
  have h3 : SameDram p x1 := (scruple_sameDram (State.bump_sameDram h))
  have h4 : SameDram p x2 := (raise_sameDram h3)
  exact (sameDram_ite (wearTest_sameDram (State.bump_sameDram h4)) h4)

theorem persistent_sameDram {a0 : Nat} {a1 : Nat} (h : SameDram p s) :
    SameDram p (persistent a0 a1 s) := by
  unfold persistent
  extract_lets x1
  have h2 : SameDram p x1 := (raise_sameDram (State.bump_sameDram h))
  exact (sameDram_ite (wearTest_sameDram (State.bump_sameDram h2)) h2)

theorem peckSkipState_sameDram {a0 : Nat} (h : SameDram p s) :
    SameDram p (peckSkipState a0 s) := by
  unfold peckSkipState
  exact (State.bump_sameDram h)

theorem peckSkipHeld_sameDram {a0 : Nat} (h : SameDram p s) :
    SameDram p (peckSkipHeld a0 s) := by
  unfold peckSkipHeld
  exact (State.bump_sameDram h)

theorem peckChecked_sameDram {a0 : Nat} {a1 : Bool} {a2 : Bool} (h : SameDram p s) :
    SameDram p (peckChecked a0 a1 a2 s) := by
  unfold peckChecked
  extract_lets x1 x2
  have h3 : SameDram p x1 := (State.bump_sameDram h)
  have h4 : SameDram p x2 := (sameDram_ite (State.bump_sameDram h3) h3)
  exact (sameDram_ite (State.bump_sameDram h4) h4)

theorem peckPoisoned_sameDram {a0 : Nat} {a1 : Nat} {a2 : Nat} (h : SameDram p s) :
    SameDram p (peckPoisoned a0 a1 a2 s) := by
  unfold peckPoisoned
  extract_lets x1
  have h2 : SameDram p x1 := (State.bump_sameDram (State.bump_sameDram h))
  exact (sameDram_ite h2 (State.setSt_sameDram (State.setSt_sameDram (State.setSt_sameDram h2))))

theorem scrubDone_sameDram {a0 : Nat} (h : SameDram p s) :
    SameDram p (scrubDone a0 s) := by
  unfold scrubDone
  exact (State.onQuad_sameDram h)

theorem endGap_sameDram {a0 : GapKind} (h : SameDram p s) :
    SameDram p (endGap a0 s) := by
  unfold endGap
  extract_lets x1 x2 x3 x4 x5
  exact (sameDram_ite (sameDram_mk h) h)

theorem endGaps_sameDram (h : SameDram p s) :
    SameDram p (endGaps s) := by
  unfold endGaps
  exact (endGap_sameDram (endGap_sameDram h))

theorem synFrame_sameDram (h : SameDram p s) :
    SameDram p (synFrame s) := by
  unfold synFrame
  extract_lets x1
  exact (sameDram_mk h)

theorem enterNosync_sameDram (h : SameDram p s) :
    SameDram p (enterNosync s) := by
  unfold enterNosync
  extract_lets x1
  exact (synFrame_sameDram (sameDram_mk h))

theorem sourceChanged_sameDram (h : SameDram p s) :
    SameDram p (sourceChanged s) := by
  unfold sourceChanged
  exact (enterNosync_sameDram (endGaps_sameDram h))

theorem takeWord_sameDram {a0 : BitVec 64} (h : SameDram p s) :
    SameDram p (takeWord a0 s) := by
  unfold takeWord
  extract_lets x1
  exact (sameDram_mk h)

theorem beginLine_sameDram {a0 : BitVec 16} {a1 : Bool} (h : SameDram p s) :
    SameDram p (beginLine a0 a1 s) := by
  unfold beginLine
  extract_lets x1 x2
  have h3 : SameDram p x1 := (endGap_sameDram h)
  exact (sameDram_mk h3)

theorem slip_sameDram (h : SameDram p s) :
    SameDram p (slip s) := by
  unfold slip
  exact (sameDram_ite h (State.bump_sameDram h))

theorem lineWordSeen_sameDram (h : SameDram p s) :
    SameDram p (lineWordSeen s) := by
  unfold lineWordSeen
  extract_lets x1
  exact (sameDram_mk h)

theorem adopt_sameDram {a0 : Nat} (h : SameDram p s) :
    SameDram p (adopt a0 s) := by
  unfold adopt
  extract_lets x1
  exact (sameDram_mk h)

theorem accept_sameDram {a0 : Nat} (h : SameDram p s) :
    SameDram p (accept a0 s) := by
  unfold accept
  extract_lets x1 x2 x3 x4 x5
  have h6 : SameDram p x1 := (adopt_sameDram h)
  have h7 : SameDram p x3 := (sameDram_mk h6)
  apply sameDram_ite
  · exact (event_sameDram (State.bump_sameDram (sameDram_mk h7)))
  · apply sameDram_ite
    · exact (sameDram_mk h6)
    · apply sameDram_ite
      · exact (adopt_sameDram h)
      · split
        · exact (sameDram_mk h)
        · exact (sameDram_ite (event_sameDram (State.bump_sameDram (adopt_sameDram h))) (sameDram_mk h))

theorem measure_sameDram {a0 : BitVec 24} {a1 : Nat} (h : SameDram p s) :
    SameDram p (measure a0 a1 s) := by
  unfold measure
  extract_lets x1 x2 x3
  have h4 : SameDram p x3 := (sameDram_mk h)
  apply sameDram_ite
  · exact h
  · clear_value x1
    split
    · extract_lets x5
      exact (sameDram_ite (sameDram_ite (State.bump_sameDram h4) (accept_sameDram h4)) h4)
    · exact h4

theorem lineWord_sameDram {a0 : BitVec 64} (h : SameDram p s) :
    SameDram p (lineWord a0 s) := by
  unfold lineWord
  extract_lets x1 x2 x3
  have h4 : SameDram p x2 := (sameDram_ite h (slip_sameDram h))
  exact (beginLine_sameDram (lineWordSeen_sameDram (sameDram_mk h4)))

theorem post_sameDram {a0 : GapKind} {a1 : Scope} {a2 : Work} {a3 a4 a6 : Nat} (h : SameDram p s) :
    SameDram p (post a0 a1 a2 a3 a4 s a6).2 := sameDram_mk h

theorem postBooking_sameDram {a0 : GapKind} {a1 : Scope} {a2 : Work} {a3 : Nat} {a4 : Nat} (h : SameDram p s) :
    SameDram p (postBooking a0 a1 a2 a3 a4 s) := by
  unfold postBooking
  exact (post_sameDram h)

theorem State.unpost_sameDram {a1 : Booking → Bool} (h : SameDram p s) :
    SameDram p (State.unpost s a1) := by
  unfold State.unpost
  extract_lets x1
  exact (sameDram_mk h)

theorem toSwap_sameDram (h : SameDram p s) :
    SameDram p (toSwap s) := by
  unfold toSwap
  split
  · exact h
  · exact (postBooking_sameDram (State.onEvac_sameDram h))

theorem migrated_sameDram {a0 : Nat} (h : SameDram p s) :
    SameDram p (migrated a0 s) := by
  unfold migrated
  split
  · exact h
  · extract_lets x1 x2 x3
    have h4 : SameDram p x2 := (State.setSt_sameDram h)
    have h5 : SameDram p x3 := (State.onEvac_sameDram h4)
    exact (sameDram_ite (toSwap_sameDram h5) h5)

theorem rekeyed_sameDram {a0 : Nat} {a1 : Nat} (h : SameDram p s) :
    SameDram p (rekeyed a0 a1 s) := by
  unfold rekeyed
  extract_lets x1 x2
  exact (State.setSt_sameDram (State.onChan_sameDram h))

theorem finishOp_sameDram {a0 : Nat} {a1 : Op} (h : SameDram p s) :
    SameDram p (finishOp a0 a1 s) := by
  unfold finishOp
  extract_lets x1
  have h2 : SameDram p x1 := (State.dropOp_sameDram h)
  split
  · exact (scrubDone_sameDram h2)
  · exact (migrated_sameDram h2)
  · exact (rekeyed_sameDram h2)
  · exact h2

theorem finishRead_sameDram {a0 : Nat} {a1 : Op} {a2 : Outcome} {a3 : Line} (h : SameDram p s) :
    SameDram p (finishRead a0 a1 a2 a3 s) := by
  unfold finishRead
  exact (finishOp_sameDram (answerOp_sameDram h))

theorem mirror_sameDram {a0 : Nat} {a1 : Nat} {a2 : Op} {a3 : Line} {a4 : Entry} {a5 : Bool} (h : SameDram p s) :
    SameDram p (mirror a0 a1 a2 a3 a4 a5 s) := by
  unfold mirror
  extract_lets x1
  exact (State.onOp_sameDram (State.onChan_sameDram h))

theorem mirrorDone_sameDram {a0 : Nat} {a1 : Nat} (h : SameDram p s) :
    SameDram p (mirrorDone a0 a1 s) := by
  unfold mirrorDone
  split
  · exact h
  · split
    · exact h
    · exact (sameDram_ite h (sameDram_ite (finishOp_sameDram h) (State.onOp_sameDram h)))

theorem handMirror_sameDram {a0 : Nat} (h : SameDram p s) :
    SameDram p (handMirror a0 s) := by
  unfold handMirror
  split
  · exact h
  · exact (sameDram_ite h (addPerch_sameDram (State.onChan_sameDram h)))

theorem dropMirrors_sameDram {a0 : Nat} (h : SameDram p s) :
    SameDram p (dropMirrors a0 s) := by
  unfold dropMirrors
  extract_lets x1
  exact (State.onChan_sameDram h)

theorem entryChange_sameDram {a0 : Nat} {a1 : Op} {a2 : Entry} (h : SameDram p s) :
    SameDram p (entryChange a0 a1 a2 s) := by
  unfold entryChange
  extract_lets x1
  have h2 : SameDram p x1 := (State.unpin_sameDram (updateEntry_sameDram h))
  split
  · exact (State.onOp_sameDram (mirror_sameDram h2))
  · exact (finishOp_sameDram h2)

theorem answerBehind_sameDram {a0 : Nat} {a1 : Nat} {a2 : Outcome} {a3 : Line} (h : SameDram p s) :
    SameDram p (answerBehind a0 a1 a2 a3 s) := by
  unfold answerBehind
  exact (sameDram_foldl (fun _ _ h1 => (sameDram_ite (finishRead_sameDram h1) h1)) h)

theorem fetchBehind_sameDram {a0 : Nat} {a1 : Nat} (h : SameDram p s) :
    SameDram p (fetchBehind a0 a1 s) := by
  unfold fetchBehind
  extract_lets x1
  exact (State.onChan_sameDram h)

theorem discardGill_sameDram {a0 : Nat} {a1 : Op} {a2 : Outcome} {a3 : LineState} (h : SameDram p s) :
    SameDram p (discardGill a0 a1 a2 a3 s) := by
  unfold discardGill
  extract_lets x1 x2
  have h3 : SameDram p x1 := (State.bump_sameDram (completeWrites_sameDram h))
  have h4 : SameDram p x2 := by
    unfold x2
    split
    · exact (State.freeGillAt_sameDram h3)
    · exact h3
  exact (answerBehind_sameDram (State.dropOp_sameDram (State.dropWrites_sameDram h4)))

theorem salvageGill_sameDram {a0 : Nat} {a1 : Op} (h : SameDram p s) :
    SameDram p (salvageGill a0 a1 s) := by
  unfold salvageGill
  extract_lets x1 x2
  have h3 : SameDram p x1 := (State.bump_sameDram (completeWrites_sameDram h))
  have h4 : SameDram p x2 := by
    unfold x2
    split
    · exact (State.freeGillAt_sameDram h3)
    · exact h3
  exact (fetchBehind_sameDram (State.dropOp_sameDram (State.dropWrites_sameDram h4)))

theorem mergeGill_sameDram {a0 : Nat} {a1 : Op} {a2 : Line} {a3 : Bool} (h : SameDram p s) :
    SameDram p (mergeGill a0 a1 a2 a3 s) := by
  unfold mergeGill
  split
  · exact (State.dropOp_sameDram h)
  · split
    · exact (State.dropOp_sameDram h)
    · extract_lets x1 x2 x3 x4
      have h5 : SameDram p x2 := (State.onChan_sameDram h)
      have h6 : SameDram p x3 := (completeWrites_sameDram h5)
      have h7 : SameDram p x4 := (State.onOp_sameDram h6)
      exact (answerBehind_sameDram (State.dropOp_sameDram h7))

theorem serve_sameDram {a0 : Nat} {a1 : Nat} {a2 : Option Nat} {a3 : Entry} (h : SameDram p s) :
    SameDram p (serve a0 a1 a2 a3 s) := by
  unfold serve
  split
  · exact h
  · extract_lets x1 x2 x3 x4
    have h5 : SameDram p x3 := (State.onOp_sameDram h)
    split
    · exact (sameDram_ite (finishRead_sameDram h5) h5)
    · exact (sameDram_ite (discardGill_sameDram h5) h5)
    · exact (sameDram_ite (finishOp_sameDram (peckSkipState_sameDram h5)) h5)
    · apply sameDram_ite
      · split
        · exact (State.onOp_sameDram (mirror_sameDram h5))
        · exact (finishOp_sameDram h5)
      · exact h5
    · exact (sameDram_ite (finishOp_sameDram h5) (sameDram_ite (entryChange_sameDram h5) h5))
    · exact (sameDram_ite (mirrorDone_sameDram (State.dropOp_sameDram (updateEntry_sameDram h5))) h5)
    · exact h5

theorem serveWaiting_sameDram {a0 : Nat} {a1 : Nat} {a2 : Option Nat} {a3 : Line} (h : SameDram p s) :
    SameDram p (serveWaiting a0 a1 a2 a3 s) := by
  unfold serveWaiting
  exact (sameDram_foldl (fun _ _ h1 => (sameDram_foldl (fun _ _ h2 => (sameDram_ite (serve_sameDram h2) h2)) h1)) h)

theorem requeueWaiting_sameDram {a0 : Nat} {a1 : Nat} (h : SameDram p s) :
    SameDram p (requeueWaiting a0 a1 s) := by
  unfold requeueWaiting
  extract_lets x1
  exact (sameDram_foldl (fun _ _ h2 => (State.onChan_sameDram h2)) h)

theorem bypassAccess_sameDram {a0 : Nat} {a1 : Op} (h : SameDram p s) :
    SameDram p (bypassAccess a0 a1 s) := by
  unfold bypassAccess
  extract_lets x1 x2
  exact (State.onLane_sameDram (State.addFill_sameDram h))

theorem takeWay_sameDram {a1 a2 a3 : Nat} {a4 : WaySt} {a5 : Bool} {a6 : Line} {w : Nat} {wb : Option (Nat × Nat)} {t : State}
    (h : SameDram p s) (e : s.takeWay a1 a2 a3 a4 a5 a6 = some (w, wb, t)) : SameDram p t := by
  unfold State.takeWay at e
  obtain ⟨⟨v, o⟩, -, e⟩ := Option.map_eq_some_iff.1 e
  injection e with e1 e2
  injection e2 with e2 e3
  subst e3
  apply State.onWay_sameDram
  cases o with
  | none => exact sameDram_ite (State.writeback_sameDram h) h
  | some r => exact State.onQuad_sameDram (sameDram_ite (State.writeback_sameDram h) h)

theorem createLine_sameDram {a0 a1 : Nat} {t : State} (h : SameDram p s) (e : createLine a0 a1 s = some t) : SameDram p t := by
  unfold createLine at e
  dsimp only at e
  split at e
  · cases e
  · split at e
    · injection e with e
      exact e ▸ State.noteCreated_sameDram (State.writeback_sameDram h)
    · obtain ⟨⟨w, wb, u⟩, hu, e⟩ := Option.map_eq_some_iff.1 e
      exact e ▸ State.noteCreated_sameDram (takeWay_sameDram h hu)

theorem missFill_sameDram {a0 : Nat} {a1 : Op} (h : SameDram p s) : SameDram p (missFill a0 a1 s) := by
  unfold missFill
  extract_lets x1 x2
  split
  · rename_i heq
    exact State.onLane_sameDram (State.onOp_sameDram (State.addFill_sameDram (takeWay_sameDram h heq)))
  · exact State.onLane_sameDram h

theorem lookupPresent_sameDram {a0 : Nat} {a1 : Op} (h : SameDram p s) :
    SameDram p (lookupPresent a0 a1 s) := by
  unfold lookupPresent
  extract_lets x1 x2
  split
  · extract_lets x3
    split
    · exact (serve_sameDram h)
    · exact (serve_sameDram h)
    · exact (State.onOp_sameDram h)
    · exact (State.onOp_sameDram h)
    · exact (bypassAccess_sameDram (State.bump_sameDram h))
  · exact (sameDram_ite (bypassAccess_sameDram h) (missFill_sameDram (State.note_sameDram (State.bump_sameDram h))))

theorem lookupAbsent_sameDram {a0 : Nat} {a1 : Op} (h : SameDram p s) :
    SameDram p (lookupAbsent a0 a1 s) := by
  unfold lookupAbsent
  split
  · exact (finishRead_sameDram h)
  · exact (finishOp_sameDram (peckSkipState_sameDram h))
  · exact (finishOp_sameDram h)
  · exact (serve_sameDram h)
  · split
    · exact h
    · rename_i heq
      have h1 := createLine_sameDram h heq
      exact (lookupPresent_sameDram (sameDram_ite (completeWrites_sameDram h1) h1))

theorem lookupOp_sameDram {a0 : Nat} {a1 : Op} (h : SameDram p s) :
    SameDram p (lookupOp a0 a1 s) := by
  unfold lookupOp
  exact (sameDram_ite (lookupPresent_sameDram (sameDram_ite (completeWrites_sameDram h) h)) (lookupAbsent_sameDram h))

theorem laneStep_sameDram {a0 : Nat} {a1 : Nat} (h : SameDram p s) :
    SameDram p (laneStep a0 a1 s) := by
  unfold laneStep
  extract_lets x1 x2 x3
  have h4 : SameDram p x2 := (State.onLane_sameDram h)
  apply sameDram_ite
  · exact h
  · split
    · split
      · exact (sameDram_ite (lookupPresent_sameDram (State.onLane_sameDram h4)) (missFill_sameDram h4))
      · exact (State.onLane_sameDram h4)
    · split
      · exact (lookupOp_sameDram (State.onLane_sameDram h4))
      · exact h4

theorem preloadTest_sameDram {a0 a1 : Nat} (h : SameDram p s) : SameDram p (preloadTest a0 a1 s) := by
  unfold preloadTest
  extract_lets x1 x2 x3
  refine sameDram_ite h (sameDram_ite (State.bump_sameDram h) ?_)
  split
  · exact State.bump_sameDram h
  · rename_i heq
    exact State.onLane_sameDram (State.addFill_sameDram (takeWay_sameDram h heq))

theorem fillOver_sameDram {a0 : Nat} {a1 : Op} (h : SameDram p s) :
    SameDram p (fillOver a0 a1 s) := by
  unfold fillOver
  exact (State.onLane_sameDram h)

theorem startRecompute_sameDram {a0 : Nat} {a1 : Op} (h : SameDram p s) :
    SameDram p (startRecompute a0 a1 s) := by
  unfold startRecompute
  extract_lets x1 x2 x3 x4 x5 x6
  have h7 : SameDram p x3 := (fillOver_sameDram h)
  have h8 : SameDram p x4 := by
    unfold x4
    split
    · exact (State.onOp_sameDram h7)
    · exact (State.onOp_sameDram (State.dropOp_sameDram h7))
    · exact (State.onWay_sameDram (State.dropOp_sameDram h7))
    · exact (State.dropOp_sameDram h7)
  have h9 : SameDram p x6 := (State.onQuad_sameDram h8)
  refine sameDram_foldl (fun _ _ h11 => ?_) ?_
  · extract_lets x12 x13
    exact (State.addRecompute_sameDram h11)
  · exact h9

theorem install_sameDram {a0 : Nat} {a1 : Op} {a2 : Line} (h : SameDram p s) :
    SameDram p (install a0 a1 a2 s) := by
  unfold install
  extract_lets x1 x2 x3
  have h4 : SameDram p x2 := (fillOver_sameDram h)
  split
  · exact (State.note_sameDram (State.onOp_sameDram h4))
  · split
    · exact (serve_sameDram (State.dropOp_sameDram h4))
    · exact (State.dropOp_sameDram h4)
  · extract_lets x5 x6
    have h7 : SameDram p x6 := (State.onWay_sameDram (State.dropOp_sameDram h4))
    exact (serveWaiting_sameDram h7)
  · exact (State.dropOp_sameDram h4)

theorem fillReturn_sameDram {a0 : Nat} {a1 : Op} {a2 : Line} (h : SameDram p s) :
    SameDram p (fillReturn a0 a1 a2 s) := by
  unfold fillReturn
  extract_lets x1 x2 x3
  have h4 : SameDram p x2 := (sameDram_ite (raise_sameDram (State.bump_sameDram h)) h)
  have h5 : SameDram p x3 := (fillOver_sameDram (State.dropOp_sameDram h))
  apply sameDram_ite
  · exact (install_sameDram h4)
  · apply sameDram_ite
    · split
      · exact (requeueWaiting_sameDram (State.bump_sameDram (State.onWay_sameDram h5)))
      · exact h5
    · exact (sameDram_ite (State.onOp_sameDram h) (startRecompute_sameDram h))

theorem State.writebackFirst_sameDram {a1 : Nat} {a2 : Nat} {a3 : Line} (h : SameDram p s) :
    SameDram p (State.writebackFirst s a1 a2 a3) := by
  unfold State.writebackFirst
  extract_lets x1 x2 x3 x4
  have h5 : SameDram p x4 := (State.note_sameDram h)
  split
  · exact (State.insertOp_sameDram h5)
  · exact (State.addOp_sameDram h5)

theorem rebuilt_sameDram {a0 : Nat} {a1 : Rebuild} (h : SameDram p s) :
    SameDram p (rebuilt a0 a1 s) := by
  unfold rebuilt
  extract_lets x1 x2 x3 x4 x5 x6
  have h7 : SameDram p x1 := (raise_sameDram (State.bump_sameDram h))
  have h8 : SameDram p x2 := (State.onQuad_sameDram h7)
  have h9 : SameDram p x3 := (State.onWay_sameDram h8)
  have h10 : SameDram p x6 := (sameDram_foldl (fun _ _ h11 => (State.dropOp_sameDram h11)) h8)
  exact (sameDram_ite (serveWaiting_sameDram h9) (serveWaiting_sameDram (State.writebackFirst_sameDram h10)))

theorem goodLine_sameDram {a0 : Nat} {a1 : Op} {a2 : Line} {a3 : Line} {a4 : Bool} {a5 : Bool} {a6 : Bool} {a7 : Bool} (h : SameDram p s) :
    SameDram p (goodLine a0 a1 a2 a3 a4 a5 a6 a7 s) := by
  unfold goodLine
  split
  · exact (finishRead_sameDram h)
  · exact (mergeGill_sameDram h)
  · extract_lets x1
    have h2 : SameDram p x1 := (peckChecked_sameDram h)
    exact (finishOp_sameDram (sameDram_ite h2 (updateEntry_sameDram h2)))
  · split
    · exact (State.onOp_sameDram (mirror_sameDram h))
    · exact (finishOp_sameDram h)
  · exact (sameDram_ite (State.onOp_sameDram h) (finishOp_sameDram h))
  · exact (finishOp_sameDram h)

theorem badLine_sameDram {a0 : Nat} {a1 : Op} (h : SameDram p s) :
    SameDram p (badLine a0 a1 s) := by
  unfold badLine
  extract_lets x1 x2 x3 x4
  have h5 : SameDram p x2 := (countFetch_sameDram (persistent_sameDram h))
  have h6 : SameDram p x3 := (State.unpin_sameDram (updateEntry_sameDram h5))
  split
  · exact (finishRead_sameDram h6)
  · exact (discardGill_sameDram h6)
  · exact (finishOp_sameDram (peckPoisoned_sameDram h6))
  · split
    · exact (State.onOp_sameDram (mirror_sameDram h6))
    · exact (finishOp_sameDram h6)
  · exact (finishOp_sameDram h6)

theorem refetch_sameDram {a0 : Nat} {a1 : Nat} (h : SameDram p s) :
    SameDram p (refetch a0 a1 s) := by
  unfold refetch
  extract_lets x1
  exact (State.onOp_sameDram h)

theorem checkLine_sameDram {a0 : Nat} {a1 : Op} {a2 : Line} (h : SameDram p s) :
    SameDram p (checkLine a0 a1 a2 s) := by
  unfold checkLine
  extract_lets x1 x2 x3 x4
  have h5 : SameDram p x3 := (countFetch_sameDram h)
  have h6 : SameDram p x4 := (State.bump_sameDram h5)
  exact (sameDram_ite (sameDram_ite (salvageGill_sameDram h6) (goodLine_sameDram h6)) (sameDram_ite (goodLine_sameDram (countFetch_sameDram (sameDram_ite (transient_sameDram h) h))) (sameDram_ite (refetch_sameDram (State.onOp_sameDram h)) (sameDram_ite (State.onOp_sameDram h) (badLine_sameDram h)))))

theorem recomputeRead_sameDram {a0 : Nat} {a1 : Nat} {a2 : Op} {a3 : Line} (h : SameDram p s) :
    SameDram p (recomputeRead a0 a1 a2 a3 s) := by
  unfold recomputeRead
  extract_lets x1 x2 x3 x4
  have h5 : SameDram p x4 := (State.onQuad_sameDram h)
  exact (State.dropOp_sameDram h5)

theorem bookStep_sameDram {a0 : Nat} {a1 : Nat} {a2 : Nat} (h : SameDram p s) :
    SameDram p (bookStep a0 a1 a2 s) := by
  unfold bookStep
  exact (State.onCal_sameDram h)

theorem zqDue_sameDram {a0 : Nat} {a1 : Nat} (h : SameDram p s) :
    SameDram p (zqDue a0 a1 s) := by
  unfold zqDue
  exact (bookStep_sameDram (sameDram_ite h (State.onCal_sameDram h)))

theorem cancelLatch_sameDram {a0 : Nat} {a1 : Nat} (h : SameDram p s) :
    SameDram p (cancelLatch a0 a1 s) := by
  unfold cancelLatch
  exact (State.onCal_sameDram (State.onRank_sameDram h))

theorem State.takeSlot_sameDram {a1 : Nat} {a2 : Nat} (h : SameDram p s) :
    SameDram p (State.takeSlot s a1 a2) := by
  unfold State.takeSlot
  exact (State.onChan_sameDram h)

theorem State.onBank_sameDram {a1 : Nat} {a2 : Nat} {a3 : Nat} {a4 : Bank → Bank} (h : SameDram p s) :
    SameDram p (State.onBank s a1 a2 a3 a4) := by
  unfold State.onBank
  exact (State.onRank_sameDram h)

theorem raiseRaa_sameDram {a0 : Nat} {a1 : Nat} {a2 : Nat} (h : SameDram p s) :
    SameDram p (raiseRaa a0 a1 a2 s) := by
  unfold raiseRaa
  extract_lets x1 x2
  have h3 : SameDram p x1 := (State.onBank_sameDram h)
  exact (sameDram_ite (sameDram_ite (State.setSt_sameDram h3) h3) h)

theorem lowerRaa_sameDram {a0 : Nat} {a1 : Nat} {a2 : Nat} {a3 : List Nat} (h : SameDram p s) :
    SameDram p (lowerRaa a0 a1 a2 a3 s) := by
  unfold lowerRaa
  exact (sameDram_ite (sameDram_foldl (fun _ _ h1 => (State.onBank_sameDram h1)) h) h)

theorem issueAct_sameDram {a0 : Nat} {a1 : Place} {a2 : Nat} (h : SameDram p s) :
    SameDram p (issueAct a0 a1 a2 s) := by
  unfold issueAct
  extract_lets x1
  have h2 : SameDram p x1 := (State.onRank_sameDram h)
  exact (State.note_sameDram (State.takeSlot_sameDram (raiseRaa_sameDram h2)))

theorem hitBank_sameDram {a0 : Nat} {a1 : Op} {a2 : Bool} (h : SameDram p s) :
    SameDram p (hitBank a0 a1 a2 s) := by
  unfold hitBank
  extract_lets x1 x2 x3 x4 x5 x6 x7
  have h8 : SameDram p x4 := (State.onBank_sameDram h)
  have h9 : SameDram p x6 := (State.onChan_sameDram h8)
  have h10 : SameDram p x7 := (sameDram_ite (State.note_sameDram h9) h9)
  exact (State.note_sameDram (State.takeSlot_sameDram h10))

theorem autoPrecharge_sameDram {a0 : Nat} {a1 : Op} {a2 : Bool} (h : SameDram p s) :
    SameDram p (autoPrecharge a0 a1 a2 s) := by
  unfold autoPrecharge
  extract_lets x1 x2 x3 x4
  exact (sameDram_ite (State.note_sameDram (State.onBank_sameDram h)) h)

theorem issueRd_sameDram {a0 : Nat} {a1 : Nat} (h : SameDram p s) :
    SameDram p (issueRd a0 a1 s) := by
  unfold issueRd
  split
  · exact h
  · extract_lets x1 x2 x3 x4 x5
    have h6 : SameDram p x1 := (sameDram_ite (State.note_sameDram h) h)
    have h7 : SameDram p x2 := (hitBank_sameDram h6)
    have h8 : SameDram p x5 := (State.onOp_sameDram h7)
    exact (sameDram_ite (autoPrecharge_sameDram h8) h8)

theorem sealWrite_sameDram {a0 : Nat} {a1 : Op} (h : SameDram p s) :
    SameDram p (sealWrite a0 a1 s) := by
  unfold sealWrite
  apply sameDram_ite
  · exact h
  · split
    · extract_lets x1 x2
      exact (State.onOp_sameDram h)
    · extract_lets x3
      exact (State.onOp_sameDram h)
    · exact h

theorem written_sameDram {a0 : Nat} {a1 : Op} (h : SameDram p s) :
    SameDram p (written a0 a1 s) := by
  unfold written
  extract_lets x1 x2
  have h3 : SameDram p x2 := (State.onOp_sameDram (updateEntry_sameDram h))
  split
  · apply sameDram_ite
    · exact h
    · split
      · exact (mirror_sameDram h3)
      · exact h3
  · apply sameDram_ite
    · exact h
    · split
      · exact (mirror_sameDram h3)
      · exact h3
  · exact (sameDram_ite (State.onOp_sameDram (updateEntry_sameDram h)) h)
  · exact h

theorem issuePre_sameDram {a0 : Nat} {a1 : Nat} {a2 : Nat} (h : SameDram p s) :
    SameDram p (issuePre a0 a1 a2 s) := by
  unfold issuePre
  exact (State.note_sameDram (State.takeSlot_sameDram (State.onBank_sameDram h)))

theorem countRefresh_sameDram {a0 : Nat} {a1 : Nat} {a2 : Bool} {a3 : Bool} (h : SameDram p s) :
    SameDram p (countRefresh a0 a1 a2 a3 s) := by
  unfold countRefresh
  extract_lets x1 x2 x3 x4
  have h5 : SameDram p x1 := (sameDram_ite (State.bump_sameDram h) (sameDram_ite (State.bump_sameDram h) h))
  have h6 : SameDram p x2 := (sameDram_ite h5 (State.note_sameDram h5))
  have h7 : SameDram p x3 := (sameDram_ite (bookStep_sameDram (State.bump_sameDram (State.onCal_sameDram h6))) h6)
  have h8 : SameDram p x4 := (State.onRank_sameDram h7)
  exact (State.note_sameDram (State.takeSlot_sameDram h8))

theorem issueRefpb_sameDram {a0 : Nat} {a1 : Nat} {a2 : Nat} {a3 : Bool} (h : SameDram p s) :
    SameDram p (issueRefpb a0 a1 a2 a3 s) := by
  unfold issueRefpb
  extract_lets x1 x2 x3 x4
  have h5 : SameDram p x2 := (countRefresh_sameDram h)
  have h6 : SameDram p x3 := (sameDram_foldl (fun _ _ h7 => (State.onBank_sameDram h7)) h5)
  have h8 : SameDram p x4 := (State.onRank_sameDram h6)
  exact (lowerRaa_sameDram h8)

theorem issueRefab_sameDram {a0 : Nat} {a1 : Nat} {a2 : Bool} (h : SameDram p s) :
    SameDram p (issueRefab a0 a1 a2 s) := by
  unfold issueRefab
  extract_lets x1 x2
  have h3 : SameDram p x1 := (countRefresh_sameDram h)
  have h4 : SameDram p x2 := (State.onRank_sameDram h3)
  exact (lowerRaa_sameDram h4)

theorem issueRfm_sameDram {a0 : Nat} {a1 : Nat} {a2 : Nat} (h : SameDram p s) :
    SameDram p (issueRfm a0 a1 a2 s) := by
  unfold issueRfm
  extract_lets x1
  have h2 : SameDram p x1 := (State.onBank_sameDram (State.bump_sameDram h))
  exact (State.takeSlot_sameDram (lowerRaa_sameDram h2))

theorem startOsc_sameDram {a0 : Nat} (h : SameDram p s) :
    SameDram p (startOsc a0 s) := by
  unfold startOsc
  split
  · exact (State.takeSlot_sameDram (State.onCal_sameDram h))
  · exact h

theorem recovered_sameDram {a0 : Nat} {a1 : Op} (h : SameDram p s) :
    SameDram p (recovered a0 a1 s) := by
  unfold recovered
  split
  · exact (State.dropWrites_sameDram h)
  · exact (mirrorDone_sameDram (State.dropOp_sameDram h))
  · exact (sameDram_ite (clearedLine_sameDram (State.dropOp_sameDram h)) (State.dropOp_sameDram h))
  · exact (finishOp_sameDram h)

theorem toWriteQueue_sameDram {a0 : Nat} {a1 : Nat} {a2 : Gill} {a3 : Op} (h : SameDram p s) :
    SameDram p (toWriteQueue a0 a1 a2 a3 s) := by
  unfold toWriteQueue
  extract_lets x1 x2
  have h3 : SameDram p x1 := (sameDram_ite h (State.bump_sameDram h))
  exact (State.freeGillAt_sameDram (State.onChan_sameDram h3))

theorem riseDebt_sameDram {a0 : Nat} {a1 : Nat} (h : SameDram p s) :
    SameDram p (riseDebt a0 a1 s) := by
  unfold riseDebt
  extract_lets x1 x2
  have h3 : SameDram p x2 := (State.onRank_sameDram h)
  exact (sameDram_ite (raise_sameDram (State.bump_sameDram h3)) h3)

theorem applyClass_sameDram {a0 : Nat} {a1 : Nat} {a2 : Nat} (h : SameDram p s) :
    SameDram p (applyClass a0 a1 a2 s) := by
  unfold applyClass
  extract_lets x1 x2
  have h3 : SameDram p x2 := (State.onRank_sameDram h)
  exact (sameDram_ite h3 (sameDram_ite (raise_sameDram h3) (sameDram_ite (raise_sameDram h3) h3)))

theorem applyHeld_sameDram {a0 : Nat} {a1 : Nat} (h : SameDram p s) :
    SameDram p (applyHeld a0 a1 s) := by
  unfold applyHeld
  extract_lets x1
  split
  · exact h
  · exact (State.onRank_sameDram (applyClass_sameDram h))

theorem readClass_sameDram {a0 : Nat} {a1 : Nat} {a2 : Nat} (h : SameDram p s) :
    SameDram p (readClass a0 a1 a2 s) := by
  unfold readClass
  extract_lets x1
  exact (sameDram_ite (State.onRank_sameDram h) (sameDram_ite (State.onRank_sameDram h) (applyClass_sameDram h)))

theorem issuePreab_sameDram {a0 : Nat} {a1 : Nat} (h : SameDram p s) :
    SameDram p (issuePreab a0 a1 s) := by
  unfold issuePreab
  extract_lets x1
  have h2 : SameDram p x1 := (State.onRank_sameDram h)
  exact (State.note_sameDram (State.takeSlot_sameDram h2))

theorem sleepRank_sameDram {a0 : Nat} {a1 : Nat} {a2 : PowerSt} (h : SameDram p s) :
    SameDram p (sleepRank a0 a1 a2 s) := by
  unfold sleepRank
  extract_lets x1
  have h2 : SameDram p x1 := (State.onRank_sameDram h)
  exact (State.takeSlot_sameDram (cancelLatch_sameDram h2))

theorem exitRank_sameDram {a0 : Nat} {a1 : Nat} (h : SameDram p s) :
    SameDram p (exitRank a0 a1 s) := by
  unfold exitRank
  extract_lets x1 x2 x3
  have h4 : SameDram p x3 := (State.onRank_sameDram h)
  exact (State.takeSlot_sameDram h4)

theorem busRead_sameDram {a0 : LoadPhase} {a1 : Nat} {a2 : Nat} {a3 : Nat} {a4 : Nat} (h : SameDram p s) :
    SameDram p (busRead a0 a1 a2 a3 a4 s) := by
  unfold busRead
  extract_lets x1
  exact (sameDram_mk h)

theorem loadAttempt_sameDram {a0 : Nat} {a1 : Nat} (h : SameDram p s) :
    SameDram p (loadAttempt a0 a1 s) := by
  unfold loadAttempt
  extract_lets x1
  exact (busRead_sameDram (sameDram_mk h))

theorem loadStart_sameDram (h : SameDram p s) :
    SameDram p (loadStart s) := by
  unfold loadStart
  exact (loadAttempt_sameDram h)

theorem loadFail_sameDram {a0 : Nat} (h : SameDram p s) :
    SameDram p (loadFail a0 s) := by
  unfold loadFail
  extract_lets x1 x2 x3
  have h4 : SameDram p x2 := (sameDram_mk h)
  exact (sameDram_ite (loadAttempt_sameDram h4) (raise_sameDram (sameDram_mk h4)))

theorem recordRead_sameDram {a0 : LoadPhase} {a1 : Nat} {a2 : Nat} (h : SameDram p s) :
    SameDram p (recordRead a0 a1 a2 s) := by
  unfold recordRead
  exact (busRead_sameDram h)

theorem passStart_sameDram {a0 : LoadPhase} {a1 : Nat} (h : SameDram p s) :
    SameDram p (passStart a0 a1 s) := by
  unfold passStart
  extract_lets x1 x2
  exact (recordRead_sameDram (sameDram_mk h))

theorem clear_wf_dram {f : RegFile} {m : Nat × Word → Nat × Word} (hm : ∀ e, (m e).1 = e.1) (h : f.wf) :
    RegFile.wf ((f.map m).filter fun e => decide (e.2 ≠ 0)) := by
  rw [wf_iff] at *
  refine ⟨List.Pairwise.filter _ (List.pairwise_map.2 (by simpa only [hm] using h.1)), ?_⟩
  intro e he
  simpa using (List.mem_filter.1 he).2

theorem recordValues_sameDram (h : SameDram p s) : SameDram p (recordValues s) := by
  have h1 (r : Word) : SameDram p { s with
      cfg := s.load.parse.writes.foldl (fun f e => f.set e.1
        ((f.get e.1 &&& ~~~((regDesc e.1).map RegDesc.loadable |>.getD 0)) ||| e.2))
        ((s.cfg.map fun (e : Nat × Word) => (e.1, e.2 &&& ~~~((regDesc e.1).map RegDesc.loadable |>.getD 0))).filter
          fun e => e.2 ≠ 0)
      parErr := s.parErr.filter fun a => ((regDesc a).map RegDesc.loadable |>.getD 0) = 0
      load := { s.load with
        state := 2, err := 0, step := 5, phase := .idle, img := s.load.imageId, bld := s.load.parse.build
        crc := s.load.parse.rcrc } } :=
    h
  unfold recordValues
  dsimp only
  split
  · exact h1 0
  · exact sameDram_mk (State.setTable_sameDram (h1 0))

theorem State.onPll_sameDram {a1 : PllId} {a2 : Pll → Pll} (h : SameDram p s) :
    SameDram p (State.onPll s a1 a2) := by
  unfold State.onPll
  split
  · extract_lets x1
    exact (sameDram_mk h)
  · extract_lets x2
    exact (sameDram_mk h)

theorem startPll_sameDram {a0 : PllId} {a1 : PllWhy} {a2 : Nat} (h : SameDram p s) :
    SameDram p (startPll a0 a1 a2 s) := by
  unfold startPll
  exact (State.onPll_sameDram h)

theorem startAllPlls_sameDram (h : SameDram p s) :
    SameDram p (startAllPlls s) := by
  unfold startAllPlls
  extract_lets x1 x2 x3 x4 x5
  have h6 : SameDram p x2 := (startPll_sameDram h)
  have h7 : SameDram p x3 := (sameDram_foldl (fun _ _ h8 => (startPll_sameDram (startPll_sameDram h8))) h6)
  exact (sameDram_mk h7)

theorem dropBookings_sameDram {a0 : Work} (h : SameDram p s) :
    SameDram p (dropBookings a0 s) := by
  unfold dropBookings
  extract_lets x1
  exact (sameDram_mk h)

theorem unprelock_sameDram (h : SameDram p s) :
    SameDram p (unprelock s) := by
  unfold unprelock
  exact (sameDram_foldl (fun _ _ h1 => (sameDram_foldl (fun _ _ h2 => (sameDram_ite (startPll_sameDram h2) h2)) h1)) h)

theorem restSpares_sameDram (h : SameDram p s) :
    SameDram p (restSpares s) := by
  unfold restSpares
  exact (sameDram_foldl (fun _ _ h1 => (sameDram_ite (State.onRanks_sameDram h1) h1)) h)

theorem resumeChans_sameDram (h : SameDram p s) :
    SameDram p (resumeChans s) := by
  unfold resumeChans
  exact (sameDram_ite (restSpares_sameDram (sameDram_foldl (fun _ _ h1 => (sameDram_ite h1 (State.onRanks_sameDram h1))) h)) h)

theorem quadSwitch_sameDram {a0 : Nat} {a1 : ClkSrc} {a2 : SwWhy} (h : SameDram p s) :
    SameDram p (quadSwitch a0 a1 a2 s) := by
  unfold quadSwitch
  exact (State.onQuadClk_sameDram h)

theorem switchBack_sameDram (h : SameDram p s) :
    SameDram p (switchBack s) := by
  unfold switchBack
  apply sameDram_ite
  · refine sameDram_foldl (fun _ _ h5 => ?_) ?_
    · refine sameDram_foldl (fun _ _ h7 => ?_) ?_
      · extract_lets x8 x9
        have h10 : SameDram p x9 := (State.onPll_sameDram h7)
        exact (sameDram_ite (quadSwitch_sameDram (startPll_sameDram h10)) h7)
      · exact h5
    · exact h
  · exact h

theorem endPending_sameDram (h : SameDram p s) :
    SameDram p (endPending s) := by
  unfold endPending
  extract_lets x1 x2 x3
  have h4 : SameDram p x1 := (dropBookings_sameDram h)
  have h5 : SameDram p x3 := (sameDram_mk h4)
  exact (State.setSt_sameDram h5)

theorem abandonChange_sameDram (h : SameDram p s) :
    SameDram p (abandonChange s) := by
  unfold abandonChange
  exact (sameDram_ite (unprelock_sameDram (State.bump_sameDram (endPending_sameDram (switchBack_sameDram (resumeChans_sameDram h))))) h)

theorem losePrelock_sameDram (h : SameDram p s) :
    SameDram p (losePrelock s) := by
  unfold losePrelock
  exact (sameDram_ite (abandonChange_sameDram h) h)

theorem quadUnclocked_sameDram {a0 : Nat} (h : SameDram p s) :
    SameDram p (quadUnclocked a0 s) := by
  unfold quadUnclocked
  exact (sameDram_foldl (fun _ _ h1 => (State.setSt_sameDram (State.setSt_sameDram (State.onChan_sameDram h1)))) h)

theorem quadToSelfRefresh_sameDram {a0 : Nat} (h : SameDram p s) :
    SameDram p (quadToSelfRefresh a0 s) := by
  unfold quadToSelfRefresh
  exact (sameDram_foldl (fun _ _ h1 => (sameDram_ite (State.onRanks_sameDram h1) h1)) h)

theorem restQuad_sameDram {a0 : Nat} (h : SameDram p s) :
    SameDram p (restQuad a0 s) := by
  unfold restQuad
  exact (quadToSelfRefresh_sameDram (State.onQuadClk_sameDram h))

theorem restartCk_sameDram {a0 : Nat} (h : SameDram p s) :
    SameDram p (restartCk a0 s) := by
  unfold restartCk
  exact (sameDram_foldl (fun _ _ h1 => (State.onChan_sameDram h1)) h)

theorem pllFailed_sameDram {a0 : PllId} (h : SameDram p s) :
    SameDram p (pllFailed a0 s) := by
  unfold pllFailed
  extract_lets x1 x2 x3 x4
  have h5 : SameDram p x2 := (State.onPll_sameDram h)
  have h6 : SameDram p x4 := (raise_sameDram (sameDram_mk h5))
  split
  · clear_value x1
    split
    · exact (raise_sameDram (sameDram_mk h5))
    · exact (raise_sameDram h5)
    · exact (sameDram_foldl (fun _ _ h7 => (sameDram_ite h7 (restQuad_sameDram h7))) h6)
  · extract_lets x8 x9
    have h10 : SameDram p x9 := (raise_sameDram h5)
    clear_value x1
    split
    · exact (losePrelock_sameDram (raise_sameDram h5))
    · exact (sameDram_ite (restQuad_sameDram (restartCk_sameDram (State.bump_sameDram (raise_sameDram h5)))) (raise_sameDram h5))
    · exact (sameDram_ite (quadUnclocked_sameDram h10) h10)
    · exact (raise_sameDram h5)
    · exact (sameDram_ite (quadUnclocked_sameDram h10) h10)

theorem attemptFailed_sameDram {a0 : PllId} (h : SameDram p s) :
    SameDram p (attemptFailed a0 s) := by
  unfold attemptFailed
  exact (sameDram_ite (State.onPll_sameDram h) (pllFailed_sameDram h))

theorem coreSwitch_sameDram {a0 : CoreSw} (h : SameDram p s) :
    SameDram p (coreSwitch a0 s) := by
  unfold coreSwitch
  extract_lets x1
  exact (sameDram_mk h)

theorem phyGood_sameDram {a0 : Nat} {a1 : Bool} (h : SameDram p s) :
    SameDram p (phyGood a0 a1 s) := by
  unfold phyGood
  extract_lets x1 x2 x3 x4
  have h5 : ∀ y0 y1, SameDram p y1 → SameDram p (x2 y0 y1) := by
    intro y0 y1 h5_1
    unfold x2
    exact (State.onPll_sameDram h5_1)
  have h6 : SameDram p x4 := (State.onPll_sameDram h)
  split
  · exact (State.setBit_sameDram (h5 _ _ h))
  · exact (h5 _ _ h)
  · exact (sameDram_ite (quadSwitch_sameDram (h5 _ _ h)) (h5 _ _ h))
  · apply sameDram_ite
    · exact (h5 _ _ h)
    · split
      · exact (quadSwitch_sameDram (h5 _ _ h))
      · exact (sameDram_ite (quadSwitch_sameDram (h5 _ _ h6)) (h5 _ _ h))
      · exact (h5 _ _ h)

theorem coreGood_sameDram (h : SameDram p s) :
    SameDram p (coreGood s) := by
  unfold coreGood
  extract_lets x1 x2
  have h3 : SameDram p x1 := (coreSwitch_sameDram (State.onPll_sameDram h))
  exact (sameDram_mk h3)

theorem pllGood_sameDram {a0 : PllId} (h : SameDram p s) :
    SameDram p (pllGood a0 s) := by
  unfold pllGood
  split
  · exact (coreGood_sameDram h)
  · exact (phyGood_sameDram h)

theorem fallback_sameDram {a0 : Nat} {a1 : Bool} (h : SameDram p s) :
    SameDram p (fallback a0 a1 s) := by
  unfold fallback
  extract_lets x1 x2 x3 x4 x5
  have h6 : SameDram p x2 := (State.bump_sameDram (raise_sameDram h))
  have h7 : SameDram p x3 := (State.onPll_sameDram h6)
  have h8 : SameDram p x4 := (State.bump_sameDram (raise_sameDram h))
  have h9 : SameDram p x5 := (State.onPll_sameDram h8)
  exact (sameDram_ite (quadSwitch_sameDram (State.onQuadClk_sameDram h7)) (quadSwitch_sameDram (State.onQuadClk_sameDram h9)))

theorem coreTrip_sameDram (h : SameDram p s) :
    SameDram p (coreTrip s) := by
  unfold coreTrip
  extract_lets x1 x2 x3 x4
  have h5 : SameDram p x1 := (State.onPll_sameDram h)
  have h6 : SameDram p x2 := (sameDram_ite (abandonChange_sameDram h5) h5)
  have h7 : SameDram p x4 := (coreSwitch_sameDram (sameDram_mk h6))
  exact (raise_sameDram (State.bump_sameDram h7))

theorem trip_sameDram {a0 : PllId} (h : SameDram p s) :
    SameDram p (trip a0 s) := by
  unfold trip
  split
  · exact (coreTrip_sameDram h)
  · extract_lets x1 x2 x3
    have h4 : SameDram p x2 := (State.bump_sameDram h)
    have h5 : SameDram p x3 := (State.onPll_sameDram h4)
    clear_value x1
    split
    · exact (fallback_sameDram h5)
    · exact (losePrelock_sameDram (raise_sameDram h5))
    · exact (raise_sameDram h5)

theorem restartPhy_sameDram {a0 : Nat} {a1 : Bool} (h : SameDram p s) :
    SameDram p (restartPhy a0 a1 s) := by
  unfold restartPhy
  extract_lets x1
  exact (sameDram_ite (startPll_sameDram h) h)

theorem restartCore_sameDram (h : SameDram p s) :
    SameDram p (restartCore s) := by
  unfold restartCore
  exact (sameDram_ite (startPll_sameDram h) h)

theorem showClkmon_sameDram (h : SameDram p s) :
    SameDram p (showClkmon s) := by
  unfold showClkmon
  extract_lets x1
  exact (sameDram_mk h)

theorem startHandshake_sameDram {a0 : Nat} (h : SameDram p s) :
    SameDram p (startHandshake a0 s) := by
  unfold startHandshake
  extract_lets x1 x2
  exact (sameDram_mk h)

theorem prelock_sameDram {a0 : Nat} {a1 : Pll → Bool} (h : SameDram p s) :
    SameDram p (prelock a0 a1 s) := by
  unfold prelock
  exact (sameDram_foldl (fun _ _ h1 => (sameDram_ite (sameDram_foldl (fun _ _ h2 => (startPll_sameDram h2)) h1) h1)) h)

theorem clearFsp_sameDram (h : SameDram p s) :
    SameDram p (clearFsp s) := by
  unfold clearFsp
  exact (sameDram_foldl (fun _ _ h1 => (State.onRanks_sameDram h1)) h)

theorem beginPending_sameDram {a0 : Nat} (h : SameDram p s) :
    SameDram p (beginPending a0 s) := by
  unfold beginPending
  extract_lets x1 x2
  have h3 : SameDram p x2 := (sameDram_mk h)
  exact (prelock_sameDram (clearFsp_sameDram (State.setSt_sameDram h3)))

theorem retarget_sameDram {a0 : Nat} (h : SameDram p s) :
    SameDram p (retarget a0 s) := by
  unfold retarget
  extract_lets x1 x2
  have h3 : SameDram p x2 := (dropBookings_sameDram (sameDram_mk h))
  exact (prelock_sameDram (clearFsp_sameDram (State.setSt_sameDram h3)))

theorem requestOp_sameDram {a0 : Nat} (h : SameDram p s) :
    SameDram p (requestOp a0 s) := by
  unfold requestOp
  extract_lets x1
  exact (sameDram_ite (sameDram_mk h) (sameDram_ite (sameDram_ite (unprelock_sameDram (endPending_sameDram h)) (sameDram_ite h (retarget_sameDram h))) (sameDram_ite (sameDram_mk h) (sameDram_ite (beginPending_sameDram h) (sameDram_mk h)))))

theorem takeWant_sameDram (h : SameDram p s) :
    SameDram p (takeWant s) := by
  unfold takeWant
  apply sameDram_ite
  · exact h
  · split
    · exact (sameDram_ite (requestOp_sameDram h) h)
    · exact h

theorem tryPostOp_sameDram (h : SameDram p s) :
    SameDram p (tryPostOp s) := by
  unfold tryPostOp
  extract_lets x1 x2
  apply sameDram_ite
  · split
    · rename_i heq
      have h3 := congrArg Prod.snd heq ▸ post_sameDram h
      extract_lets x4
      exact (sameDram_mk h3)
  · exact h

theorem policy_sameDram (h : SameDram p s) :
    SameDram p (policy s) := by
  unfold policy
  apply sameDram_ite
  · exact h
  · split
    · exact h
    · extract_lets x1 x2 x3
      have h4 : SameDram p x3 := (sameDram_mk h)
      apply sameDram_ite
      · apply sameDram_ite
        · split
          · exact (requestOp_sameDram h4)
          · exact h4
        · exact h4
      · exact (requestOp_sameDram (sameDram_mk h))

theorem opFrame_sameDram (h : SameDram p s) :
    SameDram p (opFrame s) := by
  unfold opFrame
  extract_lets x1 x2
  have h3 : SameDram p x1 := (State.setSt_sameDram h)
  exact (policy_sameDram (sameDram_mk h3))

theorem opStep_sameDram {a0 : Nat} (h : SameDram p s) :
    SameDram p (opStep a0 s) := by
  unfold opStep
  extract_lets x1
  exact (sameDram_mk h)

theorem opStep2_sameDram (h : SameDram p s) :
    SameDram p (opStep2 s) := by
  unfold opStep2
  exact (sameDram_foldl (fun _ _ h1 => (State.onRanks_sameDram h1)) (opStep_sameDram h))

theorem opGranted_sameDram (h : SameDram p s) :
    SameDram p (opGranted s) := by
  unfold opGranted
  extract_lets x1 x2 x3
  have h4 : SameDram p x2 := (sameDram_mk h)
  exact (sameDram_ite (startHandshake_sameDram (opStep_sameDram h4)) (opStep2_sameDram h4))

theorem opStep3_sameDram (h : SameDram p s) :
    SameDram p (opStep3 s) := by
  unfold opStep3
  exact (sameDram_foldl (fun _ _ h1 => (State.onRanks_sameDram h1)) (opStep_sameDram h))

theorem opStep4_sameDram (h : SameDram p s) :
    SameDram p (opStep4 s) := by
  unfold opStep4
  refine sameDram_foldl (fun _ _ h3 => ?_) ?_
  · refine sameDram_foldl (fun _ _ h5 => ?_) ?_
    · extract_lets x6 x7
      have h8 : SameDram p x7 := (State.onPll_sameDram h5)
      exact (sameDram_ite (quadSwitch_sameDram (State.onPll_sameDram h8)) h5)
    · exact h3
  · exact (opStep_sameDram h)

theorem initSet_sameDram {a0 : Nat} {a1 : Nat} (h : SameDram p s) :
    SameDram p (initSet a0 a1 s) := by
  unfold initSet
  extract_lets x1 x2 x3
  have h4 : SameDram p x3 := (State.onCal_sameDram h)
  exact (sameDram_ite h (sameDram_foldl (fun _ _ h5 => (State.setSt_sameDram (State.setSt_sameDram h5))) h4))

theorem restartTracking_sameDram {a0 : Nat} (h : SameDram p s) :
    SameDram p (restartTracking a0 s) := by
  unfold restartTracking
  extract_lets x1 x2 x3
  exact (State.onCal_sameDram h)

theorem opDelays_sameDram {a0 : Nat} (h : SameDram p s) :
    SameDram p (opDelays a0 s) := by
  unfold opDelays
  extract_lets x1 x2
  have h3 : SameDram p x1 := (cancelLatch_sameDram (cancelLatch_sameDram (restartTracking_sameDram (initSet_sameDram h))))
  have h4 : SameDram p x2 := (State.setSt_sameDram h3)
  exact (State.unpost_sameDram h4)

theorem uncount_sameDram {a0 : Nat} (h : SameDram p s) :
    SameDram p (uncount a0 s) := by
  unfold uncount
  exact (State.onChan_sameDram h)

theorem takePoint_sameDram {a0 : Nat} (h : SameDram p s) :
    SameDram p (takePoint a0 s) := by
  unfold takePoint
  exact (State.onChan_sameDram (opDelays_sameDram h))

theorem tunePlls_sameDram {a0 : Nat} (h : SameDram p s) :
    SameDram p (tunePlls a0 s) := by
  unfold tunePlls
  exact (sameDram_ite (sameDram_foldl (fun _ _ h1 => (State.onPll_sameDram h1)) h) h)

theorem opStep5_sameDram (h : SameDram p s) :
    SameDram p (opStep5 s) := by
  unfold opStep5
  extract_lets x1 x2 x3
  have h4 : SameDram p x2 := (showClkmon_sameDram (opStep_sameDram (sameDram_mk h)))
  have h5 : SameDram p x3 := (sameDram_foldl (fun _ _ h6 => (uncount_sameDram h6)) (sameDram_foldl (fun _ _ h7 => (tunePlls_sameDram h7)) h4))
  exact (sameDram_foldl (fun _ _ h8 => (State.onRanks_sameDram (takePoint_sameDram h8))) h5)

theorem leftPll_sameDram {a0 : Nat} {a1 : PllId} (h : SameDram p s) :
    SameDram p (leftPll a0 a1 s) := by
  unfold leftPll
  extract_lets x1
  exact (sameDram_ite (startPll_sameDram h) (sameDram_ite (startPll_sameDram h) (sameDram_ite (State.onPll_sameDram h) h)))

theorem opComplete_sameDram (h : SameDram p s) :
    SameDram p (opComplete s) := by
  unfold opComplete
  extract_lets x1 x2 x3 x4 x5 x6
  have h7 : SameDram p x2 := (State.stamp_sameDram (State.bump_sameDram h))
  have h8 : SameDram p x3 := (sameDram_foldl (fun _ _ h9 => (sameDram_foldl (fun _ _ h10 => (leftPll_sameDram h10)) h9)) h7)
  have h11 : SameDram p x4 := (sameDram_foldl (fun _ _ h12 => (applyHeld_sameDram h12)) h8)
  have h13 : SameDram p x5 := (sameDram_foldl (fun _ _ h14 => (State.onCal_sameDram h14)) h11)
  have h15 : SameDram p x6 := (restSpares_sameDram (endPending_sameDram h13))
  exact (sameDram_ite (startHandshake_sameDram (opStep_sameDram h15)) h15)

theorem settleOp_sameDram (h : SameDram p s) :
    SameDram p (settleOp s) := by
  unfold settleOp
  extract_lets x1 x2
  have h3 : SameDram p x2 := (sameDram_mk h)
  exact (sameDram_ite h (sameDram_ite (sameDram_ite (opStep3_sameDram h) h) (sameDram_ite (sameDram_ite (opStep4_sameDram h) h) (sameDram_ite (sameDram_ite (opStep5_sameDram h) h) (sameDram_ite (sameDram_ite (opComplete_sameDram h) h) (sameDram_ite (sameDram_ite (startHandshake_sameDram h3) h3) (tryPostOp_sameDram (takeWant_sameDram h))))))))

theorem dsmStep_sameDram {a0 : Nat} (h : SameDram p s) :
    SameDram p (dsmStep a0 s) := by
  unfold dsmStep
  extract_lets x1
  exact (sameDram_mk h)

theorem settleDsm_sameDram (h : SameDram p s) :
    SameDram p (settleDsm s) := by
  unfold settleDsm
  extract_lets x1 x2 x3 x4
  have h5 : SameDram p x3 := (sameDram_foldl (fun _ _ h6 => (State.onChan_sameDram h6)) h)
  split
  · exact (sameDram_ite h (sameDram_foldl (fun _ _ h7 => (State.onChan_sameDram h7)) (dsmStep_sameDram h)))
  · exact (sameDram_ite (sameDram_foldl (fun _ _ h8 => (flushCache_sameDram h8)) (dsmStep_sameDram h)) (sameDram_foldl (fun _ _ h9 => (State.onChan_sameDram h9)) h))
  · exact (sameDram_ite (sameDram_foldl (fun _ _ h10 => (State.onRanks_sameDram h10)) (dsmStep_sameDram h)) h)
  · exact (sameDram_ite (sameDram_mk h) h)
  · exact (sameDram_ite (sameDram_mk h5) h)
  · exact h

theorem enterDsm_sameDram (h : SameDram p s) :
    SameDram p (enterDsm s) := by
  unfold enterDsm
  extract_lets x1
  exact (sameDram_ite (settleDsm_sameDram (sameDram_mk h)) h)

theorem exitDsm_sameDram (h : SameDram p s) :
    SameDram p (exitDsm s) := by
  unfold exitDsm
  extract_lets x1
  exact (sameDram_ite (sameDram_foldl (fun _ _ h2 => (State.onRanks_sameDram h2)) (sameDram_mk h)) h)

theorem writePin_sameDram {a0 : Bool} {a1 : Nat} (h : SameDram p s) :
    SameDram p (writePin a0 a1 s) := by
  unfold writePin
  extract_lets x1 x2 x3
  have h4 : SameDram p x2 := (State.setCf_sameDram (State.setCf_sameDram h))
  apply sameDram_ite
  · exact (sameDram_ite (sameDram_mk h4) h4)
  · split
    · exact (requestOp_sameDram h4)
    · exact h4

theorem loadShaper_sameDram {a0 : Nat} {a1 : Word × Word × Word} (h : SameDram p s) :
    SameDram p (loadShaper a0 a1 s) := by
  unfold loadShaper
  exact (State.onPort_sameDram h)

theorem release_sameDram {a0 : Nat} {a1 : Nat} {a2 : Nat} {a3 : Bool} (h : SameDram p s) :
    SameDram p (release a0 a1 a2 a3 s) := by
  unfold release
  extract_lets x1
  exact (State.onPort_sameDram h)

theorem shaperTest_sameDram {a0 : Nat} (h : SameDram p s) :
    SameDram p (shaperTest a0 s) := by
  unfold shaperTest
  extract_lets x1 x2
  split
  · exact h
  · extract_lets x3 x4 x5
    have h6 : SameDram p x4 := (State.onPort_sameDram h)
    have h7 : SameDram p x5 := (State.onPort_sameDram h)
    exact (sameDram_ite (release_sameDram (State.onPort_sameDram h)) (sameDram_ite (release_sameDram h) (sameDram_ite (release_sameDram (State.onPort_sameDram h)) (sameDram_ite (release_sameDram (State.note_sameDram (State.bump_sameDram h6))) (State.note_sameDram (State.bump_sameDram h7))))))

theorem fireCalendar_sameDram (h : SameDram p s) :
    SameDram p (fireCalendar s) := by
  unfold fireCalendar
  refine sameDram_foldl (fun _ _ h2 => ?_) ?_
  · extract_lets x3
    exact (sameDram_ite h2 (State.onPort_sameDram h2))
  · exact h

theorem reshape_sameDram {a0 : Nat} {a1 : Word × Word × Word} (h : SameDram p s) :
    SameDram p (reshape a0 a1 s) := by
  unfold reshape
  exact (State.onPort_sameDram (loadShaper_sameDram h))

theorem rodPort_sameDram {a0 : Nat} (h : SameDram p s) : SameDram p (rodPort a0 s).1 := by
  unfold rodPort
  dsimp only
  split
  · exact reshape_sameDram h
  · split
    · exact reshape_sameDram (State.onPort_sameDram h)
    · exact State.onPort_sameDram h
  · exact State.onPort_sameDram h

theorem rodPorts_sameDram {l : List Nat} {acc : State × List Nat} (h : SameDram p acc.1) :
    SameDram p (l.foldl (fun acc i =>
      let r := rodPort i acc.1
      (r.1, if r.2 then acc.2 ++ [i] else acc.2)) acc).1 := by
  induction l generalizing acc with
  | nil => exact h
  | cons i l ih => exact ih (rodPort_sameDram h)

theorem rodWork_sameDram (h : SameDram p s) : SameDram p (rodWork s) := by
  unfold rodWork
  split
  rename_i t due heq
  have h1 := rodPorts_sameDram (l := shapedPorts) (acc := (s, [])) h
  rw [heq] at h1
  exact sameDram_foldl (fun _ _ h => shaperTest_sameDram (State.onPort_sameDram h)) (fireCalendar_sameDram h1)

theorem commitCalendar_sameDram (h : SameDram p s) :
    SameDram p (commitCalendar s) := by
  unfold commitCalendar
  extract_lets x1 x2
  have h3 : SameDram p x2 := (sameDram_mk h)
  exact (State.bump_sameDram h3)

theorem regate_sameDram {a0 : Nat} (h : SameDram p s) :
    SameDram p (regate a0 s) := by
  unfold regate
  extract_lets x1
  exact (sameDram_ite (State.onPort_sameDram h) h)

theorem commitGates_sameDram (h : SameDram p s) :
    SameDram p (commitGates s) := by
  unfold commitGates
  extract_lets x1 x2
  have h3 : SameDram p x2 := (sameDram_mk h)
  exact (State.bump_sameDram (sameDram_foldl (fun _ _ h4 => (regate_sameDram h4)) h3))

theorem copyReg_sameDram {a0 a1 : Nat} (h : SameDram p s) : SameDram p (copyReg a0 a1 s) := by
  unfold copyReg
  exact sameDram_ite h (h)

theorem calCopyStep_sameDram (h : SameDram p s) :
    SameDram p (calCopyStep s) := by
  unfold calCopyStep
  split
  · extract_lets x1 x2
    have h3 : SameDram p x1 := (copyReg_sameDram h)
    exact (sameDram_ite (sameDram_mk h3) h)
  · exact h

theorem copyGateVg_sameDram (h : SameDram p s) :
    SameDram p (copyGateVg s) := by
  unfold copyGateVg
  exact (State.setSt_sameDram h)

theorem gateCopyStep_sameDram (h : SameDram p s) :
    SameDram p (gateCopyStep s) := by
  unfold gateCopyStep
  split
  · extract_lets x1 x2
    have h3 : SameDram p x1 := (sameDram_ite (copyReg_sameDram h) (sameDram_ite (copyGateVg_sameDram h) (copyReg_sameDram h)))
    exact (sameDram_ite (sameDram_mk h3) h)
  · exact h

theorem startShaping_sameDram (h : SameDram p s) :
    SameDram p (startShaping s) := by
  unfold startShaping
  extract_lets x1 x2 x3 x4
  have h5 : SameDram p x1 := (sameDram_foldl (fun _ _ h6 => (State.onPort_sameDram (loadShaper_sameDram h6))) h)
  have h7 : SameDram p x2 := (commitGates_sameDram (commitCalendar_sameDram h5))
  have h8 : SameDram p x4 := (sameDram_mk h7)
  exact (fireCalendar_sameDram (State.setSt_sameDram h8))

theorem popHead_sameDram {a0 : Nat} {a1 : Nat} (h : SameDram p s) :
    SameDram p (popHead a0 a1 s) := by
  unfold popHead
  exact (State.onChan_sameDram h)

theorem grant_sameDram {a0 : Nat} {a1 : PerchLine} {a2 : Bool} (h : SameDram p s) :
    SameDram p (grant a0 a1 a2 s) := by
  unfold grant
  extract_lets x1 x2 x3 x4 x5 x6
  have h7 : SameDram p x3 := (popHead_sameDram h)
  have h8 : SameDram p x4 := (State.onChan_sameDram h7)
  have h9 : SameDram p x5 := (State.bump_sameDram h8)
  exact (sameDram_ite (State.setSt_sameDram h9) h9)

theorem promote_sameDram {a0 : Nat} (h : SameDram p s) :
    SameDram p (promote a0 s) := by
  unfold promote
  exact (State.onChan_sameDram h)

theorem endHold_sameDram {a0 : Nat} (h : SameDram p s) :
    SameDram p (endHold a0 s) := by
  unfold endHold
  exact (State.onChan_sameDram h)

theorem takeHold_sameDram {a0 : Nat} {a1 : Nat} (h : SameDram p s) :
    SameDram p (takeHold a0 a1 s) := by
  unfold takeHold
  exact (sameDram_ite (State.onChan_sameDram h) h)

theorem decide__sameDram {a0 : Nat} (h : SameDram p s) :
    SameDram p (decide_ a0 s) := by
  unfold decide_
  extract_lets x1 x2 x3 x4
  have h5 : ∀ y0 y1, SameDram p y1 → SameDram p (x3 y0 y1) := by
    intro y0 y1 h5_1
    unfold x3
    exact (takeHold_sameDram (grant_sameDram h5_1))
  have h6 : ∀ y0, SameDram p y0 → SameDram p (x4 y0) := by
    intro y0 h6_0
    unfold x4
    split
    · exact (h5 _ _ h6_0)
    · exact h6_0
  split
  · exact (h6 _ h)
  · split
    · exact (grant_sameDram (endHold_sameDram h))
    · split
      · exact (sameDram_ite (grant_sameDram h) h)
      · exact (h6 _ (endHold_sameDram h))

theorem decided_sameDram {a0 : Nat} (h : SameDram p s) :
    SameDram p (decided a0 s) := by
  unfold decided
  exact (sameDram_ite h (State.onChan_sameDram h))

theorem turnAway_sameDram {a0 a1 a2 : Nat} (h : SameDram p s) : SameDram p (turnAway a0 a1 a2 s) := by
  induction a0 generalizing s with
  | zero => exact h
  | succ n ih =>
    unfold turnAway
    split
    · exact h
    · split
      · exact ih (popHead_sameDram (answer_sameDram h))
      · exact h

theorem turnAwayAll_sameDram {a0 : Nat} (h : SameDram p s) :
    SameDram p (turnAwayAll a0 s) := by
  unfold turnAwayAll
  exact (sameDram_foldl (fun _ _ h1 => (turnAway_sameDram h1)) h)

theorem pressEviction_sameDram {a0 : Nat} (h : SameDram p s) :
    SameDram p (pressEviction a0 s) := by
  unfold pressEviction
  extract_lets x1 x2 x3 x4
  apply sameDram_ite
  · clear_value x4
    split
    · exact (State.onChan_sameDram h)
    · exact h
  · exact h

theorem wholeDone_sameDram {a0 : Nat} {a1 : Nat} {a2 : Nat} (h : SameDram p s) :
    SameDram p (wholeDone a0 a1 a2 s) := by
  unfold wholeDone
  apply sameDram_ite
  · exact (completeWrites_sameDram h)
  · split
    · rename_i heq
      have h1 := createLine_sameDram h heq
      exact (completeWrites_sameDram h1)
    · exact h

theorem readAhead_sameDram {a0 : Nat} {a1 : Nat} (h : SameDram p s) :
    SameDram p (readAhead a0 a1 s) := by
  unfold readAhead
  extract_lets x1
  exact (State.onChan_sameDram h)

theorem flushLine_sameDram {a0 : Nat} {a1 : Nat} {a2 : PerchLine} (h : SameDram p s) :
    SameDram p (flushLine a0 a1 a2 s) := by
  unfold flushLine
  exact (sameDram_ite (State.onChan_sameDram h) h)

theorem admitWrite_sameDram {a0 : Nat} {a1 : PerchLine} (h : SameDram p s) :
    SameDram p (admitWrite a0 a1 s) := by
  unfold admitWrite
  extract_lets x1 x2 x3 x4 x5
  apply sameDram_ite
  · exact (answer_sameDram h)
  · clear_value x3
    split
    · extract_lets x6 x7 x8
      have h9 : SameDram p x7 := (State.onChan_sameDram h)
      have h10 : SameDram p x8 := (State.addOp_sameDram h9)
      exact (sameDram_ite (wholeDone_sameDram (readAhead_sameDram h10)) (flushLine_sameDram h10))
    · split
      · exact h
      · extract_lets x11 x12
        have h13 : SameDram p x11 := (State.onChan_sameDram h)
        have h14 : SameDram p x12 := (State.addOp_sameDram h13)
        exact (sameDram_ite (wholeDone_sameDram h14) (flushLine_sameDram h14))

theorem admitRead_sameDram {a0 : Nat} {a1 : PerchLine} (h : SameDram p s) :
    SameDram p (admitRead a0 a1 s) := by
  unfold admitRead
  extract_lets x1 x2 x3
  split
  · split
    · exact (answer_sameDram h)
    · split
      · extract_lets x4
        have h5 : SameDram p x4 := (State.onChan_sameDram h)
        exact (State.addOp_sameDram h5)
      · exact (State.addOp_sameDram h)
  · exact (sameDram_ite (answer_sameDram h) (State.addOp_sameDram h))

theorem admitWalk_sameDram {a0 : Nat} {a1 : PerchLine} {a2 : OpKind} (h : SameDram p s) :
    SameDram p (admitWalk a0 a1 a2 s) := by
  unfold admitWalk
  extract_lets x1 x2 x3
  have h4 : SameDram p x2 := by
    unfold x2
    split
    · exact (State.onChan_sameDram h)
    · exact h
  exact (State.addOp_sameDram h4)

theorem admitScrub_sameDram {a0 : Nat} {a1 : PerchLine} (h : SameDram p s) :
    SameDram p (admitScrub a0 a1 s) := by
  unfold admitScrub
  extract_lets x1 x2
  have h3 : SameDram p x1 := (State.onQuad_sameDram h)
  exact (sameDram_ite (scrubDone_sameDram (peckSkipHeld_sameDram h3)) (sameDram_ite (scrubDone_sameDram (peckSkipState_sameDram h3)) (State.addOp_sameDram h3)))

theorem admitMirror_sameDram {a0 : Nat} {a1 : PerchLine} (h : SameDram p s) :
    SameDram p (admitMirror a0 a1 s) := by
  unfold admitMirror
  extract_lets x1 x2 x3
  apply sameDram_ite
  · exact (State.addOp_sameDram h)
  · split
    · exact h
    · exact (State.addOp_sameDram (State.onChan_sameDram h))

theorem admitScratch_sameDram {a0 : Nat} {a1 : PerchLine} (h : SameDram p s) :
    SameDram p (admitScratch a0 a1 s) := by
  unfold admitScratch
  extract_lets x1
  exact (sameDram_ite (State.addOp_sameDram h) (State.addOp_sameDram h))

theorem skidLine_sameDram (h : SameDram p s) :
    SameDram p (skidLine s) := by
  unfold skidLine
  split
  · exact h
  · extract_lets x1
    exact (sameDram_ite (event_sameDram (sameDram_mk h)) (sameDram_mk h))

theorem countLine_sameDram {a0 : Nat} {a1 : PerchLine} (h : SameDram p s) :
    SameDram p (countLine a0 a1 s) := by
  unfold countLine
  extract_lets x1 x2 x3
  have h4 : SameDram p x1 := (skidLine_sameDram h)
  have h5 : SameDram p x2 := (State.note_sameDram (State.note_sameDram (State.note_sameDram h4)))
  exact (sameDram_ite (sameDram_mk h5) h5)

theorem admitLine_sameDram {a0 : Nat} {a1 : PerchLine} (h : SameDram p s) :
    SameDram p (admitLine a0 a1 s) := by
  unfold admitLine
  extract_lets x1 x2
  have h3 : SameDram p x1 := (countLine_sameDram h)
  have h4 : SameDram p x2 := by
    unfold x2
    split
    · exact (sameDram_ite (admitWrite_sameDram h3) (admitRead_sameDram h3))
    · exact (admitScrub_sameDram h3)
    · exact (admitWalk_sameDram h3)
    · exact (admitWalk_sameDram h3)
    · exact (admitMirror_sameDram h3)
    · exact (admitScratch_sameDram h3)
  exact (sameDram_ite (preloadTest_sameDram h4) h4)

theorem refuseLine_sameDram {a0 : Nat} {a1 : PerchLine} {a2 : Outcome} (h : SameDram p s) :
    SameDram p (refuseLine a0 a1 a2 s) := by
  unfold refuseLine
  extract_lets x1
  have h2 : SameDram p x1 := by
    unfold x1
    split
    · exact (State.onChan_sameDram h)
    · exact h
  exact (answer_sameDram h2)

theorem State.onScrub_sameDram {a1 : Nat} {a2 : ScrubPass → ScrubPass} (h : SameDram p s) :
    SameDram p (State.onScrub s a1 a2) := by
  unfold State.onScrub
  exact (State.onQuad_sameDram h)

theorem dropScrubLines_sameDram {a0 : Nat} (h : SameDram p s) :
    SameDram p (dropScrubLines a0 s) := by
  unfold dropScrubLines
  exact (State.onChan_sameDram h)

theorem clearPeck_sameDram {a0 : Nat} (h : SameDram p s) : SameDram p (clearPeck a0 s) :=
  h

theorem endScrub_sameDram {a0 : Nat} {a1 : Bool} (h : SameDram p s) :
    SameDram p (endScrub a0 a1 s) := by
  unfold endScrub
  extract_lets x1 x2 x3
  have h4 : SameDram p x1 := (State.stamp_sameDram h)
  have h5 : SameDram p x2 := (State.setSt_sameDram (State.setSt_sameDram h4))
  have h6 : SameDram p x3 := (State.setSt_sameDram h5)
  exact (event_sameDram (State.onScrub_sameDram h6))

theorem startScrub_sameDram {a0 : Nat} (h : SameDram p s) :
    SameDram p (startScrub a0 s) := by
  unfold startScrub
  extract_lets x1 x2 x3 x4 x5 x6 x7 x8 x9
  have h10 : SameDram p x4 := (State.stamp_sameDram (clearPeck_sameDram h))
  have h11 : SameDram p x5 := (State.setSt_sameDram (State.setSt_sameDram h10))
  have h12 : SameDram p x8 := (State.onScrub_sameDram h11)
  have h13 : SameDram p x9 := (sameDram_foldl (fun _ _ h14 => (State.setSt_sameDram h14)) h12)
  exact (sameDram_ite h (sameDram_ite (endScrub_sameDram h13) h13))

theorem abortScrub_sameDram {a0 : Nat} {a1 : Nat} (h : SameDram p s) :
    SameDram p (abortScrub a0 a1 s) := by
  unfold abortScrub
  extract_lets x1
  have h2 : SameDram p x1 := (State.setSt_sameDram h)
  apply sameDram_ite
  · exact h
  · refine sameDram_foldl (fun _ _ h5 => ?_) ?_
    · extract_lets x6
      exact (State.onScrub_sameDram (dropScrubLines_sameDram h5))
    · exact (State.onScrub_sameDram h2)

theorem scrubRetired_sameDram {a0 : Nat} (h : SameDram p s) :
    SameDram p (scrubRetired a0 s) := by
  unfold scrubRetired
  extract_lets x1
  split
  · exact h
  · extract_lets x2 x3 x4
    have h5 : SameDram p x4 := (State.setSt_sameDram (State.bump_sameDram h))
    exact (sameDram_ite h (State.onScrub_sameDram (dropScrubLines_sameDram h5)))

theorem handMaint_sameDram {a0 : Nat} (h : SameDram p s) :
    SameDram p (handMaint a0 s) := by
  unfold handMaint
  extract_lets x1 x2 x3 x4 x5 x6
  have h7 : ∀ y0 y1 y2, SameDram p y2 → SameDram p (x2 y0 y1 y2) := by
    intro y0 y1 y2 h7_2
    unfold x2
    exact (addPerch_sameDram h7_2)
  have h8 : ∀ y0, SameDram p y0 → SameDram p (x3 y0) := by
    intro y0 h8_0
    unfold x3
    split
    · exact h8_0
    · extract_lets x9
      apply sameDram_ite
      · exact h8_0
      · split
        · exact h8_0
        · extract_lets x10 x11
          have h12 : SameDram p x10 := (State.setSt_sameDram (h7 _ _ _ h8_0))
          have h13 : SameDram p x11 := (State.onScrub_sameDram h12)
          exact (State.onChan_sameDram h13)
  have h14 : ∀ y0, SameDram p y0 → SameDram p (x4 y0) := by
    intro y0 h14_0
    unfold x4
    exact (sameDram_ite (State.onChan_sameDram (h7 _ _ _ h14_0)) (h8 _ h14_0))
  apply sameDram_ite
  · exact h
  · split
    · extract_lets x15
      have h16 : SameDram p x15 := (State.onEvac_sameDram (h7 _ _ _ h))
      exact (sameDram_ite (State.onChan_sameDram h16) (h14 _ h))
    · exact (h14 _ h)

theorem idlePermit_sameDram {a0 : Nat} (h : SameDram p s) :
    SameDram p (idlePermit a0 s) := by
  unfold idlePermit
  exact (sameDram_foldl (fun _ _ h1 => (sameDram_ite (State.onChan_sameDram h1) h1)) h)

theorem bookedPermit_sameDram {a0 : Nat} {a1 : Duty} {a2 : Nat} (h : SameDram p s) :
    SameDram p (bookedPermit a0 a1 a2 s) := by
  unfold bookedPermit
  exact (State.onChan_sameDram h)

theorem endPermit_sameDram {a0 : Nat} {a1 : Duty} (h : SameDram p s) :
    SameDram p (endPermit a0 a1 s) := by
  unfold endPermit
  exact (State.onChan_sameDram h)

theorem replaceInTable_sameDram {a0 : Nat} {a1 : Nat} (h : SameDram p s) :
    SameDram p (replaceInTable a0 a1 s) := by
  unfold replaceInTable
  extract_lets x1
  exact (State.setTable_sameDram h)

theorem retireInTable_sameDram {a0 : Nat} (h : SameDram p s) :
    SameDram p (retireInTable a0 s) := by
  unfold retireInTable
  exact (State.setTable_sameDram h)

theorem retire_sameDram {a0 : Nat} (h : SameDram p s) :
    SameDram p (retire a0 s) := by
  unfold retire
  extract_lets x1 x2 x3 x4
  have h5 : SameDram p x1 := (scrubRetired_sameDram h)
  have h6 : SameDram p x2 := (State.stamp_sameDram (State.setSt_sameDram h5))
  have h7 : SameDram p x3 := (State.unpost_sameDram h6)
  have h8 : SameDram p x4 := (State.onCal_sameDram h7)
  exact (State.onChan_sameDram (State.onRanks_sameDram h8))

theorem unGrant_sameDram {a0 : Nat} (h : SameDram p s) :
    SameDram p (unGrant a0 s) := by
  unfold unGrant
  exact (State.onChan_sameDram h)

theorem movePerch_sameDram {a0 : Nat} {a1 : Nat} (h : SameDram p s) :
    SameDram p (movePerch a0 a1 s) := by
  unfold movePerch
  extract_lets x1 x2
  have h3 : SameDram p x2 := (State.onChan_sameDram h)
  exact (State.onChan_sameDram h3)

theorem promoteSpare_sameDram {a0 : Nat} {a1 : Nat} (h : SameDram p s) :
    SameDram p (promoteSpare a0 a1 s) := by
  unfold promoteSpare
  extract_lets x1 x2
  have h3 : SameDram p x1 := (State.setPartner_sameDram (State.setPartner_sameDram h))
  have h4 : SameDram p x2 := (State.setSt_sameDram h3)
  exact (State.onChan_sameDram h4)

theorem startEvac_sameDram {a0 : Nat} {a1 : Nat} (h : SameDram p s) :
    SameDram p (startEvac a0 a1 s) := by
  unfold startEvac
  extract_lets x1 x2 x3 x4 x5
  have h6 : SameDram p x1 := (State.setPartner_sameDram (State.setPartner_sameDram h))
  have h7 : SameDram p x2 := (State.setSt_sameDram (State.setSt_sameDram h6))
  have h8 : SameDram p x3 := (State.onChan_sameDram h7)
  have h9 : SameDram p x4 := (State.onRanks_sameDram h8)
  exact (sameDram_mk h9)

theorem postSwap_sameDram (h : SameDram p s) :
    SameDram p (postSwap s) := by
  unfold postSwap
  split
  · exact (sameDram_ite h (postBooking_sameDram h))
  · exact h

theorem settleEvac_sameDram (h : SameDram p s) :
    SameDram p (settleEvac s) := by
  unfold settleEvac
  split
  · exact (sameDram_ite (sameDram_ite (toSwap_sameDram h) (State.onEvac_sameDram h)) h)
  · exact h

theorem beginSwap_sameDram (h : SameDram p s) :
    SameDram p (beginSwap s) := by
  unfold beginSwap
  split
  · exact (sameDram_ite (State.onChan_sameDram (State.onEvac_sameDram h)) h)
  · exact h

theorem swapChannels_sameDram {a0 : Nat} {a1 : Nat} (h : SameDram p s) :
    SameDram p (swapChannels a0 a1 s) := by
  unfold swapChannels
  extract_lets x1 x2 x3 x4 x5 x6
  have h7 : SameDram p x1 := (scrubRetired_sameDram h)
  have h8 : SameDram p x3 := (sameDram_mk h7)
  have h9 : SameDram p x4 := (dropCached_sameDram (movePerch_sameDram (replaceInTable_sameDram h8)))
  have h10 : SameDram p x5 := (State.setSt_sameDram (State.setSt_sameDram h9))
  have h11 : SameDram p x6 := (State.setSt_sameDram (State.setSt_sameDram h10))
  exact (event_sameDram (retire_sameDram (promoteSpare_sameDram h11)))

theorem abandonEvac_sameDram (h : SameDram p s) :
    SameDram p (abandonEvac s) := by
  unfold abandonEvac
  split
  · exact h
  · extract_lets x1 x2 x3 x4 x5
    have h6 : SameDram p x2 := (sameDram_mk h)
    have h7 : SameDram p x3 := (State.unpost_sameDram h6)
    have h8 : SameDram p x4 := (State.onChan_sameDram (State.setPartner_sameDram (State.setPartner_sameDram h7)))
    have h9 : SameDram p x5 := (dropMirrors_sameDram h8)
    exact (sameDram_foldl (fun _ _ h10 => (sameDram_ite (State.dropOp_sameDram h10) (sameDram_ite (finishOp_sameDram h10) (State.onOp_sameDram h10)))) h9)

theorem moveNext_sameDram {a0 : Nat} {a1 : Nat} (h : SameDram p s) :
    SameDram p (moveNext a0 a1 s) := by
  unfold moveNext
  split
  · extract_lets x1 x2
    have h3 : SameDram p x2 := (State.onChan_sameDram (State.onChan_sameDram h))
    exact (sameDram_foldl (fun _ _ h4 => (State.addOp_sameDram h4)) h3)
  · exact h

theorem loseMoving_sameDram {a0 : Nat} (h : SameDram p s) :
    SameDram p (loseMoving a0 s) := by
  unfold loseMoving
  refine sameDram_foldl (fun _ _ h2 => ?_) ?_
  · exact (sameDram_ite h2 (answerOp_sameDram h2))
  · exact (State.onChan_sameDram h)

theorem abandonOps_sameDram {a0 : Nat} {a1 : Option Nat} (h : SameDram p s) :
    SameDram p (abandonOps a0 a1 s) := by
  unfold abandonOps
  extract_lets x1 x2 x3 x4 x5 x6
  have h7 : SameDram p x3 := (sameDram_foldl (fun _ _ h8 => (sameDram_ite (answerOp_sameDram h8) h8)) h)
  have h9 : SameDram p x6 := (State.onQuad_sameDram h7)
  exact (State.onChan_sameDram h9)

theorem hardSpare_sameDram {a0 : Nat} (h : SameDram p s) :
    SameDram p (hardSpare a0 s) := by
  unfold hardSpare
  split
  · exact (raise_sameDram (State.onChan_sameDram h))
  · extract_lets x1 x2
    have h3 : SameDram p x2 := (sameDram_ite h (State.onRanks_sameDram h))
    exact (sameDram_ite (State.onChan_sameDram h) (State.onChan_sameDram h3))

theorem hardFailure_sameDram {a0 : Nat} {a1 : Nat} (h : SameDram p s) :
    SameDram p (hardFailure a0 a1 s) := by
  unfold hardFailure
  extract_lets x1 x2 x3 x4 x5
  have h6 : SameDram p x3 := (State.setSt_sameDram h)
  have h7 : SameDram p x4 := (retire_sameDram (unGrant_sameDram h6))
  have h8 : SameDram p x5 := (State.onChan_sameDram h7)
  exact (dropCached_sameDram (abandonOps_sameDram h8))

theorem hardReplace_sameDram {a0 : Nat} {a1 : Nat} (h : SameDram p s) :
    SameDram p (hardReplace a0 a1 s) := by
  unfold hardReplace
  extract_lets x1 x2 x3 x4 x5 x6 x7 x8
  have h9 : SameDram p x3 := (State.unpost_sameDram h)
  have h10 : SameDram p x4 := (sameDram_ite (sameDram_mk h9) h)
  have h11 : SameDram p x5 := (movePerch_sameDram (replaceInTable_sameDram h10))
  have h12 : SameDram p x6 := (State.setSt_sameDram (State.setSt_sameDram h11))
  have h13 : SameDram p x7 := (promoteSpare_sameDram h12)
  have h14 : SameDram p x8 := (State.onChan_sameDram h13)
  exact (raise_sameDram (startClearing_sameDram h14))

theorem settleHard_sameDram {a0 : Nat} (h : SameDram p s) :
    SameDram p (settleHard a0 s) := by
  unfold settleHard
  extract_lets x1
  apply sameDram_ite
  · split
    · exact (sameDram_ite (moveNext_sameDram h) (sameDram_ite (hardSpare_sameDram h) h))
    · exact (hardSpare_sameDram (loseMoving_sameDram h))
  · apply sameDram_ite
    · split
      · exact (sameDram_ite (hardReplace_sameDram h) h)
      · exact h
    · exact h

theorem spareFailed_sameDram {a0 a1 : Nat} (h : SameDram p s) : SameDram p (spareFailed a0 a1 s) := by
  unfold spareFailed
  extract_lets x1 x2 x3 x4 x5 x6
  have h8 : SameDram p x3 := State.setSt_sameDram h
  have h9 : SameDram p x4 := retire_sameDram (retireInTable_sameDram (abandonOps_sameDram h8))
  have h10 : SameDram p x5 := raise_sameDram (dropCached_sameDram h9)
  have h11 : SameDram p x6 := by
    unfold x6
    clear_value x2
    cases x2 with
    | none => exact h10
    | some c => exact sameDram_ite (sameDram_mk h10) (reserveSpare_sameDram (abandonEvac_sameDram h10))
  clear_value x6 x1
  cases x1 with
  | none => exact h11
  | some c =>
    have h13 := State.setSt_sameDram (a1 := CH_WEARSTAT_RESERVED_SP c) (a2 := 0)
      (State.onChan_sameDram (a1 := c) (a2 := fun x => { x with reserve := none }) h11)
    exact sameDram_ite (hardSpare_sameDram h13) (sameDram_ite (reserveSpare_sameDram h13) h13)

theorem leaveTest_sameDram {a0 : Nat} (h : SameDram p s) :
    SameDram p (leaveTest a0 s) := by
  unfold leaveTest
  extract_lets x1
  exact (sameDram_ite h (State.onChan_sameDram (State.setBits_sameDram h)))

theorem retrainFailed_sameDram {a0 : Nat} (h : SameDram p s) :
    SameDram p (retrainFailed a0 s) := by
  unfold retrainFailed
  extract_lets x1
  have h2 : SameDram p x1 := (leaveTest_sameDram h)
  exact (sameDram_ite (spareFailed_sameDram h2) (sameDram_ite (hardFailure_sameDram h2) h2))

theorem startupReplace_sameDram {a0 : Nat} (h : SameDram p s) :
    SameDram p (startupReplace a0 s) := by
  unfold startupReplace
  extract_lets x1
  have h2 : SameDram p x1 := (State.setSt_sameDram h)
  split
  · exact (raise_sameDram (retire_sameDram (replaceInTable_sameDram (State.onChan_sameDram h2))))
  · exact (raise_sameDram (retire_sameDram h2))

theorem startupRetirement_sameDram (h : SameDram p s) :
    SameDram p (startupRetirement s) := by
  unfold startupRetirement
  extract_lets x1 x2 x3
  have h4 : SameDram p x1 := by
    unfold x1
    refine sameDram_foldl (fun _ _ h7 => ?_) ?_
    · exact (sameDram_ite (startupReplace_sameDram h7) h7)
    · exact h
  have h8 : SameDram p x2 := by
    unfold x2
    refine sameDram_foldl (fun _ _ h11 => ?_) ?_
    · extract_lets x12
      have h13 : SameDram p x12 := (State.onChan_sameDram (State.setSt_sameDram h11))
      exact (sameDram_ite (raise_sameDram (retire_sameDram (retireInTable_sameDram h13))) h11)
    · exact h4
  have h14 : SameDram p x3 := (sameDram_foldl (fun _ _ h15 => (sameDram_ite (State.onChan_sameDram h15) h15)) h8)
  exact (restSpares_sameDram (sameDram_foldl (fun _ _ h16 => (sameDram_ite (State.onChan_sameDram h16) h16)) h14))

theorem requestEvac_sameDram {a0 : Nat} (h : SameDram p s) :
    SameDram p (requestEvac a0 s) := by
  unfold requestEvac
  extract_lets x1
  have h2 : SameDram p x1 := (State.setCf_sameDram h)
  exact (sameDram_ite (becomeWearing_sameDram h2) (State.setBits_sameDram h2))

theorem State.onBit_sameDram {a1 : Nat} {a2 : Nat} {a3 : BitCal → BitCal} (h : SameDram p s) :
    SameDram p (State.onBit s a1 a2 a3) := by
  unfold State.onBit
  exact (State.onCal_sameDram h)

theorem requestRetrain_sameDram {a0 : Nat} {a1 : Nat} (h : SameDram p s) :
    SameDram p (requestRetrain a0 a1 s) := by
  unfold requestRetrain
  extract_lets x1
  exact (sameDram_ite h (bookStep_sameDram (State.onCal_sameDram h)))

theorem limitReached_sameDram {a0 : Nat} (h : SameDram p s) :
    SameDram p (limitReached a0 s) := by
  unfold limitReached
  exact (requestRetrain_sameDram (State.bump_sameDram h))

theorem stampCal_sameDram {a0 : Nat} (h : SameDram p s) :
    SameDram p (stampCal a0 s) := by
  unfold stampCal
  exact (State.stamp_sameDram h)

theorem stepOverrun_sameDram {a0 : Nat} (h : SameDram p s) :
    SameDram p (stepOverrun a0 s) := by
  unfold stepOverrun
  split
  · exact h
  · split
    · exact h
    · extract_lets x1 x2 x3 x4
      exact (sameDram_ite h (sameDram_mk h))

theorem stepDone_sameDram {a0 : Nat} (h : SameDram p s) :
    SameDram p (stepDone a0 s) := by
  unfold stepDone
  extract_lets x1
  have h2 : SameDram p x1 := (State.onCal_sameDram (stepOverrun_sameDram h))
  exact (stampCal_sameDram (State.bump_sameDram h2))

theorem startJob_sameDram {a0 : Nat} {a1 : CalJob} (h : SameDram p s) :
    SameDram p (startJob a0 a1 s) := by
  unfold startJob
  extract_lets x1
  exact (State.onCal_sameDram (State.onChan_sameDram h))

theorem beginStep_sameDram {a0 : Nat} {a1 : Nat} {a2 : Nat} (h : SameDram p s) :
    SameDram p (beginStep a0 a1 a2 s) := by
  unfold beginStep
  extract_lets x1 x2 x3 x4
  have h5 : SameDram p x2 := (State.onCal_sameDram h)
  split
  · exact (State.setSt_sameDram (startJob_sameDram h5))
  · exact (State.onCal_sameDram h5)
  · exact (State.bump_sameDram (State.onCal_sameDram h5))
  · exact h5

theorem handScratch_sameDram {a0 : Nat} (h : SameDram p s) :
    SameDram p (handScratch a0 s) := by
  unfold handScratch
  apply sameDram_ite
  · exact h
  · split
    · exact (addPerch_sameDram (State.onCal_sameDram h))
    · exact (addPerch_sameDram (State.onCal_sameDram h))
    · exact h

theorem dropScratch_sameDram {a0 : Nat} (h : SameDram p s) :
    SameDram p (dropScratch a0 s) := by
  unfold dropScratch
  exact (State.onChan_sameDram (State.onCal_sameDram h))

theorem settleFill_sameDram {a0 : Nat} (h : SameDram p s) :
    SameDram p (settleFill a0 s) := by
  unfold settleFill
  split
  · exact (sameDram_ite (stepDone_sameDram h) h)
  · exact h

theorem abandonStep_sameDram {a0 : Nat} (h : SameDram p s) :
    SameDram p (abandonStep a0 s) := by
  unfold abandonStep
  split
  · exact h
  · extract_lets x1
    have h2 : SameDram p x1 := (bookStep_sameDram (State.onCal_sameDram h))
    exact (dropScratch_sameDram (State.onChan_sameDram h2))

theorem discardWindows_sameDram {a0 : Nat} (h : SameDram p s) :
    SameDram p (discardWindows a0 s) := by
  unfold discardWindows
  extract_lets x1
  exact (State.onCal_sameDram h)

theorem startSweep_sameDram {a0 : Nat} (h : SameDram p s) :
    SameDram p (startSweep a0 s) := by
  unfold startSweep
  extract_lets x1 x2
  exact (sameDram_ite h (State.onCal_sameDram h))

theorem wearMargin_sameDram {a0 : Nat} {a1 : Nat} {a2 : Nat} {a3 : Nat} {a4 : Nat} {a5 : Nat → State → State} (k5 : ∀ y0 y1, SameDram p y1 → SameDram p (a5 y0 y1)) (h : SameDram p s) :
    SameDram p (wearMargin a0 a1 a2 a3 a4 a5 s) := by
  unfold wearMargin
  extract_lets x1
  have h2 : SameDram p x1 := (k5 _ _ h)
  exact (sameDram_ite h (sameDram_ite (k5 _ _ h) (sameDram_ite (becomeWearing_sameDram h2) h2)))

theorem showEye_sameDram {a0 : Nat} (h : SameDram p s) :
    SameDram p (showEye a0 s) := by
  unfold showEye
  split
  · exact h
  · extract_lets x1 x2
    have h3 : SameDram p x1 := (State.setSt_sameDram (State.setSt_sameDram (State.setSt_sameDram h)))
    have h4 : SameDram p x2 := (stampCal_sameDram (State.bump_sameDram (State.setSt_sameDram h3)))
    exact (wearMargin_sameDram (fun _ _ h5 => (State.onCal_sameDram h5)) h4)

theorem showWeye_sameDram {a0 : Nat} (h : SameDram p s) :
    SameDram p (showWeye a0 s) := by
  unfold showWeye
  split
  · exact h
  · exact (State.setSt_sameDram h)

theorem settleSweep_sameDram {a0 : Nat} (h : SameDram p s) :
    SameDram p (settleSweep a0 s) := by
  unfold settleSweep
  exact (sameDram_ite (showEye_sameDram (State.onCal_sameDram h)) h)

theorem closeSweep_sameDram {a0 : Nat} {a1 : Nat} {a2 : Nat} {a3 : Nat} {a4 : Nat} (h : SameDram p s) :
    SameDram p (closeSweep a0 a1 a2 a3 a4 s) := by
  unfold closeSweep
  extract_lets x1 x2 x3 x4
  clear_value x3
  clear_value x4
  split
  · extract_lets x5 x6
    have h7 : SameDram p x5 := (State.setSt_sameDram (State.setSt_sameDram h))
    have h8 : SameDram p x6 := (State.onBit_sameDram h7)
    exact (settleSweep_sameDram (sameDram_ite (requestRetrain_sameDram h8) h8))
  · exact (State.onBit_sameDram h)

theorem closeTrack_sameDram {a0 : Nat} {a1 : Nat} {a2 : Nat} {a3 : Nat} {a4 : Nat} (h : SameDram p s) :
    SameDram p (closeTrack a0 a1 a2 a3 a4 s) := by
  unfold closeTrack
  extract_lets x1 x2 x3
  have h4 : SameDram p x2 := (State.onBit_sameDram h)
  exact (sameDram_ite h4 (sameDram_ite (sameDram_ite (limitReached_sameDram h4) (State.onBit_sameDram h4)) (sameDram_ite (limitReached_sameDram h4) (State.onBit_sameDram h4))))

theorem putSet_sameDram {a0 : Nat} {a1 : Bool} {a2 : CalFound} (h : SameDram p s) :
    SameDram p (putSet a0 a1 a2 s) := by
  unfold putSet
  extract_lets x1 x2 x3
  exact (State.onCal_sameDram h)

theorem putResults_sameDram {a0 : Nat} {a1 : Bool} {a2 : CalFound} (h : SameDram p s) :
    SameDram p (putResults a0 a1 a2 s) := by
  unfold putResults
  extract_lets x1 x2 x3
  have h4 : SameDram p x1 := (putSet_sameDram h)
  have h5 : SameDram p x2 := by
    unfold x2
    refine sameDram_foldl (fun _ _ h8 => ?_) ?_
    · extract_lets x9 x10 x11 x12 x13
      have h14 : SameDram p x10 := (State.setSt_sameDram h8)
      have h15 : SameDram p x11 := (State.setSt_sameDram (State.setSt_sameDram h14))
      have h16 : SameDram p x12 := (sameDram_ite (State.onBit_sameDram h15) h8)
      have h17 : SameDram p x13 := (State.setSt_sameDram (State.setSt_sameDram h16))
      exact (sameDram_ite (State.onBit_sameDram h17) h16)
    · exact h4
  have h18 : SameDram p x3 := (sameDram_foldl (fun _ _ h19 => (State.setSt_sameDram (State.setSt_sameDram h19))) h5)
  exact (showWeye_sameDram (discardWindows_sameDram h18))

theorem restartWck_sameDram {a0 : Nat} (h : SameDram p s) :
    SameDram p (restartWck a0 s) := by
  unfold restartWck
  exact (State.onRanks_sameDram h)

theorem trainDone_sameDram {a0 : Nat} {a1 : CalFound} (h : SameDram p s) :
    SameDram p (trainDone a0 a1 s) := by
  unfold trainDone
  extract_lets x1 x2
  have h3 : SameDram p x1 := (dropScratch_sameDram (restartWck_sameDram (State.onChan_sameDram h)))
  have h4 : SameDram p x2 := (State.setSt_sameDram h3)
  exact (sameDram_ite (showEye_sameDram (putResults_sameDram (State.setSt_sameDram h3))) (State.onChan_sameDram (State.setSt_sameDram h4)))

theorem retrainInPlace_sameDram {a0 : Nat} (h : SameDram p s) :
    SameDram p (retrainInPlace a0 s) := by
  unfold retrainInPlace
  exact (State.setSt_sameDram (startJob_sameDram h))

theorem settleCheck_sameDram {a0 : Nat} (h : SameDram p s) :
    SameDram p (settleCheck a0 s) := by
  unfold settleCheck
  extract_lets x1 x2 x3 x4
  exact (sameDram_ite h (State.onCal_sameDram h))

theorem checkDone_sameDram {a0 : Nat} {a1 : CalFound} (h : SameDram p s) :
    SameDram p (checkDone a0 a1 s) := by
  unfold checkDone
  extract_lets x1 x2 x3 x4
  have h5 : SameDram p x3 := (State.onRanks_sameDram (stampCal_sameDram (State.bump_sameDram h)))
  have h6 : SameDram p x4 := (State.onCal_sameDram h5)
  exact (sameDram_ite (sameDram_foldl (fun _ _ h7 => (sameDram_foldl (fun _ _ h8 => (State.onCal_sameDram h8)) h7)) h6) (retrainInPlace_sameDram h6))

theorem oscCount_sameDram {a0 : Nat} {a1 : Nat} {a2 : Nat} (h : SameDram p s) :
    SameDram p (oscCount a0 a1 a2 s) := by
  unfold oscCount
  extract_lets x1 x2 x3 x4 x5 x6 x7 x8
  have h9 : SameDram p x2 := (State.setSt_sameDram h)
  have h10 : SameDram p x8 := (sameDram_foldl (fun _ _ h11 => (State.onBit_sameDram h11)) h9)
  exact (sameDram_ite (requestRetrain_sameDram h9) (sameDram_ite (requestRetrain_sameDram h9) (State.setSt_sameDram h10)))

theorem wrcBit_sameDram {a0 : Nat} {a1 : Nat} {a2 : Bool} {a3 : Bool} (h : SameDram p s) :
    SameDram p (wrcBit a0 a1 a2 a3 s) := by
  unfold wrcBit
  extract_lets x1 x2
  have h3 : SameDram p x2 := (sameDram_ite h (State.onBit_sameDram h))
  split
  · exact (State.onBit_sameDram h3)
  · exact (sameDram_ite (requestRetrain_sameDram h3) (State.onBit_sameDram h3))
  · exact (sameDram_ite (requestRetrain_sameDram h3) (State.onBit_sameDram h3))
  · exact (sameDram_ite (requestRetrain_sameDram h3) (State.onBit_sameDram h3))

theorem wrcDone_sameDram {a0 : Nat} {a1 : Nat} {a2 : List (Bool × Bool)} (h : SameDram p s) :
    SameDram p (wrcDone a0 a1 a2 s) := by
  unfold wrcDone
  extract_lets x1 x2
  have h3 : SameDram p x1 := by
    unfold x1
    refine sameDram_foldl (fun _ _ h6 => ?_) ?_
    · extract_lets x7 x8 x9
      have h10 : SameDram p x9 := (wrcBit_sameDram h6)
      exact (sameDram_ite (State.setSt_sameDram h10) h6)
    · exact h
  have h11 : SameDram p x2 := (showWeye_sameDram (stepDone_sameDram h3))
  exact (wearMargin_sameDram (fun _ _ h12 => (State.onCal_sameDram h12)) h11)

theorem countMove_sameDram {a0 : Nat} (h : SameDram p s) :
    SameDram p (countMove a0 s) := by
  unfold countMove
  exact (State.bump_sameDram h)

theorem moveCode_sameDram {a0 : Nat} {a1 : Nat} (h : SameDram p s) :
    SameDram p (moveCode a0 a1 s) := by
  unfold moveCode
  extract_lets x1 x2 x3
  have h4 : SameDram p x2 := (State.onQuad_sameDram h)
  have h5 : SameDram p x3 := (countMove_sameDram (State.setSt_sameDram h4))
  exact (sameDram_ite (raise_sameDram (State.bump_sameDram h5)) h5)

theorem calPause_sameDram {a0 : Nat} (h : SameDram p s) :
    SameDram p (calPause a0 s) := by
  unfold calPause
  extract_lets x1 x2 x3
  have h4 : SameDram p x2 := (State.unpost_sameDram (State.setCf_sameDram h))
  exact (sameDram_foldl (fun _ _ h5 => (discardWindows_sameDram (State.onCal_sameDram h5))) h4)

theorem calUnpause_sameDram {a0 : Nat} (h : SameDram p s) :
    SameDram p (calUnpause a0 s) := by
  unfold calUnpause
  extract_lets x1 x2
  have h3 : SameDram p x1 := (State.setCf_sameDram h)
  have h4 : SameDram p x2 := (State.onQuad_sameDram h3)
  exact (sameDram_foldl (fun _ _ h5 => (State.onCal_sameDram (discardWindows_sameDram h5))) h4)

theorem sweepQuad_sameDram {a0 : Nat} (h : SameDram p s) :
    SameDram p (sweepQuad a0 s) := by
  unfold sweepQuad
  exact (sameDram_foldl (fun _ _ h1 => (sameDram_ite (startSweep_sameDram h1) h1)) h)

theorem zqInterval_sameDram {a0 : Nat} {a1 : Vector Nat 3} (h : SameDram p s) :
    SameDram p (zqInterval a0 a1 s) := by
  unfold zqInterval
  extract_lets x1
  have h2 : SameDram p x1 := (State.onQuad_sameDram h)
  exact (sameDram_foldl (fun _ _ h3 => (zqDue_sameDram h3)) h2)

theorem setCounter_sameDram {a0 : CounterId} {a1 : Nat} (h : SameDram p s) :
    SameDram p (setCounter a0 a1 s) := by
  unfold setCounter
  exact (State.setCf_sameDram (State.setCf_sameDram h))

theorem wrapped_sameDram {a0 : CounterId} (h : SameDram p s) :
    SameDram p (wrapped a0 s) := by
  unfold wrapped
  extract_lets x1 x2
  have h3 : SameDram p x1 := (State.setBit_sameDram h)
  have h4 : SameDram p x2 := (sameDram_ite (State.onPerf_sameDram h3) h3)
  split
  · exact (sameDram_ite (State.setCf_sameDram h4) h4)
  · exact h4

theorem countNow_sameDram {a0 : CounterId} (h : SameDram p s) :
    SameDram p (countNow a0 s) := by
  unfold countNow
  extract_lets x1 x2 x3
  have h4 : SameDram p x3 := (setCounter_sameDram (State.onPerf_sameDram h))
  exact (sameDram_ite h (sameDram_ite (wrapped_sameDram h4) h4))

theorem settled_sameDram {a0 : CounterId} (h : SameDram p s) :
    SameDram p (settled a0 s) := by
  unfold settled
  exact (State.onPerf_sameDram h)

theorem countAll_sameDram (h : SameDram p s) :
    SameDram p (countAll s) := by
  unfold countAll
  extract_lets x1 x2 x3
  have h4 : SameDram p x2 := (sameDram_foldl (fun _ _ h5 => (countNow_sameDram h5)) h)
  have h6 : SameDram p x3 := (State.onPerf_sameDram h4)
  split
  · exact (sameDram_ite (event_sameDram (State.onPerf_sameDram h6)) h6)
  · exact h6

theorem holdLow_sameDram {a0 : CounterId} {a1 : Word} (h : SameDram p s) :
    SameDram p (holdLow a0 a1 s) := by
  unfold holdLow
  exact (State.onPerf_sameDram h)

theorem writeHigh_sameDram {a0 : CounterId} {a1 : Word} (h : SameDram p s) :
    SameDram p (writeHigh a0 a1 s) := by
  unfold writeHigh
  extract_lets x1 x2
  have h3 : SameDram p x2 := (State.onPerf_sameDram h)
  exact (settled_sameDram (setCounter_sameDram h3))

theorem beforeSelect_sameDram {a0 : CounterId} (h : SameDram p s) :
    SameDram p (beforeSelect a0 s) := by
  unfold beforeSelect
  exact (sameDram_ite h (State.onPerf_sameDram h))

theorem clearCounter_sameDram {a0 : CounterId} (h : SameDram p s) :
    SameDram p (clearCounter a0 s) := by
  unfold clearCounter
  exact (setCounter_sameDram (State.onPerf_sameDram h))

theorem clearCounters_sameDram {a0 : CounterSet} {a1 : Nat} (h : SameDram p s) :
    SameDram p (clearCounters a0 a1 s) := by
  unfold clearCounters
  exact (sameDram_foldl (fun _ _ h1 => (sameDram_ite (clearCounter_sameDram h1) h1)) h)

theorem clearBushel_sameDram (h : SameDram p s) :
    SameDram p (clearBushel s) := by
  unfold clearBushel
  exact (sameDram_ite h (sameDram_foldl (fun _ _ h1 => (clearCounter_sameDram h1)) h))

theorem snapshot_sameDram (h : SameDram p s) :
    SameDram p (snapshot s) := by
  unfold snapshot
  extract_lets x1 x2 x3
  have h4 : SameDram p x1 := by
    unfold x1
    refine sameDram_foldl (fun _ _ h7 => ?_) ?_
    · extract_lets x8
      exact (State.setSt_sameDram (State.setSt_sameDram h7))
    · exact h
  have h9 : SameDram p x2 := (State.setSt_sameDram h4)
  have h10 : SameDram p x3 := (State.onPerf_sameDram h9)
  exact (sameDram_ite h (sameDram_ite (clearBushel_sameDram h10) h10))

theorem writeFreeze_sameDram {a0 : Bool} (h : SameDram p s) :
    SameDram p (writeFreeze a0 s) := by
  unfold writeFreeze
  exact (State.onPerf_sameDram (State.setCf_sameDram h))

theorem ack_sameDram {a0 : Nat} (h : SameDram p s) :
    SameDram p (ack a0 s) := by
  unfold ack
  extract_lets x1
  exact (sameDram_mk h)

theorem clearLog_sameDram {a0 : Nat} (h : SameDram p s) :
    SameDram p (clearLog a0 s) := by
  unfold clearLog
  extract_lets x1 x2
  exact (sameDram_mk h)

theorem clearScruple_sameDram {a0 : Nat} (h : SameDram p s) :
    SameDram p (clearScruple a0 s) := by
  unfold clearScruple
  extract_lets x1 x2
  exact (sameDram_mk h)

theorem postOnce_sameDram {a0 : GapKind} {a1 : Nat} {a2 : Work} {a3 : Nat} {a4 : Nat} {a5 : Nat} (h : SameDram p s) :
    SameDram p (postOnce a0 a1 a2 a3 a4 a5 s) := by
  unfold postOnce
  extract_lets x1
  exact (sameDram_ite h (post_sameDram h))

theorem postRefresh_sameDram {a0 : GapKind} {a1 : Nat} (h : SameDram p s) :
    SameDram p (postRefresh a0 a1 s) := by
  unfold postRefresh
  extract_lets x1
  exact (sameDram_ite (postOnce_sameDram h) h)

theorem postSteps_sameDram {a0 : GapKind} {a1 : Nat} (h : SameDram p s) :
    SameDram p (postSteps a0 a1 s) := by
  unfold postSteps
  refine sameDram_foldl (fun _ _ h2 => ?_) ?_
  · extract_lets x3
    exact (sameDram_ite (postOnce_sameDram h2) h2)
  · exact h

theorem postDuties_sameDram {a0 : GapKind} {a1 : Nat} (h : SameDram p s) :
    SameDram p (postDuties a0 a1 s) := by
  unfold postDuties
  refine sameDram_foldl (fun _ _ h2 => ?_) ?_
  · extract_lets x3
    exact (sameDram_ite (postOnce_sameDram h2) h2)
  · exact h

theorem postAll_sameDram {a0 : GapKind} (h : SameDram p s) :
    SameDram p (postAll a0 s) := by
  unfold postAll
  exact (sameDram_foldl (fun _ _ h1 => (postDuties_sameDram (postSteps_sameDram (postRefresh_sameDram h1)))) (tryPostOp_sameDram h))

theorem beginWork_sameDram {a0 : Booking} (h : SameDram p s) :
    SameDram p (beginWork a0 s) := by
  unfold beginWork
  split
  · exact (sameDram_ite (opGranted_sameDram h) h)
  · exact h
  · extract_lets x1 x2
    exact (beginStep_sameDram h)
  · split
    · exact (sameDram_ite (beginSwap_sameDram h) h)
    · exact h
  · exact (bookedPermit_sameDram h)
  · exact (bookedPermit_sameDram h)
  · exact (bookedPermit_sameDram h)

theorem beginGrants_sameDram (h : SameDram p s) :
    SameDram p (beginGrants s) := by
  unfold beginGrants
  refine sameDram_foldl (fun _ _ h2 => ?_) ?_
  · extract_lets x3 x4
    exact (sameDram_ite h2 (beginWork_sameDram (sameDram_mk h2)))
  · exact h

theorem endWork_sameDram {a0 : Booking} (h : SameDram p s) :
    SameDram p (endWork a0 s) := by
  unfold endWork
  extract_lets x1
  split
  · exact (sameDram_ite h (endPermit_sameDram h))
  · exact (sameDram_ite h (endPermit_sameDram h))
  · exact (sameDram_ite h (endPermit_sameDram h))
  · exact (settleFill_sameDram h)
  · exact h

theorem grantBooking_sameDram {a0 : GapKind} {a1 : Nat} {a2 : Booking} (h : SameDram p s) :
    SameDram p (grantBooking a0 a1 a2 s) := by
  unfold grantBooking
  extract_lets x1 x2 x3 x4 x5 x6
  have h7 : SameDram p x2 := (State.unpost_sameDram h)
  have h8 : SameDram p x4 := (sameDram_mk h7)
  split
  · exact (sameDram_mk h8)
  · exact (sameDram_mk h8)
  · exact (sameDram_ite (State.onScrub_sameDram h8) h8)
  · exact h8

theorem noteNoFit_sameDram {a0 : Booking} (h : SameDram p s) :
    SameDram p (noteNoFit a0 s) := by
  unfold noteNoFit
  extract_lets x1
  exact (sameDram_mk h)

theorem tooLong_sameDram {a0 : Nat} {a1 : Booking} (h : SameDram p s) :
    SameDram p (tooLong a0 a1 s) := by
  unfold tooLong
  extract_lets x1 x2 x3 x4
  have h5 : SameDram p x1 := (sameDram_ite h (noteNoFit_sameDram (State.bump_sameDram h)))
  split
  · exact (sameDram_ite h5 (State.bump_sameDram h5))
  · exact (sameDram_ite h5 (sameDram_mk h5))
  · exact (sameDram_ite h5 (State.onScrub_sameDram (State.unpost_sameDram h5)))
  · exact h5

theorem tryGrant_sameDram {a0 : GapKind} {a1 : Nat} {a2 : List (GapKind × Scope × Nat)} {a3 : Booking} (h : SameDram p s) :
    SameDram p (tryGrant a0 a1 a2 a3 s) := by
  unfold tryGrant
  extract_lets x1 x2
  exact (sameDram_ite (sameDram_ite (tooLong_sameDram h) h) (sameDram_ite (grantBooking_sameDram h) h))

theorem forceSwap_sameDram (h : SameDram p s) :
    SameDram p (forceSwap s) := by
  unfold forceSwap
  extract_lets x1 x2
  have h3 : SameDram p x2 := (sameDram_mk h)
  exact (sameDram_ite (beginSwap_sameDram (State.unpost_sameDram (State.bump_sameDram h3))) h)

theorem openGap_sameDram {a0 : GapKind} (h : SameDram p s) :
    SameDram p (openGap a0 s) := by
  unfold openGap
  extract_lets x1 x2 x3 x4 x5 x6 x7 x8 x9 x10 x11
  have h12 : SameDram p x3 := (endGap_sameDram h)
  have h13 : SameDram p x5 := by
    unfold x5
    split
    · exact (sameDram_mk h)
    · exact (forceSwap_sameDram (sameDram_mk h12))
  have h14 : SameDram p x6 := (postAll_sameDram h13)
  have h15 : SameDram p x9 := (sameDram_mk h14)
  have h16 : SameDram p x11 := (sameDram_foldl (fun _ _ h17 => (tryGrant_sameDram h17)) h15)
  exact (beginGrants_sameDram (State.unpost_sameDram h16))

theorem openV_sameDram (h : SameDram p s) :
    SameDram p (openV s) := by
  unfold openV
  exact (sameDram_ite (openGap_sameDram h) h)

theorem swapHeld_sameDram (h : SameDram p s) :
    SameDram p (swapHeld s) := by
  unfold swapHeld
  extract_lets x1
  exact (sameDram_ite (sameDram_mk h) h)

theorem countLate_sameDram (h : SameDram p s) :
    SameDram p (countLate s) := by
  unfold countLate
  extract_lets x1 x2 x3 x4 x5 x6
  have h7 : SameDram p x1 := (swapHeld_sameDram h)
  have h8 : SameDram p x3 := (sameDram_mk h7)
  have h9 : SameDram p x5 := (State.bump_sameDram (State.bump_sameDram h8))
  exact (sameDram_mk h9)

theorem recordFrame_sameDram (h : SameDram p s) :
    SameDram p (recordFrame s) := by
  unfold recordFrame
  extract_lets x1 x2 x3
  have h4 : SameDram p x2 := (sameDram_ite (State.bump_sameDram h) h)
  exact (sameDram_ite h (sameDram_mk h4))

theorem frameWork_sameDram (h : SameDram p s) :
    SameDram p (frameWork s) := by
  unfold frameWork
  extract_lets x1 x2 x3 x4
  have h5 : SameDram p x1 := (sameDram_ite (opFrame_sameDram h) h)
  have h6 : SameDram p x2 := (sameDram_foldl (fun _ _ h7 => (State.onScrub_sameDram h7)) h5)
  have h8 : SameDram p x3 := (sameDram_ite (commitGates_sameDram h6) h6)
  have h9 : SameDram p x4 := (sameDram_ite (snapshot_sameDram h8) h8)
  exact (countLate_sameDram h9)

theorem newFrame_sameDram {a0 : BitVec 24} {a1 : Bool} (h : SameDram p s) :
    SameDram p (newFrame a0 a1 s) := by
  unfold newFrame
  extract_lets x1 x2 x3 x4
  have h5 : SameDram p x1 := (recordFrame_sameDram (endGaps_sameDram h))
  have h6 : SameDram p x4 := (sameDram_mk h5)
  exact (frameWork_sameDram (beginLine_sameDram h6))

theorem State.onKeys_sameDram {a1 : Keys → Keys} (h : SameDram p s) :
    SameDram p (State.onKeys s a1) := by
  unfold State.onKeys
  exact (sameDram_mk h)

theorem clearStaging_sameDram (h : SameDram p s) :
    SameDram p (clearStaging s) := by
  unfold clearStaging
  exact (sameDram_foldl (fun _ _ h1 => (State.setCf_sameDram h1)) h)

theorem loadKey_sameDram {a0 : Nat} (h : SameDram p s) : SameDram p (loadKey a0 s).2 := by
  unfold loadKey
  dsimp only
  apply clearStaging_sameDram
  split
  · exact State.onKeys_sameDram h
  · exact h

theorem retireSlot_sameDram {a0 : Nat} (h : SameDram p s) :
    SameDram p (retireSlot a0 s) := by
  unfold retireSlot
  exact (State.onKeys_sameDram h)

theorem retireKey_sameDram {a0 : Nat} (h : SameDram p s) : SameDram p (retireKey a0 s).2 :=
  sameDram_ite (State.onKeys_sameDram (retireSlot_sameDram h)) h

theorem setResult_sameDram {a0 : Nat} (h : SameDram p s) :
    SameDram p (setResult a0 s) := by
  unfold setResult
  exact (State.onKeys_sameDram h)

theorem writeKeyCtl_sameDram {a0 a1 : Bool} (h : SameDram p s) : SameDram p (writeKeyCtl a0 a1 s) := by
  have hr := retireKey_sameDram (a0 := s.cf KY_CTL_SLOT) h
  have hl := loadKey_sameDram (a0 := s.cf KY_CTL_SLOT) h
  have hrl := loadKey_sameDram (a0 := s.cf KY_CTL_SLOT) hr
  cases a0 <;> cases a1 <;> simp only [writeKeyCtl, Bool.or_true, Bool.or_false, if_true, if_false, Bool.false_eq_true]
  · exact h
  · exact setResult_sameDram hr
  · exact setResult_sameDram hl
  · exact setResult_sameDram hrl

theorem startRekey_sameDram (h : SameDram p s) :
    SameDram p (startRekey s) := by
  unfold startRekey
  extract_lets x1 x2
  have h3 : SameDram p x2 := (setResult_sameDram (State.onKeys_sameDram h))
  exact (sameDram_ite h (sameDram_ite (sameDram_ite (setResult_sameDram h) (setResult_sameDram (State.onKeys_sameDram h))) (sameDram_ite (setResult_sameDram h) (sameDram_ite (setResult_sameDram h) (sameDram_foldl (fun _ _ h4 => (State.onChan_sameDram (State.setSt_sameDram h4))) h3)))))

theorem abortRekey_sameDram (h : SameDram p s) :
    SameDram p (abortRekey s) := by
  unfold abortRekey
  exact (sameDram_ite (State.onKeys_sameDram h) h)

theorem writeRekeyCtl_sameDram {a0 : Bool} {a1 : Bool} (h : SameDram p s) :
    SameDram p (writeRekeyCtl a0 a1 s) := by
  unfold writeRekeyCtl
  exact (sameDram_ite (abortRekey_sameDram h) (sameDram_ite (startRekey_sameDram h) h))

theorem zeroize_sameDram (h : SameDram p s) :
    SameDram p (zeroize s) := by
  unfold zeroize
  exact (State.onKeys_sameDram (clearStaging_sameDram h))

theorem refuseLock_sameDram {a0 : Nat} (h : SameDram p s) :
    SameDram p (refuseLock a0 s) := by
  unfold refuseLock
  exact (State.onQuad_sameDram (State.bump_sameDram h))

theorem fillLine_sameDram {a0 a1 a2 : Nat} {a3 : Bool} {a4 : Option Nat} {t : State} (h : SameDram p s)
    (e : fillLine a0 a1 a2 a3 a4 s = some t) : SameDram p t := by
  unfold fillLine at e
  split at e
  · injection e with e
    exact e ▸ State.addFill_sameDram (State.onWay_sameDram h)
  · obtain ⟨⟨w, wb, u⟩, hu, e⟩ := Option.map_eq_some_iff.1 e
    exact e ▸ State.addFill_sameDram (takeWay_sameDram h hu)

theorem visit_sameDram {a0 a1 a2 a3 : Nat} {t : State} (h : SameDram p s) (e : visit a0 a1 a2 a3 s = some t) : SameDram p t := by
  have put {u : State} (hu : SameDram p u) (e : some u = some t) : SameDram p t := Option.some.inj e ▸ hu
  unfold visit at e
  dsimp only at e
  split at e
  · split at e
    · exact put h e
    · split at e
      · exact fillLine_sameDram h e
      · split at e
        · exact put (refuseLock_sameDram h) e
        · exact fillLine_sameDram h e
      · exact put h e
  · split at e
    · cases e
    · split at e
      · split at e
        · split at e
          · exact fillLine_sameDram h e
          · exact put h e
        · split at e
          · exact fillLine_sameDram h e
          · exact put h e
        · exact put (State.onWay_sameDram h) e
        · exact put h e
      · split at e
        · exact put (State.cleanWay_sameDram h) e
        · split at e
          · exact put (State.bump_sameDram (State.onWay_sameDram (State.cleanWay_sameDram h))) e
          · exact put (State.onWay_sameDram (State.cleanWay_sameDram h)) e
        · split at e
          · exact put h e
          · split at e
            · exact put (refuseLock_sameDram h) e
            · exact put (State.onWay_sameDram h) e
        · exact put (State.onWay_sameDram h) e
        · exact put h e

theorem mopStep_sameDram {a0 : Nat} (h : SameDram p s) :
    SameDram p (mopStep a0 s) := by
  unfold mopStep
  split
  · exact h
  · extract_lets x1
    have h2 : ∀ y0 y1, SameDram p y1 → SameDram p (x1 y0 y1) := by
      intro y0 y1 h2_1
      unfold x1
      exact (State.onQuad_sameDram h2_1)
    apply sameDram_ite
    · exact h
    · split
      · exact (h2 _ _ h)
      · extract_lets x3
        apply sameDram_ite
        · exact h
        · split
          · rename_i heq
            have h4 := visit_sameDram (State.onLane_sameDram h) heq
            exact (h2 _ _ h4)
          · exact h

theorem startMop_sameDram {a0 : Nat} {a1 : Nat} {a2 : Bool} (h : SameDram p s) :
    SameDram p (startMop a0 a1 a2 s) := by
  unfold startMop
  extract_lets x1 x2
  have h3 : ∀ y0, SameDram p (x2 y0) := by
    intro y0 
    unfold x2
    exact (State.setSt_sameDram h)
  exact (sameDram_ite h (sameDram_ite (h3 _) (sameDram_ite (h3 _) (State.onQuad_sameDram h))))

theorem settleBypass_sameDram {a0 : Nat} (h : SameDram p s) :
    SameDram p (settleBypass a0 s) := by
  unfold settleBypass
  extract_lets x1 x2 x3
  have h4 : ∀ y0 y1, SameDram p y1 → SameDram p (x2 y0 y1) := by
    intro y0 y1 h4_1
    unfold x2
    exact (State.onQuad_sameDram h4_1)
  exact (sameDram_ite (h4 _ _ h) (sameDram_ite (h4 _ _ h) (sameDram_ite (State.onQuad_sameDram (h4 _ _ (flushCache_sameDram h))) h)))

theorem enterBypass_sameDram {a0 : Nat} (h : SameDram p s) :
    SameDram p (enterBypass a0 s) := by
  unfold enterBypass
  exact (settleBypass_sameDram (State.setCf_sameDram h))

theorem leaveBypass_sameDram {a0 : Nat} (h : SameDram p s) :
    SameDram p (leaveBypass a0 s) := by
  unfold leaveBypass
  exact (State.onQuad_sameDram (State.setCf_sameDram h))

theorem goOp_sameDram {a0 : Nat} {a1 : Nat} (h : SameDram p s) :
    SameDram p (goOp a0 a1 s) := by
  unfold goOp
  exact (sameDram_ite (startMop_sameDram (State.setCf_sameDram h)) h)

theorem dropAll_sameDram {a0 : Nat} (h : SameDram p s) :
    SameDram p (dropAll a0 s) := by
  unfold dropAll
  extract_lets x1
  have h2 : SameDram p x1 := (abandonStep_sameDram h)
  exact (State.onChan_sameDram h2)

theorem freeLanes_sameDram {a0 : Nat} (h : SameDram p s) :
    SameDram p (freeLanes a0 s) := by
  unfold freeLanes
  extract_lets x1
  exact (State.onQuad_sameDram h)

theorem grantSecure_sameDram (h : SameDram p s) :
    SameDram p (grantSecure s) := by
  unfold grantSecure
  extract_lets x1
  exact (event_sameDram (sameDram_mk h))

theorem grantDark_sameDram (h : SameDram p s) :
    SameDram p (grantDark s) := by
  unfold grantDark
  extract_lets x1 x2 x3 x4
  have h5 : SameDram p x1 := (zeroize_sameDram h)
  exact (sameDram_mk h5)

theorem settleHalt_sameDram (h : SameDram p s) :
    SameDram p (settleHalt s) := by
  unfold settleHalt
  extract_lets x1 x2 x3 x4 x5 x6
  have h7 : SameDram p x2 := (sameDram_foldl (fun _ _ h8 => (freeLanes_sameDram h8)) (sameDram_foldl (fun _ _ h9 => (dropAll_sameDram h9)) h))
  have h10 : SameDram p x3 := (sameDram_ite (zeroize_sameDram h7) h7)
  have h11 : SameDram p x6 := (sameDram_mk h)
  exact (sameDram_ite (sameDram_foldl (fun _ _ h12 => (State.onRanks_sameDram h12)) (sameDram_mk h10)) (sameDram_ite (sameDram_ite (grantSecure_sameDram h11) h11) h))

theorem startSecure_sameDram (h : SameDram p s) :
    SameDram p (startSecure s) := by
  unfold startSecure
  extract_lets x1 x2 x3 x4
  have h5 : SameDram p x2 := (sameDram_mk h)
  have h6 : SameDram p x3 := (sameDram_ite (stopBlock_sameDram h5) h5)
  exact (sameDram_ite h (sameDram_ite (grantDark_sameDram h5) (sameDram_mk h6)))

theorem quiesceStep_sameDram {a0 : Nat} (h : SameDram p s) :
    SameDram p (quiesceStep a0 s) := by
  unfold quiesceStep
  extract_lets x1
  exact (sameDram_mk h)

theorem takePins_sameDram (h : SameDram p s) :
    SameDram p (takePins s) := by
  unfold takePins
  extract_lets x1
  exact (quiesceStep_sameDram (sameDram_mk h))

theorem raiseReady_sameDram (h : SameDram p s) :
    SameDram p (raiseReady s) := by
  unfold raiseReady
  extract_lets x1
  exact (sameDram_ite h (sameDram_foldl (fun _ _ h2 => (setIngHold_sameDram h2)) (sameDram_mk h)))

theorem setTest_sameDram {a0 : Nat} {a1 : Nat} (h : SameDram p s) :
    SameDram p (setTest a0 a1 s) := by
  unfold setTest
  exact (State.onChan_sameDram h)

theorem testReturn_sameDram {a0 : Nat} (h : SameDram p s) :
    SameDram p (testReturn a0 s) := by
  unfold testReturn
  extract_lets x1 x2 x3
  have h4 : SameDram p x2 := (State.onChan_sameDram (setTest_sameDram h))
  have h5 : SameDram p x3 := (State.setSt_sameDram (restartTracking_sameDram (initSet_sameDram h4)))
  exact (sameDram_ite (State.onRanks_sameDram h4) (startJob_sameDram (State.onRanks_sameDram h5)))

theorem dropTests_sameDram {a0 : Nat} {a1 : Op → Bool} (h : SameDram p s) :
    SameDram p (dropTests a0 a1 s) := by
  unfold dropTests
  exact (State.onChan_sameDram h)

theorem feedTest_sameDram {a0 : Nat} (h : SameDram p s) :
    SameDram p (feedTest a0 s) := by
  unfold feedTest
  extract_lets x1 x2 x3 x4 x5 x6
  exact (sameDram_ite h (State.onChan_sameDram (State.addOp_sameDram h)))

theorem forgetCached_sameDram {a0 : Nat} (h : SameDram p s) :
    SameDram p (forgetCached a0 s) := by
  unfold forgetCached
  extract_lets x1
  exact (State.onQuad_sameDram h)

theorem testEnd_sameDram {a0 : Nat} (h : SameDram p s) :
    SameDram p (testEnd a0 s) := by
  unfold testEnd
  extract_lets x1 x2 x3
  have h4 : SameDram p x2 := (leaveTest_sameDram h)
  have h5 : SameDram p x3 := (State.setSt_sameDram (State.setSt_sameDram h4))
  exact (sameDram_ite (State.onRanks_sameDram h4) (sameDram_ite (startClearing_sameDram (forgetCached_sameDram h5)) h4))

theorem settleTest_sameDram {a0 : Nat} (h : SameDram p s) :
    SameDram p (settleTest a0 s) := by
  unfold settleTest
  extract_lets x1 x2 x3 x4 x5
  have h6 : SameDram p x2 := (State.onChan_sameDram h)
  have h7 : SameDram p x4 := (State.onChan_sameDram h)
  have h8 : SameDram p x5 := (dropTests_sameDram h)
  split
  · exact (sameDram_ite (testReturn_sameDram h6) (sameDram_ite h6 (sameDram_ite (State.onRanks_sameDram (setTest_sameDram h6)) (sameDram_foldl (fun _ _ h9 => (State.cleanWay_sameDram h9)) h6))))
  · exact (sameDram_ite (testReturn_sameDram h) (sameDram_ite (sameDram_ite (State.onRanks_sameDram h7) h7) h))
  · exact (sameDram_ite (testReturn_sameDram h) h)
  · exact (sameDram_ite (sameDram_ite (feedTest_sameDram h) h) (sameDram_ite (testReturn_sameDram h8) h8))
  · exact (sameDram_ite (testEnd_sameDram h) h)
  · exact h

theorem testGo_sameDram {a0 : Nat} {a1 : Bool} {a2 : Bool} (h : SameDram p s) :
    SameDram p (testGo a0 a1 a2 s) := by
  unfold testGo
  extract_lets x1 x2 x3 x4
  have h5 : SameDram p x2 := (State.setCf_sameDram (State.setCf_sameDram h))
  exact (sameDram_ite (settleTest_sameDram (State.onChan_sameDram h5)) (State.setBits_sameDram h5))

theorem testAbort_sameDram {a0 : Nat} (h : SameDram p s) :
    SameDram p (testAbort a0 s) := by
  unfold testAbort
  extract_lets x1
  exact (sameDram_ite (settleTest_sameDram (State.onChan_sameDram h)) h)

theorem writeTst_sameDram {a0 : Nat} {a1 : Bool} {a2 : Bool} {a3 : Bool} {a4 : Bool} (h : SameDram p s) :
    SameDram p (writeTst a0 a1 a2 a3 a4 s) := by
  unfold writeTst
  extract_lets x1 x2 x3
  have h4 : SameDram p x1 := (dropHeld_sameDram h)
  have h5 : SameDram p x2 := (State.setCf_sameDram (State.setCf_sameDram h4))
  have h6 : SameDram p x3 := (sameDram_ite (testAbort_sameDram h5) h5)
  exact (sameDram_ite (testGo_sameDram h6) h6)

theorem abandonTest_sameDram {a0 : Nat} (h : SameDram p s) :
    SameDram p (abandonTest a0 s) := by
  unfold abandonTest
  extract_lets x1 x2
  have h3 : SameDram p x2 := (State.onChan_sameDram (setTest_sameDram (dropTests_sameDram h)))
  exact (sameDram_ite h (sameDram_ite (State.onRanks_sameDram h3) h3))

theorem abandonTests_sameDram (h : SameDram p s) :
    SameDram p (abandonTests s) := by
  unfold abandonTests
  exact (sameDram_foldl (fun _ _ h1 => (abandonTest_sameDram h1)) h)

theorem resumeTests_sameDram (h : SameDram p s) :
    SameDram p (resumeTests s) := by
  unfold resumeTests
  exact (sameDram_foldl (fun _ _ h1 => (sameDram_ite (testReturn_sameDram h1) h1)) h)

theorem giveRoom_sameDram (h : SameDram p s) :
    SameDram p (giveRoom s) := by
  unfold giveRoom
  exact (sameDram_foldl (fun _ _ h1 => (State.onChan_sameDram h1)) h)

theorem openQuiesce_sameDram (h : SameDram p s) :
    SameDram p (openQuiesce s) := by
  unfold openQuiesce
  extract_lets x1 x2
  have h3 : SameDram p x1 := (giveRoom_sameDram h)
  exact (sameDram_mk h3)

theorem settleQuiesce_sameDram (h : SameDram p s) :
    SameDram p (settleQuiesce s) := by
  unfold settleQuiesce
  extract_lets x1 x2
  split
  · exact (sameDram_ite h (sameDram_ite (takePins_sameDram h) (sameDram_foldl (fun _ _ h3 => (State.onChan_sameDram h3)) (quiesceStep_sameDram h))))
  · exact (sameDram_ite (sameDram_foldl (fun _ _ h4 => (flushCache_sameDram h4)) (quiesceStep_sameDram h)) (sameDram_foldl (fun _ _ h5 => (State.onChan_sameDram h5)) h))
  · exact (sameDram_ite (sameDram_foldl (fun _ _ h6 => (State.onRanks_sameDram h6)) (quiesceStep_sameDram h)) h)
  · exact (sameDram_ite (takePins_sameDram h) h)
  · exact (sameDram_ite h (sameDram_ite (raiseReady_sameDram (resumeTests_sameDram (openQuiesce_sameDram h))) (sameDram_ite (giveRoom_sameDram h) h)))
  · exact h

theorem startQuiesce_sameDram (h : SameDram p s) :
    SameDram p (startQuiesce s) := by
  unfold startQuiesce
  extract_lets x1 x2
  have h3 : SameDram p x2 := (sameDram_mk h)
  exact (sameDram_ite h (sameDram_ite (takePins_sameDram h3) (settleQuiesce_sameDram (quiesceStep_sameDram (abandonTests_sameDram h3)))))

theorem endQuiesce_sameDram (h : SameDram p s) :
    SameDram p (endQuiesce s) := by
  unfold endQuiesce
  extract_lets x1 x2 x3
  have h4 : SameDram p x2 := (sameDram_mk h)
  exact (sameDram_ite h (sameDram_ite (openQuiesce_sameDram h) (sameDram_ite (settleQuiesce_sameDram h4) (settleQuiesce_sameDram (sameDram_foldl (fun _ _ h5 => (State.onRanks_sameDram h5)) (sameDram_foldl (fun _ _ h6 => (State.onRanks_sameDram h6)) h4))))))

theorem selectInstr_sameDram {a0 : TapInstr} (h : SameDram p s) :
    SameDram p (selectInstr a0 s) := by
  unfold selectInstr
  extract_lets x1 x2
  have h3 : SameDram p x2 := (sameDram_mk h)
  exact (sameDram_ite h (sameDram_ite (startSecure_sameDram h3) (sameDram_ite (startQuiesce_sameDram h3) (endQuiesce_sameDram h3))))

theorem updateIr_sameDram {a0 : BitVec 6} (h : SameDram p s) :
    SameDram p (updateIr a0 s) := by
  unfold updateIr
  exact (selectInstr_sameDram h)

theorem setCur_sameDram {a0 : Nat} {a1 : Nat} (h : SameDram p s) :
    SameDram p (setCur a0 a1 s) := by
  unfold setCur
  exact (State.setCf_sameDram (State.setCf_sameDram h))

theorem showSpill_sameDram {a0 : Nat} (h : SameDram p s) :
    SameDram p (showSpill a0 s) := by
  unfold showSpill
  extract_lets x1
  split
  · exact (State.onSpill_sameDram (State.setSt_sameDram h))
  · exact (sameDram_ite h (State.setSt_sameDram h))

theorem sendBurst_sameDram {a0 : Nat} {a1 : Bool} (h : SameDram p s) :
    SameDram p (sendBurst a0 a1 s) := by
  unfold sendBurst
  extract_lets x1
  exact (State.onSpill_sameDram h)

theorem fetchDesc_sameDram {a0 : Nat} {a1 : Nat} (h : SameDram p s) :
    SameDram p (fetchDesc a0 a1 s) := by
  unfold fetchDesc
  exact (State.onSpill_sameDram h)

theorem busError_sameDram {a0 : Nat} {a1 : Axi} (h : SameDram p s) :
    SameDram p (busError a0 a1 s) := by
  unfold busError
  extract_lets x1 x2 x3
  have h4 : SameDram p x2 := (spillHalt_sameDram h)
  have h5 : SameDram p x3 := (State.setSt_sameDram (State.setSt_sameDram h4))
  exact (sameDram_ite (raise_sameDram (State.onSpill_sameDram h5)) h)

theorem portHalts_sameDram {a0 : Nat} {a1 : Bool} (h : SameDram p s) :
    SameDram p (portHalts a0 a1 s) := by
  unfold portHalts
  exact (spillHalt_sameDram (State.onSpill_sameDram h))

theorem spillServed_sameDram {a0 : Nat} {a1 : Nat} (h : SameDram p s) :
    SameDram p (spillServed a0 a1 s) := by
  unfold spillServed
  exact (sameDram_mk h)

theorem spillRequest_sameDram {a0 : Nat} {a1 : Desc} {a2 a3 : Nat} {a4 : List Beat} (h : SameDram p s) :
    SameDram p (spillRequest a0 a1 a2 a3 a4 s).2 :=
  sameDram_ite (State.note_sameDram (State.onPort_sameDram (accept__sameDram h))) (accept__sameDram h)

theorem issueChunk_sameDram {a0 : Nat} (h : SameDram p s) : SameDram p (issueChunk a0 s) := by
  unfold issueChunk
  dsimp only
  split
  · exact h
  · apply State.onSpill_sameDram
    split
    · exact State.onSpill_sameDram h
    · exact spillRequest_sameDram h

theorem issueWrite_sameDram {a0 : Nat} {a1 : Nat} (h : SameDram p s) :
    SameDram p (issueWrite a0 a1 s) := by
  unfold issueWrite
  extract_lets x1
  split
  · exact h
  · split
    · exact h
    · extract_lets x2
      apply sameDram_ite
      · split
        · rename_i heq
          have h3 := congrArg Prod.snd heq ▸ spillRequest_sameDram h
          exact (State.onSpill_sameDram h3)
      · exact (State.onSpill_sameDram h)

theorem spillServe_sameDram {a0 : Nat} (h : SameDram p s) :
    SameDram p (spillServe a0 s) := by
  unfold spillServe
  split
  · exact (sameDram_ite (spillServed_sameDram (issueWrite_sameDram h)) (sameDram_ite (spillServed_sameDram (sendBurst_sameDram h)) (sameDram_ite (spillServed_sameDram (issueWrite_sameDram h)) h)))
  · exact h

theorem spillRequests_sameDram (h : SameDram p s) :
    SameDram p (spillRequests s) := by
  unfold spillRequests
  exact (sameDram_foldl (fun _ _ h1 => (spillServe_sameDram h1)) h)

theorem chunkLines_sameDram {a0 : Nat} {a1 : Nat} {a2 : Req} (h : SameDram p s) :
    SameDram p (chunkLines a0 a1 a2 s) := by
  unfold chunkLines
  refine sameDram_foldl (fun _ _ h2 => ?_) ?_
  · extract_lets x3 x4 x5 x6
    have h7 : SameDram p x4 := (State.bump_sameDram h2)
    have h8 : SameDram p x5 := (State.onSpill_sameDram h7)
    have h9 : SameDram p x6 := (State.setSt_sameDram (State.setSt_sameDram h8))
    exact (sameDram_ite h2 (sameDram_ite h8 (State.setSt_sameDram (State.setSt_sameDram (State.setSt_sameDram h9)))))
  · exact h

theorem chunkAcked_sameDram {a0 : Nat} {a1 : Chunk} (h : SameDram p s) :
    SameDram p (chunkAcked a0 a1 s) := by
  unfold chunkAcked
  extract_lets x1 x2
  have h3 : SameDram p x2 := (State.setSt_sameDram (State.setSt_sameDram h))
  exact (State.onSpill_sameDram h3)

theorem settleSpill_sameDram {a0 : Nat} (h : SameDram p s) :
    SameDram p (settleSpill a0 s) := by
  unfold settleSpill
  extract_lets x1 x2 x3 x4 x5 x6 x7 x8
  have h9 : SameDram p x1 := (State.onSpill_sameDram h)
  have h10 : SameDram p x3 := by
    unfold x3
    split
    · split
      · exact (sameDram_ite (spillHalt_sameDram h9) (sameDram_ite h9 (portHalts_sameDram h9)))
      · exact h9
    · split
      · exact (sameDram_ite (spillHalt_sameDram h9) (sameDram_ite h9 (portHalts_sameDram h9)))
      · exact h9
    · split
      · exact (sameDram_ite (spillHalt_sameDram h9) (sameDram_ite h9 (portHalts_sameDram h9)))
      · exact h9
    · exact h9
  have h11 : SameDram p x6 := by
    unfold x6
    split
    · exact (sameDram_ite (State.onSpill_sameDram h10) h10)
    · exact h10
  have h12 : SameDram p x8 := by
    unfold x8
    split
    · exact (sameDram_ite (fetchDesc_sameDram h11) h11)
    · exact h11
  exact (showSpill_sameDram h12)

theorem gotDesc_sameDram {a0 : Nat} {a1 : BitVec 256} (h : SameDram p s) :
    SameDram p (gotDesc a0 a1 s) := by
  unfold gotDesc
  extract_lets x1 x2 x3 x4 x5
  have h6 : SameDram p x2 := (State.onSpill_sameDram h)
  have h7 : SameDram p x3 := (State.onSpill_sameDram h6)
  have h8 : SameDram p x5 := (sameDram_ite (State.onSpill_sameDram h6) h6)
  split
  · exact (sameDram_ite (sameDram_ite (fetchDesc_sameDram h7) h7) (sameDram_ite (spillHalt_sameDram h6) (sameDram_ite (spillHalt_sameDram h8) (sameDram_ite (portHalts_sameDram h8) (settleSpill_sameDram (State.onSpill_sameDram h8))))))
  · exact (sameDram_ite (sameDram_ite (fetchDesc_sameDram h7) h7) (sameDram_ite (spillHalt_sameDram h6) (sameDram_ite (spillHalt_sameDram h8) (sameDram_ite (portHalts_sameDram h8) (settleSpill_sameDram (State.onSpill_sameDram h8))))))
  · exact h6

theorem drainSpill_sameDram {a0 : Nat} (h : SameDram p s) :
    SameDram p (drainSpill a0 s) := by
  unfold drainSpill
  extract_lets x1 x2 x3 x4 x5
  have h6 : SameDram p x1 := (showSpill_sameDram h)
  exact (State.onSpill_sameDram h6)

theorem spillStart_sameDram {a0 : Nat} (h : SameDram p s) :
    SameDram p (spillStart a0 s) := by
  unfold spillStart
  extract_lets x1
  exact (sameDram_ite (fetchDesc_sameDram (State.onSpill_sameDram (State.setSt_sameDram h))) h)

theorem refetchDesc_sameDram {a0 : Nat} (h : SameDram p s) :
    SameDram p (refetchDesc a0 s) := by
  unfold refetchDesc
  extract_lets x1
  exact (sameDram_ite (State.onSpill_sameDram h) (fetchDesc_sameDram h))

theorem spillKick_sameDram {a0 : Nat} (h : SameDram p s) :
    SameDram p (spillKick a0 s) := by
  unfold spillKick
  exact (sameDram_ite (refetchDesc_sameDram h) h)

theorem spillPause_sameDram {a0 : Nat} (h : SameDram p s) :
    SameDram p (spillPause a0 s) := by
  unfold spillPause
  extract_lets x1 x2
  have h3 : SameDram p x2 := (State.onSpill_sameDram h)
  exact (sameDram_ite (sameDram_ite (drainSpill_sameDram h3) h3) h)

theorem spillResume_sameDram {a0 : Nat} (h : SameDram p s) :
    SameDram p (spillResume a0 s) := by
  unfold spillResume
  extract_lets x1
  exact (sameDram_ite (fetchDesc_sameDram (State.onSpill_sameDram h)) (sameDram_ite (sameDram_ite (event_sameDram h) (fetchDesc_sameDram (State.onSpill_sameDram h))) h))

theorem spillAbort_sameDram {a0 : Nat} (h : SameDram p s) :
    SameDram p (spillAbort a0 s) := by
  unfold spillAbort
  extract_lets x1
  have h2 : SameDram p x1 := (State.onSpill_sameDram h)
  exact (sameDram_ite h (sameDram_ite (drainSpill_sameDram h2) h2))

theorem abortSpills_sameDram (h : SameDram p s) :
    SameDram p (abortSpills s) := by
  unfold abortSpills
  refine sameDram_foldl (fun _ _ h2 => ?_) ?_
  · split
    · exact h2
    · exact h2
    · exact h2
    · exact (State.onSpill_sameDram h2)
  · exact h

theorem writeSpillCtrl_sameDram {a0 : Nat} {a1 : Nat} (h : SameDram p s) :
    SameDram p (writeSpillCtrl a0 a1 s) := by
  unfold writeSpillCtrl
  extract_lets x1
  exact (sameDram_ite (spillAbort_sameDram h) (sameDram_ite (spillPause_sameDram h) (sameDram_ite (spillResume_sameDram h) (sameDram_ite (spillStart_sameDram h) (sameDram_ite (spillKick_sameDram h) h)))))

theorem descDone_sameDram {a0 : Nat} (h : SameDram p s) :
    SameDram p (descDone a0 s) := by
  unfold descDone
  split
  · exact h
  · extract_lets x1 x2
    have h3 : SameDram p x1 := (State.onSpill_sameDram (State.bump_sameDram h))
    have h4 : SameDram p x2 := (sameDram_ite h3 (setCur_sameDram h3))
    exact (sameDram_ite (event_sameDram (State.setBits_sameDram h4)) h4)

theorem spillRead_sameDram {a0 : Nat} {a1 : Req} (h : SameDram p s) :
    SameDram p (spillRead a0 a1 s) := by
  unfold spillRead
  split
  · exact h
  · extract_lets x1 x2
    have h3 : SameDram p x2 := (State.onSpill_sameDram h)
    exact (settleSpill_sameDram (chunkLines_sameDram h3))

theorem spillWrote_sameDram {a0 : Nat} {a1 : Req} (h : SameDram p s) :
    SameDram p (spillWrote a0 a1 s) := by
  unfold spillWrote
  split
  · exact h
  · exact (settleSpill_sameDram (chunkAcked_sameDram (chunkLines_sameDram h)))

theorem replay_sameDram {a0 : Nat} (h : SameDram p s) :
    SameDram p (replay a0 s) := by
  unfold replay
  exact (State.onRanks_sameDram (State.onChan_sameDram h))

theorem stopQuad_sameDram {a0 : Nat} (h : SameDram p s) :
    SameDram p (stopQuad a0 s) := by
  unfold stopQuad
  exact (restQuad_sameDram (sameDram_foldl (fun _ _ h1 => (abandonTest_sameDram (abandonStep_sameDram (replay_sameDram h1)))) h))

theorem restartQuad_sameDram {a0 : Nat} (h : SameDram p s) :
    SameDram p (restartQuad a0 s) := by
  unfold restartQuad
  extract_lets x1
  have h2 : SameDram p x1 := (State.onQuadClk_sameDram h)
  exact (sameDram_foldl (fun _ _ h3 => (State.onRanks_sameDram (sameDram_ite h3 (takePoint_sameDram h3)))) h2)

theorem settleQuad_sameDram {a0 : Nat} (h : SameDram p s) :
    SameDram p (settleQuad a0 s) := by
  unfold settleQuad
  extract_lets x1 x2 x3
  have h4 : SameDram p x3 := (restSpares_sameDram (State.onQuadClk_sameDram h))
  exact (sameDram_ite (sameDram_ite (State.onQuadClk_sameDram h) (restartQuad_sameDram h)) (sameDram_ite (sameDram_ite (resumeTests_sameDram h4) h4) h))

theorem retStep_sameDram {a0 : Nat} (h : SameDram p s) :
    SameDram p (retStep a0 s) := by
  unfold retStep
  extract_lets x1
  exact (sameDram_mk h)

theorem returnChecks_sameDram (h : SameDram p s) :
    SameDram p (returnChecks s) := by
  unfold returnChecks
  exact (sameDram_foldl (fun _ _ h1 => (State.onRanks_sameDram h1)) (retStep_sameDram h))

theorem returnPay_sameDram (h : SameDram p s) :
    SameDram p (returnPay s) := by
  unfold returnPay
  extract_lets x1 x2 x3
  have h4 : SameDram p x2 := (sameDram_mk h)
  have h5 : SameDram p x3 := (raise_sameDram h)
  exact (sameDram_ite (returnChecks_sameDram (raise_sameDram h4)) (sameDram_foldl (fun _ _ h6 => (State.onRanks_sameDram h6)) (retStep_sameDram h5)))

theorem returnDone_sameDram (h : SameDram p s) :
    SameDram p (returnDone s) := by
  unfold returnDone
  extract_lets x1
  exact (raiseReady_sameDram (resumeTests_sameDram (restSpares_sameDram (showClkmon_sameDram (retStep_sameDram (sameDram_mk h))))))

theorem returnStopped_sameDram (h : SameDram p s) :
    SameDram p (returnStopped s) := by
  unfold returnStopped
  extract_lets x1 x2 x3
  have h4 : SameDram p x2 := (sameDram_ite (raise_sameDram (sameDram_mk h)) (raise_sameDram h))
  exact (showClkmon_sameDram (retStep_sameDram (sameDram_mk h4)))

theorem settleReturn_sameDram (h : SameDram p s) :
    SameDram p (settleReturn s) := by
  unfold settleReturn
  exact (sameDram_ite h (sameDram_ite (returnStopped_sameDram h) (sameDram_ite (sameDram_ite (returnPay_sameDram h) h) (sameDram_ite (sameDram_ite (returnChecks_sameDram h) h) (sameDram_ite (returnDone_sameDram h) h)))))

theorem startReturn_sameDram (h : SameDram p s) :
    SameDram p (startReturn s) := by
  unfold startReturn
  extract_lets x1 x2 x3 x4 x5 x6 x7 x8
  have h9 : SameDram p x1 := by
    unfold x1
    refine sameDram_foldl (fun _ _ h12 => ?_) ?_
    · exact (sameDram_ite (replay_sameDram h12) h12)
    · exact h
  have h13 : SameDram p x2 := (State.stamp_sameDram (State.bump_sameDram h9))
  have h14 : SameDram p x4 := (sameDram_ite (spillStops_sameDram (event_sameDram (sameDram_mk h13))) h13)
  have h15 : SameDram p x6 := (sourceChanged_sameDram (sameDram_mk h14))
  have h16 : SameDram p x7 := (startPll_sameDram h15)
  refine sameDram_foldl (fun _ _ h18 => ?_) ?_
  · extract_lets x19 x20 x21
    have h22 : SameDram p x20 := (sameDram_foldl (fun _ _ h23 => (startPll_sameDram h23)) h18)
    have h24 : SameDram p x21 := (State.onQuadClk_sameDram h22)
    exact (sameDram_ite (stopQuad_sameDram h24) h24)
  · exact h16

theorem startRamp_sameDram (h : SameDram p s) :
    SameDram p (startRamp s) := by
  unfold startRamp
  extract_lets x1
  exact (sameDram_mk h)

theorem loseChange_sameDram (h : SameDram p s) :
    SameDram p (loseChange s) := by
  unfold loseChange
  extract_lets x1 x2
  have h3 : SameDram p x1 := (abandonChange_sameDram h)
  exact (sameDram_ite (sameDram_mk h3) h)

theorem loseSwap_sameDram (h : SameDram p s) :
    SameDram p (loseSwap s) := by
  unfold loseSwap
  split
  · exact (sameDram_ite (postSwap_sameDram (State.onChan_sameDram (State.onEvac_sameDram h))) h)
  · exact h

theorem loseCalibration_sameDram {a0 : Nat} (h : SameDram p s) :
    SameDram p (loseCalibration a0 s) := by
  unfold loseCalibration
  exact (cancelLatch_sameDram (cancelLatch_sameDram (discardWindows_sameDram (abandonStep_sameDram h))))

theorem stopService_sameDram (h : SameDram p s) :
    SameDram p (stopService s) := by
  unfold stopService
  extract_lets x1 x2
  have h3 : SameDram p x1 := (abandonTests_sameDram (endGaps_sameDram (startRamp_sameDram h)))
  have h4 : SameDram p x2 := (loseSwap_sameDram (loseChange_sameDram (sameDram_foldl (fun _ _ h5 => (loseCalibration_sameDram h5)) h3)))
  exact (retStep_sameDram (sameDram_ite (takePins_sameDram h4) h4))

theorem loseClock_sameDram (h : SameDram p s) :
    SameDram p (loseClock s) := by
  unfold loseClock
  extract_lets x1 x2 x3 x4 x5
  have h6 : SameDram p x1 := (sameDram_ite (stopService_sameDram h) h)
  have h7 : SameDram p x2 := (sameDram_ite (grantDark_sameDram h6) h6)
  exact (sameDram_mk h7)

theorem startLoad_sameDram (h : SameDram p s) :
    SameDram p (startLoad s) := by
  unfold startLoad
  extract_lets x1
  exact (loadStart_sameDram (sameDram_mk h))

theorem startTraining_sameDram {a0 : Nat} {a1 : List Nat} {a2 : Rank → Rank} (h : SameDram p s) :
    SameDram p (startTraining a0 a1 a2 s) := by
  unfold startTraining
  exact (sameDram_foldl (fun _ _ h1 => (startJob_sameDram (State.onRanks_sameDram h1))) (State.onQuad_sameDram h))

theorem startKeptQuad_sameDram {a0 : Nat} (h : SameDram p s) :
    SameDram p (startKeptQuad a0 s) := by
  unfold startKeptQuad
  extract_lets x1
  have h2 : SameDram p x1 := (startTraining_sameDram h)
  exact (sameDram_foldl (fun _ _ h3 => (State.onRanks_sameDram h3)) h2)

theorem startQuads_sameDram (h : SameDram p s) :
    SameDram p (startQuads s) := by
  unfold startQuads
  extract_lets x1 x2 x3
  have h4 : SameDram p x1 := (sameDram_foldl (fun _ _ h5 => (sameDram_ite (startKeptQuad_sameDram h5) h5)) h)
  exact (sameDram_ite h (sameDram_mk h4))

theorem releaseDreset_sameDram {a0 : Nat} (h : SameDram p s) :
    SameDram p (releaseDreset a0 s) := by
  unfold releaseDreset
  extract_lets x1 x2 x3
  have h4 : SameDram p x3 := (sameDram_mk h)
  exact (State.onQuad_sameDram h4)

theorem settleInit_sameDram {a0 : Nat} (h : SameDram p s) :
    SameDram p (settleInit a0 s) := by
  unfold settleInit
  split
  · exact h
  · exact (sameDram_ite (startQuads_sameDram (startTraining_sameDram h)) h)

theorem beginTrainStep_sameDram {a0 : Nat} {a1 : Nat} (h : SameDram p s) :
    SameDram p (beginTrainStep a0 a1 s) := by
  unfold beginTrainStep
  extract_lets x1
  have h2 : SameDram p x1 := (State.onCal_sameDram h)
  exact (sameDram_ite (State.onChan_sameDram h2) (sameDram_ite (State.onCal_sameDram (State.onRanks_sameDram h2)) (sameDram_ite (State.onCal_sameDram h2) h2)))

theorem failTraining_sameDram {a0 : Nat} (h : SameDram p s) :
    SameDram p (failTraining a0 s) := by
  unfold failTraining
  exact (dropScratch_sameDram (State.onChan_sameDram (State.setSt_sameDram (State.setSt_sameDram h))))

theorem settleTrain_sameDram {a0 : Nat} (h : SameDram p s) :
    SameDram p (settleTrain a0 s) := by
  unfold settleTrain
  extract_lets x1
  exact (sameDram_ite h (sameDram_ite (failTraining_sameDram h) (sameDram_ite (beginTrainStep_sameDram h) h)))

theorem settleTraining_sameDram {a0 : Nat} (h : SameDram p s) :
    SameDram p (settleTraining a0 s) := by
  unfold settleTraining
  exact (sameDram_foldl (fun _ _ h1 => (settleTrain_sameDram h1)) h)

theorem startMetadata_sameDram (h : SameDram p s) :
    SameDram p (startMetadata s) := by
  unfold startMetadata
  extract_lets x1 x2
  have h3 : SameDram p x2 := (sameDram_foldl (fun _ _ h4 => (sameDram_ite (startClearing_sameDram h4) (State.setSt_sameDram (State.setSt_sameDram h4)))) h)
  split
  · exact h3
  · extract_lets x5 x6
    have h7 : SameDram p x5 := (State.onRanks_sameDram h3)
    have h8 : SameDram p x6 := (State.onEvac_sameDram h7)
    exact (sameDram_ite (State.onEvac_sameDram (State.setSt_sameDram h8)) h8)

theorem keptFailures_sameDram (h : SameDram p s) :
    SameDram p (keptFailures s) := by
  unfold keptFailures
  exact (sameDram_foldl (fun _ _ h1 => (sameDram_ite h1 (sameDram_ite (hardFailure_sameDram (leaveTest_sameDram (State.onChan_sameDram h1))) (sameDram_ite (spareFailed_sameDram (leaveTest_sameDram (State.onChan_sameDram h1))) h1)))) h)

theorem retake_sameDram (h : SameDram p s) :
    SameDram p (retake s) := by
  unfold retake
  extract_lets x1
  exact (sameDram_ite h (sameDram_ite (takeMode_sameDram h) (sameDram_ite (takeMode_sameDram h) h)))

theorem completeStart_sameDram (h : SameDram p s) :
    SameDram p (completeStart s) := by
  unfold completeStart
  extract_lets x1 x2 x3 x4 x5 x6 x7 x8
  have h9 : SameDram p x1 := (sameDram_ite (keptFailures_sameDram h) (startupRetirement_sameDram h))
  have h10 : SameDram p x2 := (retake_sameDram h9)
  have h11 : SameDram p x3 := (startMetadata_sameDram h10)
  have h12 : SameDram p x4 := (sameDram_foldl (fun _ _ h13 => (sameDram_ite (hardSpare_sameDram h13) h13)) h11)
  have h14 : SameDram p x5 := (sameDram_foldl (fun _ _ h15 => (sameDram_ite h15 (sameDram_ite (State.onPort_sameDram h15) (State.onPort_sameDram h15)))) h12)
  have h16 : SameDram p x8 := (startShaping_sameDram (sameDram_mk h14))
  exact (resumeTests_sameDram (raiseReady_sameDram h16))

theorem blkStep_sameDram {a0 : Nat} (h : SameDram p s) :
    SameDram p (blkStep a0 s) := by
  unfold blkStep
  extract_lets x1
  exact (sameDram_mk h)

theorem discardWaiting_sameDram (h : SameDram p s) :
    SameDram p (discardWaiting s) := by
  unfold discardWaiting
  extract_lets x1
  have h2 : SameDram p x1 := by
    unfold x1
    refine sameDram_foldl (fun _ _ h5 => ?_) ?_
    · extract_lets x6 x7
      exact (State.onPort_sameDram h5)
    · exact h
  exact (sameDram_foldl (fun _ _ h8 => (State.onChan_sameDram (unGrant_sameDram h8))) h2)

theorem noteKept_sameDram (h : SameDram p s) :
    SameDram p (noteKept s) := by
  unfold noteKept
  extract_lets x1 x2
  exact (sameDram_mk h)

theorem stayStopped_sameDram (h : SameDram p s) :
    SameDram p (stayStopped s) := by
  unfold stayStopped
  extract_lets x1 x2 x3 x4
  exact (event_sameDram (sameDram_mk (zeroize_sameDram h)))

theorem coreOnPll_sameDram (h : SameDram p s) :
    SameDram p (coreOnPll s) := by
  unfold coreOnPll
  extract_lets x1 x2 x3 x4 x5
  have h6 : SameDram p x1 := (State.onPll_sameDram h)
  have h7 : SameDram p x3 := (sourceChanged_sameDram (sameDram_mk h6))
  have h8 : SameDram p x5 := (sameDram_mk h7)
  apply sameDram_ite
  · exact (startQuads_sameDram (sameDram_mk h7))
  · apply sameDram_ite
    · refine sameDram_foldl (fun _ _ h14 => ?_) ?_
      · extract_lets x15 x16
        have h17 : SameDram p x16 := (State.onQuadClk_sameDram h14)
        exact (sameDram_ite h14 (sameDram_foldl (fun _ _ h18 => (State.onRanks_sameDram h18)) h17))
      · exact h8
    · exact (sameDram_foldl (fun _ _ h19 => (sameDram_ite (restartQuad_sameDram h19) h19)) h7)

theorem coreOnBypass_sameDram (h : SameDram p s) :
    SameDram p (coreOnBypass s) := by
  unfold coreOnBypass
  extract_lets x1 x2
  have h3 : SameDram p x2 := (sourceChanged_sameDram (sameDram_mk h))
  exact (sameDram_foldl (fun _ _ h4 => (sameDram_ite h4 (stopQuad_sameDram h4))) h3)

theorem quadOn_sameDram {a0 : Nat} {a1 : ClkSrc} {a2 : SwWhy} (h : SameDram p s) :
    SameDram p (quadOn a0 a1 a2 s) := by
  unfold quadOn
  extract_lets x1 x2 x3 x4
  have h5 : SameDram p x1 := (State.onQuadClk_sameDram h)
  have h6 : SameDram p x2 := (sameDram_foldl (fun _ _ h7 => (State.onPll_sameDram h7)) h5)
  have h8 : SameDram p x4 := (restartCk_sameDram h6)
  split
  · exact (sameDram_ite (startQuads_sameDram (sameDram_ite (restartQuad_sameDram h6) h6)) (sameDram_ite (sameDram_ite (restQuad_sameDram h8) (sameDram_foldl (fun _ _ h9 => (State.onRanks_sameDram h9)) h8)) (startQuads_sameDram h6)))
  · exact (stopQuad_sameDram h6)
  · exact (startQuads_sameDram (sameDram_ite (restartQuad_sameDram h6) h6))
  · exact (settleOp_sameDram h6)

theorem writeClkmon_sameDram {a0 : Nat} {a1 : Nat} (h : SameDram p s) :
    SameDram p (writeClkmon a0 a1 s) := by
  unfold writeClkmon
  extract_lets x1 x2
  have h3 : SameDram p x1 := (State.setCf_sameDram (State.setCf_sameDram h))
  exact (showClkmon_sameDram (sameDram_mk h3))

theorem reload_sameDram (h : SameDram p s) :
    SameDram p (reload s) := by
  unfold reload
  exact (sameDram_ite (startLoad_sameDram h) h)

theorem putCodes_sameDram {a0 : Nat} {a1 : List Nat} (h : SameDram p s) :
    SameDram p (putCodes a0 a1 s) := by
  unfold putCodes
  extract_lets x1 x2
  have h3 : SameDram p x2 := (sameDram_foldl (fun _ _ h4 => (State.setSt_sameDram h4)) h)
  exact (State.onQuad_sameDram h3)

theorem noChecks_sameDram {a0 : Nat} (h : SameDram p s) :
    SameDram p (noChecks a0 s) := by
  unfold noChecks
  exact (State.onRanks_sameDram h)

theorem parityFound_sameDram {a0 : Nat} (h : SameDram p s) : SameDram p (parityFound a0 s) := by
  unfold parityFound
  extract_lets x1
  have h1 : SameDram p x1 := h
  split
  · exact raise_sameDram h1
  · exact raise_sameDram (spillHalt_sameDram h1)
  · exact sameDram_ite (raise_sameDram (portHalt_sameDram h1))
      (sameDram_ite (raise_sameDram (sameDram_foldl (fun _ _ h => abortScrub_sameDram h) (State.onPort_sameDram h1))) (raise_sameDram h1))
  · exact raise_sameDram h1

theorem parityCheck_sameDram {a0 : Nat} (h : SameDram p s) :
    SameDram p (parityCheck a0 s) := by
  unfold parityCheck
  exact (sameDram_ite (parityFound_sameDram h) h)

theorem upset_sameDram {a0 : Nat} {a1 : Word} (h : SameDram p s) : SameDram p (upset a0 a1 s) := by
  unfold upset
  extract_lets x1 x2
  have h1 : SameDram p x2 := h
  exact sameDram_ite h1 (sameDram_ite (sameDram_mk h1) (sameDram_mk h1))

theorem clearRc_sameDram {a0 : Nat} (h : SameDram p s) : SameDram p (clearRc a0 s) := by
  unfold clearRc
  exact sameDram_ite h (h)

theorem capture_sameDram {a0 : Nat} (h : SameDram p s) : SameDram p (capture a0 s) := by
  unfold capture
  exact sameDram_ite h (h)

theorem readBase_sameDram {a0 : Nat} (h : SameDram p s) : SameDram p (readBase a0 s).2 := by
  unfold readBase
  extract_lets x1
  have h1 : SameDram p x1 := parityCheck_sameDram h
  split
  · split
    · exact sameDram_foldl (fun _ _ h => clearRc_sameDram h) (sameDram_foldl (fun _ _ h => capture_sameDram h) h1)
    · exact h1
  · exact clearRc_sameDram h1

theorem State.onApb_sameDram {a1 : ApbPort} {a2 : Apb → Apb} (h : SameDram p s) :
    SameDram p (State.onApb s a1 a2) := by
  unfold State.onApb
  split
  · exact (sameDram_mk h)
  · exact (sameDram_mk h)

theorem answerApb_sameDram {a0 : ApbPort} {a1 : Bool} {a2 : Word} (h : SameDram p s) :
    SameDram p (answerApb a0 a1 a2 s) := by
  unfold answerApb
  exact (State.onApb_sameDram h)

theorem apbRead_sameDram {a0 : ApbRead} (h : SameDram p s) :
    SameDram p (apbRead a0 s) := by
  unfold apbRead
  extract_lets x1
  apply sameDram_ite
  · exact (answerApb_sameDram h)
  · split
    · split
      · exact (answerApb_sameDram h)
      · split
        · rename_i heq
          have h2 := congrArg Prod.snd heq ▸ readBase_sameDram h
          exact (answerApb_sameDram h2)
    · exact (answerApb_sameDram h)

theorem flagWrite_sameDram {a0 : Nat} {a1 : Nat} (h : SameDram p s) :
    SameDram p (flagWrite a0 a1 s) := by
  unfold flagWrite
  extract_lets x1
  have h2 : SameDram p x1 := (State.setBits_sameDram h)
  exact (sameDram_ite (State.setSt_sameDram (State.setSt_sameDram h2)) (State.setSt_sameDram h2))

theorem storeBypass_sameDram {a0 : Nat} {a1 : Nat} {a2 : Word} {a3 : Word} (h : SameDram p s) :
    SameDram p (storeBypass a0 a1 a2 a3 s) := by
  unfold storeBypass
  exact (sameDram_ite (State.setCfgWord_sameDram h) (sameDram_ite (enterBypass_sameDram h) (leaveBypass_sameDram h)))

theorem storePause_sameDram {a0 : Nat} {a1 : Nat} {a2 : Word} {a3 : Word} (h : SameDram p s) :
    SameDram p (storePause a0 a1 a2 a3 s) := by
  unfold storePause
  exact (sameDram_ite (State.setCfgWord_sameDram h) (sameDram_ite (calPause_sameDram h) (calUnpause_sameDram h)))

theorem storeShaper_sameDram {a0 : Nat} {a1 : Nat} {a2 : Word} {a3 : Word} (h : SameDram p s) :
    SameDram p (storeShaper a0 a1 a2 a3 s) := by
  unfold storeShaper
  extract_lets x1 x2 x3 x4
  have h5 : SameDram p x4 := (State.setCfgWord_sameDram h)
  exact (sameDram_ite h5 (State.onPort_sameDram h5))

theorem storeReg_sameDram {a0 : Nat} {a1 a2 : Word} (h : SameDram p s) : SameDram p (storeReg a0 a1 a2 s) := by
  unfold storeReg
  split
  · exact sameDram_ite (h) h
  · split
    · exact holdLow_sameDram h
    · exact writeHigh_sameDram h
    · extract_lets x1
      have h1 : SameDram p x1 := sameDram_foldl (fun _ _ h => beforeSelect_sameDram h) h
      have h2 := State.setCfgWord_sameDram (a1 := a0) (a2 := a2) h1
      split
      · exact sameDram_ite (writePin_sameDram h1) (sameDram_ite (writeClkmon_sameDram h1) h2)
      · exact sameDram_ite h1 h2
      · exact sameDram_ite (storeShaper_sameDram h1) h2
      · exact sameDram_ite (storeBypass_sameDram h1) (sameDram_ite (storePause_sameDram h1) h2)
      · exact h2

theorem bitDoes_sameDram {a0 : Word} {a1 : Nat} {a2 : State → State} (k2 : ∀ y0, SameDram p y0 → SameDram p (a2 y0)) (h : SameDram p s) :
    SameDram p (bitDoes a0 a1 a2 s) := by
  unfold bitDoes
  exact (sameDram_ite (k2 _ h) h)

theorem actTb_sameDram {a0 : Nat} {a1 : Word} (h : SameDram p s) :
    SameDram p (actTb a0 a1 s) := by
  unfold actTb
  apply sameDram_ite
  · refine bitDoes_sameDram (fun _ h7 => ?_) ?_
    · extract_lets x8
      exact (sameDram_mk h7)
    · exact h
  · apply sameDram_ite
    · refine bitDoes_sameDram (fun _ h14 => ?_) ?_
      · extract_lets x15
        exact (sameDram_mk h14)
      · exact h
    · exact (sameDram_ite (bitDoes_sameDram (fun _ h16 => (exitDsm_sameDram h16)) (bitDoes_sameDram (fun _ h17 => (enterDsm_sameDram h17)) h)) (sameDram_ite (bitDoes_sameDram (fun _ h18 => (restartCore_sameDram h18)) h) h))

theorem actFt_sameDram {a0 : Nat} {a1 : Word} (h : SameDram p s) :
    SameDram p (actFt a0 a1 s) := by
  unfold actFt
  exact (sameDram_ite (ack_sameDram h) (sameDram_ite (bitDoes_sameDram (fun _ h1 => (requestEvac_sameDram h1)) h) (sameDram_ite (clearLog_sameDram h) (sameDram_ite (clearScruple_sameDram h) h))))

theorem actPt_sameDram {a0 : Nat} {a1 : Nat} {a2 : Word} (h : SameDram p s) :
    SameDram p (actPt a0 a1 a2 s) := by
  unfold actPt
  extract_lets x1
  have h2 : SameDram p x1 := (sameDram_ite (portStop_sameDram h) (bitDoes_sameDram (fun _ h3 => (portResume_sameDram h3)) h))
  exact (sameDram_ite (bitDoes_sameDram (fun _ h4 => (flushStart_sameDram h4)) h2) (sameDram_ite (clearCounters_sameDram h) h))

theorem actCh_sameDram {a0 : Nat} {a1 : Nat} {a2 : Word} (h : SameDram p s) :
    SameDram p (actCh a0 a1 a2 s) := by
  unfold actCh
  exact (sameDram_ite (writeTst_sameDram h) (sameDram_ite (clearCounters_sameDram h) h))

theorem actQd_sameDram {a0 : Nat} {a1 : Nat} {a2 : Word} (h : SameDram p s) :
    SameDram p (actQd a0 a1 a2 s) := by
  unfold actQd
  extract_lets x1
  have h2 : SameDram p x1 := (sameDram_ite (sweepQuad_sameDram h) h)
  exact (sameDram_ite (bitDoes_sameDram (fun _ h3 => (goOp_sameDram h3)) h) (sameDram_ite (sameDram_ite (abortScrub_sameDram h) (bitDoes_sameDram (fun _ h4 => (startScrub_sameDram h4)) h)) (sameDram_ite (sameDram_foldl (fun _ _ h5 => (bitDoes_sameDram (fun _ h6 => (requestRetrain_sameDram h6)) h5)) h2) (sameDram_ite (bitDoes_sameDram (fun _ h7 => (restartPhy_sameDram h7)) (bitDoes_sameDram (fun _ h8 => (restartPhy_sameDram h8)) h)) h))))

theorem settleWalks_sameDram (h : SameDram p s) :
    SameDram p (settleWalks s) := by
  unfold settleWalks
  extract_lets x1
  have h2 : ∀ y0 y1, SameDram p y0 → SameDram p (x1 y0 y1) := by
    intro y0 y1 h2_0
    unfold x1
    extract_lets x3
    have h4 : SameDram p x3 := (parityCheck_sameDram h2_0)
    exact (sameDram_ite h4 (upset_sameDram h4))
  exact (sameDram_foldl (fun _ _ h5 => (h2 _ _ h5)) (sameDram_mk h))

theorem advanceClock_sameDram (h : SameDram p s) :
    SameDram p (advanceClock s) := by
  unfold advanceClock
  extract_lets x1 x2
  have h3 : SameDram p x1 := (sameDram_mk h)
  exact (sameDram_ite (sameDram_mk h3) (sameDram_mk h3))

theorem advanceLine_sameDram (h : SameDram p s) :
    SameDram p (advanceLine s) := by
  unfold advanceLine
  extract_lets x1
  exact (sameDram_ite (sameDram_mk h) h)

theorem watchHold_sameDram {a0 : Nat} (h : SameDram p s) :
    SameDram p (watchHold a0 s) := by
  unfold watchHold
  extract_lets x1
  split
  · exact (sameDram_ite h (State.onChan_sameDram h))
  · extract_lets x2 x3
    exact (State.onChan_sameDram h)

theorem countWaits_sameDram {a0 : Nat} (h : SameDram p s) :
    SameDram p (countWaits a0 s) := by
  unfold countWaits
  exact (sameDram_foldl (fun _ _ h1 => (State.bump48_sameDram h1)) h)

theorem markIdle_sameDram {a0 : Nat} (h : SameDram p s) :
    SameDram p (markIdle a0 s) := by
  unfold markIdle
  extract_lets x1 x2 x3
  exact (State.onChan_sameDram h)

theorem wakeRank_sameDram {a0 : Nat} {a1 : Nat} (h : SameDram p s) :
    SameDram p (wakeRank a0 a1 s) := by
  unfold wakeRank
  exact (sameDram_ite (State.onRank_sameDram h) h)

theorem takeEntries_sameDram {a0 : Nat} {a1 : Op → Bool} (h : SameDram p s) :
    SameDram p (takeEntries a0 a1 s) := by
  unfold takeEntries
  extract_lets x1
  refine sameDram_foldl (fun _ _ h3 => ?_) ?_
  · split
    · exact (State.onOp_sameDram h3)
    · exact h3
  · exact h

theorem serveEntries_sameDram {a0 : Nat} (h : SameDram p s) :
    SameDram p (serveEntries a0 s) := by
  unfold serveEntries
  extract_lets x1 x2
  have h3 : SameDram p x1 := (takeEntries_sameDram h)
  have h4 : SameDram p x2 := (sameDram_ite (startEvictions_sameDram (promote_sameDram h3)) h3)
  exact (takeEntries_sameDram h4)

theorem latchMode_sameDram {a0 : Nat} (h : SameDram p s) :
    SameDram p (latchMode a0 s) := by
  unfold latchMode
  exact (sameDram_ite (State.onChan_sameDram h) h)

theorem settleReserve_sameDram {a0 : Nat} (h : SameDram p s) :
    SameDram p (settleReserve a0 s) := by
  unfold settleReserve
  exact (sameDram_ite (reserveSpare_sameDram h) h)

theorem serveChan_sameDram {a0 : Nat} (h : SameDram p s) :
    SameDram p (serveChan a0 s) := by
  unfold serveChan
  extract_lets x1
  have h2 : SameDram p x1 := (sameDram_ite (clearNext_sameDram h) h)
  exact (sameDram_ite (wakeRank_sameDram (wakeRank_sameDram h2)) h)

theorem handWork_sameDram {a0 : Nat} (h : SameDram p s) :
    SameDram p (handWork a0 s) := by
  unfold handWork
  exact (sameDram_ite (handScratch_sameDram (handMirror_sameDram (settleCheck_sameDram h))) h)

theorem restIntake_sameDram {a0 : Nat} (h : SameDram p s) :
    SameDram p (restIntake a0 s) := by
  unfold restIntake
  extract_lets x1
  have h2 : SameDram p x1 := (sameDram_ite (countWaits_sameDram (watchHold_sameDram h)) h)
  exact (State.onChan_sameDram (markIdle_sameDram h2))

theorem tickChan_sameDram {a0 : Nat} (h : SameDram p s) :
    SameDram p (tickChan a0 s) := by
  unfold tickChan
  extract_lets x1 x2
  have h3 : SameDram p x1 := (startOsc_sameDram (restIntake_sameDram h))
  have h4 : SameDram p x2 := (latchMode_sameDram (handWork_sameDram (serveChan_sameDram (serveEntries_sameDram h3))))
  exact (settleReserve_sameDram (settleFill_sameDram (settleTest_sameDram (settleHard_sameDram h4))))

theorem tickQuad_sameDram {a0 : Nat} (h : SameDram p s) :
    SameDram p (tickQuad a0 s) := by
  unfold tickQuad
  extract_lets x1
  have h2 : SameDram p x1 := (sameDram_ite (mopStep_sameDram h) h)
  exact (settleTraining_sameDram (settleInit_sameDram (settleQuad_sameDram (settleBypass_sameDram h2))))

theorem tickSpill_sameDram (h : SameDram p s) :
    SameDram p (tickSpill s) := by
  unfold tickSpill
  exact (sameDram_foldl (fun _ _ h1 => (settleSpill_sameDram h1)) (spillRequests_sameDram h))

theorem endCc_sameDram (h : SameDram p s) :
    SameDram p (endCc s) := by
  unfold endCc
  exact (settleLog_sameDram (settleScruple_sameDram (settleWalks_sameDram (countAll_sameDram (sameDram_foldl (fun _ _ h1 => (tunCc_sameDram h1)) h)))))

theorem showResponses_sameDram (h : SameDram p s) :
    SameDram p (showResponses s) := by
  unfold showResponses
  exact (sameDram_foldl (fun _ _ h1 => (showB_sameDram h1)) h)

theorem State.withFetchWord_sameDram {a1 : Nat} {a2 : Nat} (h : SameDram p s) :
    SameDram p (State.withFetchWord s a1 a2) := by
  unfold State.withFetchWord
  split
  · exact (sameDram_mk h)
  · exact h

theorem execRequest_sameDram {a0 : Fin 28} {a1 : BitVec 34} {a2 : BitVec 6} {a3 : Bool} {a4 : BitVec 8} {a5 : Bool} (h : SameDram p s) :
    SameDramO p (execRequest a0 a1 a2 a3 a4 a5 s) := by
  unfold execRequest
  exact (sameDramO_ite (sameDramO_next (accept__sameDram h)) (sameDramO_ite (sameDramO_next (State.note_sameDram h)) (sameDramO_next h)))

theorem execWriteBeat_sameDram {a0 : Fin 28} {a1 : Beat} {a2 : BitVec 64} {a3 : Bool} (h : SameDram p s) :
    SameDramO p (execWriteBeat a0 a1 a2 a3 s) := by
  unfold execWriteBeat
  exact (sameDramO_next (sameDram_ite (takeBeat_sameDram h) h))

theorem execSplit_sameDram {a0 : Fin 30} (h : SameDram p s) :
    SameDramO p (execSplit a0 s) := by
  unfold execSplit
  exact (sameDramO_next (sameDram_ite (splitNext_sameDram h) h))

theorem execReadResponseStart_sameDram {a0 : Fin 30} {a1 : BitVec 8} (h : SameDram p s) :
    SameDramO p (execReadResponseStart a0 a1 s) := by
  unfold execReadResponseStart
  apply sameDramO_ite
  · split
    · exact (sameDramO_next (State.onPort_sameDram h))
    · exact (sameDramO_next h)
  · exact (sameDramO_next h)

theorem execTunPointerMismatch_sameDram {a0 : Fin 4} (h : SameDram p s) :
    SameDramO p (execTunPointerMismatch a0 s) := by
  unfold execTunPointerMismatch
  exact (sameDramO_next (sameDram_ite (tunReset_sameDram h) h))

theorem execFlush_sameDram {a0 : Fin 4} (h : SameDram p s) :
    SameDramO p (execFlush a0 s) := by
  unfold execFlush
  exact (sameDramO_next (sameDram_ite (flushStart_sameDram (dropHeld_sameDram h)) h))

theorem execFlushDone_sameDram {a0 : Fin 4} (h : SameDram p s) :
    SameDramO p (execFlushDone a0 s) := by
  unfold execFlushDone
  exact (sameDramO_next (sameDram_ite (State.onPort_sameDram (State.setBits_sameDram h)) h))

theorem execResume_sameDram {a0 : Fin 30} (h : SameDram p s) :
    SameDramO p (execResume a0 s) := by
  unfold execResume
  exact (sameDramO_next (sameDram_ite (portResume_sameDram (dropHeld_sameDram h)) h))

theorem execDrainComplete_sameDram {a0 : Fin 30} (h : SameDram p s) :
    SameDramO p (execDrainComplete a0 s) := by
  unfold execDrainComplete
  exact (sameDramO_next (sameDram_ite (State.onPort_sameDram h) h))

theorem execRsiEventNone_sameDram {a0 : BitVec 64} (h : SameDram p s) :
    SameDramO p (execRsiEventNone a0 s) := by
  unfold execRsiEventNone
  exact (sameDramO_next (sameDram_ite (takeWord_sameDram h) h))

theorem execLineStart_sameDram {a0 : BitVec 64} (h : SameDram p s) :
    SameDramO p (execLineStart a0 s) := by
  unfold execLineStart
  exact (sameDramO_next (sameDram_ite (measure_sameDram (lineWord_sameDram (takeWord_sameDram h))) h))

theorem execModeChange_sameDram {a0 : BitVec 64} (h : SameDram p s) :
    SameDramO p (execModeChange a0 s) := by
  unfold execModeChange
  extract_lets x1 x2
  have h3 : SameDram p x1 := (takeWord_sameDram h)
  exact (sameDramO_next (sameDram_ite (sameDram_ite (sameDram_mk h3) h3) h))

theorem execCorruptWord_sameDram {a0 : BitVec 64} (h : SameDram p s) :
    SameDramO p (execCorruptWord a0 s) := by
  unfold execCorruptWord
  extract_lets x1 x2 x3 x4
  have h5 : SameDram p x2 := (State.bump_sameDram h)
  have h6 : SameDram p x4 := (sameDram_mk h5)
  exact (sameDramO_ite (sameDramO_next (sameDram_ite (raise_sameDram h6) h6)) (sameDramO_next h))

theorem execGrainWrap_sameDram (h : SameDram p s) :
    SameDramO p (execGrainWrap s) := by
  unfold execGrainWrap
  extract_lets x1 x2
  have h3 : SameDram p x2 := (sameDram_mk h)
  exact (sameDramO_ite (sameDramO_next (beginLine_sameDram h3)) (sameDramO_next h))

theorem execHoldoverEntry_sameDram (h : SameDram p s) :
    SameDramO p (execHoldoverEntry s) := by
  unfold execHoldoverEntry
  extract_lets x1 x2
  have h3 : SameDram p x2 := (sameDram_mk h)
  exact (sameDramO_ite (sameDramO_next (event_sameDram (State.bump_sameDram h3))) (sameDramO_next h))

theorem execHoldoverLimit_sameDram (h : SameDram p s) :
    SameDramO p (execHoldoverLimit s) := by
  unfold execHoldoverLimit
  exact (sameDramO_ite (sameDramO_next (raise_sameDram (State.bump_sameDram (enterNosync_sameDram h)))) (sameDramO_next h))

theorem execMetadataLookup_sameDram {a0 : Fin 4} {a1 : Fin 8} (h : SameDram p s) :
    SameDramO p (execMetadataLookup a0 a1 s) := by
  unfold execMetadataLookup
  exact (sameDramO_next (sameDram_ite (laneStep_sameDram h) h))

theorem execReadDataReturn_sameDram {a0 : Fin 16} {a1 : Nat} {a2 : Line} (h : SameDram p s) :
    SameDramO p (execReadDataReturn a0 a1 a2 s) := by
  unfold execReadDataReturn
  split
  · extract_lets x1
    apply sameDramO_ite
    · split
      · exact (sameDramO_next (recomputeRead_sameDram h))
      · exact (sameDramO_next (finishOp_sameDram h))
      · exact (sameDramO_next (finishOp_sameDram h))
      · exact (sameDramO_next (checkLine_sameDram h))
      · exact (sameDramO_next (checkLine_sameDram h))
      · exact (sameDramO_next (checkLine_sameDram h))
      · exact (sameDramO_next (checkLine_sameDram h))
      · exact (sameDramO_next (checkLine_sameDram h))
      · exact (sameDramO_next h)
    · exact (sameDramO_next h)
  · exact (sameDramO_next h)

theorem execSecondRefetchDue_sameDram {a0 : Fin 16} {a1 : Nat} (h : SameDram p s) :
    SameDramO p (execSecondRefetchDue a0 a1 s) := by
  unfold execSecondRefetchDue
  split
  · exact (sameDramO_ite (sameDramO_next (refetch_sameDram h)) (sameDramO_next h))
  · exact (sameDramO_next h)

theorem execFillInstall_sameDram {a0 : Fin 16} {a1 : Nat} {a2 : Line} (h : SameDram p s) :
    SameDramO p (execFillInstall a0 a1 a2 s) := by
  unfold execFillInstall
  split
  · exact (sameDramO_ite (sameDramO_next (fillReturn_sameDram h)) (sameDramO_next h))
  · exact (sameDramO_next h)

theorem execRecomputeComplete_sameDram {a0 : Fin 4} {a1 : Nat} (h : SameDram p s) :
    SameDramO p (execRecomputeComplete a0 a1 s) := by
  unfold execRecomputeComplete
  split
  · exact (sameDramO_next (sameDram_ite (rebuilt_sameDram h) h))
  · exact (sameDramO_next h)

theorem execAct_sameDram {a0 : Fin 16} (h : SameDram p s) :
    SameDramO p (execAct a0 s) := by
  unfold execAct
  split
  · exact (sameDramO_next (issueAct_sameDram h))
  · exact (sameDramO_next h)

theorem execRd_sameDram {a0 : Fin 16} (h : SameDram p s) :
    SameDramO p (execRd a0 s) := by
  unfold execRd
  split
  · exact (sameDramO_next (issueRd_sameDram h))
  · exact (sameDramO_next h)

theorem execPre_sameDram {a0 : Fin 16} (h : SameDram p s) :
    SameDramO p (execPre a0 s) := by
  unfold execPre
  split
  · exact (sameDramO_next (issuePre_sameDram h))
  · exact (sameDramO_next h)

theorem execRefpb_sameDram {a0 : Fin 16} (h : SameDram p s) :
    SameDramO p (execRefpb a0 s) := by
  unfold execRefpb
  split
  · exact (sameDramO_next (issueRefpb_sameDram h))
  · exact (sameDramO_next h)

theorem execRefab_sameDram {a0 : Fin 16} (h : SameDram p s) :
    SameDramO p (execRefab a0 s) := by
  unfold execRefab
  split
  · exact (sameDramO_next (issueRefab_sameDram h))
  · exact (sameDramO_next h)

theorem execRfmpb_sameDram {a0 : Fin 16} (h : SameDram p s) :
    SameDramO p (execRfmpb a0 s) := by
  unfold execRfmpb
  split
  · exact (sameDramO_next (issueRfm_sameDram h))
  · exact (sameDramO_next h)

theorem execRcdExpiry_sameDram {a0 : Fin 16} {a1 : Fin 2} {a2 : Fin 16} (h : SameDram p s) :
    SameDramO p (execRcdExpiry a0 a1 a2 s) := by
  unfold execRcdExpiry
  extract_lets x1
  exact (sameDramO_next (sameDram_ite (State.onBank_sameDram h) h))

theorem execPrechargeDone_sameDram {a0 : Fin 16} {a1 : Fin 2} {a2 : Fin 16} (h : SameDram p s) :
    SameDramO p (execPrechargeDone a0 a1 a2 s) := by
  unfold execPrechargeDone
  extract_lets x1 x2 x3
  exact (sameDramO_next (sameDram_ite (State.onBank_sameDram h) h))

theorem execRefreshDone_sameDram {a0 : Fin 16} {a1 : Fin 2} {a2 : Fin 16} (h : SameDram p s) :
    SameDramO p (execRefreshDone a0 a1 a2 s) := by
  unfold execRefreshDone
  extract_lets x1 x2 x3
  exact (sameDramO_next (sameDram_ite (State.onBank_sameDram h) h))

theorem execDataBusModeChange_sameDram {a0 : Fin 16} (h : SameDram p s) :
    SameDramO p (execDataBusModeChange a0 s) := by
  unfold execDataBusModeChange
  extract_lets x1 x2
  exact (sameDramO_ite (sameDramO_next (State.note_sameDram (State.onChan_sameDram h))) (sameDramO_next h))

theorem execWriteRecoveryExpiry_sameDram {a0 : Fin 16} {a1 : Nat} (h : SameDram p s) :
    SameDramO p (execWriteRecoveryExpiry a0 a1 s) := by
  unfold execWriteRecoveryExpiry
  split
  · exact (sameDramO_ite (sameDramO_next (recovered_sameDram h)) (sameDramO_next h))
  · exact (sameDramO_next h)

theorem execIdleClose_sameDram {a0 : Fin 16} {a1 : Fin 2} {a2 : Fin 16} (h : SameDram p s) :
    SameDramO p (execIdleClose a0 a1 a2 s) := by
  unfold execIdleClose
  extract_lets x1 x2
  exact (sameDramO_ite (sameDramO_next (issuePre_sameDram h)) (sameDramO_next h))

theorem execGillAgeExpiry_sameDram {a0 : Fin 16} {a1 : Fin 16} (h : SameDram p s) :
    SameDramO p (execGillAgeExpiry a0 a1 s) := by
  unfold execGillAgeExpiry
  split
  · exact (sameDramO_ite (sameDramO_next (State.onChan_sameDram h)) (sameDramO_next h))
  · exact (sameDramO_next h)

theorem execGillToWriteQueue_sameDram {a0 : Fin 16} {a1 : Fin 16} (h : SameDram p s) :
    SameDramO p (execGillToWriteQueue a0 a1 s) := by
  unfold execGillToWriteQueue
  extract_lets x1
  split
  · exact (sameDramO_ite (sameDramO_next (toWriteQueue_sameDram h)) (sameDramO_next h))
  · exact (sameDramO_next h)

theorem execDebtRise_sameDram {a0 : Fin 16} {a1 : Fin 2} (h : SameDram p s) :
    SameDramO p (execDebtRise a0 a1 s) := by
  unfold execDebtRise
  exact (sameDramO_next (sameDram_ite (riseDebt_sameDram h) h))

theorem execMr4PollDue_sameDram {a0 : Fin 16} {a1 : Fin 2} (h : SameDram p s) :
    SameDramO p (execMr4PollDue a0 a1 s) := by
  unfold execMr4PollDue
  extract_lets x1
  exact (sameDramO_next (sameDram_ite (State.onRank_sameDram h) h))

theorem execMrr_sameDram {a0 : Fin 16} {a1 : Fin 2} (h : SameDram p s) :
    SameDramO p (execMrr a0 a1 s) := by
  unfold execMrr
  extract_lets x1
  have h2 : SameDram p x1 := (State.onRank_sameDram h)
  exact (sameDramO_ite (sameDramO_next (State.takeSlot_sameDram h2)) (sameDramO_next h))

theorem execMr4Result_sameDram {a0 : Fin 16} {a1 : Fin 2} {a2 : Fin 8} (h : SameDram p s) :
    SameDramO p (execMr4Result a0 a1 a2 s) := by
  unfold execMr4Result
  extract_lets x1 x2
  have h3 : SameDram p x2 := (State.onRank_sameDram (State.bump_sameDram h))
  exact (sameDramO_ite (sameDramO_next (readClass_sameDram h3)) (sameDramO_next h))

theorem execPreab_sameDram {a0 : Fin 16} {a1 : Fin 2} (h : SameDram p s) :
    SameDramO p (execPreab a0 a1 s) := by
  unfold execPreab
  exact (sameDramO_next (sameDram_ite (issuePreab_sameDram h) h))

theorem execPde_sameDram {a0 : Fin 16} {a1 : Fin 2} (h : SameDram p s) :
    SameDramO p (execPde a0 a1 s) := by
  unfold execPde
  extract_lets x1 x2
  exact (sameDramO_ite (sameDramO_next (State.takeSlot_sameDram (cancelLatch_sameDram (State.onRank_sameDram h)))) (sameDramO_next h))

theorem execPdx_sameDram {a0 : Fin 16} {a1 : Fin 2} (h : SameDram p s) :
    SameDramO p (execPdx a0 a1 s) := by
  unfold execPdx
  extract_lets x1 x2
  have h3 : SameDram p x2 := (State.onRank_sameDram h)
  exact (sameDramO_ite (sameDramO_next (State.takeSlot_sameDram h3)) (sameDramO_next h))

theorem execSelfRefreshIdleExpiry_sameDram {a0 : Fin 16} {a1 : Fin 2} (h : SameDram p s) :
    SameDramO p (execSelfRefreshIdleExpiry a0 a1 s) := by
  unfold execSelfRefreshIdleExpiry
  extract_lets x1 x2
  exact (sameDramO_ite (sameDramO_next (State.onRank_sameDram h)) (sameDramO_next h))

theorem execSrx_sameDram {a0 : Fin 16} {a1 : Fin 2} (h : SameDram p s) :
    SameDramO p (execSrx a0 a1 s) := by
  unfold execSrx
  exact (sameDramO_next (sameDram_ite (exitRank_sameDram h) h))

theorem execDeepSleepEntry_sameDram {a0 : Fin 16} {a1 : Fin 2} (h : SameDram p s) :
    SameDramO p (execDeepSleepEntry a0 a1 s) := by
  unfold execDeepSleepEntry
  extract_lets x1
  exact (sameDramO_next (sameDram_ite (sleepRank_sameDram h) h))

theorem execDeepSleepExit_sameDram {a0 : Fin 16} {a1 : Fin 2} (h : SameDram p s) :
    SameDramO p (execDeepSleepExit a0 a1 s) := by
  unfold execDeepSleepExit
  extract_lets x1
  exact (sameDramO_ite (sameDramO_next (State.takeSlot_sameDram (State.onRank_sameDram h))) (sameDramO_next h))

theorem execDsmxExpiry_sameDram {a0 : Fin 16} {a1 : Fin 2} (h : SameDram p s) :
    SameDramO p (execDsmxExpiry a0 a1 s) := by
  unfold execDsmxExpiry
  split
  · extract_lets x1
    have h2 : SameDram p x1 := (State.onRank_sameDram h)
    exact (sameDramO_ite (sameDramO_next (zqDue_sameDram h2)) (sameDramO_next h))
  · exact (sameDramO_next h)

theorem execCasWsFs_sameDram {a0 : Fin 16} {a1 : Fin 2} (h : SameDram p s) :
    SameDramO p (execCasWsFs a0 a1 s) := by
  unfold execCasWsFs
  extract_lets x1 x2
  exact (sameDramO_ite (sameDramO_next (State.takeSlot_sameDram (State.onRank_sameDram h))) (sameDramO_next h))

theorem execAmplitudeReport_sameDram {a0 : PllId} (h : SameDram p s) :
    SameDramO p (execAmplitudeReport a0 s) := by
  unfold execAmplitudeReport
  exact (sameDramO_ite (sameDramO_next (State.onPll_sameDram h)) (sameDramO_next h))

theorem execLockDelayExpiry_sameDram {a0 : PllId} (h : SameDram p s) :
    SameDramO p (execLockDelayExpiry a0 s) := by
  unfold execLockDelayExpiry
  exact (sameDramO_ite (sameDramO_next (State.onPll_sameDram h)) (sameDramO_next h))

theorem execPllAttemptTimeout_sameDram {a0 : PllId} (h : SameDram p s) :
    SameDramO p (execPllAttemptTimeout a0 s) := by
  unfold execPllAttemptTimeout
  exact (sameDramO_ite (sameDramO_next (attemptFailed_sameDram h)) (sameDramO_next h))

theorem execPllRetryPauseExpiry_sameDram {a0 : PllId} (h : SameDram p s) :
    SameDramO p (execPllRetryPauseExpiry a0 s) := by
  unfold execPllRetryPauseExpiry
  extract_lets x1
  exact (sameDramO_ite (sameDramO_next (State.onPll_sameDram h)) (sameDramO_next h))

theorem execAmplitudeDrop_sameDram {a0 : PllId} (h : SameDram p s) :
    SameDramO p (execAmplitudeDrop a0 s) := by
  unfold execAmplitudeDrop
  extract_lets x1
  exact (sameDramO_ite (sameDramO_next (attemptFailed_sameDram h)) (sameDramO_ite (sameDramO_next (trip_sameDram h)) (sameDramO_next h)))

theorem execLossOfLock_sameDram {a0 : PllId} (h : SameDram p s) :
    SameDramO p (execLossOfLock a0 s) := by
  unfold execLossOfLock
  exact (sameDramO_ite (sameDramO_next (trip_sameDram h)) (sameDramO_next h))

theorem execMonitorWindowEnd_sameDram {a0 : PllId} {a1 : BitVec 16} (h : SameDram p s) :
    SameDramO p (execMonitorWindowEnd a0 a1 s) := by
  unfold execMonitorWindowEnd
  extract_lets x1 x2
  have h3 : SameDram p x2 := (State.onPll_sameDram (State.setSt_sameDram h))
  exact (sameDramO_ite (sameDramO_ite (sameDramO_next (trip_sameDram h3)) (sameDramO_next h3)) (sameDramO_next h))

theorem execRestartA_sameDram {a0 : Fin 4} (h : SameDram p s) :
    SameDramO p (execRestartA a0 s) := by
  unfold execRestartA
  exact (sameDramO_next (sameDram_ite (restartPhy_sameDram h) h))

theorem execRestartB_sameDram {a0 : Fin 4} (h : SameDram p s) :
    SameDramO p (execRestartB a0 s) := by
  unfold execRestartB
  exact (sameDramO_next (sameDram_ite (restartPhy_sameDram h) h))

theorem execCoreRestart_sameDram (h : SameDram p s) :
    SameDramO p (execCoreRestart s) := by
  unfold execCoreRestart
  exact (sameDramO_next (sameDram_ite (restartCore_sameDram h) h))

theorem execOpPin_sameDram {a0 : Bool} {a1 : Fin 4} (h : SameDram p s) :
    SameDramO p (execOpPin a0 a1 s) := by
  unfold execOpPin
  exact (sameDramO_next (sameDram_ite (writePin_sameDram h) h))

theorem execVreqStrobe_sameDram (h : SameDram p s) :
    SameDramO p (execVreqStrobe s) := by
  unfold execVreqStrobe
  extract_lets x1 x2
  exact (sameDramO_ite (sameDramO_next (sameDram_mk h)) (sameDramO_next h))

theorem execVackRise_sameDram (h : SameDram p s) :
    SameDramO p (execVackRise s) := by
  unfold execVackRise
  extract_lets x1 x2
  exact (sameDramO_ite (sameDramO_next (sameDram_mk h)) (sameDramO_next h))

theorem execVackFall_sameDram (h : SameDram p s) :
    SameDramO p (execVackFall s) := by
  unfold execVackFall
  extract_lets x1 x2 x3
  have h4 : SameDram p x3 := (sameDram_mk h)
  exact (sameDramO_ite (sameDramO_ite (sameDramO_next (opStep2_sameDram h4)) (sameDramO_ite (sameDramO_next (settleOp_sameDram (opStep_sameDram h4))) (sameDramO_next (settleOp_sameDram h4)))) (sameDramO_next h))

theorem execVackTimeout_sameDram (h : SameDram p s) :
    SameDramO p (execVackTimeout s) := by
  unfold execVackTimeout
  extract_lets x1 x2 x3
  exact (sameDramO_ite (sameDramO_ite (sameDramO_next (abandonChange_sameDram (raise_sameDram h))) (sameDramO_ite (sameDramO_next (raise_sameDram (opStep_sameDram (sameDram_mk h)))) (sameDramO_next h))) (sameDramO_next h))

theorem execMrw_sameDram {a0 : Fin 16} {a1 : Fin 2} (h : SameDram p s) :
    SameDramO p (execMrw a0 a1 s) := by
  unfold execMrw
  extract_lets x1 x2 x3
  have h4 : ∀ y0 y1, SameDram p y0 → SameDram p (x3 y0 y1) := by
    intro y0 y1 h4_0
    unfold x3
    exact (State.takeSlot_sameDram (State.onRank_sameDram h4_0))
  exact (sameDramO_ite (sameDramO_next (tryPostOp_sameDram (h4 _ _ h))) (sameDramO_ite (sameDramO_next h) (sameDramO_ite (sameDramO_ite (sameDramO_next (h4 _ _ h)) (sameDramO_ite (sameDramO_next (h4 _ _ h)) (sameDramO_next h))) (sameDramO_next h))))

theorem execSre_sameDram {a0 : Fin 16} {a1 : Fin 2} (h : SameDram p s) :
    SameDramO p (execSre a0 a1 s) := by
  unfold execSre
  extract_lets x1 x2
  exact (sameDramO_ite (sameDramO_next (settleOp_sameDram (sleepRank_sameDram h))) (sameDramO_next h))

theorem execDsmEnter_sameDram (h : SameDram p s) :
    SameDramO p (execDsmEnter s) := by
  unfold execDsmEnter
  exact (sameDramO_next (enterDsm_sameDram h))

theorem execDsmExit_sameDram (h : SameDram p s) :
    SameDramO p (execDsmExit s) := by
  unfold execDsmExit
  exact (sameDramO_next (exitDsm_sameDram h))

theorem execShaperTest_sameDram {a0 : Fin 30} (h : SameDram p s) :
    SameDramO p (execShaperTest a0 s) := by
  unfold execShaperTest
  exact (sameDramO_next (sameDram_ite (shaperTest_sameDram h) h))

theorem execRodBoundary_sameDram (h : SameDram p s) :
    SameDramO p (execRodBoundary s) := by
  unfold execRodBoundary
  extract_lets x1
  exact (sameDramO_ite (sameDramO_next (rodWork_sameDram (sameDram_mk h))) (sameDramO_next h))

theorem execRevolutionEnd_sameDram (h : SameDram p s) :
    SameDramO p (execRevolutionEnd s) := by
  unfold execRevolutionEnd
  extract_lets x1 x2 x3 x4
  have h5 : SameDram p x1 := (sameDram_foldl (fun _ _ h6 => (State.onPort_sameDram h6)) h)
  have h7 : SameDram p x2 := (State.setSt_sameDram h5)
  have h8 : SameDram p x3 := (sameDram_ite (commitCalendar_sameDram h7) h7)
  exact (sameDramO_ite (sameDramO_next (rodWork_sameDram (sameDram_mk h8))) (sameDramO_next h))

theorem execCalendarCommitRequest_sameDram (h : SameDram p s) :
    SameDramO p (execCalendarCommitRequest s) := by
  unfold execCalendarCommitRequest
  extract_lets x1
  exact (sameDramO_next (sameDram_ite (sameDram_mk h) h))

theorem execGateCommitRequest_sameDram (h : SameDram p s) :
    SameDramO p (execGateCommitRequest s) := by
  unfold execGateCommitRequest
  extract_lets x1
  exact (sameDramO_next (sameDram_ite (sameDram_mk h) h))

theorem execCalendarCopyDone_sameDram (h : SameDram p s) :
    SameDramO p (execCalendarCopyDone s) := by
  unfold execCalendarCopyDone
  extract_lets x1
  exact (sameDramO_next (sameDram_ite (sameDram_mk h) h))

theorem execGateCopyDone_sameDram (h : SameDram p s) :
    SameDramO p (execGateCopyDone s) := by
  unfold execGateCopyDone
  extract_lets x1
  exact (sameDramO_next (sameDram_ite (sameDram_mk h) h))

theorem execGatePass_sameDram {a0 : Fin 30} (h : SameDram p s) :
    SameDramO p (execGatePass a0 s) := by
  unfold execGatePass
  apply sameDramO_ite
  · split
    · exact (sameDramO_next h)
    · extract_lets x1
      have h2 : ∀ y0, SameDram p y0 → SameDram p (x1 y0) := by
        intro y0 h2_0
        unfold x1
        exact (State.onPort_sameDram h2_0)
      split
      · exact (sameDramO_ite (sameDramO_next h) (sameDramO_next (State.bump_sameDram (State.onPort_sameDram h))))
      · exact (sameDramO_next (h2 _ h))
      · exact (sameDramO_next (h2 _ (State.bump_sameDram h)))
  · exact (sameDramO_next h)

theorem execIntakeDecision_sameDram {a0 : Fin 16} (h : SameDram p s) :
    SameDramO p (execIntakeDecision a0 s) := by
  unfold execIntakeDecision
  extract_lets x1 x2
  have h3 : SameDram p x1 := (pressEviction_sameDram (turnAwayAll_sameDram (promote_sameDram h)))
  apply sameDramO_ite
  · clear_value x2
    split
    · exact (sameDramO_next (takeHold_sameDram (grant_sameDram (decided_sameDram h3))))
    · exact (sameDramO_next (sameDram_ite (decide__sameDram (decided_sameDram h3)) h3))
  · exact (sameDramO_next h)

theorem execLineAdmission_sameDram {a0 : Fin 16} (h : SameDram p s) :
    SameDramO p (execLineAdmission a0 s) := by
  unfold execLineAdmission
  extract_lets x1 x2
  have h3 : SameDram p x1 := (promote_sameDram h)
  have h4 : SameDram p x2 := (State.onChan_sameDram h3)
  apply sameDramO_ite
  · split
    · apply sameDramO_ite
      · apply sameDramO_next
        apply promote_sameDram
        split
        · exact (refuseLine_sameDram h4)
        · exact (admitLine_sameDram h4)
      · exact (sameDramO_next h3)
    · exact (sameDramO_next h3)
  · exact (sameDramO_next h)

theorem execHoldStallTrip_sameDram {a0 : Fin 16} (h : SameDram p s) :
    SameDramO p (execHoldStallTrip a0 s) := by
  unfold execHoldStallTrip
  extract_lets x1 x2 x3
  split
  · extract_lets x4 x5 x6
    have h7 : SameDram p x5 := (State.setSt_sameDram (State.setSt_sameDram h))
    have h8 : SameDram p x6 := (State.stamp_sameDram (State.bump_sameDram h7))
    exact (sameDramO_ite (sameDramO_next (raise_sameDram (State.onChan_sameDram h8))) (sameDramO_next h))
  · exact (sameDramO_next h)

theorem execScrubStart_sameDram {a0 : Fin 4} (h : SameDram p s) :
    SameDramO p (execScrubStart a0 s) := by
  unfold execScrubStart
  exact (sameDramO_next (sameDram_ite (startScrub_sameDram h) h))

theorem execScrubAbort_sameDram {a0 : Fin 4} (h : SameDram p s) :
    SameDramO p (execScrubAbort a0 s) := by
  unfold execScrubAbort
  exact (sameDramO_next (sameDram_ite (abortScrub_sameDram h) h))

theorem execScrubPassEnd_sameDram {a0 : Fin 4} (h : SameDram p s) :
    SameDramO p (execScrubPassEnd a0 s) := by
  unfold execScrubPassEnd
  extract_lets x1 x2
  exact (sameDramO_next (sameDram_ite (endScrub_sameDram h) h))

theorem execIdlePermission_sameDram {a0 : Fin 16} (h : SameDram p s) :
    SameDramO p (execIdlePermission a0 s) := by
  unfold execIdlePermission
  exact (sameDramO_next (sameDram_ite (idlePermit_sameDram h) h))

theorem execEvac_sameDram {a0 : Fin 16} (h : SameDram p s) :
    SameDramO p (execEvac a0 s) := by
  unfold execEvac
  exact (sameDramO_next (sameDram_ite (requestEvac_sameDram h) h))

theorem execEvacuationStart_sameDram (h : SameDram p s) :
    SameDramO p (execEvacuationStart s) := by
  unfold execEvacuationStart
  split
  · split
    · exact (sameDramO_ite (sameDramO_next (settleEvac_sameDram (startEvac_sameDram h))) (sameDramO_next h))
    · exact (sameDramO_next h)
  · exact (sameDramO_next h)

theorem execChannelSwap_sameDram (h : SameDram p s) :
    SameDramO p (execChannelSwap s) := by
  unfold execChannelSwap
  split
  · exact (sameDramO_next (sameDram_ite (swapChannels_sameDram h) h))
  · exact (sameDramO_next h)

theorem execSwapDrainTimeout_sameDram (h : SameDram p s) :
    SameDramO p (execSwapDrainTimeout s) := by
  unfold execSwapDrainTimeout
  split
  · extract_lets x1
    have h2 : SameDram p x1 := (State.onChan_sameDram (State.onEvac_sameDram h))
    exact (sameDramO_ite (sameDramO_next (postSwap_sameDram (State.bump_sameDram h2))) (sameDramO_next h))
  · exact (sameDramO_next h)

theorem execCalWindowClose_sameDram {a0 : Fin 16} {a1 : Fin 36} {a2 : Nat} {a3 : Nat} (h : SameDram p s) :
    SameDramO p (execCalWindowClose a0 a1 a2 a3 s) := by
  unfold execCalWindowClose
  extract_lets x1 x2 x3 x4 x5
  have h6 : SameDram p x3 := (State.onCal_sameDram h)
  have h7 : SameDram p x4 := (State.unpost_sameDram h6)
  exact (sameDramO_ite (sameDramO_next (sameDram_ite (closeSweep_sameDram h7) (closeTrack_sameDram h7))) (sameDramO_next h))

theorem execPeriodicSweep_sameDram {a0 : Fin 16} (h : SameDram p s) :
    SameDramO p (execPeriodicSweep a0 s) := by
  unfold execPeriodicSweep
  extract_lets x1 x2
  exact (sameDramO_next (sameDram_ite (startSweep_sameDram h) h))

theorem execSweep_sameDram {a0 : Fin 4} (h : SameDram p s) :
    SameDramO p (execSweep a0 s) := by
  unfold execSweep
  exact (sameDramO_next (sameDram_ite (sweepQuad_sameDram h) h))

theorem execRetrain_sameDram {a0 : Fin 16} (h : SameDram p s) :
    SameDramO p (execRetrain a0 s) := by
  unfold execRetrain
  exact (sameDramO_next (sameDram_ite (requestRetrain_sameDram h) h))

theorem execCalPause_sameDram {a0 : Fin 4} (h : SameDram p s) :
    SameDramO p (execCalPause a0 s) := by
  unfold execCalPause
  exact (sameDramO_next (sameDram_ite (calPause_sameDram h) h))

theorem execCalUnpause_sameDram {a0 : Fin 4} (h : SameDram p s) :
    SameDramO p (execCalUnpause a0 s) := by
  unfold execCalUnpause
  exact (sameDramO_next (sameDram_ite (calUnpause_sameDram h) h))

theorem execStaleExpiry_sameDram {a0 : Fin 16} {a1 : Fin 2} (h : SameDram p s) :
    SameDramO p (execStaleExpiry a0 a1 s) := by
  unfold execStaleExpiry
  extract_lets x1
  exact (sameDramO_next (sameDram_ite (bookStep_sameDram h) h))

theorem execOscillatorInterval_sameDram {a0 : Fin 16} {a1 : Fin 2} (h : SameDram p s) :
    SameDramO p (execOscillatorInterval a0 a1 s) := by
  unfold execOscillatorInterval
  extract_lets x1
  exact (sameDramO_next (sameDram_ite (bookStep_sameDram (State.onCal_sameDram h)) h))

theorem execOscillatorCount_sameDram {a0 : Fin 16} {a1 : Fin 2} {a2 : BitVec 16} (h : SameDram p s) :
    SameDramO p (execOscillatorCount a0 a1 a2 s) := by
  unfold execOscillatorCount
  extract_lets x1
  have h2 : SameDram p x1 := (State.onCal_sameDram h)
  exact (sameDramO_ite (sameDramO_next (oscCount_sameDram (stepDone_sameDram (State.takeSlot_sameDram h2)))) (sameDramO_next h))

theorem execWriteReadCompareInterval_sameDram {a0 : Fin 16} {a1 : Fin 2} (h : SameDram p s) :
    SameDramO p (execWriteReadCompareInterval a0 a1 s) := by
  unfold execWriteReadCompareInterval
  extract_lets x1
  exact (sameDramO_next (sameDram_ite (bookStep_sameDram (State.onCal_sameDram h)) h))

theorem execWriteReadCompareDone_sameDram {a0 : Fin 16} {a1 : Fin 2} {a2 : List (Bool × Bool)} (h : SameDram p s) :
    SameDramO p (execWriteReadCompareDone a0 a1 a2 s) := by
  unfold execWriteReadCompareDone
  exact (sameDramO_next (sameDram_ite (wrcDone_sameDram h) h))

theorem execZqInterval_sameDram {a0 : Fin 4} {a1 : BitVec 6} {a2 : BitVec 6} {a3 : BitVec 6} (h : SameDram p s) :
    SameDramO p (execZqInterval a0 a1 a2 a3 s) := by
  unfold execZqInterval
  extract_lets x1
  exact (sameDramO_next (sameDram_ite (zqInterval_sameDram h) h))

theorem execZqCalibrationStart_sameDram {a0 : Fin 16} {a1 : Fin 2} (h : SameDram p s) :
    SameDramO p (execZqCalibrationStart a0 a1 s) := by
  unfold execZqCalibrationStart
  exact (sameDramO_ite (sameDramO_next (stepDone_sameDram (State.takeSlot_sameDram (State.onRank_sameDram h)))) (sameDramO_next h))

theorem execZqcalExpiry_sameDram {a0 : Fin 16} {a1 : Fin 2} (h : SameDram p s) :
    SameDramO p (execZqcalExpiry a0 a1 s) := by
  unfold execZqcalExpiry
  extract_lets x1
  exact (sameDramO_next (sameDram_ite (bookStep_sameDram (State.onRank_sameDram h)) h))

theorem execZqLatch_sameDram {a0 : Fin 16} {a1 : Fin 2} (h : SameDram p s) :
    SameDramO p (execZqLatch a0 a1 s) := by
  unfold execZqLatch
  extract_lets x1 x2 x3 x4
  have h5 : SameDram p x3 := (sameDram_ite (State.bump_sameDram h) h)
  have h6 : SameDram p x4 := (State.onCal_sameDram h5)
  exact (sameDramO_ite (sameDramO_next (stepDone_sameDram (State.takeSlot_sameDram (State.onRank_sameDram h6)))) (sameDramO_next h))

theorem execTapMove_sameDram {a0 : TapId} (h : SameDram p s) :
    SameDramO p (execTapMove a0 s) := by
  unfold execTapMove
  split
  · extract_lets x1 x2
    exact (sameDramO_ite (sameDramO_next (countMove_sameDram (State.onBit_sameDram (State.setSt_sameDram h)))) (sameDramO_next h))
  · extract_lets x3 x4
    exact (sameDramO_ite (sameDramO_next (countMove_sameDram (State.onBit_sameDram (State.setSt_sameDram h)))) (sameDramO_next h))
  · extract_lets x5 x6
    exact (sameDramO_ite (sameDramO_next (moveCode_sameDram h)) (sameDramO_next h))

theorem hostWrite_sameDram {a0 : State → State} (k0 : ∀ y0, SameDram p y0 → SameDram p (a0 y0)) (h : SameDram p s) :
    SameDramO p (hostWrite a0 s) := by
  unfold hostWrite
  exact (sameDramO_next (sameDram_ite (k0 _ h) h))

theorem execCounterLowWrite_sameDram {a0 : CounterId} {a1 : Word} (h : SameDram p s) :
    SameDramO p (execCounterLowWrite a0 a1 s) := by
  unfold execCounterLowWrite
  exact (hostWrite_sameDram (fun _ h1 => (holdLow_sameDram h1)) h)

theorem execCounterHighWrite_sameDram {a0 : CounterId} {a1 : Word} (h : SameDram p s) :
    SameDramO p (execCounterHighWrite a0 a1 s) := by
  unfold execCounterHighWrite
  exact (hostWrite_sameDram (fun _ h1 => (writeHigh_sameDram h1)) h)

theorem execClr_sameDram {a0 : CounterSet} {a1 : BitVec 4} (h : SameDram p s) :
    SameDramO p (execClr a0 a1 s) := by
  unfold execClr
  extract_lets x1
  exact (hostWrite_sameDram (fun _ h2 => (clearCounters_sameDram (dropHeld_sameDram h2))) h)

theorem execClrall_sameDram (h : SameDram p s) :
    SameDramO p (execClrall s) := by
  unfold execClrall
  exact (hostWrite_sameDram (fun _ h1 => (clearBushel_sameDram (dropHeld_sameDram h1))) h)

theorem execSnap_sameDram (h : SameDram p s) :
    SameDramO p (execSnap s) := by
  unfold execSnap
  exact (hostWrite_sameDram (fun _ h1 => (snapshot_sameDram (dropHeld_sameDram h1))) h)

theorem execFreeze_sameDram {a0 : Bool} (h : SameDram p s) :
    SameDramO p (execFreeze a0 s) := by
  unfold execFreeze
  refine hostWrite_sameDram (fun _ h2 => ?_) ?_
  · extract_lets x3
    have h4 : SameDram p x3 := (dropHeld_sameDram h2)
    exact (sameDram_ite (writeFreeze_sameDram h4) h4)
  · exact h

theorem execCounterWrap_sameDram {a0 : CounterId} (h : SameDram p s) :
    SameDramO p (execCounterWrap a0 s) := by
  unfold execCounterWrap
  exact (sameDramO_next (sameDram_ite (countNow_sameDram h) h))

theorem execPmovf_sameDram (h : SameDram p s) :
    SameDramO p (execPmovf s) := by
  unfold execPmovf
  exact (sameDramO_next (sameDram_ite (event_sameDram (State.onPerf_sameDram h)) h))

theorem execAck_sameDram {a0 : BitVec 3} (h : SameDram p s) :
    SameDramO p (execAck a0 s) := by
  unfold execAck
  exact (hostWrite_sameDram (fun _ h1 => (ack_sameDram h1)) h)

theorem execLogClear_sameDram {a0 : BitVec 16} (h : SameDram p s) :
    SameDramO p (execLogClear a0 s) := by
  unfold execLogClear
  exact (hostWrite_sameDram (fun _ h1 => (clearLog_sameDram h1)) h)

theorem execScrupleClear_sameDram {a0 : BitVec 16} (h : SameDram p s) :
    SameDramO p (execScrupleClear a0 s) := by
  unfold execScrupleClear
  exact (hostWrite_sameDram (fun _ h1 => (clearScruple_sameDram h1)) h)

theorem execFrameStart_sameDram {a0 : BitVec 64} (h : SameDram p s) :
    SameDramO p (execFrameStart a0 s) := by
  unfold execFrameStart
  extract_lets x1 x2 x3 x4 x5 x6 x7 x8
  have h9 : SameDram p x1 := (takeWord_sameDram h)
  have h10 : SameDram p x4 := (sameDram_ite h9 (slip_sameDram h9))
  have h11 : SameDram p x5 := (sameDram_ite (slip_sameDram h10) h10)
  have h12 : SameDram p x6 := (lineWordSeen_sameDram h11)
  have h13 : SameDram p x8 := (sameDram_ite (beginLine_sameDram (sameDram_mk h12)) (newFrame_sameDram h12))
  exact (sameDramO_ite (sameDramO_next h) (sameDramO_next (measure_sameDram h13)))

theorem execFrameLineLimit_sameDram (h : SameDram p s) :
    SameDramO p (execFrameLineLimit s) := by
  unfold execFrameLineLimit
  extract_lets x1 x2
  have h3 : SameDram p x2 := (sameDram_mk h)
  exact (sameDramO_ite (sameDramO_next (newFrame_sameDram h3)) (sameDramO_next h))

theorem execHorizontalBlank_sameDram {a0 : BitVec 64} (h : SameDram p s) :
    SameDramO p (execHorizontalBlank a0 s) := by
  unfold execHorizontalBlank
  extract_lets x1 x2 x3
  have h4 : SameDram p x1 := (takeWord_sameDram h)
  have h5 : SameDram p x3 := (sameDram_mk h4)
  exact (sameDramO_ite (sameDramO_next h) (sameDramO_ite (sameDramO_next h4) (sameDramO_next (sameDram_ite (openGap_sameDram h5) h5))))

theorem execHorizontalGapStart_sameDram (h : SameDram p s) :
    SameDramO p (execHorizontalGapStart s) := by
  unfold execHorizontalGapStart
  exact (sameDramO_next (sameDram_ite (openGap_sameDram h) h))

theorem execVerticalBlank_sameDram {a0 : BitVec 64} (h : SameDram p s) :
    SameDramO p (execVerticalBlank a0 s) := by
  unfold execVerticalBlank
  extract_lets x1 x2 x3
  have h4 : SameDram p x2 := (measure_sameDram (lineWord_sameDram (takeWord_sameDram h)))
  exact (sameDramO_ite (sameDramO_next h) (sameDramO_next (openV_sameDram (sameDram_mk h4))))

theorem execVerticalGapStart_sameDram (h : SameDram p s) :
    SameDramO p (execVerticalGapStart s) := by
  unfold execVerticalGapStart
  exact (sameDramO_next (sameDram_ite (openV_sameDram h) h))

theorem execBookingEnd_sameDram {a0 : Nat} (h : SameDram p s) :
    SameDramO p (execBookingEnd a0 s) := by
  unfold execBookingEnd
  split
  · extract_lets x1
    exact (sameDramO_ite (sameDramO_next (endWork_sameDram (sameDram_mk h))) (sameDramO_next h))
  · exact (sameDramO_next h)

theorem execPerchHandover_sameDram {a0 : Fin 32} {a1 : Fin 16} (h : SameDram p s) :
    SameDramO p (execPerchHandover a0 a1 s) := by
  unfold execPerchHandover
  exact (sameDramO_ite (sameDramO_next h) (sameDramO_ite (sameDramO_next (handMaint_sameDram h)) (sameDramO_ite (sameDramO_next (handScratch_sameDram h)) (sameDramO_ite (sameDramO_next (sameDram_ite (turnAway_sameDram (handLine_sameDram h)) (handLine_sameDram h))) (sameDramO_next h)))))

theorem execLoad_sameDram (h : SameDram p s) :
    SameDramO p (execLoad s) := by
  unfold execLoad
  exact (sameDramO_next (sameDram_ite (writeKeyCtl_sameDram h) h))

theorem execRetire_sameDram (h : SameDram p s) :
    SameDramO p (execRetire s) := by
  unfold execRetire
  exact (sameDramO_next (sameDram_ite (writeKeyCtl_sameDram h) h))

theorem execKeyErase_sameDram {a0 : Fin 2} (h : SameDram p s) :
    SameDramO p (execKeyErase a0 s) := by
  unfold execKeyErase
  exact (sameDramO_next (sameDram_ite (State.onKeys_sameDram h) h))

theorem execRekeyStart_sameDram (h : SameDram p s) :
    SameDramO p (execRekeyStart s) := by
  unfold execRekeyStart
  exact (sameDramO_next (sameDram_ite (startRekey_sameDram h) h))

theorem execRekeyAbort_sameDram (h : SameDram p s) :
    SameDramO p (execRekeyAbort s) := by
  unfold execRekeyAbort
  exact (sameDramO_next (sameDram_ite (abortRekey_sameDram h) h))

theorem execRekeyPassEnd_sameDram (h : SameDram p s) :
    SameDramO p (execRekeyPassEnd s) := by
  unfold execRekeyPassEnd
  extract_lets x1
  have h2 : SameDram p x1 := (State.onKeys_sameDram (retireSlot_sameDram h))
  exact (sameDramO_ite (sameDramO_next (event_sameDram (State.bump_sameDram h2))) (sameDramO_next h))

theorem execClean_sameDram {a0 : Fin 4} (h : SameDram p s) :
    SameDramO p (execClean a0 s) := by
  unfold execClean
  exact (sameDramO_next (goOp_sameDram h))

theorem execInvalidate_sameDram {a0 : Fin 4} (h : SameDram p s) :
    SameDramO p (execInvalidate a0 s) := by
  unfold execInvalidate
  exact (sameDramO_next (goOp_sameDram h))

theorem execPreload_sameDram {a0 : Fin 4} (h : SameDram p s) :
    SameDramO p (execPreload a0 s) := by
  unfold execPreload
  exact (sameDramO_next (goOp_sameDram h))

theorem execPreloadLock_sameDram {a0 : Fin 4} (h : SameDram p s) :
    SameDramO p (execPreloadLock a0 s) := by
  unfold execPreloadLock
  exact (sameDramO_next (goOp_sameDram h))

theorem execUnlock_sameDram {a0 : Fin 4} (h : SameDram p s) :
    SameDramO p (execUnlock a0 s) := by
  unfold execUnlock
  exact (sameDramO_next (goOp_sameDram h))

theorem execReservedOperation_sameDram {a0 : Fin 4} (h : SameDram p s) :
    SameDramO p (execReservedOperation a0 s) := by
  unfold execReservedOperation
  exact (sameDramO_next (goOp_sameDram h))

theorem execMcOperationDone_sameDram {a0 : Fin 4} (h : SameDram p s) :
    SameDramO p (execMcOperationDone a0 s) := by
  unfold execMcOperationDone
  split
  · exact (sameDramO_next (sameDram_ite (settleBypass_sameDram (State.onQuad_sameDram (State.setSt_sameDram h))) h))
  · exact (sameDramO_next h)

theorem execCacheBypassEntry_sameDram {a0 : Fin 4} (h : SameDram p s) :
    SameDramO p (execCacheBypassEntry a0 s) := by
  unfold execCacheBypassEntry
  exact (sameDramO_next (sameDram_ite (enterBypass_sameDram h) h))

theorem execBypassEntryDone_sameDram {a0 : Fin 4} (h : SameDram p s) :
    SameDramO p (execBypassEntryDone a0 s) := by
  unfold execBypassEntryDone
  exact (sameDramO_next (sameDram_ite (State.onQuad_sameDram h) h))

theorem execCacheBypassExit_sameDram {a0 : Fin 4} (h : SameDram p s) :
    SameDramO p (execCacheBypassExit a0 s) := by
  unfold execCacheBypassExit
  exact (sameDramO_next (sameDram_ite (leaveBypass_sameDram h) h))

theorem execTrstNAssert_sameDram (h : SameDram p s) :
    SameDramO p (execTrstNAssert s) := by
  unfold execTrstNAssert
  extract_lets x1 x2
  have h3 : SameDram p x1 := (updateIr_sameDram h)
  exact (sameDramO_next (sameDram_mk h3))

theorem execIdcode_sameDram (h : SameDram p s) :
    SameDramO p (execIdcode s) := by
  unfold execIdcode
  exact (sameDramO_next (updateIr_sameDram h))

theorem execSamplePreload_sameDram (h : SameDram p s) :
    SameDramO p (execSamplePreload s) := by
  unfold execSamplePreload
  exact (sameDramO_next (updateIr_sameDram h))

theorem execExtest_sameDram (h : SameDram p s) :
    SameDramO p (execExtest s) := by
  unfold execExtest
  exact (sameDramO_next (updateIr_sameDram h))

theorem execClamp_sameDram (h : SameDram p s) :
    SameDramO p (execClamp s) := by
  unfold execClamp
  exact (sameDramO_next (updateIr_sameDram h))

theorem execHighz_sameDram (h : SameDram p s) :
    SameDramO p (execHighz s) := by
  unfold execHighz
  exact (sameDramO_next (updateIr_sameDram h))

theorem execChtest_sameDram (h : SameDram p s) :
    SameDramO p (execChtest s) := by
  unfold execChtest
  exact (sameDramO_next (updateIr_sameDram h))

theorem execChtestUpdate_sameDram {a0 : BitVec 32} (h : SameDram p s) :
    SameDramO p (execChtestUpdate a0 s) := by
  unfold execChtestUpdate
  extract_lets x1 x2
  have h3 : SameDram p x2 := (sameDram_mk h)
  exact (sameDramO_ite (sameDramO_next (sameDram_ite (writeTst_sameDram h3) h3)) (sameDramO_next h))

theorem execIjtagPub_sameDram (h : SameDram p s) :
    SameDramO p (execIjtagPub s) := by
  unfold execIjtagPub
  exact (sameDramO_next (updateIr_sameDram h))

theorem execIjtagSec_sameDram (h : SameDram p s) :
    SameDramO p (execIjtagSec s) := by
  unfold execIjtagSec
  exact (sameDramO_next (updateIr_sameDram h))

theorem execScanmode_sameDram (h : SameDram p s) :
    SameDramO p (execScanmode s) := by
  unfold execScanmode
  exact (sameDramO_next (updateIr_sameDram h))

theorem execBypass_sameDram (h : SameDram p s) :
    SameDramO p (execBypass s) := by
  unfold execBypass
  exact (sameDramO_next (updateIr_sameDram h))

theorem execChannelTestGo_sameDram {a0 : Fin 16} {a1 : Bool} {a2 : Bool} (h : SameDram p s) :
    SameDramO p (execChannelTestGo a0 a1 a2 s) := by
  unfold execChannelTestGo
  exact (sameDramO_next (sameDram_ite (testGo_sameDram (dropHeld_sameDram h)) h))

theorem execChannelTestAbort_sameDram {a0 : Fin 16} (h : SameDram p s) :
    SameDramO p (execChannelTestAbort a0 s) := by
  unfold execChannelTestAbort
  exact (sameDramO_next (sameDram_ite (testAbort_sameDram (dropHeld_sameDram h)) h))

theorem execChannelTestEnd_sameDram {a0 : Fin 16} {a1 : BitVec 16} {a2 : BitVec 5} (h : SameDram p s) :
    SameDramO p (execChannelTestEnd a0 a1 a2 s) := by
  unfold execChannelTestEnd
  extract_lets x1
  have h2 : SameDram p x1 := (State.setSt_sameDram (State.setSt_sameDram h))
  exact (sameDramO_ite (sameDramO_next (testReturn_sameDram (State.setSt_sameDram h2))) (sameDramO_next h))

theorem spillWrite_sameDram {a0 : State → State} (k0 : ∀ y0, SameDram p y0 → SameDram p (a0 y0)) (h : SameDram p s) :
    SameDramO p (spillWrite a0 s) := by
  unfold spillWrite
  exact (sameDramO_next (sameDram_ite (k0 _ h) h))

theorem execSpillStart_sameDram {a0 : Fin 8} (h : SameDram p s) :
    SameDramO p (execSpillStart a0 s) := by
  unfold execSpillStart
  exact (spillWrite_sameDram (fun _ h1 => (spillStart_sameDram h1)) h)

theorem execKick_sameDram {a0 : Fin 8} (h : SameDram p s) :
    SameDramO p (execKick a0 s) := by
  unfold execKick
  exact (spillWrite_sameDram (fun _ h1 => (spillKick_sameDram h1)) h)

theorem execSpillPause_sameDram {a0 : Fin 8} (h : SameDram p s) :
    SameDramO p (execSpillPause a0 s) := by
  unfold execSpillPause
  exact (spillWrite_sameDram (fun _ h1 => (spillPause_sameDram h1)) h)

theorem execSpillResume_sameDram {a0 : Fin 8} (h : SameDram p s) :
    SameDramO p (execSpillResume a0 s) := by
  unfold execSpillResume
  exact (spillWrite_sameDram (fun _ h1 => (spillResume_sameDram h1)) h)

theorem execSpillAbort_sameDram {a0 : Fin 8} (h : SameDram p s) :
    SameDramO p (execSpillAbort a0 s) := by
  unfold execSpillAbort
  exact (spillWrite_sameDram (fun _ h1 => (spillAbort_sameDram h1)) h)

theorem execPollExpiry_sameDram {a0 : Fin 8} (h : SameDram p s) :
    SameDramO p (execPollExpiry a0 s) := by
  unfold execPollExpiry
  extract_lets x1 x2
  exact (sameDramO_next (sameDram_ite (refetchDesc_sameDram h) h))

theorem execDescriptorFetched_sameDram {a0 : Fin 8} {a1 : BitVec 256} {a2 : BitVec 2} (h : SameDram p s) :
    SameDramO p (execDescriptorFetched a0 a1 a2 s) := by
  unfold execDescriptorFetched
  split
  · extract_lets x1
    have h2 : SameDram p x1 := (State.onSpill_sameDram h)
    exact (sameDramO_ite (sameDramO_ite (sameDramO_next (busError_sameDram (State.onSpill_sameDram h2))) (sameDramO_next (gotDesc_sameDram h2))) (sameDramO_next h))
  · exact (sameDramO_next h)

theorem execChunkIssue_sameDram {a0 : Fin 8} (h : SameDram p s) :
    SameDramO p (execChunkIssue a0 s) := by
  unfold execChunkIssue
  extract_lets x1
  exact (sameDramO_next (sameDram_ite (spillServed_sameDram (showSpill_sameDram (issueChunk_sameDram h))) h))

theorem execAxiReadResponse_sameDram {a0 : Fin 8} {a1 : List Beat} {a2 : BitVec 2} (h : SameDram p s) :
    SameDramO p (execAxiReadResponse a0 a1 a2 s) := by
  unfold execAxiReadResponse
  split
  · extract_lets x1 x2
    have h3 : SameDram p x1 := (State.onSpill_sameDram h)
    exact (sameDramO_ite (sameDramO_ite (sameDramO_next (busError_sameDram (State.onSpill_sameDram h3))) (sameDramO_next (settleSpill_sameDram (State.onSpill_sameDram h3)))) (sameDramO_next h))
  · exact (sameDramO_next h)

theorem execAxiWriteResponse_sameDram {a0 : Fin 8} {a1 : BitVec 2} (h : SameDram p s) :
    SameDramO p (execAxiWriteResponse a0 a1 s) := by
  unfold execAxiWriteResponse
  split
  · extract_lets x1 x2 x3 x4 x5 x6
    have h7 : SameDram p x1 := (State.onSpill_sameDram h)
    have h8 : ∀ y0, SameDram p (x3 y0) := by
      intro y0 
      unfold x3
      exact (State.onSpill_sameDram h7)
    have h9 : SameDram p x6 := (h8 _)
    apply sameDramO_ite
    · apply sameDramO_ite
      · exact (sameDramO_next (busError_sameDram (sameDram_ite (State.onSpill_sameDram h7) h7)))
      · apply sameDramO_ite
        · split
          · exact (sameDramO_next (settleSpill_sameDram (chunkAcked_sameDram h7)))
          · exact (sameDramO_next h7)
        · exact (sameDramO_ite (sameDramO_next (sameDram_ite (State.onSpill_sameDram h9) h9)) (sameDramO_next (settleSpill_sameDram (descDone_sameDram h7))))
    · exact (sameDramO_next h)
  · exact (sameDramO_next h)

theorem execSpillDrainComplete_sameDram {a0 : Fin 8} (h : SameDram p s) :
    SameDramO p (execSpillDrainComplete a0 s) := by
  unfold execSpillDrainComplete
  extract_lets x1
  exact (sameDramO_next (sameDram_ite (drainSpill_sameDram h) h))

theorem execReadDataTransfer_sameDram {a0 : Fin 30} (h : SameDram p s) :
    SameDramO p (execReadDataTransfer a0 s) := by
  unfold execReadDataTransfer
  split
  · extract_lets x1 x2
    have h3 : SameDram p x2 := (sendD_sameDram h)
    exact (sameDramO_next (sameDram_ite (spillRead_sameDram h3) h3))
  · exact (sameDramO_next h)

theorem execWriteResponseTransfer_sameDram {a0 : Fin 30} {a1 : BitVec 8} (h : SameDram p s) :
    SameDramO p (execWriteResponseTransfer a0 a1 s) := by
  unfold execWriteResponseTransfer
  split
  · extract_lets x1
    have h2 : SameDram p x1 := (sendB_sameDram h)
    exact (sameDramO_next (sameDram_ite (spillWrote_sameDram h2) h2))
  · exact (sameDramO_next h)

theorem execStop_sameDram {a0 : Fin 30} (h : SameDram p s) :
    SameDramO p (execStop a0 s) := by
  unfold execStop
  exact (sameDramO_next (sameDram_ite (portStop_sameDram (dropHeld_sameDram h)) h))

theorem execPorstNRelease_sameDram {a0 : BitVec 14} (h : SameDram p s) :
    SameDramO p (execPorstNRelease a0 s) := by
  unfold execPorstNRelease
  extract_lets x1 x2
  have h3 : SameDram p x2 := (sameDram_mk h)
  exact (sameDramO_ite (sameDramO_next h) (sameDramO_next (sameDram_ite (startLoad_sameDram h3) h3)))

theorem execRsiCkLoss_sameDram (h : SameDram p s) :
    SameDramO p (execRsiCkLoss s) := by
  unfold execRsiCkLoss
  exact (sameDramO_next (sameDram_ite h (sameDram_ite (loseClock_sameDram h) (sameDram_mk h))))

theorem execAbsenceTimerExpiry_sameDram (h : SameDram p s) :
    SameDramO p (execAbsenceTimerExpiry s) := by
  unfold execAbsenceTimerExpiry
  extract_lets x1
  exact (sameDramO_next (sameDram_ite (sameDram_mk h) h))

theorem execReload_sameDram (h : SameDram p s) :
    SameDramO p (execReload s) := by
  unfold execReload
  exact (sameDramO_next (reload_sameDram h))

theorem execLockDetect_sameDram {a0 : PllId} (h : SameDram p s) :
    SameDramO p (execLockDetect a0 s) := by
  unfold execLockDetect
  exact (sameDramO_ite (sameDramO_next (settleReturn_sameDram (tryPostOp_sameDram (takeWant_sameDram (pllGood_sameDram h))))) (sameDramO_next h))

theorem execClockSwitchDone_sameDram {a0 : SwitchId} (h : SameDram p s) :
    SameDramO p (execClockSwitchDone a0 s) := by
  unfold execClockSwitchDone
  apply sameDramO_ite
  · exact (sameDramO_next h)
  · split
    · split
      · exact (sameDramO_next (settleReturn_sameDram (coreOnPll_sameDram h)))
      · exact (sameDramO_next (coreOnBypass_sameDram h))
      · exact (sameDramO_next h)
    · split
      · exact (sameDramO_next (settleReturn_sameDram (quadOn_sameDram h)))
      · exact (sameDramO_next h)
    · extract_lets x1
      exact (sameDramO_next (sameDram_ite (settleReturn_sameDram (sameDram_mk h)) h))
    · extract_lets x2
      exact (sameDramO_next (sameDram_ite (showClkmon_sameDram (sameDram_mk h)) h))

theorem execForcedSwitch_sameDram {a0 : SwitchId} (h : SameDram p s) :
    SameDramO p (execForcedSwitch a0 s) := by
  unfold execForcedSwitch
  split
  · extract_lets x1
    exact (sameDramO_next (sameDram_ite (State.bump_sameDram (sameDram_mk h)) h))
  · extract_lets x2
    split
    · exact (sameDramO_next h)
    · extract_lets x3
      exact (sameDramO_next (sameDram_ite (State.bump_sameDram (State.onQuadClk_sameDram h)) h))
  · exact (sameDramO_next h)
  · exact (sameDramO_next h)

theorem execDresetRelease_sameDram {a0 : Fin 4} (h : SameDram p s) :
    SameDramO p (execDresetRelease a0 s) := by
  unfold execDresetRelease
  exact (sameDramO_next (sameDram_ite (releaseDreset_sameDram h) h))

theorem execTrainingComplete_sameDram {a0 : Fin 16} {a1 : CalFound} (h : SameDram p s) :
    SameDramO p (execTrainingComplete a0 a1 s) := by
  unfold execTrainingComplete
  extract_lets x1
  have h2 : SameDram p x1 := (noChecks_sameDram (restartTracking_sameDram (initSet_sameDram h)))
  exact (sameDramO_next (sameDram_ite (trainDone_sameDram (putCodes_sameDram h2)) h))

theorem execStartupComplete_sameDram (h : SameDram p s) :
    SameDramO p (execStartupComplete s) := by
  unfold execStartupComplete
  extract_lets x1
  exact (sameDramO_next (sameDram_ite (completeStart_sameDram h) h))

theorem execClkmonSelect_sameDram {a0 : BitVec 6} {a1 : BitVec 10} (h : SameDram p s) :
    SameDramO p (execClkmonSelect a0 a1 s) := by
  unfold execClkmonSelect
  exact (sameDramO_next (sameDram_ite (writeClkmon_sameDram h) h))

theorem execParityWalk_sameDram {a0 : BitVec 20} {a1 : Word} (h : SameDram p s) :
    SameDramO p (execParityWalk a0 a1 s) := by
  unfold execParityWalk
  exact (sameDramO_next (sameDram_ite (sameDram_mk h) h))

end Sys2Proof.Machine
end

