-- ==== Sys2Proof/Laws/Fields.lean ====
section
/-!
SUPPORT. The fields of the registers and the units by number: a read after a write to the same place gives the value
written, and a write leaves every other place alone.
-/

namespace Sys2Proof.Machine

theorem natBits_testBit (n lo w i : Nat) : (natBits n lo w).testBit i = (decide (i < w) && n.testBit (lo + i)) := by
  simp [natBits, Nat.testBit_mod_two_pow, Nat.testBit_div_two_pow, Nat.add_comm]

theorem Field.of_testBit (f : Field) (w : Word) (i : Nat) :
    (f.of w).testBit i = (decide (i < f.width) && w.getLsbD (f.lo + i)) := by
  simp [Field.of, natBits_testBit, BitVec.getLsbD]

theorem mask_testBit (f : Field) (i : Nat) : ((2 ^ f.width - 1) * 2 ^ f.lo).testBit i =
    (decide (f.lo ≤ i) && decide (i < f.lo + f.width)) := by
  rw [Nat.testBit_mul_two_pow, Nat.testBit_two_pow_sub_one]
  by_cases h : f.lo ≤ i <;> simp [h]
  omega

theorem value_testBit (f : Field) (v i : Nat) : (v % 2 ^ f.width * 2 ^ f.lo).testBit i =
    (decide (f.lo ≤ i) && (decide (i - f.lo < f.width) && v.testBit (i - f.lo))) := by
  rw [Nat.testBit_mul_two_pow, Nat.testBit_mod_two_pow]

theorem Field.put_getLsbD (f : Field) (w : Word) (v i : Nat) : (f.put w v).getLsbD i =
    (decide (i < 32) && if f.lo ≤ i ∧ i < f.lo + f.width then v.testBit (i - f.lo) else w.getLsbD i) := by
  simp only [Field.put, Field.mask, BitVec.getLsbD_or, BitVec.getLsbD_and, BitVec.getLsbD_not, BitVec.getLsbD_ofNat,
    mask_testBit, value_testBit]
  by_cases h1 : i < 32
  · by_cases h2 : f.lo ≤ i
    · by_cases h3 : i < f.lo + f.width
      · have h4 : i - f.lo < f.width := by omega
        simp [h1, h2, h3, h4]
      · have h4 : ¬ i - f.lo < f.width := by omega
        simp [h1, h2, h3, h4]
    · simp [h1, h2]
  · simp [h1]

/-- A field reads as the value put into it, modulo its width. -/
theorem Field.of_put_self (f : Field) (w : Word) (v : Nat) (h : f.lo + f.width ≤ 32) :
    f.of (f.put w v) = v % 2 ^ f.width := by
  apply Nat.eq_of_testBit_eq
  intro i
  rw [Field.of_testBit, Field.put_getLsbD, Nat.testBit_mod_two_pow]
  by_cases hi : i < f.width
  · simp [hi, show f.lo + i < 32 by omega]
  · simp [hi]

/-- Putting a value into a field leaves every field of other bits alone. -/
theorem Field.of_put_other (f g : Field) (w : Word) (v : Nat)
    (h : g.lo + g.width ≤ f.lo ∨ f.lo + f.width ≤ g.lo) : g.of (f.put w v) = g.of w := by
  apply Nat.eq_of_testBit_eq
  intro i
  rw [Field.of_testBit, Field.of_testBit, Field.put_getLsbD]
  by_cases hi : i < g.width
  · have h2 : ¬ (f.lo ≤ g.lo + i ∧ g.lo + i < f.lo + f.width) := by omega
    rw [if_neg h2]
    by_cases h3 : g.lo + i < 32
    · simp [h3]
    · simp [h3, BitVec.getLsbD_of_ge w _ (Nat.le_of_not_lt h3)]
  · simp [hi]

/-- A status field reads as the value set, unless its register is frozen (R173). -/
theorem State.st_setSt_self {s : State} (f : Field) (v : Nat) (hw : s.stat.wf) (h : f.lo + f.width ≤ 32)
    (hf : f.addr ∉ s.frozen) : (s.setSt f v).st f = v % 2 ^ f.width := by
  simp [State.setSt, hf, State.st, RegFile.fget, RegFile.fset, get_set_self _ _ hw, Field.of_put_self f _ v h]

/-- Setting a status field leaves every other field alone. -/
theorem State.st_setSt_other {s : State} (f g : Field) (v : Nat) (hw : s.stat.wf)
    (h : g.addr ≠ f.addr ∨ g.lo + g.width ≤ f.lo ∨ f.lo + f.width ≤ g.lo) : (s.setSt f v).st g = s.st g := by
  unfold State.setSt
  split
  · rfl
  · unfold State.st RegFile.fget RegFile.fset
    by_cases ha : g.addr = f.addr
    · rw [ha, get_set_self _ _ hw, Field.of_put_other f g _ v (h.resolve_left (fun h => h ha))]
    · rw [get_set_other _ hw ha]

/-- A configuration field reads as the value set, unless its register is frozen (R173). -/
theorem State.cf_setCf_self {s : State} (f : Field) (v : Nat) (hw : s.cfg.wf) (h : f.lo + f.width ≤ 32)
    (hf : f.addr ∉ s.frozen) : (s.setCf f v).cf f = v % 2 ^ f.width := by
  unfold State.setCf State.setCfgWord State.cf RegFile.fget
  split
  · rename_i e
    rw [e.resolve_left (by simpa using hf), Field.of_put_self f _ v h]
  · rw [get_set_self _ _ hw, Field.of_put_self f _ v h]

/-- Setting a configuration field leaves every other field alone. -/
theorem State.cf_setCf_other {s : State} (f g : Field) (v : Nat) (hw : s.cfg.wf)
    (h : g.addr ≠ f.addr ∨ g.lo + g.width ≤ f.lo ∨ f.lo + f.width ≤ g.lo) : (s.setCf f v).cf g = s.cf g := by
  unfold State.setCf State.setCfgWord
  split
  · rfl
  · unfold State.cf RegFile.fget
    by_cases ha : g.addr = f.addr
    · simp only [ha]
      rw [get_set_self _ _ hw, Field.of_put_other f g _ v (h.resolve_left (fun h => h ha))]
    · simp only
      rw [get_set_other _ hw ha]

-- units by number

theorem upd_getD_self {α : Type} {n : Nat} (v : Vector α n) {i : Nat} (f : α → α) (d : α) (h : i < n) :
    (upd v i f).getD i d = f (v.getD i d) := by
  simp [upd, h, Vector.getD]

theorem upd_getD_other {α : Type} {n : Nat} (v : Vector α n) {i j : Nat} (f : α → α) (d : α) (h : j ≠ i) :
    (upd v i f).getD j d = v.getD j d := by
  unfold upd
  split
  · simp [Vector.getD, Ne.symm h]
  · rfl

theorem State.chan_onChan_self (s : State) {c : Nat} (f : Chan → Chan) (h : c < 16) : (s.onChan c f).chan c = f (s.chan c) :=
  upd_getD_self _ _ _ h

theorem State.chan_onChan_other (s : State) {c d : Nat} (f : Chan → Chan) (h : d ≠ c) : (s.onChan c f).chan d = s.chan d :=
  upd_getD_other _ _ _ h

theorem State.port_onPort_self (s : State) {p : Nat} (f : Port → Port) (h : p < 32) : (s.onPort p f).port p = f (s.port p) :=
  upd_getD_self _ _ _ h

theorem State.port_onPort_other (s : State) {p q : Nat} (f : Port → Port) (h : q ≠ p) : (s.onPort p f).port q = s.port q :=
  upd_getD_other _ _ _ h

theorem State.quad_onQuad_self (s : State) {q : Nat} (f : Quad → Quad) (h : q < 4) : (s.onQuad q f).quad q = f (s.quad q) :=
  upd_getD_self _ _ _ h

theorem State.quad_onQuad_other (s : State) {q r : Nat} (f : Quad → Quad) (h : r ≠ q) : (s.onQuad q f).quad r = s.quad r :=
  upd_getD_other _ _ _ h

theorem State.cal_onCal_self (s : State) {c : Nat} (f : ChanCal → ChanCal) (h : c < 16) : (s.onCal c f).cal c = f (s.cal c) :=
  upd_getD_self _ _ _ h

theorem State.cal_onCal_other (s : State) {c d : Nat} (f : ChanCal → ChanCal) (h : d ≠ c) : (s.onCal c f).cal d = s.cal d :=
  upd_getD_other _ _ _ h

theorem State.spill_onSpill_self (s : State) {d : Nat} (f : Spill → Spill) (h : d < 8) :
    (s.onSpill d f).spill_ d = f (s.spill_ d) :=
  upd_getD_self _ _ _ h

theorem State.spill_onSpill_other (s : State) {d e : Nat} (f : Spill → Spill) (h : e ≠ d) :
    (s.onSpill d f).spill_ e = s.spill_ e :=
  upd_getD_other _ _ _ h

end Sys2Proof.Machine
end

