-- ==== Sys2Proof/Laws/KeptOps.lean ====
section
/-!
SUPPORT. The shared operations of Ops.lean, Flags.lean, Codes.lean, Load.lean, Clocks.lean, Raster.lean, Ports.lean, Shaping.lean, Operands.lean, Queues.lean keep the queue and the canonical form (`Kept`): one lemma for each.
-/

namespace Sys2Proof.Machine

variable {p : Fixed} {s : State}

-- Ops

theorem State.setSt_kept {a1 : Field} {a2 : Nat} (h : Kept p s) : Kept p (State.setSt s a1 a2) := by
  unfold State.setSt
  exact kept_ite h (.of h.fixed h.cfg (set_wf _ _ h.stat) h.caps h.dram)

theorem State.tell_kept {a1 : Field} {a2 : News} (h : Kept p s) :
    Kept p (State.tell s a1 a2) := by
  unfold State.tell
  exact (kept_mk h)

theorem State.bump_kept {a1 : Field} {a2 : Nat} (h : Kept p s) :
    Kept p (State.bump s a1 a2) := by
  unfold State.bump
  exact (State.tell_kept (State.setSt_kept h))

theorem State.setBits_kept {a1 : Field} {a2 : Nat} (h : Kept p s) :
    Kept p (State.setBits s a1 a2) := by
  unfold State.setBits
  exact (State.tell_kept (State.setSt_kept h))

theorem State.setCfgWord_kept {a1 : Nat} {a2 : Word} (h : Kept p s) : Kept p (State.setCfgWord s a1 a2) := by
  unfold State.setCfgWord
  exact kept_ite h (.of h.fixed (set_wf _ _ h.cfg) h.stat h.caps h.dram)

theorem State.setCf_kept {a1 : Field} {a2 : Nat} (h : Kept p s) :
    Kept p (State.setCf s a1 a2) := by
  unfold State.setCf
  exact (State.setCfgWord_kept h)

theorem State.stamp_kept {a1 : Field} {a2 : Field} (h : Kept p s) :
    Kept p (State.stamp s a1 a2) := by
  unfold State.stamp
  exact (State.setSt_kept (State.setSt_kept h))

theorem State.note_kept {a1 : Ev} {a2 : Nat} {a3 : Nat} (h : Kept p s) :
    Kept p (State.note s a1 a2 a3) := by
  unfold State.note
  extract_lets x1
  exact (kept_mk h)

theorem State.onChan_kept {a1 : Nat} {a2 : Chan → Chan} (h : Kept p s) :
    Kept p (State.onChan s a1 a2) := by
  unfold State.onChan
  exact (kept_mk h)

theorem State.onCal_kept {a1 : Nat} {a2 : ChanCal → ChanCal} (h : Kept p s) :
    Kept p (State.onCal s a1 a2) := by
  unfold State.onCal
  exact (kept_mk h)

theorem State.onQuad_kept {a1 : Nat} {a2 : Quad → Quad} (h : Kept p s) :
    Kept p (State.onQuad s a1 a2) := by
  unfold State.onQuad
  exact (kept_mk h)

theorem State.onPort_kept {a1 : Nat} {a2 : Port → Port} (h : Kept p s) :
    Kept p (State.onPort s a1 a2) := by
  unfold State.onPort
  exact (kept_mk h)

theorem State.onSpill_kept {a1 : Nat} {a2 : Spill → Spill} (h : Kept p s) :
    Kept p (State.onSpill s a1 a2) := by
  unfold State.onSpill
  exact (kept_mk h)

theorem State.onRank_kept {a1 : Nat} {a2 : Nat} {a3 : Rank → Rank} (h : Kept p s) :
    Kept p (State.onRank s a1 a2 a3) := by
  unfold State.onRank
  exact (State.onChan_kept h)

theorem State.onQuadClk_kept {a1 : Nat} {a2 : QuadClk → QuadClk} (h : Kept p s) :
    Kept p (State.onQuadClk s a1 a2) := by
  unfold State.onQuadClk
  extract_lets x1
  exact (kept_mk h)

theorem State.setTable_kept {a1 : List Nat} (h : Kept p s) :
    Kept p (State.setTable s a1) := by
  unfold State.setTable
  extract_lets x1
  exact (State.setCf_kept (State.setCf_kept h))

theorem State.onRanks_kept {a1 : Nat} {a2 : Rank → Rank} (h : Kept p s) :
    Kept p (State.onRanks s a1 a2) := by
  unfold State.onRanks
  exact (State.onChan_kept h)

theorem State.setPartner_kept {a1 : Nat} {a2 : Option Nat} (h : Kept p s) :
    Kept p (State.setPartner s a1 a2) := by
  unfold State.setPartner
  exact (State.setSt_kept (State.setSt_kept h))

theorem State.onPerf_kept {a1 : Perf → Perf} (h : Kept p s) :
    Kept p (State.onPerf s a1) := by
  unfold State.onPerf
  exact (kept_mk h)

theorem dropHeld_kept {a0 : Nat} (h : Kept p s) :
    Kept p (dropHeld a0 s) := by
  unfold dropHeld
  exact (State.onPerf_kept h)


-- Flags

theorem State.setBit_kept {a1 : Field} {a2 : Nat} (h : Kept p s) :
    Kept p (State.setBit s a1 a2) := by
  unfold State.setBit
  exact (State.setBits_kept h)

theorem event_kept {a0 : Evt} (h : Kept p s) :
    Kept p (event a0 s) := by
  unfold event
  exact (State.setBit_kept h)

theorem enterLog_kept {a0 : LogEntry} (h : Kept p s) :
    Kept p (enterLog a0 s) := by
  unfold enterLog
  split
  · exact (State.bump_kept h)
  · extract_lets x1
    exact (kept_mk h)

theorem raise_kept {a0 : Src} {a1 : Nat} {a2 : Nat} (h : Kept p s) :
    Kept p (raise a0 a1 a2 s) := by
  unfold raise
  extract_lets x1 x2
  exact (kept_mk h)

theorem spillHalt_kept {a0 : Nat} {a1 : Nat} (h : Kept p s) :
    Kept p (spillHalt a0 a1 s) := by
  unfold spillHalt
  split
  · exact (event_kept (State.onSpill_kept h))
  · exact (event_kept (State.onSpill_kept h))
  · exact (event_kept (State.onSpill_kept h))
  · exact h

theorem spillStops_kept (h : Kept p s) :
    Kept p (spillStops s) := by
  unfold spillStops
  exact (kept_foldl (fun _ _ h1 => (spillHalt_kept h1)) h)

theorem stopBlock_kept (h : Kept p s) :
    Kept p (stopBlock s) := by
  unfold stopBlock
  extract_lets x1 x2
  exact (spillStops_kept (kept_mk h))

theorem halt_kept (h : Kept p s) :
    Kept p (halt s) := by
  unfold halt
  extract_lets x1
  exact (stopBlock_kept (kept_mk h))

theorem takeMode_kept {a0 : Nat} (h : Kept p s) :
    Kept p (takeMode a0 s) := by
  unfold takeMode
  extract_lets x1 x2 x3
  have h4 : Kept p x2 := (kept_ite h (kept_mk h))
  exact (kept_ite (kept_mk h4) h4)

theorem judge_kept {a0 : Flt} {a1 : LogEntry} (h : Kept p s) :
    Kept p (judge a0 a1 s) := by
  unfold judge
  extract_lets x1 x2 x3 x4 x5 x6
  have h7 : ∀ y0 y1, Kept p y1 → Kept p (x3 y0 y1) := by
    intro y0 y1 h7_1
    unfold x3
    exact (kept_ite h7_1 (enterLog_kept h7_1))
  have h8 : Kept p x4 := (h7 _ _ (kept_ite (halt_kept h) h))
  have h9 : Kept p x5 := (State.bump_kept (State.setBit_kept h8))
  have h10 : Kept p x6 := (kept_mk h9)
  exact (kept_ite (h7 _ _ h) (kept_ite h9 (kept_ite (takeMode_kept h10) h10)))

theorem settleLog_kept (h : Kept p s) :
    Kept p (settleLog s) := by
  unfold settleLog
  extract_lets x1
  exact (kept_foldl (fun _ _ h2 => (judge_kept h2)) (kept_mk h))


-- Ports

theorem setIngHold_kept {a0 : Nat} {a1 : Bool} (h : Kept p s) :
    Kept p (setIngHold a0 a1 s) := by
  unfold setIngHold
  extract_lets x1 x2
  exact (kept_ite (kept_mk h) h)

theorem tunFallback_kept {a0 : Nat} {a1 : Nat} {a2 : Nat} (h : Kept p s) :
    Kept p (tunFallback a0 a1 a2 s) := by
  unfold tunFallback
  extract_lets x1 x2
  have h3 : Kept p x2 := (kept_ite (event_kept (State.setSt_kept h)) h)
  exact (kept_ite (State.setSt_kept h3) h3)

theorem tunCc_kept {a0 : Nat} (h : Kept p s) :
    Kept p (tunCc a0 s) := by
  unfold tunCc
  extract_lets x1 x2 x3 x4 x5 x6 x7 x8 x9
  have h10 : Kept p x4 := (State.onPort_kept h)
  have h11 : Kept p x6 := (kept_ite (State.bump_kept h10) h10)
  have h12 : Kept p x7 := (setIngHold_kept h11)
  have h13 : Kept p x8 := (kept_ite (State.setSt_kept h12) h12)
  have h14 : Kept p x9 := (kept_ite (State.bump_kept h13) h13)
  exact (kept_ite (tunFallback_kept h14) h14)

theorem portHalt_kept {a0 : Nat} {a1 : Nat} (h : Kept p s) :
    Kept p (portHalt a0 a1 s) := by
  unfold portHalt
  split
  · exact (State.onPort_kept h)
  · exact (State.onPort_kept h)
  · exact (State.onPort_kept h)
  · exact (kept_ite (State.onPort_kept h) h)
  · exact h

theorem accept__kept {a0 : Nat} {a1 : Req} (h : Kept p s) :
    Kept p (accept_ a0 a1 s) := by
  unfold accept_
  extract_lets x1 x2 x3 x4 x5
  have h6 : Kept p x4 := (State.onPort_kept h)
  have h7 : Kept p x5 := (State.note_kept h6)
  exact (kept_ite (portHalt_kept h7) h7)

theorem takeBeat_kept {a0 : Nat} {a1 : WBeat} {a2 : Bool} (h : Kept p s) :
    Kept p (takeBeat a0 a1 a2 s) := by
  unfold takeBeat
  split
  · exact h
  · extract_lets x1
    have h2 : Kept p x1 := (State.onPort_kept (State.note_kept h))
    exact (kept_ite (portHalt_kept (State.onPort_kept h2)) (State.onPort_kept h2))

theorem splitNext_kept {a0 : Nat} (h : Kept p s) :
    Kept p (splitNext a0 s) := by
  unfold splitNext
  split
  · exact h
  · extract_lets x1
    exact (kept_ite (State.onPort_kept h) h)

theorem addPerch_kept {a0 : Nat} {a1 : Nat} {a2 : PerchLine} (h : Kept p s) :
    Kept p (addPerch a0 a1 a2 s) := by
  unfold addPerch
  exact (State.onChan_kept h)

theorem handLine_kept {a0 : Nat} (h : Kept p s) :
    Kept p (handLine a0 s) := by
  unfold handLine
  split
  · exact h
  · split
    · exact (State.onPort_kept h)
    · extract_lets x1 x2 x3
      have h4 : ∀ y0 y1, Kept p y1 → Kept p (x1 y0 y1) := by
        intro y0 y1 h4_1
        unfold x1
        extract_lets x5
        have h6 : Kept p x5 := (State.onPort_kept h4_1)
        exact (State.onPort_kept h6)
      have h7 : Kept p x3 := (kept_ite (State.note_kept h) h)
      apply kept_ite
      · exact (kept_ite (h4 _ _ h) h)
      · split
        · extract_lets x8
          exact (kept_ite (h4 _ _ h) (kept_ite h (h4 _ _ (addPerch_kept h7))))

theorem answer_kept {a0 : Nat} {a1 : Nat} {a2 : Nat} {a3 : Outcome} {a4 : Line} (h : Kept p s) :
    Kept p (answer a0 a1 a2 a3 a4 s) := by
  unfold answer
  exact (State.onPort_kept h)

theorem countResponse_kept {a0 : Nat} {a1 : Req} {a2 : ReqLine} (h : Kept p s) :
    Kept p (countResponse a0 a1 a2 s) := by
  unfold countResponse
  extract_lets x1 x2 x3 x4 x5
  have h6 : Kept p x2 := (State.note_kept h)
  have h7 : Kept p x3 := (State.bump_kept h6)
  have h8 : Kept p x4 := (State.setSt_kept (State.setSt_kept h7))
  have h9 : Kept p x5 := (State.setSt_kept (State.setSt_kept h8))
  exact (kept_ite h (kept_ite (State.setSt_kept h7) (State.setSt_kept (State.setSt_kept h9))))

theorem finishReq_kept {a0 : Nat} {a1 : Nat} (h : Kept p s) :
    Kept p (finishReq a0 a1 s) := by
  unfold finishReq
  exact (State.onPort_kept h)

theorem showB_kept {a0 : Nat} (h : Kept p s) :
    Kept p (showB a0 s) := by
  unfold showB
  apply kept_ite
  · exact h
  · split
    · exact h
    · exact (State.onPort_kept h)

theorem sendB_kept {a0 : Nat} {a1 : Req} (h : Kept p s) :
    Kept p (sendB a0 a1 s) := by
  unfold sendB
  extract_lets x1
  have h2 : Kept p x1 := (kept_foldl (fun _ _ h3 => (countResponse_kept h3)) h)
  exact (finishReq_kept (State.onPort_kept h2))

theorem sendD_kept {a0 : Nat} {a1 : Req} (h : Kept p s) :
    Kept p (sendD a0 a1 s) := by
  unfold sendD
  extract_lets x1 x2 x3 x4
  have h5 : Kept p x3 := (State.note_kept (State.onPort_kept h))
  have h6 : Kept p x4 := by
    unfold x4
    apply kept_ite
    · split
      · exact (countResponse_kept h5)
      · exact h5
    · exact h5
  exact (kept_ite (finishReq_kept (State.onPort_kept h6)) h6)

theorem tunReset_kept {a0 : Nat} (h : Kept p s) :
    Kept p (tunReset a0 s) := by
  unfold tunReset
  extract_lets x1 x2
  have h3 : Kept p x2 := (State.onPort_kept h)
  exact (raise_kept (State.bump_kept h3))

theorem flushStart_kept {a0 : Nat} (h : Kept p s) :
    Kept p (flushStart a0 s) := by
  unfold flushStart
  extract_lets x1
  have h2 : Kept p x1 := (kept_mk h)
  exact (kept_ite (State.onPort_kept h2) h)

theorem portStop_kept {a0 : Nat} (h : Kept p s) :
    Kept p (portStop a0 s) := by
  unfold portStop
  exact (kept_ite (State.onPort_kept h) h)

theorem portResume_kept {a0 : Nat} (h : Kept p s) :
    Kept p (portResume a0 s) := by
  unfold portResume
  extract_lets x1
  split
  · exact (State.onPort_kept h)
  · exact (State.onPort_kept h)
  · exact (kept_ite (State.onPort_kept h) h)
  · exact h


-- Operands

theorem State.setBurst_kept {a1 a2 a3 : Nat} {a4 : Beat} (h : Kept p s) : Kept p (State.setBurst s a1 a2 a3 a4) :=
  .of h.fixed h.cfg h.stat h.caps (put_rising _ _ h.dram)


-- Queues

theorem State.onOp_kept {a1 : Nat} {a2 : Nat} {a3 : Op → Op} (h : Kept p s) :
    Kept p (State.onOp s a1 a2 a3) := by
  unfold State.onOp
  exact (State.onChan_kept h)

theorem State.dropOp_kept {a1 : Nat} {a2 : Nat} (h : Kept p s) :
    Kept p (State.dropOp s a1 a2) := by
  unfold State.dropOp
  exact (State.onChan_kept h)

theorem State.addOp_kept {a1 : Nat} {a2 : Op} (h : Kept p s) :
    Kept p (State.addOp s a1 a2) := by
  unfold State.addOp
  exact (State.onChan_kept h)

theorem State.insertOp_kept {a1 : Nat} {a2 : Nat} {a3 : Op} (h : Kept p s) :
    Kept p (State.insertOp s a1 a2 a3) := by
  unfold State.insertOp
  exact (State.onChan_kept h)

theorem State.addRecompute_kept {a1 : Nat} {a2 : Op} (h : Kept p s) :
    Kept p (State.addRecompute s a1 a2) := by
  unfold State.addRecompute
  exact (State.onChan_kept h)

theorem answerOp_kept {a0 : Op} {a1 : Outcome} {a2 : Line} (h : Kept p s) :
    Kept p (answerOp a0 a1 a2 s) := by
  unfold answerOp
  exact (kept_ite (answer_kept h) h)

theorem completeWrites_kept {a0 : Nat} {a1 : Nat} {a2 : Outcome} (h : Kept p s) :
    Kept p (completeWrites a0 a1 a2 s) := by
  unfold completeWrites
  exact (kept_foldl (fun _ _ h1 => (kept_ite (State.onOp_kept (answerOp_kept h1)) h1)) h)

theorem State.freeGillAt_kept {a1 : Nat} {a2 : Nat} (h : Kept p s) :
    Kept p (State.freeGillAt s a1 a2) := by
  unfold State.freeGillAt
  exact (State.onChan_kept h)

theorem State.dropWrites_kept {a1 : Nat} {a2 : Nat} (h : Kept p s) :
    Kept p (State.dropWrites s a1 a2) := by
  unfold State.dropWrites
  exact (State.onChan_kept h)

theorem startEviction_kept {a0 : Nat} {a1 : Nat} (h : Kept p s) :
    Kept p (startEviction a0 a1 s) := by
  unfold startEviction
  extract_lets x1
  split
  · split
    · exact h
    · extract_lets x2 x3 x4
      have h5 : Kept p x4 := (State.bump_kept (State.insertOp_kept h))
      exact (State.note_kept (State.bump_kept h5))
  · exact h

theorem startEvictions_kept {a0 : Nat} (h : Kept p s) :
    Kept p (startEvictions a0 s) := by
  unfold startEvictions
  exact (kept_foldl (fun _ _ h1 => (startEviction_kept h1)) h)


-- Raster

theorem endGap_kept {a0 : GapKind} (h : Kept p s) :
    Kept p (endGap a0 s) := by
  unfold endGap
  extract_lets x1 x2 x3 x4 x5
  exact (kept_ite (kept_mk h) h)

theorem endGaps_kept (h : Kept p s) :
    Kept p (endGaps s) := by
  unfold endGaps
  exact (endGap_kept (endGap_kept h))

theorem synFrame_kept (h : Kept p s) :
    Kept p (synFrame s) := by
  unfold synFrame
  extract_lets x1
  exact (kept_mk h)

theorem enterNosync_kept (h : Kept p s) :
    Kept p (enterNosync s) := by
  unfold enterNosync
  extract_lets x1
  exact (synFrame_kept (kept_mk h))

theorem sourceChanged_kept (h : Kept p s) :
    Kept p (sourceChanged s) := by
  unfold sourceChanged
  exact (enterNosync_kept (endGaps_kept h))

theorem takeWord_kept {a0 : BitVec 64} (h : Kept p s) :
    Kept p (takeWord a0 s) := by
  unfold takeWord
  extract_lets x1
  exact (kept_mk h)

theorem beginLine_kept {a0 : BitVec 16} {a1 : Bool} (h : Kept p s) :
    Kept p (beginLine a0 a1 s) := by
  unfold beginLine
  extract_lets x1 x2
  have h3 : Kept p x1 := (endGap_kept h)
  exact (kept_mk h3)

theorem slip_kept (h : Kept p s) :
    Kept p (slip s) := by
  unfold slip
  exact (kept_ite h (State.bump_kept h))

theorem lineWordSeen_kept (h : Kept p s) :
    Kept p (lineWordSeen s) := by
  unfold lineWordSeen
  extract_lets x1
  exact (kept_mk h)

theorem adopt_kept {a0 : Nat} (h : Kept p s) :
    Kept p (adopt a0 s) := by
  unfold adopt
  extract_lets x1
  exact (kept_mk h)

theorem accept_kept {a0 : Nat} (h : Kept p s) :
    Kept p (accept a0 s) := by
  unfold accept
  extract_lets x1 x2 x3 x4 x5
  have h6 : Kept p x1 := (adopt_kept h)
  have h7 : Kept p x3 := (kept_mk h6)
  apply kept_ite
  · exact (event_kept (State.bump_kept (kept_mk h7)))
  · apply kept_ite
    · exact (kept_mk h6)
    · apply kept_ite
      · exact (adopt_kept h)
      · split
        · exact (kept_mk h)
        · exact (kept_ite (event_kept (State.bump_kept (adopt_kept h))) (kept_mk h))

theorem measure_kept {a0 : BitVec 24} {a1 : Nat} (h : Kept p s) :
    Kept p (measure a0 a1 s) := by
  unfold measure
  extract_lets x1 x2 x3
  have h4 : Kept p x3 := (kept_mk h)
  apply kept_ite
  · exact h
  · clear_value x1
    split
    · extract_lets x5
      exact (kept_ite (kept_ite (State.bump_kept h4) (accept_kept h4)) h4)
    · exact h4

theorem lineWord_kept {a0 : BitVec 64} (h : Kept p s) :
    Kept p (lineWord a0 s) := by
  unfold lineWord
  extract_lets x1 x2 x3
  have h4 : Kept p x2 := (kept_ite h (slip_kept h))
  exact (beginLine_kept (lineWordSeen_kept (kept_mk h4)))


-- Load

theorem busRead_kept {a0 : LoadPhase} {a1 : Nat} {a2 : Nat} {a3 : Nat} {a4 : Nat} (h : Kept p s) :
    Kept p (busRead a0 a1 a2 a3 a4 s) := by
  unfold busRead
  extract_lets x1
  exact (kept_mk h)

theorem loadAttempt_kept {a0 : Nat} {a1 : Nat} (h : Kept p s) :
    Kept p (loadAttempt a0 a1 s) := by
  unfold loadAttempt
  extract_lets x1
  exact (busRead_kept (kept_mk h))

theorem loadStart_kept (h : Kept p s) :
    Kept p (loadStart s) := by
  unfold loadStart
  exact (loadAttempt_kept h)

theorem loadFail_kept {a0 : Nat} (h : Kept p s) :
    Kept p (loadFail a0 s) := by
  unfold loadFail
  extract_lets x1 x2 x3
  have h4 : Kept p x2 := (kept_mk h)
  exact (kept_ite (loadAttempt_kept h4) (raise_kept (kept_mk h4)))

theorem recordRead_kept {a0 : LoadPhase} {a1 : Nat} {a2 : Nat} (h : Kept p s) :
    Kept p (recordRead a0 a1 a2 s) := by
  unfold recordRead
  exact (busRead_kept h)

theorem passStart_kept {a0 : LoadPhase} {a1 : Nat} (h : Kept p s) :
    Kept p (passStart a0 a1 s) := by
  unfold passStart
  extract_lets x1 x2
  exact (recordRead_kept (kept_mk h))

theorem clear_wf {f : RegFile} {m : Nat × Word → Nat × Word} (hm : ∀ e, (m e).1 = e.1) (h : f.wf) :
    RegFile.wf ((f.map m).filter fun e => decide (e.2 ≠ 0)) := by
  rw [wf_iff] at *
  refine ⟨List.Pairwise.filter _ (List.pairwise_map.2 (by simpa only [hm] using h.1)), ?_⟩
  intro e he
  simpa using (List.mem_filter.1 he).2

theorem recordValues_kept (h : Kept p s) : Kept p (recordValues s) := by
  have h1 (r : Word) : Kept p { s with
      cfg := s.load.parse.writes.foldl (fun f e => f.set e.1
        ((f.get e.1 &&& ~~~((regDesc e.1).map RegDesc.loadable |>.getD 0)) ||| e.2))
        ((s.cfg.map fun (e : Nat × Word) => (e.1, e.2 &&& ~~~((regDesc e.1).map RegDesc.loadable |>.getD 0))).filter
          fun e => e.2 ≠ 0)
      parErr := s.parErr.filter fun a => ((regDesc a).map RegDesc.loadable |>.getD 0) = 0
      load := { s.load with
        state := 2, err := 0, step := 5, phase := .idle, img := s.load.imageId, bld := s.load.parse.build
        crc := s.load.parse.rcrc } } :=
    .of h.fixed (foldl_set_wf _ _ (clear_wf (fun _ => rfl) h.cfg)) h.stat h.caps h.dram
  unfold recordValues
  dsimp only
  split
  · exact h1 0
  · exact kept_mk (State.setTable_kept (h1 0))


-- Clocks

theorem State.onPll_kept {a1 : PllId} {a2 : Pll → Pll} (h : Kept p s) :
    Kept p (State.onPll s a1 a2) := by
  unfold State.onPll
  split
  · extract_lets x1
    exact (kept_mk h)
  · extract_lets x2
    exact (kept_mk h)

theorem startPll_kept {a0 : PllId} {a1 : PllWhy} {a2 : Nat} (h : Kept p s) :
    Kept p (startPll a0 a1 a2 s) := by
  unfold startPll
  exact (State.onPll_kept h)

theorem startAllPlls_kept (h : Kept p s) :
    Kept p (startAllPlls s) := by
  unfold startAllPlls
  extract_lets x1 x2 x3 x4 x5
  have h6 : Kept p x2 := (startPll_kept h)
  have h7 : Kept p x3 := (kept_foldl (fun _ _ h8 => (startPll_kept (startPll_kept h8))) h6)
  exact (kept_mk h7)

theorem dropBookings_kept {a0 : Work} (h : Kept p s) :
    Kept p (dropBookings a0 s) := by
  unfold dropBookings
  extract_lets x1
  exact (kept_mk h)

theorem unprelock_kept (h : Kept p s) :
    Kept p (unprelock s) := by
  unfold unprelock
  exact (kept_foldl (fun _ _ h1 => (kept_foldl (fun _ _ h2 => (kept_ite (startPll_kept h2) h2)) h1)) h)

theorem restSpares_kept (h : Kept p s) :
    Kept p (restSpares s) := by
  unfold restSpares
  exact (kept_foldl (fun _ _ h1 => (kept_ite (State.onRanks_kept h1) h1)) h)

theorem resumeChans_kept (h : Kept p s) :
    Kept p (resumeChans s) := by
  unfold resumeChans
  exact (kept_ite (restSpares_kept (kept_foldl (fun _ _ h1 => (kept_ite h1 (State.onRanks_kept h1))) h)) h)

theorem quadSwitch_kept {a0 : Nat} {a1 : ClkSrc} {a2 : SwWhy} (h : Kept p s) :
    Kept p (quadSwitch a0 a1 a2 s) := by
  unfold quadSwitch
  exact (State.onQuadClk_kept h)

theorem switchBack_kept (h : Kept p s) :
    Kept p (switchBack s) := by
  unfold switchBack
  apply kept_ite
  · refine kept_foldl (fun _ _ h5 => ?_) ?_
    · refine kept_foldl (fun _ _ h7 => ?_) ?_
      · extract_lets x8 x9
        have h10 : Kept p x9 := (State.onPll_kept h7)
        exact (kept_ite (quadSwitch_kept (startPll_kept h10)) h7)
      · exact h5
    · exact h
  · exact h

theorem endPending_kept (h : Kept p s) :
    Kept p (endPending s) := by
  unfold endPending
  extract_lets x1 x2 x3
  have h4 : Kept p x1 := (dropBookings_kept h)
  have h5 : Kept p x3 := (kept_mk h4)
  exact (State.setSt_kept h5)

theorem abandonChange_kept (h : Kept p s) :
    Kept p (abandonChange s) := by
  unfold abandonChange
  exact (kept_ite (unprelock_kept (State.bump_kept (endPending_kept (switchBack_kept (resumeChans_kept h))))) h)

theorem losePrelock_kept (h : Kept p s) :
    Kept p (losePrelock s) := by
  unfold losePrelock
  exact (kept_ite (abandonChange_kept h) h)

theorem quadUnclocked_kept {a0 : Nat} (h : Kept p s) :
    Kept p (quadUnclocked a0 s) := by
  unfold quadUnclocked
  exact (kept_foldl (fun _ _ h1 => (State.setSt_kept (State.setSt_kept (State.onChan_kept h1)))) h)

theorem quadToSelfRefresh_kept {a0 : Nat} (h : Kept p s) :
    Kept p (quadToSelfRefresh a0 s) := by
  unfold quadToSelfRefresh
  exact (kept_foldl (fun _ _ h1 => (kept_ite (State.onRanks_kept h1) h1)) h)

theorem restQuad_kept {a0 : Nat} (h : Kept p s) :
    Kept p (restQuad a0 s) := by
  unfold restQuad
  exact (quadToSelfRefresh_kept (State.onQuadClk_kept h))

theorem restartCk_kept {a0 : Nat} (h : Kept p s) :
    Kept p (restartCk a0 s) := by
  unfold restartCk
  exact (kept_foldl (fun _ _ h1 => (State.onChan_kept h1)) h)

theorem pllFailed_kept {a0 : PllId} (h : Kept p s) :
    Kept p (pllFailed a0 s) := by
  unfold pllFailed
  extract_lets x1 x2 x3 x4
  have h5 : Kept p x2 := (State.onPll_kept h)
  have h6 : Kept p x4 := (raise_kept (kept_mk h5))
  split
  · clear_value x1
    split
    · exact (raise_kept (kept_mk h5))
    · exact (raise_kept h5)
    · exact (kept_foldl (fun _ _ h7 => (kept_ite h7 (restQuad_kept h7))) h6)
  · extract_lets x8 x9
    have h10 : Kept p x9 := (raise_kept h5)
    clear_value x1
    split
    · exact (losePrelock_kept (raise_kept h5))
    · exact (kept_ite (restQuad_kept (restartCk_kept (State.bump_kept (raise_kept h5)))) (raise_kept h5))
    · exact (kept_ite (quadUnclocked_kept h10) h10)
    · exact (raise_kept h5)
    · exact (kept_ite (quadUnclocked_kept h10) h10)

theorem attemptFailed_kept {a0 : PllId} (h : Kept p s) :
    Kept p (attemptFailed a0 s) := by
  unfold attemptFailed
  exact (kept_ite (State.onPll_kept h) (pllFailed_kept h))

theorem coreSwitch_kept {a0 : CoreSw} (h : Kept p s) :
    Kept p (coreSwitch a0 s) := by
  unfold coreSwitch
  extract_lets x1
  exact (kept_mk h)

theorem phyGood_kept {a0 : Nat} {a1 : Bool} (h : Kept p s) :
    Kept p (phyGood a0 a1 s) := by
  unfold phyGood
  extract_lets x1 x2 x3 x4
  have h5 : ∀ y0 y1, Kept p y1 → Kept p (x2 y0 y1) := by
    intro y0 y1 h5_1
    unfold x2
    exact (State.onPll_kept h5_1)
  have h6 : Kept p x4 := (State.onPll_kept h)
  split
  · exact (State.setBit_kept (h5 _ _ h))
  · exact (h5 _ _ h)
  · exact (kept_ite (quadSwitch_kept (h5 _ _ h)) (h5 _ _ h))
  · apply kept_ite
    · exact (h5 _ _ h)
    · split
      · exact (quadSwitch_kept (h5 _ _ h))
      · exact (kept_ite (quadSwitch_kept (h5 _ _ h6)) (h5 _ _ h))
      · exact (h5 _ _ h)

theorem coreGood_kept (h : Kept p s) :
    Kept p (coreGood s) := by
  unfold coreGood
  extract_lets x1 x2
  have h3 : Kept p x1 := (coreSwitch_kept (State.onPll_kept h))
  exact (kept_mk h3)

theorem pllGood_kept {a0 : PllId} (h : Kept p s) :
    Kept p (pllGood a0 s) := by
  unfold pllGood
  split
  · exact (coreGood_kept h)
  · exact (phyGood_kept h)

theorem fallback_kept {a0 : Nat} {a1 : Bool} (h : Kept p s) :
    Kept p (fallback a0 a1 s) := by
  unfold fallback
  extract_lets x1 x2 x3 x4 x5
  have h6 : Kept p x2 := (State.bump_kept (raise_kept h))
  have h7 : Kept p x3 := (State.onPll_kept h6)
  have h8 : Kept p x4 := (State.bump_kept (raise_kept h))
  have h9 : Kept p x5 := (State.onPll_kept h8)
  exact (kept_ite (quadSwitch_kept (State.onQuadClk_kept h7)) (quadSwitch_kept (State.onQuadClk_kept h9)))

theorem coreTrip_kept (h : Kept p s) :
    Kept p (coreTrip s) := by
  unfold coreTrip
  extract_lets x1 x2 x3 x4
  have h5 : Kept p x1 := (State.onPll_kept h)
  have h6 : Kept p x2 := (kept_ite (abandonChange_kept h5) h5)
  have h7 : Kept p x4 := (coreSwitch_kept (kept_mk h6))
  exact (raise_kept (State.bump_kept h7))

theorem trip_kept {a0 : PllId} (h : Kept p s) :
    Kept p (trip a0 s) := by
  unfold trip
  split
  · exact (coreTrip_kept h)
  · extract_lets x1 x2 x3
    have h4 : Kept p x2 := (State.bump_kept h)
    have h5 : Kept p x3 := (State.onPll_kept h4)
    clear_value x1
    split
    · exact (fallback_kept h5)
    · exact (losePrelock_kept (raise_kept h5))
    · exact (raise_kept h5)

theorem restartPhy_kept {a0 : Nat} {a1 : Bool} (h : Kept p s) :
    Kept p (restartPhy a0 a1 s) := by
  unfold restartPhy
  extract_lets x1
  exact (kept_ite (startPll_kept h) h)

theorem restartCore_kept (h : Kept p s) :
    Kept p (restartCore s) := by
  unfold restartCore
  exact (kept_ite (startPll_kept h) h)

theorem showClkmon_kept (h : Kept p s) :
    Kept p (showClkmon s) := by
  unfold showClkmon
  extract_lets x1
  exact (kept_mk h)


-- Shaping

theorem loadShaper_kept {a0 : Nat} {a1 : Word × Word × Word} (h : Kept p s) :
    Kept p (loadShaper a0 a1 s) := by
  unfold loadShaper
  exact (State.onPort_kept h)

theorem release_kept {a0 : Nat} {a1 : Nat} {a2 : Nat} {a3 : Bool} (h : Kept p s) :
    Kept p (release a0 a1 a2 a3 s) := by
  unfold release
  extract_lets x1
  exact (State.onPort_kept h)

theorem shaperTest_kept {a0 : Nat} (h : Kept p s) :
    Kept p (shaperTest a0 s) := by
  unfold shaperTest
  extract_lets x1 x2
  split
  · exact h
  · extract_lets x3 x4 x5
    have h6 : Kept p x4 := (State.onPort_kept h)
    have h7 : Kept p x5 := (State.onPort_kept h)
    exact (kept_ite (release_kept (State.onPort_kept h)) (kept_ite (release_kept h) (kept_ite (release_kept (State.onPort_kept h)) (kept_ite (release_kept (State.note_kept (State.bump_kept h6))) (State.note_kept (State.bump_kept h7))))))

theorem fireCalendar_kept (h : Kept p s) :
    Kept p (fireCalendar s) := by
  unfold fireCalendar
  refine kept_foldl (fun _ _ h2 => ?_) ?_
  · extract_lets x3
    exact (kept_ite h2 (State.onPort_kept h2))
  · exact h

theorem reshape_kept {a0 : Nat} {a1 : Word × Word × Word} (h : Kept p s) :
    Kept p (reshape a0 a1 s) := by
  unfold reshape
  exact (State.onPort_kept (loadShaper_kept h))

theorem rodPort_kept {a0 : Nat} (h : Kept p s) : Kept p (rodPort a0 s).1 := by
  unfold rodPort
  dsimp only
  split
  · exact reshape_kept h
  · split
    · exact reshape_kept (State.onPort_kept h)
    · exact State.onPort_kept h
  · exact State.onPort_kept h

theorem rodPorts_kept {l : List Nat} {acc : State × List Nat} (h : Kept p acc.1) :
    Kept p (l.foldl (fun acc i =>
      let r := rodPort i acc.1
      (r.1, if r.2 then acc.2 ++ [i] else acc.2)) acc).1 := by
  induction l generalizing acc with
  | nil => exact h
  | cons i l ih => exact ih (rodPort_kept h)

theorem rodWork_kept (h : Kept p s) : Kept p (rodWork s) := by
  unfold rodWork
  split
  rename_i t due heq
  have h1 := rodPorts_kept (l := shapedPorts) (acc := (s, [])) h
  rw [heq] at h1
  exact kept_foldl (fun _ _ h => shaperTest_kept (State.onPort_kept h)) (fireCalendar_kept h1)

theorem commitCalendar_kept (h : Kept p s) :
    Kept p (commitCalendar s) := by
  unfold commitCalendar
  extract_lets x1 x2
  have h3 : Kept p x2 := (kept_mk h)
  exact (State.bump_kept h3)

theorem regate_kept {a0 : Nat} (h : Kept p s) :
    Kept p (regate a0 s) := by
  unfold regate
  extract_lets x1
  exact (kept_ite (State.onPort_kept h) h)

theorem commitGates_kept (h : Kept p s) :
    Kept p (commitGates s) := by
  unfold commitGates
  extract_lets x1 x2
  have h3 : Kept p x2 := (kept_mk h)
  exact (State.bump_kept (kept_foldl (fun _ _ h4 => (regate_kept h4)) h3))

theorem copyReg_kept {a0 a1 : Nat} (h : Kept p s) : Kept p (copyReg a0 a1 s) := by
  unfold copyReg
  exact kept_ite h (.of h.fixed h.cfg (set_wf _ _ h.stat) h.caps h.dram)

theorem calCopyStep_kept (h : Kept p s) :
    Kept p (calCopyStep s) := by
  unfold calCopyStep
  split
  · extract_lets x1 x2
    have h3 : Kept p x1 := (copyReg_kept h)
    exact (kept_ite (kept_mk h3) h)
  · exact h

theorem copyGateVg_kept (h : Kept p s) :
    Kept p (copyGateVg s) := by
  unfold copyGateVg
  exact (State.setSt_kept h)

theorem gateCopyStep_kept (h : Kept p s) :
    Kept p (gateCopyStep s) := by
  unfold gateCopyStep
  split
  · extract_lets x1 x2
    have h3 : Kept p x1 := (kept_ite (copyReg_kept h) (kept_ite (copyGateVg_kept h) (copyReg_kept h)))
    exact (kept_ite (kept_mk h3) h)
  · exact h

theorem startShaping_kept (h : Kept p s) :
    Kept p (startShaping s) := by
  unfold startShaping
  extract_lets x1 x2 x3 x4
  have h5 : Kept p x1 := (kept_foldl (fun _ _ h6 => (State.onPort_kept (loadShaper_kept h6))) h)
  have h7 : Kept p x2 := (commitGates_kept (commitCalendar_kept h5))
  have h8 : Kept p x4 := (kept_mk h7)
  exact (fireCalendar_kept (State.setSt_kept h8))

end Sys2Proof.Machine
end

