-- ==== Sys2Proof/Laws/KeptCache.lean ====
section
/-!
SUPPORT. The shared operations of Cache.lean, Wear.lean, Broker.lean, Lines.lean, Intake.lean, Engine.lean keep the queue and the canonical form (`Kept`): one lemma for each.
-/

namespace Sys2Proof.Machine

variable {p : Fixed} {s : State}

-- Cache

theorem State.onWay_kept {a1 : Nat} {a2 : Nat} {a3 : Way → Way} (h : Kept p s) :
    Kept p (State.onWay s a1 a2 a3) := by
  unfold State.onWay
  exact (State.onQuad_kept h)

theorem State.writeback_kept {a1 : Nat} {a2 : Nat} {a3 : Line} {a4 : Bool} (h : Kept p s) :
    Kept p (State.writeback s a1 a2 a3 a4) := by
  unfold State.writeback
  extract_lets x1 x2
  exact (State.note_kept (State.addOp_kept h))

theorem State.cleanWay_kept {a1 : Nat} {a2 : Nat} {a3 : Bool} (h : Kept p s) :
    Kept p (State.cleanWay s a1 a2 a3) := by
  unfold State.cleanWay
  extract_lets x1
  exact (kept_ite (State.onWay_kept (State.writeback_kept h)) h)

theorem State.onLane_kept {a1 : Nat} {a2 : Nat} {a3 : Lane → Lane} (h : Kept p s) :
    Kept p (State.onLane s a1 a2 a3) := by
  unfold State.onLane
  exact (State.onQuad_kept h)

theorem State.addFill_kept {a1 : OpKind} {a2 : Nat} {a3 : Nat} {a4 : Option Nat} {a5 : Option (Nat × Nat)} {a6 : Nat} (h : Kept p s) :
    Kept p (State.addFill s a1 a2 a3 a4 a5 a6) := by
  unfold State.addFill
  extract_lets x1
  exact (State.addOp_kept h)

theorem updateEntry_kept {a0 : Nat} {a1 : Nat} {a2 : Option Nat} {a3 : Entry} (h : Kept p s) :
    Kept p (updateEntry a0 a1 a2 a3 s) := by
  unfold updateEntry
  split
  · exact (State.onWay_kept h)
  · extract_lets x1
    exact (State.addOp_kept h)

theorem State.unpin_kept {a1 : Nat} {a2 : Nat} (h : Kept p s) :
    Kept p (State.unpin s a1 a2) := by
  unfold State.unpin
  exact (State.onOp_kept h)

theorem State.onEvac_kept {a1 : Evac → Evac} (h : Kept p s) :
    Kept p (State.onEvac s a1) := by
  unfold State.onEvac
  extract_lets x1
  exact (kept_mk h)

theorem State.noteCreated_kept {a1 : Nat} {a2 : Nat} (h : Kept p s) :
    Kept p (State.noteCreated s a1 a2) := by
  unfold State.noteCreated
  exact (kept_ite (State.onEvac_kept h) (State.onChan_kept h))

theorem dropCached_kept {a0 : Nat} (h : Kept p s) :
    Kept p (dropCached a0 s) := by
  unfold dropCached
  extract_lets x1 x2
  exact (kept_ite (State.bump_kept (State.onQuad_kept h)) h)

theorem flushCache_kept {a0 : Nat} (h : Kept p s) :
    Kept p (flushCache a0 s) := by
  unfold flushCache
  exact (kept_foldl (fun _ _ h1 => (State.cleanWay_kept h1)) h)

theorem clearPast_kept {a0 a1 : Nat} (h : Kept p s) : Kept p (clearPast a0 a1 s) := by
  induction a0 generalizing s with
  | zero => exact h
  | succ n ih =>
    unfold clearPast
    exact kept_ite (ih (State.setSt_kept (State.onChan_kept h))) h

theorem clearDone_kept {a0 : Nat} (h : Kept p s) :
    Kept p (clearDone a0 s) := by
  unfold clearDone
  exact (kept_ite (State.setSt_kept (State.onChan_kept h)) h)

theorem startClearing_kept {a0 : Nat} {a1 : Nat} (h : Kept p s) :
    Kept p (startClearing a0 a1 s) := by
  unfold startClearing
  extract_lets x1
  have h2 : Kept p x1 := (State.setSt_kept (State.setSt_kept h))
  exact (clearDone_kept (State.onChan_kept h2))

theorem clearNext_kept {a0 : Nat} (h : Kept p s) :
    Kept p (clearNext a0 s) := by
  unfold clearNext
  extract_lets x1 x2 x3
  have h4 : Kept p x2 := (clearDone_kept (clearPast_kept h))
  apply kept_ite
  · exact h
  · split
    · exact h4
    · extract_lets x5 x6 x7 x8 x9
      have h10 : Kept p x6 := (State.onChan_kept h4)
      exact (kept_ite h4 (kept_ite h10 (State.note_kept (State.addOp_kept h10))))

theorem clearedLine_kept {a0 : Nat} {a1 : Nat} (h : Kept p s) :
    Kept p (clearedLine a0 a1 s) := by
  unfold clearedLine
  extract_lets x1 x2 x3 x4
  have h5 : Kept p x4 := (State.onChan_kept h)
  exact (clearDone_kept (clearPast_kept (State.setSt_kept h5)))


-- Wear

theorem enterScruple_kept {a0 : Nat} {a1 : Nat} {a2 : Stamp} (h : Kept p s) :
    Kept p (enterScruple a0 a1 a2 s) := by
  unfold enterScruple
  extract_lets x1 x2 x3 x4
  have h5 : ∀ y0 y1, Kept p (x4 y0 y1) := by
    intro y0 y1 
    unfold x4
    exact (kept_mk h)
  split
  · exact (h5 _ _)
  · split
    · exact (h5 _ _)
    · split
      · exact (h5 _ _)
      · exact (State.bump_kept h)

theorem scruple_kept {a0 : Nat} {a1 : Nat} (h : Kept p s) :
    Kept p (scruple a0 a1 s) := by
  unfold scruple
  extract_lets x1
  exact (kept_mk h)

theorem settleScruple_kept (h : Kept p s) :
    Kept p (settleScruple s) := by
  unfold settleScruple
  extract_lets x1
  exact (kept_foldl (fun _ _ h2 => (enterScruple_kept h2)) (kept_mk h))

theorem reserveSpare_kept {a0 : Nat} (h : Kept p s) :
    Kept p (reserveSpare a0 s) := by
  unfold reserveSpare
  extract_lets x1
  split
  · extract_lets x2
    have h3 : Kept p x2 := (State.setSt_kept (State.onChan_kept h))
    exact (kept_ite (State.onChan_kept (State.onChan_kept h)) (raise_kept h3))
  · exact (raise_kept (State.onChan_kept h))

theorem becomeWearing_kept {a0 : Nat} {a1 : Nat} (h : Kept p s) :
    Kept p (becomeWearing a0 a1 s) := by
  unfold becomeWearing
  exact (State.setSt_kept (State.onChan_kept h))

theorem wearTest_kept {a0 : Nat} (h : Kept p s) :
    Kept p (wearTest a0 s) := by
  unfold wearTest
  exact (kept_ite h (kept_ite (becomeWearing_kept h) (kept_ite (becomeWearing_kept h) h)))

theorem State.bump48_kept {a1 : Field} {a2 : Field} {a3 : Nat} (h : Kept p s) :
    Kept p (State.bump48 s a1 a2 a3) := by
  unfold State.bump48
  extract_lets x1
  exact (State.tell_kept (State.setSt_kept (State.setSt_kept h)))

theorem countFetch_kept {a0 : Nat} {a1 : Bool} (h : Kept p s) :
    Kept p (countFetch a0 a1 s) := by
  unfold countFetch
  extract_lets x1 x2 x3 x4
  have h5 : Kept p x1 := (State.bump48_kept h)
  have h6 : Kept p x3 := (State.setSt_kept h5)
  have h7 : Kept p x4 := (State.setSt_kept h6)
  exact (kept_ite h5 (kept_ite (State.setSt_kept h5) (State.setSt_kept (State.setSt_kept (State.setSt_kept h7)))))

theorem transient_kept {a0 : Nat} {a1 : Nat} (h : Kept p s) :
    Kept p (transient a0 a1 s) := by
  unfold transient
  extract_lets x1 x2
  have h3 : Kept p x1 := (scruple_kept (State.bump_kept h))
  have h4 : Kept p x2 := (raise_kept h3)
  exact (kept_ite (wearTest_kept (State.bump_kept h4)) h4)

theorem persistent_kept {a0 : Nat} {a1 : Nat} (h : Kept p s) :
    Kept p (persistent a0 a1 s) := by
  unfold persistent
  extract_lets x1
  have h2 : Kept p x1 := (raise_kept (State.bump_kept h))
  exact (kept_ite (wearTest_kept (State.bump_kept h2)) h2)

theorem peckSkipState_kept {a0 : Nat} (h : Kept p s) :
    Kept p (peckSkipState a0 s) := by
  unfold peckSkipState
  exact (State.bump_kept h)

theorem peckSkipHeld_kept {a0 : Nat} (h : Kept p s) :
    Kept p (peckSkipHeld a0 s) := by
  unfold peckSkipHeld
  exact (State.bump_kept h)

theorem peckChecked_kept {a0 : Nat} {a1 : Bool} {a2 : Bool} (h : Kept p s) :
    Kept p (peckChecked a0 a1 a2 s) := by
  unfold peckChecked
  extract_lets x1 x2
  have h3 : Kept p x1 := (State.bump_kept h)
  have h4 : Kept p x2 := (kept_ite (State.bump_kept h3) h3)
  exact (kept_ite (State.bump_kept h4) h4)

theorem peckPoisoned_kept {a0 : Nat} {a1 : Nat} {a2 : Nat} (h : Kept p s) :
    Kept p (peckPoisoned a0 a1 a2 s) := by
  unfold peckPoisoned
  extract_lets x1
  have h2 : Kept p x1 := (State.bump_kept (State.bump_kept h))
  exact (kept_ite h2 (State.setSt_kept (State.setSt_kept (State.setSt_kept h2))))

theorem scrubDone_kept {a0 : Nat} (h : Kept p s) :
    Kept p (scrubDone a0 s) := by
  unfold scrubDone
  exact (State.onQuad_kept h)


-- Broker

theorem post_kept {a0 : GapKind} {a1 : Scope} {a2 : Work} {a3 a4 a6 : Nat} (h : Kept p s) :
    Kept p (post a0 a1 a2 a3 a4 s a6).2 := kept_mk h

theorem postBooking_kept {a0 : GapKind} {a1 : Scope} {a2 : Work} {a3 : Nat} {a4 : Nat} (h : Kept p s) :
    Kept p (postBooking a0 a1 a2 a3 a4 s) := by
  unfold postBooking
  exact (post_kept h)

theorem State.unpost_kept {a1 : Booking → Bool} (h : Kept p s) :
    Kept p (State.unpost s a1) := by
  unfold State.unpost
  extract_lets x1
  exact (kept_mk h)


-- Lines

theorem toSwap_kept (h : Kept p s) :
    Kept p (toSwap s) := by
  unfold toSwap
  split
  · exact h
  · exact (postBooking_kept (State.onEvac_kept h))

theorem migrated_kept {a0 : Nat} (h : Kept p s) :
    Kept p (migrated a0 s) := by
  unfold migrated
  split
  · exact h
  · extract_lets x1 x2 x3
    have h4 : Kept p x2 := (State.setSt_kept h)
    have h5 : Kept p x3 := (State.onEvac_kept h4)
    exact (kept_ite (toSwap_kept h5) h5)

theorem rekeyed_kept {a0 : Nat} {a1 : Nat} (h : Kept p s) :
    Kept p (rekeyed a0 a1 s) := by
  unfold rekeyed
  extract_lets x1 x2
  exact (State.setSt_kept (State.onChan_kept h))

theorem finishOp_kept {a0 : Nat} {a1 : Op} (h : Kept p s) :
    Kept p (finishOp a0 a1 s) := by
  unfold finishOp
  extract_lets x1
  have h2 : Kept p x1 := (State.dropOp_kept h)
  split
  · exact (scrubDone_kept h2)
  · exact (migrated_kept h2)
  · exact (rekeyed_kept h2)
  · exact h2

theorem finishRead_kept {a0 : Nat} {a1 : Op} {a2 : Outcome} {a3 : Line} (h : Kept p s) :
    Kept p (finishRead a0 a1 a2 a3 s) := by
  unfold finishRead
  exact (finishOp_kept (answerOp_kept h))

theorem mirror_kept {a0 : Nat} {a1 : Nat} {a2 : Op} {a3 : Line} {a4 : Entry} {a5 : Bool} (h : Kept p s) :
    Kept p (mirror a0 a1 a2 a3 a4 a5 s) := by
  unfold mirror
  extract_lets x1
  exact (State.onOp_kept (State.onChan_kept h))

theorem mirrorDone_kept {a0 : Nat} {a1 : Nat} (h : Kept p s) :
    Kept p (mirrorDone a0 a1 s) := by
  unfold mirrorDone
  split
  · exact h
  · split
    · exact h
    · exact (kept_ite h (kept_ite (finishOp_kept h) (State.onOp_kept h)))

theorem handMirror_kept {a0 : Nat} (h : Kept p s) :
    Kept p (handMirror a0 s) := by
  unfold handMirror
  split
  · exact h
  · exact (kept_ite h (addPerch_kept (State.onChan_kept h)))

theorem dropMirrors_kept {a0 : Nat} (h : Kept p s) :
    Kept p (dropMirrors a0 s) := by
  unfold dropMirrors
  extract_lets x1
  exact (State.onChan_kept h)

theorem entryChange_kept {a0 : Nat} {a1 : Op} {a2 : Entry} (h : Kept p s) :
    Kept p (entryChange a0 a1 a2 s) := by
  unfold entryChange
  extract_lets x1
  have h2 : Kept p x1 := (State.unpin_kept (updateEntry_kept h))
  split
  · exact (State.onOp_kept (mirror_kept h2))
  · exact (finishOp_kept h2)

theorem answerBehind_kept {a0 : Nat} {a1 : Nat} {a2 : Outcome} {a3 : Line} (h : Kept p s) :
    Kept p (answerBehind a0 a1 a2 a3 s) := by
  unfold answerBehind
  exact (kept_foldl (fun _ _ h1 => (kept_ite (finishRead_kept h1) h1)) h)

theorem fetchBehind_kept {a0 : Nat} {a1 : Nat} (h : Kept p s) :
    Kept p (fetchBehind a0 a1 s) := by
  unfold fetchBehind
  extract_lets x1
  exact (State.onChan_kept h)

theorem discardGill_kept {a0 : Nat} {a1 : Op} {a2 : Outcome} {a3 : LineState} (h : Kept p s) :
    Kept p (discardGill a0 a1 a2 a3 s) := by
  unfold discardGill
  extract_lets x1 x2
  have h3 : Kept p x1 := (State.bump_kept (completeWrites_kept h))
  have h4 : Kept p x2 := by
    unfold x2
    split
    · exact (State.freeGillAt_kept h3)
    · exact h3
  exact (answerBehind_kept (State.dropOp_kept (State.dropWrites_kept h4)))

theorem salvageGill_kept {a0 : Nat} {a1 : Op} (h : Kept p s) :
    Kept p (salvageGill a0 a1 s) := by
  unfold salvageGill
  extract_lets x1 x2
  have h3 : Kept p x1 := (State.bump_kept (completeWrites_kept h))
  have h4 : Kept p x2 := by
    unfold x2
    split
    · exact (State.freeGillAt_kept h3)
    · exact h3
  exact (fetchBehind_kept (State.dropOp_kept (State.dropWrites_kept h4)))

theorem mergeGill_kept {a0 : Nat} {a1 : Op} {a2 : Line} {a3 : Bool} (h : Kept p s) :
    Kept p (mergeGill a0 a1 a2 a3 s) := by
  unfold mergeGill
  split
  · exact (State.dropOp_kept h)
  · split
    · exact (State.dropOp_kept h)
    · extract_lets x1 x2 x3 x4
      have h5 : Kept p x2 := (State.onChan_kept h)
      have h6 : Kept p x3 := (completeWrites_kept h5)
      have h7 : Kept p x4 := (State.onOp_kept h6)
      exact (answerBehind_kept (State.dropOp_kept h7))

theorem serve_kept {a0 : Nat} {a1 : Nat} {a2 : Option Nat} {a3 : Entry} (h : Kept p s) :
    Kept p (serve a0 a1 a2 a3 s) := by
  unfold serve
  split
  · exact h
  · extract_lets x1 x2 x3 x4
    have h5 : Kept p x3 := (State.onOp_kept h)
    split
    · exact (kept_ite (finishRead_kept h5) h5)
    · exact (kept_ite (discardGill_kept h5) h5)
    · exact (kept_ite (finishOp_kept (peckSkipState_kept h5)) h5)
    · apply kept_ite
      · split
        · exact (State.onOp_kept (mirror_kept h5))
        · exact (finishOp_kept h5)
      · exact h5
    · exact (kept_ite (finishOp_kept h5) (kept_ite (entryChange_kept h5) h5))
    · exact (kept_ite (mirrorDone_kept (State.dropOp_kept (updateEntry_kept h5))) h5)
    · exact h5

theorem serveWaiting_kept {a0 : Nat} {a1 : Nat} {a2 : Option Nat} {a3 : Line} (h : Kept p s) :
    Kept p (serveWaiting a0 a1 a2 a3 s) := by
  unfold serveWaiting
  exact (kept_foldl (fun _ _ h1 => (kept_foldl (fun _ _ h2 => (kept_ite (serve_kept h2) h2)) h1)) h)

theorem requeueWaiting_kept {a0 : Nat} {a1 : Nat} (h : Kept p s) :
    Kept p (requeueWaiting a0 a1 s) := by
  unfold requeueWaiting
  extract_lets x1
  exact (kept_foldl (fun _ _ h2 => (State.onChan_kept h2)) h)

theorem bypassAccess_kept {a0 : Nat} {a1 : Op} (h : Kept p s) :
    Kept p (bypassAccess a0 a1 s) := by
  unfold bypassAccess
  extract_lets x1 x2
  exact (State.onLane_kept (State.addFill_kept h))

theorem takeWay_kept {a1 a2 a3 : Nat} {a4 : WaySt} {a5 : Bool} {a6 : Line} {w : Nat} {wb : Option (Nat × Nat)} {t : State}
    (h : Kept p s) (e : s.takeWay a1 a2 a3 a4 a5 a6 = some (w, wb, t)) : Kept p t := by
  unfold State.takeWay at e
  obtain ⟨⟨v, o⟩, -, e⟩ := Option.map_eq_some_iff.1 e
  injection e with e1 e2
  injection e2 with e2 e3
  subst e3
  apply State.onWay_kept
  cases o with
  | none => exact kept_ite (State.writeback_kept h) h
  | some r => exact State.onQuad_kept (kept_ite (State.writeback_kept h) h)

theorem createLine_kept {a0 a1 : Nat} {t : State} (h : Kept p s) (e : createLine a0 a1 s = some t) : Kept p t := by
  unfold createLine at e
  dsimp only at e
  split at e
  · cases e
  · split at e
    · injection e with e
      exact e ▸ State.noteCreated_kept (State.writeback_kept h)
    · obtain ⟨⟨w, wb, u⟩, hu, e⟩ := Option.map_eq_some_iff.1 e
      exact e ▸ State.noteCreated_kept (takeWay_kept h hu)

theorem missFill_kept {a0 : Nat} {a1 : Op} (h : Kept p s) : Kept p (missFill a0 a1 s) := by
  unfold missFill
  extract_lets x1 x2
  split
  · rename_i heq
    exact State.onLane_kept (State.onOp_kept (State.addFill_kept (takeWay_kept h heq)))
  · exact State.onLane_kept h

theorem lookupPresent_kept {a0 : Nat} {a1 : Op} (h : Kept p s) :
    Kept p (lookupPresent a0 a1 s) := by
  unfold lookupPresent
  extract_lets x1 x2
  split
  · extract_lets x3
    split
    · exact (serve_kept h)
    · exact (serve_kept h)
    · exact (State.onOp_kept h)
    · exact (State.onOp_kept h)
    · exact (bypassAccess_kept (State.bump_kept h))
  · exact (kept_ite (bypassAccess_kept h) (missFill_kept (State.note_kept (State.bump_kept h))))

theorem lookupAbsent_kept {a0 : Nat} {a1 : Op} (h : Kept p s) :
    Kept p (lookupAbsent a0 a1 s) := by
  unfold lookupAbsent
  split
  · exact (finishRead_kept h)
  · exact (finishOp_kept (peckSkipState_kept h))
  · exact (finishOp_kept h)
  · exact (serve_kept h)
  · split
    · exact h
    · rename_i heq
      have h1 := createLine_kept h heq
      exact (lookupPresent_kept (kept_ite (completeWrites_kept h1) h1))

theorem lookupOp_kept {a0 : Nat} {a1 : Op} (h : Kept p s) :
    Kept p (lookupOp a0 a1 s) := by
  unfold lookupOp
  exact (kept_ite (lookupPresent_kept (kept_ite (completeWrites_kept h) h)) (lookupAbsent_kept h))

theorem laneStep_kept {a0 : Nat} {a1 : Nat} (h : Kept p s) :
    Kept p (laneStep a0 a1 s) := by
  unfold laneStep
  extract_lets x1 x2 x3
  have h4 : Kept p x2 := (State.onLane_kept h)
  apply kept_ite
  · exact h
  · split
    · split
      · exact (kept_ite (lookupPresent_kept (State.onLane_kept h4)) (missFill_kept h4))
      · exact (State.onLane_kept h4)
    · split
      · exact (lookupOp_kept (State.onLane_kept h4))
      · exact h4

theorem preloadTest_kept {a0 a1 : Nat} (h : Kept p s) : Kept p (preloadTest a0 a1 s) := by
  unfold preloadTest
  extract_lets x1 x2 x3
  refine kept_ite h (kept_ite (State.bump_kept h) ?_)
  split
  · exact State.bump_kept h
  · rename_i heq
    exact State.onLane_kept (State.addFill_kept (takeWay_kept h heq))

theorem fillOver_kept {a0 : Nat} {a1 : Op} (h : Kept p s) :
    Kept p (fillOver a0 a1 s) := by
  unfold fillOver
  exact (State.onLane_kept h)

theorem startRecompute_kept {a0 : Nat} {a1 : Op} (h : Kept p s) :
    Kept p (startRecompute a0 a1 s) := by
  unfold startRecompute
  extract_lets x1 x2 x3 x4 x5 x6
  have h7 : Kept p x3 := (fillOver_kept h)
  have h8 : Kept p x4 := by
    unfold x4
    split
    · exact (State.onOp_kept h7)
    · exact (State.onOp_kept (State.dropOp_kept h7))
    · exact (State.onWay_kept (State.dropOp_kept h7))
    · exact (State.dropOp_kept h7)
  have h9 : Kept p x6 := (State.onQuad_kept h8)
  refine kept_foldl (fun _ _ h11 => ?_) ?_
  · extract_lets x12 x13
    exact (State.addRecompute_kept h11)
  · exact h9

theorem install_kept {a0 : Nat} {a1 : Op} {a2 : Line} (h : Kept p s) :
    Kept p (install a0 a1 a2 s) := by
  unfold install
  extract_lets x1 x2 x3
  have h4 : Kept p x2 := (fillOver_kept h)
  split
  · exact (State.note_kept (State.onOp_kept h4))
  · split
    · exact (serve_kept (State.dropOp_kept h4))
    · exact (State.dropOp_kept h4)
  · extract_lets x5 x6
    have h7 : Kept p x6 := (State.onWay_kept (State.dropOp_kept h4))
    exact (serveWaiting_kept h7)
  · exact (State.dropOp_kept h4)

theorem fillReturn_kept {a0 : Nat} {a1 : Op} {a2 : Line} (h : Kept p s) :
    Kept p (fillReturn a0 a1 a2 s) := by
  unfold fillReturn
  extract_lets x1 x2 x3
  have h4 : Kept p x2 := (kept_ite (raise_kept (State.bump_kept h)) h)
  have h5 : Kept p x3 := (fillOver_kept (State.dropOp_kept h))
  apply kept_ite
  · exact (install_kept h4)
  · apply kept_ite
    · split
      · exact (requeueWaiting_kept (State.bump_kept (State.onWay_kept h5)))
      · exact h5
    · exact (kept_ite (State.onOp_kept h) (startRecompute_kept h))

theorem State.writebackFirst_kept {a1 : Nat} {a2 : Nat} {a3 : Line} (h : Kept p s) :
    Kept p (State.writebackFirst s a1 a2 a3) := by
  unfold State.writebackFirst
  extract_lets x1 x2 x3 x4
  have h5 : Kept p x4 := (State.note_kept h)
  split
  · exact (State.insertOp_kept h5)
  · exact (State.addOp_kept h5)

theorem rebuilt_kept {a0 : Nat} {a1 : Rebuild} (h : Kept p s) :
    Kept p (rebuilt a0 a1 s) := by
  unfold rebuilt
  extract_lets x1 x2 x3 x4 x5 x6
  have h7 : Kept p x1 := (raise_kept (State.bump_kept h))
  have h8 : Kept p x2 := (State.onQuad_kept h7)
  have h9 : Kept p x3 := (State.onWay_kept h8)
  have h10 : Kept p x6 := (kept_foldl (fun _ _ h11 => (State.dropOp_kept h11)) h8)
  exact (kept_ite (serveWaiting_kept h9) (serveWaiting_kept (State.writebackFirst_kept h10)))

theorem goodLine_kept {a0 : Nat} {a1 : Op} {a2 : Line} {a3 : Line} {a4 : Bool} {a5 : Bool} {a6 : Bool} {a7 : Bool} (h : Kept p s) :
    Kept p (goodLine a0 a1 a2 a3 a4 a5 a6 a7 s) := by
  unfold goodLine
  split
  · exact (finishRead_kept h)
  · exact (mergeGill_kept h)
  · extract_lets x1
    have h2 : Kept p x1 := (peckChecked_kept h)
    exact (finishOp_kept (kept_ite h2 (updateEntry_kept h2)))
  · split
    · exact (State.onOp_kept (mirror_kept h))
    · exact (finishOp_kept h)
  · exact (kept_ite (State.onOp_kept h) (finishOp_kept h))
  · exact (finishOp_kept h)

theorem badLine_kept {a0 : Nat} {a1 : Op} (h : Kept p s) :
    Kept p (badLine a0 a1 s) := by
  unfold badLine
  extract_lets x1 x2 x3 x4
  have h5 : Kept p x2 := (countFetch_kept (persistent_kept h))
  have h6 : Kept p x3 := (State.unpin_kept (updateEntry_kept h5))
  split
  · exact (finishRead_kept h6)
  · exact (discardGill_kept h6)
  · exact (finishOp_kept (peckPoisoned_kept h6))
  · split
    · exact (State.onOp_kept (mirror_kept h6))
    · exact (finishOp_kept h6)
  · exact (finishOp_kept h6)

theorem refetch_kept {a0 : Nat} {a1 : Nat} (h : Kept p s) :
    Kept p (refetch a0 a1 s) := by
  unfold refetch
  extract_lets x1
  exact (State.onOp_kept h)

theorem checkLine_kept {a0 : Nat} {a1 : Op} {a2 : Line} (h : Kept p s) :
    Kept p (checkLine a0 a1 a2 s) := by
  unfold checkLine
  extract_lets x1 x2 x3 x4
  have h5 : Kept p x3 := (countFetch_kept h)
  have h6 : Kept p x4 := (State.bump_kept h5)
  exact (kept_ite (kept_ite (salvageGill_kept h6) (goodLine_kept h6)) (kept_ite (goodLine_kept (countFetch_kept (kept_ite (transient_kept h) h))) (kept_ite (refetch_kept (State.onOp_kept h)) (kept_ite (State.onOp_kept h) (badLine_kept h)))))

theorem recomputeRead_kept {a0 : Nat} {a1 : Nat} {a2 : Op} {a3 : Line} (h : Kept p s) :
    Kept p (recomputeRead a0 a1 a2 a3 s) := by
  unfold recomputeRead
  extract_lets x1 x2 x3 x4
  have h5 : Kept p x4 := (State.onQuad_kept h)
  exact (State.dropOp_kept h5)


-- Engine

theorem bookStep_kept {a0 : Nat} {a1 : Nat} {a2 : Nat} (h : Kept p s) :
    Kept p (bookStep a0 a1 a2 s) := by
  unfold bookStep
  exact (State.onCal_kept h)

theorem zqDue_kept {a0 : Nat} {a1 : Nat} (h : Kept p s) :
    Kept p (zqDue a0 a1 s) := by
  unfold zqDue
  exact (bookStep_kept (kept_ite h (State.onCal_kept h)))

theorem cancelLatch_kept {a0 : Nat} {a1 : Nat} (h : Kept p s) :
    Kept p (cancelLatch a0 a1 s) := by
  unfold cancelLatch
  exact (State.onCal_kept (State.onRank_kept h))

theorem State.takeSlot_kept {a1 : Nat} {a2 : Nat} (h : Kept p s) :
    Kept p (State.takeSlot s a1 a2) := by
  unfold State.takeSlot
  exact (State.onChan_kept h)

theorem State.onBank_kept {a1 : Nat} {a2 : Nat} {a3 : Nat} {a4 : Bank → Bank} (h : Kept p s) :
    Kept p (State.onBank s a1 a2 a3 a4) := by
  unfold State.onBank
  exact (State.onRank_kept h)

theorem raiseRaa_kept {a0 : Nat} {a1 : Nat} {a2 : Nat} (h : Kept p s) :
    Kept p (raiseRaa a0 a1 a2 s) := by
  unfold raiseRaa
  extract_lets x1 x2
  have h3 : Kept p x1 := (State.onBank_kept h)
  exact (kept_ite (kept_ite (State.setSt_kept h3) h3) h)

theorem lowerRaa_kept {a0 : Nat} {a1 : Nat} {a2 : Nat} {a3 : List Nat} (h : Kept p s) :
    Kept p (lowerRaa a0 a1 a2 a3 s) := by
  unfold lowerRaa
  exact (kept_ite (kept_foldl (fun _ _ h1 => (State.onBank_kept h1)) h) h)

theorem issueAct_kept {a0 : Nat} {a1 : Place} {a2 : Nat} (h : Kept p s) :
    Kept p (issueAct a0 a1 a2 s) := by
  unfold issueAct
  extract_lets x1
  have h2 : Kept p x1 := (State.onRank_kept h)
  exact (State.note_kept (State.takeSlot_kept (raiseRaa_kept h2)))

theorem hitBank_kept {a0 : Nat} {a1 : Op} {a2 : Bool} (h : Kept p s) :
    Kept p (hitBank a0 a1 a2 s) := by
  unfold hitBank
  extract_lets x1 x2 x3 x4 x5 x6 x7
  have h8 : Kept p x4 := (State.onBank_kept h)
  have h9 : Kept p x6 := (State.onChan_kept h8)
  have h10 : Kept p x7 := (kept_ite (State.note_kept h9) h9)
  exact (State.note_kept (State.takeSlot_kept h10))

theorem autoPrecharge_kept {a0 : Nat} {a1 : Op} {a2 : Bool} (h : Kept p s) :
    Kept p (autoPrecharge a0 a1 a2 s) := by
  unfold autoPrecharge
  extract_lets x1 x2 x3 x4
  exact (kept_ite (State.note_kept (State.onBank_kept h)) h)

theorem issueRd_kept {a0 : Nat} {a1 : Nat} (h : Kept p s) :
    Kept p (issueRd a0 a1 s) := by
  unfold issueRd
  split
  · exact h
  · extract_lets x1 x2 x3 x4 x5
    have h6 : Kept p x1 := (kept_ite (State.note_kept h) h)
    have h7 : Kept p x2 := (hitBank_kept h6)
    have h8 : Kept p x5 := (State.onOp_kept h7)
    exact (kept_ite (autoPrecharge_kept h8) h8)

theorem sealWrite_kept {a0 : Nat} {a1 : Op} (h : Kept p s) :
    Kept p (sealWrite a0 a1 s) := by
  unfold sealWrite
  apply kept_ite
  · exact h
  · split
    · extract_lets x1 x2
      exact (State.onOp_kept h)
    · extract_lets x3
      exact (State.onOp_kept h)
    · exact h

theorem written_kept {a0 : Nat} {a1 : Op} (h : Kept p s) :
    Kept p (written a0 a1 s) := by
  unfold written
  extract_lets x1 x2
  have h3 : Kept p x2 := (State.onOp_kept (updateEntry_kept h))
  split
  · apply kept_ite
    · exact h
    · split
      · exact (mirror_kept h3)
      · exact h3
  · apply kept_ite
    · exact h
    · split
      · exact (mirror_kept h3)
      · exact h3
  · exact (kept_ite (State.onOp_kept (updateEntry_kept h)) h)
  · exact h

theorem issueWr_kept {a0 : Nat} {a1 : Nat} (h : Kept p s) :
    Kept p (issueWr a0 a1 s) := by
  unfold issueWr
  split
  · exact h
  · extract_lets x1 x2 x3 x4 x5 x6
    have h7 : Kept p x1 := (kept_ite (sealWrite_kept h) h)
    have h8 : Kept p x3 := (hitBank_kept h7)
    have h9 : Kept p x4 := (State.setBurst_kept h8)
    have h10 : Kept p x6 := (State.onOp_kept h9)
    exact (kept_ite (written_kept (autoPrecharge_kept h10)) h10)

theorem issuePre_kept {a0 : Nat} {a1 : Nat} {a2 : Nat} (h : Kept p s) :
    Kept p (issuePre a0 a1 a2 s) := by
  unfold issuePre
  exact (State.note_kept (State.takeSlot_kept (State.onBank_kept h)))

theorem countRefresh_kept {a0 : Nat} {a1 : Nat} {a2 : Bool} {a3 : Bool} (h : Kept p s) :
    Kept p (countRefresh a0 a1 a2 a3 s) := by
  unfold countRefresh
  extract_lets x1 x2 x3 x4
  have h5 : Kept p x1 := (kept_ite (State.bump_kept h) (kept_ite (State.bump_kept h) h))
  have h6 : Kept p x2 := (kept_ite h5 (State.note_kept h5))
  have h7 : Kept p x3 := (kept_ite (bookStep_kept (State.bump_kept (State.onCal_kept h6))) h6)
  have h8 : Kept p x4 := (State.onRank_kept h7)
  exact (State.note_kept (State.takeSlot_kept h8))

theorem issueRefpb_kept {a0 : Nat} {a1 : Nat} {a2 : Nat} {a3 : Bool} (h : Kept p s) :
    Kept p (issueRefpb a0 a1 a2 a3 s) := by
  unfold issueRefpb
  extract_lets x1 x2 x3 x4
  have h5 : Kept p x2 := (countRefresh_kept h)
  have h6 : Kept p x3 := (kept_foldl (fun _ _ h7 => (State.onBank_kept h7)) h5)
  have h8 : Kept p x4 := (State.onRank_kept h6)
  exact (lowerRaa_kept h8)

theorem issueRefab_kept {a0 : Nat} {a1 : Nat} {a2 : Bool} (h : Kept p s) :
    Kept p (issueRefab a0 a1 a2 s) := by
  unfold issueRefab
  extract_lets x1 x2
  have h3 : Kept p x1 := (countRefresh_kept h)
  have h4 : Kept p x2 := (State.onRank_kept h3)
  exact (lowerRaa_kept h4)

theorem issueRfm_kept {a0 : Nat} {a1 : Nat} {a2 : Nat} (h : Kept p s) :
    Kept p (issueRfm a0 a1 a2 s) := by
  unfold issueRfm
  extract_lets x1
  have h2 : Kept p x1 := (State.onBank_kept (State.bump_kept h))
  exact (State.takeSlot_kept (lowerRaa_kept h2))

theorem startOsc_kept {a0 : Nat} (h : Kept p s) :
    Kept p (startOsc a0 s) := by
  unfold startOsc
  split
  · exact (State.takeSlot_kept (State.onCal_kept h))
  · exact h

theorem recovered_kept {a0 : Nat} {a1 : Op} (h : Kept p s) :
    Kept p (recovered a0 a1 s) := by
  unfold recovered
  split
  · exact (State.dropWrites_kept h)
  · exact (mirrorDone_kept (State.dropOp_kept h))
  · exact (kept_ite (clearedLine_kept (State.dropOp_kept h)) (State.dropOp_kept h))
  · exact (finishOp_kept h)

theorem toWriteQueue_kept {a0 : Nat} {a1 : Nat} {a2 : Gill} {a3 : Op} (h : Kept p s) :
    Kept p (toWriteQueue a0 a1 a2 a3 s) := by
  unfold toWriteQueue
  extract_lets x1 x2
  have h3 : Kept p x1 := (kept_ite h (State.bump_kept h))
  exact (State.freeGillAt_kept (State.onChan_kept h3))


-- Intake

theorem popHead_kept {a0 : Nat} {a1 : Nat} (h : Kept p s) :
    Kept p (popHead a0 a1 s) := by
  unfold popHead
  exact (State.onChan_kept h)

theorem grant_kept {a0 : Nat} {a1 : PerchLine} {a2 : Bool} (h : Kept p s) :
    Kept p (grant a0 a1 a2 s) := by
  unfold grant
  extract_lets x1 x2 x3 x4 x5 x6
  have h7 : Kept p x3 := (popHead_kept h)
  have h8 : Kept p x4 := (State.onChan_kept h7)
  have h9 : Kept p x5 := (State.bump_kept h8)
  exact (kept_ite (State.setSt_kept h9) h9)

theorem promote_kept {a0 : Nat} (h : Kept p s) :
    Kept p (promote a0 s) := by
  unfold promote
  exact (State.onChan_kept h)

theorem endHold_kept {a0 : Nat} (h : Kept p s) :
    Kept p (endHold a0 s) := by
  unfold endHold
  exact (State.onChan_kept h)

theorem takeHold_kept {a0 : Nat} {a1 : Nat} (h : Kept p s) :
    Kept p (takeHold a0 a1 s) := by
  unfold takeHold
  exact (kept_ite (State.onChan_kept h) h)

theorem decide__kept {a0 : Nat} (h : Kept p s) :
    Kept p (decide_ a0 s) := by
  unfold decide_
  extract_lets x1 x2 x3 x4
  have h5 : ∀ y0 y1, Kept p y1 → Kept p (x3 y0 y1) := by
    intro y0 y1 h5_1
    unfold x3
    exact (takeHold_kept (grant_kept h5_1))
  have h6 : ∀ y0, Kept p y0 → Kept p (x4 y0) := by
    intro y0 h6_0
    unfold x4
    split
    · exact (h5 _ _ h6_0)
    · exact h6_0
  split
  · exact (h6 _ h)
  · split
    · exact (grant_kept (endHold_kept h))
    · split
      · exact (kept_ite (grant_kept h) h)
      · exact (h6 _ (endHold_kept h))

theorem decided_kept {a0 : Nat} (h : Kept p s) :
    Kept p (decided a0 s) := by
  unfold decided
  exact (kept_ite h (State.onChan_kept h))

theorem turnAway_kept {a0 a1 a2 : Nat} (h : Kept p s) : Kept p (turnAway a0 a1 a2 s) := by
  induction a0 generalizing s with
  | zero => exact h
  | succ n ih =>
    unfold turnAway
    split
    · exact h
    · split
      · exact ih (popHead_kept (answer_kept h))
      · exact h

theorem turnAwayAll_kept {a0 : Nat} (h : Kept p s) :
    Kept p (turnAwayAll a0 s) := by
  unfold turnAwayAll
  exact (kept_foldl (fun _ _ h1 => (turnAway_kept h1)) h)

theorem pressEviction_kept {a0 : Nat} (h : Kept p s) :
    Kept p (pressEviction a0 s) := by
  unfold pressEviction
  extract_lets x1 x2 x3 x4
  apply kept_ite
  · clear_value x4
    split
    · exact (State.onChan_kept h)
    · exact h
  · exact h

theorem wholeDone_kept {a0 : Nat} {a1 : Nat} {a2 : Nat} (h : Kept p s) :
    Kept p (wholeDone a0 a1 a2 s) := by
  unfold wholeDone
  apply kept_ite
  · exact (completeWrites_kept h)
  · split
    · rename_i heq
      have h1 := createLine_kept h heq
      exact (completeWrites_kept h1)
    · exact h

theorem readAhead_kept {a0 : Nat} {a1 : Nat} (h : Kept p s) :
    Kept p (readAhead a0 a1 s) := by
  unfold readAhead
  extract_lets x1
  exact (State.onChan_kept h)

theorem flushLine_kept {a0 : Nat} {a1 : Nat} {a2 : PerchLine} (h : Kept p s) :
    Kept p (flushLine a0 a1 a2 s) := by
  unfold flushLine
  exact (kept_ite (State.onChan_kept h) h)

theorem admitWrite_kept {a0 : Nat} {a1 : PerchLine} (h : Kept p s) :
    Kept p (admitWrite a0 a1 s) := by
  unfold admitWrite
  extract_lets x1 x2 x3 x4 x5
  apply kept_ite
  · exact (answer_kept h)
  · clear_value x3
    split
    · extract_lets x6 x7 x8
      have h9 : Kept p x7 := (State.onChan_kept h)
      have h10 : Kept p x8 := (State.addOp_kept h9)
      exact (kept_ite (wholeDone_kept (readAhead_kept h10)) (flushLine_kept h10))
    · split
      · exact h
      · extract_lets x11 x12
        have h13 : Kept p x11 := (State.onChan_kept h)
        have h14 : Kept p x12 := (State.addOp_kept h13)
        exact (kept_ite (wholeDone_kept h14) (flushLine_kept h14))

theorem admitRead_kept {a0 : Nat} {a1 : PerchLine} (h : Kept p s) :
    Kept p (admitRead a0 a1 s) := by
  unfold admitRead
  extract_lets x1 x2 x3
  split
  · split
    · exact (answer_kept h)
    · split
      · extract_lets x4
        have h5 : Kept p x4 := (State.onChan_kept h)
        exact (State.addOp_kept h5)
      · exact (State.addOp_kept h)
  · exact (kept_ite (answer_kept h) (State.addOp_kept h))

theorem admitWalk_kept {a0 : Nat} {a1 : PerchLine} {a2 : OpKind} (h : Kept p s) :
    Kept p (admitWalk a0 a1 a2 s) := by
  unfold admitWalk
  extract_lets x1 x2 x3
  have h4 : Kept p x2 := by
    unfold x2
    split
    · exact (State.onChan_kept h)
    · exact h
  exact (State.addOp_kept h4)

theorem admitScrub_kept {a0 : Nat} {a1 : PerchLine} (h : Kept p s) :
    Kept p (admitScrub a0 a1 s) := by
  unfold admitScrub
  extract_lets x1 x2
  have h3 : Kept p x1 := (State.onQuad_kept h)
  exact (kept_ite (scrubDone_kept (peckSkipHeld_kept h3)) (kept_ite (scrubDone_kept (peckSkipState_kept h3)) (State.addOp_kept h3)))

theorem admitMirror_kept {a0 : Nat} {a1 : PerchLine} (h : Kept p s) :
    Kept p (admitMirror a0 a1 s) := by
  unfold admitMirror
  extract_lets x1 x2 x3
  apply kept_ite
  · exact (State.addOp_kept h)
  · split
    · exact h
    · exact (State.addOp_kept (State.onChan_kept h))

theorem admitScratch_kept {a0 : Nat} {a1 : PerchLine} (h : Kept p s) :
    Kept p (admitScratch a0 a1 s) := by
  unfold admitScratch
  extract_lets x1
  exact (kept_ite (State.addOp_kept h) (State.addOp_kept h))

theorem skidLine_kept (h : Kept p s) :
    Kept p (skidLine s) := by
  unfold skidLine
  split
  · exact h
  · extract_lets x1
    exact (kept_ite (event_kept (kept_mk h)) (kept_mk h))

theorem countLine_kept {a0 : Nat} {a1 : PerchLine} (h : Kept p s) :
    Kept p (countLine a0 a1 s) := by
  unfold countLine
  extract_lets x1 x2 x3
  have h4 : Kept p x1 := (skidLine_kept h)
  have h5 : Kept p x2 := (State.note_kept (State.note_kept (State.note_kept h4)))
  exact (kept_ite (kept_mk h5) h5)

theorem admitLine_kept {a0 : Nat} {a1 : PerchLine} (h : Kept p s) :
    Kept p (admitLine a0 a1 s) := by
  unfold admitLine
  extract_lets x1 x2
  have h3 : Kept p x1 := (countLine_kept h)
  have h4 : Kept p x2 := by
    unfold x2
    split
    · exact (kept_ite (admitWrite_kept h3) (admitRead_kept h3))
    · exact (admitScrub_kept h3)
    · exact (admitWalk_kept h3)
    · exact (admitWalk_kept h3)
    · exact (admitMirror_kept h3)
    · exact (admitScratch_kept h3)
  exact (kept_ite (preloadTest_kept h4) h4)

theorem refuseLine_kept {a0 : Nat} {a1 : PerchLine} {a2 : Outcome} (h : Kept p s) :
    Kept p (refuseLine a0 a1 a2 s) := by
  unfold refuseLine
  extract_lets x1
  have h2 : Kept p x1 := by
    unfold x1
    split
    · exact (State.onChan_kept h)
    · exact h
  exact (answer_kept h2)

end Sys2Proof.Machine
end

