-- ==== Sys2Proof/Laws/KeptSequences.lean ====
section
/-!
SUPPORT. The shared operations of Power.lean, OpPoint.lean, Scrub.lean, Evac.lean, Calib.lean, Maint.lean, Keys.lean keep the queue and the canonical form (`Kept`): one lemma for each.
-/

namespace Sys2Proof.Machine

variable {p : Fixed} {s : State}

-- Power

theorem riseDebt_kept {a0 : Nat} {a1 : Nat} (h : Kept p s) :
    Kept p (riseDebt a0 a1 s) := by
  unfold riseDebt
  extract_lets x1 x2
  have h3 : Kept p x2 := (State.onRank_kept h)
  exact (kept_ite (raise_kept (State.bump_kept h3)) h3)

theorem applyClass_kept {a0 : Nat} {a1 : Nat} {a2 : Nat} (h : Kept p s) :
    Kept p (applyClass a0 a1 a2 s) := by
  unfold applyClass
  extract_lets x1 x2
  have h3 : Kept p x2 := (State.onRank_kept h)
  exact (kept_ite h3 (kept_ite (raise_kept h3) (kept_ite (raise_kept h3) h3)))

theorem applyHeld_kept {a0 : Nat} {a1 : Nat} (h : Kept p s) :
    Kept p (applyHeld a0 a1 s) := by
  unfold applyHeld
  extract_lets x1
  split
  · exact h
  · exact (State.onRank_kept (applyClass_kept h))

theorem readClass_kept {a0 : Nat} {a1 : Nat} {a2 : Nat} (h : Kept p s) :
    Kept p (readClass a0 a1 a2 s) := by
  unfold readClass
  extract_lets x1
  exact (kept_ite (State.onRank_kept h) (kept_ite (State.onRank_kept h) (applyClass_kept h)))

theorem issuePreab_kept {a0 : Nat} {a1 : Nat} (h : Kept p s) :
    Kept p (issuePreab a0 a1 s) := by
  unfold issuePreab
  extract_lets x1
  have h2 : Kept p x1 := (State.onRank_kept h)
  exact (State.note_kept (State.takeSlot_kept h2))

theorem sleepRank_kept {a0 : Nat} {a1 : Nat} {a2 : PowerSt} (h : Kept p s) :
    Kept p (sleepRank a0 a1 a2 s) := by
  unfold sleepRank
  extract_lets x1
  have h2 : Kept p x1 := (State.onRank_kept h)
  exact (State.takeSlot_kept (cancelLatch_kept h2))

theorem exitRank_kept {a0 : Nat} {a1 : Nat} (h : Kept p s) :
    Kept p (exitRank a0 a1 s) := by
  unfold exitRank
  extract_lets x1 x2 x3
  have h4 : Kept p x3 := (State.onRank_kept h)
  exact (State.takeSlot_kept h4)


-- OpPoint

theorem startHandshake_kept {a0 : Nat} (h : Kept p s) :
    Kept p (startHandshake a0 s) := by
  unfold startHandshake
  extract_lets x1 x2
  exact (kept_mk h)

theorem prelock_kept {a0 : Nat} {a1 : Pll → Bool} (h : Kept p s) :
    Kept p (prelock a0 a1 s) := by
  unfold prelock
  exact (kept_foldl (fun _ _ h1 => (kept_ite (kept_foldl (fun _ _ h2 => (startPll_kept h2)) h1) h1)) h)

theorem clearFsp_kept (h : Kept p s) :
    Kept p (clearFsp s) := by
  unfold clearFsp
  exact (kept_foldl (fun _ _ h1 => (State.onRanks_kept h1)) h)

theorem beginPending_kept {a0 : Nat} (h : Kept p s) :
    Kept p (beginPending a0 s) := by
  unfold beginPending
  extract_lets x1 x2
  have h3 : Kept p x2 := (kept_mk h)
  exact (prelock_kept (clearFsp_kept (State.setSt_kept h3)))

theorem retarget_kept {a0 : Nat} (h : Kept p s) :
    Kept p (retarget a0 s) := by
  unfold retarget
  extract_lets x1 x2
  have h3 : Kept p x2 := (dropBookings_kept (kept_mk h))
  exact (prelock_kept (clearFsp_kept (State.setSt_kept h3)))

theorem requestOp_kept {a0 : Nat} (h : Kept p s) :
    Kept p (requestOp a0 s) := by
  unfold requestOp
  extract_lets x1
  exact (kept_ite (kept_mk h) (kept_ite (kept_ite (unprelock_kept (endPending_kept h)) (kept_ite h (retarget_kept h))) (kept_ite (kept_mk h) (kept_ite (beginPending_kept h) (kept_mk h)))))

theorem takeWant_kept (h : Kept p s) :
    Kept p (takeWant s) := by
  unfold takeWant
  apply kept_ite
  · exact h
  · split
    · exact (kept_ite (requestOp_kept h) h)
    · exact h

theorem tryPostOp_kept (h : Kept p s) :
    Kept p (tryPostOp s) := by
  unfold tryPostOp
  extract_lets x1 x2
  apply kept_ite
  · split
    · rename_i heq
      have h3 := congrArg Prod.snd heq ▸ post_kept h
      extract_lets x4
      exact (kept_mk h3)
  · exact h

theorem policy_kept (h : Kept p s) :
    Kept p (policy s) := by
  unfold policy
  apply kept_ite
  · exact h
  · split
    · exact h
    · extract_lets x1 x2 x3
      have h4 : Kept p x3 := (kept_mk h)
      apply kept_ite
      · apply kept_ite
        · split
          · exact (requestOp_kept h4)
          · exact h4
        · exact h4
      · exact (requestOp_kept (kept_mk h))

theorem opFrame_kept (h : Kept p s) :
    Kept p (opFrame s) := by
  unfold opFrame
  extract_lets x1 x2
  have h3 : Kept p x1 := (State.setSt_kept h)
  exact (policy_kept (kept_mk h3))

theorem opStep_kept {a0 : Nat} (h : Kept p s) :
    Kept p (opStep a0 s) := by
  unfold opStep
  extract_lets x1
  exact (kept_mk h)

theorem opStep2_kept (h : Kept p s) :
    Kept p (opStep2 s) := by
  unfold opStep2
  exact (kept_foldl (fun _ _ h1 => (State.onRanks_kept h1)) (opStep_kept h))

theorem opGranted_kept (h : Kept p s) :
    Kept p (opGranted s) := by
  unfold opGranted
  extract_lets x1 x2 x3
  have h4 : Kept p x2 := (kept_mk h)
  exact (kept_ite (startHandshake_kept (opStep_kept h4)) (opStep2_kept h4))

theorem opStep3_kept (h : Kept p s) :
    Kept p (opStep3 s) := by
  unfold opStep3
  exact (kept_foldl (fun _ _ h1 => (State.onRanks_kept h1)) (opStep_kept h))

theorem opStep4_kept (h : Kept p s) :
    Kept p (opStep4 s) := by
  unfold opStep4
  refine kept_foldl (fun _ _ h3 => ?_) ?_
  · refine kept_foldl (fun _ _ h5 => ?_) ?_
    · extract_lets x6 x7
      have h8 : Kept p x7 := (State.onPll_kept h5)
      exact (kept_ite (quadSwitch_kept (State.onPll_kept h8)) h5)
    · exact h3
  · exact (opStep_kept h)

theorem initSet_kept {a0 : Nat} {a1 : Nat} (h : Kept p s) :
    Kept p (initSet a0 a1 s) := by
  unfold initSet
  extract_lets x1 x2 x3
  have h4 : Kept p x3 := (State.onCal_kept h)
  exact (kept_ite h (kept_foldl (fun _ _ h5 => (State.setSt_kept (State.setSt_kept h5))) h4))

theorem restartTracking_kept {a0 : Nat} (h : Kept p s) :
    Kept p (restartTracking a0 s) := by
  unfold restartTracking
  extract_lets x1 x2 x3
  exact (State.onCal_kept h)

theorem opDelays_kept {a0 : Nat} (h : Kept p s) :
    Kept p (opDelays a0 s) := by
  unfold opDelays
  extract_lets x1 x2
  have h3 : Kept p x1 := (cancelLatch_kept (cancelLatch_kept (restartTracking_kept (initSet_kept h))))
  have h4 : Kept p x2 := (State.setSt_kept h3)
  exact (State.unpost_kept h4)

theorem uncount_kept {a0 : Nat} (h : Kept p s) :
    Kept p (uncount a0 s) := by
  unfold uncount
  exact (State.onChan_kept h)

theorem takePoint_kept {a0 : Nat} (h : Kept p s) :
    Kept p (takePoint a0 s) := by
  unfold takePoint
  exact (State.onChan_kept (opDelays_kept h))

theorem tunePlls_kept {a0 : Nat} (h : Kept p s) :
    Kept p (tunePlls a0 s) := by
  unfold tunePlls
  exact (kept_ite (kept_foldl (fun _ _ h1 => (State.onPll_kept h1)) h) h)

theorem opStep5_kept (h : Kept p s) :
    Kept p (opStep5 s) := by
  unfold opStep5
  extract_lets x1 x2 x3
  have h4 : Kept p x2 := (showClkmon_kept (opStep_kept (kept_mk h)))
  have h5 : Kept p x3 := (kept_foldl (fun _ _ h6 => (uncount_kept h6)) (kept_foldl (fun _ _ h7 => (tunePlls_kept h7)) h4))
  exact (kept_foldl (fun _ _ h8 => (State.onRanks_kept (takePoint_kept h8))) h5)

theorem leftPll_kept {a0 : Nat} {a1 : PllId} (h : Kept p s) :
    Kept p (leftPll a0 a1 s) := by
  unfold leftPll
  extract_lets x1
  exact (kept_ite (startPll_kept h) (kept_ite (startPll_kept h) (kept_ite (State.onPll_kept h) h)))

theorem opComplete_kept (h : Kept p s) :
    Kept p (opComplete s) := by
  unfold opComplete
  extract_lets x1 x2 x3 x4 x5 x6
  have h7 : Kept p x2 := (State.stamp_kept (State.bump_kept h))
  have h8 : Kept p x3 := (kept_foldl (fun _ _ h9 => (kept_foldl (fun _ _ h10 => (leftPll_kept h10)) h9)) h7)
  have h11 : Kept p x4 := (kept_foldl (fun _ _ h12 => (applyHeld_kept h12)) h8)
  have h13 : Kept p x5 := (kept_foldl (fun _ _ h14 => (State.onCal_kept h14)) h11)
  have h15 : Kept p x6 := (restSpares_kept (endPending_kept h13))
  exact (kept_ite (startHandshake_kept (opStep_kept h15)) h15)

theorem settleOp_kept (h : Kept p s) :
    Kept p (settleOp s) := by
  unfold settleOp
  extract_lets x1 x2
  have h3 : Kept p x2 := (kept_mk h)
  exact (kept_ite h (kept_ite (kept_ite (opStep3_kept h) h) (kept_ite (kept_ite (opStep4_kept h) h) (kept_ite (kept_ite (opStep5_kept h) h) (kept_ite (kept_ite (opComplete_kept h) h) (kept_ite (kept_ite (startHandshake_kept h3) h3) (tryPostOp_kept (takeWant_kept h))))))))

theorem dsmStep_kept {a0 : Nat} (h : Kept p s) :
    Kept p (dsmStep a0 s) := by
  unfold dsmStep
  extract_lets x1
  exact (kept_mk h)

theorem settleDsm_kept (h : Kept p s) :
    Kept p (settleDsm s) := by
  unfold settleDsm
  extract_lets x1 x2 x3 x4
  have h5 : Kept p x3 := (kept_foldl (fun _ _ h6 => (State.onChan_kept h6)) h)
  split
  · exact (kept_ite h (kept_foldl (fun _ _ h7 => (State.onChan_kept h7)) (dsmStep_kept h)))
  · exact (kept_ite (kept_foldl (fun _ _ h8 => (flushCache_kept h8)) (dsmStep_kept h)) (kept_foldl (fun _ _ h9 => (State.onChan_kept h9)) h))
  · exact (kept_ite (kept_foldl (fun _ _ h10 => (State.onRanks_kept h10)) (dsmStep_kept h)) h)
  · exact (kept_ite (kept_mk h) h)
  · exact (kept_ite (kept_mk h5) h)
  · exact h

theorem enterDsm_kept (h : Kept p s) :
    Kept p (enterDsm s) := by
  unfold enterDsm
  extract_lets x1
  exact (kept_ite (settleDsm_kept (kept_mk h)) h)

theorem exitDsm_kept (h : Kept p s) :
    Kept p (exitDsm s) := by
  unfold exitDsm
  extract_lets x1
  exact (kept_ite (kept_foldl (fun _ _ h2 => (State.onRanks_kept h2)) (kept_mk h)) h)

theorem writePin_kept {a0 : Bool} {a1 : Nat} (h : Kept p s) :
    Kept p (writePin a0 a1 s) := by
  unfold writePin
  extract_lets x1 x2 x3
  have h4 : Kept p x2 := (State.setCf_kept (State.setCf_kept h))
  apply kept_ite
  · exact (kept_ite (kept_mk h4) h4)
  · split
    · exact (requestOp_kept h4)
    · exact h4


-- Scrub

theorem State.onScrub_kept {a1 : Nat} {a2 : ScrubPass → ScrubPass} (h : Kept p s) :
    Kept p (State.onScrub s a1 a2) := by
  unfold State.onScrub
  exact (State.onQuad_kept h)

theorem dropScrubLines_kept {a0 : Nat} (h : Kept p s) :
    Kept p (dropScrubLines a0 s) := by
  unfold dropScrubLines
  exact (State.onChan_kept h)

theorem clearPeck_kept {a0 : Nat} (h : Kept p s) : Kept p (clearPeck a0 s) :=
  .of h.fixed h.cfg (foldl_set_wf _ _ h.stat) h.caps h.dram

theorem endScrub_kept {a0 : Nat} {a1 : Bool} (h : Kept p s) :
    Kept p (endScrub a0 a1 s) := by
  unfold endScrub
  extract_lets x1 x2 x3
  have h4 : Kept p x1 := (State.stamp_kept h)
  have h5 : Kept p x2 := (State.setSt_kept (State.setSt_kept h4))
  have h6 : Kept p x3 := (State.setSt_kept h5)
  exact (event_kept (State.onScrub_kept h6))

theorem startScrub_kept {a0 : Nat} (h : Kept p s) :
    Kept p (startScrub a0 s) := by
  unfold startScrub
  extract_lets x1 x2 x3 x4 x5 x6 x7 x8 x9
  have h10 : Kept p x4 := (State.stamp_kept (clearPeck_kept h))
  have h11 : Kept p x5 := (State.setSt_kept (State.setSt_kept h10))
  have h12 : Kept p x8 := (State.onScrub_kept h11)
  have h13 : Kept p x9 := (kept_foldl (fun _ _ h14 => (State.setSt_kept h14)) h12)
  exact (kept_ite h (kept_ite (endScrub_kept h13) h13))

theorem abortScrub_kept {a0 : Nat} {a1 : Nat} (h : Kept p s) :
    Kept p (abortScrub a0 a1 s) := by
  unfold abortScrub
  extract_lets x1
  have h2 : Kept p x1 := (State.setSt_kept h)
  apply kept_ite
  · exact h
  · refine kept_foldl (fun _ _ h5 => ?_) ?_
    · extract_lets x6
      exact (State.onScrub_kept (dropScrubLines_kept h5))
    · exact (State.onScrub_kept h2)

theorem scrubRetired_kept {a0 : Nat} (h : Kept p s) :
    Kept p (scrubRetired a0 s) := by
  unfold scrubRetired
  extract_lets x1
  split
  · exact h
  · extract_lets x2 x3 x4
    have h5 : Kept p x4 := (State.setSt_kept (State.bump_kept h))
    exact (kept_ite h (State.onScrub_kept (dropScrubLines_kept h5)))

theorem handMaint_kept {a0 : Nat} (h : Kept p s) :
    Kept p (handMaint a0 s) := by
  unfold handMaint
  extract_lets x1 x2 x3 x4 x5 x6
  have h7 : ∀ y0 y1 y2, Kept p y2 → Kept p (x2 y0 y1 y2) := by
    intro y0 y1 y2 h7_2
    unfold x2
    exact (addPerch_kept h7_2)
  have h8 : ∀ y0, Kept p y0 → Kept p (x3 y0) := by
    intro y0 h8_0
    unfold x3
    split
    · exact h8_0
    · extract_lets x9
      apply kept_ite
      · exact h8_0
      · split
        · exact h8_0
        · extract_lets x10 x11
          have h12 : Kept p x10 := (State.setSt_kept (h7 _ _ _ h8_0))
          have h13 : Kept p x11 := (State.onScrub_kept h12)
          exact (State.onChan_kept h13)
  have h14 : ∀ y0, Kept p y0 → Kept p (x4 y0) := by
    intro y0 h14_0
    unfold x4
    exact (kept_ite (State.onChan_kept (h7 _ _ _ h14_0)) (h8 _ h14_0))
  apply kept_ite
  · exact h
  · split
    · extract_lets x15
      have h16 : Kept p x15 := (State.onEvac_kept (h7 _ _ _ h))
      exact (kept_ite (State.onChan_kept h16) (h14 _ h))
    · exact (h14 _ h)

theorem idlePermit_kept {a0 : Nat} (h : Kept p s) :
    Kept p (idlePermit a0 s) := by
  unfold idlePermit
  exact (kept_foldl (fun _ _ h1 => (kept_ite (State.onChan_kept h1) h1)) h)

theorem bookedPermit_kept {a0 : Nat} {a1 : Duty} {a2 : Nat} (h : Kept p s) :
    Kept p (bookedPermit a0 a1 a2 s) := by
  unfold bookedPermit
  exact (State.onChan_kept h)

theorem endPermit_kept {a0 : Nat} {a1 : Duty} (h : Kept p s) :
    Kept p (endPermit a0 a1 s) := by
  unfold endPermit
  exact (State.onChan_kept h)


-- Evac

theorem replaceInTable_kept {a0 : Nat} {a1 : Nat} (h : Kept p s) :
    Kept p (replaceInTable a0 a1 s) := by
  unfold replaceInTable
  extract_lets x1
  exact (State.setTable_kept h)

theorem retireInTable_kept {a0 : Nat} (h : Kept p s) :
    Kept p (retireInTable a0 s) := by
  unfold retireInTable
  exact (State.setTable_kept h)

theorem retire_kept {a0 : Nat} (h : Kept p s) :
    Kept p (retire a0 s) := by
  unfold retire
  extract_lets x1 x2 x3 x4
  have h5 : Kept p x1 := (scrubRetired_kept h)
  have h6 : Kept p x2 := (State.stamp_kept (State.setSt_kept h5))
  have h7 : Kept p x3 := (State.unpost_kept h6)
  have h8 : Kept p x4 := (State.onCal_kept h7)
  exact (State.onChan_kept (State.onRanks_kept h8))

theorem unGrant_kept {a0 : Nat} (h : Kept p s) :
    Kept p (unGrant a0 s) := by
  unfold unGrant
  exact (State.onChan_kept h)

theorem movePerch_kept {a0 : Nat} {a1 : Nat} (h : Kept p s) :
    Kept p (movePerch a0 a1 s) := by
  unfold movePerch
  extract_lets x1 x2
  have h3 : Kept p x2 := (State.onChan_kept h)
  exact (State.onChan_kept h3)

theorem promoteSpare_kept {a0 : Nat} {a1 : Nat} (h : Kept p s) :
    Kept p (promoteSpare a0 a1 s) := by
  unfold promoteSpare
  extract_lets x1 x2
  have h3 : Kept p x1 := (State.setPartner_kept (State.setPartner_kept h))
  have h4 : Kept p x2 := (State.setSt_kept h3)
  exact (State.onChan_kept h4)

theorem startEvac_kept {a0 : Nat} {a1 : Nat} (h : Kept p s) :
    Kept p (startEvac a0 a1 s) := by
  unfold startEvac
  extract_lets x1 x2 x3 x4 x5
  have h6 : Kept p x1 := (State.setPartner_kept (State.setPartner_kept h))
  have h7 : Kept p x2 := (State.setSt_kept (State.setSt_kept h6))
  have h8 : Kept p x3 := (State.onChan_kept h7)
  have h9 : Kept p x4 := (State.onRanks_kept h8)
  exact (kept_mk h9)

theorem postSwap_kept (h : Kept p s) :
    Kept p (postSwap s) := by
  unfold postSwap
  split
  · exact (kept_ite h (postBooking_kept h))
  · exact h

theorem settleEvac_kept (h : Kept p s) :
    Kept p (settleEvac s) := by
  unfold settleEvac
  split
  · exact (kept_ite (kept_ite (toSwap_kept h) (State.onEvac_kept h)) h)
  · exact h

theorem beginSwap_kept (h : Kept p s) :
    Kept p (beginSwap s) := by
  unfold beginSwap
  split
  · exact (kept_ite (State.onChan_kept (State.onEvac_kept h)) h)
  · exact h

theorem swapChannels_kept {a0 : Nat} {a1 : Nat} (h : Kept p s) :
    Kept p (swapChannels a0 a1 s) := by
  unfold swapChannels
  extract_lets x1 x2 x3 x4 x5 x6
  have h7 : Kept p x1 := (scrubRetired_kept h)
  have h8 : Kept p x3 := (kept_mk h7)
  have h9 : Kept p x4 := (dropCached_kept (movePerch_kept (replaceInTable_kept h8)))
  have h10 : Kept p x5 := (State.setSt_kept (State.setSt_kept h9))
  have h11 : Kept p x6 := (State.setSt_kept (State.setSt_kept h10))
  exact (event_kept (retire_kept (promoteSpare_kept h11)))

theorem abandonEvac_kept (h : Kept p s) :
    Kept p (abandonEvac s) := by
  unfold abandonEvac
  split
  · exact h
  · extract_lets x1 x2 x3 x4 x5
    have h6 : Kept p x2 := (kept_mk h)
    have h7 : Kept p x3 := (State.unpost_kept h6)
    have h8 : Kept p x4 := (State.onChan_kept (State.setPartner_kept (State.setPartner_kept h7)))
    have h9 : Kept p x5 := (dropMirrors_kept h8)
    exact (kept_foldl (fun _ _ h10 => (kept_ite (State.dropOp_kept h10) (kept_ite (finishOp_kept h10) (State.onOp_kept h10)))) h9)

theorem moveNext_kept {a0 : Nat} {a1 : Nat} (h : Kept p s) :
    Kept p (moveNext a0 a1 s) := by
  unfold moveNext
  split
  · extract_lets x1 x2
    have h3 : Kept p x2 := (State.onChan_kept (State.onChan_kept h))
    exact (kept_foldl (fun _ _ h4 => (State.addOp_kept h4)) h3)
  · exact h

theorem loseMoving_kept {a0 : Nat} (h : Kept p s) :
    Kept p (loseMoving a0 s) := by
  unfold loseMoving
  refine kept_foldl (fun _ _ h2 => ?_) ?_
  · exact (kept_ite h2 (answerOp_kept h2))
  · exact (State.onChan_kept h)

theorem abandonOps_kept {a0 : Nat} {a1 : Option Nat} (h : Kept p s) :
    Kept p (abandonOps a0 a1 s) := by
  unfold abandonOps
  extract_lets x1 x2 x3 x4 x5 x6
  have h7 : Kept p x3 := (kept_foldl (fun _ _ h8 => (kept_ite (answerOp_kept h8) h8)) h)
  have h9 : Kept p x6 := (State.onQuad_kept h7)
  exact (State.onChan_kept h9)

theorem hardSpare_kept {a0 : Nat} (h : Kept p s) :
    Kept p (hardSpare a0 s) := by
  unfold hardSpare
  split
  · exact (raise_kept (State.onChan_kept h))
  · extract_lets x1 x2
    have h3 : Kept p x2 := (kept_ite h (State.onRanks_kept h))
    exact (kept_ite (State.onChan_kept h) (State.onChan_kept h3))

theorem hardFailure_kept {a0 : Nat} {a1 : Nat} (h : Kept p s) :
    Kept p (hardFailure a0 a1 s) := by
  unfold hardFailure
  extract_lets x1 x2 x3 x4 x5
  have h6 : Kept p x3 := (State.setSt_kept h)
  have h7 : Kept p x4 := (retire_kept (unGrant_kept h6))
  have h8 : Kept p x5 := (State.onChan_kept h7)
  exact (dropCached_kept (abandonOps_kept h8))

theorem hardReplace_kept {a0 : Nat} {a1 : Nat} (h : Kept p s) :
    Kept p (hardReplace a0 a1 s) := by
  unfold hardReplace
  extract_lets x1 x2 x3 x4 x5 x6 x7 x8
  have h9 : Kept p x3 := (State.unpost_kept h)
  have h10 : Kept p x4 := (kept_ite (kept_mk h9) h)
  have h11 : Kept p x5 := (movePerch_kept (replaceInTable_kept h10))
  have h12 : Kept p x6 := (State.setSt_kept (State.setSt_kept h11))
  have h13 : Kept p x7 := (promoteSpare_kept h12)
  have h14 : Kept p x8 := (State.onChan_kept h13)
  exact (raise_kept (startClearing_kept h14))

theorem settleHard_kept {a0 : Nat} (h : Kept p s) :
    Kept p (settleHard a0 s) := by
  unfold settleHard
  extract_lets x1
  apply kept_ite
  · split
    · exact (kept_ite (moveNext_kept h) (kept_ite (hardSpare_kept h) h))
    · exact (hardSpare_kept (loseMoving_kept h))
  · apply kept_ite
    · split
      · exact (kept_ite (hardReplace_kept h) h)
      · exact h
    · exact h

theorem spareFailed_kept {a0 a1 : Nat} (h : Kept p s) : Kept p (spareFailed a0 a1 s) := by
  unfold spareFailed
  extract_lets x1 x2 x3 x4 x5 x6
  have h8 : Kept p x3 := State.setSt_kept h
  have h9 : Kept p x4 := retire_kept (retireInTable_kept (abandonOps_kept h8))
  have h10 : Kept p x5 := raise_kept (dropCached_kept h9)
  have h11 : Kept p x6 := by
    unfold x6
    clear_value x2
    cases x2 with
    | none => exact h10
    | some c => exact kept_ite (kept_mk h10) (reserveSpare_kept (abandonEvac_kept h10))
  clear_value x6 x1
  cases x1 with
  | none => exact h11
  | some c =>
    have h13 := State.setSt_kept (a1 := CH_WEARSTAT_RESERVED_SP c) (a2 := 0)
      (State.onChan_kept (a1 := c) (a2 := fun x => { x with reserve := none }) h11)
    exact kept_ite (hardSpare_kept h13) (kept_ite (reserveSpare_kept h13) h13)

theorem leaveTest_kept {a0 : Nat} (h : Kept p s) :
    Kept p (leaveTest a0 s) := by
  unfold leaveTest
  extract_lets x1
  exact (kept_ite h (State.onChan_kept (State.setBits_kept h)))

theorem retrainFailed_kept {a0 : Nat} (h : Kept p s) :
    Kept p (retrainFailed a0 s) := by
  unfold retrainFailed
  extract_lets x1
  have h2 : Kept p x1 := (leaveTest_kept h)
  exact (kept_ite (spareFailed_kept h2) (kept_ite (hardFailure_kept h2) h2))

theorem startupReplace_kept {a0 : Nat} (h : Kept p s) :
    Kept p (startupReplace a0 s) := by
  unfold startupReplace
  extract_lets x1
  have h2 : Kept p x1 := (State.setSt_kept h)
  split
  · exact (raise_kept (retire_kept (replaceInTable_kept (State.onChan_kept h2))))
  · exact (raise_kept (retire_kept h2))

theorem startupRetirement_kept (h : Kept p s) :
    Kept p (startupRetirement s) := by
  unfold startupRetirement
  extract_lets x1 x2 x3
  have h4 : Kept p x1 := by
    unfold x1
    refine kept_foldl (fun _ _ h7 => ?_) ?_
    · exact (kept_ite (startupReplace_kept h7) h7)
    · exact h
  have h8 : Kept p x2 := by
    unfold x2
    refine kept_foldl (fun _ _ h11 => ?_) ?_
    · extract_lets x12
      have h13 : Kept p x12 := (State.onChan_kept (State.setSt_kept h11))
      exact (kept_ite (raise_kept (retire_kept (retireInTable_kept h13))) h11)
    · exact h4
  have h14 : Kept p x3 := (kept_foldl (fun _ _ h15 => (kept_ite (State.onChan_kept h15) h15)) h8)
  exact (restSpares_kept (kept_foldl (fun _ _ h16 => (kept_ite (State.onChan_kept h16) h16)) h14))

theorem requestEvac_kept {a0 : Nat} (h : Kept p s) :
    Kept p (requestEvac a0 s) := by
  unfold requestEvac
  extract_lets x1
  have h2 : Kept p x1 := (State.setCf_kept h)
  exact (kept_ite (becomeWearing_kept h2) (State.setBits_kept h2))


-- Calib

theorem State.onBit_kept {a1 : Nat} {a2 : Nat} {a3 : BitCal → BitCal} (h : Kept p s) :
    Kept p (State.onBit s a1 a2 a3) := by
  unfold State.onBit
  exact (State.onCal_kept h)

theorem requestRetrain_kept {a0 : Nat} {a1 : Nat} (h : Kept p s) :
    Kept p (requestRetrain a0 a1 s) := by
  unfold requestRetrain
  extract_lets x1
  exact (kept_ite h (bookStep_kept (State.onCal_kept h)))

theorem limitReached_kept {a0 : Nat} (h : Kept p s) :
    Kept p (limitReached a0 s) := by
  unfold limitReached
  exact (requestRetrain_kept (State.bump_kept h))

theorem stampCal_kept {a0 : Nat} (h : Kept p s) :
    Kept p (stampCal a0 s) := by
  unfold stampCal
  exact (State.stamp_kept h)

theorem stepOverrun_kept {a0 : Nat} (h : Kept p s) :
    Kept p (stepOverrun a0 s) := by
  unfold stepOverrun
  split
  · exact h
  · split
    · exact h
    · extract_lets x1 x2 x3 x4
      exact (kept_ite h (kept_mk h))

theorem stepDone_kept {a0 : Nat} (h : Kept p s) :
    Kept p (stepDone a0 s) := by
  unfold stepDone
  extract_lets x1
  have h2 : Kept p x1 := (State.onCal_kept (stepOverrun_kept h))
  exact (stampCal_kept (State.bump_kept h2))

theorem startJob_kept {a0 : Nat} {a1 : CalJob} (h : Kept p s) :
    Kept p (startJob a0 a1 s) := by
  unfold startJob
  extract_lets x1
  exact (State.onCal_kept (State.onChan_kept h))

theorem beginStep_kept {a0 : Nat} {a1 : Nat} {a2 : Nat} (h : Kept p s) :
    Kept p (beginStep a0 a1 a2 s) := by
  unfold beginStep
  extract_lets x1 x2 x3 x4
  have h5 : Kept p x2 := (State.onCal_kept h)
  split
  · exact (State.setSt_kept (startJob_kept h5))
  · exact (State.onCal_kept h5)
  · exact (State.bump_kept (State.onCal_kept h5))
  · exact h5

theorem handScratch_kept {a0 : Nat} (h : Kept p s) :
    Kept p (handScratch a0 s) := by
  unfold handScratch
  apply kept_ite
  · exact h
  · split
    · exact (addPerch_kept (State.onCal_kept h))
    · exact (addPerch_kept (State.onCal_kept h))
    · exact h

theorem dropScratch_kept {a0 : Nat} (h : Kept p s) :
    Kept p (dropScratch a0 s) := by
  unfold dropScratch
  exact (State.onChan_kept (State.onCal_kept h))

theorem settleFill_kept {a0 : Nat} (h : Kept p s) :
    Kept p (settleFill a0 s) := by
  unfold settleFill
  split
  · exact (kept_ite (stepDone_kept h) h)
  · exact h

theorem abandonStep_kept {a0 : Nat} (h : Kept p s) :
    Kept p (abandonStep a0 s) := by
  unfold abandonStep
  split
  · exact h
  · extract_lets x1
    have h2 : Kept p x1 := (bookStep_kept (State.onCal_kept h))
    exact (dropScratch_kept (State.onChan_kept h2))

theorem discardWindows_kept {a0 : Nat} (h : Kept p s) :
    Kept p (discardWindows a0 s) := by
  unfold discardWindows
  extract_lets x1
  exact (State.onCal_kept h)

theorem startSweep_kept {a0 : Nat} (h : Kept p s) :
    Kept p (startSweep a0 s) := by
  unfold startSweep
  extract_lets x1 x2
  exact (kept_ite h (State.onCal_kept h))

theorem wearMargin_kept {a0 : Nat} {a1 : Nat} {a2 : Nat} {a3 : Nat} {a4 : Nat} {a5 : Nat → State → State} (k5 : ∀ y0 y1, Kept p y1 → Kept p (a5 y0 y1)) (h : Kept p s) :
    Kept p (wearMargin a0 a1 a2 a3 a4 a5 s) := by
  unfold wearMargin
  extract_lets x1
  have h2 : Kept p x1 := (k5 _ _ h)
  exact (kept_ite h (kept_ite (k5 _ _ h) (kept_ite (becomeWearing_kept h2) h2)))

theorem showEye_kept {a0 : Nat} (h : Kept p s) :
    Kept p (showEye a0 s) := by
  unfold showEye
  split
  · exact h
  · extract_lets x1 x2
    have h3 : Kept p x1 := (State.setSt_kept (State.setSt_kept (State.setSt_kept h)))
    have h4 : Kept p x2 := (stampCal_kept (State.bump_kept (State.setSt_kept h3)))
    exact (wearMargin_kept (fun _ _ h5 => (State.onCal_kept h5)) h4)

theorem showWeye_kept {a0 : Nat} (h : Kept p s) :
    Kept p (showWeye a0 s) := by
  unfold showWeye
  split
  · exact h
  · exact (State.setSt_kept h)

theorem settleSweep_kept {a0 : Nat} (h : Kept p s) :
    Kept p (settleSweep a0 s) := by
  unfold settleSweep
  exact (kept_ite (showEye_kept (State.onCal_kept h)) h)

theorem closeSweep_kept {a0 : Nat} {a1 : Nat} {a2 : Nat} {a3 : Nat} {a4 : Nat} (h : Kept p s) :
    Kept p (closeSweep a0 a1 a2 a3 a4 s) := by
  unfold closeSweep
  extract_lets x1 x2 x3 x4
  clear_value x3
  clear_value x4
  split
  · extract_lets x5 x6
    have h7 : Kept p x5 := (State.setSt_kept (State.setSt_kept h))
    have h8 : Kept p x6 := (State.onBit_kept h7)
    exact (settleSweep_kept (kept_ite (requestRetrain_kept h8) h8))
  · exact (State.onBit_kept h)

theorem closeTrack_kept {a0 : Nat} {a1 : Nat} {a2 : Nat} {a3 : Nat} {a4 : Nat} (h : Kept p s) :
    Kept p (closeTrack a0 a1 a2 a3 a4 s) := by
  unfold closeTrack
  extract_lets x1 x2 x3
  have h4 : Kept p x2 := (State.onBit_kept h)
  exact (kept_ite h4 (kept_ite (kept_ite (limitReached_kept h4) (State.onBit_kept h4)) (kept_ite (limitReached_kept h4) (State.onBit_kept h4))))

theorem putSet_kept {a0 : Nat} {a1 : Bool} {a2 : CalFound} (h : Kept p s) :
    Kept p (putSet a0 a1 a2 s) := by
  unfold putSet
  extract_lets x1 x2 x3
  exact (State.onCal_kept h)

theorem putResults_kept {a0 : Nat} {a1 : Bool} {a2 : CalFound} (h : Kept p s) :
    Kept p (putResults a0 a1 a2 s) := by
  unfold putResults
  extract_lets x1 x2 x3
  have h4 : Kept p x1 := (putSet_kept h)
  have h5 : Kept p x2 := by
    unfold x2
    refine kept_foldl (fun _ _ h8 => ?_) ?_
    · extract_lets x9 x10 x11 x12 x13
      have h14 : Kept p x10 := (State.setSt_kept h8)
      have h15 : Kept p x11 := (State.setSt_kept (State.setSt_kept h14))
      have h16 : Kept p x12 := (kept_ite (State.onBit_kept h15) h8)
      have h17 : Kept p x13 := (State.setSt_kept (State.setSt_kept h16))
      exact (kept_ite (State.onBit_kept h17) h16)
    · exact h4
  have h18 : Kept p x3 := (kept_foldl (fun _ _ h19 => (State.setSt_kept (State.setSt_kept h19))) h5)
  exact (showWeye_kept (discardWindows_kept h18))

theorem writeScratch_kept {a0 : Nat} (h : Kept p s) :
    Kept p (writeScratch a0 s) := by
  unfold writeScratch
  refine kept_foldl (fun _ _ h2 => ?_) ?_
  · extract_lets x3
    exact (kept_foldl (fun _ _ h4 => (State.setBurst_kept h4)) h2)
  · exact h

theorem restartWck_kept {a0 : Nat} (h : Kept p s) :
    Kept p (restartWck a0 s) := by
  unfold restartWck
  exact (State.onRanks_kept h)

theorem trainDone_kept {a0 : Nat} {a1 : CalFound} (h : Kept p s) :
    Kept p (trainDone a0 a1 s) := by
  unfold trainDone
  extract_lets x1 x2
  have h3 : Kept p x1 := (dropScratch_kept (restartWck_kept (State.onChan_kept h)))
  have h4 : Kept p x2 := (State.setSt_kept h3)
  exact (kept_ite (showEye_kept (putResults_kept (State.setSt_kept h3))) (State.onChan_kept (State.setSt_kept h4)))

theorem retrainInPlace_kept {a0 : Nat} (h : Kept p s) :
    Kept p (retrainInPlace a0 s) := by
  unfold retrainInPlace
  exact (State.setSt_kept (startJob_kept h))

theorem settleCheck_kept {a0 : Nat} (h : Kept p s) :
    Kept p (settleCheck a0 s) := by
  unfold settleCheck
  extract_lets x1 x2 x3 x4
  exact (kept_ite h (State.onCal_kept h))

theorem checkDone_kept {a0 : Nat} {a1 : CalFound} (h : Kept p s) :
    Kept p (checkDone a0 a1 s) := by
  unfold checkDone
  extract_lets x1 x2 x3 x4
  have h5 : Kept p x3 := (State.onRanks_kept (stampCal_kept (State.bump_kept h)))
  have h6 : Kept p x4 := (State.onCal_kept h5)
  exact (kept_ite (kept_foldl (fun _ _ h7 => (kept_foldl (fun _ _ h8 => (State.onCal_kept h8)) h7)) h6) (retrainInPlace_kept h6))

theorem retrainDone_kept {a0 : Nat} {a1 : CalFound} (h : Kept p s) :
    Kept p (retrainDone a0 a1 s) := by
  unfold retrainDone
  extract_lets x1 x2 x3 x4 x5 x6 x7 x8
  have h9 : Kept p x4 := (stampCal_kept (State.bump_kept h))
  have h10 : Kept p x5 := (kept_ite (stepDone_kept h9) h9)
  have h11 : Kept p x6 := (kept_ite (writeScratch_kept h10) h10)
  have h12 : Kept p x7 := (dropScratch_kept (restartWck_kept (State.onChan_kept h11)))
  have h13 : Kept p x8 := (State.setSt_kept h12)
  exact (kept_ite (raise_kept (putResults_kept h13)) (retrainFailed_kept h13))

theorem oscCount_kept {a0 : Nat} {a1 : Nat} {a2 : Nat} (h : Kept p s) :
    Kept p (oscCount a0 a1 a2 s) := by
  unfold oscCount
  extract_lets x1 x2 x3 x4 x5 x6 x7 x8
  have h9 : Kept p x2 := (State.setSt_kept h)
  have h10 : Kept p x8 := (kept_foldl (fun _ _ h11 => (State.onBit_kept h11)) h9)
  exact (kept_ite (requestRetrain_kept h9) (kept_ite (requestRetrain_kept h9) (State.setSt_kept h10)))

theorem wrcBit_kept {a0 : Nat} {a1 : Nat} {a2 : Bool} {a3 : Bool} (h : Kept p s) :
    Kept p (wrcBit a0 a1 a2 a3 s) := by
  unfold wrcBit
  extract_lets x1 x2
  have h3 : Kept p x2 := (kept_ite h (State.onBit_kept h))
  split
  · exact (State.onBit_kept h3)
  · exact (kept_ite (requestRetrain_kept h3) (State.onBit_kept h3))
  · exact (kept_ite (requestRetrain_kept h3) (State.onBit_kept h3))
  · exact (kept_ite (requestRetrain_kept h3) (State.onBit_kept h3))

theorem wrcDone_kept {a0 : Nat} {a1 : Nat} {a2 : List (Bool × Bool)} (h : Kept p s) :
    Kept p (wrcDone a0 a1 a2 s) := by
  unfold wrcDone
  extract_lets x1 x2
  have h3 : Kept p x1 := by
    unfold x1
    refine kept_foldl (fun _ _ h6 => ?_) ?_
    · extract_lets x7 x8 x9
      have h10 : Kept p x9 := (wrcBit_kept h6)
      exact (kept_ite (State.setSt_kept h10) h6)
    · exact h
  have h11 : Kept p x2 := (showWeye_kept (stepDone_kept h3))
  exact (wearMargin_kept (fun _ _ h12 => (State.onCal_kept h12)) h11)

theorem countMove_kept {a0 : Nat} (h : Kept p s) :
    Kept p (countMove a0 s) := by
  unfold countMove
  exact (State.bump_kept h)

theorem moveCode_kept {a0 : Nat} {a1 : Nat} (h : Kept p s) :
    Kept p (moveCode a0 a1 s) := by
  unfold moveCode
  extract_lets x1 x2 x3
  have h4 : Kept p x2 := (State.onQuad_kept h)
  have h5 : Kept p x3 := (countMove_kept (State.setSt_kept h4))
  exact (kept_ite (raise_kept (State.bump_kept h5)) h5)

theorem calPause_kept {a0 : Nat} (h : Kept p s) :
    Kept p (calPause a0 s) := by
  unfold calPause
  extract_lets x1 x2 x3
  have h4 : Kept p x2 := (State.unpost_kept (State.setCf_kept h))
  exact (kept_foldl (fun _ _ h5 => (discardWindows_kept (State.onCal_kept h5))) h4)

theorem calUnpause_kept {a0 : Nat} (h : Kept p s) :
    Kept p (calUnpause a0 s) := by
  unfold calUnpause
  extract_lets x1 x2
  have h3 : Kept p x1 := (State.setCf_kept h)
  have h4 : Kept p x2 := (State.onQuad_kept h3)
  exact (kept_foldl (fun _ _ h5 => (State.onCal_kept (discardWindows_kept h5))) h4)

theorem sweepQuad_kept {a0 : Nat} (h : Kept p s) :
    Kept p (sweepQuad a0 s) := by
  unfold sweepQuad
  exact (kept_foldl (fun _ _ h1 => (kept_ite (startSweep_kept h1) h1)) h)

theorem zqInterval_kept {a0 : Nat} {a1 : Vector Nat 3} (h : Kept p s) :
    Kept p (zqInterval a0 a1 s) := by
  unfold zqInterval
  extract_lets x1
  have h2 : Kept p x1 := (State.onQuad_kept h)
  exact (kept_foldl (fun _ _ h3 => (zqDue_kept h3)) h2)


-- Keys

theorem State.onKeys_kept {a1 : Keys → Keys} (h : Kept p s) :
    Kept p (State.onKeys s a1) := by
  unfold State.onKeys
  exact (kept_mk h)

theorem clearStaging_kept (h : Kept p s) :
    Kept p (clearStaging s) := by
  unfold clearStaging
  exact (kept_foldl (fun _ _ h1 => (State.setCf_kept h1)) h)

theorem loadKey_kept {a0 : Nat} (h : Kept p s) : Kept p (loadKey a0 s).2 := by
  unfold loadKey
  dsimp only
  apply clearStaging_kept
  split
  · exact State.onKeys_kept h
  · exact h

theorem retireSlot_kept {a0 : Nat} (h : Kept p s) :
    Kept p (retireSlot a0 s) := by
  unfold retireSlot
  exact (State.onKeys_kept h)

theorem retireKey_kept {a0 : Nat} (h : Kept p s) : Kept p (retireKey a0 s).2 :=
  kept_ite (State.onKeys_kept (retireSlot_kept h)) h

theorem setResult_kept {a0 : Nat} (h : Kept p s) :
    Kept p (setResult a0 s) := by
  unfold setResult
  exact (State.onKeys_kept h)

theorem writeKeyCtl_kept {a0 a1 : Bool} (h : Kept p s) : Kept p (writeKeyCtl a0 a1 s) := by
  have hr := retireKey_kept (a0 := s.cf KY_CTL_SLOT) h
  have hl := loadKey_kept (a0 := s.cf KY_CTL_SLOT) h
  have hrl := loadKey_kept (a0 := s.cf KY_CTL_SLOT) hr
  cases a0 <;> cases a1 <;> simp only [writeKeyCtl, Bool.or_true, Bool.or_false, if_true, if_false, Bool.false_eq_true]
  · exact h
  · exact setResult_kept hr
  · exact setResult_kept hl
  · exact setResult_kept hrl

theorem startRekey_kept (h : Kept p s) :
    Kept p (startRekey s) := by
  unfold startRekey
  extract_lets x1 x2
  have h3 : Kept p x2 := (setResult_kept (State.onKeys_kept h))
  exact (kept_ite h (kept_ite (kept_ite (setResult_kept h) (setResult_kept (State.onKeys_kept h))) (kept_ite (setResult_kept h) (kept_ite (setResult_kept h) (kept_foldl (fun _ _ h4 => (State.onChan_kept (State.setSt_kept h4))) h3)))))

theorem abortRekey_kept (h : Kept p s) :
    Kept p (abortRekey s) := by
  unfold abortRekey
  exact (kept_ite (State.onKeys_kept h) h)

theorem writeRekeyCtl_kept {a0 : Bool} {a1 : Bool} (h : Kept p s) :
    Kept p (writeRekeyCtl a0 a1 s) := by
  unfold writeRekeyCtl
  exact (kept_ite (abortRekey_kept h) (kept_ite (startRekey_kept h) h))

theorem zeroize_kept (h : Kept p s) :
    Kept p (zeroize s) := by
  unfold zeroize
  exact (State.onKeys_kept (clearStaging_kept h))


-- Maint

theorem refuseLock_kept {a0 : Nat} (h : Kept p s) :
    Kept p (refuseLock a0 s) := by
  unfold refuseLock
  exact (State.onQuad_kept (State.bump_kept h))

theorem fillLine_kept {a0 a1 a2 : Nat} {a3 : Bool} {a4 : Option Nat} {t : State} (h : Kept p s)
    (e : fillLine a0 a1 a2 a3 a4 s = some t) : Kept p t := by
  unfold fillLine at e
  split at e
  · injection e with e
    exact e ▸ State.addFill_kept (State.onWay_kept h)
  · obtain ⟨⟨w, wb, u⟩, hu, e⟩ := Option.map_eq_some_iff.1 e
    exact e ▸ State.addFill_kept (takeWay_kept h hu)

theorem visit_kept {a0 a1 a2 a3 : Nat} {t : State} (h : Kept p s) (e : visit a0 a1 a2 a3 s = some t) : Kept p t := by
  have put {u : State} (hu : Kept p u) (e : some u = some t) : Kept p t := Option.some.inj e ▸ hu
  unfold visit at e
  dsimp only at e
  split at e
  · split at e
    · exact put h e
    · split at e
      · exact fillLine_kept h e
      · split at e
        · exact put (refuseLock_kept h) e
        · exact fillLine_kept h e
      · exact put h e
  · split at e
    · cases e
    · split at e
      · split at e
        · split at e
          · exact fillLine_kept h e
          · exact put h e
        · split at e
          · exact fillLine_kept h e
          · exact put h e
        · exact put (State.onWay_kept h) e
        · exact put h e
      · split at e
        · exact put (State.cleanWay_kept h) e
        · split at e
          · exact put (State.bump_kept (State.onWay_kept (State.cleanWay_kept h))) e
          · exact put (State.onWay_kept (State.cleanWay_kept h)) e
        · split at e
          · exact put h e
          · split at e
            · exact put (refuseLock_kept h) e
            · exact put (State.onWay_kept h) e
        · exact put (State.onWay_kept h) e
        · exact put h e

theorem mopStep_kept {a0 : Nat} (h : Kept p s) :
    Kept p (mopStep a0 s) := by
  unfold mopStep
  split
  · exact h
  · extract_lets x1
    have h2 : ∀ y0 y1, Kept p y1 → Kept p (x1 y0 y1) := by
      intro y0 y1 h2_1
      unfold x1
      exact (State.onQuad_kept h2_1)
    apply kept_ite
    · exact h
    · split
      · exact (h2 _ _ h)
      · extract_lets x3
        apply kept_ite
        · exact h
        · split
          · rename_i heq
            have h4 := visit_kept (State.onLane_kept h) heq
            exact (h2 _ _ h4)
          · exact h

theorem startMop_kept {a0 : Nat} {a1 : Nat} {a2 : Bool} (h : Kept p s) :
    Kept p (startMop a0 a1 a2 s) := by
  unfold startMop
  extract_lets x1 x2
  have h3 : ∀ y0, Kept p (x2 y0) := by
    intro y0 
    unfold x2
    exact (State.setSt_kept h)
  exact (kept_ite h (kept_ite (h3 _) (kept_ite (h3 _) (State.onQuad_kept h))))

theorem settleBypass_kept {a0 : Nat} (h : Kept p s) :
    Kept p (settleBypass a0 s) := by
  unfold settleBypass
  extract_lets x1 x2 x3
  have h4 : ∀ y0 y1, Kept p y1 → Kept p (x2 y0 y1) := by
    intro y0 y1 h4_1
    unfold x2
    exact (State.onQuad_kept h4_1)
  exact (kept_ite (h4 _ _ h) (kept_ite (h4 _ _ h) (kept_ite (State.onQuad_kept (h4 _ _ (flushCache_kept h))) h)))

theorem enterBypass_kept {a0 : Nat} (h : Kept p s) :
    Kept p (enterBypass a0 s) := by
  unfold enterBypass
  exact (settleBypass_kept (State.setCf_kept h))

theorem leaveBypass_kept {a0 : Nat} (h : Kept p s) :
    Kept p (leaveBypass a0 s) := by
  unfold leaveBypass
  exact (State.onQuad_kept (State.setCf_kept h))

theorem goOp_kept {a0 : Nat} {a1 : Nat} (h : Kept p s) :
    Kept p (goOp a0 a1 s) := by
  unfold goOp
  exact (kept_ite (startMop_kept (State.setCf_kept h)) h)

end Sys2Proof.Machine
end

