-- ==== Sys2Proof/Laws/KeptBlock.lean ====
section
/-!
SUPPORT. The shared operations of SpillEngine.lean, Perf.lean, Gaps.lean, Tap.lean, Start.lean, Register.lean, Tick.lean keep the queue and the canonical form (`Kept`): one lemma for each.
-/

namespace Sys2Proof.Machine

variable {p : Fixed} {s : State}

-- Perf

theorem setCounter_kept {a0 : CounterId} {a1 : Nat} (h : Kept p s) :
    Kept p (setCounter a0 a1 s) := by
  unfold setCounter
  exact (State.setCf_kept (State.setCf_kept h))

theorem wrapped_kept {a0 : CounterId} (h : Kept p s) :
    Kept p (wrapped a0 s) := by
  unfold wrapped
  extract_lets x1 x2
  have h3 : Kept p x1 := (State.setBit_kept h)
  have h4 : Kept p x2 := (kept_ite (State.onPerf_kept h3) h3)
  split
  · exact (kept_ite (State.setCf_kept h4) h4)
  · exact h4

theorem countNow_kept {a0 : CounterId} (h : Kept p s) :
    Kept p (countNow a0 s) := by
  unfold countNow
  extract_lets x1 x2 x3
  have h4 : Kept p x3 := (setCounter_kept (State.onPerf_kept h))
  exact (kept_ite h (kept_ite (wrapped_kept h4) h4))

theorem settled_kept {a0 : CounterId} (h : Kept p s) :
    Kept p (settled a0 s) := by
  unfold settled
  exact (State.onPerf_kept h)

theorem countAll_kept (h : Kept p s) :
    Kept p (countAll s) := by
  unfold countAll
  extract_lets x1 x2 x3
  have h4 : Kept p x2 := (kept_foldl (fun _ _ h5 => (countNow_kept h5)) h)
  have h6 : Kept p x3 := (State.onPerf_kept h4)
  split
  · exact (kept_ite (event_kept (State.onPerf_kept h6)) h6)
  · exact h6

theorem holdLow_kept {a0 : CounterId} {a1 : Word} (h : Kept p s) :
    Kept p (holdLow a0 a1 s) := by
  unfold holdLow
  exact (State.onPerf_kept h)

theorem writeHigh_kept {a0 : CounterId} {a1 : Word} (h : Kept p s) :
    Kept p (writeHigh a0 a1 s) := by
  unfold writeHigh
  extract_lets x1 x2
  have h3 : Kept p x2 := (State.onPerf_kept h)
  exact (settled_kept (setCounter_kept h3))

theorem beforeSelect_kept {a0 : CounterId} (h : Kept p s) :
    Kept p (beforeSelect a0 s) := by
  unfold beforeSelect
  exact (kept_ite h (State.onPerf_kept h))

theorem clearCounter_kept {a0 : CounterId} (h : Kept p s) :
    Kept p (clearCounter a0 s) := by
  unfold clearCounter
  exact (setCounter_kept (State.onPerf_kept h))

theorem clearCounters_kept {a0 : CounterSet} {a1 : Nat} (h : Kept p s) :
    Kept p (clearCounters a0 a1 s) := by
  unfold clearCounters
  exact (kept_foldl (fun _ _ h1 => (kept_ite (clearCounter_kept h1) h1)) h)

theorem clearBushel_kept (h : Kept p s) :
    Kept p (clearBushel s) := by
  unfold clearBushel
  exact (kept_ite h (kept_foldl (fun _ _ h1 => (clearCounter_kept h1)) h))

theorem snapshot_kept (h : Kept p s) :
    Kept p (snapshot s) := by
  unfold snapshot
  extract_lets x1 x2 x3
  have h4 : Kept p x1 := by
    unfold x1
    refine kept_foldl (fun _ _ h7 => ?_) ?_
    · extract_lets x8
      exact (State.setSt_kept (State.setSt_kept h7))
    · exact h
  have h9 : Kept p x2 := (State.setSt_kept h4)
  have h10 : Kept p x3 := (State.onPerf_kept h9)
  exact (kept_ite h (kept_ite (clearBushel_kept h10) h10))

theorem writeFreeze_kept {a0 : Bool} (h : Kept p s) :
    Kept p (writeFreeze a0 s) := by
  unfold writeFreeze
  exact (State.onPerf_kept (State.setCf_kept h))

theorem ack_kept {a0 : Nat} (h : Kept p s) :
    Kept p (ack a0 s) := by
  unfold ack
  extract_lets x1
  exact (kept_mk h)

theorem clearLog_kept {a0 : Nat} (h : Kept p s) :
    Kept p (clearLog a0 s) := by
  unfold clearLog
  extract_lets x1 x2
  exact (kept_mk h)

theorem clearScruple_kept {a0 : Nat} (h : Kept p s) :
    Kept p (clearScruple a0 s) := by
  unfold clearScruple
  extract_lets x1 x2
  exact (kept_mk h)


-- Gaps

theorem postOnce_kept {a0 : GapKind} {a1 : Nat} {a2 : Work} {a3 : Nat} {a4 : Nat} {a5 : Nat} (h : Kept p s) :
    Kept p (postOnce a0 a1 a2 a3 a4 a5 s) := by
  unfold postOnce
  extract_lets x1
  exact (kept_ite h (post_kept h))

theorem postRefresh_kept {a0 : GapKind} {a1 : Nat} (h : Kept p s) :
    Kept p (postRefresh a0 a1 s) := by
  unfold postRefresh
  extract_lets x1
  exact (kept_ite (postOnce_kept h) h)

theorem postSteps_kept {a0 : GapKind} {a1 : Nat} (h : Kept p s) :
    Kept p (postSteps a0 a1 s) := by
  unfold postSteps
  refine kept_foldl (fun _ _ h2 => ?_) ?_
  · extract_lets x3
    exact (kept_ite (postOnce_kept h2) h2)
  · exact h

theorem postDuties_kept {a0 : GapKind} {a1 : Nat} (h : Kept p s) :
    Kept p (postDuties a0 a1 s) := by
  unfold postDuties
  refine kept_foldl (fun _ _ h2 => ?_) ?_
  · extract_lets x3
    exact (kept_ite (postOnce_kept h2) h2)
  · exact h

theorem postAll_kept {a0 : GapKind} (h : Kept p s) :
    Kept p (postAll a0 s) := by
  unfold postAll
  exact (kept_foldl (fun _ _ h1 => (postDuties_kept (postSteps_kept (postRefresh_kept h1)))) (tryPostOp_kept h))

theorem beginWork_kept {a0 : Booking} (h : Kept p s) :
    Kept p (beginWork a0 s) := by
  unfold beginWork
  split
  · exact (kept_ite (opGranted_kept h) h)
  · exact h
  · extract_lets x1 x2
    exact (beginStep_kept h)
  · split
    · exact (kept_ite (beginSwap_kept h) h)
    · exact h
  · exact (bookedPermit_kept h)
  · exact (bookedPermit_kept h)
  · exact (bookedPermit_kept h)

theorem beginGrants_kept (h : Kept p s) :
    Kept p (beginGrants s) := by
  unfold beginGrants
  refine kept_foldl (fun _ _ h2 => ?_) ?_
  · extract_lets x3 x4
    exact (kept_ite h2 (beginWork_kept (kept_mk h2)))
  · exact h

theorem endWork_kept {a0 : Booking} (h : Kept p s) :
    Kept p (endWork a0 s) := by
  unfold endWork
  extract_lets x1
  split
  · exact (kept_ite h (endPermit_kept h))
  · exact (kept_ite h (endPermit_kept h))
  · exact (kept_ite h (endPermit_kept h))
  · exact (settleFill_kept h)
  · exact h

theorem grantBooking_kept {a0 : GapKind} {a1 : Nat} {a2 : Booking} (h : Kept p s) :
    Kept p (grantBooking a0 a1 a2 s) := by
  unfold grantBooking
  extract_lets x1 x2 x3 x4 x5 x6
  have h7 : Kept p x2 := (State.unpost_kept h)
  have h8 : Kept p x4 := (kept_mk h7)
  split
  · exact (kept_mk h8)
  · exact (kept_mk h8)
  · exact (kept_ite (State.onScrub_kept h8) h8)
  · exact h8

theorem noteNoFit_kept {a0 : Booking} (h : Kept p s) :
    Kept p (noteNoFit a0 s) := by
  unfold noteNoFit
  extract_lets x1
  exact (kept_mk h)

theorem tooLong_kept {a0 : Nat} {a1 : Booking} (h : Kept p s) :
    Kept p (tooLong a0 a1 s) := by
  unfold tooLong
  extract_lets x1 x2 x3 x4
  have h5 : Kept p x1 := (kept_ite h (noteNoFit_kept (State.bump_kept h)))
  split
  · exact (kept_ite h5 (State.bump_kept h5))
  · exact (kept_ite h5 (kept_mk h5))
  · exact (kept_ite h5 (State.onScrub_kept (State.unpost_kept h5)))
  · exact h5

theorem tryGrant_kept {a0 : GapKind} {a1 : Nat} {a2 : List (GapKind × Scope × Nat)} {a3 : Booking} (h : Kept p s) :
    Kept p (tryGrant a0 a1 a2 a3 s) := by
  unfold tryGrant
  extract_lets x1 x2
  exact (kept_ite (kept_ite (tooLong_kept h) h) (kept_ite (grantBooking_kept h) h))

theorem forceSwap_kept (h : Kept p s) :
    Kept p (forceSwap s) := by
  unfold forceSwap
  extract_lets x1 x2
  have h3 : Kept p x2 := (kept_mk h)
  exact (kept_ite (beginSwap_kept (State.unpost_kept (State.bump_kept h3))) h)

theorem openGap_kept {a0 : GapKind} (h : Kept p s) :
    Kept p (openGap a0 s) := by
  unfold openGap
  extract_lets x1 x2 x3 x4 x5 x6 x7 x8 x9 x10 x11
  have h12 : Kept p x3 := (endGap_kept h)
  have h13 : Kept p x5 := by
    unfold x5
    split
    · exact (kept_mk h)
    · exact (forceSwap_kept (kept_mk h12))
  have h14 : Kept p x6 := (postAll_kept h13)
  have h15 : Kept p x9 := (kept_mk h14)
  have h16 : Kept p x11 := (kept_foldl (fun _ _ h17 => (tryGrant_kept h17)) h15)
  exact (beginGrants_kept (State.unpost_kept h16))

theorem openV_kept (h : Kept p s) :
    Kept p (openV s) := by
  unfold openV
  exact (kept_ite (openGap_kept h) h)

theorem swapHeld_kept (h : Kept p s) :
    Kept p (swapHeld s) := by
  unfold swapHeld
  extract_lets x1
  exact (kept_ite (kept_mk h) h)

theorem countLate_kept (h : Kept p s) :
    Kept p (countLate s) := by
  unfold countLate
  extract_lets x1 x2 x3 x4 x5 x6
  have h7 : Kept p x1 := (swapHeld_kept h)
  have h8 : Kept p x3 := (kept_mk h7)
  have h9 : Kept p x5 := (State.bump_kept (State.bump_kept h8))
  exact (kept_mk h9)

theorem recordFrame_kept (h : Kept p s) :
    Kept p (recordFrame s) := by
  unfold recordFrame
  extract_lets x1 x2 x3
  have h4 : Kept p x2 := (kept_ite (State.bump_kept h) h)
  exact (kept_ite h (kept_mk h4))

theorem frameWork_kept (h : Kept p s) :
    Kept p (frameWork s) := by
  unfold frameWork
  extract_lets x1 x2 x3 x4
  have h5 : Kept p x1 := (kept_ite (opFrame_kept h) h)
  have h6 : Kept p x2 := (kept_foldl (fun _ _ h7 => (State.onScrub_kept h7)) h5)
  have h8 : Kept p x3 := (kept_ite (commitGates_kept h6) h6)
  have h9 : Kept p x4 := (kept_ite (snapshot_kept h8) h8)
  exact (countLate_kept h9)

theorem newFrame_kept {a0 : BitVec 24} {a1 : Bool} (h : Kept p s) :
    Kept p (newFrame a0 a1 s) := by
  unfold newFrame
  extract_lets x1 x2 x3 x4
  have h5 : Kept p x1 := (recordFrame_kept (endGaps_kept h))
  have h6 : Kept p x4 := (kept_mk h5)
  exact (frameWork_kept (beginLine_kept h6))


-- Tap

theorem dropAll_kept {a0 : Nat} (h : Kept p s) :
    Kept p (dropAll a0 s) := by
  unfold dropAll
  extract_lets x1
  have h2 : Kept p x1 := (abandonStep_kept h)
  exact (State.onChan_kept h2)

theorem freeLanes_kept {a0 : Nat} (h : Kept p s) :
    Kept p (freeLanes a0 s) := by
  unfold freeLanes
  extract_lets x1
  exact (State.onQuad_kept h)

theorem grantSecure_kept (h : Kept p s) :
    Kept p (grantSecure s) := by
  unfold grantSecure
  extract_lets x1
  exact (event_kept (kept_mk h))

theorem grantDark_kept (h : Kept p s) :
    Kept p (grantDark s) := by
  unfold grantDark
  extract_lets x1 x2 x3 x4
  have h5 : Kept p x1 := (zeroize_kept h)
  exact (kept_mk h5)

theorem settleHalt_kept (h : Kept p s) :
    Kept p (settleHalt s) := by
  unfold settleHalt
  extract_lets x1 x2 x3 x4 x5 x6
  have h7 : Kept p x2 := (kept_foldl (fun _ _ h8 => (freeLanes_kept h8)) (kept_foldl (fun _ _ h9 => (dropAll_kept h9)) h))
  have h10 : Kept p x3 := (kept_ite (zeroize_kept h7) h7)
  have h11 : Kept p x6 := (kept_mk h)
  exact (kept_ite (kept_foldl (fun _ _ h12 => (State.onRanks_kept h12)) (kept_mk h10)) (kept_ite (kept_ite (grantSecure_kept h11) h11) h))

theorem startSecure_kept (h : Kept p s) :
    Kept p (startSecure s) := by
  unfold startSecure
  extract_lets x1 x2 x3 x4
  have h5 : Kept p x2 := (kept_mk h)
  have h6 : Kept p x3 := (kept_ite (stopBlock_kept h5) h5)
  exact (kept_ite h (kept_ite (grantDark_kept h5) (kept_mk h6)))

theorem quiesceStep_kept {a0 : Nat} (h : Kept p s) :
    Kept p (quiesceStep a0 s) := by
  unfold quiesceStep
  extract_lets x1
  exact (kept_mk h)

theorem takePins_kept (h : Kept p s) :
    Kept p (takePins s) := by
  unfold takePins
  extract_lets x1
  exact (quiesceStep_kept (kept_mk h))

theorem raiseReady_kept (h : Kept p s) :
    Kept p (raiseReady s) := by
  unfold raiseReady
  extract_lets x1
  exact (kept_ite h (kept_foldl (fun _ _ h2 => (setIngHold_kept h2)) (kept_mk h)))

theorem setTest_kept {a0 : Nat} {a1 : Nat} (h : Kept p s) :
    Kept p (setTest a0 a1 s) := by
  unfold setTest
  exact (State.onChan_kept h)

theorem testReturn_kept {a0 : Nat} (h : Kept p s) :
    Kept p (testReturn a0 s) := by
  unfold testReturn
  extract_lets x1 x2 x3
  have h4 : Kept p x2 := (State.onChan_kept (setTest_kept h))
  have h5 : Kept p x3 := (State.setSt_kept (restartTracking_kept (initSet_kept h4)))
  exact (kept_ite (State.onRanks_kept h4) (startJob_kept (State.onRanks_kept h5)))

theorem dropTests_kept {a0 : Nat} {a1 : Op → Bool} (h : Kept p s) :
    Kept p (dropTests a0 a1 s) := by
  unfold dropTests
  exact (State.onChan_kept h)

theorem feedTest_kept {a0 : Nat} (h : Kept p s) :
    Kept p (feedTest a0 s) := by
  unfold feedTest
  extract_lets x1 x2 x3 x4 x5 x6
  exact (kept_ite h (State.onChan_kept (State.addOp_kept h)))

theorem forgetCached_kept {a0 : Nat} (h : Kept p s) :
    Kept p (forgetCached a0 s) := by
  unfold forgetCached
  extract_lets x1
  exact (State.onQuad_kept h)

theorem testEnd_kept {a0 : Nat} (h : Kept p s) :
    Kept p (testEnd a0 s) := by
  unfold testEnd
  extract_lets x1 x2 x3
  have h4 : Kept p x2 := (leaveTest_kept h)
  have h5 : Kept p x3 := (State.setSt_kept (State.setSt_kept h4))
  exact (kept_ite (State.onRanks_kept h4) (kept_ite (startClearing_kept (forgetCached_kept h5)) h4))

theorem settleTest_kept {a0 : Nat} (h : Kept p s) :
    Kept p (settleTest a0 s) := by
  unfold settleTest
  extract_lets x1 x2 x3 x4 x5
  have h6 : Kept p x2 := (State.onChan_kept h)
  have h7 : Kept p x4 := (State.onChan_kept h)
  have h8 : Kept p x5 := (dropTests_kept h)
  split
  · exact (kept_ite (testReturn_kept h6) (kept_ite h6 (kept_ite (State.onRanks_kept (setTest_kept h6)) (kept_foldl (fun _ _ h9 => (State.cleanWay_kept h9)) h6))))
  · exact (kept_ite (testReturn_kept h) (kept_ite (kept_ite (State.onRanks_kept h7) h7) h))
  · exact (kept_ite (testReturn_kept h) h)
  · exact (kept_ite (kept_ite (feedTest_kept h) h) (kept_ite (testReturn_kept h8) h8))
  · exact (kept_ite (testEnd_kept h) h)
  · exact h

theorem testGo_kept {a0 : Nat} {a1 : Bool} {a2 : Bool} (h : Kept p s) :
    Kept p (testGo a0 a1 a2 s) := by
  unfold testGo
  extract_lets x1 x2 x3 x4
  have h5 : Kept p x2 := (State.setCf_kept (State.setCf_kept h))
  exact (kept_ite (settleTest_kept (State.onChan_kept h5)) (State.setBits_kept h5))

theorem testAbort_kept {a0 : Nat} (h : Kept p s) :
    Kept p (testAbort a0 s) := by
  unfold testAbort
  extract_lets x1
  exact (kept_ite (settleTest_kept (State.onChan_kept h)) h)

theorem writeTst_kept {a0 : Nat} {a1 : Bool} {a2 : Bool} {a3 : Bool} {a4 : Bool} (h : Kept p s) :
    Kept p (writeTst a0 a1 a2 a3 a4 s) := by
  unfold writeTst
  extract_lets x1 x2 x3
  have h4 : Kept p x1 := (dropHeld_kept h)
  have h5 : Kept p x2 := (State.setCf_kept (State.setCf_kept h4))
  have h6 : Kept p x3 := (kept_ite (testAbort_kept h5) h5)
  exact (kept_ite (testGo_kept h6) h6)

theorem abandonTest_kept {a0 : Nat} (h : Kept p s) :
    Kept p (abandonTest a0 s) := by
  unfold abandonTest
  extract_lets x1 x2
  have h3 : Kept p x2 := (State.onChan_kept (setTest_kept (dropTests_kept h)))
  exact (kept_ite h (kept_ite (State.onRanks_kept h3) h3))

theorem abandonTests_kept (h : Kept p s) :
    Kept p (abandonTests s) := by
  unfold abandonTests
  exact (kept_foldl (fun _ _ h1 => (abandonTest_kept h1)) h)

theorem resumeTests_kept (h : Kept p s) :
    Kept p (resumeTests s) := by
  unfold resumeTests
  exact (kept_foldl (fun _ _ h1 => (kept_ite (testReturn_kept h1) h1)) h)

theorem giveRoom_kept (h : Kept p s) :
    Kept p (giveRoom s) := by
  unfold giveRoom
  exact (kept_foldl (fun _ _ h1 => (State.onChan_kept h1)) h)

theorem openQuiesce_kept (h : Kept p s) :
    Kept p (openQuiesce s) := by
  unfold openQuiesce
  extract_lets x1 x2
  have h3 : Kept p x1 := (giveRoom_kept h)
  exact (kept_mk h3)

theorem settleQuiesce_kept (h : Kept p s) :
    Kept p (settleQuiesce s) := by
  unfold settleQuiesce
  extract_lets x1 x2
  split
  · exact (kept_ite h (kept_ite (takePins_kept h) (kept_foldl (fun _ _ h3 => (State.onChan_kept h3)) (quiesceStep_kept h))))
  · exact (kept_ite (kept_foldl (fun _ _ h4 => (flushCache_kept h4)) (quiesceStep_kept h)) (kept_foldl (fun _ _ h5 => (State.onChan_kept h5)) h))
  · exact (kept_ite (kept_foldl (fun _ _ h6 => (State.onRanks_kept h6)) (quiesceStep_kept h)) h)
  · exact (kept_ite (takePins_kept h) h)
  · exact (kept_ite h (kept_ite (raiseReady_kept (resumeTests_kept (openQuiesce_kept h))) (kept_ite (giveRoom_kept h) h)))
  · exact h

theorem startQuiesce_kept (h : Kept p s) :
    Kept p (startQuiesce s) := by
  unfold startQuiesce
  extract_lets x1 x2
  have h3 : Kept p x2 := (kept_mk h)
  exact (kept_ite h (kept_ite (takePins_kept h3) (settleQuiesce_kept (quiesceStep_kept (abandonTests_kept h3)))))

theorem endQuiesce_kept (h : Kept p s) :
    Kept p (endQuiesce s) := by
  unfold endQuiesce
  extract_lets x1 x2 x3
  have h4 : Kept p x2 := (kept_mk h)
  exact (kept_ite h (kept_ite (openQuiesce_kept h) (kept_ite (settleQuiesce_kept h4) (settleQuiesce_kept (kept_foldl (fun _ _ h5 => (State.onRanks_kept h5)) (kept_foldl (fun _ _ h6 => (State.onRanks_kept h6)) h4))))))

theorem selectInstr_kept {a0 : TapInstr} (h : Kept p s) :
    Kept p (selectInstr a0 s) := by
  unfold selectInstr
  extract_lets x1 x2
  have h3 : Kept p x2 := (kept_mk h)
  exact (kept_ite h (kept_ite (startSecure_kept h3) (kept_ite (startQuiesce_kept h3) (endQuiesce_kept h3))))

theorem updateIr_kept {a0 : BitVec 6} (h : Kept p s) :
    Kept p (updateIr a0 s) := by
  unfold updateIr
  exact (selectInstr_kept h)


-- SpillEngine

theorem setCur_kept {a0 : Nat} {a1 : Nat} (h : Kept p s) :
    Kept p (setCur a0 a1 s) := by
  unfold setCur
  exact (State.setCf_kept (State.setCf_kept h))

theorem showSpill_kept {a0 : Nat} (h : Kept p s) :
    Kept p (showSpill a0 s) := by
  unfold showSpill
  extract_lets x1
  split
  · exact (State.onSpill_kept (State.setSt_kept h))
  · exact (kept_ite h (State.setSt_kept h))

theorem sendBurst_kept {a0 : Nat} {a1 : Bool} (h : Kept p s) :
    Kept p (sendBurst a0 a1 s) := by
  unfold sendBurst
  extract_lets x1
  exact (State.onSpill_kept h)

theorem fetchDesc_kept {a0 : Nat} {a1 : Nat} (h : Kept p s) :
    Kept p (fetchDesc a0 a1 s) := by
  unfold fetchDesc
  exact (State.onSpill_kept h)

theorem busError_kept {a0 : Nat} {a1 : Axi} (h : Kept p s) :
    Kept p (busError a0 a1 s) := by
  unfold busError
  extract_lets x1 x2 x3
  have h4 : Kept p x2 := (spillHalt_kept h)
  have h5 : Kept p x3 := (State.setSt_kept (State.setSt_kept h4))
  exact (kept_ite (raise_kept (State.onSpill_kept h5)) h)

theorem portHalts_kept {a0 : Nat} {a1 : Bool} (h : Kept p s) :
    Kept p (portHalts a0 a1 s) := by
  unfold portHalts
  exact (spillHalt_kept (State.onSpill_kept h))

theorem spillServed_kept {a0 : Nat} {a1 : Nat} (h : Kept p s) :
    Kept p (spillServed a0 a1 s) := by
  unfold spillServed
  exact (kept_mk h)

theorem spillRequest_kept {a0 : Nat} {a1 : Desc} {a2 a3 : Nat} {a4 : List Beat} (h : Kept p s) :
    Kept p (spillRequest a0 a1 a2 a3 a4 s).2 :=
  kept_ite (State.note_kept (State.onPort_kept (accept__kept h))) (accept__kept h)

theorem issueChunk_kept {a0 : Nat} (h : Kept p s) : Kept p (issueChunk a0 s) := by
  unfold issueChunk
  dsimp only
  split
  · exact h
  · apply State.onSpill_kept
    split
    · exact State.onSpill_kept h
    · exact spillRequest_kept h

theorem issueWrite_kept {a0 : Nat} {a1 : Nat} (h : Kept p s) :
    Kept p (issueWrite a0 a1 s) := by
  unfold issueWrite
  extract_lets x1
  split
  · exact h
  · split
    · exact h
    · extract_lets x2
      apply kept_ite
      · split
        · rename_i heq
          have h3 := congrArg Prod.snd heq ▸ spillRequest_kept h
          exact (State.onSpill_kept h3)
      · exact (State.onSpill_kept h)

theorem spillServe_kept {a0 : Nat} (h : Kept p s) :
    Kept p (spillServe a0 s) := by
  unfold spillServe
  split
  · exact (kept_ite (spillServed_kept (issueWrite_kept h)) (kept_ite (spillServed_kept (sendBurst_kept h)) (kept_ite (spillServed_kept (issueWrite_kept h)) h)))
  · exact h

theorem spillRequests_kept (h : Kept p s) :
    Kept p (spillRequests s) := by
  unfold spillRequests
  exact (kept_foldl (fun _ _ h1 => (spillServe_kept h1)) h)

theorem chunkLines_kept {a0 : Nat} {a1 : Nat} {a2 : Req} (h : Kept p s) :
    Kept p (chunkLines a0 a1 a2 s) := by
  unfold chunkLines
  refine kept_foldl (fun _ _ h2 => ?_) ?_
  · extract_lets x3 x4 x5 x6
    have h7 : Kept p x4 := (State.bump_kept h2)
    have h8 : Kept p x5 := (State.onSpill_kept h7)
    have h9 : Kept p x6 := (State.setSt_kept (State.setSt_kept h8))
    exact (kept_ite h2 (kept_ite h8 (State.setSt_kept (State.setSt_kept (State.setSt_kept h9)))))
  · exact h

theorem chunkAcked_kept {a0 : Nat} {a1 : Chunk} (h : Kept p s) :
    Kept p (chunkAcked a0 a1 s) := by
  unfold chunkAcked
  extract_lets x1 x2
  have h3 : Kept p x2 := (State.setSt_kept (State.setSt_kept h))
  exact (State.onSpill_kept h3)

theorem settleSpill_kept {a0 : Nat} (h : Kept p s) :
    Kept p (settleSpill a0 s) := by
  unfold settleSpill
  extract_lets x1 x2 x3 x4 x5 x6 x7 x8
  have h9 : Kept p x1 := (State.onSpill_kept h)
  have h10 : Kept p x3 := by
    unfold x3
    split
    · split
      · exact (kept_ite (spillHalt_kept h9) (kept_ite h9 (portHalts_kept h9)))
      · exact h9
    · split
      · exact (kept_ite (spillHalt_kept h9) (kept_ite h9 (portHalts_kept h9)))
      · exact h9
    · split
      · exact (kept_ite (spillHalt_kept h9) (kept_ite h9 (portHalts_kept h9)))
      · exact h9
    · exact h9
  have h11 : Kept p x6 := by
    unfold x6
    split
    · exact (kept_ite (State.onSpill_kept h10) h10)
    · exact h10
  have h12 : Kept p x8 := by
    unfold x8
    split
    · exact (kept_ite (fetchDesc_kept h11) h11)
    · exact h11
  exact (showSpill_kept h12)

theorem gotDesc_kept {a0 : Nat} {a1 : BitVec 256} (h : Kept p s) :
    Kept p (gotDesc a0 a1 s) := by
  unfold gotDesc
  extract_lets x1 x2 x3 x4 x5
  have h6 : Kept p x2 := (State.onSpill_kept h)
  have h7 : Kept p x3 := (State.onSpill_kept h6)
  have h8 : Kept p x5 := (kept_ite (State.onSpill_kept h6) h6)
  split
  · exact (kept_ite (kept_ite (fetchDesc_kept h7) h7) (kept_ite (spillHalt_kept h6) (kept_ite (spillHalt_kept h8) (kept_ite (portHalts_kept h8) (settleSpill_kept (State.onSpill_kept h8))))))
  · exact (kept_ite (kept_ite (fetchDesc_kept h7) h7) (kept_ite (spillHalt_kept h6) (kept_ite (spillHalt_kept h8) (kept_ite (portHalts_kept h8) (settleSpill_kept (State.onSpill_kept h8))))))
  · exact h6

theorem drainSpill_kept {a0 : Nat} (h : Kept p s) :
    Kept p (drainSpill a0 s) := by
  unfold drainSpill
  extract_lets x1 x2 x3 x4 x5
  have h6 : Kept p x1 := (showSpill_kept h)
  exact (State.onSpill_kept h6)

theorem spillStart_kept {a0 : Nat} (h : Kept p s) :
    Kept p (spillStart a0 s) := by
  unfold spillStart
  extract_lets x1
  exact (kept_ite (fetchDesc_kept (State.onSpill_kept (State.setSt_kept h))) h)

theorem refetchDesc_kept {a0 : Nat} (h : Kept p s) :
    Kept p (refetchDesc a0 s) := by
  unfold refetchDesc
  extract_lets x1
  exact (kept_ite (State.onSpill_kept h) (fetchDesc_kept h))

theorem spillKick_kept {a0 : Nat} (h : Kept p s) :
    Kept p (spillKick a0 s) := by
  unfold spillKick
  exact (kept_ite (refetchDesc_kept h) h)

theorem spillPause_kept {a0 : Nat} (h : Kept p s) :
    Kept p (spillPause a0 s) := by
  unfold spillPause
  extract_lets x1 x2
  have h3 : Kept p x2 := (State.onSpill_kept h)
  exact (kept_ite (kept_ite (drainSpill_kept h3) h3) h)

theorem spillResume_kept {a0 : Nat} (h : Kept p s) :
    Kept p (spillResume a0 s) := by
  unfold spillResume
  extract_lets x1
  exact (kept_ite (fetchDesc_kept (State.onSpill_kept h)) (kept_ite (kept_ite (event_kept h) (fetchDesc_kept (State.onSpill_kept h))) h))

theorem spillAbort_kept {a0 : Nat} (h : Kept p s) :
    Kept p (spillAbort a0 s) := by
  unfold spillAbort
  extract_lets x1
  have h2 : Kept p x1 := (State.onSpill_kept h)
  exact (kept_ite h (kept_ite (drainSpill_kept h2) h2))

theorem abortSpills_kept (h : Kept p s) :
    Kept p (abortSpills s) := by
  unfold abortSpills
  refine kept_foldl (fun _ _ h2 => ?_) ?_
  · split
    · exact h2
    · exact h2
    · exact h2
    · exact (State.onSpill_kept h2)
  · exact h

theorem writeSpillCtrl_kept {a0 : Nat} {a1 : Nat} (h : Kept p s) :
    Kept p (writeSpillCtrl a0 a1 s) := by
  unfold writeSpillCtrl
  extract_lets x1
  exact (kept_ite (spillAbort_kept h) (kept_ite (spillPause_kept h) (kept_ite (spillResume_kept h) (kept_ite (spillStart_kept h) (kept_ite (spillKick_kept h) h)))))

theorem descDone_kept {a0 : Nat} (h : Kept p s) :
    Kept p (descDone a0 s) := by
  unfold descDone
  split
  · exact h
  · extract_lets x1 x2
    have h3 : Kept p x1 := (State.onSpill_kept (State.bump_kept h))
    have h4 : Kept p x2 := (kept_ite h3 (setCur_kept h3))
    exact (kept_ite (event_kept (State.setBits_kept h4)) h4)

theorem spillRead_kept {a0 : Nat} {a1 : Req} (h : Kept p s) :
    Kept p (spillRead a0 a1 s) := by
  unfold spillRead
  split
  · exact h
  · extract_lets x1 x2
    have h3 : Kept p x2 := (State.onSpill_kept h)
    exact (settleSpill_kept (chunkLines_kept h3))

theorem spillWrote_kept {a0 : Nat} {a1 : Req} (h : Kept p s) :
    Kept p (spillWrote a0 a1 s) := by
  unfold spillWrote
  split
  · exact h
  · exact (settleSpill_kept (chunkAcked_kept (chunkLines_kept h)))


-- Start

theorem replay_kept {a0 : Nat} (h : Kept p s) :
    Kept p (replay a0 s) := by
  unfold replay
  exact (State.onRanks_kept (State.onChan_kept h))

theorem stopQuad_kept {a0 : Nat} (h : Kept p s) :
    Kept p (stopQuad a0 s) := by
  unfold stopQuad
  exact (restQuad_kept (kept_foldl (fun _ _ h1 => (abandonTest_kept (abandonStep_kept (replay_kept h1)))) h))

theorem restartQuad_kept {a0 : Nat} (h : Kept p s) :
    Kept p (restartQuad a0 s) := by
  unfold restartQuad
  extract_lets x1
  have h2 : Kept p x1 := (State.onQuadClk_kept h)
  exact (kept_foldl (fun _ _ h3 => (State.onRanks_kept (kept_ite h3 (takePoint_kept h3)))) h2)

theorem settleQuad_kept {a0 : Nat} (h : Kept p s) :
    Kept p (settleQuad a0 s) := by
  unfold settleQuad
  extract_lets x1 x2 x3
  have h4 : Kept p x3 := (restSpares_kept (State.onQuadClk_kept h))
  exact (kept_ite (kept_ite (State.onQuadClk_kept h) (restartQuad_kept h)) (kept_ite (kept_ite (resumeTests_kept h4) h4) h))

theorem retStep_kept {a0 : Nat} (h : Kept p s) :
    Kept p (retStep a0 s) := by
  unfold retStep
  extract_lets x1
  exact (kept_mk h)

theorem returnChecks_kept (h : Kept p s) :
    Kept p (returnChecks s) := by
  unfold returnChecks
  exact (kept_foldl (fun _ _ h1 => (State.onRanks_kept h1)) (retStep_kept h))

theorem returnPay_kept (h : Kept p s) :
    Kept p (returnPay s) := by
  unfold returnPay
  extract_lets x1 x2 x3
  have h4 : Kept p x2 := (kept_mk h)
  have h5 : Kept p x3 := (raise_kept h)
  exact (kept_ite (returnChecks_kept (raise_kept h4)) (kept_foldl (fun _ _ h6 => (State.onRanks_kept h6)) (retStep_kept h5)))

theorem returnDone_kept (h : Kept p s) :
    Kept p (returnDone s) := by
  unfold returnDone
  extract_lets x1
  exact (raiseReady_kept (resumeTests_kept (restSpares_kept (showClkmon_kept (retStep_kept (kept_mk h))))))

theorem returnStopped_kept (h : Kept p s) :
    Kept p (returnStopped s) := by
  unfold returnStopped
  extract_lets x1 x2 x3
  have h4 : Kept p x2 := (kept_ite (raise_kept (kept_mk h)) (raise_kept h))
  exact (showClkmon_kept (retStep_kept (kept_mk h4)))

theorem settleReturn_kept (h : Kept p s) :
    Kept p (settleReturn s) := by
  unfold settleReturn
  exact (kept_ite h (kept_ite (returnStopped_kept h) (kept_ite (kept_ite (returnPay_kept h) h) (kept_ite (kept_ite (returnChecks_kept h) h) (kept_ite (returnDone_kept h) h)))))

theorem startReturn_kept (h : Kept p s) :
    Kept p (startReturn s) := by
  unfold startReturn
  extract_lets x1 x2 x3 x4 x5 x6 x7 x8
  have h9 : Kept p x1 := by
    unfold x1
    refine kept_foldl (fun _ _ h12 => ?_) ?_
    · exact (kept_ite (replay_kept h12) h12)
    · exact h
  have h13 : Kept p x2 := (State.stamp_kept (State.bump_kept h9))
  have h14 : Kept p x4 := (kept_ite (spillStops_kept (event_kept (kept_mk h13))) h13)
  have h15 : Kept p x6 := (sourceChanged_kept (kept_mk h14))
  have h16 : Kept p x7 := (startPll_kept h15)
  refine kept_foldl (fun _ _ h18 => ?_) ?_
  · extract_lets x19 x20 x21
    have h22 : Kept p x20 := (kept_foldl (fun _ _ h23 => (startPll_kept h23)) h18)
    have h24 : Kept p x21 := (State.onQuadClk_kept h22)
    exact (kept_ite (stopQuad_kept h24) h24)
  · exact h16

theorem startRamp_kept (h : Kept p s) :
    Kept p (startRamp s) := by
  unfold startRamp
  extract_lets x1
  exact (kept_mk h)

theorem loseChange_kept (h : Kept p s) :
    Kept p (loseChange s) := by
  unfold loseChange
  extract_lets x1 x2
  have h3 : Kept p x1 := (abandonChange_kept h)
  exact (kept_ite (kept_mk h3) h)

theorem loseSwap_kept (h : Kept p s) :
    Kept p (loseSwap s) := by
  unfold loseSwap
  split
  · exact (kept_ite (postSwap_kept (State.onChan_kept (State.onEvac_kept h))) h)
  · exact h

theorem loseCalibration_kept {a0 : Nat} (h : Kept p s) :
    Kept p (loseCalibration a0 s) := by
  unfold loseCalibration
  exact (cancelLatch_kept (cancelLatch_kept (discardWindows_kept (abandonStep_kept h))))

theorem stopService_kept (h : Kept p s) :
    Kept p (stopService s) := by
  unfold stopService
  extract_lets x1 x2
  have h3 : Kept p x1 := (abandonTests_kept (endGaps_kept (startRamp_kept h)))
  have h4 : Kept p x2 := (loseSwap_kept (loseChange_kept (kept_foldl (fun _ _ h5 => (loseCalibration_kept h5)) h3)))
  exact (retStep_kept (kept_ite (takePins_kept h4) h4))

theorem loseClock_kept (h : Kept p s) :
    Kept p (loseClock s) := by
  unfold loseClock
  extract_lets x1 x2 x3 x4 x5
  have h6 : Kept p x1 := (kept_ite (stopService_kept h) h)
  have h7 : Kept p x2 := (kept_ite (grantDark_kept h6) h6)
  exact (kept_mk h7)

theorem reset_canonical : State.reset.canonical = true := by decide

theorem reset_kept : Kept State.reset.fixed State.reset := ⟨rfl, reset_canonical⟩

theorem State.afterReset_kept (h : Kept p s) : Kept p (State.afterReset s) :=
  .of h.fixed reset_kept.cfg reset_kept.stat reset_kept.caps reset_kept.dram

theorem startLoad_kept (h : Kept p s) :
    Kept p (startLoad s) := by
  unfold startLoad
  extract_lets x1
  exact (loadStart_kept (kept_mk h))

theorem startTraining_kept {a0 : Nat} {a1 : List Nat} {a2 : Rank → Rank} (h : Kept p s) :
    Kept p (startTraining a0 a1 a2 s) := by
  unfold startTraining
  exact (kept_foldl (fun _ _ h1 => (startJob_kept (State.onRanks_kept h1))) (State.onQuad_kept h))

theorem startKeptQuad_kept {a0 : Nat} (h : Kept p s) :
    Kept p (startKeptQuad a0 s) := by
  unfold startKeptQuad
  extract_lets x1
  have h2 : Kept p x1 := (startTraining_kept h)
  exact (kept_foldl (fun _ _ h3 => (State.onRanks_kept h3)) h2)

theorem startQuads_kept (h : Kept p s) :
    Kept p (startQuads s) := by
  unfold startQuads
  extract_lets x1 x2 x3
  have h4 : Kept p x1 := (kept_foldl (fun _ _ h5 => (kept_ite (startKeptQuad_kept h5) h5)) h)
  exact (kept_ite h (kept_mk h4))

theorem releaseDreset_kept {a0 : Nat} (h : Kept p s) :
    Kept p (releaseDreset a0 s) := by
  unfold releaseDreset
  extract_lets x1 x2 x3
  have h4 : Kept p x3 := (kept_mk h)
  exact (State.onQuad_kept h4)

theorem settleInit_kept {a0 : Nat} (h : Kept p s) :
    Kept p (settleInit a0 s) := by
  unfold settleInit
  split
  · exact h
  · exact (kept_ite (startQuads_kept (startTraining_kept h)) h)

theorem beginTrainStep_kept {a0 : Nat} {a1 : Nat} (h : Kept p s) :
    Kept p (beginTrainStep a0 a1 s) := by
  unfold beginTrainStep
  extract_lets x1
  have h2 : Kept p x1 := (State.onCal_kept h)
  exact (kept_ite (State.onChan_kept h2) (kept_ite (State.onCal_kept (State.onRanks_kept h2)) (kept_ite (State.onCal_kept h2) h2)))

theorem failTraining_kept {a0 : Nat} (h : Kept p s) :
    Kept p (failTraining a0 s) := by
  unfold failTraining
  exact (dropScratch_kept (State.onChan_kept (State.setSt_kept (State.setSt_kept h))))

theorem settleTrain_kept {a0 : Nat} (h : Kept p s) :
    Kept p (settleTrain a0 s) := by
  unfold settleTrain
  extract_lets x1
  exact (kept_ite h (kept_ite (failTraining_kept h) (kept_ite (beginTrainStep_kept h) h)))

theorem settleTraining_kept {a0 : Nat} (h : Kept p s) :
    Kept p (settleTraining a0 s) := by
  unfold settleTraining
  exact (kept_foldl (fun _ _ h1 => (settleTrain_kept h1)) h)

theorem startMetadata_kept (h : Kept p s) :
    Kept p (startMetadata s) := by
  unfold startMetadata
  extract_lets x1 x2
  have h3 : Kept p x2 := (kept_foldl (fun _ _ h4 => (kept_ite (startClearing_kept h4) (State.setSt_kept (State.setSt_kept h4)))) h)
  split
  · exact h3
  · extract_lets x5 x6
    have h7 : Kept p x5 := (State.onRanks_kept h3)
    have h8 : Kept p x6 := (State.onEvac_kept h7)
    exact (kept_ite (State.onEvac_kept (State.setSt_kept h8)) h8)

theorem keptFailures_kept (h : Kept p s) :
    Kept p (keptFailures s) := by
  unfold keptFailures
  exact (kept_foldl (fun _ _ h1 => (kept_ite h1 (kept_ite (hardFailure_kept (leaveTest_kept (State.onChan_kept h1))) (kept_ite (spareFailed_kept (leaveTest_kept (State.onChan_kept h1))) h1)))) h)

theorem retake_kept (h : Kept p s) :
    Kept p (retake s) := by
  unfold retake
  extract_lets x1
  exact (kept_ite h (kept_ite (takeMode_kept h) (kept_ite (takeMode_kept h) h)))

theorem completeStart_kept (h : Kept p s) :
    Kept p (completeStart s) := by
  unfold completeStart
  extract_lets x1 x2 x3 x4 x5 x6 x7 x8
  have h9 : Kept p x1 := (kept_ite (keptFailures_kept h) (startupRetirement_kept h))
  have h10 : Kept p x2 := (retake_kept h9)
  have h11 : Kept p x3 := (startMetadata_kept h10)
  have h12 : Kept p x4 := (kept_foldl (fun _ _ h13 => (kept_ite (hardSpare_kept h13) h13)) h11)
  have h14 : Kept p x5 := (kept_foldl (fun _ _ h15 => (kept_ite h15 (kept_ite (State.onPort_kept h15) (State.onPort_kept h15)))) h12)
  have h16 : Kept p x8 := (startShaping_kept (kept_mk h14))
  exact (resumeTests_kept (raiseReady_kept h16))

theorem blkStep_kept {a0 : Nat} (h : Kept p s) :
    Kept p (blkStep a0 s) := by
  unfold blkStep
  extract_lets x1
  exact (kept_mk h)

theorem discardWaiting_kept (h : Kept p s) :
    Kept p (discardWaiting s) := by
  unfold discardWaiting
  extract_lets x1
  have h2 : Kept p x1 := by
    unfold x1
    refine kept_foldl (fun _ _ h5 => ?_) ?_
    · extract_lets x6 x7
      exact (State.onPort_kept h5)
    · exact h
  exact (kept_foldl (fun _ _ h8 => (State.onChan_kept (unGrant_kept h8))) h2)

theorem noteKept_kept (h : Kept p s) :
    Kept p (noteKept s) := by
  unfold noteKept
  extract_lets x1 x2
  exact (kept_mk h)

theorem keptFields_wf (s : State) : s.keptFields.wf := by
  unfold State.keptFields
  exact foldl_set_wf _ _ (by decide)

theorem resetState_kept {a0 : Bool} (h : Kept p s) : Kept p (resetState a0 s) := by
  unfold resetState
  extract_lets x1 x2 x3
  have h1 : Kept p x1 := kept_ite (noteKept_kept h) h
  refine .of h1.fixed reset_kept.cfg (keptFields_wf x1) reset_kept.caps ?_
  cases a0
  · exact h1.dram
  · exact reset_kept.dram

theorem resetBlock_kept {a0 : Bool} (h : Kept p s) :
    Kept p (resetBlock a0 s) := by
  unfold resetBlock
  exact (startLoad_kept (resetState_kept h))

theorem stayStopped_kept (h : Kept p s) :
    Kept p (stayStopped s) := by
  unfold stayStopped
  extract_lets x1 x2 x3 x4
  exact (event_kept (kept_mk (zeroize_kept h)))

theorem settleReset_kept (h : Kept p s) :
    Kept p (settleReset s) := by
  unfold settleReset
  extract_lets x1 x2
  have h3 : Kept p x2 := (kept_foldl (fun _ _ h4 => (State.onChan_kept h4)) h)
  exact (kept_ite h (kept_ite (kept_ite h3 (kept_ite (kept_foldl (fun _ _ h5 => (flushCache_kept h5)) h3) (kept_foldl (fun _ _ h6 => (State.onRanks_kept h6)) (blkStep_kept h3)))) (kept_ite (resetBlock_kept h) h)))

theorem startReset_kept (h : Kept p s) :
    Kept p (startReset s) := by
  unfold startReset
  extract_lets x1 x2 x3 x4
  have h5 : Kept p x2 := (noteKept_kept (kept_mk h))
  have h6 : Kept p x3 := (kept_mk h5)
  have h7 : Kept p x4 := (discardWaiting_kept (kept_foldl (fun _ _ h8 => (abortScrub_kept h8)) (abortSpills_kept h6)))
  exact (kept_ite h (settleReset_kept (blkStep_kept (abandonTests_kept (kept_foldl (fun _ _ h9 => (abandonStep_kept h9)) h7)))))

theorem gainClock_kept (h : Kept p s) :
    Kept p (gainClock s) := by
  unfold gainClock
  extract_lets x1 x2 x3 x4 x5 x6 x7
  have h8 : Kept p x4 := (kept_mk h)
  have h9 : Kept p x6 := (State.afterReset_kept h8)
  have h10 : Kept p x7 := (kept_mk h9)
  exact (kept_ite (kept_mk h) (kept_ite (kept_ite (stayStopped_kept h10) (startLoad_kept h10)) (kept_ite (kept_ite (stayStopped_kept (resetState_kept h8)) (resetBlock_kept h8)) (startReturn_kept h8))))

theorem coreOnPll_kept (h : Kept p s) :
    Kept p (coreOnPll s) := by
  unfold coreOnPll
  extract_lets x1 x2 x3 x4 x5
  have h6 : Kept p x1 := (State.onPll_kept h)
  have h7 : Kept p x3 := (sourceChanged_kept (kept_mk h6))
  have h8 : Kept p x5 := (kept_mk h7)
  apply kept_ite
  · exact (startQuads_kept (kept_mk h7))
  · apply kept_ite
    · refine kept_foldl (fun _ _ h14 => ?_) ?_
      · extract_lets x15 x16
        have h17 : Kept p x16 := (State.onQuadClk_kept h14)
        exact (kept_ite h14 (kept_foldl (fun _ _ h18 => (State.onRanks_kept h18)) h17))
      · exact h8
    · exact (kept_foldl (fun _ _ h19 => (kept_ite (restartQuad_kept h19) h19)) h7)

theorem coreOnBypass_kept (h : Kept p s) :
    Kept p (coreOnBypass s) := by
  unfold coreOnBypass
  extract_lets x1 x2
  have h3 : Kept p x2 := (sourceChanged_kept (kept_mk h))
  exact (kept_foldl (fun _ _ h4 => (kept_ite h4 (stopQuad_kept h4))) h3)

theorem quadOn_kept {a0 : Nat} {a1 : ClkSrc} {a2 : SwWhy} (h : Kept p s) :
    Kept p (quadOn a0 a1 a2 s) := by
  unfold quadOn
  extract_lets x1 x2 x3 x4
  have h5 : Kept p x1 := (State.onQuadClk_kept h)
  have h6 : Kept p x2 := (kept_foldl (fun _ _ h7 => (State.onPll_kept h7)) h5)
  have h8 : Kept p x4 := (restartCk_kept h6)
  split
  · exact (kept_ite (startQuads_kept (kept_ite (restartQuad_kept h6) h6)) (kept_ite (kept_ite (restQuad_kept h8) (kept_foldl (fun _ _ h9 => (State.onRanks_kept h9)) h8)) (startQuads_kept h6)))
  · exact (stopQuad_kept h6)
  · exact (startQuads_kept (kept_ite (restartQuad_kept h6) h6))
  · exact (settleOp_kept h6)

theorem writeClkmon_kept {a0 : Nat} {a1 : Nat} (h : Kept p s) :
    Kept p (writeClkmon a0 a1 s) := by
  unfold writeClkmon
  extract_lets x1 x2
  have h3 : Kept p x1 := (State.setCf_kept (State.setCf_kept h))
  exact (showClkmon_kept (kept_mk h3))

theorem reload_kept (h : Kept p s) :
    Kept p (reload s) := by
  unfold reload
  exact (kept_ite (startLoad_kept h) h)

theorem putCodes_kept {a0 : Nat} {a1 : List Nat} (h : Kept p s) :
    Kept p (putCodes a0 a1 s) := by
  unfold putCodes
  extract_lets x1 x2
  have h3 : Kept p x2 := (kept_foldl (fun _ _ h4 => (State.setSt_kept h4)) h)
  exact (State.onQuad_kept h3)

theorem noChecks_kept {a0 : Nat} (h : Kept p s) :
    Kept p (noChecks a0 s) := by
  unfold noChecks
  exact (State.onRanks_kept h)

theorem settleRanks_kept (h : Kept p s) :
    Kept p (settleRanks s) := by
  unfold settleRanks
  extract_lets x1
  have h2 : Kept p x1 := (kept_foldl (fun _ _ h3 => (settleQuad_kept h3)) h)
  exact (settleReset_kept (settleReturn_kept (settleEvac_kept (settleOp_kept h2))))


-- Register

theorem parityFound_kept {a0 : Nat} (h : Kept p s) : Kept p (parityFound a0 s) := by
  unfold parityFound
  extract_lets x1
  have h1 : Kept p x1 := .of h.fixed h.cfg h.stat (put_rising _ _ h.caps) h.dram
  split
  · exact raise_kept h1
  · exact raise_kept (spillHalt_kept h1)
  · exact kept_ite (raise_kept (portHalt_kept h1))
      (kept_ite (raise_kept (kept_foldl (fun _ _ h => abortScrub_kept h) (State.onPort_kept h1))) (raise_kept h1))
  · exact raise_kept h1

theorem parityCheck_kept {a0 : Nat} (h : Kept p s) :
    Kept p (parityCheck a0 s) := by
  unfold parityCheck
  exact (kept_ite (parityFound_kept h) h)

theorem upset_kept {a0 : Nat} {a1 : Word} (h : Kept p s) : Kept p (upset a0 a1 s) := by
  unfold upset
  extract_lets x1 x2
  have h1 : Kept p x2 := .of h.fixed (set_wf _ _ h.cfg) h.stat h.caps h.dram
  exact kept_ite h1 (kept_ite (kept_mk h1) (kept_mk h1))

theorem clearRc_kept {a0 : Nat} (h : Kept p s) : Kept p (clearRc a0 s) := by
  unfold clearRc
  exact kept_ite h (.of h.fixed h.cfg (set_wf _ _ h.stat) h.caps h.dram)

theorem capture_kept {a0 : Nat} (h : Kept p s) : Kept p (capture a0 s) := by
  unfold capture
  exact kept_ite h (.of h.fixed h.cfg h.stat (put_rising _ _ h.caps) h.dram)

theorem readBase_kept {a0 : Nat} (h : Kept p s) : Kept p (readBase a0 s).2 := by
  unfold readBase
  extract_lets x1
  have h1 : Kept p x1 := parityCheck_kept h
  split
  · split
    · exact kept_foldl (fun _ _ h => clearRc_kept h) (kept_foldl (fun _ _ h => capture_kept h) h1)
    · exact h1
  · exact clearRc_kept h1

theorem State.onApb_kept {a1 : ApbPort} {a2 : Apb → Apb} (h : Kept p s) :
    Kept p (State.onApb s a1 a2) := by
  unfold State.onApb
  split
  · exact (kept_mk h)
  · exact (kept_mk h)

theorem answerApb_kept {a0 : ApbPort} {a1 : Bool} {a2 : Word} (h : Kept p s) :
    Kept p (answerApb a0 a1 a2 s) := by
  unfold answerApb
  exact (State.onApb_kept h)

theorem apbRead_kept {a0 : ApbRead} (h : Kept p s) :
    Kept p (apbRead a0 s) := by
  unfold apbRead
  extract_lets x1
  apply kept_ite
  · exact (answerApb_kept h)
  · split
    · split
      · exact (answerApb_kept h)
      · split
        · rename_i heq
          have h2 := congrArg Prod.snd heq ▸ readBase_kept h
          exact (answerApb_kept h2)
    · exact (answerApb_kept h)

theorem flagWrite_kept {a0 : Nat} {a1 : Nat} (h : Kept p s) :
    Kept p (flagWrite a0 a1 s) := by
  unfold flagWrite
  extract_lets x1
  have h2 : Kept p x1 := (State.setBits_kept h)
  exact (kept_ite (State.setSt_kept (State.setSt_kept h2)) (State.setSt_kept h2))

theorem storeBypass_kept {a0 : Nat} {a1 : Nat} {a2 : Word} {a3 : Word} (h : Kept p s) :
    Kept p (storeBypass a0 a1 a2 a3 s) := by
  unfold storeBypass
  exact (kept_ite (State.setCfgWord_kept h) (kept_ite (enterBypass_kept h) (leaveBypass_kept h)))

theorem storePause_kept {a0 : Nat} {a1 : Nat} {a2 : Word} {a3 : Word} (h : Kept p s) :
    Kept p (storePause a0 a1 a2 a3 s) := by
  unfold storePause
  exact (kept_ite (State.setCfgWord_kept h) (kept_ite (calPause_kept h) (calUnpause_kept h)))

theorem storeShaper_kept {a0 : Nat} {a1 : Nat} {a2 : Word} {a3 : Word} (h : Kept p s) :
    Kept p (storeShaper a0 a1 a2 a3 s) := by
  unfold storeShaper
  extract_lets x1 x2 x3 x4
  have h5 : Kept p x4 := (State.setCfgWord_kept h)
  exact (kept_ite h5 (State.onPort_kept h5))

theorem storeReg_kept {a0 : Nat} {a1 a2 : Word} (h : Kept p s) : Kept p (storeReg a0 a1 a2 s) := by
  unfold storeReg
  split
  · exact kept_ite (.of h.fixed (set_wf _ _ h.cfg) h.stat (put_rising _ _ h.caps) h.dram) h
  · split
    · exact holdLow_kept h
    · exact writeHigh_kept h
    · extract_lets x1
      have h1 : Kept p x1 := kept_foldl (fun _ _ h => beforeSelect_kept h) h
      have h2 := State.setCfgWord_kept (a1 := a0) (a2 := a2) h1
      split
      · exact kept_ite (writePin_kept h1) (kept_ite (writeClkmon_kept h1) h2)
      · exact kept_ite h1 h2
      · exact kept_ite (storeShaper_kept h1) h2
      · exact kept_ite (storeBypass_kept h1) (kept_ite (storePause_kept h1) h2)
      · exact h2

theorem bitDoes_kept {a0 : Word} {a1 : Nat} {a2 : State → State} (k2 : ∀ y0, Kept p y0 → Kept p (a2 y0)) (h : Kept p s) :
    Kept p (bitDoes a0 a1 a2 s) := by
  unfold bitDoes
  exact (kept_ite (k2 _ h) h)

theorem actTb_kept {a0 : Nat} {a1 : Word} (h : Kept p s) :
    Kept p (actTb a0 a1 s) := by
  unfold actTb
  apply kept_ite
  · refine bitDoes_kept (fun _ h7 => ?_) ?_
    · extract_lets x8
      exact (kept_mk h7)
    · exact h
  · apply kept_ite
    · refine bitDoes_kept (fun _ h14 => ?_) ?_
      · extract_lets x15
        exact (kept_mk h14)
      · exact h
    · exact (kept_ite (bitDoes_kept (fun _ h16 => (exitDsm_kept h16)) (bitDoes_kept (fun _ h17 => (enterDsm_kept h17)) h)) (kept_ite (bitDoes_kept (fun _ h18 => (restartCore_kept h18)) h) h))

theorem actFt_kept {a0 : Nat} {a1 : Word} (h : Kept p s) :
    Kept p (actFt a0 a1 s) := by
  unfold actFt
  exact (kept_ite (ack_kept h) (kept_ite (bitDoes_kept (fun _ h1 => (requestEvac_kept h1)) h) (kept_ite (clearLog_kept h) (kept_ite (clearScruple_kept h) h))))

theorem actPt_kept {a0 : Nat} {a1 : Nat} {a2 : Word} (h : Kept p s) :
    Kept p (actPt a0 a1 a2 s) := by
  unfold actPt
  extract_lets x1
  have h2 : Kept p x1 := (kept_ite (portStop_kept h) (bitDoes_kept (fun _ h3 => (portResume_kept h3)) h))
  exact (kept_ite (bitDoes_kept (fun _ h4 => (flushStart_kept h4)) h2) (kept_ite (clearCounters_kept h) h))

theorem actCh_kept {a0 : Nat} {a1 : Nat} {a2 : Word} (h : Kept p s) :
    Kept p (actCh a0 a1 a2 s) := by
  unfold actCh
  exact (kept_ite (writeTst_kept h) (kept_ite (clearCounters_kept h) h))

theorem actQd_kept {a0 : Nat} {a1 : Nat} {a2 : Word} (h : Kept p s) :
    Kept p (actQd a0 a1 a2 s) := by
  unfold actQd
  extract_lets x1
  have h2 : Kept p x1 := (kept_ite (sweepQuad_kept h) h)
  exact (kept_ite (bitDoes_kept (fun _ h3 => (goOp_kept h3)) h) (kept_ite (kept_ite (abortScrub_kept h) (bitDoes_kept (fun _ h4 => (startScrub_kept h4)) h)) (kept_ite (kept_foldl (fun _ _ h5 => (bitDoes_kept (fun _ h6 => (requestRetrain_kept h6)) h5)) h2) (kept_ite (bitDoes_kept (fun _ h7 => (restartPhy_kept h7)) (bitDoes_kept (fun _ h8 => (restartPhy_kept h8)) h)) h))))

theorem actReg_kept {a0 : Nat} {a1 : Word} {a2 : Bool} (h : Kept p s) :
    Kept p (actReg a0 a1 a2 s) := by
  unfold actReg
  apply kept_ite
  · exact h
  · split
    · exact (kept_ite (kept_ite (startReset_kept h) h) (kept_ite (reload_kept h) h))
    · exact (actTb_kept h)
    · exact (actFt_kept h)
    · exact (kept_ite (bitDoes_kept (fun _ h1 => (clearBushel_kept h1)) (bitDoes_kept (fun _ h2 => (snapshot_kept h2)) h)) h)
    · exact (kept_ite (writeSpillCtrl_kept h) h)
    · exact (kept_ite (writeKeyCtl_kept h) (kept_ite (writeRekeyCtl_kept h) h))
    · exact (actPt_kept h)
    · exact (actCh_kept h)
    · exact (actQd_kept h)
    · exact h

theorem writeReg_kept {a0 : Image} {a1 : Nat} {a2 : RegDesc} {a3 : ApbWrite} (h : Kept p s) :
    Kept p (writeReg a0 a1 a2 a3 s) := by
  unfold writeReg
  extract_lets x1 x2 x3
  apply kept_ite
  · exact h
  · split
    · extract_lets x4
      have h5 : Kept p x4 := (kept_ite (State.onPerf_kept h) h)
      exact (kept_ite h (actReg_kept (kept_ite h5 (storeReg_kept h5))))

theorem apbWrite_kept {a0 : ApbWrite} (h : Kept p s) :
    Kept p (apbWrite a0 s) := by
  unfold apbWrite
  extract_lets x1 x2 x3
  have h4 : Kept p x3 := (dropHeld_kept h)
  apply kept_ite
  · exact (answerApb_kept h)
  · split
    · exact (answerApb_kept h)
    · split
      · exact (answerApb_kept (flagWrite_kept h4))
      · exact (writeReg_kept (answerApb_kept h4))

theorem runAccess_kept {a0 : Access} (h : Kept p s) :
    Kept p (runAccess a0 s) := by
  unfold runAccess
  split
  · exact (apbWrite_kept h)
  · exact (apbRead_kept h)

theorem beginAccess_kept {a0 : Access} (h : Kept p s) :
    Kept p (beginAccess a0 s) := by
  unfold beginAccess
  extract_lets x1
  exact (kept_ite h (kept_ite (kept_ite (answerApb_kept h) (State.onApb_kept h)) (kept_ite (State.onApb_kept h) (runAccess_kept h))))

theorem settleAccess_kept {a0 : ApbPort} (h : Kept p s) :
    Kept p (settleAccess a0 s) := by
  unfold settleAccess
  split
  · exact (kept_ite h (runAccess_kept h))
  · exact h

theorem aliasAccess_kept {a0 : Nat} {a1 : ApbWrite} (h : Kept p s) :
    Kept p (aliasAccess a0 a1 s) := by
  unfold aliasAccess
  exact (kept_ite h (beginAccess_kept h))

theorem settleWalks_kept (h : Kept p s) :
    Kept p (settleWalks s) := by
  unfold settleWalks
  extract_lets x1
  have h2 : ∀ y0 y1, Kept p y0 → Kept p (x1 y0 y1) := by
    intro y0 y1 h2_0
    unfold x1
    extract_lets x3
    have h4 : Kept p x3 := (parityCheck_kept h2_0)
    exact (kept_ite h4 (upset_kept h4))
  exact (kept_foldl (fun _ _ h5 => (h2 _ _ h5)) (kept_mk h))


-- Tick

theorem advanceClock_kept (h : Kept p s) :
    Kept p (advanceClock s) := by
  unfold advanceClock
  extract_lets x1 x2
  have h3 : Kept p x1 := (kept_mk h)
  exact (kept_ite (kept_mk h3) (kept_mk h3))

theorem advanceLine_kept (h : Kept p s) :
    Kept p (advanceLine s) := by
  unfold advanceLine
  extract_lets x1
  exact (kept_ite (kept_mk h) h)

theorem watchHold_kept {a0 : Nat} (h : Kept p s) :
    Kept p (watchHold a0 s) := by
  unfold watchHold
  extract_lets x1
  split
  · exact (kept_ite h (State.onChan_kept h))
  · extract_lets x2 x3
    exact (State.onChan_kept h)

theorem countWaits_kept {a0 : Nat} (h : Kept p s) :
    Kept p (countWaits a0 s) := by
  unfold countWaits
  exact (kept_foldl (fun _ _ h1 => (State.bump48_kept h1)) h)

theorem markIdle_kept {a0 : Nat} (h : Kept p s) :
    Kept p (markIdle a0 s) := by
  unfold markIdle
  extract_lets x1 x2 x3
  exact (State.onChan_kept h)

theorem wakeRank_kept {a0 : Nat} {a1 : Nat} (h : Kept p s) :
    Kept p (wakeRank a0 a1 s) := by
  unfold wakeRank
  exact (kept_ite (State.onRank_kept h) h)

theorem takeEntries_kept {a0 : Nat} {a1 : Op → Bool} (h : Kept p s) :
    Kept p (takeEntries a0 a1 s) := by
  unfold takeEntries
  extract_lets x1
  refine kept_foldl (fun _ _ h3 => ?_) ?_
  · split
    · exact (State.onOp_kept h3)
    · exact h3
  · exact h

theorem serveEntries_kept {a0 : Nat} (h : Kept p s) :
    Kept p (serveEntries a0 s) := by
  unfold serveEntries
  extract_lets x1 x2
  have h3 : Kept p x1 := (takeEntries_kept h)
  have h4 : Kept p x2 := (kept_ite (startEvictions_kept (promote_kept h3)) h3)
  exact (takeEntries_kept h4)

theorem latchMode_kept {a0 : Nat} (h : Kept p s) :
    Kept p (latchMode a0 s) := by
  unfold latchMode
  exact (kept_ite (State.onChan_kept h) h)

theorem settleReserve_kept {a0 : Nat} (h : Kept p s) :
    Kept p (settleReserve a0 s) := by
  unfold settleReserve
  exact (kept_ite (reserveSpare_kept h) h)

theorem serveChan_kept {a0 : Nat} (h : Kept p s) :
    Kept p (serveChan a0 s) := by
  unfold serveChan
  extract_lets x1
  have h2 : Kept p x1 := (kept_ite (clearNext_kept h) h)
  exact (kept_ite (wakeRank_kept (wakeRank_kept h2)) h)

theorem handWork_kept {a0 : Nat} (h : Kept p s) :
    Kept p (handWork a0 s) := by
  unfold handWork
  exact (kept_ite (handScratch_kept (handMirror_kept (settleCheck_kept h))) h)

theorem restIntake_kept {a0 : Nat} (h : Kept p s) :
    Kept p (restIntake a0 s) := by
  unfold restIntake
  extract_lets x1
  have h2 : Kept p x1 := (kept_ite (countWaits_kept (watchHold_kept h)) h)
  exact (State.onChan_kept (markIdle_kept h2))

theorem tickChan_kept {a0 : Nat} (h : Kept p s) :
    Kept p (tickChan a0 s) := by
  unfold tickChan
  extract_lets x1 x2
  have h3 : Kept p x1 := (startOsc_kept (restIntake_kept h))
  have h4 : Kept p x2 := (latchMode_kept (handWork_kept (serveChan_kept (serveEntries_kept h3))))
  exact (settleReserve_kept (settleFill_kept (settleTest_kept (settleHard_kept h4))))

theorem tickQuad_kept {a0 : Nat} (h : Kept p s) :
    Kept p (tickQuad a0 s) := by
  unfold tickQuad
  extract_lets x1
  have h2 : Kept p x1 := (kept_ite (mopStep_kept h) h)
  exact (settleTraining_kept (settleInit_kept (settleQuad_kept (settleBypass_kept h2))))

theorem settleBlock_kept (h : Kept p s) :
    Kept p (settleBlock s) := by
  unfold settleBlock
  extract_lets x1
  have h2 : Kept p x1 := (settleHalt_kept (settleQuiesce_kept (settleDsm_kept (settleEvac_kept (settleOp_kept h)))))
  exact (settleReset_kept (settleReturn_kept h2))

theorem tickSpill_kept (h : Kept p s) :
    Kept p (tickSpill s) := by
  unfold tickSpill
  exact (kept_foldl (fun _ _ h1 => (settleSpill_kept h1)) (spillRequests_kept h))

theorem endCc_kept (h : Kept p s) :
    Kept p (endCc s) := by
  unfold endCc
  exact (settleLog_kept (settleScruple_kept (settleWalks_kept (countAll_kept (kept_foldl (fun _ _ h1 => (tunCc_kept h1)) h)))))

theorem showResponses_kept (h : Kept p s) :
    Kept p (showResponses s) := by
  unfold showResponses
  exact (kept_foldl (fun _ _ h1 => (showB_kept h1)) h)

theorem tickStopped_kept (h : Kept p s) :
    Kept p (tickStopped s) := by
  unfold tickStopped
  extract_lets x1
  have h2 : Kept p x1 := (settleLog_kept (settleScruple_kept h))
  exact (settleAccess_kept (settleAccess_kept (kept_mk h2)))

theorem tick_kept (h : Kept p s) :
    Kept p (tick s) := by
  unfold tick
  extract_lets x1 x2 x3 x4 x5 x6 x7
  have h8 : Kept p x1 := (endCc_kept h)
  have h9 : Kept p x2 := (advanceLine_kept (advanceClock_kept (kept_mk h8)))
  have h10 : Kept p x3 := (settleAccess_kept (settleAccess_kept (gateCopyStep_kept (calCopyStep_kept h9))))
  have h11 : Kept p x4 := (beginGrants_kept h10)
  have h12 : Kept p x5 := (kept_foldl (fun _ _ h13 => (tickChan_kept h13)) h11)
  have h14 : Kept p x6 := (kept_foldl (fun _ _ h15 => (tickQuad_kept h15)) h12)
  have h16 : Kept p x7 := (settleBlock_kept (tickSpill_kept h14))
  exact (kept_ite h (kept_ite (tickStopped_kept h) (showResponses_kept (kept_mk h16))))

end Sys2Proof.Machine
end

