-- ==== Sys2Proof/Laws/KeptCommands.lean ====
section
/-!
SUPPORT. Every command keeps the canonical form and what `Fixed` lists (`Keeps`): one lemma for each; for the two commands of
PORST_N, what they keep of it.
-/

namespace Sys2Proof.Machine

variable {p : Fixed} {s : State}

/-- Where an outcome is a next state, `Kept p` holds there. -/
def Keeps (p : Fixed) (o : Host.Outcome State Fault Refusal) : Prop := ∀ t, o = .next t → Kept p t

theorem keeps_next {t : State} (h : Kept p t) : Keeps p (.next t) := by
  intro t' e
  cases e
  exact h

theorem keeps_refused {r : Refusal} : Keeps p (.refused r) := by
  intro t e
  cases e

theorem keeps_ite {a b : Host.Outcome State Fault Refusal} {c : Prop} [Decidable c] (ha : Keeps p a) (hb : Keeps p b) :
    Keeps p (if c then a else b) := by
  split
  · exact ha
  · exact hb

/-- The state that the end of a transaction leads to. -/
def LoadResult.state : LoadResult → State
  | .goOn s => s
  | .recordGood s => s

theorem loadBytes_kept (bs : List Byte) (h : Kept p s) :
    Kept p (loadBytes bs s).state := by
  unfold loadBytes
  dsimp only
  split
  · exact h
  · split
    · exact loadFail_kept h
    · split
      · exact loadFail_kept (kept_mk h)
      · exact busRead_kept (kept_mk h)
  · split
    · exact loadFail_kept (kept_mk h)
    · exact passStart_kept (kept_mk h)
  · split
    · exact loadFail_kept (kept_mk h)
    · split
      · exact recordRead_kept (kept_mk h)
      · split
        · exact loadFail_kept (kept_mk h)
        · exact passStart_kept (kept_mk h)
  · split
    · exact recordRead_kept (kept_mk h)
    · split
      · exact loadFail_kept (kept_mk h)
      · exact recordValues_kept (kept_mk h)

-- Ports

theorem execRequest_kept {a0 : Fin 28} {a1 : BitVec 34} {a2 : BitVec 6} {a3 : Bool} {a4 : BitVec 8} {a5 : Bool} (h : Kept p s) :
    Keeps p (execRequest a0 a1 a2 a3 a4 a5 s) := by
  unfold execRequest
  exact (keeps_ite (keeps_next (accept__kept h)) (keeps_ite (keeps_next (State.note_kept h)) (keeps_next h)))

theorem execWriteBeat_kept {a0 : Fin 28} {a1 : Beat} {a2 : BitVec 64} {a3 : Bool} (h : Kept p s) :
    Keeps p (execWriteBeat a0 a1 a2 a3 s) := by
  unfold execWriteBeat
  exact (keeps_next (kept_ite (takeBeat_kept h) h))

theorem execSplit_kept {a0 : Fin 30} (h : Kept p s) :
    Keeps p (execSplit a0 s) := by
  unfold execSplit
  exact (keeps_next (kept_ite (splitNext_kept h) h))

theorem execReadResponseStart_kept {a0 : Fin 30} {a1 : BitVec 8} (h : Kept p s) :
    Keeps p (execReadResponseStart a0 a1 s) := by
  unfold execReadResponseStart
  apply keeps_ite
  · split
    · exact (keeps_next (State.onPort_kept h))
    · exact (keeps_next h)
  · exact (keeps_next h)

theorem execTunPointerMismatch_kept {a0 : Fin 4} (h : Kept p s) :
    Keeps p (execTunPointerMismatch a0 s) := by
  unfold execTunPointerMismatch
  exact (keeps_next (kept_ite (tunReset_kept h) h))

theorem execFlush_kept {a0 : Fin 4} (h : Kept p s) :
    Keeps p (execFlush a0 s) := by
  unfold execFlush
  exact (keeps_next (kept_ite (flushStart_kept (dropHeld_kept h)) h))

theorem execFlushDone_kept {a0 : Fin 4} (h : Kept p s) :
    Keeps p (execFlushDone a0 s) := by
  unfold execFlushDone
  exact (keeps_next (kept_ite (State.onPort_kept (State.setBits_kept h)) h))

theorem execResume_kept {a0 : Fin 30} (h : Kept p s) :
    Keeps p (execResume a0 s) := by
  unfold execResume
  exact (keeps_next (kept_ite (portResume_kept (dropHeld_kept h)) h))

theorem execDrainComplete_kept {a0 : Fin 30} (h : Kept p s) :
    Keeps p (execDrainComplete a0 s) := by
  unfold execDrainComplete
  exact (keeps_next (kept_ite (State.onPort_kept h) h))


-- Raster

theorem execRsiEventNone_kept {a0 : BitVec 64} (h : Kept p s) :
    Keeps p (execRsiEventNone a0 s) := by
  unfold execRsiEventNone
  exact (keeps_next (kept_ite (takeWord_kept h) h))

theorem execLineStart_kept {a0 : BitVec 64} (h : Kept p s) :
    Keeps p (execLineStart a0 s) := by
  unfold execLineStart
  exact (keeps_next (kept_ite (measure_kept (lineWord_kept (takeWord_kept h))) h))

theorem execModeChange_kept {a0 : BitVec 64} (h : Kept p s) :
    Keeps p (execModeChange a0 s) := by
  unfold execModeChange
  extract_lets x1 x2
  have h3 : Kept p x1 := (takeWord_kept h)
  exact (keeps_next (kept_ite (kept_ite (kept_mk h3) h3) h))

theorem execCorruptWord_kept {a0 : BitVec 64} (h : Kept p s) :
    Keeps p (execCorruptWord a0 s) := by
  unfold execCorruptWord
  extract_lets x1 x2 x3 x4
  have h5 : Kept p x2 := (State.bump_kept h)
  have h6 : Kept p x4 := (kept_mk h5)
  exact (keeps_ite (keeps_next (kept_ite (raise_kept h6) h6)) (keeps_next h))

theorem execGrainWrap_kept (h : Kept p s) :
    Keeps p (execGrainWrap s) := by
  unfold execGrainWrap
  extract_lets x1 x2
  have h3 : Kept p x2 := (kept_mk h)
  exact (keeps_ite (keeps_next (beginLine_kept h3)) (keeps_next h))

theorem execHoldoverEntry_kept (h : Kept p s) :
    Keeps p (execHoldoverEntry s) := by
  unfold execHoldoverEntry
  extract_lets x1 x2
  have h3 : Kept p x2 := (kept_mk h)
  exact (keeps_ite (keeps_next (event_kept (State.bump_kept h3))) (keeps_next h))

theorem execHoldoverLimit_kept (h : Kept p s) :
    Keeps p (execHoldoverLimit s) := by
  unfold execHoldoverLimit
  exact (keeps_ite (keeps_next (raise_kept (State.bump_kept (enterNosync_kept h)))) (keeps_next h))


-- Lines

theorem execMetadataLookup_kept {a0 : Fin 4} {a1 : Fin 8} (h : Kept p s) :
    Keeps p (execMetadataLookup a0 a1 s) := by
  unfold execMetadataLookup
  exact (keeps_next (kept_ite (laneStep_kept h) h))

theorem execReadDataReturn_kept {a0 : Fin 16} {a1 : Nat} {a2 : Line} (h : Kept p s) :
    Keeps p (execReadDataReturn a0 a1 a2 s) := by
  unfold execReadDataReturn
  split
  · extract_lets x1
    apply keeps_ite
    · split
      · exact (keeps_next (recomputeRead_kept h))
      · exact (keeps_next (finishOp_kept h))
      · exact (keeps_next (finishOp_kept h))
      · exact (keeps_next (checkLine_kept h))
      · exact (keeps_next (checkLine_kept h))
      · exact (keeps_next (checkLine_kept h))
      · exact (keeps_next (checkLine_kept h))
      · exact (keeps_next (checkLine_kept h))
      · exact (keeps_next h)
    · exact (keeps_next h)
  · exact (keeps_next h)

theorem execSecondRefetchDue_kept {a0 : Fin 16} {a1 : Nat} (h : Kept p s) :
    Keeps p (execSecondRefetchDue a0 a1 s) := by
  unfold execSecondRefetchDue
  split
  · exact (keeps_ite (keeps_next (refetch_kept h)) (keeps_next h))
  · exact (keeps_next h)

theorem execFillInstall_kept {a0 : Fin 16} {a1 : Nat} {a2 : Line} (h : Kept p s) :
    Keeps p (execFillInstall a0 a1 a2 s) := by
  unfold execFillInstall
  split
  · exact (keeps_ite (keeps_next (fillReturn_kept h)) (keeps_next h))
  · exact (keeps_next h)

theorem execRecomputeComplete_kept {a0 : Fin 4} {a1 : Nat} (h : Kept p s) :
    Keeps p (execRecomputeComplete a0 a1 s) := by
  unfold execRecomputeComplete
  split
  · exact (keeps_next (kept_ite (rebuilt_kept h) h))
  · exact (keeps_next h)


-- Engine

theorem execAct_kept {a0 : Fin 16} (h : Kept p s) :
    Keeps p (execAct a0 s) := by
  unfold execAct
  split
  · exact (keeps_next (issueAct_kept h))
  · exact (keeps_next h)

theorem execRd_kept {a0 : Fin 16} (h : Kept p s) :
    Keeps p (execRd a0 s) := by
  unfold execRd
  split
  · exact (keeps_next (issueRd_kept h))
  · exact (keeps_next h)

theorem execWr_kept {a0 : Fin 16} (h : Kept p s) :
    Keeps p (execWr a0 s) := by
  unfold execWr
  split
  · exact (keeps_next (issueWr_kept h))
  · exact (keeps_next h)

theorem execPre_kept {a0 : Fin 16} (h : Kept p s) :
    Keeps p (execPre a0 s) := by
  unfold execPre
  split
  · exact (keeps_next (issuePre_kept h))
  · exact (keeps_next h)

theorem execRefpb_kept {a0 : Fin 16} (h : Kept p s) :
    Keeps p (execRefpb a0 s) := by
  unfold execRefpb
  split
  · exact (keeps_next (issueRefpb_kept h))
  · exact (keeps_next h)

theorem execRefab_kept {a0 : Fin 16} (h : Kept p s) :
    Keeps p (execRefab a0 s) := by
  unfold execRefab
  split
  · exact (keeps_next (issueRefab_kept h))
  · exact (keeps_next h)

theorem execRfmpb_kept {a0 : Fin 16} (h : Kept p s) :
    Keeps p (execRfmpb a0 s) := by
  unfold execRfmpb
  split
  · exact (keeps_next (issueRfm_kept h))
  · exact (keeps_next h)

theorem execRcdExpiry_kept {a0 : Fin 16} {a1 : Fin 2} {a2 : Fin 16} (h : Kept p s) :
    Keeps p (execRcdExpiry a0 a1 a2 s) := by
  unfold execRcdExpiry
  extract_lets x1
  exact (keeps_next (kept_ite (State.onBank_kept h) h))

theorem execPrechargeDone_kept {a0 : Fin 16} {a1 : Fin 2} {a2 : Fin 16} (h : Kept p s) :
    Keeps p (execPrechargeDone a0 a1 a2 s) := by
  unfold execPrechargeDone
  extract_lets x1 x2 x3
  exact (keeps_next (kept_ite (State.onBank_kept h) h))

theorem execRefreshDone_kept {a0 : Fin 16} {a1 : Fin 2} {a2 : Fin 16} (h : Kept p s) :
    Keeps p (execRefreshDone a0 a1 a2 s) := by
  unfold execRefreshDone
  extract_lets x1 x2 x3
  exact (keeps_next (kept_ite (State.onBank_kept h) h))

theorem execDataBusModeChange_kept {a0 : Fin 16} (h : Kept p s) :
    Keeps p (execDataBusModeChange a0 s) := by
  unfold execDataBusModeChange
  extract_lets x1 x2
  exact (keeps_ite (keeps_next (State.note_kept (State.onChan_kept h))) (keeps_next h))

theorem execWriteRecoveryExpiry_kept {a0 : Fin 16} {a1 : Nat} (h : Kept p s) :
    Keeps p (execWriteRecoveryExpiry a0 a1 s) := by
  unfold execWriteRecoveryExpiry
  split
  · exact (keeps_ite (keeps_next (recovered_kept h)) (keeps_next h))
  · exact (keeps_next h)

theorem execIdleClose_kept {a0 : Fin 16} {a1 : Fin 2} {a2 : Fin 16} (h : Kept p s) :
    Keeps p (execIdleClose a0 a1 a2 s) := by
  unfold execIdleClose
  extract_lets x1 x2
  exact (keeps_ite (keeps_next (issuePre_kept h)) (keeps_next h))

theorem execGillAgeExpiry_kept {a0 : Fin 16} {a1 : Fin 16} (h : Kept p s) :
    Keeps p (execGillAgeExpiry a0 a1 s) := by
  unfold execGillAgeExpiry
  split
  · exact (keeps_ite (keeps_next (State.onChan_kept h)) (keeps_next h))
  · exact (keeps_next h)

theorem execGillToWriteQueue_kept {a0 : Fin 16} {a1 : Fin 16} (h : Kept p s) :
    Keeps p (execGillToWriteQueue a0 a1 s) := by
  unfold execGillToWriteQueue
  extract_lets x1
  split
  · exact (keeps_ite (keeps_next (toWriteQueue_kept h)) (keeps_next h))
  · exact (keeps_next h)


-- Power

theorem execDebtRise_kept {a0 : Fin 16} {a1 : Fin 2} (h : Kept p s) :
    Keeps p (execDebtRise a0 a1 s) := by
  unfold execDebtRise
  exact (keeps_next (kept_ite (riseDebt_kept h) h))

theorem execMr4PollDue_kept {a0 : Fin 16} {a1 : Fin 2} (h : Kept p s) :
    Keeps p (execMr4PollDue a0 a1 s) := by
  unfold execMr4PollDue
  extract_lets x1
  exact (keeps_next (kept_ite (State.onRank_kept h) h))

theorem execMrr_kept {a0 : Fin 16} {a1 : Fin 2} (h : Kept p s) :
    Keeps p (execMrr a0 a1 s) := by
  unfold execMrr
  extract_lets x1
  have h2 : Kept p x1 := (State.onRank_kept h)
  exact (keeps_ite (keeps_next (State.takeSlot_kept h2)) (keeps_next h))

theorem execMr4Result_kept {a0 : Fin 16} {a1 : Fin 2} {a2 : Fin 8} (h : Kept p s) :
    Keeps p (execMr4Result a0 a1 a2 s) := by
  unfold execMr4Result
  extract_lets x1 x2
  have h3 : Kept p x2 := (State.onRank_kept (State.bump_kept h))
  exact (keeps_ite (keeps_next (readClass_kept h3)) (keeps_next h))

theorem execPreab_kept {a0 : Fin 16} {a1 : Fin 2} (h : Kept p s) :
    Keeps p (execPreab a0 a1 s) := by
  unfold execPreab
  exact (keeps_next (kept_ite (issuePreab_kept h) h))

theorem execPde_kept {a0 : Fin 16} {a1 : Fin 2} (h : Kept p s) :
    Keeps p (execPde a0 a1 s) := by
  unfold execPde
  extract_lets x1 x2
  exact (keeps_ite (keeps_next (State.takeSlot_kept (cancelLatch_kept (State.onRank_kept h)))) (keeps_next h))

theorem execPdx_kept {a0 : Fin 16} {a1 : Fin 2} (h : Kept p s) :
    Keeps p (execPdx a0 a1 s) := by
  unfold execPdx
  extract_lets x1 x2
  have h3 : Kept p x2 := (State.onRank_kept h)
  exact (keeps_ite (keeps_next (State.takeSlot_kept h3)) (keeps_next h))

theorem execSelfRefreshIdleExpiry_kept {a0 : Fin 16} {a1 : Fin 2} (h : Kept p s) :
    Keeps p (execSelfRefreshIdleExpiry a0 a1 s) := by
  unfold execSelfRefreshIdleExpiry
  extract_lets x1 x2
  exact (keeps_ite (keeps_next (State.onRank_kept h)) (keeps_next h))

theorem execSrx_kept {a0 : Fin 16} {a1 : Fin 2} (h : Kept p s) :
    Keeps p (execSrx a0 a1 s) := by
  unfold execSrx
  exact (keeps_next (kept_ite (exitRank_kept h) h))

theorem execDeepSleepEntry_kept {a0 : Fin 16} {a1 : Fin 2} (h : Kept p s) :
    Keeps p (execDeepSleepEntry a0 a1 s) := by
  unfold execDeepSleepEntry
  extract_lets x1
  exact (keeps_next (kept_ite (sleepRank_kept h) h))

theorem execDeepSleepExit_kept {a0 : Fin 16} {a1 : Fin 2} (h : Kept p s) :
    Keeps p (execDeepSleepExit a0 a1 s) := by
  unfold execDeepSleepExit
  extract_lets x1
  exact (keeps_ite (keeps_next (State.takeSlot_kept (State.onRank_kept h))) (keeps_next h))

theorem execDsmxExpiry_kept {a0 : Fin 16} {a1 : Fin 2} (h : Kept p s) :
    Keeps p (execDsmxExpiry a0 a1 s) := by
  unfold execDsmxExpiry
  split
  · extract_lets x1
    have h2 : Kept p x1 := (State.onRank_kept h)
    exact (keeps_ite (keeps_next (zqDue_kept h2)) (keeps_next h))
  · exact (keeps_next h)

theorem execCasWsFs_kept {a0 : Fin 16} {a1 : Fin 2} (h : Kept p s) :
    Keeps p (execCasWsFs a0 a1 s) := by
  unfold execCasWsFs
  extract_lets x1 x2
  exact (keeps_ite (keeps_next (State.takeSlot_kept (State.onRank_kept h))) (keeps_next h))


-- Clocks

theorem execAmplitudeReport_kept {a0 : PllId} (h : Kept p s) :
    Keeps p (execAmplitudeReport a0 s) := by
  unfold execAmplitudeReport
  exact (keeps_ite (keeps_next (State.onPll_kept h)) (keeps_next h))

theorem execLockDelayExpiry_kept {a0 : PllId} (h : Kept p s) :
    Keeps p (execLockDelayExpiry a0 s) := by
  unfold execLockDelayExpiry
  exact (keeps_ite (keeps_next (State.onPll_kept h)) (keeps_next h))

theorem execPllAttemptTimeout_kept {a0 : PllId} (h : Kept p s) :
    Keeps p (execPllAttemptTimeout a0 s) := by
  unfold execPllAttemptTimeout
  exact (keeps_ite (keeps_next (attemptFailed_kept h)) (keeps_next h))

theorem execPllRetryPauseExpiry_kept {a0 : PllId} (h : Kept p s) :
    Keeps p (execPllRetryPauseExpiry a0 s) := by
  unfold execPllRetryPauseExpiry
  extract_lets x1
  exact (keeps_ite (keeps_next (State.onPll_kept h)) (keeps_next h))

theorem execAmplitudeDrop_kept {a0 : PllId} (h : Kept p s) :
    Keeps p (execAmplitudeDrop a0 s) := by
  unfold execAmplitudeDrop
  extract_lets x1
  exact (keeps_ite (keeps_next (attemptFailed_kept h)) (keeps_ite (keeps_next (trip_kept h)) (keeps_next h)))

theorem execLossOfLock_kept {a0 : PllId} (h : Kept p s) :
    Keeps p (execLossOfLock a0 s) := by
  unfold execLossOfLock
  exact (keeps_ite (keeps_next (trip_kept h)) (keeps_next h))

theorem execMonitorWindowEnd_kept {a0 : PllId} {a1 : BitVec 16} (h : Kept p s) :
    Keeps p (execMonitorWindowEnd a0 a1 s) := by
  unfold execMonitorWindowEnd
  extract_lets x1 x2
  have h3 : Kept p x2 := (State.onPll_kept (State.setSt_kept h))
  exact (keeps_ite (keeps_ite (keeps_next (trip_kept h3)) (keeps_next h3)) (keeps_next h))

theorem execRestartA_kept {a0 : Fin 4} (h : Kept p s) :
    Keeps p (execRestartA a0 s) := by
  unfold execRestartA
  exact (keeps_next (kept_ite (restartPhy_kept h) h))

theorem execRestartB_kept {a0 : Fin 4} (h : Kept p s) :
    Keeps p (execRestartB a0 s) := by
  unfold execRestartB
  exact (keeps_next (kept_ite (restartPhy_kept h) h))

theorem execCoreRestart_kept (h : Kept p s) :
    Keeps p (execCoreRestart s) := by
  unfold execCoreRestart
  exact (keeps_next (kept_ite (restartCore_kept h) h))


-- OpPoint

theorem execOpPin_kept {a0 : Bool} {a1 : Fin 4} (h : Kept p s) :
    Keeps p (execOpPin a0 a1 s) := by
  unfold execOpPin
  exact (keeps_next (kept_ite (writePin_kept h) h))

theorem execVreqStrobe_kept (h : Kept p s) :
    Keeps p (execVreqStrobe s) := by
  unfold execVreqStrobe
  extract_lets x1 x2
  exact (keeps_ite (keeps_next (kept_mk h)) (keeps_next h))

theorem execVackRise_kept (h : Kept p s) :
    Keeps p (execVackRise s) := by
  unfold execVackRise
  extract_lets x1 x2
  exact (keeps_ite (keeps_next (kept_mk h)) (keeps_next h))

theorem execVackFall_kept (h : Kept p s) :
    Keeps p (execVackFall s) := by
  unfold execVackFall
  extract_lets x1 x2 x3
  have h4 : Kept p x3 := (kept_mk h)
  exact (keeps_ite (keeps_ite (keeps_next (opStep2_kept h4)) (keeps_ite (keeps_next (settleOp_kept (opStep_kept h4))) (keeps_next (settleOp_kept h4)))) (keeps_next h))

theorem execVackTimeout_kept (h : Kept p s) :
    Keeps p (execVackTimeout s) := by
  unfold execVackTimeout
  extract_lets x1 x2 x3
  exact (keeps_ite (keeps_ite (keeps_next (abandonChange_kept (raise_kept h))) (keeps_ite (keeps_next (raise_kept (opStep_kept (kept_mk h)))) (keeps_next h))) (keeps_next h))

theorem execMrw_kept {a0 : Fin 16} {a1 : Fin 2} (h : Kept p s) :
    Keeps p (execMrw a0 a1 s) := by
  unfold execMrw
  extract_lets x1 x2 x3
  have h4 : ∀ y0 y1, Kept p y0 → Kept p (x3 y0 y1) := by
    intro y0 y1 h4_0
    unfold x3
    exact (State.takeSlot_kept (State.onRank_kept h4_0))
  exact (keeps_ite (keeps_next (tryPostOp_kept (h4 _ _ h))) (keeps_ite (keeps_next h) (keeps_ite (keeps_ite (keeps_next (h4 _ _ h)) (keeps_ite (keeps_next (h4 _ _ h)) (keeps_next h))) (keeps_next h))))

theorem execSre_kept {a0 : Fin 16} {a1 : Fin 2} (h : Kept p s) :
    Keeps p (execSre a0 a1 s) := by
  unfold execSre
  extract_lets x1 x2
  exact (keeps_ite (keeps_next (settleOp_kept (sleepRank_kept h))) (keeps_next h))

theorem execDsmEnter_kept (h : Kept p s) :
    Keeps p (execDsmEnter s) := by
  unfold execDsmEnter
  exact (keeps_next (enterDsm_kept h))

theorem execDsmExit_kept (h : Kept p s) :
    Keeps p (execDsmExit s) := by
  unfold execDsmExit
  exact (keeps_next (exitDsm_kept h))


-- Shaping

theorem execShaperTest_kept {a0 : Fin 30} (h : Kept p s) :
    Keeps p (execShaperTest a0 s) := by
  unfold execShaperTest
  exact (keeps_next (kept_ite (shaperTest_kept h) h))

theorem execRodBoundary_kept (h : Kept p s) :
    Keeps p (execRodBoundary s) := by
  unfold execRodBoundary
  extract_lets x1
  exact (keeps_ite (keeps_next (rodWork_kept (kept_mk h))) (keeps_next h))

theorem execRevolutionEnd_kept (h : Kept p s) :
    Keeps p (execRevolutionEnd s) := by
  unfold execRevolutionEnd
  extract_lets x1 x2 x3 x4
  have h5 : Kept p x1 := (kept_foldl (fun _ _ h6 => (State.onPort_kept h6)) h)
  have h7 : Kept p x2 := (State.setSt_kept h5)
  have h8 : Kept p x3 := (kept_ite (commitCalendar_kept h7) h7)
  exact (keeps_ite (keeps_next (rodWork_kept (kept_mk h8))) (keeps_next h))

theorem execCalendarCommitRequest_kept (h : Kept p s) :
    Keeps p (execCalendarCommitRequest s) := by
  unfold execCalendarCommitRequest
  extract_lets x1
  exact (keeps_next (kept_ite (kept_mk h) h))

theorem execGateCommitRequest_kept (h : Kept p s) :
    Keeps p (execGateCommitRequest s) := by
  unfold execGateCommitRequest
  extract_lets x1
  exact (keeps_next (kept_ite (kept_mk h) h))

theorem execCalendarCopyDone_kept (h : Kept p s) :
    Keeps p (execCalendarCopyDone s) := by
  unfold execCalendarCopyDone
  extract_lets x1
  exact (keeps_next (kept_ite (kept_mk h) h))

theorem execGateCopyDone_kept (h : Kept p s) :
    Keeps p (execGateCopyDone s) := by
  unfold execGateCopyDone
  extract_lets x1
  exact (keeps_next (kept_ite (kept_mk h) h))

theorem execGatePass_kept {a0 : Fin 30} (h : Kept p s) :
    Keeps p (execGatePass a0 s) := by
  unfold execGatePass
  apply keeps_ite
  · split
    · exact (keeps_next h)
    · extract_lets x1
      have h2 : ∀ y0, Kept p y0 → Kept p (x1 y0) := by
        intro y0 h2_0
        unfold x1
        exact (State.onPort_kept h2_0)
      split
      · exact (keeps_ite (keeps_next h) (keeps_next (State.bump_kept (State.onPort_kept h))))
      · exact (keeps_next (h2 _ h))
      · exact (keeps_next (h2 _ (State.bump_kept h)))
  · exact (keeps_next h)


-- Intake

theorem execIntakeDecision_kept {a0 : Fin 16} (h : Kept p s) :
    Keeps p (execIntakeDecision a0 s) := by
  unfold execIntakeDecision
  extract_lets x1 x2
  have h3 : Kept p x1 := (pressEviction_kept (turnAwayAll_kept (promote_kept h)))
  apply keeps_ite
  · clear_value x2
    split
    · exact (keeps_next (takeHold_kept (grant_kept (decided_kept h3))))
    · exact (keeps_next (kept_ite (decide__kept (decided_kept h3)) h3))
  · exact (keeps_next h)

theorem execLineAdmission_kept {a0 : Fin 16} (h : Kept p s) :
    Keeps p (execLineAdmission a0 s) := by
  unfold execLineAdmission
  extract_lets x1 x2
  have h3 : Kept p x1 := (promote_kept h)
  have h4 : Kept p x2 := (State.onChan_kept h3)
  apply keeps_ite
  · split
    · apply keeps_ite
      · apply keeps_next
        apply promote_kept
        split
        · exact (refuseLine_kept h4)
        · exact (admitLine_kept h4)
      · exact (keeps_next h3)
    · exact (keeps_next h3)
  · exact (keeps_next h)

theorem execHoldStallTrip_kept {a0 : Fin 16} (h : Kept p s) :
    Keeps p (execHoldStallTrip a0 s) := by
  unfold execHoldStallTrip
  extract_lets x1 x2 x3
  split
  · extract_lets x4 x5 x6
    have h7 : Kept p x5 := (State.setSt_kept (State.setSt_kept h))
    have h8 : Kept p x6 := (State.stamp_kept (State.bump_kept h7))
    exact (keeps_ite (keeps_next (raise_kept (State.onChan_kept h8))) (keeps_next h))
  · exact (keeps_next h)


-- Scrub

theorem execScrubStart_kept {a0 : Fin 4} (h : Kept p s) :
    Keeps p (execScrubStart a0 s) := by
  unfold execScrubStart
  exact (keeps_next (kept_ite (startScrub_kept h) h))

theorem execScrubAbort_kept {a0 : Fin 4} (h : Kept p s) :
    Keeps p (execScrubAbort a0 s) := by
  unfold execScrubAbort
  exact (keeps_next (kept_ite (abortScrub_kept h) h))

theorem execScrubPassEnd_kept {a0 : Fin 4} (h : Kept p s) :
    Keeps p (execScrubPassEnd a0 s) := by
  unfold execScrubPassEnd
  extract_lets x1 x2
  exact (keeps_next (kept_ite (endScrub_kept h) h))

theorem execIdlePermission_kept {a0 : Fin 16} (h : Kept p s) :
    Keeps p (execIdlePermission a0 s) := by
  unfold execIdlePermission
  exact (keeps_next (kept_ite (idlePermit_kept h) h))


-- Evac

theorem execEvac_kept {a0 : Fin 16} (h : Kept p s) :
    Keeps p (execEvac a0 s) := by
  unfold execEvac
  exact (keeps_next (kept_ite (requestEvac_kept h) h))

theorem execEvacuationStart_kept (h : Kept p s) :
    Keeps p (execEvacuationStart s) := by
  unfold execEvacuationStart
  split
  · split
    · exact (keeps_ite (keeps_next (settleEvac_kept (startEvac_kept h))) (keeps_next h))
    · exact (keeps_next h)
  · exact (keeps_next h)

theorem execChannelSwap_kept (h : Kept p s) :
    Keeps p (execChannelSwap s) := by
  unfold execChannelSwap
  split
  · exact (keeps_next (kept_ite (swapChannels_kept h) h))
  · exact (keeps_next h)

theorem execSwapDrainTimeout_kept (h : Kept p s) :
    Keeps p (execSwapDrainTimeout s) := by
  unfold execSwapDrainTimeout
  split
  · extract_lets x1
    have h2 : Kept p x1 := (State.onChan_kept (State.onEvac_kept h))
    exact (keeps_ite (keeps_next (postSwap_kept (State.bump_kept h2))) (keeps_next h))
  · exact (keeps_next h)


-- Calib

theorem execCalWindowClose_kept {a0 : Fin 16} {a1 : Fin 36} {a2 : Nat} {a3 : Nat} (h : Kept p s) :
    Keeps p (execCalWindowClose a0 a1 a2 a3 s) := by
  unfold execCalWindowClose
  extract_lets x1 x2 x3 x4 x5
  have h6 : Kept p x3 := (State.onCal_kept h)
  have h7 : Kept p x4 := (State.unpost_kept h6)
  exact (keeps_ite (keeps_next (kept_ite (closeSweep_kept h7) (closeTrack_kept h7))) (keeps_next h))

theorem execPeriodicSweep_kept {a0 : Fin 16} (h : Kept p s) :
    Keeps p (execPeriodicSweep a0 s) := by
  unfold execPeriodicSweep
  extract_lets x1 x2
  exact (keeps_next (kept_ite (startSweep_kept h) h))

theorem execSweep_kept {a0 : Fin 4} (h : Kept p s) :
    Keeps p (execSweep a0 s) := by
  unfold execSweep
  exact (keeps_next (kept_ite (sweepQuad_kept h) h))

theorem execRetrain_kept {a0 : Fin 16} (h : Kept p s) :
    Keeps p (execRetrain a0 s) := by
  unfold execRetrain
  exact (keeps_next (kept_ite (requestRetrain_kept h) h))

theorem execCalPause_kept {a0 : Fin 4} (h : Kept p s) :
    Keeps p (execCalPause a0 s) := by
  unfold execCalPause
  exact (keeps_next (kept_ite (calPause_kept h) h))

theorem execCalUnpause_kept {a0 : Fin 4} (h : Kept p s) :
    Keeps p (execCalUnpause a0 s) := by
  unfold execCalUnpause
  exact (keeps_next (kept_ite (calUnpause_kept h) h))

theorem execStaleExpiry_kept {a0 : Fin 16} {a1 : Fin 2} (h : Kept p s) :
    Keeps p (execStaleExpiry a0 a1 s) := by
  unfold execStaleExpiry
  extract_lets x1
  exact (keeps_next (kept_ite (bookStep_kept h) h))

theorem execOscillatorInterval_kept {a0 : Fin 16} {a1 : Fin 2} (h : Kept p s) :
    Keeps p (execOscillatorInterval a0 a1 s) := by
  unfold execOscillatorInterval
  extract_lets x1
  exact (keeps_next (kept_ite (bookStep_kept (State.onCal_kept h)) h))

theorem execOscillatorCount_kept {a0 : Fin 16} {a1 : Fin 2} {a2 : BitVec 16} (h : Kept p s) :
    Keeps p (execOscillatorCount a0 a1 a2 s) := by
  unfold execOscillatorCount
  extract_lets x1
  have h2 : Kept p x1 := (State.onCal_kept h)
  exact (keeps_ite (keeps_next (oscCount_kept (stepDone_kept (State.takeSlot_kept h2)))) (keeps_next h))

theorem execWriteReadCompareInterval_kept {a0 : Fin 16} {a1 : Fin 2} (h : Kept p s) :
    Keeps p (execWriteReadCompareInterval a0 a1 s) := by
  unfold execWriteReadCompareInterval
  extract_lets x1
  exact (keeps_next (kept_ite (bookStep_kept (State.onCal_kept h)) h))

theorem execWriteReadCompareDone_kept {a0 : Fin 16} {a1 : Fin 2} {a2 : List (Bool × Bool)} (h : Kept p s) :
    Keeps p (execWriteReadCompareDone a0 a1 a2 s) := by
  unfold execWriteReadCompareDone
  exact (keeps_next (kept_ite (wrcDone_kept h) h))

theorem execZqInterval_kept {a0 : Fin 4} {a1 : BitVec 6} {a2 : BitVec 6} {a3 : BitVec 6} (h : Kept p s) :
    Keeps p (execZqInterval a0 a1 a2 a3 s) := by
  unfold execZqInterval
  extract_lets x1
  exact (keeps_next (kept_ite (zqInterval_kept h) h))

theorem execZqCalibrationStart_kept {a0 : Fin 16} {a1 : Fin 2} (h : Kept p s) :
    Keeps p (execZqCalibrationStart a0 a1 s) := by
  unfold execZqCalibrationStart
  exact (keeps_ite (keeps_next (stepDone_kept (State.takeSlot_kept (State.onRank_kept h)))) (keeps_next h))

theorem execZqcalExpiry_kept {a0 : Fin 16} {a1 : Fin 2} (h : Kept p s) :
    Keeps p (execZqcalExpiry a0 a1 s) := by
  unfold execZqcalExpiry
  extract_lets x1
  exact (keeps_next (kept_ite (bookStep_kept (State.onRank_kept h)) h))

theorem execZqLatch_kept {a0 : Fin 16} {a1 : Fin 2} (h : Kept p s) :
    Keeps p (execZqLatch a0 a1 s) := by
  unfold execZqLatch
  extract_lets x1 x2 x3 x4
  have h5 : Kept p x3 := (kept_ite (State.bump_kept h) h)
  have h6 : Kept p x4 := (State.onCal_kept h5)
  exact (keeps_ite (keeps_next (stepDone_kept (State.takeSlot_kept (State.onRank_kept h6)))) (keeps_next h))

theorem execTapMove_kept {a0 : TapId} (h : Kept p s) :
    Keeps p (execTapMove a0 s) := by
  unfold execTapMove
  split
  · extract_lets x1 x2
    exact (keeps_ite (keeps_next (countMove_kept (State.onBit_kept (State.setSt_kept h)))) (keeps_next h))
  · extract_lets x3 x4
    exact (keeps_ite (keeps_next (countMove_kept (State.onBit_kept (State.setSt_kept h)))) (keeps_next h))
  · extract_lets x5 x6
    exact (keeps_ite (keeps_next (moveCode_kept h)) (keeps_next h))


-- Perf

theorem hostWrite_kept {a0 : State → State} (k0 : ∀ y0, Kept p y0 → Kept p (a0 y0)) (h : Kept p s) :
    Keeps p (hostWrite a0 s) := by
  unfold hostWrite
  exact (keeps_next (kept_ite (k0 _ h) h))

theorem execCounterLowWrite_kept {a0 : CounterId} {a1 : Word} (h : Kept p s) :
    Keeps p (execCounterLowWrite a0 a1 s) := by
  unfold execCounterLowWrite
  exact (hostWrite_kept (fun _ h1 => (holdLow_kept h1)) h)

theorem execCounterHighWrite_kept {a0 : CounterId} {a1 : Word} (h : Kept p s) :
    Keeps p (execCounterHighWrite a0 a1 s) := by
  unfold execCounterHighWrite
  exact (hostWrite_kept (fun _ h1 => (writeHigh_kept h1)) h)

theorem execClr_kept {a0 : CounterSet} {a1 : BitVec 4} (h : Kept p s) :
    Keeps p (execClr a0 a1 s) := by
  unfold execClr
  extract_lets x1
  exact (hostWrite_kept (fun _ h2 => (clearCounters_kept (dropHeld_kept h2))) h)

theorem execClrall_kept (h : Kept p s) :
    Keeps p (execClrall s) := by
  unfold execClrall
  exact (hostWrite_kept (fun _ h1 => (clearBushel_kept (dropHeld_kept h1))) h)

theorem execSnap_kept (h : Kept p s) :
    Keeps p (execSnap s) := by
  unfold execSnap
  exact (hostWrite_kept (fun _ h1 => (snapshot_kept (dropHeld_kept h1))) h)

theorem execFreeze_kept {a0 : Bool} (h : Kept p s) :
    Keeps p (execFreeze a0 s) := by
  unfold execFreeze
  refine hostWrite_kept (fun _ h2 => ?_) ?_
  · extract_lets x3
    have h4 : Kept p x3 := (dropHeld_kept h2)
    exact (kept_ite (writeFreeze_kept h4) h4)
  · exact h

theorem execCounterWrap_kept {a0 : CounterId} (h : Kept p s) :
    Keeps p (execCounterWrap a0 s) := by
  unfold execCounterWrap
  exact (keeps_next (kept_ite (countNow_kept h) h))

theorem execPmovf_kept (h : Kept p s) :
    Keeps p (execPmovf s) := by
  unfold execPmovf
  exact (keeps_next (kept_ite (event_kept (State.onPerf_kept h)) h))

theorem execAck_kept {a0 : BitVec 3} (h : Kept p s) :
    Keeps p (execAck a0 s) := by
  unfold execAck
  exact (hostWrite_kept (fun _ h1 => (ack_kept h1)) h)

theorem execLogClear_kept {a0 : BitVec 16} (h : Kept p s) :
    Keeps p (execLogClear a0 s) := by
  unfold execLogClear
  exact (hostWrite_kept (fun _ h1 => (clearLog_kept h1)) h)

theorem execScrupleClear_kept {a0 : BitVec 16} (h : Kept p s) :
    Keeps p (execScrupleClear a0 s) := by
  unfold execScrupleClear
  exact (hostWrite_kept (fun _ h1 => (clearScruple_kept h1)) h)


-- Gaps

theorem execFrameStart_kept {a0 : BitVec 64} (h : Kept p s) :
    Keeps p (execFrameStart a0 s) := by
  unfold execFrameStart
  extract_lets x1 x2 x3 x4 x5 x6 x7 x8
  have h9 : Kept p x1 := (takeWord_kept h)
  have h10 : Kept p x4 := (kept_ite h9 (slip_kept h9))
  have h11 : Kept p x5 := (kept_ite (slip_kept h10) h10)
  have h12 : Kept p x6 := (lineWordSeen_kept h11)
  have h13 : Kept p x8 := (kept_ite (beginLine_kept (kept_mk h12)) (newFrame_kept h12))
  exact (keeps_ite (keeps_next h) (keeps_next (measure_kept h13)))

theorem execFrameLineLimit_kept (h : Kept p s) :
    Keeps p (execFrameLineLimit s) := by
  unfold execFrameLineLimit
  extract_lets x1 x2
  have h3 : Kept p x2 := (kept_mk h)
  exact (keeps_ite (keeps_next (newFrame_kept h3)) (keeps_next h))

theorem execHorizontalBlank_kept {a0 : BitVec 64} (h : Kept p s) :
    Keeps p (execHorizontalBlank a0 s) := by
  unfold execHorizontalBlank
  extract_lets x1 x2 x3
  have h4 : Kept p x1 := (takeWord_kept h)
  have h5 : Kept p x3 := (kept_mk h4)
  exact (keeps_ite (keeps_next h) (keeps_ite (keeps_next h4) (keeps_next (kept_ite (openGap_kept h5) h5))))

theorem execHorizontalGapStart_kept (h : Kept p s) :
    Keeps p (execHorizontalGapStart s) := by
  unfold execHorizontalGapStart
  exact (keeps_next (kept_ite (openGap_kept h) h))

theorem execVerticalBlank_kept {a0 : BitVec 64} (h : Kept p s) :
    Keeps p (execVerticalBlank a0 s) := by
  unfold execVerticalBlank
  extract_lets x1 x2 x3
  have h4 : Kept p x2 := (measure_kept (lineWord_kept (takeWord_kept h)))
  exact (keeps_ite (keeps_next h) (keeps_next (openV_kept (kept_mk h4))))

theorem execVerticalGapStart_kept (h : Kept p s) :
    Keeps p (execVerticalGapStart s) := by
  unfold execVerticalGapStart
  exact (keeps_next (kept_ite (openV_kept h) h))

theorem execBookingEnd_kept {a0 : Nat} (h : Kept p s) :
    Keeps p (execBookingEnd a0 s) := by
  unfold execBookingEnd
  split
  · extract_lets x1
    exact (keeps_ite (keeps_next (endWork_kept (kept_mk h))) (keeps_next h))
  · exact (keeps_next h)

theorem execPerchHandover_kept {a0 : Fin 32} {a1 : Fin 16} (h : Kept p s) :
    Keeps p (execPerchHandover a0 a1 s) := by
  unfold execPerchHandover
  exact (keeps_ite (keeps_next h) (keeps_ite (keeps_next (handMaint_kept h)) (keeps_ite (keeps_next (handScratch_kept h)) (keeps_ite (keeps_next (kept_ite (turnAway_kept (handLine_kept h)) (handLine_kept h))) (keeps_next h)))))


-- Keys

theorem execLoad_kept (h : Kept p s) :
    Keeps p (execLoad s) := by
  unfold execLoad
  exact (keeps_next (kept_ite (writeKeyCtl_kept h) h))

theorem execRetire_kept (h : Kept p s) :
    Keeps p (execRetire s) := by
  unfold execRetire
  exact (keeps_next (kept_ite (writeKeyCtl_kept h) h))

theorem execKeyErase_kept {a0 : Fin 2} (h : Kept p s) :
    Keeps p (execKeyErase a0 s) := by
  unfold execKeyErase
  exact (keeps_next (kept_ite (State.onKeys_kept h) h))

theorem execRekeyStart_kept (h : Kept p s) :
    Keeps p (execRekeyStart s) := by
  unfold execRekeyStart
  exact (keeps_next (kept_ite (startRekey_kept h) h))

theorem execRekeyAbort_kept (h : Kept p s) :
    Keeps p (execRekeyAbort s) := by
  unfold execRekeyAbort
  exact (keeps_next (kept_ite (abortRekey_kept h) h))

theorem execRekeyPassEnd_kept (h : Kept p s) :
    Keeps p (execRekeyPassEnd s) := by
  unfold execRekeyPassEnd
  extract_lets x1
  have h2 : Kept p x1 := (State.onKeys_kept (retireSlot_kept h))
  exact (keeps_ite (keeps_next (event_kept (State.bump_kept h2))) (keeps_next h))


-- Maint

theorem execClean_kept {a0 : Fin 4} (h : Kept p s) :
    Keeps p (execClean a0 s) := by
  unfold execClean
  exact (keeps_next (goOp_kept h))

theorem execInvalidate_kept {a0 : Fin 4} (h : Kept p s) :
    Keeps p (execInvalidate a0 s) := by
  unfold execInvalidate
  exact (keeps_next (goOp_kept h))

theorem execPreload_kept {a0 : Fin 4} (h : Kept p s) :
    Keeps p (execPreload a0 s) := by
  unfold execPreload
  exact (keeps_next (goOp_kept h))

theorem execPreloadLock_kept {a0 : Fin 4} (h : Kept p s) :
    Keeps p (execPreloadLock a0 s) := by
  unfold execPreloadLock
  exact (keeps_next (goOp_kept h))

theorem execUnlock_kept {a0 : Fin 4} (h : Kept p s) :
    Keeps p (execUnlock a0 s) := by
  unfold execUnlock
  exact (keeps_next (goOp_kept h))

theorem execReservedOperation_kept {a0 : Fin 4} (h : Kept p s) :
    Keeps p (execReservedOperation a0 s) := by
  unfold execReservedOperation
  exact (keeps_next (goOp_kept h))

theorem execMcOperationDone_kept {a0 : Fin 4} (h : Kept p s) :
    Keeps p (execMcOperationDone a0 s) := by
  unfold execMcOperationDone
  split
  · exact (keeps_next (kept_ite (settleBypass_kept (State.onQuad_kept (State.setSt_kept h))) h))
  · exact (keeps_next h)

theorem execCacheBypassEntry_kept {a0 : Fin 4} (h : Kept p s) :
    Keeps p (execCacheBypassEntry a0 s) := by
  unfold execCacheBypassEntry
  exact (keeps_next (kept_ite (enterBypass_kept h) h))

theorem execBypassEntryDone_kept {a0 : Fin 4} (h : Kept p s) :
    Keeps p (execBypassEntryDone a0 s) := by
  unfold execBypassEntryDone
  exact (keeps_next (kept_ite (State.onQuad_kept h) h))

theorem execCacheBypassExit_kept {a0 : Fin 4} (h : Kept p s) :
    Keeps p (execCacheBypassExit a0 s) := by
  unfold execCacheBypassExit
  exact (keeps_next (kept_ite (leaveBypass_kept h) h))


-- Tap

theorem execTrstNAssert_kept (h : Kept p s) :
    Keeps p (execTrstNAssert s) := by
  unfold execTrstNAssert
  extract_lets x1 x2
  have h3 : Kept p x1 := (updateIr_kept h)
  exact (keeps_next (kept_mk h3))

theorem execIdcode_kept (h : Kept p s) :
    Keeps p (execIdcode s) := by
  unfold execIdcode
  exact (keeps_next (updateIr_kept h))

theorem execSamplePreload_kept (h : Kept p s) :
    Keeps p (execSamplePreload s) := by
  unfold execSamplePreload
  exact (keeps_next (updateIr_kept h))

theorem execExtest_kept (h : Kept p s) :
    Keeps p (execExtest s) := by
  unfold execExtest
  exact (keeps_next (updateIr_kept h))

theorem execClamp_kept (h : Kept p s) :
    Keeps p (execClamp s) := by
  unfold execClamp
  exact (keeps_next (updateIr_kept h))

theorem execHighz_kept (h : Kept p s) :
    Keeps p (execHighz s) := by
  unfold execHighz
  exact (keeps_next (updateIr_kept h))

theorem execChtest_kept (h : Kept p s) :
    Keeps p (execChtest s) := by
  unfold execChtest
  exact (keeps_next (updateIr_kept h))

theorem execChtestUpdate_kept {a0 : BitVec 32} (h : Kept p s) :
    Keeps p (execChtestUpdate a0 s) := by
  unfold execChtestUpdate
  extract_lets x1 x2
  have h3 : Kept p x2 := (kept_mk h)
  exact (keeps_ite (keeps_next (kept_ite (writeTst_kept h3) h3)) (keeps_next h))

theorem execIjtagPub_kept (h : Kept p s) :
    Keeps p (execIjtagPub s) := by
  unfold execIjtagPub
  exact (keeps_next (updateIr_kept h))

theorem execIjtagSec_kept (h : Kept p s) :
    Keeps p (execIjtagSec s) := by
  unfold execIjtagSec
  exact (keeps_next (updateIr_kept h))

theorem execScanmode_kept (h : Kept p s) :
    Keeps p (execScanmode s) := by
  unfold execScanmode
  exact (keeps_next (updateIr_kept h))

theorem execBypass_kept (h : Kept p s) :
    Keeps p (execBypass s) := by
  unfold execBypass
  exact (keeps_next (updateIr_kept h))

theorem execChannelTestGo_kept {a0 : Fin 16} {a1 : Bool} {a2 : Bool} (h : Kept p s) :
    Keeps p (execChannelTestGo a0 a1 a2 s) := by
  unfold execChannelTestGo
  exact (keeps_next (kept_ite (testGo_kept (dropHeld_kept h)) h))

theorem execChannelTestAbort_kept {a0 : Fin 16} (h : Kept p s) :
    Keeps p (execChannelTestAbort a0 s) := by
  unfold execChannelTestAbort
  exact (keeps_next (kept_ite (testAbort_kept (dropHeld_kept h)) h))

theorem execChannelTestEnd_kept {a0 : Fin 16} {a1 : BitVec 16} {a2 : BitVec 5} (h : Kept p s) :
    Keeps p (execChannelTestEnd a0 a1 a2 s) := by
  unfold execChannelTestEnd
  extract_lets x1
  have h2 : Kept p x1 := (State.setSt_kept (State.setSt_kept h))
  exact (keeps_ite (keeps_next (testReturn_kept (State.setSt_kept h2))) (keeps_next h))


-- SpillEngine

theorem spillWrite_kept {a0 : State → State} (k0 : ∀ y0, Kept p y0 → Kept p (a0 y0)) (h : Kept p s) :
    Keeps p (spillWrite a0 s) := by
  unfold spillWrite
  exact (keeps_next (kept_ite (k0 _ h) h))

theorem execSpillStart_kept {a0 : Fin 8} (h : Kept p s) :
    Keeps p (execSpillStart a0 s) := by
  unfold execSpillStart
  exact (spillWrite_kept (fun _ h1 => (spillStart_kept h1)) h)

theorem execKick_kept {a0 : Fin 8} (h : Kept p s) :
    Keeps p (execKick a0 s) := by
  unfold execKick
  exact (spillWrite_kept (fun _ h1 => (spillKick_kept h1)) h)

theorem execSpillPause_kept {a0 : Fin 8} (h : Kept p s) :
    Keeps p (execSpillPause a0 s) := by
  unfold execSpillPause
  exact (spillWrite_kept (fun _ h1 => (spillPause_kept h1)) h)

theorem execSpillResume_kept {a0 : Fin 8} (h : Kept p s) :
    Keeps p (execSpillResume a0 s) := by
  unfold execSpillResume
  exact (spillWrite_kept (fun _ h1 => (spillResume_kept h1)) h)

theorem execSpillAbort_kept {a0 : Fin 8} (h : Kept p s) :
    Keeps p (execSpillAbort a0 s) := by
  unfold execSpillAbort
  exact (spillWrite_kept (fun _ h1 => (spillAbort_kept h1)) h)

theorem execPollExpiry_kept {a0 : Fin 8} (h : Kept p s) :
    Keeps p (execPollExpiry a0 s) := by
  unfold execPollExpiry
  extract_lets x1 x2
  exact (keeps_next (kept_ite (refetchDesc_kept h) h))

theorem execDescriptorFetched_kept {a0 : Fin 8} {a1 : BitVec 256} {a2 : BitVec 2} (h : Kept p s) :
    Keeps p (execDescriptorFetched a0 a1 a2 s) := by
  unfold execDescriptorFetched
  split
  · extract_lets x1
    have h2 : Kept p x1 := (State.onSpill_kept h)
    exact (keeps_ite (keeps_ite (keeps_next (busError_kept (State.onSpill_kept h2))) (keeps_next (gotDesc_kept h2))) (keeps_next h))
  · exact (keeps_next h)

theorem execChunkIssue_kept {a0 : Fin 8} (h : Kept p s) :
    Keeps p (execChunkIssue a0 s) := by
  unfold execChunkIssue
  extract_lets x1
  exact (keeps_next (kept_ite (spillServed_kept (showSpill_kept (issueChunk_kept h))) h))

theorem execAxiReadResponse_kept {a0 : Fin 8} {a1 : List Beat} {a2 : BitVec 2} (h : Kept p s) :
    Keeps p (execAxiReadResponse a0 a1 a2 s) := by
  unfold execAxiReadResponse
  split
  · extract_lets x1 x2
    have h3 : Kept p x1 := (State.onSpill_kept h)
    exact (keeps_ite (keeps_ite (keeps_next (busError_kept (State.onSpill_kept h3))) (keeps_next (settleSpill_kept (State.onSpill_kept h3)))) (keeps_next h))
  · exact (keeps_next h)

theorem execAxiWriteResponse_kept {a0 : Fin 8} {a1 : BitVec 2} (h : Kept p s) :
    Keeps p (execAxiWriteResponse a0 a1 s) := by
  unfold execAxiWriteResponse
  split
  · extract_lets x1 x2 x3 x4 x5 x6
    have h7 : Kept p x1 := (State.onSpill_kept h)
    have h8 : ∀ y0, Kept p (x3 y0) := by
      intro y0 
      unfold x3
      exact (State.onSpill_kept h7)
    have h9 : Kept p x6 := (h8 _)
    apply keeps_ite
    · apply keeps_ite
      · exact (keeps_next (busError_kept (kept_ite (State.onSpill_kept h7) h7)))
      · apply keeps_ite
        · split
          · exact (keeps_next (settleSpill_kept (chunkAcked_kept h7)))
          · exact (keeps_next h7)
        · exact (keeps_ite (keeps_next (kept_ite (State.onSpill_kept h9) h9)) (keeps_next (settleSpill_kept (descDone_kept h7))))
    · exact (keeps_next h)
  · exact (keeps_next h)

theorem execSpillDrainComplete_kept {a0 : Fin 8} (h : Kept p s) :
    Keeps p (execSpillDrainComplete a0 s) := by
  unfold execSpillDrainComplete
  extract_lets x1
  exact (keeps_next (kept_ite (drainSpill_kept h) h))

theorem execReadDataTransfer_kept {a0 : Fin 30} (h : Kept p s) :
    Keeps p (execReadDataTransfer a0 s) := by
  unfold execReadDataTransfer
  split
  · extract_lets x1 x2
    have h3 : Kept p x2 := (sendD_kept h)
    exact (keeps_next (kept_ite (spillRead_kept h3) h3))
  · exact (keeps_next h)

theorem execWriteResponseTransfer_kept {a0 : Fin 30} {a1 : BitVec 8} (h : Kept p s) :
    Keeps p (execWriteResponseTransfer a0 a1 s) := by
  unfold execWriteResponseTransfer
  split
  · extract_lets x1
    have h2 : Kept p x1 := (sendB_kept h)
    exact (keeps_next (kept_ite (spillWrote_kept h2) h2))
  · exact (keeps_next h)

theorem execStop_kept {a0 : Fin 30} (h : Kept p s) :
    Keeps p (execStop a0 s) := by
  unfold execStop
  exact (keeps_next (kept_ite (portStop_kept (dropHeld_kept h)) h))


-- Start

theorem execPorstNAssert_kept {ns : Nat} (h : Kept p s) :
    ∀ t, execPorstNAssert ns s = .next t → t.canonical ∧ t.pending = p.pending ∧ t.instId = p.instId := by
  intro t e
  unfold execPorstNAssert at e
  have hr := State.afterReset_kept h
  split at e
  · cases e
    exact ⟨h.2, h.pending, h.instId⟩
  · split at e
    · cases e
    · cases e
      exact ⟨hr.2, hr.pending, hr.instId⟩

theorem execPorstNRelease_kept {i : BitVec 14} (h : Kept p s) :
    ∀ t, execPorstNRelease i s = .next t → t.canonical ∧ t.pending = p.pending ∧ t.porst = true := by
  intro t e
  unfold execPorstNRelease at e
  split at e
  · cases e
    exact ⟨h.2, h.pending, by assumption⟩
  · dsimp only at e
    have h1 (a b : Apb) (c : Clk) : Kept ⟨p.pending, i, true⟩ { s with porst := true, instId := i, apbM := a, apbK := b, clk := c } :=
      ⟨by rw [← h.pending]; rfl, h.2⟩
    split at e
    · cases e
      have h2 := startLoad_kept (h1 ⟨s.rsiAlive, false, 0, s.apbM.held⟩ ⟨s.rsiAlive, false, 0, s.apbK.held⟩ { s.clk with startStep := 3 })
      exact ⟨h2.2, h2.pending, h2.porst⟩
    · cases e
      have h2 := h1 ⟨s.rsiAlive, false, 0, s.apbM.held⟩ ⟨s.rsiAlive, false, 0, s.apbK.held⟩ { s.clk with startStep := 3 }
      exact ⟨h2.2, h2.pending, h2.porst⟩

theorem execRsiCkPresent_kept (h : Kept p s) :
    Keeps p (execRsiCkPresent s) := by
  unfold execRsiCkPresent
  exact (keeps_next (kept_ite h (gainClock_kept h)))

theorem execRsiCkLoss_kept (h : Kept p s) :
    Keeps p (execRsiCkLoss s) := by
  unfold execRsiCkLoss
  exact (keeps_next (kept_ite h (kept_ite (loseClock_kept h) (kept_mk h))))

theorem execAbsenceTimerExpiry_kept (h : Kept p s) :
    Keeps p (execAbsenceTimerExpiry s) := by
  unfold execAbsenceTimerExpiry
  extract_lets x1
  exact (keeps_next (kept_ite (kept_mk h) h))

theorem execCfgTransactionEnd_kept {a0 : List Byte} (h : Kept p s) : Keeps p (execCfgTransactionEnd a0 s) := by
  unfold execCfgTransactionEnd
  have hl := loadBytes_kept a0 h
  apply keeps_ite
  · split
    · rename_i heq
      rw [heq] at hl
      exact keeps_next hl
    · rename_i heq
      rw [heq] at hl
      exact keeps_next (startAllPlls_kept (synFrame_kept hl))
  · exact keeps_next h

theorem execReload_kept (h : Kept p s) :
    Keeps p (execReload s) := by
  unfold execReload
  exact (keeps_next (reload_kept h))

theorem execLockDetect_kept {a0 : PllId} (h : Kept p s) :
    Keeps p (execLockDetect a0 s) := by
  unfold execLockDetect
  exact (keeps_ite (keeps_next (settleReturn_kept (tryPostOp_kept (takeWant_kept (pllGood_kept h))))) (keeps_next h))

theorem execClockSwitchDone_kept {a0 : SwitchId} (h : Kept p s) :
    Keeps p (execClockSwitchDone a0 s) := by
  unfold execClockSwitchDone
  apply keeps_ite
  · exact (keeps_next h)
  · split
    · split
      · exact (keeps_next (settleReturn_kept (coreOnPll_kept h)))
      · exact (keeps_next (coreOnBypass_kept h))
      · exact (keeps_next h)
    · split
      · exact (keeps_next (settleReturn_kept (quadOn_kept h)))
      · exact (keeps_next h)
    · extract_lets x1
      exact (keeps_next (kept_ite (settleReturn_kept (kept_mk h)) h))
    · extract_lets x2
      exact (keeps_next (kept_ite (showClkmon_kept (kept_mk h)) h))

theorem execForcedSwitch_kept {a0 : SwitchId} (h : Kept p s) :
    Keeps p (execForcedSwitch a0 s) := by
  unfold execForcedSwitch
  split
  · extract_lets x1
    exact (keeps_next (kept_ite (State.bump_kept (kept_mk h)) h))
  · extract_lets x2
    split
    · exact (keeps_next h)
    · extract_lets x3
      exact (keeps_next (kept_ite (State.bump_kept (State.onQuadClk_kept h)) h))
  · exact (keeps_next h)
  · exact (keeps_next h)

theorem execDresetRelease_kept {a0 : Fin 4} (h : Kept p s) :
    Keeps p (execDresetRelease a0 s) := by
  unfold execDresetRelease
  exact (keeps_next (kept_ite (releaseDreset_kept h) h))

theorem execTrainingComplete_kept {a0 : Fin 16} {a1 : CalFound} (h : Kept p s) :
    Keeps p (execTrainingComplete a0 a1 s) := by
  unfold execTrainingComplete
  extract_lets x1
  have h2 : Kept p x1 := (noChecks_kept (restartTracking_kept (initSet_kept h)))
  exact (keeps_next (kept_ite (trainDone_kept (putCodes_kept h2)) h))

theorem execStartupComplete_kept (h : Kept p s) :
    Keeps p (execStartupComplete s) := by
  unfold execStartupComplete
  extract_lets x1
  exact (keeps_next (kept_ite (completeStart_kept h) h))

theorem execDebtPaymentDone_kept {a0 : Fin 16} {a1 : Fin 2} (h : Kept p s) :
    Keeps p (execDebtPaymentDone a0 a1 s) := by
  unfold execDebtPaymentDone
  extract_lets x1
  exact (keeps_next (kept_ite (settleRanks_kept (State.onRank_kept h)) h))

theorem execCheckDone_kept {a0 : Fin 16} {a1 : CalFound} (h : Kept p s) :
    Keeps p (execCheckDone a0 a1 s) := by
  unfold execCheckDone
  extract_lets x1 x2
  exact (keeps_next (kept_ite (settleRanks_kept (checkDone_kept h)) h))

theorem execRetrainDone_kept {a0 : Fin 16} {a1 : CalFound} (h : Kept p s) :
    Keeps p (execRetrainDone a0 a1 s) := by
  unfold execRetrainDone
  extract_lets x1
  exact (keeps_next (kept_ite (settleRanks_kept (retrainDone_kept (noChecks_kept h))) h))

theorem execBlockResetTimeout_kept (h : Kept p s) :
    Keeps p (execBlockResetTimeout s) := by
  unfold execBlockResetTimeout
  extract_lets x1
  exact (keeps_next (kept_ite (resetBlock_kept h) h))

theorem execClkmonSelect_kept {a0 : BitVec 6} {a1 : BitVec 10} (h : Kept p s) :
    Keeps p (execClkmonSelect a0 a1 s) := by
  unfold execClkmonSelect
  exact (keeps_next (kept_ite (writeClkmon_kept h) h))


-- Register

theorem execRegisterWrite_kept {a0 : ApbWrite} (h : Kept p s) :
    Keeps p (execRegisterWrite a0 s) := by
  unfold execRegisterWrite
  exact (keeps_next (beginAccess_kept h))

theorem execSetAliasWrite_kept {a0 : ApbWrite} (h : Kept p s) :
    Keeps p (execSetAliasWrite a0 s) := by
  unfold execSetAliasWrite
  exact (keeps_next (aliasAccess_kept h))

theorem execClearAliasWrite_kept {a0 : ApbWrite} (h : Kept p s) :
    Keeps p (execClearAliasWrite a0 s) := by
  unfold execClearAliasWrite
  exact (keeps_next (aliasAccess_kept h))

theorem execToggleAliasWrite_kept {a0 : ApbWrite} (h : Kept p s) :
    Keeps p (execToggleAliasWrite a0 s) := by
  unfold execToggleAliasWrite
  exact (keeps_next (aliasAccess_kept h))

theorem execReadClear_kept {a0 : ApbRead} (h : Kept p s) :
    Keeps p (execReadClear a0 s) := by
  unfold execReadClear
  exact (keeps_next (beginAccess_kept h))

theorem execMultiRegisterCapture_kept {a0 : ApbRead} (h : Kept p s) :
    Keeps p (execMultiRegisterCapture a0 s) := by
  unfold execMultiRegisterCapture
  exact (keeps_next (beginAccess_kept h))

theorem execHeldShadowWrite_kept {a0 : ApbWrite} (h : Kept p s) :
    Keeps p (execHeldShadowWrite a0 s) := by
  unfold execHeldShadowWrite
  exact (keeps_next (beginAccess_kept h))

theorem execRegisterRead_kept {a0 : ApbRead} (h : Kept p s) :
    Keeps p (execRegisterRead a0 s) := by
  unfold execRegisterRead
  exact (keeps_next (beginAccess_kept h))

theorem execParityWalk_kept {a0 : BitVec 20} {a1 : Word} (h : Kept p s) :
    Keeps p (execParityWalk a0 a1 s) := by
  unfold execParityWalk
  exact (keeps_next (kept_ite (kept_mk h) h))

theorem execBlkReset_kept (h : Kept p s) :
    Keeps p (execBlkReset s) := by
  unfold execBlkReset
  exact (keeps_next (beginAccess_kept h))

end Sys2Proof.Machine
end

