-- ==== Sys2Proof/Laws/State.lean ====
section
/-!
SUPPORT. The fields of the state after each of the small updates: what the update writes, and that it leaves every other
field alone.
-/

namespace Sys2Proof.Machine

-- State.setSt

@[simp] theorem State.setSt_porst (s : State) (f : Field) (v : Nat) : (s.setSt f v).porst = s.porst := by
  unfold State.setSt; split <;> rfl
@[simp] theorem State.setSt_instId (s : State) (f : Field) (v : Nat) : (s.setSt f v).instId = s.instId := by
  unfold State.setSt; split <;> rfl
@[simp] theorem State.setSt_now (s : State) (f : Field) (v : Nat) : (s.setSt f v).now = s.now := by
  unfold State.setSt; split <;> rfl
@[simp] theorem State.setSt_rsck (s : State) (f : Field) (v : Nat) : (s.setSt f v).rsck = s.rsck := by
  unfold State.setSt; split <;> rfl
@[simp] theorem State.setSt_rfrac (s : State) (f : Field) (v : Nat) : (s.setSt f v).rfrac = s.rfrac := by
  unfold State.setSt; split <;> rfl
@[simp] theorem State.setSt_rsiAlive (s : State) (f : Field) (v : Nat) : (s.setSt f v).rsiAlive = s.rsiAlive := by
  unfold State.setSt; split <;> rfl
@[simp] theorem State.setSt_cfg (s : State) (f : Field) (v : Nat) : (s.setSt f v).cfg = s.cfg := by
  unfold State.setSt; split <;> rfl
@[simp] theorem State.setSt_caps (s : State) (f : Field) (v : Nat) : (s.setSt f v).caps = s.caps := by
  unfold State.setSt; split <;> rfl
@[simp] theorem State.setSt_news (s : State) (f : Field) (v : Nat) : (s.setSt f v).news = s.news := by
  unfold State.setSt; split <;> rfl
@[simp] theorem State.setSt_parErr (s : State) (f : Field) (v : Nat) : (s.setSt f v).parErr = s.parErr := by
  unfold State.setSt; split <;> rfl
@[simp] theorem State.setSt_walks (s : State) (f : Field) (v : Nat) : (s.setSt f v).walks = s.walks := by
  unfold State.setSt; split <;> rfl
@[simp] theorem State.setSt_frozen (s : State) (f : Field) (v : Nat) : (s.setSt f v).frozen = s.frozen := by
  unfold State.setSt; split <;> rfl
@[simp] theorem State.setSt_apbM (s : State) (f : Field) (v : Nat) : (s.setSt f v).apbM = s.apbM := by
  unfold State.setSt; split <;> rfl
@[simp] theorem State.setSt_apbK (s : State) (f : Field) (v : Nat) : (s.setSt f v).apbK = s.apbK := by
  unfold State.setSt; split <;> rfl
@[simp] theorem State.setSt_pins (s : State) (f : Field) (v : Nat) : (s.setSt f v).pins = s.pins := by
  unfold State.setSt; split <;> rfl
@[simp] theorem State.setSt_clk (s : State) (f : Field) (v : Nat) : (s.setSt f v).clk = s.clk := by
  unfold State.setSt; split <;> rfl
@[simp] theorem State.setSt_load (s : State) (f : Field) (v : Nat) : (s.setSt f v).load = s.load := by
  unfold State.setSt; split <;> rfl
@[simp] theorem State.setSt_tb (s : State) (f : Field) (v : Nat) : (s.setSt f v).tb = s.tb := by
  unfold State.setSt; split <;> rfl
@[simp] theorem State.setSt_brk (s : State) (f : Field) (v : Nat) : (s.setSt f v).brk = s.brk := by
  unfold State.setSt; split <;> rfl
@[simp] theorem State.setSt_ports (s : State) (f : Field) (v : Nat) : (s.setSt f v).ports = s.ports := by
  unfold State.setSt; split <;> rfl
@[simp] theorem State.setSt_wheel (s : State) (f : Field) (v : Nat) : (s.setSt f v).wheel = s.wheel := by
  unfold State.setSt; split <;> rfl
@[simp] theorem State.setSt_chans (s : State) (f : Field) (v : Nat) : (s.setSt f v).chans = s.chans := by
  unfold State.setSt; split <;> rfl
@[simp] theorem State.setSt_cals (s : State) (f : Field) (v : Nat) : (s.setSt f v).cals = s.cals := by
  unfold State.setSt; split <;> rfl
@[simp] theorem State.setSt_quads (s : State) (f : Field) (v : Nat) : (s.setSt f v).quads = s.quads := by
  unfold State.setSt; split <;> rfl
@[simp] theorem State.setSt_op (s : State) (f : Field) (v : Nat) : (s.setSt f v).op = s.op := by
  unfold State.setSt; split <;> rfl
@[simp] theorem State.setSt_flt (s : State) (f : Field) (v : Nat) : (s.setSt f v).flt = s.flt := by
  unfold State.setSt; split <;> rfl
@[simp] theorem State.setSt_mnt (s : State) (f : Field) (v : Nat) : (s.setSt f v).mnt = s.mnt := by
  unfold State.setSt; split <;> rfl
@[simp] theorem State.setSt_keys (s : State) (f : Field) (v : Nat) : (s.setSt f v).keys = s.keys := by
  unfold State.setSt; split <;> rfl
@[simp] theorem State.setSt_tap (s : State) (f : Field) (v : Nat) : (s.setSt f v).tap = s.tap := by
  unfold State.setSt; split <;> rfl
@[simp] theorem State.setSt_spill (s : State) (f : Field) (v : Nat) : (s.setSt f v).spill = s.spill := by
  unfold State.setSt; split <;> rfl
@[simp] theorem State.setSt_spillLast (s : State) (f : Field) (v : Nat) : (s.setSt f v).spillLast = s.spillLast := by
  unfold State.setSt; split <;> rfl
@[simp] theorem State.setSt_spillAt (s : State) (f : Field) (v : Nat) : (s.setSt f v).spillAt = s.spillAt := by
  unfold State.setSt; split <;> rfl
@[simp] theorem State.setSt_perf (s : State) (f : Field) (v : Nat) : (s.setSt f v).perf = s.perf := by
  unfold State.setSt; split <;> rfl
@[simp] theorem State.setSt_dram (s : State) (f : Field) (v : Nat) : (s.setSt f v).dram = s.dram := by
  unfold State.setSt; split <;> rfl
@[simp] theorem State.setSt_free (s : State) (f : Field) (v : Nat) : (s.setSt f v).free = s.free := by
  unfold State.setSt; split <;> rfl
@[simp] theorem State.setSt_pending (s : State) (f : Field) (v : Nat) : (s.setSt f v).pending = s.pending := by
  unfold State.setSt; split <;> rfl

-- State.tell

@[simp] theorem State.tell_porst (s : State) (f : Field) (n : News) : (s.tell f n).porst = s.porst := rfl
@[simp] theorem State.tell_instId (s : State) (f : Field) (n : News) : (s.tell f n).instId = s.instId := rfl
@[simp] theorem State.tell_now (s : State) (f : Field) (n : News) : (s.tell f n).now = s.now := rfl
@[simp] theorem State.tell_rsck (s : State) (f : Field) (n : News) : (s.tell f n).rsck = s.rsck := rfl
@[simp] theorem State.tell_rfrac (s : State) (f : Field) (n : News) : (s.tell f n).rfrac = s.rfrac := rfl
@[simp] theorem State.tell_rsiAlive (s : State) (f : Field) (n : News) : (s.tell f n).rsiAlive = s.rsiAlive := rfl
@[simp] theorem State.tell_cfg (s : State) (f : Field) (n : News) : (s.tell f n).cfg = s.cfg := rfl
@[simp] theorem State.tell_stat (s : State) (f : Field) (n : News) : (s.tell f n).stat = s.stat := rfl
@[simp] theorem State.tell_caps (s : State) (f : Field) (n : News) : (s.tell f n).caps = s.caps := rfl
@[simp] theorem State.tell_news (s : State) (f : Field) (n : News) : (s.tell f n).news = (f, n) :: s.news := rfl
@[simp] theorem State.tell_parErr (s : State) (f : Field) (n : News) : (s.tell f n).parErr = s.parErr := rfl
@[simp] theorem State.tell_walks (s : State) (f : Field) (n : News) : (s.tell f n).walks = s.walks := rfl
@[simp] theorem State.tell_frozen (s : State) (f : Field) (n : News) : (s.tell f n).frozen = s.frozen := rfl
@[simp] theorem State.tell_apbM (s : State) (f : Field) (n : News) : (s.tell f n).apbM = s.apbM := rfl
@[simp] theorem State.tell_apbK (s : State) (f : Field) (n : News) : (s.tell f n).apbK = s.apbK := rfl
@[simp] theorem State.tell_pins (s : State) (f : Field) (n : News) : (s.tell f n).pins = s.pins := rfl
@[simp] theorem State.tell_clk (s : State) (f : Field) (n : News) : (s.tell f n).clk = s.clk := rfl
@[simp] theorem State.tell_load (s : State) (f : Field) (n : News) : (s.tell f n).load = s.load := rfl
@[simp] theorem State.tell_tb (s : State) (f : Field) (n : News) : (s.tell f n).tb = s.tb := rfl
@[simp] theorem State.tell_brk (s : State) (f : Field) (n : News) : (s.tell f n).brk = s.brk := rfl
@[simp] theorem State.tell_ports (s : State) (f : Field) (n : News) : (s.tell f n).ports = s.ports := rfl
@[simp] theorem State.tell_wheel (s : State) (f : Field) (n : News) : (s.tell f n).wheel = s.wheel := rfl
@[simp] theorem State.tell_chans (s : State) (f : Field) (n : News) : (s.tell f n).chans = s.chans := rfl
@[simp] theorem State.tell_cals (s : State) (f : Field) (n : News) : (s.tell f n).cals = s.cals := rfl
@[simp] theorem State.tell_quads (s : State) (f : Field) (n : News) : (s.tell f n).quads = s.quads := rfl
@[simp] theorem State.tell_op (s : State) (f : Field) (n : News) : (s.tell f n).op = s.op := rfl
@[simp] theorem State.tell_flt (s : State) (f : Field) (n : News) : (s.tell f n).flt = s.flt := rfl
@[simp] theorem State.tell_mnt (s : State) (f : Field) (n : News) : (s.tell f n).mnt = s.mnt := rfl
@[simp] theorem State.tell_keys (s : State) (f : Field) (n : News) : (s.tell f n).keys = s.keys := rfl
@[simp] theorem State.tell_tap (s : State) (f : Field) (n : News) : (s.tell f n).tap = s.tap := rfl
@[simp] theorem State.tell_spill (s : State) (f : Field) (n : News) : (s.tell f n).spill = s.spill := rfl
@[simp] theorem State.tell_spillLast (s : State) (f : Field) (n : News) : (s.tell f n).spillLast = s.spillLast := rfl
@[simp] theorem State.tell_spillAt (s : State) (f : Field) (n : News) : (s.tell f n).spillAt = s.spillAt := rfl
@[simp] theorem State.tell_perf (s : State) (f : Field) (n : News) : (s.tell f n).perf = s.perf := rfl
@[simp] theorem State.tell_dram (s : State) (f : Field) (n : News) : (s.tell f n).dram = s.dram := rfl
@[simp] theorem State.tell_free (s : State) (f : Field) (n : News) : (s.tell f n).free = s.free := rfl
@[simp] theorem State.tell_pending (s : State) (f : Field) (n : News) : (s.tell f n).pending = s.pending := rfl

-- State.setBits

@[simp] theorem State.setBits_porst (s : State) (f : Field) (w : Nat) : (s.setBits f w).porst = s.porst := by
  simp [State.setBits]
@[simp] theorem State.setBits_instId (s : State) (f : Field) (w : Nat) : (s.setBits f w).instId = s.instId := by
  simp [State.setBits]
@[simp] theorem State.setBits_now (s : State) (f : Field) (w : Nat) : (s.setBits f w).now = s.now := by
  simp [State.setBits]
@[simp] theorem State.setBits_rsck (s : State) (f : Field) (w : Nat) : (s.setBits f w).rsck = s.rsck := by
  simp [State.setBits]
@[simp] theorem State.setBits_rfrac (s : State) (f : Field) (w : Nat) : (s.setBits f w).rfrac = s.rfrac := by
  simp [State.setBits]
@[simp] theorem State.setBits_rsiAlive (s : State) (f : Field) (w : Nat) : (s.setBits f w).rsiAlive = s.rsiAlive := by
  simp [State.setBits]
@[simp] theorem State.setBits_cfg (s : State) (f : Field) (w : Nat) : (s.setBits f w).cfg = s.cfg := by
  simp [State.setBits]
@[simp] theorem State.setBits_caps (s : State) (f : Field) (w : Nat) : (s.setBits f w).caps = s.caps := by
  simp [State.setBits]
@[simp] theorem State.setBits_parErr (s : State) (f : Field) (w : Nat) : (s.setBits f w).parErr = s.parErr := by
  simp [State.setBits]
@[simp] theorem State.setBits_walks (s : State) (f : Field) (w : Nat) : (s.setBits f w).walks = s.walks := by
  simp [State.setBits]
@[simp] theorem State.setBits_frozen (s : State) (f : Field) (w : Nat) : (s.setBits f w).frozen = s.frozen := by
  simp [State.setBits]
@[simp] theorem State.setBits_apbM (s : State) (f : Field) (w : Nat) : (s.setBits f w).apbM = s.apbM := by
  simp [State.setBits]
@[simp] theorem State.setBits_apbK (s : State) (f : Field) (w : Nat) : (s.setBits f w).apbK = s.apbK := by
  simp [State.setBits]
@[simp] theorem State.setBits_pins (s : State) (f : Field) (w : Nat) : (s.setBits f w).pins = s.pins := by
  simp [State.setBits]
@[simp] theorem State.setBits_clk (s : State) (f : Field) (w : Nat) : (s.setBits f w).clk = s.clk := by
  simp [State.setBits]
@[simp] theorem State.setBits_load (s : State) (f : Field) (w : Nat) : (s.setBits f w).load = s.load := by
  simp [State.setBits]
@[simp] theorem State.setBits_tb (s : State) (f : Field) (w : Nat) : (s.setBits f w).tb = s.tb := by
  simp [State.setBits]
@[simp] theorem State.setBits_brk (s : State) (f : Field) (w : Nat) : (s.setBits f w).brk = s.brk := by
  simp [State.setBits]
@[simp] theorem State.setBits_ports (s : State) (f : Field) (w : Nat) : (s.setBits f w).ports = s.ports := by
  simp [State.setBits]
@[simp] theorem State.setBits_wheel (s : State) (f : Field) (w : Nat) : (s.setBits f w).wheel = s.wheel := by
  simp [State.setBits]
@[simp] theorem State.setBits_chans (s : State) (f : Field) (w : Nat) : (s.setBits f w).chans = s.chans := by
  simp [State.setBits]
@[simp] theorem State.setBits_cals (s : State) (f : Field) (w : Nat) : (s.setBits f w).cals = s.cals := by
  simp [State.setBits]
@[simp] theorem State.setBits_quads (s : State) (f : Field) (w : Nat) : (s.setBits f w).quads = s.quads := by
  simp [State.setBits]
@[simp] theorem State.setBits_op (s : State) (f : Field) (w : Nat) : (s.setBits f w).op = s.op := by
  simp [State.setBits]
@[simp] theorem State.setBits_flt (s : State) (f : Field) (w : Nat) : (s.setBits f w).flt = s.flt := by
  simp [State.setBits]
@[simp] theorem State.setBits_mnt (s : State) (f : Field) (w : Nat) : (s.setBits f w).mnt = s.mnt := by
  simp [State.setBits]
@[simp] theorem State.setBits_keys (s : State) (f : Field) (w : Nat) : (s.setBits f w).keys = s.keys := by
  simp [State.setBits]
@[simp] theorem State.setBits_tap (s : State) (f : Field) (w : Nat) : (s.setBits f w).tap = s.tap := by
  simp [State.setBits]
@[simp] theorem State.setBits_spill (s : State) (f : Field) (w : Nat) : (s.setBits f w).spill = s.spill := by
  simp [State.setBits]
@[simp] theorem State.setBits_spillLast (s : State) (f : Field) (w : Nat) : (s.setBits f w).spillLast = s.spillLast := by
  simp [State.setBits]
@[simp] theorem State.setBits_spillAt (s : State) (f : Field) (w : Nat) : (s.setBits f w).spillAt = s.spillAt := by
  simp [State.setBits]
@[simp] theorem State.setBits_perf (s : State) (f : Field) (w : Nat) : (s.setBits f w).perf = s.perf := by
  simp [State.setBits]
@[simp] theorem State.setBits_dram (s : State) (f : Field) (w : Nat) : (s.setBits f w).dram = s.dram := by
  simp [State.setBits]
@[simp] theorem State.setBits_free (s : State) (f : Field) (w : Nat) : (s.setBits f w).free = s.free := by
  simp [State.setBits]
@[simp] theorem State.setBits_pending (s : State) (f : Field) (w : Nat) : (s.setBits f w).pending = s.pending := by
  simp [State.setBits]

-- State.bump

@[simp] theorem State.bump_porst (s : State) (f : Field) (n : Nat) : (s.bump f n).porst = s.porst := by
  simp [State.bump]
@[simp] theorem State.bump_instId (s : State) (f : Field) (n : Nat) : (s.bump f n).instId = s.instId := by
  simp [State.bump]
@[simp] theorem State.bump_now (s : State) (f : Field) (n : Nat) : (s.bump f n).now = s.now := by
  simp [State.bump]
@[simp] theorem State.bump_rsck (s : State) (f : Field) (n : Nat) : (s.bump f n).rsck = s.rsck := by
  simp [State.bump]
@[simp] theorem State.bump_rfrac (s : State) (f : Field) (n : Nat) : (s.bump f n).rfrac = s.rfrac := by
  simp [State.bump]
@[simp] theorem State.bump_rsiAlive (s : State) (f : Field) (n : Nat) : (s.bump f n).rsiAlive = s.rsiAlive := by
  simp [State.bump]
@[simp] theorem State.bump_cfg (s : State) (f : Field) (n : Nat) : (s.bump f n).cfg = s.cfg := by
  simp [State.bump]
@[simp] theorem State.bump_caps (s : State) (f : Field) (n : Nat) : (s.bump f n).caps = s.caps := by
  simp [State.bump]
@[simp] theorem State.bump_parErr (s : State) (f : Field) (n : Nat) : (s.bump f n).parErr = s.parErr := by
  simp [State.bump]
@[simp] theorem State.bump_walks (s : State) (f : Field) (n : Nat) : (s.bump f n).walks = s.walks := by
  simp [State.bump]
@[simp] theorem State.bump_frozen (s : State) (f : Field) (n : Nat) : (s.bump f n).frozen = s.frozen := by
  simp [State.bump]
@[simp] theorem State.bump_apbM (s : State) (f : Field) (n : Nat) : (s.bump f n).apbM = s.apbM := by
  simp [State.bump]
@[simp] theorem State.bump_apbK (s : State) (f : Field) (n : Nat) : (s.bump f n).apbK = s.apbK := by
  simp [State.bump]
@[simp] theorem State.bump_pins (s : State) (f : Field) (n : Nat) : (s.bump f n).pins = s.pins := by
  simp [State.bump]
@[simp] theorem State.bump_clk (s : State) (f : Field) (n : Nat) : (s.bump f n).clk = s.clk := by
  simp [State.bump]
@[simp] theorem State.bump_load (s : State) (f : Field) (n : Nat) : (s.bump f n).load = s.load := by
  simp [State.bump]
@[simp] theorem State.bump_tb (s : State) (f : Field) (n : Nat) : (s.bump f n).tb = s.tb := by
  simp [State.bump]
@[simp] theorem State.bump_brk (s : State) (f : Field) (n : Nat) : (s.bump f n).brk = s.brk := by
  simp [State.bump]
@[simp] theorem State.bump_ports (s : State) (f : Field) (n : Nat) : (s.bump f n).ports = s.ports := by
  simp [State.bump]
@[simp] theorem State.bump_wheel (s : State) (f : Field) (n : Nat) : (s.bump f n).wheel = s.wheel := by
  simp [State.bump]
@[simp] theorem State.bump_chans (s : State) (f : Field) (n : Nat) : (s.bump f n).chans = s.chans := by
  simp [State.bump]
@[simp] theorem State.bump_cals (s : State) (f : Field) (n : Nat) : (s.bump f n).cals = s.cals := by
  simp [State.bump]
@[simp] theorem State.bump_quads (s : State) (f : Field) (n : Nat) : (s.bump f n).quads = s.quads := by
  simp [State.bump]
@[simp] theorem State.bump_op (s : State) (f : Field) (n : Nat) : (s.bump f n).op = s.op := by
  simp [State.bump]
@[simp] theorem State.bump_flt (s : State) (f : Field) (n : Nat) : (s.bump f n).flt = s.flt := by
  simp [State.bump]
@[simp] theorem State.bump_mnt (s : State) (f : Field) (n : Nat) : (s.bump f n).mnt = s.mnt := by
  simp [State.bump]
@[simp] theorem State.bump_keys (s : State) (f : Field) (n : Nat) : (s.bump f n).keys = s.keys := by
  simp [State.bump]
@[simp] theorem State.bump_tap (s : State) (f : Field) (n : Nat) : (s.bump f n).tap = s.tap := by
  simp [State.bump]
@[simp] theorem State.bump_spill (s : State) (f : Field) (n : Nat) : (s.bump f n).spill = s.spill := by
  simp [State.bump]
@[simp] theorem State.bump_spillLast (s : State) (f : Field) (n : Nat) : (s.bump f n).spillLast = s.spillLast := by
  simp [State.bump]
@[simp] theorem State.bump_spillAt (s : State) (f : Field) (n : Nat) : (s.bump f n).spillAt = s.spillAt := by
  simp [State.bump]
@[simp] theorem State.bump_perf (s : State) (f : Field) (n : Nat) : (s.bump f n).perf = s.perf := by
  simp [State.bump]
@[simp] theorem State.bump_dram (s : State) (f : Field) (n : Nat) : (s.bump f n).dram = s.dram := by
  simp [State.bump]
@[simp] theorem State.bump_free (s : State) (f : Field) (n : Nat) : (s.bump f n).free = s.free := by
  simp [State.bump]
@[simp] theorem State.bump_pending (s : State) (f : Field) (n : Nat) : (s.bump f n).pending = s.pending := by
  simp [State.bump]

-- State.stamp

@[simp] theorem State.stamp_porst (s : State) (l f : Field) : (s.stamp l f).porst = s.porst := by
  simp [State.stamp]
@[simp] theorem State.stamp_instId (s : State) (l f : Field) : (s.stamp l f).instId = s.instId := by
  simp [State.stamp]
@[simp] theorem State.stamp_now (s : State) (l f : Field) : (s.stamp l f).now = s.now := by
  simp [State.stamp]
@[simp] theorem State.stamp_rsck (s : State) (l f : Field) : (s.stamp l f).rsck = s.rsck := by
  simp [State.stamp]
@[simp] theorem State.stamp_rfrac (s : State) (l f : Field) : (s.stamp l f).rfrac = s.rfrac := by
  simp [State.stamp]
@[simp] theorem State.stamp_rsiAlive (s : State) (l f : Field) : (s.stamp l f).rsiAlive = s.rsiAlive := by
  simp [State.stamp]
@[simp] theorem State.stamp_cfg (s : State) (l f : Field) : (s.stamp l f).cfg = s.cfg := by
  simp [State.stamp]
@[simp] theorem State.stamp_caps (s : State) (l f : Field) : (s.stamp l f).caps = s.caps := by
  simp [State.stamp]
@[simp] theorem State.stamp_news (s : State) (l f : Field) : (s.stamp l f).news = s.news := by
  simp [State.stamp]
@[simp] theorem State.stamp_parErr (s : State) (l f : Field) : (s.stamp l f).parErr = s.parErr := by
  simp [State.stamp]
@[simp] theorem State.stamp_walks (s : State) (l f : Field) : (s.stamp l f).walks = s.walks := by
  simp [State.stamp]
@[simp] theorem State.stamp_frozen (s : State) (l f : Field) : (s.stamp l f).frozen = s.frozen := by
  simp [State.stamp]
@[simp] theorem State.stamp_apbM (s : State) (l f : Field) : (s.stamp l f).apbM = s.apbM := by
  simp [State.stamp]
@[simp] theorem State.stamp_apbK (s : State) (l f : Field) : (s.stamp l f).apbK = s.apbK := by
  simp [State.stamp]
@[simp] theorem State.stamp_pins (s : State) (l f : Field) : (s.stamp l f).pins = s.pins := by
  simp [State.stamp]
@[simp] theorem State.stamp_clk (s : State) (l f : Field) : (s.stamp l f).clk = s.clk := by
  simp [State.stamp]
@[simp] theorem State.stamp_load (s : State) (l f : Field) : (s.stamp l f).load = s.load := by
  simp [State.stamp]
@[simp] theorem State.stamp_tb (s : State) (l f : Field) : (s.stamp l f).tb = s.tb := by
  simp [State.stamp]
@[simp] theorem State.stamp_brk (s : State) (l f : Field) : (s.stamp l f).brk = s.brk := by
  simp [State.stamp]
@[simp] theorem State.stamp_ports (s : State) (l f : Field) : (s.stamp l f).ports = s.ports := by
  simp [State.stamp]
@[simp] theorem State.stamp_wheel (s : State) (l f : Field) : (s.stamp l f).wheel = s.wheel := by
  simp [State.stamp]
@[simp] theorem State.stamp_chans (s : State) (l f : Field) : (s.stamp l f).chans = s.chans := by
  simp [State.stamp]
@[simp] theorem State.stamp_cals (s : State) (l f : Field) : (s.stamp l f).cals = s.cals := by
  simp [State.stamp]
@[simp] theorem State.stamp_quads (s : State) (l f : Field) : (s.stamp l f).quads = s.quads := by
  simp [State.stamp]
@[simp] theorem State.stamp_op (s : State) (l f : Field) : (s.stamp l f).op = s.op := by
  simp [State.stamp]
@[simp] theorem State.stamp_flt (s : State) (l f : Field) : (s.stamp l f).flt = s.flt := by
  simp [State.stamp]
@[simp] theorem State.stamp_mnt (s : State) (l f : Field) : (s.stamp l f).mnt = s.mnt := by
  simp [State.stamp]
@[simp] theorem State.stamp_keys (s : State) (l f : Field) : (s.stamp l f).keys = s.keys := by
  simp [State.stamp]
@[simp] theorem State.stamp_tap (s : State) (l f : Field) : (s.stamp l f).tap = s.tap := by
  simp [State.stamp]
@[simp] theorem State.stamp_spill (s : State) (l f : Field) : (s.stamp l f).spill = s.spill := by
  simp [State.stamp]
@[simp] theorem State.stamp_spillLast (s : State) (l f : Field) : (s.stamp l f).spillLast = s.spillLast := by
  simp [State.stamp]
@[simp] theorem State.stamp_spillAt (s : State) (l f : Field) : (s.stamp l f).spillAt = s.spillAt := by
  simp [State.stamp]
@[simp] theorem State.stamp_perf (s : State) (l f : Field) : (s.stamp l f).perf = s.perf := by
  simp [State.stamp]
@[simp] theorem State.stamp_dram (s : State) (l f : Field) : (s.stamp l f).dram = s.dram := by
  simp [State.stamp]
@[simp] theorem State.stamp_free (s : State) (l f : Field) : (s.stamp l f).free = s.free := by
  simp [State.stamp]
@[simp] theorem State.stamp_pending (s : State) (l f : Field) : (s.stamp l f).pending = s.pending := by
  simp [State.stamp]

-- State.setBit

@[simp] theorem State.setBit_porst (s : State) (f : Field) (i : Nat) : (s.setBit f i).porst = s.porst := by
  simp [State.setBit]
@[simp] theorem State.setBit_instId (s : State) (f : Field) (i : Nat) : (s.setBit f i).instId = s.instId := by
  simp [State.setBit]
@[simp] theorem State.setBit_now (s : State) (f : Field) (i : Nat) : (s.setBit f i).now = s.now := by
  simp [State.setBit]
@[simp] theorem State.setBit_rsck (s : State) (f : Field) (i : Nat) : (s.setBit f i).rsck = s.rsck := by
  simp [State.setBit]
@[simp] theorem State.setBit_rfrac (s : State) (f : Field) (i : Nat) : (s.setBit f i).rfrac = s.rfrac := by
  simp [State.setBit]
@[simp] theorem State.setBit_rsiAlive (s : State) (f : Field) (i : Nat) : (s.setBit f i).rsiAlive = s.rsiAlive := by
  simp [State.setBit]
@[simp] theorem State.setBit_cfg (s : State) (f : Field) (i : Nat) : (s.setBit f i).cfg = s.cfg := by
  simp [State.setBit]
@[simp] theorem State.setBit_caps (s : State) (f : Field) (i : Nat) : (s.setBit f i).caps = s.caps := by
  simp [State.setBit]
@[simp] theorem State.setBit_parErr (s : State) (f : Field) (i : Nat) : (s.setBit f i).parErr = s.parErr := by
  simp [State.setBit]
@[simp] theorem State.setBit_walks (s : State) (f : Field) (i : Nat) : (s.setBit f i).walks = s.walks := by
  simp [State.setBit]
@[simp] theorem State.setBit_frozen (s : State) (f : Field) (i : Nat) : (s.setBit f i).frozen = s.frozen := by
  simp [State.setBit]
@[simp] theorem State.setBit_apbM (s : State) (f : Field) (i : Nat) : (s.setBit f i).apbM = s.apbM := by
  simp [State.setBit]
@[simp] theorem State.setBit_apbK (s : State) (f : Field) (i : Nat) : (s.setBit f i).apbK = s.apbK := by
  simp [State.setBit]
@[simp] theorem State.setBit_pins (s : State) (f : Field) (i : Nat) : (s.setBit f i).pins = s.pins := by
  simp [State.setBit]
@[simp] theorem State.setBit_clk (s : State) (f : Field) (i : Nat) : (s.setBit f i).clk = s.clk := by
  simp [State.setBit]
@[simp] theorem State.setBit_load (s : State) (f : Field) (i : Nat) : (s.setBit f i).load = s.load := by
  simp [State.setBit]
@[simp] theorem State.setBit_tb (s : State) (f : Field) (i : Nat) : (s.setBit f i).tb = s.tb := by
  simp [State.setBit]
@[simp] theorem State.setBit_brk (s : State) (f : Field) (i : Nat) : (s.setBit f i).brk = s.brk := by
  simp [State.setBit]
@[simp] theorem State.setBit_ports (s : State) (f : Field) (i : Nat) : (s.setBit f i).ports = s.ports := by
  simp [State.setBit]
@[simp] theorem State.setBit_wheel (s : State) (f : Field) (i : Nat) : (s.setBit f i).wheel = s.wheel := by
  simp [State.setBit]
@[simp] theorem State.setBit_chans (s : State) (f : Field) (i : Nat) : (s.setBit f i).chans = s.chans := by
  simp [State.setBit]
@[simp] theorem State.setBit_cals (s : State) (f : Field) (i : Nat) : (s.setBit f i).cals = s.cals := by
  simp [State.setBit]
@[simp] theorem State.setBit_quads (s : State) (f : Field) (i : Nat) : (s.setBit f i).quads = s.quads := by
  simp [State.setBit]
@[simp] theorem State.setBit_op (s : State) (f : Field) (i : Nat) : (s.setBit f i).op = s.op := by
  simp [State.setBit]
@[simp] theorem State.setBit_flt (s : State) (f : Field) (i : Nat) : (s.setBit f i).flt = s.flt := by
  simp [State.setBit]
@[simp] theorem State.setBit_mnt (s : State) (f : Field) (i : Nat) : (s.setBit f i).mnt = s.mnt := by
  simp [State.setBit]
@[simp] theorem State.setBit_keys (s : State) (f : Field) (i : Nat) : (s.setBit f i).keys = s.keys := by
  simp [State.setBit]
@[simp] theorem State.setBit_tap (s : State) (f : Field) (i : Nat) : (s.setBit f i).tap = s.tap := by
  simp [State.setBit]
@[simp] theorem State.setBit_spill (s : State) (f : Field) (i : Nat) : (s.setBit f i).spill = s.spill := by
  simp [State.setBit]
@[simp] theorem State.setBit_spillLast (s : State) (f : Field) (i : Nat) : (s.setBit f i).spillLast = s.spillLast := by
  simp [State.setBit]
@[simp] theorem State.setBit_spillAt (s : State) (f : Field) (i : Nat) : (s.setBit f i).spillAt = s.spillAt := by
  simp [State.setBit]
@[simp] theorem State.setBit_perf (s : State) (f : Field) (i : Nat) : (s.setBit f i).perf = s.perf := by
  simp [State.setBit]
@[simp] theorem State.setBit_dram (s : State) (f : Field) (i : Nat) : (s.setBit f i).dram = s.dram := by
  simp [State.setBit]
@[simp] theorem State.setBit_free (s : State) (f : Field) (i : Nat) : (s.setBit f i).free = s.free := by
  simp [State.setBit]
@[simp] theorem State.setBit_pending (s : State) (f : Field) (i : Nat) : (s.setBit f i).pending = s.pending := by
  simp [State.setBit]

-- event

@[simp] theorem event_porst (s : State) (e : Evt) : (event e s).porst = s.porst := by
  simp [event]
@[simp] theorem event_instId (s : State) (e : Evt) : (event e s).instId = s.instId := by
  simp [event]
@[simp] theorem event_now (s : State) (e : Evt) : (event e s).now = s.now := by
  simp [event]
@[simp] theorem event_rsck (s : State) (e : Evt) : (event e s).rsck = s.rsck := by
  simp [event]
@[simp] theorem event_rfrac (s : State) (e : Evt) : (event e s).rfrac = s.rfrac := by
  simp [event]
@[simp] theorem event_rsiAlive (s : State) (e : Evt) : (event e s).rsiAlive = s.rsiAlive := by
  simp [event]
@[simp] theorem event_cfg (s : State) (e : Evt) : (event e s).cfg = s.cfg := by
  simp [event]
@[simp] theorem event_caps (s : State) (e : Evt) : (event e s).caps = s.caps := by
  simp [event]
@[simp] theorem event_parErr (s : State) (e : Evt) : (event e s).parErr = s.parErr := by
  simp [event]
@[simp] theorem event_walks (s : State) (e : Evt) : (event e s).walks = s.walks := by
  simp [event]
@[simp] theorem event_frozen (s : State) (e : Evt) : (event e s).frozen = s.frozen := by
  simp [event]
@[simp] theorem event_apbM (s : State) (e : Evt) : (event e s).apbM = s.apbM := by
  simp [event]
@[simp] theorem event_apbK (s : State) (e : Evt) : (event e s).apbK = s.apbK := by
  simp [event]
@[simp] theorem event_pins (s : State) (e : Evt) : (event e s).pins = s.pins := by
  simp [event]
@[simp] theorem event_clk (s : State) (e : Evt) : (event e s).clk = s.clk := by
  simp [event]
@[simp] theorem event_load (s : State) (e : Evt) : (event e s).load = s.load := by
  simp [event]
@[simp] theorem event_tb (s : State) (e : Evt) : (event e s).tb = s.tb := by
  simp [event]
@[simp] theorem event_brk (s : State) (e : Evt) : (event e s).brk = s.brk := by
  simp [event]
@[simp] theorem event_ports (s : State) (e : Evt) : (event e s).ports = s.ports := by
  simp [event]
@[simp] theorem event_wheel (s : State) (e : Evt) : (event e s).wheel = s.wheel := by
  simp [event]
@[simp] theorem event_chans (s : State) (e : Evt) : (event e s).chans = s.chans := by
  simp [event]
@[simp] theorem event_cals (s : State) (e : Evt) : (event e s).cals = s.cals := by
  simp [event]
@[simp] theorem event_quads (s : State) (e : Evt) : (event e s).quads = s.quads := by
  simp [event]
@[simp] theorem event_op (s : State) (e : Evt) : (event e s).op = s.op := by
  simp [event]
@[simp] theorem event_flt (s : State) (e : Evt) : (event e s).flt = s.flt := by
  simp [event]
@[simp] theorem event_mnt (s : State) (e : Evt) : (event e s).mnt = s.mnt := by
  simp [event]
@[simp] theorem event_keys (s : State) (e : Evt) : (event e s).keys = s.keys := by
  simp [event]
@[simp] theorem event_tap (s : State) (e : Evt) : (event e s).tap = s.tap := by
  simp [event]
@[simp] theorem event_spill (s : State) (e : Evt) : (event e s).spill = s.spill := by
  simp [event]
@[simp] theorem event_spillLast (s : State) (e : Evt) : (event e s).spillLast = s.spillLast := by
  simp [event]
@[simp] theorem event_spillAt (s : State) (e : Evt) : (event e s).spillAt = s.spillAt := by
  simp [event]
@[simp] theorem event_perf (s : State) (e : Evt) : (event e s).perf = s.perf := by
  simp [event]
@[simp] theorem event_dram (s : State) (e : Evt) : (event e s).dram = s.dram := by
  simp [event]
@[simp] theorem event_free (s : State) (e : Evt) : (event e s).free = s.free := by
  simp [event]
@[simp] theorem event_pending (s : State) (e : Evt) : (event e s).pending = s.pending := by
  simp [event]

-- State.setPartner

@[simp] theorem State.setPartner_porst (s : State) (c : Nat) (p : Option Nat) : (s.setPartner c p).porst = s.porst := by
  simp [State.setPartner]
@[simp] theorem State.setPartner_instId (s : State) (c : Nat) (p : Option Nat) : (s.setPartner c p).instId = s.instId := by
  simp [State.setPartner]
@[simp] theorem State.setPartner_now (s : State) (c : Nat) (p : Option Nat) : (s.setPartner c p).now = s.now := by
  simp [State.setPartner]
@[simp] theorem State.setPartner_rsck (s : State) (c : Nat) (p : Option Nat) : (s.setPartner c p).rsck = s.rsck := by
  simp [State.setPartner]
@[simp] theorem State.setPartner_rfrac (s : State) (c : Nat) (p : Option Nat) : (s.setPartner c p).rfrac = s.rfrac := by
  simp [State.setPartner]
@[simp] theorem State.setPartner_rsiAlive (s : State) (c : Nat) (p : Option Nat) : (s.setPartner c p).rsiAlive = s.rsiAlive := by
  simp [State.setPartner]
@[simp] theorem State.setPartner_cfg (s : State) (c : Nat) (p : Option Nat) : (s.setPartner c p).cfg = s.cfg := by
  simp [State.setPartner]
@[simp] theorem State.setPartner_caps (s : State) (c : Nat) (p : Option Nat) : (s.setPartner c p).caps = s.caps := by
  simp [State.setPartner]
@[simp] theorem State.setPartner_news (s : State) (c : Nat) (p : Option Nat) : (s.setPartner c p).news = s.news := by
  simp [State.setPartner]
@[simp] theorem State.setPartner_parErr (s : State) (c : Nat) (p : Option Nat) : (s.setPartner c p).parErr = s.parErr := by
  simp [State.setPartner]
@[simp] theorem State.setPartner_walks (s : State) (c : Nat) (p : Option Nat) : (s.setPartner c p).walks = s.walks := by
  simp [State.setPartner]
@[simp] theorem State.setPartner_frozen (s : State) (c : Nat) (p : Option Nat) : (s.setPartner c p).frozen = s.frozen := by
  simp [State.setPartner]
@[simp] theorem State.setPartner_apbM (s : State) (c : Nat) (p : Option Nat) : (s.setPartner c p).apbM = s.apbM := by
  simp [State.setPartner]
@[simp] theorem State.setPartner_apbK (s : State) (c : Nat) (p : Option Nat) : (s.setPartner c p).apbK = s.apbK := by
  simp [State.setPartner]
@[simp] theorem State.setPartner_pins (s : State) (c : Nat) (p : Option Nat) : (s.setPartner c p).pins = s.pins := by
  simp [State.setPartner]
@[simp] theorem State.setPartner_clk (s : State) (c : Nat) (p : Option Nat) : (s.setPartner c p).clk = s.clk := by
  simp [State.setPartner]
@[simp] theorem State.setPartner_load (s : State) (c : Nat) (p : Option Nat) : (s.setPartner c p).load = s.load := by
  simp [State.setPartner]
@[simp] theorem State.setPartner_tb (s : State) (c : Nat) (p : Option Nat) : (s.setPartner c p).tb = s.tb := by
  simp [State.setPartner]
@[simp] theorem State.setPartner_brk (s : State) (c : Nat) (p : Option Nat) : (s.setPartner c p).brk = s.brk := by
  simp [State.setPartner]
@[simp] theorem State.setPartner_ports (s : State) (c : Nat) (p : Option Nat) : (s.setPartner c p).ports = s.ports := by
  simp [State.setPartner]
@[simp] theorem State.setPartner_wheel (s : State) (c : Nat) (p : Option Nat) : (s.setPartner c p).wheel = s.wheel := by
  simp [State.setPartner]
@[simp] theorem State.setPartner_chans (s : State) (c : Nat) (p : Option Nat) : (s.setPartner c p).chans = s.chans := by
  simp [State.setPartner]
@[simp] theorem State.setPartner_cals (s : State) (c : Nat) (p : Option Nat) : (s.setPartner c p).cals = s.cals := by
  simp [State.setPartner]
@[simp] theorem State.setPartner_quads (s : State) (c : Nat) (p : Option Nat) : (s.setPartner c p).quads = s.quads := by
  simp [State.setPartner]
@[simp] theorem State.setPartner_op (s : State) (c : Nat) (p : Option Nat) : (s.setPartner c p).op = s.op := by
  simp [State.setPartner]
@[simp] theorem State.setPartner_flt (s : State) (c : Nat) (p : Option Nat) : (s.setPartner c p).flt = s.flt := by
  simp [State.setPartner]
@[simp] theorem State.setPartner_mnt (s : State) (c : Nat) (p : Option Nat) : (s.setPartner c p).mnt = s.mnt := by
  simp [State.setPartner]
@[simp] theorem State.setPartner_keys (s : State) (c : Nat) (p : Option Nat) : (s.setPartner c p).keys = s.keys := by
  simp [State.setPartner]
@[simp] theorem State.setPartner_tap (s : State) (c : Nat) (p : Option Nat) : (s.setPartner c p).tap = s.tap := by
  simp [State.setPartner]
@[simp] theorem State.setPartner_spill (s : State) (c : Nat) (p : Option Nat) : (s.setPartner c p).spill = s.spill := by
  simp [State.setPartner]
@[simp] theorem State.setPartner_spillLast (s : State) (c : Nat) (p : Option Nat) : (s.setPartner c p).spillLast = s.spillLast := by
  simp [State.setPartner]
@[simp] theorem State.setPartner_spillAt (s : State) (c : Nat) (p : Option Nat) : (s.setPartner c p).spillAt = s.spillAt := by
  simp [State.setPartner]
@[simp] theorem State.setPartner_perf (s : State) (c : Nat) (p : Option Nat) : (s.setPartner c p).perf = s.perf := by
  simp [State.setPartner]
@[simp] theorem State.setPartner_dram (s : State) (c : Nat) (p : Option Nat) : (s.setPartner c p).dram = s.dram := by
  simp [State.setPartner]
@[simp] theorem State.setPartner_free (s : State) (c : Nat) (p : Option Nat) : (s.setPartner c p).free = s.free := by
  simp [State.setPartner]
@[simp] theorem State.setPartner_pending (s : State) (c : Nat) (p : Option Nat) : (s.setPartner c p).pending = s.pending := by
  simp [State.setPartner]

-- State.setCfgWord

@[simp] theorem State.setCfgWord_porst (s : State) (a : Nat) (w : Word) : (s.setCfgWord a w).porst = s.porst := by
  unfold State.setCfgWord; split <;> rfl
@[simp] theorem State.setCfgWord_instId (s : State) (a : Nat) (w : Word) : (s.setCfgWord a w).instId = s.instId := by
  unfold State.setCfgWord; split <;> rfl
@[simp] theorem State.setCfgWord_now (s : State) (a : Nat) (w : Word) : (s.setCfgWord a w).now = s.now := by
  unfold State.setCfgWord; split <;> rfl
@[simp] theorem State.setCfgWord_rsck (s : State) (a : Nat) (w : Word) : (s.setCfgWord a w).rsck = s.rsck := by
  unfold State.setCfgWord; split <;> rfl
@[simp] theorem State.setCfgWord_rfrac (s : State) (a : Nat) (w : Word) : (s.setCfgWord a w).rfrac = s.rfrac := by
  unfold State.setCfgWord; split <;> rfl
@[simp] theorem State.setCfgWord_rsiAlive (s : State) (a : Nat) (w : Word) : (s.setCfgWord a w).rsiAlive = s.rsiAlive := by
  unfold State.setCfgWord; split <;> rfl
@[simp] theorem State.setCfgWord_stat (s : State) (a : Nat) (w : Word) : (s.setCfgWord a w).stat = s.stat := by
  unfold State.setCfgWord; split <;> rfl
@[simp] theorem State.setCfgWord_caps (s : State) (a : Nat) (w : Word) : (s.setCfgWord a w).caps = s.caps := by
  unfold State.setCfgWord; split <;> rfl
@[simp] theorem State.setCfgWord_news (s : State) (a : Nat) (w : Word) : (s.setCfgWord a w).news = s.news := by
  unfold State.setCfgWord; split <;> rfl
@[simp] theorem State.setCfgWord_walks (s : State) (a : Nat) (w : Word) : (s.setCfgWord a w).walks = s.walks := by
  unfold State.setCfgWord; split <;> rfl
@[simp] theorem State.setCfgWord_frozen (s : State) (a : Nat) (w : Word) : (s.setCfgWord a w).frozen = s.frozen := by
  unfold State.setCfgWord; split <;> rfl
@[simp] theorem State.setCfgWord_apbM (s : State) (a : Nat) (w : Word) : (s.setCfgWord a w).apbM = s.apbM := by
  unfold State.setCfgWord; split <;> rfl
@[simp] theorem State.setCfgWord_apbK (s : State) (a : Nat) (w : Word) : (s.setCfgWord a w).apbK = s.apbK := by
  unfold State.setCfgWord; split <;> rfl
@[simp] theorem State.setCfgWord_pins (s : State) (a : Nat) (w : Word) : (s.setCfgWord a w).pins = s.pins := by
  unfold State.setCfgWord; split <;> rfl
@[simp] theorem State.setCfgWord_clk (s : State) (a : Nat) (w : Word) : (s.setCfgWord a w).clk = s.clk := by
  unfold State.setCfgWord; split <;> rfl
@[simp] theorem State.setCfgWord_load (s : State) (a : Nat) (w : Word) : (s.setCfgWord a w).load = s.load := by
  unfold State.setCfgWord; split <;> rfl
@[simp] theorem State.setCfgWord_tb (s : State) (a : Nat) (w : Word) : (s.setCfgWord a w).tb = s.tb := by
  unfold State.setCfgWord; split <;> rfl
@[simp] theorem State.setCfgWord_brk (s : State) (a : Nat) (w : Word) : (s.setCfgWord a w).brk = s.brk := by
  unfold State.setCfgWord; split <;> rfl
@[simp] theorem State.setCfgWord_ports (s : State) (a : Nat) (w : Word) : (s.setCfgWord a w).ports = s.ports := by
  unfold State.setCfgWord; split <;> rfl
@[simp] theorem State.setCfgWord_wheel (s : State) (a : Nat) (w : Word) : (s.setCfgWord a w).wheel = s.wheel := by
  unfold State.setCfgWord; split <;> rfl
@[simp] theorem State.setCfgWord_chans (s : State) (a : Nat) (w : Word) : (s.setCfgWord a w).chans = s.chans := by
  unfold State.setCfgWord; split <;> rfl
@[simp] theorem State.setCfgWord_cals (s : State) (a : Nat) (w : Word) : (s.setCfgWord a w).cals = s.cals := by
  unfold State.setCfgWord; split <;> rfl
@[simp] theorem State.setCfgWord_quads (s : State) (a : Nat) (w : Word) : (s.setCfgWord a w).quads = s.quads := by
  unfold State.setCfgWord; split <;> rfl
@[simp] theorem State.setCfgWord_op (s : State) (a : Nat) (w : Word) : (s.setCfgWord a w).op = s.op := by
  unfold State.setCfgWord; split <;> rfl
@[simp] theorem State.setCfgWord_flt (s : State) (a : Nat) (w : Word) : (s.setCfgWord a w).flt = s.flt := by
  unfold State.setCfgWord; split <;> rfl
@[simp] theorem State.setCfgWord_mnt (s : State) (a : Nat) (w : Word) : (s.setCfgWord a w).mnt = s.mnt := by
  unfold State.setCfgWord; split <;> rfl
@[simp] theorem State.setCfgWord_keys (s : State) (a : Nat) (w : Word) : (s.setCfgWord a w).keys = s.keys := by
  unfold State.setCfgWord; split <;> rfl
@[simp] theorem State.setCfgWord_tap (s : State) (a : Nat) (w : Word) : (s.setCfgWord a w).tap = s.tap := by
  unfold State.setCfgWord; split <;> rfl
@[simp] theorem State.setCfgWord_spill (s : State) (a : Nat) (w : Word) : (s.setCfgWord a w).spill = s.spill := by
  unfold State.setCfgWord; split <;> rfl
@[simp] theorem State.setCfgWord_spillLast (s : State) (a : Nat) (w : Word) : (s.setCfgWord a w).spillLast = s.spillLast := by
  unfold State.setCfgWord; split <;> rfl
@[simp] theorem State.setCfgWord_spillAt (s : State) (a : Nat) (w : Word) : (s.setCfgWord a w).spillAt = s.spillAt := by
  unfold State.setCfgWord; split <;> rfl
@[simp] theorem State.setCfgWord_perf (s : State) (a : Nat) (w : Word) : (s.setCfgWord a w).perf = s.perf := by
  unfold State.setCfgWord; split <;> rfl
@[simp] theorem State.setCfgWord_dram (s : State) (a : Nat) (w : Word) : (s.setCfgWord a w).dram = s.dram := by
  unfold State.setCfgWord; split <;> rfl
@[simp] theorem State.setCfgWord_free (s : State) (a : Nat) (w : Word) : (s.setCfgWord a w).free = s.free := by
  unfold State.setCfgWord; split <;> rfl
@[simp] theorem State.setCfgWord_pending (s : State) (a : Nat) (w : Word) : (s.setCfgWord a w).pending = s.pending := by
  unfold State.setCfgWord; split <;> rfl

-- State.setCf

@[simp] theorem State.setCf_porst (s : State) (f : Field) (v : Nat) : (s.setCf f v).porst = s.porst := by
  simp [State.setCf]
@[simp] theorem State.setCf_instId (s : State) (f : Field) (v : Nat) : (s.setCf f v).instId = s.instId := by
  simp [State.setCf]
@[simp] theorem State.setCf_now (s : State) (f : Field) (v : Nat) : (s.setCf f v).now = s.now := by
  simp [State.setCf]
@[simp] theorem State.setCf_rsck (s : State) (f : Field) (v : Nat) : (s.setCf f v).rsck = s.rsck := by
  simp [State.setCf]
@[simp] theorem State.setCf_rfrac (s : State) (f : Field) (v : Nat) : (s.setCf f v).rfrac = s.rfrac := by
  simp [State.setCf]
@[simp] theorem State.setCf_rsiAlive (s : State) (f : Field) (v : Nat) : (s.setCf f v).rsiAlive = s.rsiAlive := by
  simp [State.setCf]
@[simp] theorem State.setCf_stat (s : State) (f : Field) (v : Nat) : (s.setCf f v).stat = s.stat := by
  simp [State.setCf]
@[simp] theorem State.setCf_caps (s : State) (f : Field) (v : Nat) : (s.setCf f v).caps = s.caps := by
  simp [State.setCf]
@[simp] theorem State.setCf_news (s : State) (f : Field) (v : Nat) : (s.setCf f v).news = s.news := by
  simp [State.setCf]
@[simp] theorem State.setCf_walks (s : State) (f : Field) (v : Nat) : (s.setCf f v).walks = s.walks := by
  simp [State.setCf]
@[simp] theorem State.setCf_frozen (s : State) (f : Field) (v : Nat) : (s.setCf f v).frozen = s.frozen := by
  simp [State.setCf]
@[simp] theorem State.setCf_apbM (s : State) (f : Field) (v : Nat) : (s.setCf f v).apbM = s.apbM := by
  simp [State.setCf]
@[simp] theorem State.setCf_apbK (s : State) (f : Field) (v : Nat) : (s.setCf f v).apbK = s.apbK := by
  simp [State.setCf]
@[simp] theorem State.setCf_pins (s : State) (f : Field) (v : Nat) : (s.setCf f v).pins = s.pins := by
  simp [State.setCf]
@[simp] theorem State.setCf_clk (s : State) (f : Field) (v : Nat) : (s.setCf f v).clk = s.clk := by
  simp [State.setCf]
@[simp] theorem State.setCf_load (s : State) (f : Field) (v : Nat) : (s.setCf f v).load = s.load := by
  simp [State.setCf]
@[simp] theorem State.setCf_tb (s : State) (f : Field) (v : Nat) : (s.setCf f v).tb = s.tb := by
  simp [State.setCf]
@[simp] theorem State.setCf_brk (s : State) (f : Field) (v : Nat) : (s.setCf f v).brk = s.brk := by
  simp [State.setCf]
@[simp] theorem State.setCf_ports (s : State) (f : Field) (v : Nat) : (s.setCf f v).ports = s.ports := by
  simp [State.setCf]
@[simp] theorem State.setCf_wheel (s : State) (f : Field) (v : Nat) : (s.setCf f v).wheel = s.wheel := by
  simp [State.setCf]
@[simp] theorem State.setCf_chans (s : State) (f : Field) (v : Nat) : (s.setCf f v).chans = s.chans := by
  simp [State.setCf]
@[simp] theorem State.setCf_cals (s : State) (f : Field) (v : Nat) : (s.setCf f v).cals = s.cals := by
  simp [State.setCf]
@[simp] theorem State.setCf_quads (s : State) (f : Field) (v : Nat) : (s.setCf f v).quads = s.quads := by
  simp [State.setCf]
@[simp] theorem State.setCf_op (s : State) (f : Field) (v : Nat) : (s.setCf f v).op = s.op := by
  simp [State.setCf]
@[simp] theorem State.setCf_flt (s : State) (f : Field) (v : Nat) : (s.setCf f v).flt = s.flt := by
  simp [State.setCf]
@[simp] theorem State.setCf_mnt (s : State) (f : Field) (v : Nat) : (s.setCf f v).mnt = s.mnt := by
  simp [State.setCf]
@[simp] theorem State.setCf_keys (s : State) (f : Field) (v : Nat) : (s.setCf f v).keys = s.keys := by
  simp [State.setCf]
@[simp] theorem State.setCf_tap (s : State) (f : Field) (v : Nat) : (s.setCf f v).tap = s.tap := by
  simp [State.setCf]
@[simp] theorem State.setCf_spill (s : State) (f : Field) (v : Nat) : (s.setCf f v).spill = s.spill := by
  simp [State.setCf]
@[simp] theorem State.setCf_spillLast (s : State) (f : Field) (v : Nat) : (s.setCf f v).spillLast = s.spillLast := by
  simp [State.setCf]
@[simp] theorem State.setCf_spillAt (s : State) (f : Field) (v : Nat) : (s.setCf f v).spillAt = s.spillAt := by
  simp [State.setCf]
@[simp] theorem State.setCf_perf (s : State) (f : Field) (v : Nat) : (s.setCf f v).perf = s.perf := by
  simp [State.setCf]
@[simp] theorem State.setCf_dram (s : State) (f : Field) (v : Nat) : (s.setCf f v).dram = s.dram := by
  simp [State.setCf]
@[simp] theorem State.setCf_free (s : State) (f : Field) (v : Nat) : (s.setCf f v).free = s.free := by
  simp [State.setCf]
@[simp] theorem State.setCf_pending (s : State) (f : Field) (v : Nat) : (s.setCf f v).pending = s.pending := by
  simp [State.setCf]

-- State.setTable

@[simp] theorem State.setTable_porst (s : State) (t : List Nat) : (s.setTable t).porst = s.porst := by
  simp [State.setTable]
@[simp] theorem State.setTable_instId (s : State) (t : List Nat) : (s.setTable t).instId = s.instId := by
  simp [State.setTable]
@[simp] theorem State.setTable_now (s : State) (t : List Nat) : (s.setTable t).now = s.now := by
  simp [State.setTable]
@[simp] theorem State.setTable_rsck (s : State) (t : List Nat) : (s.setTable t).rsck = s.rsck := by
  simp [State.setTable]
@[simp] theorem State.setTable_rfrac (s : State) (t : List Nat) : (s.setTable t).rfrac = s.rfrac := by
  simp [State.setTable]
@[simp] theorem State.setTable_rsiAlive (s : State) (t : List Nat) : (s.setTable t).rsiAlive = s.rsiAlive := by
  simp [State.setTable]
@[simp] theorem State.setTable_stat (s : State) (t : List Nat) : (s.setTable t).stat = s.stat := by
  simp [State.setTable]
@[simp] theorem State.setTable_caps (s : State) (t : List Nat) : (s.setTable t).caps = s.caps := by
  simp [State.setTable]
@[simp] theorem State.setTable_news (s : State) (t : List Nat) : (s.setTable t).news = s.news := by
  simp [State.setTable]
@[simp] theorem State.setTable_walks (s : State) (t : List Nat) : (s.setTable t).walks = s.walks := by
  simp [State.setTable]
@[simp] theorem State.setTable_frozen (s : State) (t : List Nat) : (s.setTable t).frozen = s.frozen := by
  simp [State.setTable]
@[simp] theorem State.setTable_apbM (s : State) (t : List Nat) : (s.setTable t).apbM = s.apbM := by
  simp [State.setTable]
@[simp] theorem State.setTable_apbK (s : State) (t : List Nat) : (s.setTable t).apbK = s.apbK := by
  simp [State.setTable]
@[simp] theorem State.setTable_pins (s : State) (t : List Nat) : (s.setTable t).pins = s.pins := by
  simp [State.setTable]
@[simp] theorem State.setTable_clk (s : State) (t : List Nat) : (s.setTable t).clk = s.clk := by
  simp [State.setTable]
@[simp] theorem State.setTable_load (s : State) (t : List Nat) : (s.setTable t).load = s.load := by
  simp [State.setTable]
@[simp] theorem State.setTable_tb (s : State) (t : List Nat) : (s.setTable t).tb = s.tb := by
  simp [State.setTable]
@[simp] theorem State.setTable_brk (s : State) (t : List Nat) : (s.setTable t).brk = s.brk := by
  simp [State.setTable]
@[simp] theorem State.setTable_ports (s : State) (t : List Nat) : (s.setTable t).ports = s.ports := by
  simp [State.setTable]
@[simp] theorem State.setTable_wheel (s : State) (t : List Nat) : (s.setTable t).wheel = s.wheel := by
  simp [State.setTable]
@[simp] theorem State.setTable_chans (s : State) (t : List Nat) : (s.setTable t).chans = s.chans := by
  simp [State.setTable]
@[simp] theorem State.setTable_cals (s : State) (t : List Nat) : (s.setTable t).cals = s.cals := by
  simp [State.setTable]
@[simp] theorem State.setTable_quads (s : State) (t : List Nat) : (s.setTable t).quads = s.quads := by
  simp [State.setTable]
@[simp] theorem State.setTable_op (s : State) (t : List Nat) : (s.setTable t).op = s.op := by
  simp [State.setTable]
@[simp] theorem State.setTable_flt (s : State) (t : List Nat) : (s.setTable t).flt = s.flt := by
  simp [State.setTable]
@[simp] theorem State.setTable_mnt (s : State) (t : List Nat) : (s.setTable t).mnt = s.mnt := by
  simp [State.setTable]
@[simp] theorem State.setTable_keys (s : State) (t : List Nat) : (s.setTable t).keys = s.keys := by
  simp [State.setTable]
@[simp] theorem State.setTable_tap (s : State) (t : List Nat) : (s.setTable t).tap = s.tap := by
  simp [State.setTable]
@[simp] theorem State.setTable_spill (s : State) (t : List Nat) : (s.setTable t).spill = s.spill := by
  simp [State.setTable]
@[simp] theorem State.setTable_spillLast (s : State) (t : List Nat) : (s.setTable t).spillLast = s.spillLast := by
  simp [State.setTable]
@[simp] theorem State.setTable_spillAt (s : State) (t : List Nat) : (s.setTable t).spillAt = s.spillAt := by
  simp [State.setTable]
@[simp] theorem State.setTable_perf (s : State) (t : List Nat) : (s.setTable t).perf = s.perf := by
  simp [State.setTable]
@[simp] theorem State.setTable_dram (s : State) (t : List Nat) : (s.setTable t).dram = s.dram := by
  simp [State.setTable]
@[simp] theorem State.setTable_free (s : State) (t : List Nat) : (s.setTable t).free = s.free := by
  simp [State.setTable]
@[simp] theorem State.setTable_pending (s : State) (t : List Nat) : (s.setTable t).pending = s.pending := by
  simp [State.setTable]

-- State.note

@[simp] theorem State.note_porst (s : State) (e : Ev) (u n : Nat) : (s.note e u n).porst = s.porst := rfl
@[simp] theorem State.note_instId (s : State) (e : Ev) (u n : Nat) : (s.note e u n).instId = s.instId := rfl
@[simp] theorem State.note_now (s : State) (e : Ev) (u n : Nat) : (s.note e u n).now = s.now := rfl
@[simp] theorem State.note_rsck (s : State) (e : Ev) (u n : Nat) : (s.note e u n).rsck = s.rsck := rfl
@[simp] theorem State.note_rfrac (s : State) (e : Ev) (u n : Nat) : (s.note e u n).rfrac = s.rfrac := rfl
@[simp] theorem State.note_rsiAlive (s : State) (e : Ev) (u n : Nat) : (s.note e u n).rsiAlive = s.rsiAlive := rfl
@[simp] theorem State.note_cfg (s : State) (e : Ev) (u n : Nat) : (s.note e u n).cfg = s.cfg := rfl
@[simp] theorem State.note_stat (s : State) (e : Ev) (u n : Nat) : (s.note e u n).stat = s.stat := rfl
@[simp] theorem State.note_caps (s : State) (e : Ev) (u n : Nat) : (s.note e u n).caps = s.caps := rfl
@[simp] theorem State.note_news (s : State) (e : Ev) (u n : Nat) : (s.note e u n).news = s.news := rfl
@[simp] theorem State.note_parErr (s : State) (e : Ev) (u n : Nat) : (s.note e u n).parErr = s.parErr := rfl
@[simp] theorem State.note_walks (s : State) (e : Ev) (u n : Nat) : (s.note e u n).walks = s.walks := rfl
@[simp] theorem State.note_frozen (s : State) (e : Ev) (u n : Nat) : (s.note e u n).frozen = s.frozen := rfl
@[simp] theorem State.note_apbM (s : State) (e : Ev) (u n : Nat) : (s.note e u n).apbM = s.apbM := rfl
@[simp] theorem State.note_apbK (s : State) (e : Ev) (u n : Nat) : (s.note e u n).apbK = s.apbK := rfl
@[simp] theorem State.note_pins (s : State) (e : Ev) (u n : Nat) : (s.note e u n).pins = s.pins := rfl
@[simp] theorem State.note_clk (s : State) (e : Ev) (u n : Nat) : (s.note e u n).clk = s.clk := rfl
@[simp] theorem State.note_load (s : State) (e : Ev) (u n : Nat) : (s.note e u n).load = s.load := rfl
@[simp] theorem State.note_tb (s : State) (e : Ev) (u n : Nat) : (s.note e u n).tb = s.tb := rfl
@[simp] theorem State.note_brk (s : State) (e : Ev) (u n : Nat) : (s.note e u n).brk = s.brk := rfl
@[simp] theorem State.note_ports (s : State) (e : Ev) (u n : Nat) : (s.note e u n).ports = s.ports := rfl
@[simp] theorem State.note_wheel (s : State) (e : Ev) (u n : Nat) : (s.note e u n).wheel = s.wheel := rfl
@[simp] theorem State.note_chans (s : State) (e : Ev) (u n : Nat) : (s.note e u n).chans = s.chans := rfl
@[simp] theorem State.note_cals (s : State) (e : Ev) (u n : Nat) : (s.note e u n).cals = s.cals := rfl
@[simp] theorem State.note_quads (s : State) (e : Ev) (u n : Nat) : (s.note e u n).quads = s.quads := rfl
@[simp] theorem State.note_op (s : State) (e : Ev) (u n : Nat) : (s.note e u n).op = s.op := rfl
@[simp] theorem State.note_flt (s : State) (e : Ev) (u n : Nat) : (s.note e u n).flt = s.flt := rfl
@[simp] theorem State.note_mnt (s : State) (e : Ev) (u n : Nat) : (s.note e u n).mnt = s.mnt := rfl
@[simp] theorem State.note_keys (s : State) (e : Ev) (u n : Nat) : (s.note e u n).keys = s.keys := rfl
@[simp] theorem State.note_tap (s : State) (e : Ev) (u n : Nat) : (s.note e u n).tap = s.tap := rfl
@[simp] theorem State.note_spill (s : State) (e : Ev) (u n : Nat) : (s.note e u n).spill = s.spill := rfl
@[simp] theorem State.note_spillLast (s : State) (e : Ev) (u n : Nat) : (s.note e u n).spillLast = s.spillLast := rfl
@[simp] theorem State.note_spillAt (s : State) (e : Ev) (u n : Nat) : (s.note e u n).spillAt = s.spillAt := rfl
@[simp] theorem State.note_perf (s : State) (e : Ev) (u n : Nat) : (s.note e u n).perf = { s.perf with evts := (e.num, u, n) :: s.perf.evts } := rfl
@[simp] theorem State.note_dram (s : State) (e : Ev) (u n : Nat) : (s.note e u n).dram = s.dram := rfl
@[simp] theorem State.note_free (s : State) (e : Ev) (u n : Nat) : (s.note e u n).free = s.free := rfl
@[simp] theorem State.note_pending (s : State) (e : Ev) (u n : Nat) : (s.note e u n).pending = s.pending := rfl

-- State.onChan

@[simp] theorem State.onChan_porst (s : State) (c : Nat) (f : Chan → Chan) : (s.onChan c f).porst = s.porst := rfl
@[simp] theorem State.onChan_instId (s : State) (c : Nat) (f : Chan → Chan) : (s.onChan c f).instId = s.instId := rfl
@[simp] theorem State.onChan_now (s : State) (c : Nat) (f : Chan → Chan) : (s.onChan c f).now = s.now := rfl
@[simp] theorem State.onChan_rsck (s : State) (c : Nat) (f : Chan → Chan) : (s.onChan c f).rsck = s.rsck := rfl
@[simp] theorem State.onChan_rfrac (s : State) (c : Nat) (f : Chan → Chan) : (s.onChan c f).rfrac = s.rfrac := rfl
@[simp] theorem State.onChan_rsiAlive (s : State) (c : Nat) (f : Chan → Chan) : (s.onChan c f).rsiAlive = s.rsiAlive := rfl
@[simp] theorem State.onChan_cfg (s : State) (c : Nat) (f : Chan → Chan) : (s.onChan c f).cfg = s.cfg := rfl
@[simp] theorem State.onChan_stat (s : State) (c : Nat) (f : Chan → Chan) : (s.onChan c f).stat = s.stat := rfl
@[simp] theorem State.onChan_caps (s : State) (c : Nat) (f : Chan → Chan) : (s.onChan c f).caps = s.caps := rfl
@[simp] theorem State.onChan_news (s : State) (c : Nat) (f : Chan → Chan) : (s.onChan c f).news = s.news := rfl
@[simp] theorem State.onChan_parErr (s : State) (c : Nat) (f : Chan → Chan) : (s.onChan c f).parErr = s.parErr := rfl
@[simp] theorem State.onChan_walks (s : State) (c : Nat) (f : Chan → Chan) : (s.onChan c f).walks = s.walks := rfl
@[simp] theorem State.onChan_frozen (s : State) (c : Nat) (f : Chan → Chan) : (s.onChan c f).frozen = s.frozen := rfl
@[simp] theorem State.onChan_apbM (s : State) (c : Nat) (f : Chan → Chan) : (s.onChan c f).apbM = s.apbM := rfl
@[simp] theorem State.onChan_apbK (s : State) (c : Nat) (f : Chan → Chan) : (s.onChan c f).apbK = s.apbK := rfl
@[simp] theorem State.onChan_pins (s : State) (c : Nat) (f : Chan → Chan) : (s.onChan c f).pins = s.pins := rfl
@[simp] theorem State.onChan_clk (s : State) (c : Nat) (f : Chan → Chan) : (s.onChan c f).clk = s.clk := rfl
@[simp] theorem State.onChan_load (s : State) (c : Nat) (f : Chan → Chan) : (s.onChan c f).load = s.load := rfl
@[simp] theorem State.onChan_tb (s : State) (c : Nat) (f : Chan → Chan) : (s.onChan c f).tb = s.tb := rfl
@[simp] theorem State.onChan_brk (s : State) (c : Nat) (f : Chan → Chan) : (s.onChan c f).brk = s.brk := rfl
@[simp] theorem State.onChan_ports (s : State) (c : Nat) (f : Chan → Chan) : (s.onChan c f).ports = s.ports := rfl
@[simp] theorem State.onChan_wheel (s : State) (c : Nat) (f : Chan → Chan) : (s.onChan c f).wheel = s.wheel := rfl
@[simp] theorem State.onChan_chans (s : State) (c : Nat) (f : Chan → Chan) : (s.onChan c f).chans = upd s.chans c f := rfl
@[simp] theorem State.onChan_cals (s : State) (c : Nat) (f : Chan → Chan) : (s.onChan c f).cals = s.cals := rfl
@[simp] theorem State.onChan_quads (s : State) (c : Nat) (f : Chan → Chan) : (s.onChan c f).quads = s.quads := rfl
@[simp] theorem State.onChan_op (s : State) (c : Nat) (f : Chan → Chan) : (s.onChan c f).op = s.op := rfl
@[simp] theorem State.onChan_flt (s : State) (c : Nat) (f : Chan → Chan) : (s.onChan c f).flt = s.flt := rfl
@[simp] theorem State.onChan_mnt (s : State) (c : Nat) (f : Chan → Chan) : (s.onChan c f).mnt = s.mnt := rfl
@[simp] theorem State.onChan_keys (s : State) (c : Nat) (f : Chan → Chan) : (s.onChan c f).keys = s.keys := rfl
@[simp] theorem State.onChan_tap (s : State) (c : Nat) (f : Chan → Chan) : (s.onChan c f).tap = s.tap := rfl
@[simp] theorem State.onChan_spill (s : State) (c : Nat) (f : Chan → Chan) : (s.onChan c f).spill = s.spill := rfl
@[simp] theorem State.onChan_spillLast (s : State) (c : Nat) (f : Chan → Chan) : (s.onChan c f).spillLast = s.spillLast := rfl
@[simp] theorem State.onChan_spillAt (s : State) (c : Nat) (f : Chan → Chan) : (s.onChan c f).spillAt = s.spillAt := rfl
@[simp] theorem State.onChan_perf (s : State) (c : Nat) (f : Chan → Chan) : (s.onChan c f).perf = s.perf := rfl
@[simp] theorem State.onChan_dram (s : State) (c : Nat) (f : Chan → Chan) : (s.onChan c f).dram = s.dram := rfl
@[simp] theorem State.onChan_free (s : State) (c : Nat) (f : Chan → Chan) : (s.onChan c f).free = s.free := rfl
@[simp] theorem State.onChan_pending (s : State) (c : Nat) (f : Chan → Chan) : (s.onChan c f).pending = s.pending := rfl

-- State.onRank

@[simp] theorem State.onRank_porst (s : State) (c r : Nat) (f : Rank → Rank) : (s.onRank c r f).porst = s.porst := rfl
@[simp] theorem State.onRank_instId (s : State) (c r : Nat) (f : Rank → Rank) : (s.onRank c r f).instId = s.instId := rfl
@[simp] theorem State.onRank_now (s : State) (c r : Nat) (f : Rank → Rank) : (s.onRank c r f).now = s.now := rfl
@[simp] theorem State.onRank_rsck (s : State) (c r : Nat) (f : Rank → Rank) : (s.onRank c r f).rsck = s.rsck := rfl
@[simp] theorem State.onRank_rfrac (s : State) (c r : Nat) (f : Rank → Rank) : (s.onRank c r f).rfrac = s.rfrac := rfl
@[simp] theorem State.onRank_rsiAlive (s : State) (c r : Nat) (f : Rank → Rank) : (s.onRank c r f).rsiAlive = s.rsiAlive := rfl
@[simp] theorem State.onRank_cfg (s : State) (c r : Nat) (f : Rank → Rank) : (s.onRank c r f).cfg = s.cfg := rfl
@[simp] theorem State.onRank_stat (s : State) (c r : Nat) (f : Rank → Rank) : (s.onRank c r f).stat = s.stat := rfl
@[simp] theorem State.onRank_caps (s : State) (c r : Nat) (f : Rank → Rank) : (s.onRank c r f).caps = s.caps := rfl
@[simp] theorem State.onRank_news (s : State) (c r : Nat) (f : Rank → Rank) : (s.onRank c r f).news = s.news := rfl
@[simp] theorem State.onRank_parErr (s : State) (c r : Nat) (f : Rank → Rank) : (s.onRank c r f).parErr = s.parErr := rfl
@[simp] theorem State.onRank_walks (s : State) (c r : Nat) (f : Rank → Rank) : (s.onRank c r f).walks = s.walks := rfl
@[simp] theorem State.onRank_frozen (s : State) (c r : Nat) (f : Rank → Rank) : (s.onRank c r f).frozen = s.frozen := rfl
@[simp] theorem State.onRank_apbM (s : State) (c r : Nat) (f : Rank → Rank) : (s.onRank c r f).apbM = s.apbM := rfl
@[simp] theorem State.onRank_apbK (s : State) (c r : Nat) (f : Rank → Rank) : (s.onRank c r f).apbK = s.apbK := rfl
@[simp] theorem State.onRank_pins (s : State) (c r : Nat) (f : Rank → Rank) : (s.onRank c r f).pins = s.pins := rfl
@[simp] theorem State.onRank_clk (s : State) (c r : Nat) (f : Rank → Rank) : (s.onRank c r f).clk = s.clk := rfl
@[simp] theorem State.onRank_load (s : State) (c r : Nat) (f : Rank → Rank) : (s.onRank c r f).load = s.load := rfl
@[simp] theorem State.onRank_tb (s : State) (c r : Nat) (f : Rank → Rank) : (s.onRank c r f).tb = s.tb := rfl
@[simp] theorem State.onRank_brk (s : State) (c r : Nat) (f : Rank → Rank) : (s.onRank c r f).brk = s.brk := rfl
@[simp] theorem State.onRank_ports (s : State) (c r : Nat) (f : Rank → Rank) : (s.onRank c r f).ports = s.ports := rfl
@[simp] theorem State.onRank_wheel (s : State) (c r : Nat) (f : Rank → Rank) : (s.onRank c r f).wheel = s.wheel := rfl
@[simp] theorem State.onRank_chans (s : State) (c r : Nat) (f : Rank → Rank) : (s.onRank c r f).chans = upd s.chans c (·.onRank r f) := rfl
@[simp] theorem State.onRank_cals (s : State) (c r : Nat) (f : Rank → Rank) : (s.onRank c r f).cals = s.cals := rfl
@[simp] theorem State.onRank_quads (s : State) (c r : Nat) (f : Rank → Rank) : (s.onRank c r f).quads = s.quads := rfl
@[simp] theorem State.onRank_op (s : State) (c r : Nat) (f : Rank → Rank) : (s.onRank c r f).op = s.op := rfl
@[simp] theorem State.onRank_flt (s : State) (c r : Nat) (f : Rank → Rank) : (s.onRank c r f).flt = s.flt := rfl
@[simp] theorem State.onRank_mnt (s : State) (c r : Nat) (f : Rank → Rank) : (s.onRank c r f).mnt = s.mnt := rfl
@[simp] theorem State.onRank_keys (s : State) (c r : Nat) (f : Rank → Rank) : (s.onRank c r f).keys = s.keys := rfl
@[simp] theorem State.onRank_tap (s : State) (c r : Nat) (f : Rank → Rank) : (s.onRank c r f).tap = s.tap := rfl
@[simp] theorem State.onRank_spill (s : State) (c r : Nat) (f : Rank → Rank) : (s.onRank c r f).spill = s.spill := rfl
@[simp] theorem State.onRank_spillLast (s : State) (c r : Nat) (f : Rank → Rank) : (s.onRank c r f).spillLast = s.spillLast := rfl
@[simp] theorem State.onRank_spillAt (s : State) (c r : Nat) (f : Rank → Rank) : (s.onRank c r f).spillAt = s.spillAt := rfl
@[simp] theorem State.onRank_perf (s : State) (c r : Nat) (f : Rank → Rank) : (s.onRank c r f).perf = s.perf := rfl
@[simp] theorem State.onRank_dram (s : State) (c r : Nat) (f : Rank → Rank) : (s.onRank c r f).dram = s.dram := rfl
@[simp] theorem State.onRank_free (s : State) (c r : Nat) (f : Rank → Rank) : (s.onRank c r f).free = s.free := rfl
@[simp] theorem State.onRank_pending (s : State) (c r : Nat) (f : Rank → Rank) : (s.onRank c r f).pending = s.pending := rfl

-- State.onRanks

@[simp] theorem State.onRanks_porst (s : State) (c : Nat) (f : Rank → Rank) : (s.onRanks c f).porst = s.porst := rfl
@[simp] theorem State.onRanks_instId (s : State) (c : Nat) (f : Rank → Rank) : (s.onRanks c f).instId = s.instId := rfl
@[simp] theorem State.onRanks_now (s : State) (c : Nat) (f : Rank → Rank) : (s.onRanks c f).now = s.now := rfl
@[simp] theorem State.onRanks_rsck (s : State) (c : Nat) (f : Rank → Rank) : (s.onRanks c f).rsck = s.rsck := rfl
@[simp] theorem State.onRanks_rfrac (s : State) (c : Nat) (f : Rank → Rank) : (s.onRanks c f).rfrac = s.rfrac := rfl
@[simp] theorem State.onRanks_rsiAlive (s : State) (c : Nat) (f : Rank → Rank) : (s.onRanks c f).rsiAlive = s.rsiAlive := rfl
@[simp] theorem State.onRanks_cfg (s : State) (c : Nat) (f : Rank → Rank) : (s.onRanks c f).cfg = s.cfg := rfl
@[simp] theorem State.onRanks_stat (s : State) (c : Nat) (f : Rank → Rank) : (s.onRanks c f).stat = s.stat := rfl
@[simp] theorem State.onRanks_caps (s : State) (c : Nat) (f : Rank → Rank) : (s.onRanks c f).caps = s.caps := rfl
@[simp] theorem State.onRanks_news (s : State) (c : Nat) (f : Rank → Rank) : (s.onRanks c f).news = s.news := rfl
@[simp] theorem State.onRanks_parErr (s : State) (c : Nat) (f : Rank → Rank) : (s.onRanks c f).parErr = s.parErr := rfl
@[simp] theorem State.onRanks_walks (s : State) (c : Nat) (f : Rank → Rank) : (s.onRanks c f).walks = s.walks := rfl
@[simp] theorem State.onRanks_frozen (s : State) (c : Nat) (f : Rank → Rank) : (s.onRanks c f).frozen = s.frozen := rfl
@[simp] theorem State.onRanks_apbM (s : State) (c : Nat) (f : Rank → Rank) : (s.onRanks c f).apbM = s.apbM := rfl
@[simp] theorem State.onRanks_apbK (s : State) (c : Nat) (f : Rank → Rank) : (s.onRanks c f).apbK = s.apbK := rfl
@[simp] theorem State.onRanks_pins (s : State) (c : Nat) (f : Rank → Rank) : (s.onRanks c f).pins = s.pins := rfl
@[simp] theorem State.onRanks_clk (s : State) (c : Nat) (f : Rank → Rank) : (s.onRanks c f).clk = s.clk := rfl
@[simp] theorem State.onRanks_load (s : State) (c : Nat) (f : Rank → Rank) : (s.onRanks c f).load = s.load := rfl
@[simp] theorem State.onRanks_tb (s : State) (c : Nat) (f : Rank → Rank) : (s.onRanks c f).tb = s.tb := rfl
@[simp] theorem State.onRanks_brk (s : State) (c : Nat) (f : Rank → Rank) : (s.onRanks c f).brk = s.brk := rfl
@[simp] theorem State.onRanks_ports (s : State) (c : Nat) (f : Rank → Rank) : (s.onRanks c f).ports = s.ports := rfl
@[simp] theorem State.onRanks_wheel (s : State) (c : Nat) (f : Rank → Rank) : (s.onRanks c f).wheel = s.wheel := rfl
@[simp] theorem State.onRanks_cals (s : State) (c : Nat) (f : Rank → Rank) : (s.onRanks c f).cals = s.cals := rfl
@[simp] theorem State.onRanks_quads (s : State) (c : Nat) (f : Rank → Rank) : (s.onRanks c f).quads = s.quads := rfl
@[simp] theorem State.onRanks_op (s : State) (c : Nat) (f : Rank → Rank) : (s.onRanks c f).op = s.op := rfl
@[simp] theorem State.onRanks_flt (s : State) (c : Nat) (f : Rank → Rank) : (s.onRanks c f).flt = s.flt := rfl
@[simp] theorem State.onRanks_mnt (s : State) (c : Nat) (f : Rank → Rank) : (s.onRanks c f).mnt = s.mnt := rfl
@[simp] theorem State.onRanks_keys (s : State) (c : Nat) (f : Rank → Rank) : (s.onRanks c f).keys = s.keys := rfl
@[simp] theorem State.onRanks_tap (s : State) (c : Nat) (f : Rank → Rank) : (s.onRanks c f).tap = s.tap := rfl
@[simp] theorem State.onRanks_spill (s : State) (c : Nat) (f : Rank → Rank) : (s.onRanks c f).spill = s.spill := rfl
@[simp] theorem State.onRanks_spillLast (s : State) (c : Nat) (f : Rank → Rank) : (s.onRanks c f).spillLast = s.spillLast := rfl
@[simp] theorem State.onRanks_spillAt (s : State) (c : Nat) (f : Rank → Rank) : (s.onRanks c f).spillAt = s.spillAt := rfl
@[simp] theorem State.onRanks_perf (s : State) (c : Nat) (f : Rank → Rank) : (s.onRanks c f).perf = s.perf := rfl
@[simp] theorem State.onRanks_dram (s : State) (c : Nat) (f : Rank → Rank) : (s.onRanks c f).dram = s.dram := rfl
@[simp] theorem State.onRanks_free (s : State) (c : Nat) (f : Rank → Rank) : (s.onRanks c f).free = s.free := rfl
@[simp] theorem State.onRanks_pending (s : State) (c : Nat) (f : Rank → Rank) : (s.onRanks c f).pending = s.pending := rfl

-- State.onCal

@[simp] theorem State.onCal_porst (s : State) (c : Nat) (f : ChanCal → ChanCal) : (s.onCal c f).porst = s.porst := rfl
@[simp] theorem State.onCal_instId (s : State) (c : Nat) (f : ChanCal → ChanCal) : (s.onCal c f).instId = s.instId := rfl
@[simp] theorem State.onCal_now (s : State) (c : Nat) (f : ChanCal → ChanCal) : (s.onCal c f).now = s.now := rfl
@[simp] theorem State.onCal_rsck (s : State) (c : Nat) (f : ChanCal → ChanCal) : (s.onCal c f).rsck = s.rsck := rfl
@[simp] theorem State.onCal_rfrac (s : State) (c : Nat) (f : ChanCal → ChanCal) : (s.onCal c f).rfrac = s.rfrac := rfl
@[simp] theorem State.onCal_rsiAlive (s : State) (c : Nat) (f : ChanCal → ChanCal) : (s.onCal c f).rsiAlive = s.rsiAlive := rfl
@[simp] theorem State.onCal_cfg (s : State) (c : Nat) (f : ChanCal → ChanCal) : (s.onCal c f).cfg = s.cfg := rfl
@[simp] theorem State.onCal_stat (s : State) (c : Nat) (f : ChanCal → ChanCal) : (s.onCal c f).stat = s.stat := rfl
@[simp] theorem State.onCal_caps (s : State) (c : Nat) (f : ChanCal → ChanCal) : (s.onCal c f).caps = s.caps := rfl
@[simp] theorem State.onCal_news (s : State) (c : Nat) (f : ChanCal → ChanCal) : (s.onCal c f).news = s.news := rfl
@[simp] theorem State.onCal_parErr (s : State) (c : Nat) (f : ChanCal → ChanCal) : (s.onCal c f).parErr = s.parErr := rfl
@[simp] theorem State.onCal_walks (s : State) (c : Nat) (f : ChanCal → ChanCal) : (s.onCal c f).walks = s.walks := rfl
@[simp] theorem State.onCal_frozen (s : State) (c : Nat) (f : ChanCal → ChanCal) : (s.onCal c f).frozen = s.frozen := rfl
@[simp] theorem State.onCal_apbM (s : State) (c : Nat) (f : ChanCal → ChanCal) : (s.onCal c f).apbM = s.apbM := rfl
@[simp] theorem State.onCal_apbK (s : State) (c : Nat) (f : ChanCal → ChanCal) : (s.onCal c f).apbK = s.apbK := rfl
@[simp] theorem State.onCal_pins (s : State) (c : Nat) (f : ChanCal → ChanCal) : (s.onCal c f).pins = s.pins := rfl
@[simp] theorem State.onCal_clk (s : State) (c : Nat) (f : ChanCal → ChanCal) : (s.onCal c f).clk = s.clk := rfl
@[simp] theorem State.onCal_load (s : State) (c : Nat) (f : ChanCal → ChanCal) : (s.onCal c f).load = s.load := rfl
@[simp] theorem State.onCal_tb (s : State) (c : Nat) (f : ChanCal → ChanCal) : (s.onCal c f).tb = s.tb := rfl
@[simp] theorem State.onCal_brk (s : State) (c : Nat) (f : ChanCal → ChanCal) : (s.onCal c f).brk = s.brk := rfl
@[simp] theorem State.onCal_ports (s : State) (c : Nat) (f : ChanCal → ChanCal) : (s.onCal c f).ports = s.ports := rfl
@[simp] theorem State.onCal_wheel (s : State) (c : Nat) (f : ChanCal → ChanCal) : (s.onCal c f).wheel = s.wheel := rfl
@[simp] theorem State.onCal_chans (s : State) (c : Nat) (f : ChanCal → ChanCal) : (s.onCal c f).chans = s.chans := rfl
@[simp] theorem State.onCal_cals (s : State) (c : Nat) (f : ChanCal → ChanCal) : (s.onCal c f).cals = upd s.cals c f := rfl
@[simp] theorem State.onCal_quads (s : State) (c : Nat) (f : ChanCal → ChanCal) : (s.onCal c f).quads = s.quads := rfl
@[simp] theorem State.onCal_op (s : State) (c : Nat) (f : ChanCal → ChanCal) : (s.onCal c f).op = s.op := rfl
@[simp] theorem State.onCal_flt (s : State) (c : Nat) (f : ChanCal → ChanCal) : (s.onCal c f).flt = s.flt := rfl
@[simp] theorem State.onCal_mnt (s : State) (c : Nat) (f : ChanCal → ChanCal) : (s.onCal c f).mnt = s.mnt := rfl
@[simp] theorem State.onCal_keys (s : State) (c : Nat) (f : ChanCal → ChanCal) : (s.onCal c f).keys = s.keys := rfl
@[simp] theorem State.onCal_tap (s : State) (c : Nat) (f : ChanCal → ChanCal) : (s.onCal c f).tap = s.tap := rfl
@[simp] theorem State.onCal_spill (s : State) (c : Nat) (f : ChanCal → ChanCal) : (s.onCal c f).spill = s.spill := rfl
@[simp] theorem State.onCal_spillLast (s : State) (c : Nat) (f : ChanCal → ChanCal) : (s.onCal c f).spillLast = s.spillLast := rfl
@[simp] theorem State.onCal_spillAt (s : State) (c : Nat) (f : ChanCal → ChanCal) : (s.onCal c f).spillAt = s.spillAt := rfl
@[simp] theorem State.onCal_perf (s : State) (c : Nat) (f : ChanCal → ChanCal) : (s.onCal c f).perf = s.perf := rfl
@[simp] theorem State.onCal_dram (s : State) (c : Nat) (f : ChanCal → ChanCal) : (s.onCal c f).dram = s.dram := rfl
@[simp] theorem State.onCal_free (s : State) (c : Nat) (f : ChanCal → ChanCal) : (s.onCal c f).free = s.free := rfl
@[simp] theorem State.onCal_pending (s : State) (c : Nat) (f : ChanCal → ChanCal) : (s.onCal c f).pending = s.pending := rfl

-- State.onQuad

@[simp] theorem State.onQuad_porst (s : State) (q : Nat) (f : Quad → Quad) : (s.onQuad q f).porst = s.porst := rfl
@[simp] theorem State.onQuad_instId (s : State) (q : Nat) (f : Quad → Quad) : (s.onQuad q f).instId = s.instId := rfl
@[simp] theorem State.onQuad_now (s : State) (q : Nat) (f : Quad → Quad) : (s.onQuad q f).now = s.now := rfl
@[simp] theorem State.onQuad_rsck (s : State) (q : Nat) (f : Quad → Quad) : (s.onQuad q f).rsck = s.rsck := rfl
@[simp] theorem State.onQuad_rfrac (s : State) (q : Nat) (f : Quad → Quad) : (s.onQuad q f).rfrac = s.rfrac := rfl
@[simp] theorem State.onQuad_rsiAlive (s : State) (q : Nat) (f : Quad → Quad) : (s.onQuad q f).rsiAlive = s.rsiAlive := rfl
@[simp] theorem State.onQuad_cfg (s : State) (q : Nat) (f : Quad → Quad) : (s.onQuad q f).cfg = s.cfg := rfl
@[simp] theorem State.onQuad_stat (s : State) (q : Nat) (f : Quad → Quad) : (s.onQuad q f).stat = s.stat := rfl
@[simp] theorem State.onQuad_caps (s : State) (q : Nat) (f : Quad → Quad) : (s.onQuad q f).caps = s.caps := rfl
@[simp] theorem State.onQuad_news (s : State) (q : Nat) (f : Quad → Quad) : (s.onQuad q f).news = s.news := rfl
@[simp] theorem State.onQuad_parErr (s : State) (q : Nat) (f : Quad → Quad) : (s.onQuad q f).parErr = s.parErr := rfl
@[simp] theorem State.onQuad_walks (s : State) (q : Nat) (f : Quad → Quad) : (s.onQuad q f).walks = s.walks := rfl
@[simp] theorem State.onQuad_frozen (s : State) (q : Nat) (f : Quad → Quad) : (s.onQuad q f).frozen = s.frozen := rfl
@[simp] theorem State.onQuad_apbM (s : State) (q : Nat) (f : Quad → Quad) : (s.onQuad q f).apbM = s.apbM := rfl
@[simp] theorem State.onQuad_apbK (s : State) (q : Nat) (f : Quad → Quad) : (s.onQuad q f).apbK = s.apbK := rfl
@[simp] theorem State.onQuad_pins (s : State) (q : Nat) (f : Quad → Quad) : (s.onQuad q f).pins = s.pins := rfl
@[simp] theorem State.onQuad_clk (s : State) (q : Nat) (f : Quad → Quad) : (s.onQuad q f).clk = s.clk := rfl
@[simp] theorem State.onQuad_load (s : State) (q : Nat) (f : Quad → Quad) : (s.onQuad q f).load = s.load := rfl
@[simp] theorem State.onQuad_tb (s : State) (q : Nat) (f : Quad → Quad) : (s.onQuad q f).tb = s.tb := rfl
@[simp] theorem State.onQuad_brk (s : State) (q : Nat) (f : Quad → Quad) : (s.onQuad q f).brk = s.brk := rfl
@[simp] theorem State.onQuad_ports (s : State) (q : Nat) (f : Quad → Quad) : (s.onQuad q f).ports = s.ports := rfl
@[simp] theorem State.onQuad_wheel (s : State) (q : Nat) (f : Quad → Quad) : (s.onQuad q f).wheel = s.wheel := rfl
@[simp] theorem State.onQuad_chans (s : State) (q : Nat) (f : Quad → Quad) : (s.onQuad q f).chans = s.chans := rfl
@[simp] theorem State.onQuad_cals (s : State) (q : Nat) (f : Quad → Quad) : (s.onQuad q f).cals = s.cals := rfl
@[simp] theorem State.onQuad_quads (s : State) (q : Nat) (f : Quad → Quad) : (s.onQuad q f).quads = upd s.quads q f := rfl
@[simp] theorem State.onQuad_op (s : State) (q : Nat) (f : Quad → Quad) : (s.onQuad q f).op = s.op := rfl
@[simp] theorem State.onQuad_flt (s : State) (q : Nat) (f : Quad → Quad) : (s.onQuad q f).flt = s.flt := rfl
@[simp] theorem State.onQuad_mnt (s : State) (q : Nat) (f : Quad → Quad) : (s.onQuad q f).mnt = s.mnt := rfl
@[simp] theorem State.onQuad_keys (s : State) (q : Nat) (f : Quad → Quad) : (s.onQuad q f).keys = s.keys := rfl
@[simp] theorem State.onQuad_tap (s : State) (q : Nat) (f : Quad → Quad) : (s.onQuad q f).tap = s.tap := rfl
@[simp] theorem State.onQuad_spill (s : State) (q : Nat) (f : Quad → Quad) : (s.onQuad q f).spill = s.spill := rfl
@[simp] theorem State.onQuad_spillLast (s : State) (q : Nat) (f : Quad → Quad) : (s.onQuad q f).spillLast = s.spillLast := rfl
@[simp] theorem State.onQuad_spillAt (s : State) (q : Nat) (f : Quad → Quad) : (s.onQuad q f).spillAt = s.spillAt := rfl
@[simp] theorem State.onQuad_perf (s : State) (q : Nat) (f : Quad → Quad) : (s.onQuad q f).perf = s.perf := rfl
@[simp] theorem State.onQuad_dram (s : State) (q : Nat) (f : Quad → Quad) : (s.onQuad q f).dram = s.dram := rfl
@[simp] theorem State.onQuad_free (s : State) (q : Nat) (f : Quad → Quad) : (s.onQuad q f).free = s.free := rfl
@[simp] theorem State.onQuad_pending (s : State) (q : Nat) (f : Quad → Quad) : (s.onQuad q f).pending = s.pending := rfl

-- State.onPort

@[simp] theorem State.onPort_porst (s : State) (p : Nat) (f : Port → Port) : (s.onPort p f).porst = s.porst := rfl
@[simp] theorem State.onPort_instId (s : State) (p : Nat) (f : Port → Port) : (s.onPort p f).instId = s.instId := rfl
@[simp] theorem State.onPort_now (s : State) (p : Nat) (f : Port → Port) : (s.onPort p f).now = s.now := rfl
@[simp] theorem State.onPort_rsck (s : State) (p : Nat) (f : Port → Port) : (s.onPort p f).rsck = s.rsck := rfl
@[simp] theorem State.onPort_rfrac (s : State) (p : Nat) (f : Port → Port) : (s.onPort p f).rfrac = s.rfrac := rfl
@[simp] theorem State.onPort_rsiAlive (s : State) (p : Nat) (f : Port → Port) : (s.onPort p f).rsiAlive = s.rsiAlive := rfl
@[simp] theorem State.onPort_cfg (s : State) (p : Nat) (f : Port → Port) : (s.onPort p f).cfg = s.cfg := rfl
@[simp] theorem State.onPort_stat (s : State) (p : Nat) (f : Port → Port) : (s.onPort p f).stat = s.stat := rfl
@[simp] theorem State.onPort_caps (s : State) (p : Nat) (f : Port → Port) : (s.onPort p f).caps = s.caps := rfl
@[simp] theorem State.onPort_news (s : State) (p : Nat) (f : Port → Port) : (s.onPort p f).news = s.news := rfl
@[simp] theorem State.onPort_parErr (s : State) (p : Nat) (f : Port → Port) : (s.onPort p f).parErr = s.parErr := rfl
@[simp] theorem State.onPort_walks (s : State) (p : Nat) (f : Port → Port) : (s.onPort p f).walks = s.walks := rfl
@[simp] theorem State.onPort_frozen (s : State) (p : Nat) (f : Port → Port) : (s.onPort p f).frozen = s.frozen := rfl
@[simp] theorem State.onPort_apbM (s : State) (p : Nat) (f : Port → Port) : (s.onPort p f).apbM = s.apbM := rfl
@[simp] theorem State.onPort_apbK (s : State) (p : Nat) (f : Port → Port) : (s.onPort p f).apbK = s.apbK := rfl
@[simp] theorem State.onPort_pins (s : State) (p : Nat) (f : Port → Port) : (s.onPort p f).pins = s.pins := rfl
@[simp] theorem State.onPort_clk (s : State) (p : Nat) (f : Port → Port) : (s.onPort p f).clk = s.clk := rfl
@[simp] theorem State.onPort_load (s : State) (p : Nat) (f : Port → Port) : (s.onPort p f).load = s.load := rfl
@[simp] theorem State.onPort_tb (s : State) (p : Nat) (f : Port → Port) : (s.onPort p f).tb = s.tb := rfl
@[simp] theorem State.onPort_brk (s : State) (p : Nat) (f : Port → Port) : (s.onPort p f).brk = s.brk := rfl
@[simp] theorem State.onPort_ports (s : State) (p : Nat) (f : Port → Port) : (s.onPort p f).ports = upd s.ports p f := rfl
@[simp] theorem State.onPort_wheel (s : State) (p : Nat) (f : Port → Port) : (s.onPort p f).wheel = s.wheel := rfl
@[simp] theorem State.onPort_chans (s : State) (p : Nat) (f : Port → Port) : (s.onPort p f).chans = s.chans := rfl
@[simp] theorem State.onPort_cals (s : State) (p : Nat) (f : Port → Port) : (s.onPort p f).cals = s.cals := rfl
@[simp] theorem State.onPort_quads (s : State) (p : Nat) (f : Port → Port) : (s.onPort p f).quads = s.quads := rfl
@[simp] theorem State.onPort_op (s : State) (p : Nat) (f : Port → Port) : (s.onPort p f).op = s.op := rfl
@[simp] theorem State.onPort_flt (s : State) (p : Nat) (f : Port → Port) : (s.onPort p f).flt = s.flt := rfl
@[simp] theorem State.onPort_mnt (s : State) (p : Nat) (f : Port → Port) : (s.onPort p f).mnt = s.mnt := rfl
@[simp] theorem State.onPort_keys (s : State) (p : Nat) (f : Port → Port) : (s.onPort p f).keys = s.keys := rfl
@[simp] theorem State.onPort_tap (s : State) (p : Nat) (f : Port → Port) : (s.onPort p f).tap = s.tap := rfl
@[simp] theorem State.onPort_spill (s : State) (p : Nat) (f : Port → Port) : (s.onPort p f).spill = s.spill := rfl
@[simp] theorem State.onPort_spillLast (s : State) (p : Nat) (f : Port → Port) : (s.onPort p f).spillLast = s.spillLast := rfl
@[simp] theorem State.onPort_spillAt (s : State) (p : Nat) (f : Port → Port) : (s.onPort p f).spillAt = s.spillAt := rfl
@[simp] theorem State.onPort_perf (s : State) (p : Nat) (f : Port → Port) : (s.onPort p f).perf = s.perf := rfl
@[simp] theorem State.onPort_dram (s : State) (p : Nat) (f : Port → Port) : (s.onPort p f).dram = s.dram := rfl
@[simp] theorem State.onPort_free (s : State) (p : Nat) (f : Port → Port) : (s.onPort p f).free = s.free := rfl
@[simp] theorem State.onPort_pending (s : State) (p : Nat) (f : Port → Port) : (s.onPort p f).pending = s.pending := rfl

-- State.onSpill

@[simp] theorem State.onSpill_porst (s : State) (d : Nat) (f : Spill → Spill) : (s.onSpill d f).porst = s.porst := rfl
@[simp] theorem State.onSpill_instId (s : State) (d : Nat) (f : Spill → Spill) : (s.onSpill d f).instId = s.instId := rfl
@[simp] theorem State.onSpill_now (s : State) (d : Nat) (f : Spill → Spill) : (s.onSpill d f).now = s.now := rfl
@[simp] theorem State.onSpill_rsck (s : State) (d : Nat) (f : Spill → Spill) : (s.onSpill d f).rsck = s.rsck := rfl
@[simp] theorem State.onSpill_rfrac (s : State) (d : Nat) (f : Spill → Spill) : (s.onSpill d f).rfrac = s.rfrac := rfl
@[simp] theorem State.onSpill_rsiAlive (s : State) (d : Nat) (f : Spill → Spill) : (s.onSpill d f).rsiAlive = s.rsiAlive := rfl
@[simp] theorem State.onSpill_cfg (s : State) (d : Nat) (f : Spill → Spill) : (s.onSpill d f).cfg = s.cfg := rfl
@[simp] theorem State.onSpill_stat (s : State) (d : Nat) (f : Spill → Spill) : (s.onSpill d f).stat = s.stat := rfl
@[simp] theorem State.onSpill_caps (s : State) (d : Nat) (f : Spill → Spill) : (s.onSpill d f).caps = s.caps := rfl
@[simp] theorem State.onSpill_news (s : State) (d : Nat) (f : Spill → Spill) : (s.onSpill d f).news = s.news := rfl
@[simp] theorem State.onSpill_parErr (s : State) (d : Nat) (f : Spill → Spill) : (s.onSpill d f).parErr = s.parErr := rfl
@[simp] theorem State.onSpill_walks (s : State) (d : Nat) (f : Spill → Spill) : (s.onSpill d f).walks = s.walks := rfl
@[simp] theorem State.onSpill_frozen (s : State) (d : Nat) (f : Spill → Spill) : (s.onSpill d f).frozen = s.frozen := rfl
@[simp] theorem State.onSpill_apbM (s : State) (d : Nat) (f : Spill → Spill) : (s.onSpill d f).apbM = s.apbM := rfl
@[simp] theorem State.onSpill_apbK (s : State) (d : Nat) (f : Spill → Spill) : (s.onSpill d f).apbK = s.apbK := rfl
@[simp] theorem State.onSpill_pins (s : State) (d : Nat) (f : Spill → Spill) : (s.onSpill d f).pins = s.pins := rfl
@[simp] theorem State.onSpill_clk (s : State) (d : Nat) (f : Spill → Spill) : (s.onSpill d f).clk = s.clk := rfl
@[simp] theorem State.onSpill_load (s : State) (d : Nat) (f : Spill → Spill) : (s.onSpill d f).load = s.load := rfl
@[simp] theorem State.onSpill_tb (s : State) (d : Nat) (f : Spill → Spill) : (s.onSpill d f).tb = s.tb := rfl
@[simp] theorem State.onSpill_brk (s : State) (d : Nat) (f : Spill → Spill) : (s.onSpill d f).brk = s.brk := rfl
@[simp] theorem State.onSpill_ports (s : State) (d : Nat) (f : Spill → Spill) : (s.onSpill d f).ports = s.ports := rfl
@[simp] theorem State.onSpill_wheel (s : State) (d : Nat) (f : Spill → Spill) : (s.onSpill d f).wheel = s.wheel := rfl
@[simp] theorem State.onSpill_chans (s : State) (d : Nat) (f : Spill → Spill) : (s.onSpill d f).chans = s.chans := rfl
@[simp] theorem State.onSpill_cals (s : State) (d : Nat) (f : Spill → Spill) : (s.onSpill d f).cals = s.cals := rfl
@[simp] theorem State.onSpill_quads (s : State) (d : Nat) (f : Spill → Spill) : (s.onSpill d f).quads = s.quads := rfl
@[simp] theorem State.onSpill_op (s : State) (d : Nat) (f : Spill → Spill) : (s.onSpill d f).op = s.op := rfl
@[simp] theorem State.onSpill_flt (s : State) (d : Nat) (f : Spill → Spill) : (s.onSpill d f).flt = s.flt := rfl
@[simp] theorem State.onSpill_mnt (s : State) (d : Nat) (f : Spill → Spill) : (s.onSpill d f).mnt = s.mnt := rfl
@[simp] theorem State.onSpill_keys (s : State) (d : Nat) (f : Spill → Spill) : (s.onSpill d f).keys = s.keys := rfl
@[simp] theorem State.onSpill_tap (s : State) (d : Nat) (f : Spill → Spill) : (s.onSpill d f).tap = s.tap := rfl
@[simp] theorem State.onSpill_spill (s : State) (d : Nat) (f : Spill → Spill) : (s.onSpill d f).spill = upd s.spill d f := rfl
@[simp] theorem State.onSpill_spillLast (s : State) (d : Nat) (f : Spill → Spill) : (s.onSpill d f).spillLast = s.spillLast := rfl
@[simp] theorem State.onSpill_spillAt (s : State) (d : Nat) (f : Spill → Spill) : (s.onSpill d f).spillAt = s.spillAt := rfl
@[simp] theorem State.onSpill_perf (s : State) (d : Nat) (f : Spill → Spill) : (s.onSpill d f).perf = s.perf := rfl
@[simp] theorem State.onSpill_dram (s : State) (d : Nat) (f : Spill → Spill) : (s.onSpill d f).dram = s.dram := rfl
@[simp] theorem State.onSpill_free (s : State) (d : Nat) (f : Spill → Spill) : (s.onSpill d f).free = s.free := rfl
@[simp] theorem State.onSpill_pending (s : State) (d : Nat) (f : Spill → Spill) : (s.onSpill d f).pending = s.pending := rfl

-- State.onQuadClk

@[simp] theorem State.onQuadClk_porst (s : State) (q : Nat) (f : QuadClk → QuadClk) : (s.onQuadClk q f).porst = s.porst := rfl
@[simp] theorem State.onQuadClk_instId (s : State) (q : Nat) (f : QuadClk → QuadClk) : (s.onQuadClk q f).instId = s.instId := rfl
@[simp] theorem State.onQuadClk_now (s : State) (q : Nat) (f : QuadClk → QuadClk) : (s.onQuadClk q f).now = s.now := rfl
@[simp] theorem State.onQuadClk_rsck (s : State) (q : Nat) (f : QuadClk → QuadClk) : (s.onQuadClk q f).rsck = s.rsck := rfl
@[simp] theorem State.onQuadClk_rfrac (s : State) (q : Nat) (f : QuadClk → QuadClk) : (s.onQuadClk q f).rfrac = s.rfrac := rfl
@[simp] theorem State.onQuadClk_rsiAlive (s : State) (q : Nat) (f : QuadClk → QuadClk) : (s.onQuadClk q f).rsiAlive = s.rsiAlive := rfl
@[simp] theorem State.onQuadClk_cfg (s : State) (q : Nat) (f : QuadClk → QuadClk) : (s.onQuadClk q f).cfg = s.cfg := rfl
@[simp] theorem State.onQuadClk_stat (s : State) (q : Nat) (f : QuadClk → QuadClk) : (s.onQuadClk q f).stat = s.stat := rfl
@[simp] theorem State.onQuadClk_caps (s : State) (q : Nat) (f : QuadClk → QuadClk) : (s.onQuadClk q f).caps = s.caps := rfl
@[simp] theorem State.onQuadClk_news (s : State) (q : Nat) (f : QuadClk → QuadClk) : (s.onQuadClk q f).news = s.news := rfl
@[simp] theorem State.onQuadClk_parErr (s : State) (q : Nat) (f : QuadClk → QuadClk) : (s.onQuadClk q f).parErr = s.parErr := rfl
@[simp] theorem State.onQuadClk_walks (s : State) (q : Nat) (f : QuadClk → QuadClk) : (s.onQuadClk q f).walks = s.walks := rfl
@[simp] theorem State.onQuadClk_frozen (s : State) (q : Nat) (f : QuadClk → QuadClk) : (s.onQuadClk q f).frozen = s.frozen := rfl
@[simp] theorem State.onQuadClk_apbM (s : State) (q : Nat) (f : QuadClk → QuadClk) : (s.onQuadClk q f).apbM = s.apbM := rfl
@[simp] theorem State.onQuadClk_apbK (s : State) (q : Nat) (f : QuadClk → QuadClk) : (s.onQuadClk q f).apbK = s.apbK := rfl
@[simp] theorem State.onQuadClk_pins (s : State) (q : Nat) (f : QuadClk → QuadClk) : (s.onQuadClk q f).pins = s.pins := rfl
@[simp] theorem State.onQuadClk_load (s : State) (q : Nat) (f : QuadClk → QuadClk) : (s.onQuadClk q f).load = s.load := rfl
@[simp] theorem State.onQuadClk_tb (s : State) (q : Nat) (f : QuadClk → QuadClk) : (s.onQuadClk q f).tb = s.tb := rfl
@[simp] theorem State.onQuadClk_brk (s : State) (q : Nat) (f : QuadClk → QuadClk) : (s.onQuadClk q f).brk = s.brk := rfl
@[simp] theorem State.onQuadClk_ports (s : State) (q : Nat) (f : QuadClk → QuadClk) : (s.onQuadClk q f).ports = s.ports := rfl
@[simp] theorem State.onQuadClk_wheel (s : State) (q : Nat) (f : QuadClk → QuadClk) : (s.onQuadClk q f).wheel = s.wheel := rfl
@[simp] theorem State.onQuadClk_chans (s : State) (q : Nat) (f : QuadClk → QuadClk) : (s.onQuadClk q f).chans = s.chans := rfl
@[simp] theorem State.onQuadClk_cals (s : State) (q : Nat) (f : QuadClk → QuadClk) : (s.onQuadClk q f).cals = s.cals := rfl
@[simp] theorem State.onQuadClk_quads (s : State) (q : Nat) (f : QuadClk → QuadClk) : (s.onQuadClk q f).quads = s.quads := rfl
@[simp] theorem State.onQuadClk_op (s : State) (q : Nat) (f : QuadClk → QuadClk) : (s.onQuadClk q f).op = s.op := rfl
@[simp] theorem State.onQuadClk_flt (s : State) (q : Nat) (f : QuadClk → QuadClk) : (s.onQuadClk q f).flt = s.flt := rfl
@[simp] theorem State.onQuadClk_mnt (s : State) (q : Nat) (f : QuadClk → QuadClk) : (s.onQuadClk q f).mnt = s.mnt := rfl
@[simp] theorem State.onQuadClk_keys (s : State) (q : Nat) (f : QuadClk → QuadClk) : (s.onQuadClk q f).keys = s.keys := rfl
@[simp] theorem State.onQuadClk_tap (s : State) (q : Nat) (f : QuadClk → QuadClk) : (s.onQuadClk q f).tap = s.tap := rfl
@[simp] theorem State.onQuadClk_spill (s : State) (q : Nat) (f : QuadClk → QuadClk) : (s.onQuadClk q f).spill = s.spill := rfl
@[simp] theorem State.onQuadClk_spillLast (s : State) (q : Nat) (f : QuadClk → QuadClk) : (s.onQuadClk q f).spillLast = s.spillLast := rfl
@[simp] theorem State.onQuadClk_spillAt (s : State) (q : Nat) (f : QuadClk → QuadClk) : (s.onQuadClk q f).spillAt = s.spillAt := rfl
@[simp] theorem State.onQuadClk_perf (s : State) (q : Nat) (f : QuadClk → QuadClk) : (s.onQuadClk q f).perf = s.perf := rfl
@[simp] theorem State.onQuadClk_dram (s : State) (q : Nat) (f : QuadClk → QuadClk) : (s.onQuadClk q f).dram = s.dram := rfl
@[simp] theorem State.onQuadClk_free (s : State) (q : Nat) (f : QuadClk → QuadClk) : (s.onQuadClk q f).free = s.free := rfl
@[simp] theorem State.onQuadClk_pending (s : State) (q : Nat) (f : QuadClk → QuadClk) : (s.onQuadClk q f).pending = s.pending := rfl

-- State.onKeys

@[simp] theorem State.onKeys_porst (s : State) (f : Keys → Keys) : (s.onKeys f).porst = s.porst := rfl
@[simp] theorem State.onKeys_instId (s : State) (f : Keys → Keys) : (s.onKeys f).instId = s.instId := rfl
@[simp] theorem State.onKeys_now (s : State) (f : Keys → Keys) : (s.onKeys f).now = s.now := rfl
@[simp] theorem State.onKeys_rsck (s : State) (f : Keys → Keys) : (s.onKeys f).rsck = s.rsck := rfl
@[simp] theorem State.onKeys_rfrac (s : State) (f : Keys → Keys) : (s.onKeys f).rfrac = s.rfrac := rfl
@[simp] theorem State.onKeys_rsiAlive (s : State) (f : Keys → Keys) : (s.onKeys f).rsiAlive = s.rsiAlive := rfl
@[simp] theorem State.onKeys_cfg (s : State) (f : Keys → Keys) : (s.onKeys f).cfg = s.cfg := rfl
@[simp] theorem State.onKeys_stat (s : State) (f : Keys → Keys) : (s.onKeys f).stat = s.stat := rfl
@[simp] theorem State.onKeys_caps (s : State) (f : Keys → Keys) : (s.onKeys f).caps = s.caps := rfl
@[simp] theorem State.onKeys_news (s : State) (f : Keys → Keys) : (s.onKeys f).news = s.news := rfl
@[simp] theorem State.onKeys_parErr (s : State) (f : Keys → Keys) : (s.onKeys f).parErr = s.parErr := rfl
@[simp] theorem State.onKeys_walks (s : State) (f : Keys → Keys) : (s.onKeys f).walks = s.walks := rfl
@[simp] theorem State.onKeys_frozen (s : State) (f : Keys → Keys) : (s.onKeys f).frozen = s.frozen := rfl
@[simp] theorem State.onKeys_apbM (s : State) (f : Keys → Keys) : (s.onKeys f).apbM = s.apbM := rfl
@[simp] theorem State.onKeys_apbK (s : State) (f : Keys → Keys) : (s.onKeys f).apbK = s.apbK := rfl
@[simp] theorem State.onKeys_pins (s : State) (f : Keys → Keys) : (s.onKeys f).pins = s.pins := rfl
@[simp] theorem State.onKeys_clk (s : State) (f : Keys → Keys) : (s.onKeys f).clk = s.clk := rfl
@[simp] theorem State.onKeys_load (s : State) (f : Keys → Keys) : (s.onKeys f).load = s.load := rfl
@[simp] theorem State.onKeys_tb (s : State) (f : Keys → Keys) : (s.onKeys f).tb = s.tb := rfl
@[simp] theorem State.onKeys_brk (s : State) (f : Keys → Keys) : (s.onKeys f).brk = s.brk := rfl
@[simp] theorem State.onKeys_ports (s : State) (f : Keys → Keys) : (s.onKeys f).ports = s.ports := rfl
@[simp] theorem State.onKeys_wheel (s : State) (f : Keys → Keys) : (s.onKeys f).wheel = s.wheel := rfl
@[simp] theorem State.onKeys_chans (s : State) (f : Keys → Keys) : (s.onKeys f).chans = s.chans := rfl
@[simp] theorem State.onKeys_cals (s : State) (f : Keys → Keys) : (s.onKeys f).cals = s.cals := rfl
@[simp] theorem State.onKeys_quads (s : State) (f : Keys → Keys) : (s.onKeys f).quads = s.quads := rfl
@[simp] theorem State.onKeys_op (s : State) (f : Keys → Keys) : (s.onKeys f).op = s.op := rfl
@[simp] theorem State.onKeys_flt (s : State) (f : Keys → Keys) : (s.onKeys f).flt = s.flt := rfl
@[simp] theorem State.onKeys_mnt (s : State) (f : Keys → Keys) : (s.onKeys f).mnt = s.mnt := rfl
@[simp] theorem State.onKeys_keys (s : State) (f : Keys → Keys) : (s.onKeys f).keys = f s.keys := rfl
@[simp] theorem State.onKeys_tap (s : State) (f : Keys → Keys) : (s.onKeys f).tap = s.tap := rfl
@[simp] theorem State.onKeys_spill (s : State) (f : Keys → Keys) : (s.onKeys f).spill = s.spill := rfl
@[simp] theorem State.onKeys_spillLast (s : State) (f : Keys → Keys) : (s.onKeys f).spillLast = s.spillLast := rfl
@[simp] theorem State.onKeys_spillAt (s : State) (f : Keys → Keys) : (s.onKeys f).spillAt = s.spillAt := rfl
@[simp] theorem State.onKeys_perf (s : State) (f : Keys → Keys) : (s.onKeys f).perf = s.perf := rfl
@[simp] theorem State.onKeys_dram (s : State) (f : Keys → Keys) : (s.onKeys f).dram = s.dram := rfl
@[simp] theorem State.onKeys_free (s : State) (f : Keys → Keys) : (s.onKeys f).free = s.free := rfl
@[simp] theorem State.onKeys_pending (s : State) (f : Keys → Keys) : (s.onKeys f).pending = s.pending := rfl

end Sys2Proof.Machine
end

