-- ==== Sys2Proof/Machine/Outputs.lean ====
section
/-!
DEFINITION. The outputs of the block as functions of its state (R48–R75, R82): what its pins show between commands, with
their values while PORST_N is low and while RSI_CK is lost. Where the manual leaves a pin to JEDEC or to a clock that
toggles, the value is `none`.
-/

namespace Sys2Proof.Machine

-- the configuration bus (R58, R126, R127, R144)

/-- The first rising edge of the transaction in progress. -/
def Load.start (l : Load) : Nat := l.mark - busTime l.len

/-- The block uses the bus: between PORST_N release and the end of the load, with its clock. -/
def State.busOn (s : State) : Bool := s.porst && s.rsiAlive && (s.load.state = 1 || s.load.state = 2 || s.load.state = 3)

/-- CFG_CS_N: low from 2 rsck before the first rising edge of a transaction to 2 rsck after its last period, which lies
20 rsck before the first edge of the next at the latest (R127). -/
def State.cfgCsN (s : State) : Bool :=
  let l := s.load
  let now := s.rsck
  let this := l.phase ≠ .idle && l.start ≤ now + 2 && now < l.mark + 2
  let before := l.phase ≠ .idle && now + 18 < l.start
  let ended := l.phase = .idle && now < l.mark + 2
  !(s.busOn && (this || before || ended))

/-- CFG_SCK: high for the first 2 rsck of each period, low for the last 2 (R127). -/
def State.cfgSck (s : State) : Bool :=
  let l := s.load
  s.busOn && l.phase ≠ .idle && l.start ≤ s.rsck && s.rsck < l.mark && (s.rsck - l.start) % 4 < 2

/-- What the block drives on CFG_IO[3:0] around the rising edge of period k of a read at an address: the command 0xEC on
CFG_IO[0], most significant bit first, then the address by nibbles, the mode 0xFF, and nothing from the dummy cycles on
(R126). -/
def cfgDrive (addr k : Nat) : List (Option Bool) :=
  let nibble (v : Nat) : List (Option Bool) := (List.range 4).map fun i => some (natBit v i)
  if k < 8 then [some (natBit 0xEC (7 - k)), none, none, none]
  else if k < 16 then nibble (natBits addr (4 * (15 - k)) 4)
  else if k < 18 then nibble 0xF
  else [none, none, none, none]

/-- CFG_IO[3:0] as the block drives it, bit 0 first: it changes on falling edges of CFG_SCK, 2 rsck before the rising edge
at which it counts (R126). -/
def State.cfgIo (s : State) : List (Option Bool) :=
  let l := s.load
  if s.busOn && l.phase ≠ .idle && l.start ≤ s.rsck + 2 then cfgDrive l.off ((s.rsck + 2 - l.start) / 4)
  else [none, none, none, none]

/-- The nibble that the block samples on CFG_IO[3:0] at the rising edge of period k, from the bytes the store sends: high
nibble first, CFG_IO[3] carrying bits 7 and 3 (R126). -/
def cfgSample (data : List Byte) (k : Nat) : Option Nat :=
  if k < 22 then none
  else (data[(k - 22) / 2]?).map fun b => natBits b.toNat (if k % 2 = 0 then 4 else 0) 4

-- the ports (R59, R60)

/-- The B or D payload as it stands on the pins. -/
structure BPins where
  valid : Bool
  tag : BitVec 8
  resp : Nat
  deriving DecidableEq, Repr

structure DPins where
  valid : Bool
  beat : DOut
  deriving DecidableEq, Repr

/-- Pn_QREADY: ready outputs are 0 in the loss of RSI_CK (R60, R82). -/
def State.qreadyPin (s : State) (p : Nat) : Bool := s.clocked && s.qready p

def State.wreadyPin (s : State) (p : Nat) : Bool := s.clocked && s.wready p

/-- Pn_BVALID with its payload, which stands until the transfer and through the loss of RSI_CK (R82, R206). -/
def State.bPins (s : State) (p : Nat) : BPins :=
  match (s.port p).onB with
  | some r => ⟨true, r.tag, r.worst⟩
  | none => ⟨false, (s.port p).lastB.1, (s.port p).lastB.2⟩

/-- Pn_DVALID with its payload. -/
def State.dPins (s : State) (p : Nat) : DPins :=
  match (s.port p).dSeq.bind fun n => (s.port p).reqs.find? (·.seq = n) with
  | some r => ⟨true, s.dBeat p r⟩
  | none => ⟨false, (s.port p).lastD⟩

-- the register ports (R66, R82)

/-- PREADY of a register port: 1 while PORST_N is low, 0 in the loss of RSI_CK. -/
def State.pready (s : State) (p : ApbPort) : Bool := !s.porst || (s.rsiAlive && (s.apb p).ready)

def State.pslverr (s : State) (p : ApbPort) : Bool := !s.porst || (s.apb p).slverr

def State.prdata (s : State) (p : ApbPort) : Word := if s.porst then (s.apb p).rdata else 0

-- the spill master (R24, R67, R68)

/-- The signals of an AW or AR transfer. -/
structure AxiAddr where
  id : Nat
  addr : Nat
  len : Nat
  size : Nat
  burst : Nat
  lock : Nat
  cache : Nat
  prot : Nat
  qos : Nat
  region : Nat
  user : BitVec 14
  deriving DecidableEq, Repr

/-- The address transfer of a burst of DMA channel d: 64-byte beats, INCR, not locked, with INST_ID as sampled (R67). -/
def State.axiAddr (s : State) (d : Nat) (b : Axi) : AxiAddr :=
  ⟨d, b.addr, b.len, 0b110, 0b01, 0, b.cache, b.prot, b.qos, 0, s.instId⟩

/-- S_AWVALID or S_ARVALID with its payload: the request of the channel whose turn it is, which stands through the loss of
RSI_CK; nothing while PORST_N is low (R68, R82, R497). -/
def State.axiPins (s : State) (write : Bool) : Option (AxiAddr × Axi) :=
  if s.porst then (s.spillNext (if write then 3 else 2)).bind fun d => (s.axiNext d write).map fun b => (s.axiAddr d b, b)
  else none

/-- The W beats of a burst: data, strobes and S_WLAST (R67). -/
def Axi.wBeats (b : Axi) : List (Beat × BitVec 64 × Bool) := b.data.zipIdx.map fun e => (e.1, b.strb, e.2 == b.len)

/-- S_WVALID with its payload: the beats of a write stand with its address until the host takes both, which no command
shows (assumption 50). -/
def State.wPins (s : State) : List (Beat × BitVec 64 × Bool) := ((s.axiPins true).map (·.2.wBeats)).getD []

/-- S_BREADY and S_RREADY: 0 while PORST_N is low and in the loss of RSI_CK (R68, R82); the block accepts a response in every
PCLK cycle (assumption 50). -/
def State.axiReady (s : State) : Bool := s.axiTakes

-- the channels (R34, R75, R82, R311)

/-- A channel's pins are forced: in PORST_N, in the loss of RSI_CK and after it until its quad has a PLL's clock again or
falls back (R84, R117 step 5), and in RETIRED once deep sleep has been tried. -/
def State.pinsForced (s : State) (c : Nat) : Bool :=
  let k := s.quadClk (quadOf c)
  !s.porst || !s.rsiAlive || (s.clk.retStep ≠ 0 && k.src == .bypass && k.fbStep == 0 && !k.wait) ||
    ((s.chan c).state == .retired && !(s.chan c).leaving)

/-- The pins of a channel. `none` stands for what JEDEC, a running clock or the data decide. -/
structure DramPins where
  cs : Option (BitVec 2)
  ca : Option (BitVec 7)
  ck : Option (Bool × Bool)
  wck : Option (Bool × Bool)
  dqDriven : Option Bool
  odt : Option Bool
  deriving DecidableEq, Repr

/-- CS and CA are 0, CK and WCK rest at 0 and 1, DQ and DMI are high impedance with ODT off while they are forced (R82). -/
def State.dramPins (s : State) (c : Nat) : DramPins :=
  if s.pinsForced c then ⟨some 0, some 0, some (false, true), some (false, true), some false, some false⟩
  else ⟨none, none, none, none, none, none⟩

/-- The settings of the PHY and of the DRAM mode registers at a channel (R79, R432). -/
structure IoSettings where
  drive : Nat
  odt : Nat
  readVref : Nat × Nat
  dramDrive : Nat
  dramDqOdt : Nat
  dramCaOdt : Nat
  dramVrefDq : Nat × Nat
  dramVrefCa : Nat
  deriving DecidableEq, Repr

/-- The settings in force at a channel: those of the point in force, once steps 1 and 2 of its training have made them; the
read and DRAM VREF(DQ) of each lane or rank are those of the delay set, and the VREF(CA) of the image is where the search of
step 3 starts (R403, R405). -/
def State.ioSettings (s : State) (c : Nat) : Option IoSettings :=
  let q := quadOf c
  let k := s.op.cur
  let d := s.setOf c k
  if (s.cal c).trainStep ≤ 2 && !d.trained then none
  else some ⟨s.cf (QD_PHY_DRV q k), s.cf (QD_PHY_ODT q k), (d.rv.getD 0 0, d.rv.getD 1 0), s.cf (QD_DMR_PDDS q k),
    s.cf (QD_DMR_DQODT q k), s.cf (QD_DMR_CAODT q k), (d.dv.getD 0 0, d.dv.getD 1 0), s.cf (QD_DMR_VREFCA q k)⟩

/-- DCn_DMI while a write drives it: 0 where DBI is off for both directions, and else what DBI gives (R75, R300). No data
mask is ever driven (R34). -/
def State.dmiOnWrite (s : State) (c : Nat) : Option Bool :=
  if s.on (CH_GEOM_DBI_RD c) || s.on (CH_GEOM_DBI_WR c) then none else some false

/-- DRESETk_N (R75, R82). -/
def State.dresetN (s : State) (q : Nat) : Bool := s.porst && s.pins.dreset.getLsbD q

-- the public test segment (R483)

/-- The registers that the public segment reads out: the per-bit delays and margins and the rank-level delays of each channel,
the PLL states and monitor counts, and the PHY codes. -/
def publicRegs : List Nat :=
  (allChans.flatMap fun c =>
    ([0, 1, 2, 3].flatMap fun k => (List.range 36).map fun i => (CH_BD_RD c k (i / 18) (i % 18)).addr) ++
    ((List.range 36).map fun i => (CH_BM_LEFT c (i / 18) (i % 18)).addr) ++
    [(CH_MARGIN_EYE c).addr, (CH_VREF_RV0 c).addr, (CH_CADLY_CA c).addr, (CH_WCK_L0 c 0).addr, (CH_WCK_L0 c 1).addr,
      (CH_RDQS_L0 c 0).addr, (CH_RDQS_L0 c 1).addr]) ++
  ([0, 1, 2, 3].flatMap fun q => [(QD_PLLSTAT_A_STATE q).addr, (QD_MONCNT_COUNT_A q).addr, (QD_PHYCODE_PU q).addr]) ++
  [TB_CMONCNT_COUNT.addr]

/-- What the public segment shows while IJTAG_PUB is selected: each register with its value. How IEEE 1687 chains them is not
the spec's. -/
def State.publicRead (s : State) : List (Nat × Word) :=
  if s.tap.instr = .ijtagPub then publicRegs.map fun a => (a, s.regValue a) else []

-- the rest (R55–R57, R62, R69–R73)

/-- VREQ[2:0] (R70, R82). -/
def State.vreqPins (s : State) : BitVec 3 := if s.porst then s.op.supply.vreq else 0

/-- The single outputs: PCLK and CLKMON as their gates stand. -/
structure SinglePins where
  pclk : Bool
  dmReady : Bool
  rsiAlive : Bool
  ingHold : BitVec 4
  fatal : Bool
  cont : Bool
  corr : Bool
  evt : Bool
  clkmon : Bool
  deriving DecidableEq, Repr

def State.singlePins (s : State) : SinglePins :=
  ⟨s.pins.pclk, s.pins.dmReady, s.rsiAlive, s.pins.ingHold, irqFatal s, irqCont s, irqCorr s, irqEvt s, s.pins.clkmon⟩

end Sys2Proof.Machine
end

