-- ==== Sys2Proof/Tests/Slice0.lean ====
section
/-!
SUPPORT. Tests: ill-formed commands that WellFormed refuses; for each statement with hypotheses a witness, a state and
operands that meet them, clause by clause; and one step of some commands, with results worked out from the rules.
-/

namespace Sys2Proof.Tests

set_option Elab.async false

open Sys2Proof Sys2Proof.Machine

-- states

/-- The block in normal operation: the record good, all clocks on their PLLs, ports in RUN, channels ACTIVE. -/
def up : State := { State.reset with
  porst := true
  rsiAlive := true
  now := 100000
  rsck := 100000
  apbM := ⟨true, false, 0, none⟩
  apbK := ⟨true, false, 0, none⟩
  pins := ⟨true, true, 0, 0b1111, true⟩
  load := { Load.reset with state := 2 }
  clk := { Clk.reset with
    startStep := 0, everUp := true, cclkPll := true, core := { Pll.reset with st := .active }
    phy := Vector.replicate 8 { Pll.reset with st := .active }, quads := Vector.replicate 4 { QuadClk.reset with src := .pllA } }
  tb := { Tb.reset with linePeriod := 2048 }
  ports := Vector.replicate 32 { Port.reset with state := .run }
  chans := Vector.replicate 16 { Chan.reset with state := .active } }

/-- With values of configuration fields. -/
def having (l : List (Field × Nat)) (s : State) : State :=
  { s with cfg := l.foldl (fun c e => c.fset e.1 e.2) s.cfg }

/-- With values of status fields. -/
def showing (l : List (Field × Nat)) (s : State) : State :=
  { s with stat := l.foldl (fun c e => c.fset e.1 e.2) s.stat }

def onClk (f : Clk → Clk) (s : State) : State := { s with clk := f s.clk }

def onTb (f : Tb → Tb) (s : State) : State := { s with tb := f s.tb }

def onLoad (f : Load → Load) (s : State) : State := { s with load := f s.load }

def onOp (f : OpSeq → OpSeq) (s : State) : State := { s with op := f s.op }

/-- A raster word with its CRC. -/
def word (event line frame : Nat) : BitVec 64 :=
  let w := BitVec.ofNat 64 (0xA7 * 2 ^ 56 + frame * 2 ^ 32 + line * 2 ^ 16 + event * 2 ^ 8)
  w ||| BitVec.ofNat 64 (crc8 (wordBytes w)).toNat

/-- The bytes of 32-bit numbers, least significant first. -/
def bytes (l : List Nat) : List Byte := l.flatMap fun n => (List.range 4).map fun i => BitVec.ofNat 8 (natBits n (8 * i) 8)

/-- An image header that passes the tests of R131. -/
def header : List Byte :=
  let h := bytes ([0x49434D44, 3, 64, 1, 0x1234] ++ List.replicate 10 0)
  h ++ bytes [(crc32c h).toNat]

def found (steps : Nat) : CalFound :=
  let n (k : Nat) : List Nat := List.replicate k 0
  ⟨steps, 0, n 36, n 36, n 36, n 36, n 36, n 4, n 4, 0, 0, n 2, [false, false], n 2, n 2, n 3⟩

-- well-formed commands: one ill-formed term for each check

theorem wf_refuses_words : (Instr.rsiEventNone (word 1 0 0)).wf = false ∧ (Instr.lineStart (word 0 0 0)).wf = false ∧
    (Instr.frameStart (word 2 1 0)).wf = false ∧ (Instr.horizontalBlank (word 4 0 0)).wf = false ∧
    (Instr.verticalBlank (word 3 0 0)).wf = false ∧ (Instr.modeChange (word 5 0 0 + 1)).wf = false ∧
    (Instr.corruptWord (word 0 0 0)).wf = false := by decide +kernel

theorem wf_refuses_results : (Instr.trainingComplete 0 (found 10)).wf = false ∧
    (Instr.checkDone 0 { found 0 with rd := [] }).wf = false ∧ (Instr.retrainDone 0 { found 0 with codes := [0] }).wf = false ∧
    (Instr.writeReadCompareDone 0 0 []).wf = false ∧ (Instr.axiReadResponse 0 [] 0).wf = false ∧
    (Instr.cfgTransactionEnd []).wf = false := by decide +kernel

theorem wf_takes_commands : (Instr.frameStart (word 2 0 7)).wf ∧ (Instr.corruptWord (word 0 0 0 + 1)).wf ∧
    (Instr.trainingComplete 0 (found 9)).wf ∧ (Instr.writeReadCompareDone 0 0 (List.replicate 18 (true, true))).wf ∧
    (Instr.axiReadResponse 0 [0] 0).wf ∧ (Instr.cfgTransactionEnd [0]).wf ∧ Instr.clrall.wf := by decide +kernel

-- witnesses: reset, clocks and the configuration load

theorem wit_StepRunsTheFrontCommand : ({ up with pending := [.clrall] } : State).pending = .clrall :: [] ∧
    State.reset.pending = [] ∧ State.reset.clocked = false := by decide +kernel

theorem wit_StepsKeepTheCanonicalForm : up.canonical ∧ goesOn (step { up with pending := [.clrall] }) ∧
    goesOn (step State.reset) := by decide +kernel

def loading : State := onLoad (fun l => { l with state := 1, attempt := 2, phase := .header, len := 64 }) up

theorem wit_StrapIsSampledOnlyAtRelease : State.reset.porst = false ∧ up.porst ∧ up.canonical ∧ loading.clocked ∧
    loading.load.phase = .header ∧ loading.load.mark ≤ loading.rsck ∧ header.length = loading.load.len ∧
    headerTest header = none ∧ loading.instId.toNat < natOfBytes ((header.drop 12).take 4) ∧
    ({ loading with instId := 1 } : State).instId.toNat = natOfBytes ((header.drop 12).take 4) := by decide +kernel

theorem wit_StartUpReachesTheLoad : State.reset.porst = false ∧ State.reset.rsiAlive = false ∧
    ({ State.reset with rsiAlive := true } : State).porst = false ∧
    ({ State.reset with porst := true } : State).rsiAlive = false ∧
    ({ State.reset with porst := true } : State).clk.everUp = false ∧ State.reset.flt.testStop = false ∧
    ({ State.reset with flt := { State.reset.flt with testStop := true } } : State).flt.testStop ∧ State.reset.clk.blkStep = 0 ∧
    State.reset.apbM.held = none ∧
    ({ State.reset with apbM := { State.reset.apbM with held := some (.read ⟨.m, 0, 0⟩) } } : State).apbM.held ≠ none := by decide +kernel

theorem wit_LossOfRasterClockForcesOutputs : up.porst ∧ up.rsiAlive ∧
    (onClk (fun c => { c with ramp := true }) { up with rsiAlive := false }).clk.ramp := by decide +kernel

theorem wit_LoadFailsAfterThreeAttempts : loading.load.attempt < 3 ∧
    headerTest (List.replicate 64 0) = some 1 ∧ (List.replicate 64 (0 : Byte)).length = loading.load.len ∧
    3 ≤ (onLoad (fun l => { l with attempt := 3 }) loading).load.attempt ∧
    (onLoad (fun l => { l with state := 3 }) up).load.state = 3 ∧ up.load.state ≠ 3 := by decide +kernel

def pllAt (ph : PllPhase) (mark : Nat) (s : State) : State :=
  s.onPll .core fun x => { x with phase := ph, mark := mark, attempt := 2 }

def starting : State := onClk (fun c => { c with
  startStep := 5, cclkPll := false, core := { Pll.reset with phase := .lock }
  phy := Vector.replicate 8 { Pll.reset with phase := .lock }, quads := Vector.replicate 4 .reset }) up

theorem wit_PllsStartAndTakeTheirClocks : (pllAt .amplitude 100000 up).rsck ≤ 100000 + (pllAt .amplitude 100000 up).usRsck 20 ∧
    ((pllAt .delay 100000 up).pll .core).mark + up.lockDelay .core ≤ up.rsck ∧
    (let s := pllAt .amplitude 0 (having [(TB_RSIFREQ_KHZ, 160000)] up)
     (s.pll .core).mark + s.usRsck 20 < s.rsck ∧ (s.pll .core).attempt < 3) ∧
    (let s := pllAt .lock 0 (having [(TB_RSIFREQ_KHZ, 160000)] up)
     (s.pll .core).mark + s.usRsck 32 < s.rsck) ∧
    (let s := pllAt .pause 0 up
     (s.pll .core).mark + s.usRsck 10 ≤ s.rsck) ∧
    (let s := starting.onPll .core fun x => { x with mark := 100000 }
     s.clocked ∧ s.clk.startStep ≠ 0 ∧ s.clk.retStep = 0 ∧ s.op.pend = false ∧ s.op.step = 0 ∧ s.clk.core.phase = .lock ∧
       s.rsck ≤ s.clk.core.mark + s.usRsck 32) ∧
    (let s := starting.onPll (.phy 3 true) fun x => { x with mark := 100000 }
     (s.phy 3 true).phase = .lock ∧ (s.phy 3 true).why = .start ∧ (s.quadClk 3).src = .bypass ∧ (s.quadClk 3).sw = none ∧
       s.rsck ≤ (s.phy 3 true).mark + s.usRsck 32) ∧
    (let s := (starting.onQuadClk 0 fun k => { k with sw := some (.pllB, .first) }).onPll (.phy 0 false) fun x =>
        { x with mark := 100000 }
     (s.phy 0 true).window ≠ s.rsck ∧ (s.quadClk 0).sw = some (.pllB, .first)) ∧
    (let s := (starting.onQuadClk 0 fun k => { k with sw := some (.pllB, .first) }).onPll (.phy 0 true) fun x =>
        { x with window := 100000 }
     (s.phy 0 true).window = s.rsck) := by decide +kernel

def withStandby : State := up.onPll (.phy 2 true) fun x => { x with st := .standby }

theorem wit_PllsFailAndRestart : (withStandby.pll (.phy 2 false)).watched ∧ (withStandby.pll .core).watched ∧
    (withStandby.phy 2 false).st = .active ∧ (withStandby.phy 2 true).st = .standby ∧ (withStandby.phy 2 true).phase = .idle ∧
    (up.phy 2 true).st ≠ .standby ∧
    (let s := having [(TB_CLKCFG_NINT, 8), (TB_CLKCFG_NMOD, 1)] up
     (s.pll .core).window + 1024 ≤ s.rsck ∧ monitorOff s .core 8232 = false ∧ monitorOff s .core 8151 = true) ∧
    ((up.onPll (.phy 0 true) fun x => { x with st := .failed }).phy 0 true).st = .failed ∧
    ((up.onPll (.phy 0 true) fun x => { x with st := .off }).phy 0 true).st = .off ∧
    (let s := up.onPll .core fun x => { x with st := .failed }
     s.clk.core.st = .failed ∧ s.clk.startFail = false ∧ (onClk (fun c => { c with startFail := true }) s).clk.startFail) := by decide +kernel

theorem wit_ClockSwitchesEndAndForcedOnesCount : up.canonical ∧ up.clocked ∧ up.clk.retStep = 0 ∧
    up.clk.cclkPll ∧ up.clk.coreSw = .none ∧
    (onClk (fun c => { c with coreSw := .toPll }) up).clk.coreSw = .toPll ∧
    (let s := onClk (fun c => { c with coreSw := .toBypass, coreSwAt := 99936 }) up
     s.clk.coreSw = .toBypass ∧ s.clk.coreForced = false ∧
       s.forceDue s.clk.coreSwAt (s.clk.coreSw == .toBypass) 1 = true ∧ TB_CLKEVT_FORCED_SW.addr ∉ s.frozen ∧
       (onClk (fun c => { c with coreForced := true }) s).clk.coreForced = true) ∧
    (let s := onClk (fun c => { c with startStep := 6 }) (up.onQuadClk 3 fun k => { k with sw := some (.pllA, .first) })
     (s.quadClk 3).sw = some (.pllA, .first) ∧ (s.quadClk 3).wait = false ∧ s.clk.startStep < 7) ∧
    (let s := up.onQuadClk 3 fun k => { k with sw := some (.bypass, .fallback), swAt := 99936 }
     (s.quadClk 3).sw = some (.bypass, .fallback) ∧ (s.quadClk 3).swForced = false ∧ (s.quadClk 3).swAt + 64 = s.rsck ∧
       (QD_PLLEVT_FORCED_SW 3).addr ∉ s.frozen) := by decide +kernel

theorem wit_TrainingPaymentsAndChecksGoOn :
    (let s : State := onClk (fun c => { c with startStep := 7 }) { up with pins := { up.pins with dreset := 0 } }
     s.clocked ∧ s.good ∧ 7 ≤ s.clk.startStep ∧ s.quadGood 0 ∧ s.pins.dreset.getLsbD 0 = false ∧
       (s.quad 0).dresetAt + s.usRsck 200 ≤ s.rsck) ∧
    (∀ k : Fin 10,
      let s := (up.onChan 15 fun x => { x with job := .training }).onCal 15 fun x => { x with trainStep := k }
      (s.chan 15).job = .training ∧ s.ranksUp 15 ∧ s.trainLate 3 = false ∧ s.calRested 15 ∧ (s.cal 15).trainStep = k) ∧
    (let s := onClk (fun c => { c with startStep := 9 }) { up with chans := up.chans.map fun x => { x with failed := true } }
     s.clk.blkStep = 0 ∧ s.flt.haltStep = 0 ∧ s.tap.quiesce = 0 ∧ s.pins.pclk ∧ ∀ q : Fin 4, (s.quadDead q || s.quadGood q) = true ∧ ∀ c ∈ quadChans q, s.trained c = true) ∧
    (let s := up.onRank 3 1 fun k => { k with forced := true }
     (s.rank 3 1).forced ∧ (s.rank 3 1).debt ≤ 0) ∧
    (let s := (up.onRank 3 1 fun k => { k with check := true }).onCal 3 fun x => { x with checking := [1] }
     s.quadLives (quadOf 3) ∧ (s.chan 3).job = .none ∧ s.checkRanks 3 ≠ [] ∧ s.checkRead 3 ∧
       ∀ r ∈ s.checkRanks 3, s.rankUp { s.rank 3 r with check := false }) ∧
    (let s := (up.onChan 3 fun x => { x with job := .retrain true }).onCal 3 fun x => { x with
        sets := x.sets.map fun d => { d with trained := true } }
     (s.chan 3).job = .retrain true ∧ s.ranksUp 3 ∧ s.calRested 3 ∧ s.retrainReach 3 (found 0) ∧ ∀ o ∈ (s.chan 3).ops, o.started = false) := by
  decide +kernel

/-- The power-up initialization of quad 3 has run, whatever time it takes. -/
theorem wit_TrainingPaymentsAndChecksGoOn_init : ∃ (s : State) (n : Nat), (s.quad 3).initAt = some n ∧
    n + s.initTime 3 ≤ s.rsck ∧ 15 ∈ quadChans 3 ∧ (s.chan 15).state ≠ .retired := by
  refine ⟨up.onQuad 3 fun x => { x with initAt := some 0 }, 0, by decide +kernel, ?_, by decide +kernel, by decide +kernel⟩
  refine Nat.le_trans (Nat.le_of_eq (Nat.zero_add _)) (Nat.le_trans (Nat.min_le_right _ _) ?_)
  decide +kernel

-- witnesses: raster words and gaps

theorem wit_RasterWordsActByTheirEvent : validWord (word 0 0 9) ∧ wordEvent (word 0 0 9) = 0 ∧ validWord (word 1 65535 9) ∧
    wordEvent (word 1 65535 9) = 1 ∧ validWord (word 5 3 9) ∧ wordEvent (word 5 3 9) = 5 ∧ up.clocked ∧ up.good ∧
    wordSync (word 0 0 9 + 1) = 0xA7 ∧ validWord (word 0 0 9 + 1) = false ∧ up.tb.corruptAt = none ∧
    (onTb (fun t => { t with corruptAt := some 99936 }) up).rsck = 99936 + 64 ∧
    (onTb (fun t => { t with corruptAt := some 99937 }) up).rsck < 99937 + 64 ∧ up.overlapsWord = false ∧
    (onTb (fun t => { t with validAt := some 99936 }) up).overlapsWord = false ∧
    (onTb (fun t => { t with validAt := some 99937 }) up).overlapsWord = true := by decide +kernel

def lineEnd (line frmLines : Nat) : State :=
  onTb (fun t => { t with t := 128, line := BitVec.ofNat 16 line, frmLines := frmLines }) up

theorem wit_FramesAndLinesBegin : validWord (word 2 0 16777215) ∧ wordEvent (word 2 0 16777215) = 2 ∧ up.good ∧
    up.overlapsWord = false ∧
    (lineEnd 5 7).lineOver ∧ (lineEnd 5 7).tb.line.toNat + 1 < (lineEnd 5 7).tb.frmLines ∧ (lineEnd 6 7).lineOver ∧
    (lineEnd 6 7).tb.frmLines ≤ (lineEnd 6 7).tb.line.toNat + 1 := by decide +kernel

theorem wit_HoldoverBeginsAndEnds :
    (let s := onTb (fun t => { t with state := .locked, since := 32 }) up
     s.canonical ∧ s.rasterRuns ∧ s.tb.state = .locked ∧ 32 ≤ s.tb.since ∧ TB_RSIEVT_HOLDS.addr ∉ s.frozen ∧
       FT_STSEVT_EVT.addr ∉ s.frozen) ∧
    (let s := having [(TB_RSICFG_HOLD, 2)] (onTb (fun t => { t with state := .holdover, held := 32 }) up)
     s.rasterRuns ∧ s.tb.state = .holdover ∧ 16 * s.cf TB_RSICFG_HOLD ≤ s.tb.held) := by decide +kernel

def aBooking : Booking := ⟨7, .h, .chan 3, .refresh, 3, 100, 0, 0, false, false⟩

theorem wit_GapsOpenAndBookingsEnd : validWord (word 3 4 5) ∧ wordEvent (word 3 4 5) = 3 ∧ validWord (word 4 4 5) ∧
    wordEvent (word 4 4 5) = 4 ∧ up.overlapsWord = false ∧
    (let s := onTb (fun t => { t with state := .locked, period := 2048, frmVb := 10, line := 10 })
       (having [(TB_HBCFG_HBSTART, 0)] up)
     s.good ∧ s.tb.linePeriod ≠ 0 ∧ s.clk.startStep = 0 ∧ s.tb.inV = false ∧ s.gapsUsed ∧ s.tb.inH = false ∧
       s.hStart ≤ s.grain ∧ s.lineper ≠ 0 ∧ s.tb.onlyWord = false ∧ s.tb.frmVb ≤ s.tb.line.toNat) ∧
    (let g : Grant := ⟨aBooking, .h, 99900, 100000, true, none⟩
     let s : State := { up with brk := { up.brk with granted := [g] } }
     s.brk.granted.find? (fun x => x.book.id == g.book.id) = some g ∧ s.grantOver g) := by decide +kernel

-- witnesses: registers

theorem wit_AccessesAreRefusedOrHeld : (State.reset.apb .m).held = none ∧ State.reset.porst = false ∧ up.rsiAlive ∧
    refusedAccess .m 2 0 = true ∧ refusedAccess .m 0x5000 0 = true ∧ refusedAccess .k 0 2 = true ∧
    ({ State.reset with rsiAlive := true } : State).rsiAlive ∧
    (let s : State := { up with rsiAlive := false }
     s.porst ∧ (s.apb .k).held = none ∧ s.rsiAlive = false) ∧
    (let s : State := { up with wheel := { up.wheel with calCopy := some 0, gateCopy := some 0 } }
     refusedAccess .m 0x8070 0 = false ∧ calShadowReg (mapAddr .m 0x8070 % 0x40000) ∧ s.wheel.calCopy.isSome ∧
       gateShadowReg (mapAddr .m 0x8060 % 0x40000) ∧ s.wheel.gateCopy.isSome) := by decide +kernel

/-- The cases of WritesActByAccessCodeAndImage: a register of the fault window, one of a port, and a staging register through
the key port, which only store; and a status register, which no write changes. -/
theorem wit_WritesActByAccessCodeAndImage : up.canonical ∧ up.clocked ∧ up.good ∧ up.frozen = [] ∧
    up.wheel.gateCopy = none ∧ up.wheel.calCopy = none ∧
    (∀ e ∈ [(ApbPort.m, FT_ENCORR_SRC.addr), (.m, (PT_GATE_GATED 3).addr), (.k, (KY_STG_KEY 3).addr % 0x1000)],
      let a : BitVec 20 := BitVec.ofNat 20 e.2
      let b := mapAddr e.1 a % 0x40000
      (up.apb e.1).held = none ∧ refusedAccess e.1 a 0 = false ∧ plainReg b ∧ mapAddr e.1 a < 0x40000 ∧
        ((regDesc b).any fun d => d.w1p == 0 && (d.rw ||| d.lv) != 0)) ∧
    (let a : BitVec 20 := BitVec.ofNat 20 GL_STATUS_WR_IGN.addr
     refusedAccess .m a 0 = false ∧ ((regDesc (mapAddr .m a % 0x40000)).any fun d => d.rw ||| d.lv ||| d.w1p == 0) ∧
       up.stat.get GL_ACCERR_ADDR.addr = 0 ∧ (showing [(GL_ACCERR_ADDR, 4)] up).stat.get GL_ACCERR_ADDR.addr ≠ 0) := by
  decide +kernel

theorem wit_ReadsClearAndCapture :
    let a : BitVec 20 := BitVec.ofNat 20 TB_RSIEVT_HOLDS.addr
    let b : BitVec 20 := 0x1018
    up.canonical ∧ refusedAccess .m a 0 = false ∧ imageOf (mapAddr .m a) = .base ∧ (regDesc (mapAddr .m a)).isSome ∧
      partsOf (mapAddr .m a) = none ∧ mapAddr .m a ≠ 0x2000 ∧ mapAddr .m a ≠ 0x2004 ∧ mapAddr .m a ≠ 0x2008 ∧
      up.news = [] ∧ mapAddr .m a ∉ up.frozen ∧ mapAddr .m a ∉ up.parErr ∧
      (let s : State := { up with news := [(TB_RSIEVT_HOLDS, .add 3)] }
       s.canonical ∧ s.news = [(TB_RSIEVT_HOLDS, .add 3)] ∧ TB_RSIEVT_HOLDS.lo + TB_RSIEVT_HOLDS.width ≤ 32 ∧
         (regDesc TB_RSIEVT_HOLDS.addr).any fun d => TB_RSIEVT_HOLDS.mask &&& d.rc != 0 && TB_RSIEVT_HOLDS.mask &&& ~~~d.rc == 0) ∧
      (regDesc (mapAddr .m b)).isSome ∧ partsOf (mapAddr .m b) = some (mapAddr .m b, 2) := by decide +kernel

theorem wit_MonitorSelectAndParityWalk : up.canonical ∧ up.clocked ∧ up.good ∧ TB_CLKMON_SEL.addr ∉ up.frozen ∧
    hasParity (BitVec.ofNat 20 TB_CLKMON_SEL.addr).toNat ∧
    (let a := TB_CLKMON_SEL.addr
     let s : State := { up with walks := [(a, 1)] }
     s.walks = [(a, 1)] ∧ a ∉ s.frozen ∧ a ∉ s.parErr ∧ a ∈ ({ s with parErr := [a] } : State).parErr ∧
       (regDesc a).any fun d => oddBits (1 &&& d.held) && !oddBits (3 &&& d.held)) := by decide +kernel

theorem wit_BlockResetStartsArmedAndEnds :
    (let s := having [(GL_CTRL_ARM, 1)] up
     s.clocked ∧ s.apbM.held = none ∧ s.good ∧ s.on GL_CTRL_ARM = true ∧ s.clk.blkStep = 0 ∧
       GL_CTRL_ARM.addr ∉ s.frozen) ∧
    up.on GL_CTRL_ARM = false ∧ GL_STATUS_WR_IGN.addr ∉ up.frozen ∧
    (let s := onClk (fun c => { c with blkStep := 2, blkMark := 99900 }) (having [(TB_RSIFREQ_KHZ, 1000)] up)
     s.clk.blkStep = 2 ∧ s.clk.blkMark + s.usRsck 100 = s.rsck) ∧
    (let s := onClk (fun c => { c with blkStep := 3, blkMark := 99995 }) (having [(TB_RSIFREQ_KHZ, 1000)] up)
     s.clk.blkStep = 3 ∧ s.clk.blkMark + s.usRsck 5 = s.rsck) := by decide +kernel

-- witnesses: ports, shaping and intake

/-- A request of one line at a stage, its line as the splitter leaves it. -/
def aReq (wr : Bool) (stage : Stage) (out : Option Outcome) : Req :=
  { newReq 0 0 3 wr 5 false with stage := stage, lines := [⟨0, 0, 0, false, false, out, 0⟩] }

/-- A write request with its four beats. -/
def fullReq (stage : Stage) : Req :=
  { aReq true stage none with beats := List.replicate 4 ⟨1, BitVec.allOnes 64⟩, taken := 4 }

def onP (p : Nat) (f : Port → Port) : State := (having [(GL_CHLINES_LINES, 64)] up).onPort p f

def withReq (p : Nat) (r : Req) : State := onP p fun x => { x with reqs := [r], nextSeq := 1 }

theorem wit_RequestsAreTakenWhileReady : up.clocked ∧ up.qready 27 ∧ (∀ e ∈ (up.port 27).reqs, e.tag ≠ 5) ∧
    (let s := withReq 0 (aReq false .hand none)
     s.qready 0 ∧ ∃ e ∈ (s.port 0).reqs, e.tag = 5 ∧ e.freed = false) ∧ State.reset.qready 0 = false := by decide +kernel

theorem wit_BeatsAndLinesOfARequest :
    (let r := { aReq true .hand none with taken := 3 }
     let s := withReq 27 r
     s.wready 27 ∧ (s.port 27).lacking = some r ∧ r.taken + 1 = r.count ∧ (s.port 27).state ≠ .halted ∧ s.clocked) ∧
    (let s := withReq 29 (newReq 0 255 0 false 5 false)
     s.flt.haltStep = 0 ∧ (s.port 29).reqs.find? (·.stage == .queued) = some (newReq 0 255 0 false 5 false) ∧
       (s.port 29).splittable (newReq 0 255 0 false 5 false) ∧ s.logicals * s.lines = 64) ∧
    (let s := withReq 29 (newReq 0 256 63 false 5 false)
     (s.port 29).splittable (newReq 0 256 63 false 5 false) ∧ ∃ l ∈ s.cut (newReq 0 256 63 false 5 false), 64 ≤ l.line) ∧
    (newReq 0 (BitVec.allOnes 34) 1 false 5 false).crosses = true := by decide +kernel

theorem wit_AddressMapIsOneToOne :
    (let s := having [(GL_L2P0_LOG, 3)] (withReq 29 (aReq false .hand none))
     (s.port 29).handing = some (aReq false .hand none) ∧
       (aReq false .hand none).nextLine = some (0, ⟨0, 0, 0, false, false, none, 0⟩) ∧ s.tableAt 0 = 3 ∧ 0 < s.logicals ∧
       (aReq false .hand none ∈ (s.port 29).reqs)) ∧
    (having [(GL_AMAP_HASH, 1), (GL_AMAP_LCH, 15)] up).homeOf 0x1000020 = (3, 0x100002) := by decide +kernel

theorem wit_ShapersTestTheHeadRequest :
    let r := aReq false .shaping none
    let s (c : Nat) (ctl : Word) (lc lp : Nat) : State :=
      onP 29 fun x => { x with reqs := [r], credit := c, shctl := ctl, levelC := lc, levelP := lp }
    (s 1 0 0 0).canonical ∧ (s 1 0 0 0).clocked ∧ ((s 1 0 0 0).port 29).rodAt = none ∧ (s 1 0 0 0).flt.haltStep = 0 ∧
      (s 1 0 0 0).rodOver = false ∧ ((s 1 0 0 0).port 29).relAt ≠ some (s 1 0 0 0).now ∧
      ((onP 29 fun x => { x with relAt := some 100000 }).port 29).relAt = some up.now ∧
      ((s 1 0 0 0).port 29).shaping = some r ∧ r.lines.length = 1 ∧ ((s 0 0 0 0).port 29).shaped = false ∧
      ((s 0 1 4096 0).port 29).shaped ∧ r.count * 1024 = 4096 ∧ ((s 0 3 4095 4096).port 29).policed ∧
      ((s 0 1 4095 4096).port 29).policed = false := by decide +kernel

def rods (rod : Nat) (pend : Bool) : State :=
  { up with wheel := { up.wheel with running := true, rod := rod, mark := 99984, calPend := pend } }

theorem wit_RodsAddTokensAndCredit : (rods 1022 false).canonical ∧ (rods 1022 false).rodOver ∧
    (rods 1022 false).wheel.rod < 1023 ∧ (rods 1023 true).rodOver ∧ (rods 1023 true).wheel.rod = 1023 ∧
    (∀ p : Fin 30, ((rods 1022 false).port p).shDue = none ∧ ((rods 1022 false).port p).shWrite = none ∧
      ((rods 1022 false).port p).rodAt ≠ some 1023) ∧
    TB_CALREVS_REVS.addr ∉ up.frozen ∧
    ({ up with wheel := { up.wheel with calCopy := some 120, gateCopy := some 95 } } : State).wheel.calCopy = some 120 := by
  decide +kernel

theorem wit_GatesPassWhatFitsTheWindow :
    let r := aReq false .gate none
    let s (t : Nat) : State := onTb (fun b => { b with inV := true, t := t, state := .locked, period := 4096 })
      (showing [(TB_GATEVG_VGW, 1), (PT_GATEW_GATED 29, 1)] (withReq 29 r))
    (s 0).clocked ∧ (s 0).flt.haltStep = 0 ∧ (s 126).lineOver = false ∧ ((s 0).gateOf 29).1 = true ∧
      ((withReq 29 r).gateOf 29).1 = false ∧ ((s 0).port 29).gated = some r ∧ (s 0).windows ((s 0).gateOf 29).2.1 = [(0, 1024)] ∧
      (s 0).grain + (s 0).transferGrains 29 r ≤ 1024 ∧ (s 0).transferGrains 29 r = 16 ∧ (s 126).grain = 1008 ∧
      (s 127).grain = 1016 := by decide +kernel

theorem wit_LinesAreHandedToPerchQueues :
    (let s := withReq 29 (fullReq .hand)
     s.intakeRuns ∧ (s.port 29).handing = some (fullReq .hand) ∧ (s.chan 0).arb.decidedAt ≠ some s.now ∧
       (s.port 29).handAt ≠ some s.now ∧ s.clk.retStep = 0 ∧
       ((s.onPort 29 fun x => { x with handAt := some 100000 }).port 29).handAt = some s.now ∧
       ((s.onChan 0 fun x => { x with arb := { x.arb with decidedAt := some 100000 } }).chan 0).arb.decidedAt = some s.now ∧
       (fullReq .hand).nextLine = some (0, ⟨0, 0, 0, false, false, none, 0⟩) ∧ s.tableAt 0 = 0 ∧
       (s.perch 0 29).length < 4 ∧ (fullReq .hand).holds 0 ∧ ((fullReq .hand).lineData 0).2 ≠ 0 ∧
       s.gateHeld 29 = false ∧ (s.chan 0).state ≠ .retired ∧ (s.chan 0).test = 0 ∧ s.flt.take = false) ∧
    (let s := withReq 29 { fullReq .hand with passAt := some 100000 }
     ({ s with wheel := { s.wheel with gatePend := true } } : State).gateHeld 29) ∧
    (aReq false .hand none).wr = false := by decide +kernel

def line (p tier : Nat) (wr : Bool) : PerchLine := 
  ⟨p, 0, 0, 0, 0, tier, wr, 4, 0, BitVec.allOnes 64 |>.setWidth 256, .port, 0, 0, 0⟩

def withLine (l : PerchLine) (park : Option Nat) : State :=
  (up.onChan 15 fun x => { x with arb := { x.arb with perch := upd x.arb.perch l.port fun _ => [l], park := park } })

theorem wit_IntakeGrantsByOrder :
    (∀ x ∈ [line 3 3 false, line 30 3 false, line 31 0 false], x.port ≤ 31 ∧ x.tier ≤ 3) ∧
    (let u := pressEviction 15 (turnAwayAll 15 (promote 15 (withLine (line 29 0 false) none)))
     (withLine (line 29 0 false) none).intakeWorks 15 ∧ u.deciding 15 ∧ (u.chan 15).arb.hold = none ∧
       (u.chan 15).arb.park = none ∧ u.bestOf 15 ((u.heads 15).filter (u.candidate 15)) = some (line 29 0 false)) ∧
    (let u := pressEviction 15 (turnAwayAll 15 (promote 15 (withLine (line 29 0 false) (some 29))))
     u.heads 15 = [line 29 0 false] ∧ (u.chan 15).arb.park = some 29 ∧ u.intakeIdle 15 ∧
       u.candidate 15 (line 29 0 false)) := by decide +kernel

def transferring (l : PerchLine) : State :=
  showing [(CH_MDINIT_PTR 15, 1), (CH_MDINIT_DONE 15, 1)] (having [(GL_CRYPT_BYPASS, 1), (CH_WDOG_LIMIT 15, 1)]
    (up.onChan 15 fun x => { x with arb := { x.arb with xfer := some (l, 100000) } }))

def gathering : State := (transferring (line 29 0 true)).onChan 15 fun x => { x with
  ops := [{ (line 29 0 true).op .write .gather with gill := some 0, lead := 0 }], nextOp := 1
  gills := upd x.gills 0 fun _ => some ⟨0, 0, 0, 1, 0, [29], 0, 0, none, 0, false⟩ }

theorem wit_TransferredLinesAreAdmitted :
    (let s := transferring (line 29 0 false)
     s.canonical ∧ s.intakeWorks 15 ∧ (s.chan 15).arb.next = none ∧ s.turnedAway 15 (line 29 0 false) = none ∧
       s.turnedAway 15 (line 29 0 true) = none ∧
       (s.chan 15).arb.xfer = some (line 29 0 false, 100000) ∧ s.on (PT_CFG_STREAMING 29) = false ∧
       (s.chan 15).heldLead 0 = none ∧ s.present 15 0 ∧ (line 29 0 false).kind = .port ∧ (s.port 29).flush = none) ∧
    (let s := transferring (line 29 0 true)
     s.canWrite ∧ (s.chan 15).reservedGill 0 = none ∧ (s.chan 15).openGill 0 = none ∧ (s.chan 15).freeGill = some 0 ∧
       (line 29 0 true).be ≠ BitVec.allOnes 256) ∧
    (let x := gathering.chan 15
     gathering.canWrite ∧ x.reservedGill 0 = none ∧ x.openGill 0 = some 0 ∧
       x.gill 0 = some ⟨0, 0, 0, 1, 0, [29], 0, 0, none, 0, false⟩ ∧
       x.leadOf 0 = some { (line 29 0 true).op .write .gather with gill := some 0, lead := 0 } ∧
       1 ||| (line 29 0 true).be ≠ BitVec.allOnes 256) ∧
    (let s := (transferring (line 29 0 true)).onChan 15 fun x => { x with arb := { x.arb with hold := some 0 }, wdCount := 256 }
     (s.chan 15).arb.hold = some 0 ∧ s.cf (CH_WDOG_LIMIT 15) * 256 = (s.chan 15).wdCount ∧
       (s.chan 15).wdTripped = false ∧ s.heads 15 = []) := by decide +kernel

def answered (wr : Bool) : Req := { aReq wr .off (some ⟨0, 0⟩) with taken := 4 }

theorem wit_ResponsesReturnInTurn : up.responds ∧
    (let s := withReq 29 (answered false)
     (s.port 29).dSeq = none ∧ (s.port 29).reqs.find? (fun r => !r.wr && r.tag == 5 && r.answered && (s.port 29).turnOf r) =
       some (answered false)) ∧
    (let s (p i : Nat) := (withReq p (answered false)).onPort p fun x => { x with dSeq := some 0, dBeat := i }
     (s 29 0).sending 29 = some (answered false) ∧ ((s 29 2).dBeat 29 (answered false)).last = false ∧
       ((s 29 3).dBeat 29 (answered false)).last = true ∧ (s 28 3).sending 28 = some (answered false)) ∧
    (withReq 29 (answered true)).readyWrite 29 5 = some (answered true) ∧
    (withReq 0 (answered true)).readyWrite 0 5 = some (answered true) := by decide +kernel

theorem wit_PortsFlushStopAndResume :
    (let r := aReq true .hand none
     r ∈ ((withReq 3 r).port 3).reqs ∧ r.wr ∧ r.bad = false ∧ r.freed = false) ∧
    (let s := onP 3 fun x => { x with flush := some 0 }
     s.canonical ∧ s.flushed 3 ∧ (PT_STATE_FLUSH_DONE 3).addr ∉ s.frozen) ∧ up.pins.dmReady ∧ up.pins.pclk ∧ (up.port 29).state = .run ∧
    (let s := onP 29 fun x => { x with state := .drain }
     (s.port 29).state = .drain ∧ (s.port 29).tags = 0) ∧
    ((onP 29 fun x => { x with state := .stopped }).port 29).state = .stopped ∧
    (let r := { aReq false .off none with bad := true }
     let s := (withReq 29 r).onPort 29 fun x => { x with state := .halted, hcause := 4 }
     (s.port 29).state = .halted ∧ 2 ≤ (s.port 29).hcause ∧ (s.port 29).hcause ≤ 4 ∧ s.frozenIn (.pt 29) = false ∧ (s.port 29).tags = 1 ∧
       ({ s with frozen := [(PT_CFG_STREAMING 29).addr] } : State).frozenIn (.pt 29) ∧
       ∀ r ∈ (s.port 29).reqs, r.bad = true) ∧
    ((onP 29 fun x => { x with state := .halted, hcause := 1 }).port 29).hcause = 1 := by decide +kernel

-- witnesses: channel commands

/-- A read of line 0 of channel 15 that stands in the read queue, with a row of its bank open or not. -/
def reading (bursts : Nat) : Op := { Op.fresh .read .reading 0 0 0 with
  rq := .shared, haz := .shared, looked := true, port := 29, bursts := bursts }

def writing (bursts : Nat) : Op := { Op.fresh .write .writing 0 0 0 with
  wq := .shared, haz := .shared, looked := true, bursts := bursts, port := 29 }

def withOp (o : Op) (b : Bank) : State := (up.onChan 15 fun x => { x with ops := [o], nextOp := 1, wrMode := o.writes }).onRank 15 0
  fun k => { k.onBank 0 (fun _ => b) with wckOn := true }

def opened : Bank := { Bank.reset with st := .opened }

/-- The same in read mode, whose end no write queue asks for. -/
def serving (o : Op) (b : Bank) : State := having [(CH_WQCFG_WHI 15, 32)] (withOp o b)

def debtor (f : Rank → Rank) : State := up.onRank 15 1 fun k => f { k with keeps := true, debt := 64 }

/-- Channel 15 with a calibration step at rank 1 in progress. -/
def stepping (k : Nat) (f : Rank → Rank) : State :=
  (up.onCal 15 fun x => { x with step := some (k, 1) }).onRank 15 1 f

/-- A change of the operating point is pending, and rank 0 has its FSP written. -/
def changing : State := (onOp (fun o => { o with pend := true }) up).onRank 15 0 fun k => { k with fspDone := true }

theorem wit_ChosenCommandsMeetTheirTimings : ∀ k : Fin 13,
    let s : State := match k with
      | 0 => withOp (reading 0) .reset
      | 1 => serving (reading 0) opened
      | 2 => withOp (writing 0) opened
      | 3 => withOp (reading 0) { opened with row := 1 }
      | 4 => debtor id
      | 5 => having [(CH_REFCFG_ALLBANK 15, 1)] (debtor id)
      | 6 => having [(CH_RFMCFG_EN 15, 1), (CH_RFMCFG_RAAMMT 15, 2)] (debtor fun k =>
          { k.onBank 15 (fun b => { b with raa := 2 }) with debt := 0 })
      | 7 => (serving (reading 0) opened).onRank 15 0 fun k => { k with wckOn := false }
      | 8 => debtor fun k => { k with debt := 0, mr4Due := true, mr4Go := true }
      | 9 => changing
      | 10 => stepping 3 id
      | 11 => stepping 2 fun k => { k with zqReady := true }
      | 12 => (stepping 4 id).onCal 15 fun x => { x with oscRun := upd x.oscRun 1 fun _ => some 0 }
    s.chosen 15 = some (match k with
      | 0 => .act ⟨0, 0, 0, 0⟩ 0 | 1 => .rd 0 | 2 => .wr 0 | 3 => .pre 0 0 | 4 => .refpb 1 0 false | 5 => .refab 1 false
      | 6 => .rfm 1 15 false | 7 => .cas 0 | 8 => .mrr 1 | 9 => .mrw 1 | 10 => .zqStart 1 | 11 => .zqLatch 1
      | 12 => .osc 1) := by decide +kernel

theorem wit_RowCommandsMoveTheirBanks :
    (withOp (reading 0) .reset).chosen 15 = some (.act ⟨0, 0, 0, 0⟩ 0) ∧
    (withOp (reading 0) { opened with row := 1 }).chosen 15 = some (.pre 0 0) ∧
    (let s := having [(CH_SCHED_IDLE 15, 1)] ((withOp (reading 0) opened).onChan 15 fun x => { x with ops := [] })
     s.engineRuns 15 ∧ s.choose 15 = none ∧ s.cf (CH_SCHED_IDLE 15) ≠ 0 ∧ s.oscOn 15 0 = false ∧ s.preReady 15 0 0 ∧
       s.queuedRow 15 0 0 0 = false) ∧
    (let s := up.onRank 15 1 fun k => { k with preDue := true }
     s.powerRuns 15 ∧ s.preabReady 15 1) ∧
    (let s (st : BankSt) := up.onRank 15 1 fun k => { k.onBank 15 (fun b => { b with
       st := st, act := some 99999, pre := some 99999, ref := some 99999 }) with preab := none }
     ((s .opening).rank 15 1).bank 15 |>.st = .opening) ∧
    (let s := up.onRank 15 1 fun k => { k.onBank 15 (fun b => { b with st := .opening, act := some 99999 }) with preab := none }
     s.due ((s.rank 15 1).bank 15).act (1 + s.tm 15 CH_TACT_RCD + s.derate 15) ∧
       ¬ s.due (some 100000) (1 + s.tm 15 CH_TACT_RCD + s.derate 15)) ∧
    (let s (m : Option Nat) := up.onRank 15 1 fun k => { k.onBank 15 (fun b => { b with st := .closing, pre := some 99999 }) with
       preab := m }
     ((s none).rank 15 1).preab ≠ some 99999 ∧ (s none).due (some 99999) ((s none).tm 15 CH_TACT_RPPB) ∧
       ((s (some 99999)).rank 15 1).preab = some 99999) ∧
    (let s := up.onRank 15 1 fun k => k.onBank 15 fun b => { b with st := .refreshing, ref := some 99999 }
     ((s.rank 15 1).bank 15).st = .refreshing ∧
       s.due ((s.rank 15 1).bank 15).ref (max (s.tm 15 CH_TRFC_RFCAB) (s.tm 15 CH_TREF_RFCPB)) ∧
       s.due ((s.rank 15 1).bank 15).rfm (s.tm 15 CH_TRFM_RFMPB) ∧
       ((s.onRank 15 1 fun k => { k with refab := some 99999 }).rank 15 1).refab = ((s.rank 15 1).bank 15).ref) := by decide +kernel

theorem wit_ColumnCommandsMoveOneBurst :
    (serving (reading 3) opened).chosen 15 = some (.rd 0) ∧ ((serving (reading 3) opened).chan 15).op 0 = some (reading 3) ∧
    (withOp (writing 3) opened).chosen 15 = some (.wr 0) ∧ (withOp (writing 0) opened).chosen 15 = some (.wr 0) ∧
    (let s := (withOp (writing 0) opened).onChan 15 fun x => { x with wrMode := false }
     s.busRuns 15 ∧ s.slot 15 ∧ s.turning 15 ∧
       ∀ e ∈ (s.chan 15).ops, e.started → e.writes ≠ (s.chan 15).wrMode) ∧
    (let o := { writing 4 with phase := .recovering, mark := 99996 }
     let s := withOp o opened
     s.opWorks 15 o ∧ (s.chan 15).op 0 = some o ∧ o.partner = none ∧ o.mark + (s.writeEnd 15 + s.tm 15 CH_TFAW_WR) * s.ck ≤ s.now) := by
  decide +kernel

def fetched (kind : OpKind) (tries : Nat) : Op := { reading 4 with kind := kind, phase := .flight, tries := tries }

/-- Some entry carries the check code of a line, and another does not. -/
theorem wit_FetchedLinesAreChecked_codes (s : State) (d : Line) :
    (∃ e : Entry, lineCrc (s.decrypt (Entry.epoch e) 0 d) 0 = Entry.crc e) ∧
      ∃ e : Entry, lineCrc (s.decrypt (Entry.epoch e) 0 d) 0 ≠ Entry.crc e := by
  have h (c : Word) : Entry.epoch (c.setWidth 64) = 0 ∧ Entry.crc (c.setWidth 64) = c := by
    constructor
    · simp [Entry.epoch, b2n]
    · apply BitVec.eq_of_toNat_eq
      simp [Entry.crc]
      omega
  constructor
  · refine ⟨(lineCrc (s.decrypt 0 0 d) 0).setWidth 64, ?_⟩
    rw [(h _).1, (h _).2]
  · refine ⟨(lineCrc (s.decrypt 0 0 d) 0 + 1).setWidth 64, ?_⟩
    rw [(h _).1, (h _).2]
    simp

theorem wit_FetchedLinesAreChecked :
    (let s := having [(GL_CRYPT_BYPASS, 1)] (withOp (fetched .read 0) opened)
     s.opWorks 15 (fetched .read 0) ∧ (s.chan 15).op 0 = some (fetched .read 0) ∧ s.fetched 15 (fetched .read 0) ∧ s.clk.debtOver = false ∧
       (fetched .read 0).port < 30 ∧ [1, 2].map (fun k => (fetched .scrub k).tries) = [1, 2]) ∧
    (let s := withOp (fetched .scratch 0) opened
     s.opWorks 15 (fetched .scratch 0) ∧ s.fetched 15 (fetched .scratch 0)) ∧
    (let s := withOp (fetched (.recompute 31) 1) opened
     s.opWorks 15 (fetched (.recompute 31) 1) ∧ s.fetched 15 (fetched (.recompute 31) 1)) ∧
    (let o := { reading 0 with phase := .pause, mark := 100000 }
     (withOp o opened).quadWorks (quadOf 15) ∧ o.mark + (withOp o opened).usRsck 1 ≤ (withOp o opened).rsck) ∧
    (let v : Gill := ⟨0, 0, 0, 1, 100000, [0], 0, 0, none, 0, false⟩
     let s := up.onChan 15 fun x => { x with gills := upd x.gills 15 fun _ => some v }
     s.quadWorks (quadOf 15) ∧ (s.chan 15).gill 15 = some v ∧ v.whole = false ∧ v.evict = none ∧ v.opened + s.cf (CH_GILLCFG_AGE 15) ≤ s.now) ∧
    (let v : Gill := ⟨0, 0, 0, BitVec.allOnes 256, 0, [0], 0, 0, none, 0, false⟩
     let o := { writing 0 with phase := .gather, gill := some 15 }
     let s := (withOp o opened).onChan 15 fun x => { x with gills := upd x.gills 15 fun _ => some v }
     v.whole ∧ v.reserved = 0 ∧ (s.chan 15).leadOf 15 = some o ∧ (s.chan 15).wqFree) := by decide +kernel

-- witnesses: refresh, power and operating points

theorem wit_RefreshesPayTheDebt :
    (debtor id).chosen 15 = some (.refpb 1 0 false) ∧
    (let s := debtor fun k => { k with debtMark := 3200000 }
     s.counts 15 1 ∧ (s.rank 15 1).debtMark + s.riseTime 15 1 ≤ 32 * s.now ∧ 64 ≤ (s.rank 15 1).debt) ∧
    ((debtor fun k => { k with debt := 63 }).rank 15 1).debt < 64 ∧
    (let s := debtor fun k => { k with mr4At := 100000 }
     (s.rank 15 1).keeps ∧ (s.rank 15 1).mr4Due = false ∧
       (s.rank 15 1).mr4At + s.usCc (s.cf (CH_REFCFG_POLL 15)) ≤ s.now ∧ s.clocked) ∧
    (let s := debtor fun k => { k with mr4Due := true, mr4Go := true }
     s.engineRuns 15 ∧ (s.rank 15 1).mr4Wait = false ∧ s.rankQuiet 15 1) ∧
    (let s := debtor fun k => { k with mr4Wait := true, mrr := some 100000, cls := 3 }
     (s.rank 15 1).mr4Wait ∧ s.due (s.rank 15 1).mrr (s.tm 15 CH_TLAT_RL) ∧ 
       (let u := having [(CH_REFCFG_MAXMULT 15, 1)] s
        (u.rank 15 1).clsHeld = none ∧ u.mult4Of 15 4 ≤ u.mult4Of 15 3 ∧ u.mult4Of 15 3 < u.mult4Of 15 2) ∧
       ((s.onRank 15 1 fun k => { k with clsCand := some 2 }).rank 15 1).clsCand = some 2 ∧
       (s.rank 15 1).clsCand ≠ some 2 ∧ s.op.step < 2 ∧ (onOp (fun o => { o with step := 6 }) s).op.step = 6) := by decide +kernel

def low (p : PowerSt) (w : Want) (mark : Nat) : State := up.onRank 15 1 fun k => { k with power := p, want := w, lowAt := some mark }

theorem wit_RanksEnterAndLeavePowerStates :
    (let s := having [(CH_PWRCFG_PDIDLE 15, 10), (CH_TPWR_CSCKE 15 0, 1)] (up.onRank 15 1 fun k => { k with idleAt := 99990 })
     let k := s.rank 15 1
     s.engineRuns 15 ∧ k.power = .active ∧ k.want = .serve ∧ k.preDue = false ∧ k.check = false ∧ s.fspOwed 15 1 = false ∧ s.rankIdle 15 1 ∧
       s.cf (CH_PWRCFG_PDIDLE 15) ≠ 0 ∧ k.idleAt + s.cf (CH_PWRCFG_PDIDLE 15) * s.ck ≤ s.now ∧ k.debt < 48 ∧ s.refreshReady 15 1 = false ∧
       s.rankQuiet 15 1 ∧ s.dataRested 15 1 ∧ (s.chan 15).cmdAt + s.tm 15 CH_TPWR_CSCKE * s.ck ≤ s.now + s.ck) ∧
    (let s := (low .powerDown .serve 100000).onRank 15 1 fun k => { k with debt := 48 }
     s.powerRuns 15 ∧ s.leavesPd 15 1 ∧ s.due (s.rank 15 1).lowAt (s.tm 15 CH_TPWR_CKCSH)) ∧
    (low .active (.selfRefresh true) 0).maySleep 15 1 ∧ up.op.step ≠ 3 ∧ (low .active (.deepSleep false) 0).maySleep 15 1 ∧
    (low .selfRefresh .serve 100000).srxReady 15 1 ∧
    (let s := low .deepSleep .serve 0
     s.powerRuns 15 ∧ (s.rank 15 1).exitAt = none) ∧
    (let s := up.onRank 15 1 fun k => { k with power := .deepSleep, exitAt := some 100000 }
     s.clocked ∧ 100000 + s.usCc (s.cf (CH_PWRCFG_DSMX 15)) ≤ s.now) ∧
    (serving (reading 0) opened |>.onRank 15 0 fun k => { k with wckOn := false }).chosen 15 = some (.cas 0) ∧
    (let s := having [(CH_PWRCFG_SRIDLE 15, 1)] (up.onRank 15 1 fun k => { k with idleAt := 100000 })
     s.quadRuns (quadOf 15) ∧ s.cf (CH_PWRCFG_SRIDLE 15) ≠ 0 ∧ s.live 15 ∧ (s.rank 15 1).awake ∧ (s.rank 15 1).want = .serve ∧
       (s.rank 15 1).check = false ∧ s.op.step < 2 ∧ s.fspOwed 15 1 = false ∧
       s.rankIdle 15 1 ∧ (s.rank 15 1).idleAt + s.usCc (s.cf (CH_PWRCFG_SRIDLE 15)) ≤ s.now) ∧
    (let s := up.onRank 15 1 fun k => { k with check := true }
     s.powerRuns 15 ∧ (s.rank 15 1).wckOn = false ∧ (s.rank 15 1).check ∧ s.rankQuiet 15 1 ∧ s.order1 15 = none) := by decide +kernel

def supply (step opStep : Nat) : State := onOp (fun o => { o with
  step := opStep, stepAt := 100000, pend := true, supply := { o.supply with step := step, mark := 99998 } }) up

theorem wit_OperatingPointsChangeByTheirSteps : up.clocked ∧
    (supply 1 1).op.supply.mark + 2 ≤ (supply 1 1).rsck ∧ (supply 2 1).op.supply.step = 2 ∧ (supply 3 7).op.supply.step = 3 ∧
    (supply 2 7).op.stepAt + (supply 2 7).usRsck ((supply 2 7).cf TB_OPTIME_VSTEP) ≤ (supply 2 7).rsck ∧
    (let s := having [(TB_OP_VALID 3, 1)] up
     s.canonical ∧ s.good ∧ TB_OPPIN_EN.addr ∉ s.frozen ∧ s.on (TB_OP_VALID 3) ∧ s.op.step = 0 ∧ s.op.granted = false ∧
       s.op.pend = false ∧ 3 ≠ s.op.cur ∧ s.changeAllowed = false ∧
       ([0, 1, 2, 3].foldl (fun s q => s.onPll (.phy q true) fun x => { x with st := .standby }) s).changeAllowed) ∧
    changing.chosen 15 = some (.mrw 1) ∧
    (let s := onOp (fun o => { o with step := 3 }) (up.onRank 15 1 fun k => { k with fspDone := true })
     s.powerRuns 15 ∧ s.rankQuiet 15 1 ∧ s.due (s.rank 15 1).mrw (s.tm 15 CH_TMR_MRW) ∧ s.dataRested 15 1 ∧
       15 ∈ s.opChans ∧ (s.rank 15 1).preDue = false ∧ (s.rank 15 1).allClosed ∧ (s.rank 15 1).forced = false ∧
       (s.rank 15 1).fspDone ∧ (s.rank 15 1).fspSel = false ∧ (s.rank 15 0).fspDone = false) := by decide +kernel

theorem wit_DeepSleepBeginsAndEnds : up.clocked ∧ up.op.dsm = 0 ∧ up.clk.startStep = 0 ∧ up.op.pend = false ∧ up.op.step = 0 ∧
    (supply 1 1).op.pend ∧ (onOp (fun o => { o with dsm := 2 }) up).op.dsm = 2 ∧
    (onOp (fun o => { o with dsm := 1 }) up).op.dsm ≠ 2 := by decide +kernel

-- witnesses: metadata, cache maintenance and scrub

/-- A metadata line of channel 15 whose entry 0 is of a written, verified line of slot 0. -/
def entryLine : Line := (2 ^ 32 : Line)

def cached (st : WaySt) : State :=
  let s := showing [(CH_MDINIT_PTR 15, 1), (CH_MDINIT_DONE 15, 1)] (having [(GL_CRYPT_BYPASS, 1)] up)
  let s := s.onChan 15 fun x => { x with ops := [Op.fresh .read .lookup 0 0 0], nextOp := 1 }
  s.onQuad 3 fun x => x.setWay (8 * Machine.setOf 15 0) ⟨st, false, 15, 0, entryLine⟩

def fill (kind : OpKind) (tries : Nat) : Op := { reading 4 with
  kind := kind, phase := .flight, tries := tries, way := some 9, haz := .none, rq := .fill }

set_option maxRecDepth 1000000 in
/-- Some data carries its check code, and another does not. -/
theorem wit_MetadataLinesAreLookedUpAndInstalled_mcrc : mcrcOf (State.reset.sealMd 15 0 0) =
    State.reset.mcrc 15 0 (State.reset.sealMd 15 0 0) ∧ mcrcOf mcrcBits ≠ State.reset.mcrc 15 0 mcrcBits := by decide +kernel

theorem wit_MetadataLinesAreLookedUpAndInstalled :
    (let s := cached .dirty
     let lane : Fin 8 := ⟨laneOf 15 0, by decide⟩
     s.quadWorks 3 ∧ (s.quad 3).bypStep = 0 ∧ s.laneFree 3 lane ∧ ((s.quad 3).lane lane).waiting = none ∧
       ((s.onLane 3 lane fun l => { l with stopped := some (15, 0) }).quad 3 |>.lane lane).stopped.isSome ∧
       ([1, 2, 3, 4].map fun i => 4 * 3 + (((s.quad 3).lane lane).last + i) % 4).findSome? (fun c =>
         (s.lookupOf c lane).map fun o => (c, o)) = some (15, Op.fresh .read .lookup 0 0 0) ∧
       s.present 15 0 ∧ (s.quad 3).wayFor 15 0 = some (8 * Machine.setOf 15 0) ∧ ((s.quad 3).way (8 * Machine.setOf 15 0)).st = .dirty ∧
       s.lineState (entryOf ((s.quad 3).way (8 * Machine.setOf 15 0)).data 0) = .good) ∧
    (∀ o ∈ [fill .demand 0, fill .demand 1, fill (.opFill false) 0],
      let s := withOp o opened
      s.quadWorks 3 ∧ (s.chan 15).op 0 = some o ∧ o.isMetaFill ∧ s.fetched 15 o) ∧
    (let s := withOp (fill .demand 0) opened
     ∀ e ∈ quadChans 3, ∀ a ∈ (s.chan e).ops, a.way = some 9 → e = 15 ∧ a.id = 0) ∧
    (let s := up.onQuad 3 fun x => { x with rebuilds := [⟨2047, 15, 0, 0, 0, false⟩] }
     (s.quad 3).rebuilds.find? (·.id = 2047) = some ⟨2047, 15, 0, 0, 0, false⟩ ∧
       ∀ c ∈ quadChans 3, ∀ o ∈ (s.chan c).ops, o.way ≠ some 2047) := by decide +kernel

def mopping (o : CacheOp) : State := up.onQuad 3 fun x => { x with mop := some o }

theorem wit_CacheMaintenanceStartsAndEnds : up.canonical ∧ up.clocked ∧
    ((mopping ⟨3, false, 0, 0, 12, 0, false, []⟩).quad 3).mop.isSome ∧ (up.quad 3).mop = none ∧ (up.quad 3).bypStep = 0 ∧
    up.on (QD_MCCTL_BYPASS 3) = false ∧ (having [(QD_MCCTL_BYPASS 3, 1)] up).on (QD_MCCTL_BYPASS 3) = true ∧
    up.on (QD_MCOPCTL_ALL 3) = false ∧ (having [(QD_MCOPCTL_ALL 3, 1)] up).on (QD_MCOPCTL_ALL 3) = true ∧
    (let o : CacheOp := ⟨3, false, 0, 0, 16, 0, true, []⟩
     (mopping o).mopOver 3 o ∧ ((mopping o).quad 3).mop = some o) ∧
    (QD_MCCTL_BYPASS 3).addr ∉ up.frozen ∧
    (let s := up.onQuad 3 fun x => { x with bypStep := 3 }
     (s.quad 3).bypStep = 3 ∧ s.cacheFlushed 3) := by decide +kernel

def passing (p : ScrubPass) : State := up.onQuad 3 fun x => { x with scrub := { p with running := true } }

theorem wit_ScrubPassesStartAndEnd : up.canonical ∧ up.clocked ∧ (up.quad 3).scrub.running = false ∧
    up.scrubLo 3 ≤ up.scrubHi 3 ∧ (having [(QD_SCRSL_ADDR_LO 3, 1)] up).scrubHi 3 < (having [(QD_SCRSL_ADDR_LO 3, 1)] up).scrubLo 3 ∧
    ((passing .reset).quad 3).scrub.running = true ∧
    (∀ c ∈ quadChans 3, (passing .reset).walked c = true ∧ (passing .reset).scrubOut c = 0) ∧
    (let s := (passing { ScrubPass.reset with aborting := true, last := Vector.replicate 4 (some 9) })
     ∀ c ∈ quadChans 3, (s.quad 3).scrub.aborting = true ∧ s.scrubOut c = 0) ∧
    up.flt.haltStep = 0 := by decide +kernel

-- witnesses: calibration

theorem wit_WindowsMoveReadTargets : up.calWorks 15 1 ∧ up.calWorks 15 0 ∧ up.trackedRd 15 33 ∧ up.trackedRd 15 35 = false ∧
    (up.bitCal 15 33).sweeping = false ∧ 2 ^ up.cf (QD_CALCFG_WIN 3) = 1 ∧
    (let s := having [(QD_CALCFG_WIN 3, 4), (QD_CALCFG_THR 3, 3)] up
     let n := 2 ^ s.cf (QD_CALCFG_WIN (quadOf 15))
     let thr := n >>> s.cf (QD_CALCFG_THR (quadOf 15))
     s.canonical ∧ s.calWorks 15 1 ∧ s.trackedRd 15 33 ∧ n = 16 ∧ thr = 2 ∧ (s.bitCal 15 33).tgtRd = 0 ∧ 16 > 0 + thr ∧ 2 ≤ 0 + thr ∧
       ((s.onBit 15 33 fun b => { b with tgtRd := 511 }).bitCal 15 33).tgtRd = 511 ∧
       (QD_CALEVT_LIMITS (quadOf 15)).addr ∉ s.frozen) ∧
    ((up.onCal 15 fun x => { x with booked := [(1, 0)] }).cal 15).booked.any (·.1 == 1) = true ∧
    ((up.onChan 15 fun x => { x with state := .test }).chan 15).state = .test ∧
    (let s := having [(QD_CALCFG_MPER 3, 1)] up
     let s := (List.range 36).foldl (fun s i => s.onBit 15 i fun b => { b with windows := 1 }) s
     s.calWorks 15 0 ∧ s.calWorks 15 1 ∧ s.cf (QD_CALCFG_MPER 3) ≠ 0 ∧
       (∀ i : Fin 36, s.cf (QD_CALCFG_MPER 3) ≤ (s.bitCal 15 i).windows) ∧ (s.cal 15).sweepOn = false) ∧
    up.paused 3 = false ∧ (having [(QD_CALCTL_PAUSE 3, 1)] up).paused 3 ∧
    (up.cal 15).booked = [] ∧ (up.chan 15).job = .none ∧ (up.chan 15).state = .active ∧ (up.chan 15).inService ∧
    (let s := having [(QD_CALCFG2_STALE 3, 1)] up
     s.cf (QD_CALCFG2_STALE 3) ≠ 0 ∧ (s.cal 15).closedAt.getD 1 0 + s.usCc 16 ≤ s.now) := by decide +kernel

theorem wit_CalibrationIntervalsBookTheirSteps : up.calBooks 15 ∧
    (let s := having [(QD_CALPER_OSCINT 3, 1)] up
     s.cf (QD_CALPER_OSCINT 3) ≠ 0 ∧ (s.cal 15).oscAt.getD 1 0 + s.usCc 100 ≤ s.now) ∧
    (let s := having [(QD_CALPER_WRCINT 3, 1)] up
     s.cf (QD_CALPER_WRCINT 3) ≠ 0 ∧ (s.cal 15).wrcAt.getD 1 0 + s.usCc 1000 ≤ s.now) ∧
    ((stepping 4 id).onCal 15 fun x => { x with oscRun := upd x.oscRun 1 fun _ => some 0 }).chosen 15 = some (.osc 1) ∧
    (CH_OSC_COUNT 15 1).addr ∉ up.frozen ∧
    ((stepping 5 id).cal 15).step = some (5, 1) ∧ (stepping 5 id).scratchRest 15 ∧
    (stepping 3 id).chosen 15 = some (.zqStart 1) ∧
    (let s := up.onRank 15 1 fun k => { k with zqStart := some 0 }
     s.clocked ∧ (s.rank 15 1).zqStart.isSome ∧ s.due (s.rank 15 1).zqStart (s.tm 15 CH_TZQ_ZQCAL)) ∧
    (stepping 2 fun k => { k with zqReady := true }).chosen 15 = some (.zqLatch 1) ∧
    (let s := having [(QD_CALPER_ZQINT 3, 1)] up
     s.quadRuns 3 ∧ s.paused 3 = false ∧ s.cf (QD_CALPER_ZQINT 3) ≠ 0 ∧ s.clk.startStep = 0 ∧
       (s.quad 3).zqAt + s.usCc 1000 ≤ s.now) ∧
    up.canonical ∧ (QD_CALCTL_PAUSE 3).addr ∉ up.frozen ∧ up.paused 3 = false ∧
    (having [(QD_CALCTL_PAUSE 3, 1)] up).paused 3 := by decide +kernel

theorem wit_DelaysMoveOneStep : up.canonical ∧
    (let s := up.onBit 15 35 fun b => { b with tgtRd := 511, tgtWr := 511, movedRd := 99744, movedWr := 99744 }
     (s.rdField 15 35).addr ∉ s.frozen ∧ (s.wrField 15 35).addr ∉ s.frozen ∧ s.op.cur < 4 ∧ s.calWorks 15 (bitRank 35) ∧
       s.st (s.rdField 15 35) ≠ (s.bitCal 15 35).tgtRd ∧ s.st (s.wrField 15 35) ≠ (s.bitCal 15 35).tgtWr ∧
       (s.bitCal 15 35).tgtRd < 512 ∧ (s.bitCal 15 35).movedRd + 256 = s.now ∧ s.laneBusy 15 false = false ∧
       s.laneBusy 15 true = false) ∧
    (let s := up.onQuad 3 fun x => { x with codeTgt := #v[0, 0, 63], codeAt := #v[0, 0, 99744] }
     s.quadRuns 3 ∧ s.paused 3 = false ∧ s.st (codeField 3 2) ≠ (s.quad 3).codeTgt.getD 2 0 ∧
       (s.quad 3).codeAt.getD 2 0 + 256 = s.now ∧
       ∀ c ∈ quadChans 3, s.laneBusy c false = false ∧ s.laneBusy c true = false) := by decide +kernel

-- witnesses: faults and endurance

/-- One logical channel at channel 0 with channel 15 as its spare. -/
def spared (f : Chan → Chan) : State :=
  ((having [(GL_L2P0_LOG, 0xF0), (GL_CHLINES_LINES, 64)] up).onChan 15 fun x => { x with state := .spare }).onChan 0 f

theorem wit_FaultWritesActByTheirBits : (spared id).clocked ∧ (spared id).canonical ∧ (spared id).wears 0 ∧
    (spared id).firstSpare = some 15 ∧ ((spared id).chan 15).spareInTest = false ∧ (CH_WEARSTAT_CAUSE 0).addr ∉ (spared id).frozen ∧
    ((spared fun x => { x with reserveDue := true }).chan 0).reserveDue ∧ FT_EVSTAT_REFUSED.addr ∉ (spared id).frozen ∧
    (spared id).wears 15 = false ∧ up.firstSpare = none := by decide +kernel

theorem wit_EvacuationsStartAndSwap :
    (let s := spared fun x => { x with state := .wearing, reserve := some 15, wearAt := some 4 }
     s.canonical ∧ s.intakeRuns ∧ s.flt.halted = false ∧ s.nextEvac = some 0 ∧ (s.chan 0).reserve = some 15 ∧ s.mnt.evac = none ∧
       s.clk.startStep = 0 ∧ s.clk.retStep = 0 ∧ s.clk.blkStep = 0 ∧ (s.port 30).state ≠ .halted ∧ (s.chan 15).test = 0) ∧
    (let e : Evac := ⟨0, 15, 4, 99999, 64, [], []⟩
     let s : State := { spared (fun x => { x with state := .evacuating }) with mnt := { up.mnt with evac := some e } }
     s.canonical ∧ s.intakeRuns ∧ s.mnt.evac = some e ∧ e.step = 4 ∧ s.evacuates e ∧ s.clk.blkStep = 0 ∧ s.emptied 0 ∧
       (let u := having [(TB_RSIFREQ_KHZ, 160000), (TB_CLKCFG_NINT, 8), (TB_CLKCFG_NMOD, 1)] s
        u.now < e.mark + u.usCc 20) ∧ GL_L2P0_LOG.addr ∉ s.frozen ∧ GL_L2P1_LOG.addr ∉ s.frozen ∧
       (s.onChan 0 fun x => { x with ops := [reading 0] }).emptied 0 = false ∧
       (let e := { e with mark := 0 }
        ({ s with mnt := { s.mnt with evac := some e } } : State).evacuates e ∧ 0 + s.usCc 20 ≤ s.now)) := by decide +kernel

-- witnesses: keys, test access and channel tests

def keyed (a b : KeySlot) : State := { up with keys := { up.keys with slots := #v[a, b], wvalid := true } }

def aKey : KeySlot := ⟨true, 1, 2, 3, false⟩

theorem wit_KeysAreLoadedRetiredAndErased :
    (let s := having [(KY_STG_KEY 0, 1)] up
     s.clocked ∧ s.staged 0 ≠ s.staged 8 ∧ s.keys.void = false ∧ s.on GL_CRYPT_BYPASS = false ∧
       (s.keys.slot (s.cf KY_CTL_SLOT)).valid = false ∧ (s.keys.slot (s.cf KY_CTL_SLOT)).erase = false) ∧
    (let s := having [(KY_CTL_SLOT, 1)] (keyed aKey aKey)
     (s.keys.slot (s.cf KY_CTL_SLOT)).valid ∧ s.keys.wslot ≠ s.cf KY_CTL_SLOT ∧ s.keys.rkState ≠ 1) ∧
    (let s := keyed { aKey with valid := false, erase := true } .empty
     (s.keys.slot 0).erase ∧ s.decrypts 0 = false ∧ (s.keys.slot 1).erase = false) := by decide +kernel

theorem wit_RekeyPassesStartPauseAndEnd : (keyed aKey aKey).canonical ∧ (keyed aKey aKey).clocked ∧
    (keyed aKey aKey).keys.rkState = 0 ∧ (keyed aKey aKey).keys.void = false ∧ (keyed aKey aKey).on GL_CRYPT_BYPASS = false ∧
    (keyed aKey .empty).keys.wvalid ∧ ((keyed aKey .empty).keys.slot 1).valid = false ∧
    ((keyed aKey aKey).keys.slot 1).valid ∧ (keyed aKey aKey).flt.take = false ∧
    ({ keyed aKey aKey with flt := { up.flt with take := true } } : State).flt.take ∧
    ((keyed aKey aKey).onKeys fun k => { k with rkState := 2 }).keys.rkState = 2 ∧
    (let s := (keyed aKey aKey).onKeys fun k => { k with rkState := 1, rkOld := 0, wslot := 1 }
     s.rekeyOver ∧ (having [(GL_CHLINES_LINES, 1)] s).rekeyOver = false ∧ KY_RKSTAT_PASSES.addr ∉ s.frozen ∧
       FT_STSEVT_EVT.addr ∉ s.frozen) := by decide +kernel

def tapped (q : Nat) (leaving : Bool) : State := { up with tap := { up.tap with quiesce := q, leaving := leaving } }

theorem wit_TapInstructionsAreSelected : up.tap.ctl = .testLogicReset ∧
    ({ up with tap := { up.tap with ctl := .updateIr } } : State).tap.ctl = .updateIr ∧
    ({ up with tap := { up.tap with ctl := .updateDr } } : State).tap.ctl = .updateDr ∧
    ({ up with flt := { up.flt with haltStep := 2 } } : State).flt.haltStep ≠ 0 ∧
    (onClk (fun c => { c with retStep := 1 }) up).clk.retStep ≠ 0 ∧ (onClk (fun c => { c with blkStep := 1 }) up).clk.blkStep ≠ 0 ∧
    State.reset.clk.startStep ≠ 0 ∧ up.porst ∧ State.reset.porst = false ∧ (tapped 5 false).tap.quiesce ≠ 0 ∧
    (tapped 5 false).tap.leaving = false ∧ (tapped 5 true).tap.leaving ∧ (onClk (fun c => { c with startStep := 5 }) (tapped 5 true)).clk.startStep ≠ 0 ∧ up.tap.quiesce = 0 ∧ up.tap.leaving = false ∧
    up.flt.haltStep = 0 ∧ up.rsiAlive ∧ up.clk.startStep = 0 ∧ up.clk.retStep = 0 ∧ up.clk.blkStep = 0 ∧
    ({ up with rsiAlive := false } : State).rsiAlive = false ∧ up.tap.secStep = 0 ∧
    ({ up with tap := { up.tap with secStep := 6 } } : State).tap.secStep ≠ 0 := by decide +kernel

def testing (n : Nat) : State := (spared id).onChan 15 fun x => { x with test := n }

theorem wit_ChannelTestsStartStopAndReport : (testing 0).canonical ∧ (testing 0).clocked ∧
    ((testing 0).chan 15).state = .spare ∧ (testing 0).partner 15 = none ∧
    (∀ c < 16, ((testing 0).chan c).reserve ≠ some 15 ∧ ((testing 0).chan c).test = 0) ∧ ((testing 0).chan 0).state = .active ∧
    (testing 0).flt.take = false ∧ ((testing 0).quadClk 3).wait = false ∧ (testing 0).op.step = 0 ∧
    (testing 0).tap.quiesce = 0 ∧ (testing 0).flt.haltStep = 0 ∧ (testing 0).clk.blkStep = 0 ∧
    (onClk (fun c => { c with blkStep := 1 }) (testing 0)).clk.blkStep ≠ 0 ∧ ((testing 1).chan 15).test = 1 ∧
    ((testing 4).chan 15).test = 4 ∧ ((testing 5).chan 15).test = 5 ∧ ((testing 3).chan 0).test = 0 ∧ ((testing 3).chan 15).test = 3 ∧
    (let s := (testing 4).onChan 15 fun x => { x with testAt := 33554432 }
     (s.chan 15).testStop = false ∧ (s.chan 15).testAt = 2 * s.lineCount 15 ∧ ∀ o ∈ (s.chan 15).ops, o.kind ≠ .test) ∧
    (let s (n : Nat) := (testing 4).onChan 15 fun x => { x with ops := [{ Op.fresh .test .writing 0 0 0 with bursts := n }] }
     (∀ o ∈ ((s 0).chan 15).ops, o.kind = .test → o.bursts = 0) ∧ ∃ o ∈ ((s 1).chan 15).ops, o.kind = .test ∧ o.bursts ≠ 0) ∧
    (CH_TSTSTAT_ERRS 15).addr ∉ (testing 4).frozen ∧
    up.tap.instr ≠ .chtest ∧ ({ up with tap := { up.tap with instr := .chtest } } : State).tap.instr = .chtest := by decide +kernel

theorem wit_KeysAreGoneBeforeSecureAccess :
    (let s : State := { up with tap := { up.tap with secStep := 6 }, keys := { up.keys with void := true } }
     s.keys.void ∧ s.keys.rkState = 0 ∧ s.keys.slots = Vector.replicate 2 .empty ∧
       goesOn (step { s with pending := [.load] })) ∧
    up.tap.secStep ≠ 6 ∧ up.flt.testStop = false := by decide +kernel

-- witnesses: the spill engine

def spilling (f : Spill → Spill) : State :=
  { having [(SP_CFG_POLL 7, 1)] up with
    pins := { up.pins with pclk := true }, spill := upd up.spill 7 f }

theorem wit_SpillChannelsActByTheirState : (spilling id).clocked ∧ (spilling id).responds ∧ ((spilling id).spill_ 7).state = .idle ∧
    (spilling id).canonical ∧ (SP_POS_UNITS 7).addr ∉ (spilling id).frozen ∧
    (∀ st : Fin 8,
      let k : SpillState := match st with
        | 0 => .idle | 1 => .run | 2 => .wait | 3 => .pausing | 4 => .paused | 5 => .halting | 6 => .halted | 7 => .aborting
      ((spilling fun x => { x with state := k }).spill_ 7).state = k) ∧
    (let s := spilling fun x => { x with state := .wait }
     (s.spill_ 7).fetching = false ∧ s.cf (SP_CFG_POLL 7) ≠ 0 ∧ (s.spill_ 7).waitAt + s.usCc (s.cf (SP_CFG_POLL 7)) ≤ s.now ∧
       (having [(SP_CFG_POLL 7, 0)] s).cf (SP_CFG_POLL 7) = 0) ∧
    (let s := spilling fun x => { x with state := .halted, hcause := 3 }
     (s.spill_ 7).hcause = 3 ∧ (s.spill_ 7).hport = false ∧ (s.port 28).state ≠ .halted ∧
       ((s.onPort 28 fun x => { x with state := .halted }).port 28).state = .halted) ∧
    (let s := spilling fun x => { x with state := .halted, hcause := 6 }
     (s.spill_ 7).hcause = 6 ∧ s.flt.haltStep = 0 ∧ ({ s with flt := { s.flt with haltStep := 4 } } : State).flt.haltStep ≠ 0) ∧
    (let s := { spilling (fun x => { x with state := .halted, hcause := 4 }) with frozen := [0x4E00] }
     ∃ a ∈ s.frozen, 0x4000 + 0x200 * 7 ≤ a ∧ a < 0x4200 + 0x200 * 7) ∧
    ((spilling fun x => { x with state := .wait, fetching := true }).spill_ 7).fetching ∧
    (spilling fun x => { x with state := .pausing }).spillDrained 7 ∧
    (spilling fun x => { x with state := .pausing, fetching := true }).spillDrained 7 = false := by decide +kernel

/-- A descriptor of 2 units from DRAM line 16, to host address 4096, with next pointer 0. -/
def descWord (bits : Nat) : BitVec 256 := BitVec.ofNat 256 (bits + 2 * 2 ^ 32 + 4096 * 2 ^ 64 + 4096 * 2 ^ 128)

def fetching (st : SpillState) : State := spilling fun x => { x with
  state := st, fetching := true, bursts := [up.axi 7 false 0 0 0 0 []] }

theorem wit_DescriptorsAreTakenOrHalt : (fetching .run).axiTakes ∧
    ((fetching .run).spill_ 7).oldest false = some (up.axi 7 false 0 0 0 0 []) ∧ (up.axi 7 false 0 0 0 0 []).kind = 0 ∧
    natBit (descWord 0).toNat 0 = false ∧ natBit (descWord 1).toNat 0 ∧ malformed (descWord 1) = false ∧ malformed (descWord 3) ∧
    (parseDesc 0 0 0 0 0 (descWord 0x101)).dir ∧ (parseDesc 0 0 0 0 0 (descWord 1)).dir = false ∧
    ((fetching .run).port 28).state ≠ .halted ∧
    (((fetching .run).onPort 28 fun x => { x with state := .halted }).port 28).state = .halted ∧
    ({ fetching .run with flt := { up.flt with take := true } } : State).flt.take ∧
    ((fetching .aborting).spill_ 7).state = .aborting ∧
    (((fetching .wait).onSpill 7 fun x => { x with kicked := true }).spill_ 7).kicked := by decide +kernel

def desc (dir irq stop : Bool) (issued wb : Nat) : Desc := ⟨0, 0, dir, irq, stop, false, 2, 4096, 4096, 0, issued, 0, 0, wb⟩

def carrying (e : Desc) (b : List Axi) (c : List Chunk) : State :=
  having [(SP_CFG_SLOTS 7, 1), (GL_CHLINES_LINES, 64)]
    (spilling fun x => { x with state := .run, descs := [e], chunks := c, bursts := b, dir := e.dir, nextNum := 1, stopped := e.stop })

theorem wit_ChunksAreReadWrittenAndAcknowledged :
    (∀ dir : Bool,
      let s := carrying (desc dir false false 0 0) [] []
      s.canonical ∧ (s.spill_ 7).reading = some (desc dir false false 0 0) ∧ (s.spill_ 7).waits false = false ∧ s.spillTurn (if dir then 2 else 0) = some 7 ∧
        (s.port 28).reqs.any (·.tag.toNat == (s.port 28).freeTag) = false) ∧
    (let b := up.axi 7 false 1 4096 1 0 []
     let s := carrying (desc true false false 2 0) [b] [⟨0, 0, 2, .reading, 0, []⟩]
     s.axiTakes ∧ (s.spill_ 7).oldest false = some b ∧ b.kind = 1 ∧ ([0, 0] : List Beat).length = b.len + 1) ∧
    (let b := up.axi 7 true 1 4096 1 0 []
     let c : Chunk := ⟨0, 0, 2, .writing, 0, []⟩
     let s := carrying (desc false false false 2 0) [b] [c]
     s.axiTakes ∧ (s.spill_ 7).oldest true = some b ∧ (s.spill_ 7).chunks.find? (fun c => c.st == .writing && !(s.spill_ 7).dirOf c) = some c ∧
       (SP_UNITSL_COUNT_LO 7).addr ∉ s.frozen ∧ (SP_UNITSH_COUNT_HI 7).addr ∉ s.frozen) ∧
    (∀ k ∈ [2, 3],
      let b := up.axi 7 true k 0 0 1 []
      let s := carrying (desc false true true 2 (k - 1)) [b] []
      s.axiTakes ∧ (s.spill_ 7).oldest true = some b ∧ b.kind = k ∧ (s.spill_ 7).descs = [desc false true true 2 (k - 1)] ∧
        (s.spill_ 7).state = .run) ∧
    (let e := desc false false false 2 2
     let s := carrying e [up.axi 7 true 3 0 0 1 []] []
     s.axiTakes ∧ (s.spill_ 7).descs = [e] ∧ e.stop = false ∧ e.next % 32 = 0 ∧ e.next < 2 ^ 48 ∧
       (SP_CURL_ADDR_LO 7).addr ∉ s.frozen ∧ (SP_CURH_ADDR_HI 7).addr ∉ s.frozen) := by decide +kernel

-- witnesses: counters

def counting (v : Nat) : State := having [((ctrHi (.bushel 15)), v / 2 ^ 32), (ctrLo (.bushel 15), v % 2 ^ 32),
  (ctrSel (.bushel 15), 1), (ctrEn (.bushel 15), 2 ^ 15), (ctrOvie (.bushel 15), 2 ^ 15), (PM_CTL_FRZOVF, 1)] up

theorem wit_CounterWritesSetBothHalves : up.canonical ∧ up.clocked ∧ up.bushelKept = false ∧
    ({ up with frozen := [0x3000] } : State).bushelKept ∧ (ctrLo (.bushel 15)).addr ∉ up.frozen ∧
    (ctrHi (.chan 15 3)).addr ∉ up.frozen ∧ winOf (ctrLo (.bushel 0)).addr = winOf (ctrLo (.bushel 15)).addr ∧
    winOf (ctrLo (.chan 0 0)).addr ≠ winOf (ctrLo (.bushel 15)).addr := by decide +kernel

theorem wit_SnapshotsFreezesAndWraps : up.perf.snapAt ≠ some up.now ∧ up.bushelKept = false ∧
    ({ up with frozen := [0x3000] } : State).bushelKept ∧ up.taken (.bushel 15) = 0 ∧
    ({ up with perf := { up.perf with snapAt := some 100000 } } : State).perf.snapAt = some up.now ∧
    (having [(PM_CTL_SNAPCLR, 1)] up).on PM_CTL_SNAPCLR ∧ up.on PM_CTL_SNAPCLR = false ∧ up.good ∧ State.reset.good = false ∧
    (let s := counting (2 ^ 48 - 1)
     s.canonical ∧ s.counts_ (.bushel 15) ∧ s.counter (.bushel 15) + s.owed (.bushel 15) = 2 ^ 48 ∧ s.perf.ovf = none ∧
       natBit (s.cf (ctrOvie (.bushel 15))) (ctrOvf (.bushel 15)).2 ∧ s.on PM_CTL_FRZOVF ∧ s.perf.hostFreeze = false ∧
       (s.onPerf fun f => { f with hostFreeze := true }).perf.hostFreeze) ∧
    (counting 5).counter (.bushel 15) + (counting 5).owed (.bushel 15) < 2 ^ 48 ∧
    ({ up with perf := { up.perf with ovf := some (99000, 0) } } : State).perf.ovf ≠ none := by decide +kernel

theorem wit_OtherCommandsLeaveTheDram : goesOn (exec .clrall up) ∧ goesOn (exec (.rd 15) (withOp (reading 0) opened)) := by
  decide +kernel

-- one step each; the results are worked out from the rules named

/-- The command answers a next state of which a test holds. -/
def does (c : Instr) (s : State) (p : State → Bool) : Bool := match exec c s with
  | .next t => p t
  | _ => false

theorem wit_ResetPulsesActByTheirLength : 19 < 20 ∧ (20 ≤ 20 ∧ 20 < 100) ∧ (20 ≤ 99 ∧ 99 < 100) ∧ 100 ≤ 100 ∧
    does (.porstNAssert 19) up (fun t => t == up) ∧ does (.porstNAssert 100) up (fun t => !t.porst) := by decide +kernel

/-- The check value of CRC-32C over the digits 1 to 9, and of the CRC-8 of R132. -/
theorem test_crcs : crc32c [0x31, 0x32, 0x33, 0x34, 0x35, 0x36, 0x37, 0x38, 0x39] = 0xE3069283 ∧
    crc8 [0x31, 0x32, 0x33, 0x34, 0x35, 0x36, 0x37, 0x38, 0x39] = 0xF4 := by decide +kernel

/-- AES-256 on the example vectors of FIPS 197. -/
theorem test_aes :
    let key := BitVec.ofNat 256 (natOfBytes ((List.range 32).map fun i => BitVec.ofNat 8 i))
    let text := (List.range 16).map fun i => BitVec.ofNat 8 (0x11 * i)
    let sealed : List Byte := [0x8E, 0xA2, 0xB7, 0xCA, 0x51, 0x67, 0x45, 0xBF, 0xEA, 0xFC, 0x49, 0x90, 0x4B, 0x49, 0x60, 0x89]
    aesEnc (roundKeys key) text = sealed ∧ aesDec (roundKeys key) sealed = text := by decide +kernel

/-- R52: 19 ns leave the block alone, 50 ns are refused, 101 ns reset it. -/
theorem test_pulses : does (.porstNAssert 19) up (·.now == 100000) ∧
    ((match exec (.porstNAssert 50) up with | .refused r => r == .porstPulseUndefined | _ => false) : Bool) = true ∧
    does (.porstNAssert 101) up (fun t => !t.porst && t.now == 0) := by decide +kernel

/-- The example under R225: line 74,565 with 16 and with 15 logical channels. -/
theorem test_hash : (having [(GL_AMAP_HASH, 1), (GL_AMAP_LCH, 15)] up).homeOf 74565 = (9, 4660) ∧
    (having [(GL_AMAP_HASH, 1), (GL_AMAP_LCH, 14)] up).homeOf 74565 = (0, 4971) := by decide +kernel

/-- The example under R282: the place of q 4,971. -/
theorem test_place : up.place 0 4971 = ⟨0, 15, 19, 2⟩ := by decide +kernel

/-- The example under R165: the clear alias of TB_CLKMON. -/
theorem test_alias :
    let s := having [(TB_CLKMON_SEL, 1)] up
    does (.clearAliasWrite ⟨.m, 0x81C14, 0x3F, 15, 0⟩) s (fun t => t.cf TB_CLKMON_SEL == 0) ∧
    does (.setAliasWrite ⟨.m, 0x41C14, 0x00030002, 15, 0⟩) (having [(TB_CLKMON_SEL, 0)] s)
      (fun t => t.cf TB_CLKMON_SEL == 2 && t.cf TB_CLKMON_DIV == 3) ∧
    does (.setAliasWrite ⟨.m, 0x41C16, 0x00030002, 15, 0⟩) s
      (fun t => t.cf TB_CLKMON_SEL == 1 && t.apbM.slverr) := by decide +kernel

/-- R178: the version and the identity of the block. -/
theorem test_identity : does (.registerRead ⟨.m, 0, 0⟩) up (fun t => !t.apbM.slverr && t.apbM.rdata == 0x00030100) ∧
    does (.registerRead ⟨.m, 4, 0⟩) up (fun t => t.apbM.rdata == 0x0452D003) := by decide +kernel

/-- R183: a line start gives the line and the frame, and a word with a false CRC gives neither. -/
theorem test_raster : does (.lineStart (word 1 77 5)) up (fun t => t.tb.line == 77) ∧
    does (.corruptWord (word 1 77 5 + 1)) up (fun t => t.tb.line == up.tb.line) := by decide +kernel

/-- The cycle 8 of the example under R270: P5 at 116,384 goes before P4 at 126,384. -/
theorem test_tags :
    let perch (v : Vector (List PerchLine) 32) : Vector (List PerchLine) 32 :=
      upd (upd v 4 fun _ => [line 4 2 true]) 5 fun _ => [line 5 2 true, line 5 2 true]
    let s := (having [(PT_ARB_WEIGHT 4, 4), (PT_ARB_WEIGHT 5, 8), (CH_TCEIL_HC1 5, 100), (CH_TCEIL_HC2 5, 100)] up).onChan 5 fun x => { x with
      arb := { x.arb with
        perch := perch x.arb.perch, vtime := upd x.arb.vtime 2 fun _ => 100000
        finish := upd (upd x.arb.finish 4 fun _ => some 110000) 5 fun _ => some 108192 } }
    does (.intakeDecision 5) s (fun t =>
      let a := (t.chan 5).arb
      a.finish.getD 5 none == some 116384 && a.finish.getD 4 none == some 110000 && a.vtime.getD 2 0 == 108192 &&
        (a.perch.getD 5 []).length == 1) := by decide +kernel

/-- R294: ACT opens the row its operation needs. -/
theorem test_act :
    does (.act 15) (withOp (reading 0) .reset) (fun t => ((t.rank 15 0).bank 0).st == .opening && t.chosen 15 == none) := by
  decide +kernel

/-- R315: a REFpb pays one eighth of a refresh. -/
theorem test_refpb : does (.refpb 15) (debtor id) (fun t =>
    (t.rank 15 1).debt == 63 && (t.rank 15 1).round == 1 && ((t.rank 15 1).bank 0).st == .refreshing) := by decide +kernel

/-- The example under R420: a count of 4,770 on a baseline of 4,800 with K = 410 moves the targets of rank 0 by 3. -/
theorem test_oscillator :
    let s := (showing [(CH_OSC_BASE 5 0, 4800)] (having [(CH_OSCCFG_K 5, 410)] up)).onCal 5 fun x => { x with
      oscRun := upd x.oscRun 0 fun _ => some 0, step := some (4, 0) }
    does (.oscillatorCount 5 0 4770) s (fun t =>
      (t.bitCal 5 0).tgtWr == 3 && (t.bitCal 5 18).tgtWr == 0 && t.st (CH_WOFS_OFS0 5) == 3) := by decide +kernel

/-- R470: equal keys are refused with RESULT 2, and the staging is zeroed. -/
theorem test_load : does .load (having [(KY_STG_KEY 3, 7), (KY_STG_KEY 11, 7)] up) (fun t =>
    t.keys.result == 2 && t.cf (KY_STG_KEY 3) == 0 && !t.keys.wvalid) := by decide +kernel

/-- R495: START reads the 64 bytes that hold the descriptor at SPn_CUR. -/
theorem test_spill_start :
    let s := having [(SP_CURL_ADDR_LO 7, 3), (SP_CURH_ADDR_HI 7, 1)] (spilling id)
    does (.spillStart 7) s (fun t => (t.spill_ 7).state == .run &&
      ((t.spill_ 7).bursts.map fun b => (b.write, b.addr, b.len)) == [(false, 2 ^ 32 + 64, 0)]) := by decide +kernel

/-- R505: a malformed descriptor halts the channel with cause 2. -/
theorem test_malformed : does (.descriptorFetched 7 (descWord 3) 0) (fetching .run) (fun t =>
    (t.spill_ 7).state == .halting && (t.spill_ 7).hcause == 2) := by decide +kernel

/-- R509, R514 and R515: a counter at 2^48 − 1 wraps to 0, sets its flag and freezes the bushel. -/
theorem test_wrap : does (.counterWrap (.bushel 15)) (counting (2 ^ 48 - 1)) (fun t =>
    t.counter (.bushel 15) == 0 && t.st (ctrOvf (.bushel 15)).1 == 2 ^ 15 && t.on PM_CTL_FREEZE) := by decide +kernel

/-- R396: a pass whose end lies below its start is DONE at once. -/
theorem test_scrub : does (.scrubStart 3) (having [(QD_SCRSL_ADDR_LO 3, 1)] up) (fun t =>
    t.st (QD_SCRSTAT_STATE 3) == 2 && t.st (QD_PKSTAT_FINAL 3) == 1) := by decide +kernel

set_option maxRecDepth 1000000 in
/-- An empty queue lets one cc pass (assumption 1). -/
theorem test_idle : ((match step up with | .next t => t.now == 100001 && t.pending == [] | _ => false) : Bool) = true := by decide +kernel

end Sys2Proof.Tests
end

section
/-!
The strap (R54): sampled by a release of PORST_N alone, kept by everything else, and used by the configuration load and
GL_INSTANCE. `exec_keeps` collects what the laws say of each command into one statement over all commands.
-/

namespace Sys2Proof.Machine

section

variable {p : Fixed} {s : State}

-- who keeps the strap

/-- The two commands of PORST_N aside, every command keeps the queue, the strap, the reset pin and the canonical form. -/
theorem exec_keeps {c : Instr} (h : Kept p s) (hns : ∀ ns, c ≠ .porstNAssert ns) (hi : ∀ i, c ≠ .porstNRelease i) :
    Keeps p (exec c s) := by
  cases c with
  | porstNAssert ns => exact absurd rfl (hns ns)
  | porstNRelease i => exact absurd rfl (hi i)
  -- reset, clocks and the configuration load
  | rsiCkPresent => exact execRsiCkPresent_kept h
  | rsiCkLoss => exact execRsiCkLoss_kept h
  | absenceTimerExpiry => exact execAbsenceTimerExpiry_kept h
  | cfgTransactionEnd => exact execCfgTransactionEnd_kept h
  | reload => exact execReload_kept h
  | amplitudeReport => exact execAmplitudeReport_kept h
  | lockDelayExpiry => exact execLockDelayExpiry_kept h
  | lockDetect => exact execLockDetect_kept h
  | pllAttemptTimeout => exact execPllAttemptTimeout_kept h
  | pllRetryPauseExpiry => exact execPllRetryPauseExpiry_kept h
  | amplitudeDrop => exact execAmplitudeDrop_kept h
  | lossOfLock => exact execLossOfLock_kept h
  | monitorWindowEnd => exact execMonitorWindowEnd_kept h
  | clockSwitchDone => exact execClockSwitchDone_kept h
  | forcedSwitch => exact execForcedSwitch_kept h
  | restartA => exact execRestartA_kept h
  | restartB => exact execRestartB_kept h
  | coreRestart => exact execCoreRestart_kept h
  | dresetRelease => exact execDresetRelease_kept h
  | trainingComplete => exact execTrainingComplete_kept h
  | startupComplete => exact execStartupComplete_kept h
  | debtPaymentDone => exact execDebtPaymentDone_kept h
  | checkDone => exact execCheckDone_kept h
  | retrainDone => exact execRetrainDone_kept h
  -- raster words and gaps
  | rsiEventNone => exact execRsiEventNone_kept h
  | lineStart => exact execLineStart_kept h
  | frameStart => exact execFrameStart_kept h
  | horizontalBlank => exact execHorizontalBlank_kept h
  | verticalBlank => exact execVerticalBlank_kept h
  | modeChange => exact execModeChange_kept h
  | corruptWord => exact execCorruptWord_kept h
  | grainWrap => exact execGrainWrap_kept h
  | frameLineLimit => exact execFrameLineLimit_kept h
  | holdoverEntry => exact execHoldoverEntry_kept h
  | holdoverLimit => exact execHoldoverLimit_kept h
  | horizontalGapStart => exact execHorizontalGapStart_kept h
  | verticalGapStart => exact execVerticalGapStart_kept h
  | bookingEnd => exact execBookingEnd_kept h
  -- registers
  | registerWrite => exact execRegisterWrite_kept h
  | setAliasWrite => exact execSetAliasWrite_kept h
  | clearAliasWrite => exact execClearAliasWrite_kept h
  | toggleAliasWrite => exact execToggleAliasWrite_kept h
  | readClear => exact execReadClear_kept h
  | multiRegisterCapture => exact execMultiRegisterCapture_kept h
  | heldShadowWrite => exact execHeldShadowWrite_kept h
  | clkmonSelect => exact execClkmonSelect_kept h
  | parityWalk => exact execParityWalk_kept h
  | blkReset => exact execBlkReset_kept h
  | blockResetTimeout => exact execBlockResetTimeout_kept h
  -- ports, shaping and intake
  | request => exact execRequest_kept h
  | writeBeat => exact execWriteBeat_kept h
  | split => exact execSplit_kept h
  | shaperTest => exact execShaperTest_kept h
  | rodBoundary => exact execRodBoundary_kept h
  | revolutionEnd => exact execRevolutionEnd_kept h
  | calendarCommitRequest => exact execCalendarCommitRequest_kept h
  | gateCommitRequest => exact execGateCommitRequest_kept h
  | calendarCopyDone => exact execCalendarCopyDone_kept h
  | gateCopyDone => exact execGateCopyDone_kept h
  | gatePass => exact execGatePass_kept h
  | perchHandover => exact execPerchHandover_kept h
  -- the equation of `exec` first: unfolding both sides of this arm at once goes too deep
  | intakeDecision =>
    rw [exec_intakeDecision]
    exact execIntakeDecision_kept h
  | lineAdmission => exact execLineAdmission_kept h
  | holdStallTrip => exact execHoldStallTrip_kept h
  | readResponseStart => exact execReadResponseStart_kept h
  | readDataTransfer => exact execReadDataTransfer_kept h
  | writeResponseTransfer => exact execWriteResponseTransfer_kept h
  | tunPointerMismatch => exact execTunPointerMismatch_kept h
  | flush => exact execFlush_kept h
  | flushDone => exact execFlushDone_kept h
  | stop => exact execStop_kept h
  | resume => exact execResume_kept h
  | drainComplete => exact execDrainComplete_kept h
  -- channel commands
  | act => exact execAct_kept h
  | rd => exact execRd_kept h
  | wr => exact execWr_kept h
  | pre => exact execPre_kept h
  | preab => exact execPreab_kept h
  | refpb => exact execRefpb_kept h
  | refab => exact execRefab_kept h
  | rfmpb => exact execRfmpb_kept h
  | mrw => exact execMrw_kept h
  | mrr => exact execMrr_kept h
  | sre => exact execSre_kept h
  | srx => exact execSrx_kept h
  | pde => exact execPde_kept h
  | pdx => exact execPdx_kept h
  | deepSleepEntry => exact execDeepSleepEntry_kept h
  | deepSleepExit => exact execDeepSleepExit_kept h
  | casWsFs => exact execCasWsFs_kept h
  | zqCalibrationStart => exact execZqCalibrationStart_kept h
  | zqLatch => exact execZqLatch_kept h
  | rcdExpiry => exact execRcdExpiry_kept h
  | prechargeDone => exact execPrechargeDone_kept h
  | refreshDone => exact execRefreshDone_kept h
  | dataBusModeChange => exact execDataBusModeChange_kept h
  | writeRecoveryExpiry => exact execWriteRecoveryExpiry_kept h
  | idleClose => exact execIdleClose_kept h
  | readDataReturn => exact execReadDataReturn_kept h
  | secondRefetchDue => exact execSecondRefetchDue_kept h
  | gillAgeExpiry => exact execGillAgeExpiry_kept h
  | gillToWriteQueue => exact execGillToWriteQueue_kept h
  -- refresh, power and operating points
  | debtRise => exact execDebtRise_kept h
  | mr4PollDue => exact execMr4PollDue_kept h
  | mr4Result => exact execMr4Result_kept h
  | selfRefreshIdleExpiry => exact execSelfRefreshIdleExpiry_kept h
  | dsmEnter => exact execDsmEnter_kept h
  | dsmExit => exact execDsmExit_kept h
  | dsmxExpiry => exact execDsmxExpiry_kept h
  | opPin => exact execOpPin_kept h
  | vreqStrobe => exact execVreqStrobe_kept h
  | vackRise => exact execVackRise_kept h
  | vackFall => exact execVackFall_kept h
  | vackTimeout => exact execVackTimeout_kept h
  -- metadata cache and scrub
  | metadataLookup => exact execMetadataLookup_kept h
  | fillInstall => exact execFillInstall_kept h
  | recomputeComplete => exact execRecomputeComplete_kept h
  | clean => exact execClean_kept h
  | invalidate => exact execInvalidate_kept h
  | preload => exact execPreload_kept h
  | preloadLock => exact execPreloadLock_kept h
  | unlock => exact execUnlock_kept h
  | reservedOperation => exact execReservedOperation_kept h
  | mcOperationDone => exact execMcOperationDone_kept h
  | cacheBypassEntry => exact execCacheBypassEntry_kept h
  | bypassEntryDone => exact execBypassEntryDone_kept h
  | cacheBypassExit => exact execCacheBypassExit_kept h
  | scrubStart => exact execScrubStart_kept h
  | scrubAbort => exact execScrubAbort_kept h
  | scrubPassEnd => exact execScrubPassEnd_kept h
  | idlePermission => exact execIdlePermission_kept h
  -- calibration
  | calWindowClose => exact execCalWindowClose_kept h
  | periodicSweep => exact execPeriodicSweep_kept h
  | sweep => exact execSweep_kept h
  | retrain => exact execRetrain_kept h
  | calPause => exact execCalPause_kept h
  | calUnpause => exact execCalUnpause_kept h
  | staleExpiry => exact execStaleExpiry_kept h
  | oscillatorInterval => exact execOscillatorInterval_kept h
  | oscillatorCount => exact execOscillatorCount_kept h
  | writeReadCompareInterval => exact execWriteReadCompareInterval_kept h
  | writeReadCompareDone => exact execWriteReadCompareDone_kept h
  | zqInterval => exact execZqInterval_kept h
  | zqcalExpiry => exact execZqcalExpiry_kept h
  | tapMove => exact execTapMove_kept h
  -- faults, wear and channel retirement
  | ack => exact execAck_kept h
  | logClear => exact execLogClear_kept h
  | scrupleClear => exact execScrupleClear_kept h
  | evac => exact execEvac_kept h
  | evacuationStart => exact execEvacuationStart_kept h
  | channelSwap => exact execChannelSwap_kept h
  | swapDrainTimeout => exact execSwapDrainTimeout_kept h
  -- keys and test access
  | load => exact execLoad_kept h
  | retire => exact execRetire_kept h
  | keyErase => exact execKeyErase_kept h
  | rekeyStart => exact execRekeyStart_kept h
  | rekeyAbort => exact execRekeyAbort_kept h
  | rekeyPassEnd => exact execRekeyPassEnd_kept h
  | trstNAssert => exact execTrstNAssert_kept h
  | idcode => exact execIdcode_kept h
  | samplePreload => exact execSamplePreload_kept h
  | extest => exact execExtest_kept h
  | clamp => exact execClamp_kept h
  | highz => exact execHighz_kept h
  | chtest => exact execChtest_kept h
  | chtestUpdate => exact execChtestUpdate_kept h
  | ijtagPub => exact execIjtagPub_kept h
  | ijtagSec => exact execIjtagSec_kept h
  | scanmode => exact execScanmode_kept h
  | bypass => exact execBypass_kept h
  | channelTestGo => exact execChannelTestGo_kept h
  | channelTestAbort => exact execChannelTestAbort_kept h
  | channelTestEnd => exact execChannelTestEnd_kept h
  -- spill engine
  | spillStart => exact execSpillStart_kept h
  | kick => exact execKick_kept h
  | spillPause => exact execSpillPause_kept h
  | spillResume => exact execSpillResume_kept h
  | spillAbort => exact execSpillAbort_kept h
  | pollExpiry => exact execPollExpiry_kept h
  | descriptorFetched => exact execDescriptorFetched_kept h
  | chunkIssue => exact execChunkIssue_kept h
  | axiReadResponse => exact execAxiReadResponse_kept h
  | axiWriteResponse => exact execAxiWriteResponse_kept h
  | spillDrainComplete => exact execSpillDrainComplete_kept h
  -- performance counters, and the plain register read
  | counterLowWrite => exact execCounterLowWrite_kept h
  | counterHighWrite => exact execCounterHighWrite_kept h
  | clr => exact execClr_kept h
  | clrall => exact execClrall_kept h
  | snap => exact execSnap_kept h
  | freeze => exact execFreeze_kept h
  | counterWrap => exact execCounterWrap_kept h
  | pmovf => exact execPmovf_kept h
  | registerRead => exact execRegisterRead_kept h

/-- Only a release of PORST_N samples the strap: a fall of PORST_N keeps it as every other command does. -/
theorem exec_instId {t : State} {c : Instr} (h : s.canonical) (hc : ∀ i, c ≠ .porstNRelease i)
    (e : exec c s = .next t) : t.instId = s.instId := by
  by_cases hf : ∃ ns, c = .porstNAssert ns
  · obtain ⟨ns, rfl⟩ := hf
    obtain ⟨-, -, hi⟩ := execPorstNAssert_kept (kept_self h) t e
    exact hi
  · exact (exec_keeps (kept_self h) (fun ns hns => hf ⟨ns, hns⟩) hc t e).instId

theorem tick_instId (h : s.canonical) : (tick s).instId = s.instId := (tick_kept (kept_self h)).instId

-- the release of PORST_N

@[simp] theorem startLoad_instId (s : State) : (startLoad s).instId = s.instId := rfl

theorem execPorstNRelease_samples (i : BitVec 14) (h : s.porst = false) :
    ∃ t, execPorstNRelease i s = .next t ∧ t.instId = i := by
  simp only [execPorstNRelease, h, Bool.false_eq_true, if_false]
  refine ⟨_, rfl, ?_⟩
  split
  · rw [startLoad_instId]
  · rfl

theorem execPorstNRelease_of_high (i : BitVec 14) (h : s.porst = true) : execPorstNRelease i s = .next s := if_pos h

-- what the strap selects and what reports it

/-- A transaction that has had its time on the bus and brings the length asked for is taken. -/
theorem execCfgTransactionEnd_of_goOn {data : List Byte} {t : State} (hc : s.clocked) (hd : s.busDone)
    (hl : data.length = s.load.len) (h : loadBytes data s = .goOn t) : execCfgTransactionEnd data s = .next t := by
  simp [execCfgTransactionEnd, hc, hd, hl, h]

/-- After a good header of an image with an entry for the strap, the load reads the entry of that number (R132, R139). -/
theorem loadBytes_header_selects {data : List Byte} (hp : s.load.phase = .header) (ht : headerTest data = none)
    (hi : s.instId.toNat < natOfBytes ((data.drop 12).take 4)) :
    ∃ t, loadBytes data s = .goOn t ∧ t.load.phase = .entry ∧ t.load.len = 8 ∧
      t.load.off = natOfBytes ((data.drop 8).take 4) + 8 * s.instId.toNat := by
  simp only [loadBytes, hp, ht, ge_iff_le, Nat.not_le.2 hi, if_false]
  exact ⟨_, rfl, rfl, rfl, rfl⟩

/-- GL_INSTANCE.ID is the one live field at its address. -/
theorem State.regValue_glInstance (s : State) : s.regValue GL_INSTANCE_ID.addr =
    GL_INSTANCE_ID.put (s.cfg.get GL_INSTANCE_ID.addr ||| s.stat.get GL_INSTANCE_ID.addr) s.instId.toNat := rfl

theorem State.glInstance_instId (s : State) : GL_INSTANCE_ID.of (s.regValue GL_INSTANCE_ID.addr) = s.instId.toNat := by
  rw [State.regValue_glInstance, Field.of_put_self _ _ _ (by decide)]
  exact Nat.mod_eq_of_lt s.instId.isLt

end

/-- Settles O3: the laws of what each command and each cc keep leave the release as the one command that samples. -/
theorem strapIsSampledOnlyAtRelease : Obligations.StrapIsSampledOnlyAtRelease := by
  refine ⟨?release, ?high, ?command, ?cycle, ?select, State.glInstance_instId⟩
  case release => exact fun s i h => execPorstNRelease_samples i h
  case high => exact fun s i h => execPorstNRelease_of_high i h
  case command => exact fun c s t h e hc => exec_instId h hc e
  case cycle => exact fun s h => tick_instId h
  case select =>
    intro s data hclk hphase hmark hlen htest hid
    obtain ⟨t, ht, hentry⟩ := loadBytes_header_selects hphase htest hid
    have hdone : s.busDone := by simp [State.busDone, hphase, hmark]
    exact ⟨t, execCfgTransactionEnd_of_goOn hclk hdone hlen ht, hentry⟩

end Sys2Proof.Machine
end

section
/-!
The address map (R222): for each offset the map from r to the logical channel is a rotation, and the block's own
`State.lineAt` turns it back. That the two undo each other gives both that no two lines meet in one place and that every
place is filled.
-/

namespace Sys2Proof.Machine

section

variable {s : State} {l f n : Nat}

-- a rotation of L places and the one that turns it back

theorem rotate_rotateBack (h : f ≤ 16 * n) (l : Nat) : ((l + 16 * n - f) % n + f) % n = l % n := by
  rw [Nat.mod_add_mod, Nat.sub_add_cancel (h.trans (Nat.le_add_left _ _)), Nat.add_mul_mod_self_right]

theorem rotateBack_rotate (h : f ≤ 16 * n) (r : Nat) : ((r + f) % n + 16 * n - f) % n = r % n := by
  rw [Nat.add_sub_assoc h, Nat.mod_add_mod, Nat.add_assoc, Nat.add_sub_cancel' h, Nat.add_mul_mod_self_right]

-- the rotation of an offset

/-- How far the channels of offset q are rotated: the exclusive or of the seven digits of q, 0 without the hash (R222). -/
def State.turn (s : State) (q : Nat) : Nat :=
  if s.on GL_AMAP_HASH then (List.range 7).foldl (fun acc i => acc ^^^ natBits q (4 * i) 4) 0 else 0

theorem State.turn_eq_digits (s : State) (q : Nat) :
    s.turn q = if s.on GL_AMAP_HASH then
      natBits q (4 * 0) 4 ^^^ natBits q (4 * 1) 4 ^^^ natBits q (4 * 2) 4 ^^^ natBits q (4 * 3) 4 ^^^
        natBits q (4 * 4) 4 ^^^ natBits q (4 * 5) 4 ^^^ natBits q (4 * 6) 4 else 0 := by
  simp [State.turn, List.range_succ]

theorem natBits_lt (n lo w : Nat) : natBits n lo w < 2 ^ w := Nat.mod_lt _ (Nat.two_pow_pos w)

theorem foldl_xor_lt {w : Nat} {g : Nat → Nat} (hg : ∀ i, g i < 2 ^ w) (is : List Nat) {a : Nat} (ha : a < 2 ^ w) :
    is.foldl (fun acc i => acc ^^^ g i) a < 2 ^ w := by
  induction is generalizing a with
  | nil => exact ha
  | cons i is ih => exact ih (Nat.xor_lt_two_pow ha (hg i))

theorem State.turn_lt (s : State) (q : Nat) : s.turn q < 2 ^ 4 := by
  unfold State.turn
  split
  · exact foldl_xor_lt (fun i => natBits_lt q (4 * i) 4) _ (by decide)
  · decide

theorem State.logicals_pos (s : State) : 0 < s.logicals := Nat.succ_pos _

/-- What `State.lineAt` adds before it takes the rotation off is enough for every rotation. -/
theorem State.turn_le (s : State) (q : Nat) : s.turn q ≤ 16 * s.logicals := by
  have hturn := s.turn_lt q
  have hpos := s.logicals_pos
  omega

-- the map and its inverse

theorem State.homeOf_eq (s : State) (l : Nat) :
    s.homeOf l = ((l % s.logicals + s.turn (l / s.logicals)) % s.logicals, l / s.logicals) := rfl

theorem State.lineAt_eq (s : State) (lc q : Nat) :
    s.lineAt lc q = q * s.logicals + (lc + 16 * s.logicals - s.turn q) % s.logicals := rfl

theorem State.lineAt_div (s : State) (lc q : Nat) : s.lineAt lc q / s.logicals = q := by
  rw [State.lineAt_eq, Nat.mul_comm, Nat.mul_add_div s.logicals_pos, Nat.div_eq_of_lt (Nat.mod_lt _ s.logicals_pos),
    Nat.add_zero]

theorem State.lineAt_mod (s : State) (lc q : Nat) :
    s.lineAt lc q % s.logicals = (lc + 16 * s.logicals - s.turn q) % s.logicals := by
  rw [State.lineAt_eq, Nat.mul_add_mod_self_right, Nat.mod_mod]

theorem State.homeOf_lineAt {lc : Nat} (h : lc < s.logicals) (q : Nat) : s.homeOf (s.lineAt lc q) = (lc, q) := by
  rw [State.homeOf_eq, State.lineAt_div, State.lineAt_mod, rotate_rotateBack (s.turn_le q), Nat.mod_eq_of_lt h]

theorem State.lineAt_homeOf (s : State) (l : Nat) : s.lineAt (s.homeOf l).1 (s.homeOf l).2 = l := by
  rw [State.homeOf_eq, State.lineAt_eq, rotateBack_rotate (s.turn_le _), Nat.mod_mod, Nat.mul_comm]
  exact Nat.div_add_mod l s.logicals

theorem State.homeOf_injective (s : State) : Function.Injective s.homeOf := by
  intro l m h
  rw [← s.lineAt_homeOf l, h, s.lineAt_homeOf]

/-- The offset of a line stays below C just when the line stays below the limit of R221. -/
theorem State.lineAt_lt_iff (s : State) (lc q : Nat) : s.lineAt lc q < s.logicals * s.lines ↔ q < s.lines := by
  rw [Nat.mul_comm, ← Nat.div_lt_iff_lt_mul s.logicals_pos, State.lineAt_div]

-- who uses the map

theorem State.homeOf_of_mem_cut {r : Req} {l : ReqLine} (h : l ∈ s.cut r) : s.homeOf l.line = (l.logical, l.q) := by
  obtain ⟨k, -, rfl⟩ := List.mem_map.1 h
  rfl

theorem State.handsTo_of_nextLine {p i : Nat} {r : Req} {l : ReqLine} (hr : (s.port p).handing = some r)
    (hl : r.nextLine = some (i, l)) : s.handsTo p = some (s.tableAt l.logical) := by
  simp [State.handsTo, hr, hl]

/-- A port hands nothing to a channel that is not the home of its next line (R225). -/
theorem execPerchHandover_of_handsTo_ne {p : Fin 32} {ch : Fin 16} (hp : p.val < 30)
    (h : s.handsTo p ≠ some ch.val) : execPerchHandover p ch s = .next s := by
  have h30 : p.val ≠ 30 := by omega
  have h31 : p.val ≠ 31 := by omega
  simp [execPerchHandover, h30, h31, h]

end

/-- Settles O25: `State.lineAt` is the inverse of the map on both sides, and the splitter and the hand-over follow it. -/
theorem addressMapIsOneToOne : Obligations.AddressMapIsOneToOne := by
  intro s
  refine ⟨?distinct, ?filled, ?formula, fun r l => State.homeOf_of_mem_cut, ?handed⟩
  case distinct => exact fun l m h => s.homeOf_injective h
  case filled => exact fun lc q h => ⟨s.lineAt lc q, State.homeOf_lineAt h q, (s.lineAt_lt_iff lc q).symm⟩
  case formula =>
    intro l
    rw [State.homeOf_eq, State.turn_eq_digits]
  case handed =>
    intro p ch r i l hp hr hl hne
    have hto : s.handsTo p ≠ some ch.val := by
      rw [State.handsTo_of_nextLine hr hl]
      exact fun h => hne (Option.some.inj h)
    exact execPerchHandover_of_handsTo_ne hp hto

end Sys2Proof.Machine
end

section
/-!
Steps and commands as a whole: what a step runs, that every step keeps the canonical form, that every command but an
undefined pulse of PORST_N answers a next state, and the outputs in reset and without RSI_CK.
-/

namespace Sys2Proof.Machine

section

variable {s t : State} {c : Instr}

-- steps

theorem step_of_pending {rest : List Instr} (h : s.pending = c :: rest) :
    step s = exec c { s with pending := rest } := by
  simp only [step, h]

theorem step_of_idle (h : s.pending = []) : step s = .next (tick s) := by
  simp only [step, h]

theorem tick_of_unclocked (h : s.clocked = false) : tick s = s := by
  simp [tick, h]

/-- The two commands of PORST_N keep the canonical form and the queue; every other command keeps the pin as well. -/
theorem exec_keepsForm (h : s.canonical) (e : exec c s = .next t) :
    t.canonical ∧ t.pending = s.pending ∧
      (t.porst = s.porst ∨ (∃ ns, c = .porstNAssert ns) ∨ ∃ i, c = .porstNRelease i) := by
  have hs := kept_self h
  by_cases hf : ∃ ns, c = .porstNAssert ns
  · obtain ⟨ns, rfl⟩ := hf
    obtain ⟨hc, hp, -⟩ := execPorstNAssert_kept hs t e
    exact ⟨hc, hp, .inr (.inl ⟨ns, rfl⟩)⟩
  by_cases hr : ∃ i, c = .porstNRelease i
  · obtain ⟨i, rfl⟩ := hr
    obtain ⟨hc, hp, -⟩ := execPorstNRelease_kept hs t e
    exact ⟨hc, hp, .inr (.inr ⟨i, rfl⟩)⟩
  · have ht := exec_keeps hs (fun ns e => hf ⟨ns, e⟩) (fun i e => hr ⟨i, e⟩) t e
    exact ⟨ht.2, ht.pending, .inl ht.porst⟩

end

/-- Settles O1: both cases are the definition of a step. -/
theorem stepRunsTheFrontCommand : Obligations.StepRunsTheFrontCommand := by
  refine ⟨fun s c rest h => step_of_pending h, fun s h => ⟨step_of_idle h, fun hc => ?_⟩⟩
  rw [step_of_idle h, tick_of_unclocked hc]

/-- Settles O2: a cc keeps the form by `tick_kept`, a command by `exec_keepsForm` on the state with the queue's rest. -/
theorem stepsKeepTheCanonicalForm : Obligations.StepsKeepTheCanonicalForm := by
  intro s t hs ht
  cases hp : s.pending with
  | nil =>
    rw [step_of_idle hp] at ht
    cases ht
    have hk := tick_kept (kept_self hs)
    exact ⟨hk.2, hk.pending.trans hp, .inl hk.porst⟩
  | cons c rest =>
    rw [step_of_pending hp] at ht
    obtain ⟨hc, hq, hpin⟩ := exec_keepsForm (s := { s with pending := rest }) hs ht
    refine ⟨hc, hq, hpin.imp_right ?_⟩
    simp

-- which commands answer

/-- The outcome is a next state. -/
def Answers (o : Host.Outcome State Fault Refusal) : Prop := ∃ t, o = .next t

theorem answers_next (t : State) : Answers (.next t) := ⟨t, rfl⟩

theorem answers_ite {a b : Host.Outcome State Fault Refusal} {p : Prop} {_ : Decidable p} (ha : Answers a)
    (hb : Answers b) : Answers (if p then a else b) := by
  split
  · exact ha
  · exact hb

/-- A command whose meaning is one test between two next states answers. -/
theorem answers_test {a b : State} {p : Prop} {_ : Decidable p} :
    Answers (if p then .next a else .next b) := answers_ite (answers_next a) (answers_next b)

theorem exec_answers {s : State} {c : Instr} (h : ∀ ns, c ≠ .porstNAssert ns) : Answers (exec c s) := by
  cases c with
  | porstNAssert ns => exact absurd rfl (h ns)
  -- one test
  | grainWrap | frameLineLimit | holdoverEntry | holdoverLimit | rodBoundary | revolutionEnd | amplitudeReport | lockDelayExpiry
  | pllAttemptTimeout | pllRetryPauseExpiry | lossOfLock | lockDetect | dataBusModeChange | idleClose | mrr | mr4Result | pde
  | pdx | sre | selfRefreshIdleExpiry | deepSleepExit | casWsFs | vreqStrobe | vackRise | calWindowClose
  | oscillatorCount | zqCalibrationStart | zqLatch | verticalBlank | rekeyPassEnd | chtestUpdate | channelTestEnd
  | porstNRelease | corruptWord | frameStart => exact answers_test
  -- tests one within the other
  | request | horizontalBlank | amplitudeDrop => exact answers_ite (answers_next _) answers_test
  | monitorWindowEnd => exact answers_ite answers_test (answers_next _)
  | vackFall | vackTimeout =>
    exact answers_ite (answers_ite (answers_next _) answers_test) (answers_next _)
  | mrw =>
    refine answers_ite (answers_next _) (answers_ite (answers_next _) (answers_ite ?_ (answers_next _)))
    exact answers_ite (answers_next _) answers_test
  | perchHandover =>
    exact answers_ite (answers_next _) (answers_ite (answers_next _) (answers_ite (answers_next _) answers_test))
  -- a choice by what stands there
  | act | rd | wr | pre | refpb | refab | rfmpb =>
    simp only [exec_act, exec_rd, exec_wr, exec_pre, exec_refpb, exec_refab, exec_rfmpb, execAct, execRd, execWr, execPre,
      execRefpb, execRefab, execRfmpb]
    split <;> exact answers_next _
  | recomputeComplete | mcOperationDone | channelSwap | readDataTransfer | writeResponseTransfer =>
    simp only [exec_recomputeComplete, execRecomputeComplete, exec_mcOperationDone, execMcOperationDone, exec_channelSwap,
      execChannelSwap, exec_readDataTransfer, execReadDataTransfer, exec_writeResponseTransfer, execWriteResponseTransfer]
    split <;> exact answers_next _
  | secondRefetchDue | fillInstall | writeRecoveryExpiry | gillAgeExpiry | dsmxExpiry | swapDrainTimeout | bookingEnd
  | gillToWriteQueue | holdStallTrip =>
    simp only [exec_secondRefetchDue, execSecondRefetchDue, exec_fillInstall, execFillInstall, exec_writeRecoveryExpiry,
      execWriteRecoveryExpiry, exec_gillAgeExpiry, execGillAgeExpiry, exec_dsmxExpiry, execDsmxExpiry,
      exec_swapDrainTimeout, execSwapDrainTimeout, exec_bookingEnd, execBookingEnd, exec_gillToWriteQueue,
      execGillToWriteQueue, exec_holdStallTrip, execHoldStallTrip]
    split
    · exact answers_test
    · exact answers_next _
  | readResponseStart =>
    refine answers_ite ?_ (answers_next _)
    split <;> exact answers_next _
  | readDataReturn =>
    rw [exec_readDataReturn, execReadDataReturn]
    split
    · refine answers_ite ?_ (answers_next _)
      split <;> exact answers_next _
    · exact answers_next _
  | gatePass =>
    refine answers_ite ?_ (answers_next _)
    split
    · exact answers_next _
    · split
      · exact answers_test
      all_goals exact answers_next _
  | intakeDecision =>
    rw [exec_intakeDecision]
    refine answers_ite ?_ (answers_next _)
    extract_lets _ alone
    cases alone <;> exact answers_next _
  | lineAdmission =>
    refine answers_ite ?_ (answers_next _)
    extract_lets
    split
    · exact answers_test
    · exact answers_next _
  | evacuationStart =>
    rw [exec_evacuationStart, execEvacuationStart]
    split
    · split
      · exact answers_test
      · exact answers_next _
    · exact answers_next _
  | tapMove m =>
    cases m with
    | read | write | code => exact answers_test
  | descriptorFetched | axiReadResponse =>
    simp only [exec_descriptorFetched, execDescriptorFetched, exec_axiReadResponse, execAxiReadResponse]
    split
    · exact answers_ite answers_test (answers_next _)
    · exact answers_next _
  | axiWriteResponse =>
    rw [exec_axiWriteResponse, execAxiWriteResponse]
    split
    · refine answers_ite (answers_ite (answers_next _) (answers_ite ?_ answers_test)) (answers_next _)
      split <;> exact answers_next _
    · exact answers_next _
  | cfgTransactionEnd =>
    refine answers_ite ?_ (answers_next _)
    split <;> exact answers_next _
  | clockSwitchDone x =>
    refine answers_ite (answers_next _) ?_
    cases x with
    | core => dsimp only; split <;> exact answers_next _
    | quad q => dsimp only; split <;> exact answers_next _
    | pclk | clkmon => exact answers_next _
  | forcedSwitch x =>
    cases x with
    | quad q =>
      rw [exec_forcedSwitch, execForcedSwitch]
      dsimp only
      split <;> exact answers_next _
    | core | pclk | clkmon => exact answers_next _
  -- a next state at once
  | _ => exact answers_next _

/-- Settles O4: every command but a fall of PORST_N answers, and that one by its length. -/
theorem onlyUndefinedPulsesStop : Obligations.OnlyUndefinedPulsesStop := by
  intro c s
  by_cases hf : ∃ ns, c = .porstNAssert ns
  · obtain ⟨ns, rfl⟩ := hf
    rw [exec_porstNAssert, execPorstNAssert]
    split_ifs with h20 h100
    · exact .inl (answers_next _)
    · exact .inr ⟨rfl, ns, rfl, by omega, h100⟩
    · exact .inl (answers_next _)
  · exact .inl (exec_answers fun ns e => hf ⟨ns, e⟩)

-- reset and the loss of RSI_CK

/-- Settles O5: the reset state is a literal. -/
theorem resetStateHasItsOutputs : Obligations.ResetStateHasItsOutputs := by
  unfold Obligations.ResetStateHasItsOutputs
  decide

/-- Settles O6: the two limits of R52 split the lengths into three ranges. -/
theorem resetPulsesActByTheirLength : Obligations.ResetPulsesActByTheirLength := by
  intro s ns
  rw [exec_porstNAssert, execPorstNAssert]
  refine ⟨fun h => if_pos h, fun h20 h100 => ?_, fun h => ?_⟩
  · rw [if_neg (Nat.not_lt.2 h20), if_pos h100]
  · rw [if_neg (by omega), if_neg (by omega)]
    rfl

/-- Settles O8: the loss forces its outputs whatever it has stopped before. -/
theorem lossOfRasterClockForcesOutputs : Obligations.LossOfRasterClockForcesOutputs := by
  refine ⟨fun s hp ha => ?_, fun s hp ha hr => ?_⟩
  · refine ⟨loseClock s, ?_, rfl, rfl, rfl, rfl, rfl, rfl, rfl, Bool.and_false _⟩
    simp [execRsiCkLoss, hp, ha]
  · simp [execAbsenceTimerExpiry, hp, ha, hr]

-- who may change the DRAM

/-- The commands that write bursts or scratch lines, reset the block, or reach one of these by way of a register. -/
def mayWriteDram : Instr → Bool
  | .wr _ | .retrainDone _ _ | .debtPaymentDone _ _ | .checkDone _ _ | .porstNAssert _ | .rsiCkPresent | .cfgTransactionEnd _
  | .blockResetTimeout | .blkReset | .registerWrite _ | .setAliasWrite _ | .clearAliasWrite _ | .toggleAliasWrite _
  | .heldShadowWrite _ | .readClear _ | .multiRegisterCapture _ | .registerRead _ => true
  | _ => false

/-- The frame of the DRAM, from the law of each command. -/
theorem exec_sameDram {p : List (Nat × Beat)} {s : State} {c : Instr} (hc : mayWriteDram c = false) (h : SameDram p s) :
    SameDramO p (exec c s) := by
  cases c with
  | wr | retrainDone | debtPaymentDone | checkDone | porstNAssert | rsiCkPresent | cfgTransactionEnd | blockResetTimeout
  | blkReset | registerWrite | setAliasWrite | clearAliasWrite | toggleAliasWrite | heldShadowWrite | readClear
  | multiRegisterCapture | registerRead => cases hc
  -- reset, clocks and the configuration load
  | rsiCkLoss => exact execRsiCkLoss_sameDram h
  | absenceTimerExpiry => exact execAbsenceTimerExpiry_sameDram h
  | reload => exact execReload_sameDram h
  | amplitudeReport => exact execAmplitudeReport_sameDram h
  | lockDelayExpiry => exact execLockDelayExpiry_sameDram h
  | lockDetect => exact execLockDetect_sameDram h
  | pllAttemptTimeout => exact execPllAttemptTimeout_sameDram h
  | pllRetryPauseExpiry => exact execPllRetryPauseExpiry_sameDram h
  | amplitudeDrop => exact execAmplitudeDrop_sameDram h
  | lossOfLock => exact execLossOfLock_sameDram h
  | monitorWindowEnd => exact execMonitorWindowEnd_sameDram h
  | clockSwitchDone => exact execClockSwitchDone_sameDram h
  | forcedSwitch => exact execForcedSwitch_sameDram h
  | restartA => exact execRestartA_sameDram h
  | restartB => exact execRestartB_sameDram h
  | coreRestart => exact execCoreRestart_sameDram h
  | dresetRelease => exact execDresetRelease_sameDram h
  | trainingComplete => exact execTrainingComplete_sameDram h
  | startupComplete => exact execStartupComplete_sameDram h
  -- raster words and gaps
  | rsiEventNone => exact execRsiEventNone_sameDram h
  | lineStart => exact execLineStart_sameDram h
  | frameStart => exact execFrameStart_sameDram h
  | horizontalBlank => exact execHorizontalBlank_sameDram h
  | verticalBlank => exact execVerticalBlank_sameDram h
  | modeChange => exact execModeChange_sameDram h
  | corruptWord => exact execCorruptWord_sameDram h
  | grainWrap => exact execGrainWrap_sameDram h
  | frameLineLimit => exact execFrameLineLimit_sameDram h
  | holdoverEntry => exact execHoldoverEntry_sameDram h
  | holdoverLimit => exact execHoldoverLimit_sameDram h
  | horizontalGapStart => exact execHorizontalGapStart_sameDram h
  | verticalGapStart => exact execVerticalGapStart_sameDram h
  | bookingEnd => exact execBookingEnd_sameDram h
  -- registers
  | clkmonSelect => exact execClkmonSelect_sameDram h
  | parityWalk => exact execParityWalk_sameDram h
  -- ports, shaping and intake
  | request => exact execRequest_sameDram h
  | writeBeat => exact execWriteBeat_sameDram h
  | split => exact execSplit_sameDram h
  | shaperTest => exact execShaperTest_sameDram h
  | rodBoundary => exact execRodBoundary_sameDram h
  | revolutionEnd => exact execRevolutionEnd_sameDram h
  | calendarCommitRequest => exact execCalendarCommitRequest_sameDram h
  | gateCommitRequest => exact execGateCommitRequest_sameDram h
  | calendarCopyDone => exact execCalendarCopyDone_sameDram h
  | gateCopyDone => exact execGateCopyDone_sameDram h
  | gatePass => exact execGatePass_sameDram h
  | perchHandover => exact execPerchHandover_sameDram h
  -- the equation of `exec` first: unfolding both sides of this arm at once goes too deep
  | lineAdmission => exact execLineAdmission_sameDram h
  | holdStallTrip => exact execHoldStallTrip_sameDram h
  | readResponseStart => exact execReadResponseStart_sameDram h
  | readDataTransfer => exact execReadDataTransfer_sameDram h
  | writeResponseTransfer => exact execWriteResponseTransfer_sameDram h
  | tunPointerMismatch => exact execTunPointerMismatch_sameDram h
  | flush => exact execFlush_sameDram h
  | flushDone => exact execFlushDone_sameDram h
  | stop => exact execStop_sameDram h
  | resume => exact execResume_sameDram h
  | drainComplete => exact execDrainComplete_sameDram h
  -- channel commands
  | act => exact execAct_sameDram h
  | rd => exact execRd_sameDram h
  | pre => exact execPre_sameDram h
  | preab => exact execPreab_sameDram h
  | refpb => exact execRefpb_sameDram h
  | refab => exact execRefab_sameDram h
  | rfmpb => exact execRfmpb_sameDram h
  | mrw => exact execMrw_sameDram h
  | mrr => exact execMrr_sameDram h
  | sre => exact execSre_sameDram h
  | srx => exact execSrx_sameDram h
  | pde => exact execPde_sameDram h
  | pdx => exact execPdx_sameDram h
  | deepSleepEntry => exact execDeepSleepEntry_sameDram h
  | deepSleepExit => exact execDeepSleepExit_sameDram h
  | casWsFs => exact execCasWsFs_sameDram h
  | zqCalibrationStart => exact execZqCalibrationStart_sameDram h
  | zqLatch => exact execZqLatch_sameDram h
  | rcdExpiry => exact execRcdExpiry_sameDram h
  | prechargeDone => exact execPrechargeDone_sameDram h
  | refreshDone => exact execRefreshDone_sameDram h
  | dataBusModeChange => exact execDataBusModeChange_sameDram h
  | writeRecoveryExpiry => exact execWriteRecoveryExpiry_sameDram h
  | idleClose => exact execIdleClose_sameDram h
  | readDataReturn => exact execReadDataReturn_sameDram h
  | secondRefetchDue => exact execSecondRefetchDue_sameDram h
  | gillAgeExpiry => exact execGillAgeExpiry_sameDram h
  | gillToWriteQueue => exact execGillToWriteQueue_sameDram h
  -- refresh, power and operating points
  | debtRise => exact execDebtRise_sameDram h
  | mr4PollDue => exact execMr4PollDue_sameDram h
  | mr4Result => exact execMr4Result_sameDram h
  | selfRefreshIdleExpiry => exact execSelfRefreshIdleExpiry_sameDram h
  | dsmEnter => exact execDsmEnter_sameDram h
  | dsmExit => exact execDsmExit_sameDram h
  | dsmxExpiry => exact execDsmxExpiry_sameDram h
  | opPin => exact execOpPin_sameDram h
  | vreqStrobe => exact execVreqStrobe_sameDram h
  | vackRise => exact execVackRise_sameDram h
  | vackFall => exact execVackFall_sameDram h
  | vackTimeout => exact execVackTimeout_sameDram h
  -- metadata cache and scrub
  | metadataLookup => exact execMetadataLookup_sameDram h
  | fillInstall => exact execFillInstall_sameDram h
  | recomputeComplete => exact execRecomputeComplete_sameDram h
  | clean => exact execClean_sameDram h
  | invalidate => exact execInvalidate_sameDram h
  | preload => exact execPreload_sameDram h
  | preloadLock => exact execPreloadLock_sameDram h
  | unlock => exact execUnlock_sameDram h
  | reservedOperation => exact execReservedOperation_sameDram h
  | mcOperationDone => exact execMcOperationDone_sameDram h
  | cacheBypassEntry => exact execCacheBypassEntry_sameDram h
  | bypassEntryDone => exact execBypassEntryDone_sameDram h
  | cacheBypassExit => exact execCacheBypassExit_sameDram h
  | scrubStart => exact execScrubStart_sameDram h
  | scrubAbort => exact execScrubAbort_sameDram h
  | scrubPassEnd => exact execScrubPassEnd_sameDram h
  | idlePermission => exact execIdlePermission_sameDram h
  -- calibration
  | calWindowClose => exact execCalWindowClose_sameDram h
  | periodicSweep => exact execPeriodicSweep_sameDram h
  | sweep => exact execSweep_sameDram h
  | retrain => exact execRetrain_sameDram h
  | calPause => exact execCalPause_sameDram h
  | calUnpause => exact execCalUnpause_sameDram h
  | staleExpiry => exact execStaleExpiry_sameDram h
  | oscillatorInterval => exact execOscillatorInterval_sameDram h
  | oscillatorCount => exact execOscillatorCount_sameDram h
  | writeReadCompareInterval => exact execWriteReadCompareInterval_sameDram h
  | writeReadCompareDone => exact execWriteReadCompareDone_sameDram h
  | zqInterval => exact execZqInterval_sameDram h
  | zqcalExpiry => exact execZqcalExpiry_sameDram h
  | tapMove => exact execTapMove_sameDram h
  -- faults, wear and channel retirement
  | ack => exact execAck_sameDram h
  | logClear => exact execLogClear_sameDram h
  | scrupleClear => exact execScrupleClear_sameDram h
  | evac => exact execEvac_sameDram h
  | evacuationStart => exact execEvacuationStart_sameDram h
  | channelSwap => exact execChannelSwap_sameDram h
  | swapDrainTimeout => exact execSwapDrainTimeout_sameDram h
  -- keys and test access
  | load => exact execLoad_sameDram h
  | retire => exact execRetire_sameDram h
  | keyErase => exact execKeyErase_sameDram h
  | rekeyStart => exact execRekeyStart_sameDram h
  | rekeyAbort => exact execRekeyAbort_sameDram h
  | rekeyPassEnd => exact execRekeyPassEnd_sameDram h
  | trstNAssert => exact execTrstNAssert_sameDram h
  | idcode => exact execIdcode_sameDram h
  | samplePreload => exact execSamplePreload_sameDram h
  | extest => exact execExtest_sameDram h
  | clamp => exact execClamp_sameDram h
  | highz => exact execHighz_sameDram h
  | chtest => exact execChtest_sameDram h
  | chtestUpdate => exact execChtestUpdate_sameDram h
  | ijtagPub => exact execIjtagPub_sameDram h
  | ijtagSec => exact execIjtagSec_sameDram h
  | scanmode => exact execScanmode_sameDram h
  | bypass => exact execBypass_sameDram h
  | channelTestGo => exact execChannelTestGo_sameDram h
  | channelTestAbort => exact execChannelTestAbort_sameDram h
  | channelTestEnd => exact execChannelTestEnd_sameDram h
  -- spill engine
  | spillStart => exact execSpillStart_sameDram h
  | kick => exact execKick_sameDram h
  | spillPause => exact execSpillPause_sameDram h
  | spillResume => exact execSpillResume_sameDram h
  | spillAbort => exact execSpillAbort_sameDram h
  | pollExpiry => exact execPollExpiry_sameDram h
  | descriptorFetched => exact execDescriptorFetched_sameDram h
  | chunkIssue => exact execChunkIssue_sameDram h
  | axiReadResponse => exact execAxiReadResponse_sameDram h
  | axiWriteResponse => exact execAxiWriteResponse_sameDram h
  | spillDrainComplete => exact execSpillDrainComplete_sameDram h
  -- performance counters, and the plain register read
  | counterLowWrite => exact execCounterLowWrite_sameDram h
  | counterHighWrite => exact execCounterHighWrite_sameDram h
  | clr => exact execClr_sameDram h
  | clrall => exact execClrall_sameDram h
  | snap => exact execSnap_sameDram h
  | freeze => exact execFreeze_sameDram h
  | counterWrap => exact execCounterWrap_sameDram h
  | pmovf => exact execPmovf_sameDram h
  | intakeDecision =>
    rw [exec_intakeDecision]
    exact execIntakeDecision_sameDram h
  | porstNRelease => exact execPorstNRelease_sameDram h

/-- Settles O60: the laws of the DRAM's frame, over all commands that `mayWriteDram` leaves out. -/
theorem otherCommandsLeaveTheDram : Obligations.OtherCommandsLeaveTheDram := by
  intro s t c hc e
  have hw : mayWriteDram c = false := by
    unfold mayWriteDram
    split
    case h_18 => rfl
    all_goals exact absurd trivial hc
  exact exec_sameDram hw (rfl : SameDram s.dram s) t e

end Sys2Proof.Machine
end

section
/-!
Rules that many proofs share: states that agree in every field are equal, units by number after the small updates, and
status fields after `State.bump`, `State.setBits` and `event`.
-/

namespace Sys2Proof.Machine

/-- Two states with the same fields are the same; a frame is proved field by field. -/
theorem State.ext_fields {s t : State}
    (h0 : s.porst = t.porst) (h1 : s.instId = t.instId) (h2 : s.now = t.now) (h3 : s.rsck = t.rsck) (h4 : s.rfrac
    = t.rfrac) (h5 : s.rsiAlive = t.rsiAlive) (h6 : s.cfg = t.cfg) (h7 : s.stat = t.stat) (h8 : s.caps = t.caps)
    (h9 : s.news = t.news) (h10 : s.parErr = t.parErr) (h11 : s.walks = t.walks) (h12 : s.frozen = t.frozen) (h13
    : s.apbM = t.apbM) (h14 : s.apbK = t.apbK) (h15 : s.pins = t.pins) (h16 : s.clk = t.clk) (h17 : s.load =
    t.load) (h18 : s.tb = t.tb) (h19 : s.brk = t.brk) (h20 : s.ports = t.ports) (h21 : s.wheel = t.wheel) (h22 :
    s.chans = t.chans) (h23 : s.cals = t.cals) (h24 : s.quads = t.quads) (h25 : s.op = t.op) (h26 : s.flt = t.flt)
    (h27 : s.mnt = t.mnt) (h28 : s.keys = t.keys) (h29 : s.tap = t.tap) (h30 : s.spill = t.spill) (h31 :
    s.spillLast = t.spillLast) (h32 : s.spillAt = t.spillAt) (h33 : s.perf = t.perf) (h34 : s.dram = t.dram) (h35
    : s.free = t.free) (h36 : s.pending = t.pending) : s = t := by
  cases s
  cases t
  simp only at *
  subst h0 h1 h2 h3 h4 h5 h6 h7 h8 h9 h10 h11 h12 h13 h14 h15 h16 h17 h18 h19 h20 h21 h22 h23 h24 h25 h26 h27 h28 h29 h30 h31 h32 h33 h34 h35 h36
  rfl


section

variable {s : State}

-- canonical states

theorem canonical_cfg (h : s.canonical) : s.cfg.wf := (kept_self h).cfg

theorem canonical_stat (h : s.canonical) : s.stat.wf := (kept_self h).stat

theorem State.setSt_stat_wf (f : Field) (v : Nat) (h : s.stat.wf) : (s.setSt f v).stat.wf := by
  unfold State.setSt
  split
  · exact h
  · exact set_wf _ _ h

theorem State.setCfgWord_cfg_wf (a : Nat) (w : Word) (h : s.cfg.wf) : (s.setCfgWord a w).cfg.wf := by
  unfold State.setCfgWord
  split
  · exact h
  · exact set_wf _ _ h

theorem State.setCf_cfg_wf (f : Field) (v : Nat) (h : s.cfg.wf) : (s.setCf f v).cfg.wf := State.setCfgWord_cfg_wf _ _ h

theorem State.bump_stat (s : State) (f : Field) (n : Nat) :
    (s.bump f n).stat = (s.setSt f (satAdd f.max (s.st f) n)).stat := rfl

theorem State.setBits_stat (s : State) (f : Field) (w : Nat) : (s.setBits f w).stat = (s.setSt f (s.st f ||| w)).stat := rfl

theorem State.bump_stat_wf (f : Field) (n : Nat) (h : s.stat.wf) : (s.bump f n).stat.wf := State.setSt_stat_wf _ _ h

theorem State.setBits_stat_wf (f : Field) (w : Nat) (h : s.stat.wf) : (s.setBits f w).stat.wf := State.setSt_stat_wf _ _ h

-- status fields

theorem State.st_congr {t : State} (h : s.stat = t.stat) (f : Field) : s.st f = t.st f := by simp only [State.st, h]

theorem State.cf_congr {t : State} (h : s.cfg = t.cfg) (f : Field) : s.cf f = t.cf f := by simp only [State.cf, h]

theorem natBits_le (n lo w : Nat) : natBits n lo w ≤ 2 ^ w - 1 :=
  Nat.le_sub_one_of_lt (Nat.mod_lt _ (Nat.two_pow_pos w))

theorem State.st_le (s : State) (f : Field) : s.st f ≤ f.max := natBits_le _ _ _

theorem State.st_lt (s : State) (f : Field) : s.st f < 2 ^ f.width := Nat.mod_lt _ (Nat.two_pow_pos _)

theorem State.cf_lt (s : State) (f : Field) : s.cf f < 2 ^ f.width := Nat.mod_lt _ (Nat.two_pow_pos _)

/-- A counter stops at its maximum. -/
theorem State.st_bump_self (f : Field) (n : Nat) (hs : s.stat.wf) (hf : f.lo + f.width ≤ 32) (hz : f.addr ∉ s.frozen) :
    (s.bump f n).st f = min f.max (s.st f + n) := by
  rw [State.st_congr (State.bump_stat s f n), State.st_setSt_self f _ hs hf hz]
  unfold satAdd Field.max
  have := Nat.two_pow_pos f.width
  exact Nat.mod_eq_of_lt (by omega)

theorem State.st_bump_other (f g : Field) (n : Nat) (hs : s.stat.wf)
    (h : g.addr ≠ f.addr ∨ g.lo + g.width ≤ f.lo ∨ f.lo + f.width ≤ g.lo) : (s.bump f n).st g = s.st g := by
  rw [State.st_congr (State.bump_stat s f n), State.st_setSt_other f g _ hs h]

theorem State.st_setBits_self (f : Field) (w : Nat) (hs : s.stat.wf) (hf : f.lo + f.width ≤ 32) (hz : f.addr ∉ s.frozen) :
    (s.setBits f w).st f = (s.st f ||| w) % 2 ^ f.width := by
  rw [State.st_congr (State.setBits_stat s f w), State.st_setSt_self f _ hs hf hz]

theorem State.st_setBits_other (f g : Field) (w : Nat) (hs : s.stat.wf)
    (h : g.addr ≠ f.addr ∨ g.lo + g.width ≤ f.lo ∨ f.lo + f.width ≤ g.lo) : (s.setBits f w).st g = s.st g := by
  rw [State.st_congr (State.setBits_stat s f w), State.st_setSt_other f g _ hs h]

/-- An event sets its bit and keeps the others. -/
theorem State.st_event (e : Evt) (hs : s.stat.wf) (hz : FT_STSEVT_EVT.addr ∉ s.frozen) :
    (event e s).st FT_STSEVT_EVT = s.st FT_STSEVT_EVT ||| 2 ^ e.bit := by
  refine (State.st_setBits_self FT_STSEVT_EVT _ hs (by decide) hz).trans (Nat.mod_eq_of_lt ?_)
  exact Nat.or_lt_two_pow (s.st_lt _) (Nat.pow_lt_pow_right (by decide) (by cases e <;> decide))

theorem natBit_eq_testBit (n i : Nat) : natBit n i = n.testBit i := by
  rw [natBit, Nat.testBit_eq_decide_div_mod_eq]
  rfl

theorem natBit_or_two_pow (n i : Nat) : natBit (n ||| 2 ^ i) i = true := by
  rw [natBit_eq_testBit, Nat.testBit_or, Nat.testBit_two_pow_self, Bool.or_true]

theorem State.event_bit (e : Evt) (hs : s.stat.wf) (hz : FT_STSEVT_EVT.addr ∉ s.frozen) :
    natBit ((event e s).st FT_STSEVT_EVT) e.bit = true := by
  rw [State.st_event e hs hz, natBit_or_two_pow]

-- units by number

theorem State.rank_onRank_self (s : State) {c r : Nat} (f : Rank → Rank) (hc : c < 16) (hr : r < 2) :
    (s.onRank c r f).rank c r = f (s.rank c r) := by
  unfold State.rank State.onRank Chan.rank
  rw [State.chan_onChan_self _ _ hc]
  exact upd_getD_self _ _ _ hr

theorem State.rank_onRank_other (s : State) {c r d q : Nat} (f : Rank → Rank) (h : d ≠ c ∨ q ≠ r) :
    (s.onRank c r f).rank d q = s.rank d q := by
  unfold State.rank State.onRank Chan.rank
  by_cases hd : d = c
  · subst hd
    by_cases hc : d < 16
    · rw [State.chan_onChan_self _ _ hc]
      exact upd_getD_other _ _ _ (h.resolve_left fun h => h rfl)
    · simp [State.chan, State.onChan, upd, hc]
  · rw [State.chan_onChan_other _ _ hd]

theorem Rank.bank_onBank_self (k : Rank) {b : Nat} (f : Bank → Bank) (h : b < 16) : (k.onBank b f).bank b = f (k.bank b) :=
  upd_getD_self _ _ _ h

theorem Rank.bank_onBank_other (k : Rank) {b a : Nat} (f : Bank → Bank) (h : a ≠ b) : (k.onBank b f).bank a = k.bank a :=
  upd_getD_other _ _ _ h

theorem State.quadClk_onQuadClk_self (s : State) {q : Nat} (f : QuadClk → QuadClk) (h : q < 4) :
    (s.onQuadClk q f).quadClk q = f (s.quadClk q) := upd_getD_self _ _ _ h

theorem State.quadClk_onQuadClk_other (s : State) {q r : Nat} (f : QuadClk → QuadClk) (h : r ≠ q) :
    (s.onQuadClk q f).quadClk r = s.quadClk r := upd_getD_other _ _ _ h

-- frames

theorem foldl_same {α β : Type} {f : State → α → State} (g : State → β) (h : ∀ s x, g (f s x) = g s) (l : List α)
    (s : State) : g (l.foldl f s) = g s := by
  induction l generalizing s with
  | nil => rfl
  | cons x l ih => exact (ih (f s x)).trans (h s x)

theorem foldl_inv {α : Type} (P : State → Prop) {f : State → α → State} (l : List α)
    (h : ∀ t, ∀ x ∈ l, P t → P (f t x)) {s : State} (hs : P s) : P (l.foldl f s) :=
  List.foldlRecOn l f hs fun t ht x hx => h t x hx ht

/-- A fold establishes what one of its elements establishes and every other keeps. -/
theorem foldl_reach {α : Type} (P : State → Prop) {f : State → α → State} (h : ∀ t x, P t → P (f t x)) {a : α}
    (ha : ∀ t, P (f t a)) {l : List α} (s : State) (hm : a ∈ l) : P (l.foldl f s) := by
  obtain ⟨l₁, l₂, rfl⟩ := List.append_of_mem hm
  rw [List.foldl_append, List.foldl_cons]
  exact foldl_inv P l₂ (fun t x _ ht => h t x ht) (ha _)

/-- What an update of channels keeps, it keeps at every channel. -/
theorem State.chan_onChan_inv (P : Chan → Prop) (s : State) (d : Nat) {f : Chan → Chan} (h : ∀ x, P x → P (f x)) {c : Nat}
    (hc : P (s.chan c)) : P ((s.onChan d f).chan c) := by
  by_cases hd : c = d
  · subst hd
    by_cases hl : c < 16
    · rw [State.chan_onChan_self _ _ hl]
      exact h _ hc
    · simpa [State.chan, State.onChan, upd, hl] using hc
  · rw [State.chan_onChan_other _ _ hd]
    exact hc

theorem State.chan_onChan_keep {β : Type} (g : Chan → β) (s : State) (d : Nat) {f : Chan → Chan} (h : ∀ x, g (f x) = g x)
    (c : Nat) : g ((s.onChan d f).chan c) = g (s.chan c) :=
  State.chan_onChan_inv (fun x => g x = g (s.chan c)) s d (fun x hx => (h x).trans hx) rfl

/-- Two states differ in the channels alone. -/
def SameButChans (s t : State) : Prop := t = { s with chans := t.chans }

theorem SameButChans.refl (s : State) : SameButChans s s := rfl

theorem SameButChans.trans {t u : State} (h : SameButChans s t) (h' : SameButChans t u) : SameButChans s u := by
  unfold SameButChans at *
  rw [h', h]

theorem onRanks_frame (s : State) (c : Nat) (f : Rank → Rank) : SameButChans s (s.onRanks c f) := rfl

theorem onChan_frame (s : State) (c : Nat) (f : Chan → Chan) : SameButChans s (s.onChan c f) := rfl

theorem SameButChans.foldl {α : Type} {f : State → α → State} (h : ∀ s x, SameButChans s (f s x)) (l : List α) (s : State) :
    SameButChans s (l.foldl f s) :=
  foldl_inv (SameButChans s) l (fun t x _ ht => ht.trans (h t x)) (.refl s)

/-- Two states differ in the configuration registers and their parity alone. -/
def SameButCfg (s t : State) : Prop := t = { s with cfg := t.cfg, parErr := t.parErr }

/-- Two states differ in the status registers and the news of the cc alone. -/
def SameButStat (s t : State) : Prop := t = { s with stat := t.stat, news := t.news }

theorem SameButCfg.refl (s : State) : SameButCfg s s := rfl

theorem SameButCfg.trans {t u : State} (h : SameButCfg s t) (h' : SameButCfg t u) : SameButCfg s u := by
  unfold SameButCfg at *
  rw [h', h]

theorem SameButStat.refl (s : State) : SameButStat s s := rfl

theorem SameButStat.trans {t u : State} (h : SameButStat s t) (h' : SameButStat t u) : SameButStat s u := by
  unfold SameButStat at *
  rw [h', h]

/-- Two states differ in the work of the channels alone: the channels, their calibration, their quads, the bookings and the
status registers. -/
def ChannelWork (s t : State) : Prop :=
  t = { s with stat := t.stat, news := t.news, brk := t.brk, chans := t.chans, cals := t.cals, quads := t.quads }

theorem ChannelWork.refl (s : State) : ChannelWork s s := rfl

theorem ChannelWork.trans {t u : State} (h : ChannelWork s t) (h' : ChannelWork t u) : ChannelWork s u := by
  unfold ChannelWork at *
  rw [h', h]

theorem SameButChans.work {t : State} (h : SameButChans s t) : ChannelWork s t := by
  unfold SameButChans at h
  rw [h]
  rfl

theorem SameButStat.work {t : State} (h : SameButStat s t) : ChannelWork s t := by
  unfold SameButStat at h
  rw [h]
  rfl

theorem ChannelWork.ite {p : Prop} [Decidable p] {t u : State} (h : ChannelWork s t) (h' : ChannelWork s u) :
    ChannelWork s (if p then t else u) := by
  split
  · exact h
  · exact h'

theorem ChannelWork.foldl {α : Type} {f : State → α → State} (h : ∀ s x, ChannelWork s (f s x)) (l : List α) (s : State) :
    ChannelWork s (l.foldl f s) :=
  foldl_inv (ChannelWork s) l (fun t x _ ht => ht.trans (h t x)) (.refl s)

theorem onChan_work (s : State) (c : Nat) (f : Chan → Chan) : ChannelWork s (s.onChan c f) := rfl

theorem onRanks_work (s : State) (c : Nat) (f : Rank → Rank) : ChannelWork s (s.onRanks c f) := rfl

theorem onRank_work (s : State) (c r : Nat) (f : Rank → Rank) : ChannelWork s (s.onRank c r f) := rfl

theorem onCal_work (s : State) (c : Nat) (f : ChanCal → ChanCal) : ChannelWork s (s.onCal c f) := rfl

theorem onQuad_work (s : State) (q : Nat) (f : Quad → Quad) : ChannelWork s (s.onQuad q f) := rfl

theorem unpost_work (s : State) (f : Booking → Bool) : ChannelWork s (s.unpost f) := rfl

theorem setSt_work (s : State) (f : Field) (v : Nat) : ChannelWork s (s.setSt f v) := by
  unfold State.setSt
  split <;> rfl

theorem setCfgWord_frame (s : State) (a : Nat) (w : Word) : SameButCfg s (s.setCfgWord a w) := by
  unfold State.setCfgWord
  split <;> rfl

theorem setCf_frame (s : State) (f : Field) (v : Nat) : SameButCfg s (s.setCf f v) := setCfgWord_frame _ _ _

theorem setSt_frame (s : State) (f : Field) (v : Nat) : SameButStat s (s.setSt f v) := by
  unfold State.setSt
  split <;> rfl

theorem tell_frame (s : State) (f : Field) (n : News) : SameButStat s (s.tell f n) := rfl

theorem bump_frame (s : State) (f : Field) (n : Nat) : SameButStat s (s.bump f n) :=
  (setSt_frame _ _ _).trans (tell_frame _ _ _)

theorem setBits_frame (s : State) (f : Field) (w : Nat) : SameButStat s (s.setBits f w) :=
  (setSt_frame _ _ _).trans (tell_frame _ _ _)

theorem stamp_frame (s : State) (l f : Field) : SameButStat s (s.stamp l f) :=
  (setSt_frame _ _ _).trans (setSt_frame _ _ _)

theorem event_frame (e : Evt) (s : State) : SameButStat s (event e s) := setBits_frame _ _ _

theorem SameButCfg.foldl {α : Type} {f : State → α → State} (h : ∀ s x, SameButCfg s (f s x)) (l : List α) (s : State) :
    SameButCfg s (l.foldl f s) := by
  induction l generalizing s with
  | nil => exact .refl s
  | cons x l ih => exact (h s x).trans (ih (f s x))

theorem SameButStat.foldl {α : Type} {f : State → α → State} (h : ∀ s x, SameButStat s (f s x)) (l : List α) (s : State) :
    SameButStat s (l.foldl f s) := by
  induction l generalizing s with
  | nil => exact .refl s
  | cons x l ih => exact (h s x).trans (ih (f s x))

end

end Sys2Proof.Machine
end

section
/-!
Start-up and the configuration load: a release and the gain of RSI_CK (R93, R95), and the attempts of the load (R142, R143).
-/

namespace Sys2Proof.Machine

section

variable {s : State}

-- the load

/-- An attempt puts the header on the bus. -/
theorem loadAttempt_load (n start : Nat) (s : State) : (loadAttempt n start s).load =
    { s.load with state := 1, attempt := n, parse := .reset, phase := .header, step := 1, off := 0, len := 64
                  mark := start + busTime 64 } := rfl

theorem startLoad_of_reset {t : State} (h : t.load = Load.reset) :
    (startLoad t).load.state = 1 ∧ (startLoad t).load.attempt = 1 ∧ (startLoad t).load.phase = .header ∧
      (startLoad t).load.mark = t.rsck + 2 + busTime 64 := by
  have hm : t.load.mark = 0 := by rw [h]; rfl
  refine ⟨rfl, rfl, rfl, ?_⟩
  simp [startLoad, loadStart, loadAttempt, busRead, hm]

theorem loadFail_again {code : Nat} (h : s.load.attempt < 3) : loadFail code s =
    loadAttempt (s.load.attempt + 1) s.busNext { s with load := { s.load with err := code, phase := .idle } } := by
  simp only [loadFail, h, if_true]
  rfl

theorem loadFail_last {code : Nat} (h : 3 ≤ s.load.attempt) : loadFail code s = raise .cfgfail 0 code
    { s with load := { s.load with err := code, phase := .idle, state := 3 } } := by
  simp only [loadFail, Nat.not_lt.2 h, if_false]

theorem irqFatal_of_loadFailed (hp : s.porst) (h : s.load.state = 3) : irqFatal s = true := by
  simp [irqFatal, hp, h]

theorem State.clocked_iff : s.clocked = true ↔ s.porst = true ∧ s.rsiAlive = true := by
  simp [State.clocked]

/-- A header that fails a test ends the attempt. -/
theorem execCfgTransactionEnd_badHeader {data : List Byte} {code : Nat} (hc : s.clocked) (hp : s.load.phase = .header)
    (hm : s.load.mark ≤ s.rsck) (hl : data.length = s.load.len) (ht : headerTest data = some code) :
    execCfgTransactionEnd data s = .next (loadFail code s) := by
  have hd : s.busDone := by simp [State.busDone, hp, hm]
  refine execCfgTransactionEnd_of_goOn hc hd hl ?_
  simp [loadBytes, hp, ht]

-- the gain of RSI_CK

/-- What a clock that comes before the first start-up finds: the reset state with the key slots. -/
def State.afreshKept (s : State) : State :=
  { s.afterReset with
    rsiAlive := true, keys := s.keys.kept
    apbM := { s.apbM with ready := s.apbM.held.isNone }, apbK := { s.apbK with ready := s.apbK.held.isNone } }

/-- Before the first start-up is over the load begins, unless the block is stopped for secure test access. -/
theorem gainClock_before (hp : s.porst) (hu : s.clk.everUp = false) : gainClock s =
    if s.flt.testStop && s.clk.blkStep == 0 then stayStopped s.afreshKept else startLoad s.afreshKept := by
  unfold gainClock
  rw [if_neg (by simp [hp])]
  exact if_pos (.inl (by simp [hu]))

theorem execRsiCkPresent_absent (ha : s.rsiAlive = false) : execRsiCkPresent s = .next (gainClock s) := by
  simp [execRsiCkPresent, ha]

-- zeroize

theorem clearStaging_frame (s : State) : SameButCfg s (clearStaging s) :=
  SameButCfg.foldl (fun _ _ => setCf_frame _ _ _) _ s

/-- The zeroize clears the key material and the staging, and nothing else. -/
theorem zeroize_eq (s : State) : zeroize s = { s with
    cfg := (clearStaging s).cfg, parErr := (clearStaging s).parErr
    keys := { s.keys with
      slots := Vector.replicate 2 .empty, wvalid := false, wslot := 0, void := true, rkState := 0 } } := by
  have h : clearStaging s = { s with cfg := (clearStaging s).cfg, parErr := (clearStaging s).parErr } := clearStaging_frame s
  unfold zeroize
  rw [h]
  rfl

/-- A block that stays stopped has no keys, shows HALTED and loads nothing. -/
theorem stayStopped_shows (s : State) : (stayStopped s).rsiAlive = s.rsiAlive ∧ (stayStopped s).load = s.load ∧
    (stayStopped s).clk.startStep = 3 ∧ (stayStopped s).haltedBit = true ∧
    (stayStopped s).keys.slots = Vector.replicate 2 .empty ∧ (stayStopped s).keys.void = true ∧
    (stayStopped s).dram = s.dram := by
  simp [stayStopped, zeroize_eq, State.haltedBit]

-- a release of PORST_N

/-- The block at a release, before the load begins. -/
def State.released (s : State) (i : BitVec 14) : State :=
  { s with
    porst := true, instId := i, apbM := ⟨s.rsiAlive, false, 0, s.apbM.held⟩, apbK := ⟨s.rsiAlive, false, 0, s.apbK.held⟩
    clk := { s.clk with startStep := 3 } }

theorem execPorstNRelease_of_low (i : BitVec 14) (hp : s.porst = false) : execPorstNRelease i s =
    .next (if s.rsiAlive then startLoad (s.released i) else s.released i) := by
  unfold execPorstNRelease
  rw [if_neg (by simp [hp])]
  rfl

/-- What a port answers at the clock's gain in PORST_N. -/
def Apb.answered (a : Apb) : Apb := if a.held.isSome then ⟨true, true, 0, none⟩ else a

theorem Apb.answered_held (a : Apb) : (a.held ≠ none → a.answered = ⟨true, true, 0, none⟩) ∧ (a.held = none → a.answered = a) := by
  cases h : a.held <;> simp [Apb.answered, h]

theorem gainClock_inReset (hp : s.porst = false) : gainClock s =
    { s with rsiAlive := true, apbM := s.apbM.answered, apbK := s.apbK.answered } := by
  unfold gainClock
  rw [if_pos (by simp [hp])]
  rfl

end

/-- Settles O7: a release and the gain of the clock lead to `startLoad`, from the released state and from `State.afreshKept`. -/
theorem startUpReachesTheLoad : Obligations.StartUpReachesTheLoad := by
  refine ⟨fun s i hp => ?release, fun s hp ha hu => ⟨fun ht => ?first, fun ht hb => ?stopped⟩, fun s hp ha => ?inReset⟩
  case release =>
    refine ⟨_, execPorstNRelease_of_low i hp, ?_⟩
    cases ha : s.rsiAlive
    · exact ⟨rfl, rfl, ha, fun _ => ⟨rfl, rfl⟩, nofun⟩
    · exact ⟨rfl, rfl, ha, nofun, fun _ => ⟨rfl, rfl, rfl, rfl, rfl⟩⟩
  case first =>
    refine ⟨startLoad s.afreshKept, ?_, rfl, rfl, ?_⟩
    · rw [exec_rsiCkPresent, execRsiCkPresent_absent ha, gainClock_before hp hu, ht]
      rfl
    · obtain ⟨h1, h2, h3, h4⟩ := startLoad_of_reset (t := s.afreshKept) rfl
      exact ⟨h1, h2, h3, h4, rfl, rfl, rfl⟩
  case stopped =>
    refine ⟨stayStopped s.afreshKept, ?_, ?_⟩
    · rw [exec_rsiCkPresent, execRsiCkPresent_absent ha, gainClock_before hp hu, ht, hb]
      rfl
    · obtain ⟨ha, hl, hs⟩ := stayStopped_shows s.afreshKept
      exact ⟨ha, congrArg Load.state hl, hs⟩
  case inReset =>
    refine ⟨gainClock s, by rw [exec_rsiCkPresent, execRsiCkPresent_absent ha], ?_⟩
    rw [gainClock_inReset hp]
    obtain ⟨hm, hm'⟩ := s.apbM.answered_held
    exact ⟨rfl, hm, hm', s.apbK.answered_held⟩

/-- Settles O9: a bad header fails the attempt, and RELOAD is `startLoad` in state FAILED. -/
theorem loadFailsAfterThreeAttempts : Obligations.LoadFailsAfterThreeAttempts := by
  refine ⟨fun s data code hc hp hm hl ht => ?_, fun s hc h3 => ?_, fun s h3 => ?_⟩
  · refine ⟨loadFail code s, execCfgTransactionEnd_badHeader hc hp hm hl ht, ?_⟩
    rcases Nat.lt_or_ge s.load.attempt 3 with h | h
    · rw [loadFail_again h]
      exact ⟨rfl, fun _ => ⟨rfl, rfl, rfl, rfl⟩, fun h' => absurd h (Nat.not_lt.2 h')⟩
    · rw [loadFail_last h]
      exact ⟨rfl, fun h' => absurd h' (Nat.not_lt.2 h), fun _ => ⟨rfl, rfl, irqFatal_of_loadFailed (State.clocked_iff.1 hc).1 rfl⟩⟩
  · exact ⟨startLoad s, congrArg _ (if_pos ⟨hc, h3⟩), rfl, rfl, rfl, rfl⟩
  · exact congrArg _ (if_neg fun h => h3 h.2)

end Sys2Proof.Machine
end

section
/-!
The PLLs: the start criterion (R91, R92) and the clocks that good PLLs take in start-up (R93 steps 6 and 7).
-/

namespace Sys2Proof.Machine

section

variable {s : State}

-- PLLs by name

theorem phyIx_lt {q : Nat} (h : q < 4) (b : Bool) : phyIx q b < 8 := by
  cases b <;> simp [phyIx, b2n] <;> omega

theorem phyIx_inj {q r : Nat} {b c : Bool} : phyIx q b = phyIx r c ↔ q = r ∧ b = c := by
  cases b <;> cases c <;> simp [phyIx, b2n] <;> omega

theorem phyId_val (q : Fin 4) (b : Bool) : phyId q b = .phy q b := by
  simp [phyId, Fin.ofNat, Nat.mod_eq_of_lt q.isLt]

theorem State.phy_onPll_self (s : State) (q : Fin 4) (b : Bool) (f : Pll → Pll) :
    (s.onPll (.phy q b) f).phy q b = f (s.phy q b) := upd_getD_self _ _ _ (phyIx_lt q.isLt b)

theorem State.phy_onPll_other (s : State) (q : Fin 4) (b : Bool) (f : Pll → Pll) {r : Nat} {c : Bool} (h : r ≠ q ∨ c ≠ b) :
    (s.onPll (.phy q b) f).phy r c = s.phy r c := by
  refine upd_getD_other _ _ _ fun e => ?_
  obtain ⟨hq, hb⟩ := phyIx_inj.1 e
  exact h.elim (fun h => h hq) fun h => h hb

theorem State.pll_onPll_self (s : State) (p : PllId) (f : Pll → Pll) : (s.onPll p f).pll p = f (s.pll p) := by
  cases p with
  | core => rfl
  | phy q b => exact s.phy_onPll_self q b f

theorem State.onPll_frame (s : State) (p : PllId) (f : Pll → Pll) : s.onPll p f = { s with clk := (s.onPll p f).clk } := by
  cases p <;> rfl

-- sequences that have nothing to do

theorem settleReturn_of_still (h : s.clk.retStep = 0) : settleReturn s = s := by
  unfold settleReturn
  rw [if_pos (.inl (by omega))]

theorem tryPostOp_of_none (h : s.op.pend = false) : tryPostOp s = s := by
  simp [tryPostOp, h]

/-- No change becomes pending in start-up (R336). -/
theorem takeWant_of_startUp (h : s.clk.startStep ≠ 0) : takeWant s = s := by
  have hn : s.changeAllowed = false := by simp [State.changeAllowed, h]
  unfold takeWant
  split
  · rfl
  · split
    · simp [hn]
    · rfl

theorem execLockDetect_inStartUp {p : PllId} (hc : s.clocked) (hl : (s.pll p).phase = .lock)
    (hm : s.rsck ≤ (s.pll p).mark + s.usRsck 32) (hs : (pllGood p s).clk.startStep ≠ 0) (hr : (pllGood p s).clk.retStep = 0)
    (hp : (pllGood p s).op.pend = false) : execLockDetect p s = .next (pllGood p s) := by
  have hn : s.pllLate (s.pll p) = false := by simp [State.pllLate, hl, hm]
  unfold execLockDetect
  rw [if_pos ⟨hc, hl, by simp [hn]⟩, takeWant_of_startUp hs, tryPostOp_of_none hp, settleReturn_of_still hr]

theorem quadSwitch_sw (s : State) (q : Fin 4) (dst : ClkSrc) (why : SwWhy) :
    ((quadSwitch q dst why s).quadClk q).sw = some (dst, why) :=
  congrArg QuadClk.sw (s.quadClk_onQuadClk_self _ q.isLt)

-- good PHY PLLs

/-- A PHY PLL is good and in a state. -/
def State.goodPhy (s : State) (q : Fin 4) (b : Bool) (st : PllSt) : State :=
  s.onPll (.phy q b) fun x => { x with st := st, phase := .idle, window := s.rsck }

section

variable {q : Fin 4} {b : Bool} (hw : (s.phy q b).why = .start) (hb : (s.quadClk q).src = .bypass)
include hw hb

theorem phyGood_first (h : (s.quadClk q).sw = none) :
    phyGood q b s = quadSwitch q (srcOf b) .first (s.goodPhy q b .active) := by
  simp only [phyGood, hw, hb, h, phyId_val, ne_eq, not_true_eq_false, if_false]
  rfl

theorem phyGood_later {dst : ClkSrc} {why : SwWhy} (h : (s.quadClk q).sw = some (dst, why))
    (hn : (s.phy q true).window ≠ s.rsck) : phyGood q b s = s.goodPhy q b .standby := by
  simp only [phyGood, hw, hb, h, phyId_val, ne_eq, not_true_eq_false, if_false]
  split
  · simp at *
  · simp [hn]
    rfl
  · rfl

theorem phyGood_together (hf : b = false) (h : (s.quadClk q).sw = some (.pllB, .first))
    (hn : (s.phy q true).window = s.rsck) : phyGood q b s =
      quadSwitch q .pllA .first ((s.onPll (.phy q true) fun x => { x with st := .standby }).goodPhy q false .active) := by
  subst hf
  simp only [phyGood, hw, hb, h, phyId_val, hn]
  rfl

end

theorem State.goodPhy_phy (s : State) (q : Fin 4) (b : Bool) (st : PllSt) :
    (s.goodPhy q b st).phy q b = { s.phy q b with st := st, phase := .idle, window := s.rsck } := s.phy_onPll_self q b _

end

/-- Settles O10: each step of the criterion is a test on the PLL's phase; a good PLL ends in `coreGood` or `phyGood`. -/
theorem pllsStartAndTakeTheirClocks : Obligations.PllsStartAndTakeTheirClocks := by
  refine ⟨fun s p hc => ⟨fun ha hm => ?report, fun hd hm => ?delay, fun hl h3 => ?timeout, fun hp h3 => ?drop,
    fun hp hm => ?pause⟩, fun s hc hs hr hp h0 => ⟨fun hl hm => ?core, fun q b hl hm hw hb => ⟨fun hn => ?first,
      fun dst why hsw hn => ?later, fun hf hsw hn => ?together⟩⟩⟩
  case report =>
    have hn : s.pllLate (s.pll p) = false := by simp [State.pllLate, ha, hm]
    exact if_pos ⟨hc, ha, by simp [hn]⟩
  case delay => exact if_pos ⟨hc, hd, hm⟩
  case timeout =>
    have hn : s.pllLate (s.pll p) = true := by
      rcases hl with ⟨hl, hm⟩ | ⟨hl, hm⟩ <;> simp [State.pllLate, hl, hm]
    rw [exec_pllAttemptTimeout, execPllAttemptTimeout, if_pos ⟨hc, hn⟩, attemptFailed, if_pos h3]
  case drop =>
    rw [exec_amplitudeDrop, execAmplitudeDrop, if_pos ⟨hc, hp⟩, attemptFailed, if_pos h3]
  case pause => exact if_pos ⟨hc, hp, hm⟩
  case core =>
    refine ⟨coreGood s, execLockDetect_inStartUp (p := .core) hc hl hm ?_ hr hp, rfl, rfl, rfl, rfl, rfl, rfl, rfl⟩
    change (if s.clk.startStep = 5 then 6 else s.clk.startStep) ≠ 0
    split
    · decide
    · exact hs
  case first =>
    have he := phyGood_first hw hb hn
    have hx := execLockDetect_inStartUp (p := .phy q b) hc hl hm
    simp only [pllGood, he] at hx
    refine ⟨_, hx hs hr hp, ?_, ?_, quadSwitch_sw _ _ _ _, rfl, rfl⟩
    · exact congrArg Pll.st (s.goodPhy_phy q b .active)
    · exact congrArg Pll.phase (s.goodPhy_phy q b .active)
  case later =>
    have hx := execLockDetect_inStartUp (p := .phy q b) hc hl hm
    simp only [pllGood, phyGood_later hw hb hsw hn] at hx
    refine ⟨_, hx hs hr hp, ?_, ?_, rfl, rfl, rfl⟩
    · exact congrArg Pll.st (s.goodPhy_phy q b .standby)
    · exact congrArg Pll.phase (s.goodPhy_phy q b .standby)
  case together =>
    have hx := execLockDetect_inStartUp (p := .phy q b) hc hl hm
    simp only [pllGood, phyGood_together hw hb hf hsw hn] at hx
    refine ⟨_, hx hs hr hp, ?_, ?_, quadSwitch_sw _ _ _ _, rfl, rfl⟩
    · exact congrArg Pll.st (State.goodPhy_phy _ q false .active)
    · exact congrArg Pll.st ((State.phy_onPll_other _ q false _ (.inr (by decide))).trans (s.phy_onPll_self q true _))

end Sys2Proof.Machine
end

section
/-!
The PLLs that fail: monitors, the fallback of a quad, the trip of the core PLL (R96, R97, R100, R101, R106) and restarts
(R103, R107).
-/

namespace Sys2Proof.Machine

section

variable {s : State}

-- an abandoned change leaves the core PLL, and every PHY PLL that is not pre-locked

theorem restSpares_frame (s : State) : SameButChans s (restSpares s) := by
  refine SameButChans.foldl (fun s c => ?_) _ s
  split <;> rfl

theorem resumeChans_frame (s : State) : SameButChans s (resumeChans s) := by
  unfold resumeChans
  split
  · refine (SameButChans.foldl (fun s c => ?_) _ s).trans (restSpares_frame _)
    split <;> rfl
  · rfl

theorem resumeChans_clk (s : State) : (resumeChans s).clk = s.clk := by rw [resumeChans_frame]

theorem resumeChans_op (s : State) : (resumeChans s).op = s.op := by rw [resumeChans_frame]

theorem endPending_clk (s : State) : (endPending s).clk = s.clk := by simp [endPending, dropBookings]

theorem startPll_phy_core (q : Nat) (b : Bool) (why : PllWhy) (op : Nat) (s : State) :
    (startPll (phyId q b) why op s).clk.core = s.clk.core := rfl

/-- Work on the PHY PLLs, one by one, leaves the core PLL. -/
theorem foldl_phys_core {f : State → Nat → Bool → State} (h : ∀ s q b, (f s q b).clk.core = s.clk.core) (qs : List Nat)
    (bs : List Bool) (s : State) :
    (qs.foldl (fun s q => bs.foldl (fun s b => f s q b) s) s).clk.core = s.clk.core :=
  foldl_same (fun t => t.clk.core) (fun s q => foldl_same (fun t => t.clk.core) (fun s b => h s q b) bs s) qs s

theorem switchBack_core (s : State) : (switchBack s).clk.core = s.clk.core := by
  by_cases h4 : s.op.step = 4
  · rw [switchBack, if_pos h4]
    refine foldl_phys_core (fun s q b => ?_) _ _ s
    dsimp only
    split <;> rfl
  · rw [switchBack, if_neg h4]

theorem unprelock_core (s : State) : (unprelock s).clk.core = s.clk.core := by
  unfold unprelock
  refine foldl_phys_core (fun s q b => ?_) _ _ s
  split <;> rfl

theorem abandonChange_core (s : State) : (abandonChange s).clk.core = s.clk.core := by
  unfold abandonChange
  split
  · rw [unprelock_core, State.bump_clk, endPending_clk, switchBack_core, resumeChans_clk]
  · rfl

theorem unprelock_phy {r : Nat} {c : Bool} (h : (s.phy r c).st ≠ .prelock) : (unprelock s).phy r c = s.phy r c := by
  unfold unprelock
  refine foldl_inv (fun t => t.phy r c = s.phy r c) _ (fun t q hq ht => ?_) rfl
  refine foldl_inv (fun t => t.phy r c = s.phy r c) _ (fun u b _ hu => ?_) ht
  split
  next hp =>
    refine (State.phy_onPll_other u (Fin.ofNat 4 q) b _ (Decidable.not_and_iff_not_or_not.1 ?_)).trans hu
    rintro ⟨rfl, rfl⟩
    have hq : q % 4 = q := Nat.mod_eq_of_lt (by simp at hq; omega)
    rw [Fin.val_ofNat, hq] at hu h
    exact h (hu ▸ hp)
  next => exact hu

theorem losePrelock_phy {r : Nat} {c : Bool} (h : (s.phy r c).st ≠ .prelock) :
    (losePrelock s).phy r c = s.phy r c := by
  unfold losePrelock abandonChange
  split
  next h4 =>
    split
    · have hb : switchBack (resumeChans s) = resumeChans s := by
        unfold switchBack
        rw [resumeChans_op, if_neg (by omega)]
      have hc : ((endPending (switchBack (resumeChans s))).bump TB_OPEVT_ABANDON).phy r c = s.phy r c := by
        unfold State.phy
        rw [State.bump_clk, endPending_clk, hb, resumeChans_clk]
      rw [unprelock_phy (by rwa [hc]), hc]
    · rfl
  next => rfl

-- a trip

/-- A PLL has failed. -/
def State.failPll (s : State) (p : PllId) : State := s.onPll p fun x => { x with st := .failed, phase := .idle }

theorem State.failPll_pll (s : State) (p : PllId) :
    (s.failPll p).pll p = { s.pll p with st := .failed, phase := .idle } := s.pll_onPll_self p _

/-- The counter of the trips of a PHY PLL. -/
def tripsOf (q : Fin 4) (b : Bool) : Field := if b then QD_PLLEVT_TRIPS_B q else QD_PLLEVT_TRIPS_A q

theorem State.phy_failPll_partner (s : State) (q : Fin 4) (b : Bool) : (s.failPll (.phy q b)).phy q (!b) = s.phy q (!b) :=
  s.phy_onPll_other q b _ (.inr (by simp))

theorem State.phy_bump (s : State) (f : Field) (n q : Nat) (b : Bool) : (s.bump f n).phy q b = s.phy q b := by
  simp [State.phy]

theorem trip_phy (q : Fin 4) (b : Bool) (s : State) : trip (.phy q b) s =
    let t := (s.bump (tripsOf q b)).failPll (.phy q b)
    match (s.phy q b).st with
    | .active => fallback q b t
    | .prelock => losePrelock (raise .pllsb q (pllsbInfo b false) t)
    | _ => raise .pllsb q (pllsbInfo b false) t := rfl

theorem coreTrip_shows (s : State) : (coreTrip s).clk.core.st = .failed ∧ (coreTrip s).clk.core.phase = .idle ∧
    (coreTrip s).pins.pclk = false ∧ (coreTrip s).clk.coreSw = .toBypass := by
  have h : (coreTrip s).clk.core = (s.failPll .core).clk.core := by
    have hr : ∀ t : State, (raise .core 0 1 ((coreSwitch .toBypass { t with pins := { t.pins with pclk := false } }).bump
        TB_CLKEVT_CORE_TRIPS)).clk.core = t.clk.core := by simp [raise, coreSwitch]
    refine (hr _).trans ?_
    split
    · exact abandonChange_core _
    · rfl
  refine ⟨by rw [h]; rfl, by rw [h]; rfl, ?_, ?_⟩ <;> simp [coreTrip, raise, coreSwitch]

/-- A fallback leaves the PLL that failed. -/
theorem fallback_phy (q : Fin 4) (b : Bool) (s : State) : (fallback q b s).phy q b = s.phy q b := by
  have hb : b ≠ !b := by simp
  unfold fallback
  rw [phyId_val]
  dsimp only
  split
  · exact (State.phy_onPll_other _ q (!b) _ (.inr hb)).trans (State.phy_bump _ _ _ _ _)
  · exact (State.phy_onPll_other _ q (!b) _ (.inr hb)).trans (State.phy_bump _ _ _ _ _)

theorem fallback_toPartner {q : Fin 4} {b : Bool} (h : (s.phy q !b).st = .standby) (hi : (s.phy q !b).phase = .idle) :
    ((fallback q b s).phy q !b).st = .active ∧ ((fallback q b s).quadClk q).sw = some (srcOf !b, .fallback) := by
  unfold fallback
  rw [phyId_val, if_pos (by simp [h, hi])]
  refine ⟨?_, quadSwitch_sw _ _ _ _⟩
  exact congrArg Pll.st (State.phy_onPll_self _ q (!b) _)

theorem fallback_toBypass {q : Fin 4} {b : Bool} (h : (s.phy q !b).st ≠ .standby) :
    ((fallback q b s).quadClk q).sw = some (.bypass, .fallback) := by
  unfold fallback
  rw [if_neg (by simp [h])]
  exact quadSwitch_sw _ _ _ _

/-- A PLL that trips is FAILED, whatever it was. -/
theorem trip_failed (p : PllId) (s : State) : ((trip p s).pll p).st = .failed ∧ ((trip p s).pll p).phase = .idle := by
  cases p with
  | core => exact ⟨(coreTrip_shows s).1, (coreTrip_shows s).2.1⟩
  | phy q b =>
    have h : (trip (.phy q b) s).phy q b = ((s.bump (tripsOf q b)).failPll (.phy q b)).phy q b := by
      have hf := State.failPll_pll (s.bump (tripsOf q b)) (.phy q b)
      rw [trip_phy]
      dsimp only
      split
      · exact fallback_phy q b _
      · exact losePrelock_phy (ne_of_eq_of_ne (congrArg Pll.st hf) PllSt.noConfusion)
      · rfl
    have hf := State.failPll_pll (s.bump (tripsOf q b)) (.phy q b)
    exact ⟨(congrArg Pll.st (h.trans hf)), (congrArg Pll.phase (h.trans hf))⟩

/-- What a trip does to the clock that the PLL drives. -/
def TripMovesClock (s t : State) (p : PllId) : Prop :=
  (p = .core → t.pins.pclk = false ∧ t.clk.coreSw = .toBypass) ∧
  ∀ q b, p = .phy q b → (s.phy q b).st = .active →
    ((s.phy q !b).st = .standby → (s.phy q !b).phase = .idle →
      (t.phy q !b).st = .active ∧ (t.quadClk q).sw = some (srcOf !b, .fallback)) ∧
    ((s.phy q !b).st ≠ .standby → (t.quadClk q).sw = some (.bypass, .fallback))

theorem trip_movesClock (p : PllId) (s : State) : TripMovesClock s (trip p s) p := by
  refine ⟨?_, ?_⟩
  · rintro rfl
    exact (coreTrip_shows s).2.2
  · rintro q b rfl ha
    have hp : ((s.bump (tripsOf q b)).failPll (.phy q b)).phy q (!b) = s.phy q (!b) :=
      (State.phy_failPll_partner _ q b).trans (State.phy_bump _ _ _ _ _)
    rw [trip_phy]
    simp only [ha]
    exact ⟨fun h hi => fallback_toPartner (by rwa [hp]) (by rwa [hp]), fun h => fallback_toBypass (by rwa [hp])⟩

theorem watched_idle {x : Pll} (h : x.watched) : x.phase = .idle := by
  simp only [Pll.watched, Bool.and_eq_true, beq_iff_eq] at h
  exact h.1

theorem exec_trip {p : PllId} (hc : s.clocked) (hw : (s.pll p).watched) {c : Instr}
    (h : c = .amplitudeDrop p ∨ c = .lossOfLock p) : exec c s = .next (trip p s) := by
  have hi := watched_idle hw
  rcases h with rfl | rfl
  · rw [exec_amplitudeDrop, execAmplitudeDrop, if_neg (by simp [hi]), if_pos ⟨hc, hw⟩]
  · exact if_pos ⟨hc, hw⟩

/-- A window that ends changes nothing that its own check reads. -/
theorem monitorOff_shown (s : State) (p : PllId) (n : Nat) :
    monitorOff ((s.setSt (monitorCount p) n).onPll p fun x => { x with window := s.rsck }) p n = monitorOff s p n := by
  have hf : ∀ t : State, ∀ u, t = { (s.setSt (monitorCount p) n) with clk := u } → ∀ o, t.nDen = s.nDen ∧ t.nNum = s.nNum ∧ t.ratio o = s.ratio o := by
    rintro t u rfl o
    simp [State.nDen, State.nNum, State.ratio, State.cf]
  have hs := State.onPll_frame (s.setSt (monitorCount p) n) p fun x => { x with window := s.rsck }
  cases p with
  | core =>
    obtain ⟨hd, hn, _⟩ := hf _ _ hs 0
    unfold monitorOff
    rw [hd, hn]
  | phy q b =>
    have hp : (((s.setSt (monitorCount (.phy q b)) n).onPll (.phy q b) fun x => { x with window := s.rsck }).phy q b).op =
        (s.phy q b).op :=
      (congrArg Pll.op (State.phy_onPll_self _ q b _)).trans (by simp [State.phy])
    obtain ⟨hd, hn, hr⟩ := hf _ _ hs (s.phy q b).op
    unfold monitorOff
    simp only [hp]
    rw [hd, hn, hr]

theorem execMonitorWindowEnd_of_due {p : PllId} {count : BitVec 16} (hc : s.clocked) (hw : (s.pll p).watched)
    (hd : (s.pll p).window + 1024 ≤ s.rsck) : execMonitorWindowEnd p count s =
      let t := (s.setSt (monitorCount p) count.toNat).onPll p fun x => { x with window := s.rsck }
      if monitorOff s p count.toNat then .next (trip p t) else .next t := by
  rw [execMonitorWindowEnd, if_pos ⟨hc, hw, hd⟩]
  simp only [monitorOff_shown]

-- restarts

/-- A restart of a PHY PLL by its side. -/
theorem exec_restart (hc : s.clocked) (q : Fin 4) (b : Bool) :
    exec (if b then .restartB q else .restartA q) s = .next (restartPhy q b s) := by
  cases b <;> exact congrArg Host.Outcome.next (if_pos hc)

theorem restartPhy_of_down {q : Fin 4} {b : Bool} (h : (s.phy q b).st = .failed ∨ (s.phy q b).st = .off) :
    restartPhy q b s = startPll (.phy q b) .restart s.op.cur s := by
  unfold restartPhy
  rw [if_pos (by simpa using h), phyId_val]

theorem restartPhy_of_up {q : Nat} {b : Bool} (h : (s.phy q b).st ≠ .failed) (h' : (s.phy q b).st ≠ .off) :
    restartPhy q b s = s := by
  unfold restartPhy
  rw [if_neg (by simp [h, h'])]

theorem exec_coreRestart_of_clocked (hc : s.clocked) : exec .coreRestart s = .next (restartCore s) :=
  congrArg Host.Outcome.next (if_pos hc)

end

/-- Settles O11: every trip is `trip`, which fails its PLL and moves its clock; a restart is `startPll` on a PLL that is down. -/
theorem pllsFailAndRestart : Obligations.PllsFailAndRestart := by
  refine ⟨fun s p hc hw => ⟨fun c h => ?trip, fun count hd => ⟨fun ho => ?off, fun ho => ?near⟩⟩, fun s hc =>
    ⟨fun q b => ⟨fun h => ?down, fun h h' => ?up⟩, fun h h' => ?core, fun h => ?coreStays⟩⟩
  case trip =>
    exact ⟨_, exec_trip hc hw h, (trip_failed p s).1, (trip_failed p s).2, trip_movesClock p s⟩
  case off =>
    exact ⟨_, (execMonitorWindowEnd_of_due hc hw hd).trans (if_pos ho), (trip_failed p _).1⟩
  case near =>
    exact (execMonitorWindowEnd_of_due hc hw hd).trans (if_neg (by simp [ho]))
  case down =>
    refine ⟨_, (exec_restart hc q b).trans (congrArg _ (restartPhy_of_down h)), s.phy_onPll_self q b _,
      s.phy_onPll_other q b _ (.inr (by simp)), rfl⟩
  case up => exact (exec_restart hc q b).trans (congrArg _ (restartPhy_of_up h h'))
  case core =>
    refine ⟨_, (exec_coreRestart_of_clocked hc).trans (congrArg _ (if_pos ?_)), rfl, rfl, rfl, rfl⟩
    simp [h, h']
  case coreStays =>
    refine (exec_coreRestart_of_clocked hc).trans (congrArg _ (if_neg ?_))
    rcases h with h | h <;> simp [h]

end Sys2Proof.Machine
end

section
/-!
The ends of clock switches (R111, R112) and the results that start-up and the sequences of the ranks take up (R93 steps 8
to 10).
-/

namespace Sys2Proof.Machine

section

variable {s : State}

-- work on channels

theorem initSet_work (c k : Nat) (s : State) : ChannelWork s (initSet c k s) := by
  unfold initSet
  split
  · rfl
  · exact (onCal_work _ _ _).trans (.foldl (fun s i => (setSt_work _ _ _).trans (setSt_work _ _ _)) _ _)

theorem restartTracking_work (c : Nat) (s : State) : ChannelWork s (restartTracking c s) := onCal_work _ _ _

theorem cancelLatch_work (c r : Nat) (s : State) : ChannelWork s (cancelLatch c r s) :=
  (onRank_work _ _ _ _).trans (onCal_work _ _ _)

theorem takePoint_work (c : Nat) (s : State) : ChannelWork s (takePoint c s) := by
  have h := (initSet_work c s.op.cur s).trans (restartTracking_work c _)
  have h := (h.trans (cancelLatch_work c 1 _)).trans (cancelLatch_work c 0 _)
  exact ((h.trans (setSt_work _ (CH_MARGIN_VALID c) 0)).trans (unpost_work _ _)).trans (onChan_work _ _ _)

theorem startJob_work (c : Nat) (job : CalJob) (s : State) : ChannelWork s (startJob c job s) :=
  (onChan_work _ _ _).trans (onCal_work _ _ _)

theorem startTraining_work (q : Nat) (cs : List Nat) (f : Rank → Rank) (s : State) :
    ChannelWork s (startTraining q cs f s) := by
  unfold startTraining
  exact (onQuad_work _ _ _).trans (.foldl (fun s c => (onRanks_work s c f).trans (startJob_work _ _ _)) _ _)

theorem startKeptQuad_work (q : Nat) (s : State) : ChannelWork s (startKeptQuad q s) := by
  unfold startKeptQuad
  exact (startTraining_work _ _ _ _).trans (.foldl (fun s c => onRanks_work s c _) _ _)

theorem startQuads_early (h : s.clk.startStep < 7) : startQuads s = s := if_pos h

theorem testReturn_work (c : Nat) (s : State) : ChannelWork s (testReturn c s) := by
  have h := (onChan_work s c fun x => { x with test := 5 }).trans (onChan_work _ c fun x => { x with testStop := false })
  unfold testReturn
  dsimp only
  split
  · exact h.trans (onRanks_work _ _ _)
  · have h := (h.trans (initSet_work c s.op.cur _)).trans (restartTracking_work c _)
    exact ((h.trans (setSt_work _ (CH_MARGIN_VALID c) 0)).trans (onRanks_work _ _ _)).trans (startJob_work _ _ _)

theorem resumeTests_work (s : State) : ChannelWork s (resumeTests s) := by
  unfold resumeTests
  refine .foldl (fun s c => ?_) _ _
  split
  · exact testReturn_work c s
  · rfl

theorem bookStep_work (c kind r : Nat) (s : State) : ChannelWork s (bookStep c kind r s) := onCal_work _ _ _

theorem dropScratch_work (c : Nat) (s : State) : ChannelWork s (dropScratch c s) :=
  (onCal_work _ _ _).trans (onChan_work _ _ _)

theorem abandonStep_work (c : Nat) (s : State) : ChannelWork s (abandonStep c s) := by
  unfold abandonStep
  split
  · rfl
  · exact (((onCal_work _ _ _).trans (bookStep_work _ _ _ _)).trans (onChan_work _ _ _)).trans (dropScratch_work _ _)

theorem dropTests_work (c : Nat) (f : Op → Bool) (s : State) : ChannelWork s (dropTests c f s) := onChan_work _ _ _

theorem setTest_work (c n : Nat) (s : State) : ChannelWork s (setTest c n s) := onChan_work _ _ _

theorem abandonTest_work (c : Nat) (s : State) : ChannelWork s (abandonTest c s) := by
  have h := (dropTests_work c (fun _ => true) s).trans (setTest_work c 6 _)
  exact .ite (.refl s) (.ite ((h.trans (onChan_work _ _ _)).trans (onRanks_work _ _ _)) (h.trans (onChan_work _ _ _)))

-- the side of CCLK

/-- The side of CCLK, its switch and the return of RSI_CK. -/
def State.coreSide (s : State) : Bool × CoreSw × Nat := (s.clk.cclkPll, s.clk.coreSw, s.clk.retStep)

theorem State.coreSide_eq_iff {b : Bool} {w : CoreSw} {n : Nat} :
    s.coreSide = (b, w, n) ↔ s.clk.cclkPll = b ∧ s.clk.coreSw = w ∧ s.clk.retStep = n := by
  simp [State.coreSide]

theorem ChannelWork.coreSide {t : State} (h : ChannelWork s t) : t.coreSide = s.coreSide := by
  unfold ChannelWork at h
  rw [h]
  rfl

theorem startQuads_coreSide (s : State) : (startQuads s).coreSide = s.coreSide := by
  unfold startQuads
  split
  · rfl
  · have h : ∀ t : State, ∀ n, ({ t with clk := { t.clk with startStep := n } } : State).coreSide = t.coreSide := fun _ _ => rfl
    refine (h _ _).trans (foldl_same State.coreSide (fun s q => ?_) _ _)
    split
    · exact (startKeptQuad_work q s).coreSide
    · rfl

theorem endGap_clk (k : GapKind) (s : State) : (endGap k s).clk = s.clk := by
  unfold endGap
  dsimp only
  cases k <;> exact (apply_ite State.clk _ _ _).trans (ite_self _)

theorem sourceChanged_clk (s : State) : (sourceChanged s).clk = s.clk :=
  (endGap_clk .v _).trans (endGap_clk .h s)

theorem restartQuad_coreSide (q : Nat) (s : State) : (restartQuad q s).coreSide = s.coreSide := by
  refine (foldl_same State.coreSide (fun s c => ?_) _ _).trans rfl
  split
  · rfl
  · exact (takePoint_work c s).coreSide

theorem restQuad_coreSide (q : Nat) (s : State) : (restQuad q s).coreSide = s.coreSide := by
  refine (foldl_same State.coreSide (fun s c => ?_) _ _).trans rfl
  split <;> rfl

theorem stopQuad_coreSide (q : Nat) (s : State) : (stopQuad q s).coreSide = s.coreSide := by
  refine (restQuad_coreSide q _).trans (foldl_same State.coreSide (fun s c => ?_) _ _)
  exact (ChannelWork.trans (t := replay c s) rfl ((abandonStep_work c _).trans (abandonTest_work c _))).coreSide

/-- CCLK is on a side, with no switch under way and no return of RSI_CK. -/
theorem sourceChanged_coreSide (s : State) (b : Bool) :
    (sourceChanged { s with clk := { s.clk with cclkPll := b, coreSw := .none } }).coreSide = (b, .none, s.clk.retStep) := by
  unfold State.coreSide
  rw [sourceChanged_clk]

theorem coreOnBypass_coreSide (s : State) : (coreOnBypass s).coreSide = (false, .none, s.clk.retStep) := by
  refine (foldl_same State.coreSide (fun s q => ?_) _ _).trans (sourceChanged_coreSide s false)
  split
  · rfl
  · exact stopQuad_coreSide q s

theorem coreOnPll_coreSide (h : s.clk.retStep = 0) : (coreOnPll s).coreSide = (true, .none, 0) := by
  have h0 := sourceChanged_coreSide (s.onPll .core fun x => { x with window := s.rsck }) true
  rw [show (s.onPll .core fun x => { x with window := s.rsck }).clk.retStep = 0 from h] at h0
  unfold coreOnPll
  dsimp only
  split
  · exact (startQuads_coreSide _).trans h0
  · split
    next hn => exact absurd (State.coreSide_eq_iff.1 h0).2.2 hn
    next =>
      refine (foldl_same State.coreSide (fun s q => ?_) _ _).trans h0
      split
      · exact restartQuad_coreSide q s
      · rfl

-- the ends of switches

theorem clockSwitchDone_core (hc : s.clocked) : execClockSwitchDone .core s = match s.clk.coreSw with
    | .toPll => .next (settleReturn (coreOnPll s))
    | .toBypass => .next (coreOnBypass s)
    | .none => .next s := if_neg (by simp [hc])

theorem clockSwitchDone_quad (hc : s.clocked) {q : Fin 4} {dst : ClkSrc} {why : SwWhy}
    (h : (s.quadClk q).sw = some (dst, why)) :
    execClockSwitchDone (.quad q) s = .next (settleReturn (quadOn q dst why s)) := by
  rw [execClockSwitchDone, if_neg (by simp [hc])]
  simp only [h]

/-- A quad takes its clock at an output; the windows of its monitors start anew. -/
def State.quadOnto (s : State) (q : Nat) (dst : ClkSrc) : State :=
  [false, true].foldl (fun s b => s.onPll (phyId q b) fun x => { x with window := s.rsck })
    (s.onQuadClk q fun k => { k with src := dst, sw := none })

theorem State.quadOnto_frame (s : State) (q : Nat) (dst : ClkSrc) : s.quadOnto q dst = { s with clk := (s.quadOnto q dst).clk } :=
  rfl

theorem State.quadOnto_quadClk (s : State) (q : Fin 4) (dst : ClkSrc) :
    (s.quadOnto q dst).quadClk q = { s.quadClk q with src := dst, sw := none } :=
  s.quadClk_onQuadClk_self _ q.isLt

theorem State.quadOnto_src (s : State) (q : Fin 4) (dst : ClkSrc) : ((s.quadOnto q dst).quadClk q).src = dst := by
  rw [s.quadOnto_quadClk]

theorem State.quadOnto_sw (s : State) (q : Fin 4) (dst : ClkSrc) : ((s.quadOnto q dst).quadClk q).sw = none := by
  rw [s.quadOnto_quadClk]

theorem State.quadOnto_core (s : State) (q : Nat) (dst : ClkSrc) : (s.quadOnto q dst).clk.core = s.clk.core := rfl

/-- In start-up the switch of a quad that does not wait has no other effect before step 7 (R93). -/
theorem quadOn_first_early {q : Fin 4} {dst : ClkSrc} (hw : (s.quadClk q).wait = false) (hr : s.clk.retStep = 0)
    (hs : s.clk.startStep < 7) : quadOn q dst .first s = s.quadOnto q dst := by
  have hk := s.quadOnto_quadClk q dst
  have hn : (s.quadOnto q dst).clk.startStep < 7 := hs
  change (if ((s.quadOnto q dst).quadClk q).wait = true then
      startQuads (if (s.quadOnto q dst).clk.core.st = .active then restartQuad q (s.quadOnto q dst) else s.quadOnto q dst)
    else if (s.quadOnto q dst).clk.retStep ≠ 0 ∧ ((s.quadOnto q dst).quadClk q).fbStep = 0 then _
    else startQuads (s.quadOnto q dst)) = s.quadOnto q dst
  rw [if_neg (by simp [hk, hw]), if_neg fun h => h.1 hr, startQuads_early hn]

-- forced switches

/-- A counter of forced switches counts one. -/
theorem bump_counts {t : State} {f : Field} (ht : t.stat = s.stat) (hz : t.frozen = s.frozen) (hs : s.stat.wf)
    (hf : f.lo + f.width ≤ 32) (hn : f.addr ∉ s.frozen) : (t.bump f).st f = min f.max (s.st f + 1) ∧
      ∀ g : Field, g.addr ≠ f.addr → (t.bump f).st g = s.st g := by
  refine ⟨?_, fun g hg => ?_⟩
  · rw [State.st_bump_self f 1 (ht ▸ hs) hf (hz ▸ hn), State.st_congr ht]
  · rw [State.st_bump_other f g 1 (ht ▸ hs) (.inl hg), State.st_congr ht]

end

/-- Settles O12: the ends of switches by `coreOnPll`, `coreOnBypass` and `quadOn`, which nothing follows outside a return of
RSI_CK; a forced one is a bump of its counter. -/
theorem clockSwitchesEndAndForcedOnesCount : Obligations.ClockSwitchesEndAndForcedOnesCount := by
  refine ⟨fun s hc hr => ⟨fun h => ?toPll, fun h => ?toBypass, fun q dst h hw hs => ?first, fun q dst why h => ?quad,
    fun h h' => ?pclk, ?clkmon⟩, fun s hs hc => ⟨fun h hn hd hz => ?core, fun h => ?once, fun q why h hn hd hz => ?forced⟩⟩
  case toPll =>
    obtain ⟨hp, hn, hr⟩ := State.coreSide_eq_iff.1 (coreOnPll_coreSide hr)
    refine ⟨coreOnPll s, ?_, hp, hn⟩
    rw [exec_clockSwitchDone, clockSwitchDone_core hc, h]
    rw [settleReturn_of_still hr]
  case toBypass =>
    obtain ⟨hp, hn, _⟩ := State.coreSide_eq_iff.1 (coreOnBypass_coreSide s)
    refine ⟨coreOnBypass s, ?_, hp, hn⟩
    rw [exec_clockSwitchDone, clockSwitchDone_core hc, h]
  case first =>
    refine ⟨s.quadOnto q dst, ?_, s.quadOnto_src q dst, s.quadOnto_sw q dst, s.quadOnto_frame q dst,
      s.quadOnto_core q dst⟩
    rw [exec_clockSwitchDone, clockSwitchDone_quad hc h, quadOn_first_early hw hr hs]
    rw [settleReturn_of_still (show (s.quadOnto q dst).clk.retStep = 0 from hr)]
  case quad => exact clockSwitchDone_quad hc h
  case pclk =>
    rw [exec_clockSwitchDone, execClockSwitchDone, if_neg (by simp [hc])]
    exact congrArg _ ((if_pos ⟨h, h'⟩).trans (settleReturn_of_still hr))
  case clkmon =>
    rw [exec_clockSwitchDone, execClockSwitchDone, if_neg (by simp [hc])]
    refine congrArg _ (ite_congr rfl (fun h => ?_) fun _ => rfl)
    have ha : ({ s with clk := { s.clk with monSw := true } } : State).monitorAllowed = true := (Bool.and_eq_true_iff.1 h).1
    simp only [showClkmon, ha, Bool.and_self]
  case core =>
    have hb := bump_counts (s := s) (t := { s with clk := { s.clk with coreForced := true } }) rfl rfl (canonical_stat hs)
      (f := TB_CLKEVT_FORCED_SW) (by decide) hz
    refine ⟨_, congrArg Host.Outcome.next (if_pos ⟨hc, h, by simp [hn], hd⟩), ?_, hb⟩
    exact bump_frame { s with clk := { s.clk with coreForced := true } } TB_CLKEVT_FORCED_SW 1
  case once => exact congrArg Host.Outcome.next (if_neg (by simp [h]))
  case forced =>
    have hb := bump_counts (s := s) (t := s.onQuadClk q fun k => { k with swForced := true }) rfl rfl (canonical_stat hs)
      (f := QD_PLLEVT_FORCED_SW q) (Nat.le_refl 32) hz
    have hf := bump_frame (s.onQuadClk q fun k => { k with swForced := true }) (QD_PLLEVT_FORCED_SW q) 1
    have hk : ((s.onQuadClk q fun k => { k with swForced := true }).bump (QD_PLLEVT_FORCED_SW q)).clk =
      (s.onQuadClk q fun k => { k with swForced := true }).clk := State.bump_clk _ _ _
    refine ⟨_, ?_, ?_, ?_, ?_, hb⟩
    · rw [exec_forcedSwitch, execForcedSwitch]
      simp only [h]
      exact congrArg _ (if_pos ⟨hc, by simp [hn], by simpa [State.forceDue] using hd⟩)
    · rw [hk]; exact hf
    · rw [State.quadClk, hk]; exact s.quadClk_onQuadClk_self _ q.isLt
    · rw [hk]; rfl

end Sys2Proof.Machine
end

section
/-!
Start-up from the release of DRESETk_N to its end (R93 steps 8 to 10), and the ends of payments, checks and retrains.
-/

namespace Sys2Proof.Machine

section

variable {s : State}

-- the training of a quad begins

/-- A channel trains. -/
def State.trains (c : Nat) (s : State) : Prop := (s.chan c).job = .training

theorem startJob_training {d c : Nat} (h : s.trains c) : (startJob d .training s).trains c :=
  State.chan_onChan_inv (fun x => x.job = .training) s d (f := fun x => { x with job := .training }) (fun _ _ => rfl) h

theorem startJob_trains {c : Nat} (h : c < 16) : (startJob c .training s).trains c :=
  congrArg Chan.job (State.chan_onChan_self s _ h)

theorem onRanks_trains {c d : Nat} {f : Rank → Rank} (h : s.trains c) : (s.onRanks d f).trains c :=
  State.chan_onChan_inv (fun x => x.job = .training) s d (f := fun x => { x with ranks := x.ranks.map f }) (fun _ h => h) h

theorem startTraining_keepsTraining {q c : Nat} {cs : List Nat} {f : Rank → Rank} (h : s.trains c) :
    (startTraining q cs f s).trains c := by
  unfold startTraining
  exact foldl_inv (State.trains c) cs (fun _ _ _ ht => startJob_training (onRanks_trains ht)) h

/-- A channel among those of a quad that trains, trains. -/
theorem startTraining_trains {q c : Nat} {cs : List Nat} {f : Rank → Rank} (hm : c ∈ cs) (hc : c < 16) :
    (startTraining q cs f s).trains c := by
  unfold startTraining
  exact foldl_reach (State.trains c) (f := fun s d => startJob d .training (s.onRanks d f))
    (fun _ _ ht => startJob_training (onRanks_trains ht)) (fun _ => startJob_trains hc) _ hm

theorem startKeptQuad_keepsTraining {q c : Nat} (h : s.trains c) : (startKeptQuad q s).trains c := by
  unfold startKeptQuad
  exact foldl_inv (State.trains c) _ (fun _ _ _ ht => onRanks_trains ht) (startTraining_keepsTraining h)

theorem startQuads_keepsTraining {c : Nat} (h : s.trains c) : (startQuads s).trains c := by
  unfold startQuads
  split
  · exact h
  · have hk : ∀ t : State, ∀ n, t.trains c → ({ t with clk := { t.clk with startStep := n } } : State).trains c :=
      fun _ _ h => h
    refine hk _ _ (foldl_inv (State.trains c) [0, 1, 2, 3] (fun t q _ ht => ?_) h)
    split
    · exact startKeptQuad_keepsTraining ht
    · exact ht

theorem quadChans_lt {q : Fin 4} {c : Nat} (h : c ∈ quadChans q) : c < 16 := by
  simp [quadChans] at h
  omega

theorem settleInit_trains {q : Fin 4} {n c : Nat} (hi : (s.quad q).initAt = some n) (hn : n + s.initTime q ≤ s.rsck)
    (hc : c ∈ quadChans q) (hr : (s.chan c).state ≠ .retired) : (settleInit q s).trains c := by
  unfold settleInit
  rw [hi]
  dsimp only
  rw [if_pos hn]
  exact startQuads_keepsTraining (startTraining_trains (List.mem_filter.2 ⟨hc, by simpa using hr⟩) (quadChans_lt hc))

theorem trainAnswers_of {c : Nat} {f : CalFound} (hu : f.failStep = 0 → s.ranksUp c)
    (h : f.failStep ≠ 0 ∧ f.failStep ≤ (s.cal c).trainStep ∨
      f.failStep = 0 ∧ (s.cal c).trainStep = 9 ∧ s.calRested c = true) : s.trainAnswers c f = true := by
  unfold State.trainAnswers
  rcases h with ⟨h0, hl⟩ | ⟨h0, h9, hr⟩
  · simp [h0, hl]
  · simp [h0, h9, hr, hu h0]

-- start-up ends

theorem setIngHold_dmReady (p : Nat) (v : Bool) (s : State) : (setIngHold p v s).pins.dmReady = s.pins.dmReady := by
  unfold setIngHold
  dsimp only
  split <;> rfl

theorem raiseReady_dmReady (hh : s.flt.haltStep = 0) (hq : s.tap.quiesce = 0) (hb : s.clk.blkStep = 0) :
    (raiseReady s).pins.dmReady = true := by
  unfold raiseReady
  rw [if_neg (by simp [hh, hq, hb])]
  exact foldl_same (fun t => t.pins.dmReady) (fun s p => setIngHold_dmReady p _ s) _ _

/-- Two states differ in the pins alone. -/
def SameButPins (s t : State) : Prop := t = { s with pins := t.pins }

theorem setIngHold_frame (p : Nat) (v : Bool) (s : State) : SameButPins s (setIngHold p v s) := by
  unfold setIngHold
  dsimp only
  split <;> rfl

theorem raiseReady_frame (s : State) : SameButPins s (raiseReady s) := by
  unfold raiseReady
  split
  · rfl
  · refine foldl_inv (SameButPins s) _ (fun t p _ ht => ?_) rfl
    have h := setIngHold_frame p (t.port p).holdNow t
    unfold SameButPins at *
    rw [h, ht]

theorem regate_clk (p : Nat) (s : State) : (regate p s).clk = s.clk := by
  unfold regate
  split <;> rfl

theorem commitGates_clk (s : State) : (commitGates s).clk = s.clk := by
  unfold commitGates
  rw [State.bump_clk]
  exact foldl_same State.clk (fun s p => regate_clk p s) _ _

theorem fireCalendar_clk (s : State) : (fireCalendar s).clk = s.clk := by
  unfold fireCalendar
  refine foldl_same State.clk (fun s p => ?_) _ _
  dsimp only
  split <;> rfl

theorem commitCalendar_clk (s : State) : (commitCalendar s).clk = s.clk := by
  unfold commitCalendar
  rw [State.bump_clk]

theorem startShaping_clk (s : State) : (startShaping s).clk = s.clk := by
  unfold startShaping
  rw [fireCalendar_clk, State.setSt_clk]
  dsimp only
  rw [commitGates_clk, commitCalendar_clk]
  refine foldl_same State.clk (fun s p => ?_) shapedPorts s
  rfl

/-- Start-up is over; the outputs rise and the tests go on after it. -/
def State.started (s : State) : State :=
  startShaping { s with clk := { s.clk with startStep := 0, everUp := true }, op := { s.op with frameAt := s.now } }

theorem State.started_clk (s : State) : s.started.clk = { s.clk with startStep := 0, everUp := true } := startShaping_clk _

theorem completeStart_eq (s : State) : ∃ t : State, completeStart s = resumeTests (raiseReady t.started) := by
  unfold completeStart
  extract_lets _ _ _ _ ports
  exact ⟨ports, rfl⟩

theorem completeStart_shows (s : State) : (completeStart s).clk.startStep = 0 ∧ (completeStart s).clk.everUp = true ∧
    ((completeStart s).flt.haltStep = 0 → (completeStart s).tap.quiesce = 0 → (completeStart s).clk.blkStep = 0 →
      (completeStart s).pins.dmReady = true) := by
  obtain ⟨u, he⟩ := completeStart_eq s
  have hc := u.started_clk
  generalize u.started = t at he hc
  have hw := resumeTests_work (raiseReady t)
  have hr := raiseReady_frame t
  unfold ChannelWork at hw
  unfold SameButPins at hr
  rw [he, hw]
  dsimp only
  have hd := raiseReady_dmReady (s := t)
  rw [hr]
  exact ⟨congrArg Clk.startStep hc, congrArg Clk.everUp hc, fun hh hq hb => by rw [← hr]; exact hd hh hq hb⟩

end

/-- Settles O13: the guards of each command hold; training begins in `startTraining`, which `startQuads` keeps; start-up ends
in `raiseReady`. -/
theorem trainingPaymentsAndChecksGoOn : Obligations.TrainingPaymentsAndChecksGoOn := by
  refine ⟨fun s q hc hg hs hq hd ht => ?release, fun s q n hi hn c hm hr => settleInit_trains hi hn hm hr,
    fun s ch f hc hj hu hl hf => ?training, fun s hc hg hs hb hh hp hr => ?complete,
    fun s ch r hc hf hd => congrArg Host.Outcome.next (if_pos ⟨hc, hf, hd⟩),
    fun s ch f hl hj hn hu hr => ?check, fun s ch f b hl hj hu hr ho => ?retrain⟩
  case release =>
    refine ⟨_, congrArg Host.Outcome.next (if_pos ⟨hc, hg, hs, hq, congrArg (!·) hd, ht⟩), ?_, rfl, ?_, ?_, rfl⟩
    · have hb : ∀ q : Fin 4, (1#4 <<< q.val).getLsbD q = true := by decide
      exact (BitVec.getLsbD_or ..).trans (by rw [hb, Bool.or_true])
    · exact congrArg Quad.initAt (State.quad_onQuad_self _ _ q.isLt)
    · exact congrArg Quad.trainAt (State.quad_onQuad_self _ _ q.isLt)
  case training =>
    exact congrArg Host.Outcome.next (if_pos ⟨hc, hj, by simp [hl], trainAnswers_of hu hf⟩)
  case complete =>
    have hall : ([0, 1, 2, 3].all fun q => (s.quadDead q || s.quadGood q) && (quadChans q).all s.trained) = true := by
      refine List.all_eq_true.2 fun q hq => ?_
      obtain ⟨hg, ht⟩ := hr ⟨q, by simp at hq; omega⟩
      rw [hg, List.all_eq_true.2 ht, Bool.and_self]
    exact ⟨_, congrArg Host.Outcome.next (if_pos ⟨hc, hg, hs, hb, hh, hp, hall⟩), completeStart_shows s⟩
  case check =>
    exact congrArg Host.Outcome.next (if_pos ⟨hl, hj, hn, List.all_eq_true.2 hu, hr⟩)
  case retrain =>
    have ho : (s.chan ch).ops.any Op.started = false := by simpa using ho
    refine congrArg Host.Outcome.next (if_pos ?_)
    rcases hr with hr | ⟨hr, hk⟩
    · simp [hl, hj, hu, hr, ho]
    · simp [hl, hj, hu, hr, hk, ho]

end Sys2Proof.Machine
end

section
/-!
SUPPORT. What the engines do at a gap, a frame start or the end of a booking leaves the raster timebase as it was, function
by function.
-/

namespace Sys2Proof.Machine

/-- The raster timebase stands at `p`. -/
def HasTb (p : Tb) (s : State) : Prop := s.tb = p

section

variable {p : Tb} {s : State}

theorem hasTb_of {t : State} (h : HasTb p s) (e : t.tb = s.tb) : HasTb p t := e.trans h

theorem hasTb_ite {a b : State} {c : Prop} [Decidable c] (ha : HasTb p a) (hb : HasTb p b) : HasTb p (if c then a else b) := by
  split
  · exact ha
  · exact hb

theorem hasTb_foldl {α : Type} {f : State → α → State} {l : List α} (hf : ∀ s x, HasTb p s → HasTb p (f s x))
    (h : HasTb p s) : HasTb p (l.foldl f s) := foldl_inv (HasTb p) l (fun t x _ ht => hf t x ht) h

theorem State.setSt_hasTb {a1 : Field} {a2 : Nat} (h : HasTb p s) : HasTb p (State.setSt s a1 a2) := by
  unfold State.setSt
  exact hasTb_ite h (h)

theorem State.tell_hasTb {a1 : Field} {a2 : News} (h : HasTb p s) :
    HasTb p (State.tell s a1 a2) := by
  unfold State.tell
  exact (hasTb_of h rfl)

theorem State.bump_hasTb {a1 : Field} {a2 : Nat} (h : HasTb p s) :
    HasTb p (State.bump s a1 a2) := by
  unfold State.bump
  exact (State.tell_hasTb (State.setSt_hasTb h))

theorem State.setCfgWord_hasTb {a1 : Nat} {a2 : Word} (h : HasTb p s) : HasTb p (State.setCfgWord s a1 a2) := by
  unfold State.setCfgWord
  exact hasTb_ite h (h)

theorem State.setCf_hasTb {a1 : Field} {a2 : Nat} (h : HasTb p s) :
    HasTb p (State.setCf s a1 a2) := by
  unfold State.setCf
  exact (State.setCfgWord_hasTb h)

theorem State.stamp_hasTb {a1 : Field} {a2 : Field} (h : HasTb p s) :
    HasTb p (State.stamp s a1 a2) := by
  unfold State.stamp
  exact (State.setSt_hasTb (State.setSt_hasTb h))

theorem State.onChan_hasTb {a1 : Nat} {a2 : Chan → Chan} (h : HasTb p s) :
    HasTb p (State.onChan s a1 a2) := by
  unfold State.onChan
  exact (hasTb_of h rfl)

theorem State.onCal_hasTb {a1 : Nat} {a2 : ChanCal → ChanCal} (h : HasTb p s) :
    HasTb p (State.onCal s a1 a2) := by
  unfold State.onCal
  exact (hasTb_of h rfl)

theorem State.onQuad_hasTb {a1 : Nat} {a2 : Quad → Quad} (h : HasTb p s) :
    HasTb p (State.onQuad s a1 a2) := by
  unfold State.onQuad
  exact (hasTb_of h rfl)

theorem State.onPort_hasTb {a1 : Nat} {a2 : Port → Port} (h : HasTb p s) :
    HasTb p (State.onPort s a1 a2) := by
  unfold State.onPort
  exact (hasTb_of h rfl)

theorem State.onRanks_hasTb {a1 : Nat} {a2 : Rank → Rank} (h : HasTb p s) :
    HasTb p (State.onRanks s a1 a2) := by
  unfold State.onRanks
  exact (State.onChan_hasTb h)

theorem State.onPerf_hasTb {a1 : Perf → Perf} (h : HasTb p s) :
    HasTb p (State.onPerf s a1) := by
  unfold State.onPerf
  exact (hasTb_of h rfl)

theorem State.onEvac_hasTb {a1 : Evac → Evac} (h : HasTb p s) :
    HasTb p (State.onEvac s a1) := by
  unfold State.onEvac
  extract_lets x1
  exact (hasTb_of h rfl)

theorem post_hasTb {a0 : GapKind} {a1 : Scope} {a2 : Work} {a3 a4 a6 : Nat} (h : HasTb p s) :
    HasTb p (post a0 a1 a2 a3 a4 s a6).2 := hasTb_of h rfl

theorem State.unpost_hasTb {a1 : Booking → Bool} (h : HasTb p s) :
    HasTb p (State.unpost s a1) := by
  unfold State.unpost
  extract_lets x1
  exact (hasTb_of h rfl)

theorem State.onPll_hasTb {a1 : PllId} {a2 : Pll → Pll} (h : HasTb p s) :
    HasTb p (State.onPll s a1 a2) := by
  unfold State.onPll
  split
  · extract_lets x1
    exact (hasTb_of h rfl)
  · extract_lets x2
    exact (hasTb_of h rfl)

theorem startPll_hasTb {a0 : PllId} {a1 : PllWhy} {a2 : Nat} (h : HasTb p s) :
    HasTb p (startPll a0 a1 a2 s) := by
  unfold startPll
  exact (State.onPll_hasTb h)

theorem dropBookings_hasTb {a0 : Work} (h : HasTb p s) : HasTb p (dropBookings a0 s) := by
  unfold dropBookings
  extract_lets x1
  exact (hasTb_of h rfl)

theorem unprelock_hasTb (h : HasTb p s) : HasTb p (unprelock s) := by
  unfold unprelock
  exact (hasTb_foldl (fun _ _ h1 => (hasTb_foldl (fun _ _ h2 => (hasTb_ite (startPll_hasTb h2) h2)) h1)) h)

theorem endPending_hasTb (h : HasTb p s) : HasTb p (endPending s) := by
  unfold endPending
  extract_lets x1 x2 x3
  have h4 : HasTb p x1 := (dropBookings_hasTb h)
  have h5 : HasTb p x3 := (hasTb_of h4 rfl)
  exact (State.setSt_hasTb h5)

theorem startHandshake_hasTb {a0 : Nat} (h : HasTb p s) : HasTb p (startHandshake a0 s) := by
  unfold startHandshake
  extract_lets x1 x2
  exact (hasTb_of h rfl)

theorem prelock_hasTb {a0 : Nat} {a1 : Pll → Bool} (h : HasTb p s) :
    HasTb p (prelock a0 a1 s) := by
  unfold prelock
  exact (hasTb_foldl (fun _ _ h1 => (hasTb_ite (hasTb_foldl (fun _ _ h2 => (startPll_hasTb h2)) h1) h1)) h)

theorem clearFsp_hasTb (h : HasTb p s) : HasTb p (clearFsp s) := by
  unfold clearFsp
  exact (hasTb_foldl (fun _ _ h1 => (State.onRanks_hasTb h1)) h)

theorem beginPending_hasTb {a0 : Nat} (h : HasTb p s) : HasTb p (beginPending a0 s) := by
  unfold beginPending
  extract_lets x1 x2
  have h3 : HasTb p x2 := (hasTb_of h rfl)
  exact (prelock_hasTb (clearFsp_hasTb (State.setSt_hasTb h3)))

theorem retarget_hasTb {a0 : Nat} (h : HasTb p s) : HasTb p (retarget a0 s) := by
  unfold retarget
  extract_lets x1 x2
  have h3 : HasTb p x2 := (dropBookings_hasTb (hasTb_of h rfl))
  exact (prelock_hasTb (clearFsp_hasTb (State.setSt_hasTb h3)))

theorem requestOp_hasTb {a0 : Nat} (h : HasTb p s) : HasTb p (requestOp a0 s) := by
  unfold requestOp
  extract_lets x1
  exact (hasTb_ite (hasTb_of h rfl) (hasTb_ite (hasTb_ite (unprelock_hasTb (endPending_hasTb h)) (hasTb_ite h (retarget_hasTb h))) (hasTb_ite (hasTb_of h rfl) (hasTb_ite (beginPending_hasTb h) (hasTb_of h rfl)))))

theorem tryPostOp_hasTb (h : HasTb p s) : HasTb p (tryPostOp s) := by
  unfold tryPostOp
  extract_lets x1 x2
  apply hasTb_ite
  · split
    · rename_i heq
      have h3 := congrArg Prod.snd heq ▸ post_hasTb h
      extract_lets x4
      exact (hasTb_of h3 rfl)
  · exact h

theorem policy_hasTb (h : HasTb p s) : HasTb p (policy s) := by
  unfold policy
  apply hasTb_ite
  · exact h
  · split
    · exact h
    · extract_lets x1 x2 x3
      have h4 : HasTb p x3 := (hasTb_of h rfl)
      apply hasTb_ite
      · apply hasTb_ite
        · split
          · exact (requestOp_hasTb h4)
          · exact h4
        · exact h4
      · exact (requestOp_hasTb (hasTb_of h rfl))

theorem opFrame_hasTb (h : HasTb p s) : HasTb p (opFrame s) := by
  unfold opFrame
  extract_lets x1 x2
  have h3 : HasTb p x1 := (State.setSt_hasTb h)
  exact (policy_hasTb (hasTb_of h3 rfl))

theorem opStep_hasTb {a0 : Nat} (h : HasTb p s) : HasTb p (opStep a0 s) := by
  unfold opStep
  extract_lets x1
  exact (hasTb_of h rfl)

theorem opStep2_hasTb (h : HasTb p s) : HasTb p (opStep2 s) := by
  unfold opStep2
  exact (hasTb_foldl (fun _ _ h1 => (State.onRanks_hasTb h1)) (opStep_hasTb h))

theorem opGranted_hasTb (h : HasTb p s) : HasTb p (opGranted s) := by
  unfold opGranted
  extract_lets x1 x2 x3
  have h4 : HasTb p x2 := (hasTb_of h rfl)
  exact (hasTb_ite (startHandshake_hasTb (opStep_hasTb h4)) (opStep2_hasTb h4))

theorem regate_hasTb {a0 : Nat} (h : HasTb p s) : HasTb p (regate a0 s) := by
  unfold regate
  extract_lets x1
  exact (hasTb_ite (State.onPort_hasTb h) h)

theorem commitGates_hasTb (h : HasTb p s) : HasTb p (commitGates s) := by
  unfold commitGates
  extract_lets x1 x2
  have h3 : HasTb p x2 := (hasTb_of h rfl)
  exact (State.bump_hasTb (hasTb_foldl (fun _ _ h4 => (regate_hasTb h4)) h3))

theorem State.onScrub_hasTb {a1 : Nat} {a2 : ScrubPass → ScrubPass} (h : HasTb p s) :
    HasTb p (State.onScrub s a1 a2) := by
  unfold State.onScrub
  exact (State.onQuad_hasTb h)

theorem bookedPermit_hasTb {a0 : Nat} {a1 : Duty} {a2 : Nat} (h : HasTb p s) :
    HasTb p (bookedPermit a0 a1 a2 s) := by
  unfold bookedPermit
  exact (State.onChan_hasTb h)

theorem endPermit_hasTb {a0 : Nat} {a1 : Duty} (h : HasTb p s) :
    HasTb p (endPermit a0 a1 s) := by
  unfold endPermit
  exact (State.onChan_hasTb h)

theorem beginSwap_hasTb (h : HasTb p s) : HasTb p (beginSwap s) := by
  unfold beginSwap
  split
  · exact (hasTb_ite (State.onChan_hasTb (State.onEvac_hasTb h)) h)
  · exact h

theorem stampCal_hasTb {a0 : Nat} (h : HasTb p s) : HasTb p (stampCal a0 s) := by
  unfold stampCal
  exact (State.stamp_hasTb h)

theorem stepOverrun_hasTb {a0 : Nat} (h : HasTb p s) : HasTb p (stepOverrun a0 s) := by
  unfold stepOverrun
  split
  · exact h
  · split
    · exact h
    · extract_lets x1 x2 x3 x4
      exact (hasTb_ite h (hasTb_of h rfl))

theorem stepDone_hasTb {a0 : Nat} (h : HasTb p s) : HasTb p (stepDone a0 s) := by
  unfold stepDone
  extract_lets x1
  have h2 : HasTb p x1 := (State.onCal_hasTb (stepOverrun_hasTb h))
  exact (stampCal_hasTb (State.bump_hasTb h2))

theorem startJob_hasTb {a0 : Nat} {a1 : CalJob} (h : HasTb p s) :
    HasTb p (startJob a0 a1 s) := by
  unfold startJob
  extract_lets x1
  exact (State.onCal_hasTb (State.onChan_hasTb h))

theorem beginStep_hasTb {a0 : Nat} {a1 : Nat} {a2 : Nat} (h : HasTb p s) :
    HasTb p (beginStep a0 a1 a2 s) := by
  unfold beginStep
  extract_lets x1 x2 x3 x4
  have h5 : HasTb p x2 := (State.onCal_hasTb h)
  split
  · exact (State.setSt_hasTb (startJob_hasTb h5))
  · exact (State.onCal_hasTb h5)
  · exact (State.bump_hasTb (State.onCal_hasTb h5))
  · exact h5

theorem settleFill_hasTb {a0 : Nat} (h : HasTb p s) : HasTb p (settleFill a0 s) := by
  unfold settleFill
  split
  · exact (hasTb_ite (stepDone_hasTb h) h)
  · exact h

theorem setCounter_hasTb {a0 : CounterId} {a1 : Nat} (h : HasTb p s) :
    HasTb p (setCounter a0 a1 s) := by
  unfold setCounter
  exact (State.setCf_hasTb (State.setCf_hasTb h))

theorem clearCounter_hasTb {a0 : CounterId} (h : HasTb p s) :
    HasTb p (clearCounter a0 s) := by
  unfold clearCounter
  exact (setCounter_hasTb (State.onPerf_hasTb h))

theorem clearBushel_hasTb (h : HasTb p s) : HasTb p (clearBushel s) := by
  unfold clearBushel
  exact (hasTb_ite h (hasTb_foldl (fun _ _ h1 => (clearCounter_hasTb h1)) h))

theorem snapshot_hasTb (h : HasTb p s) : HasTb p (snapshot s) := by
  unfold snapshot
  extract_lets x1 x2 x3
  have h4 : HasTb p x1 := by
    unfold x1
    refine hasTb_foldl (fun _ _ h7 => ?_) ?_
    · extract_lets x8
      exact (State.setSt_hasTb (State.setSt_hasTb h7))
    · exact h
  have h9 : HasTb p x2 := (State.setSt_hasTb h4)
  have h10 : HasTb p x3 := (State.onPerf_hasTb h9)
  exact (hasTb_ite h (hasTb_ite (clearBushel_hasTb h10) h10))

theorem postOnce_hasTb {a0 : GapKind} {a1 : Nat} {a2 : Work} {a3 : Nat} {a4 : Nat} {a5 : Nat} (h : HasTb p s) :
    HasTb p (postOnce a0 a1 a2 a3 a4 a5 s) := by
  unfold postOnce
  extract_lets x1
  exact (hasTb_ite h (post_hasTb h))

theorem postRefresh_hasTb {a0 : GapKind} {a1 : Nat} (h : HasTb p s) :
    HasTb p (postRefresh a0 a1 s) := by
  unfold postRefresh
  extract_lets x1
  exact (hasTb_ite (postOnce_hasTb h) h)

theorem postSteps_hasTb {a0 : GapKind} {a1 : Nat} (h : HasTb p s) :
    HasTb p (postSteps a0 a1 s) := by
  unfold postSteps
  refine hasTb_foldl (fun _ _ h2 => ?_) ?_
  · extract_lets x3
    exact (hasTb_ite (postOnce_hasTb h2) h2)
  · exact h

theorem postDuties_hasTb {a0 : GapKind} {a1 : Nat} (h : HasTb p s) :
    HasTb p (postDuties a0 a1 s) := by
  unfold postDuties
  refine hasTb_foldl (fun _ _ h2 => ?_) ?_
  · extract_lets x3
    exact (hasTb_ite (postOnce_hasTb h2) h2)
  · exact h

theorem postAll_hasTb {a0 : GapKind} (h : HasTb p s) : HasTb p (postAll a0 s) := by
  unfold postAll
  exact (hasTb_foldl (fun _ _ h1 => (postDuties_hasTb (postSteps_hasTb (postRefresh_hasTb h1)))) (tryPostOp_hasTb h))

theorem beginWork_hasTb {a0 : Booking} (h : HasTb p s) : HasTb p (beginWork a0 s) := by
  unfold beginWork
  split
  · exact (hasTb_ite (opGranted_hasTb h) h)
  · exact h
  · extract_lets x1 x2
    exact (beginStep_hasTb h)
  · split
    · exact (hasTb_ite (beginSwap_hasTb h) h)
    · exact h
  · exact (bookedPermit_hasTb h)
  · exact (bookedPermit_hasTb h)
  · exact (bookedPermit_hasTb h)

theorem beginGrants_hasTb (h : HasTb p s) : HasTb p (beginGrants s) := by
  unfold beginGrants
  refine hasTb_foldl (fun _ _ h2 => ?_) ?_
  · extract_lets x3 x4
    exact (hasTb_ite h2 (beginWork_hasTb (hasTb_of h2 rfl)))
  · exact h

theorem endWork_hasTb {a0 : Booking} (h : HasTb p s) : HasTb p (endWork a0 s) := by
  unfold endWork
  extract_lets x1
  split
  · exact (hasTb_ite h (endPermit_hasTb h))
  · exact (hasTb_ite h (endPermit_hasTb h))
  · exact (hasTb_ite h (endPermit_hasTb h))
  · exact (settleFill_hasTb h)
  · exact h

theorem grantBooking_hasTb {a0 : GapKind} {a1 : Nat} {a2 : Booking} (h : HasTb p s) :
    HasTb p (grantBooking a0 a1 a2 s) := by
  unfold grantBooking
  extract_lets x1 x2 x3 x4 x5 x6
  have h7 : HasTb p x2 := (State.unpost_hasTb h)
  have h8 : HasTb p x4 := (hasTb_of h7 rfl)
  split
  · exact (hasTb_of h8 rfl)
  · exact (hasTb_of h8 rfl)
  · exact (hasTb_ite (State.onScrub_hasTb h8) h8)
  · exact h8

theorem noteNoFit_hasTb {a0 : Booking} (h : HasTb p s) : HasTb p (noteNoFit a0 s) := by
  unfold noteNoFit
  extract_lets x1
  exact (hasTb_of h rfl)

theorem tooLong_hasTb {a0 : Nat} {a1 : Booking} (h : HasTb p s) :
    HasTb p (tooLong a0 a1 s) := by
  unfold tooLong
  extract_lets x1 x2 x3 x4
  have h5 : HasTb p x1 := (hasTb_ite h (noteNoFit_hasTb (State.bump_hasTb h)))
  split
  · exact (hasTb_ite h5 (State.bump_hasTb h5))
  · exact (hasTb_ite h5 (hasTb_of h5 rfl))
  · exact (hasTb_ite h5 (State.onScrub_hasTb (State.unpost_hasTb h5)))
  · exact h5

theorem tryGrant_hasTb {a0 : GapKind} {a1 : Nat} {a2 : List (GapKind × Scope × Nat)} {a3 : Booking} (h : HasTb p s) :
    HasTb p (tryGrant a0 a1 a2 a3 s) := by
  unfold tryGrant
  extract_lets x1 x2
  exact (hasTb_ite (hasTb_ite (tooLong_hasTb h) h) (hasTb_ite (grantBooking_hasTb h) h))

theorem forceSwap_hasTb (h : HasTb p s) : HasTb p (forceSwap s) := by
  unfold forceSwap
  extract_lets x1 x2
  have h3 : HasTb p x2 := (hasTb_of h rfl)
  exact (hasTb_ite (beginSwap_hasTb (State.unpost_hasTb (State.bump_hasTb h3))) h)

theorem swapHeld_hasTb (h : HasTb p s) : HasTb p (swapHeld s) := by
  unfold swapHeld
  extract_lets x1
  exact (hasTb_ite (hasTb_of h rfl) h)

theorem countLate_hasTb (h : HasTb p s) : HasTb p (countLate s) := by
  unfold countLate
  extract_lets x1 x2 x3 x4 x5 x6
  have h7 : HasTb p x1 := (swapHeld_hasTb h)
  have h8 : HasTb p x3 := (hasTb_of h7 rfl)
  have h9 : HasTb p x5 := (State.bump_hasTb (State.bump_hasTb h8))
  exact (hasTb_of h9 rfl)

theorem frameWork_hasTb (h : HasTb p s) : HasTb p (frameWork s) := by
  unfold frameWork
  extract_lets x1 x2 x3 x4
  have h5 : HasTb p x1 := (hasTb_ite (opFrame_hasTb h) h)
  have h6 : HasTb p x2 := (hasTb_foldl (fun _ _ h7 => (State.onScrub_hasTb h7)) h5)
  have h8 : HasTb p x3 := (hasTb_ite (commitGates_hasTb h6) h6)
  have h9 : HasTb p x4 := (hasTb_ite (snapshot_hasTb h8) h8)
  exact (countLate_hasTb h9)

end

end Sys2Proof.Machine
end

section
/-!
The raster: words (R183 to R204), lines and frames (R186 to R188), HOLDOVER (R195), gaps (R198 to R200) and the ends of
bookings (R202).
-/

namespace Sys2Proof.Machine

section

variable {s : State}

-- lines

theorem takes_of {w : BitVec 64} {ev : Nat} (hc : s.clocked) (hv : validWord w) (ho : s.overlapsWord = false)
    (he : wordEvent w = ev) : s.takes w ev = true := by
  simp [State.takes, hc, hv, ho, he]

theorem takes_of_overlap {w : BitVec 64} (ho : s.overlapsWord = true) (ev : Nat) : s.takes w ev = false := by
  simp [State.takes, ho]

theorem endGap_h_of_out (h : s.tb.inH = false) : endGap .h s = s := if_neg (ne_true_of_eq_false h)

theorem endGap_h_tb (s : State) : (endGap .h s).tb = { s.tb with inH := false } := by
  by_cases h : s.tb.inH = true
  · exact congrArg State.tb (if_pos h)
  · have hn : s.tb.inH = false := eq_false_of_ne_true h
    rw [endGap_h_of_out hn, ← hn]

theorem endGap_h_frame (s : State) : endGap .h s = { s with tb := (endGap .h s).tb, brk := (endGap .h s).brk } := by
  by_cases h : s.tb.inH = true
  · have he : ∃ t b, endGap .h s = { s with tb := t, brk := b } := ⟨_, _, if_pos h⟩
    obtain ⟨t, b, he⟩ := he
    rw [he]
  · rw [endGap_h_of_out (eq_false_of_ne_true h)]

theorem endGap_h_lineper (s : State) : (endGap .h s).lineper = s.lineper := by
  rw [endGap_h_frame]
  unfold State.lineper
  dsimp only
  rw [endGap_h_tb]
  rfl

/-- A line begins at grain 0, with no horizontal gap open. -/
theorem beginLine_tb (l : BitVec 16) (own : Bool) (s : State) : (beginLine l own s).tb =
    { s.tb with inH := false, line := l, t := 0, own := own, linePeriod := s.lineper } := by
  unfold beginLine
  dsimp only
  rw [endGap_h_lineper, endGap_h_tb]

theorem beginLine_frame (l : BitVec 16) (own : Bool) (s : State) :
    beginLine l own s = { s with tb := (beginLine l own s).tb, brk := (beginLine l own s).brk } := by
  unfold beginLine
  dsimp only
  rw [endGap_h_frame]

theorem slip_frame (s : State) : SameButStat s (slip s) := by
  unfold slip
  split
  · rfl
  · exact bump_frame _ _ _

theorem slip_tb (s : State) : (slip s).tb = s.tb := by rw [slip_frame s]

/-- The state of the timebase after a line-start word (R194, R195). -/
def afterLineWord (st : TbState) : TbState := if st = .holdover then .locked else st

theorem lineper_afterLineWord (s : State) (f : BitVec 24) : ({ s with tb := { s.tb with
    frame := f, since := 0, held := 0, state := afterLineWord s.tb.state } } : State).lineper = s.lineper := by
  have h : ∀ x : TbState, (afterLineWord x == .nosync || afterLineWord x == .acquire) = (x == .nosync || x == .acquire) := by
    intro x
    cases x <;> rfl
  simp only [State.lineper, Tb.synthetic, h]
  rfl

theorem lineWord_eq (w : BitVec 64) (s : State) : ∃ t, SameButStat s t ∧ lineWord w s = beginLine (wordLine w) false
    { t with tb := { t.tb with
      frame := wordFrame w, since := 0, held := 0, state := afterLineWord t.tb.state } } := by
  unfold lineWord
  dsimp only
  split
  · exact ⟨s, .refl s, rfl⟩
  · exact ⟨slip s, slip_frame s, rfl⟩

theorem lineWord_frame (w : BitVec 64) (s : State) : lineWord w s = { s with
    tb := (lineWord w s).tb, brk := (lineWord w s).brk, stat := (lineWord w s).stat, news := (lineWord w s).news } := by
  obtain ⟨t, ht, he⟩ := lineWord_eq w s
  unfold SameButStat at ht
  rw [he, beginLine_frame, ht]

theorem lineWord_tb (w : BitVec 64) (s : State) : (lineWord w s).tb = { s.tb with
    frame := wordFrame w, since := 0, held := 0, state := afterLineWord s.tb.state
    inH := false, line := wordLine w, t := 0, own := false, linePeriod := s.lineper } := by
  obtain ⟨t, ht, he⟩ := lineWord_eq w s
  unfold SameButStat at ht
  rw [he, beginLine_tb, lineper_afterLineWord, ht]
  rfl

/-- A word leaves the period that the raster runs on. -/
theorem takeWord_lineper (w : BitVec 64) (s : State) : (takeWord w s).lineper = s.lineper := by
  by_cases h : s.tb.state = .nosync ∧ s.good = true
  · have hs : (takeWord w s).tb.state = .acquire := if_pos h
    simp [State.lineper, Tb.synthetic, hs, h.1]
    rfl
  · have hs : (takeWord w s).tb.state = s.tb.state := if_neg h
    simp only [State.lineper, Tb.synthetic, hs]
    rfl

-- measurement

/-- The timebase but for its measurement, its state and the lines without a word. -/
def Tb.place (b : Tb) : Tb :=
  { b with state := .nosync, period := 0, cand := none, meas := none, mcPend := false, since := 0 }

/-- Two states differ in what a measurement may write: the timebase, the policy's count and the status registers. -/
def Measured (s t : State) : Prop :=
  t = { s with tb := t.tb, op := t.op, stat := t.stat, news := t.news } ∧ t.tb.place = s.tb.place ∧
    (s.tb.since = 0 → t.tb.since = 0)

theorem Measured.trans {t u : State} (h : Measured s t) (h' : Measured t u) : Measured s u := by
  obtain ⟨he, hp, hs⟩ := h
  obtain ⟨he', hp', hs'⟩ := h'
  refine ⟨?_, hp'.trans hp, fun h => hs' (hs h)⟩
  rw [he', he]

theorem SameButStat.measured {t : State} (h : SameButStat s t) : Measured s t := by
  unfold SameButStat at h
  have ht : t.tb = s.tb := by rw [h]
  refine ⟨?_, by rw [ht], fun h => by rw [ht]; exact h⟩
  rw [h]

theorem accept_measured (m : Nat) (s : State) : Measured s (accept m s) := by
  unfold accept
  split
  · exact Measured.trans ⟨rfl, rfl, id⟩ ((bump_frame _ _ _).trans (event_frame _ _)).measured
  · split
    · exact ⟨rfl, rfl, fun _ => rfl⟩
    · split
      · exact ⟨rfl, rfl, id⟩
      · split
        · exact ⟨rfl, rfl, id⟩
        · split
          · exact Measured.trans ⟨rfl, rfl, id⟩ ((bump_frame _ _ _).trans (event_frame _ _)).measured
          · exact ⟨rfl, rfl, id⟩

theorem measure_measured (f : BitVec 24) (l : Nat) (s : State) : Measured s (measure f l s) := by
  have h : Measured s { s with tb := { s.tb with meas := some (f, l, s.now) } } := ⟨rfl, rfl, id⟩
  unfold measure
  split
  · exact ⟨rfl, rfl, id⟩
  · dsimp only
    split
    · split
      · split
        · exact h.trans (bump_frame _ _ _).measured
        · exact h.trans (accept_measured _ _)
      · exact h
    · exact h

/-- What a line-start word shows, its measurement included. -/
theorem lineWord_measured_place (w : BitVec 64) (f : BitVec 24) (l : Nat) (s : State) :
    (measure f l (lineWord w s)).tb.place = (lineWord w s).tb.place ∧ (measure f l (lineWord w s)).tb.since = 0 := by
  obtain ⟨_, hp, hs⟩ := measure_measured f l (lineWord w s)
  exact ⟨hp, hs (by rw [lineWord_tb])⟩

-- frames

theorem frameWork_tb (s : State) : (frameWork s).tb = s.tb := frameWork_hasTb rfl

/-- A new frame begins line 0 at grain 0. -/
theorem newFrame_shows (f : BitVec 24) (own : Bool) (s : State) : (newFrame f own s).tb.frame = f ∧
    (newFrame f own s).tb.line = 0 ∧ (newFrame f own s).tb.t = 0 ∧ (newFrame f own s).tb.own = own := by
  unfold newFrame
  dsimp only
  rw [frameWork_tb, beginLine_tb]
  exact ⟨rfl, rfl, rfl, rfl⟩

theorem execFrameStart_of_takes {w : BitVec 64} (h : s.takes w 2) : ∃ u : State, execFrameStart w s =
    .next (measure (wordFrame w) 0 (if (takeWord w s).justBegun 0
      then beginLine 0 false { u with tb := { u.tb with frame := wordFrame w } } else newFrame (wordFrame w) false u)) := by
  unfold execFrameStart
  rw [if_neg (by simp [h])]
  exact ⟨_, rfl⟩

/-- The fields of the timebase that a measurement keeps. -/
theorem place_fields {a b : Tb} (h : a.place = b.place) : a.last = b.last ∧ a.frame = b.frame ∧ a.line = b.line ∧
    a.t = b.t ∧ a.own = b.own ∧ a.inV = b.inV ∧ a.inH = b.inH ∧ a.linePeriod = b.linePeriod ∧ a.vbSeen = b.vbSeen := by
  have k : ∀ {β : Type} (g : Tb → β), g a.place = g b.place := fun g => congrArg g h
  exact ⟨k Tb.last, k Tb.frame, k Tb.line, k Tb.t, k Tb.own, k Tb.inV, k Tb.inH, k Tb.linePeriod, k Tb.vbSeen⟩

-- gaps

/-- The timebase in which a gap has opened: a vertical gap has no horizontal one in it (R200). -/
def State.gapTb (s : State) : GapKind → Tb
  | .h => { s.tb with inH := true, hgap := s.gapEstimate .h }
  | .v => { s.tb with inV := true, inH := false, vgap := s.gapEstimate .v }

theorem endGap_gapTb (s : State) : HasTb (s.gapTb .v)
    { endGap .h s with tb := { (endGap .h s).tb with inV := true, vgap := s.gapEstimate .v } } := by
  unfold HasTb
  dsimp only
  rw [endGap_h_tb]
  rfl

/-- The state that marks a gap at its start. -/
def State.gapMarked (s : State) (g : GapKind) : State :=
  match g with
  | .h => { s with tb := { s.tb with inH := true, hgap := s.gapEstimate g } }
  | .v => forceSwap { endGap .h s with tb := { (endGap .h s).tb with inV := true, vgap := s.gapEstimate g } }

theorem gapMarked_hasTb (g : GapKind) (s : State) : HasTb (s.gapTb g) (s.gapMarked g) := by
  cases g with
  | h => rfl
  | v => exact forceSwap_hasTb (endGap_gapTb s)

theorem openGap_hasTb {p : Tb} {g : GapKind} (h : HasTb p (s.gapMarked g)) : HasTb p (openGap g s) := by
  unfold openGap
  extract_lets est _ ended _ marked posted _ _ cleared _ granted
  have hm : HasTb p marked := by cases g <;> exact h
  have hp : HasTb p posted := postAll_hasTb hm
  clear_value posted
  have hc : HasTb p cleared := hasTb_of hp rfl
  have hg : HasTb p granted := hasTb_foldl (fun _ _ h => tryGrant_hasTb h) hc
  exact beginGrants_hasTb (State.unpost_hasTb hg)

/-- Opening a gap writes the timebase at its start alone. -/
theorem openGap_tb (g : GapKind) (s : State) : (openGap g s).tb = s.gapTb g := openGap_hasTb (gapMarked_hasTb g s)

theorem gapsUsed_of (hc : s.clocked) (hg : s.good) (hp : s.tb.linePeriod ≠ 0) (h0 : s.clk.startStep = 0) :
    s.gapsUsed = true := by
  simp [State.gapsUsed, State.rasterRuns, hc, hg, hp, h0]

/-- A vertical blank word leaves what the use of gaps depends on, but for the line. -/
theorem gapsUsed_of_word {t : State} (ht : t = { s with
      tb := t.tb, brk := t.brk, op := t.op, stat := t.stat, news := t.news }) (hc : s.clocked) (hg : s.good)
    (h0 : s.clk.startStep = 0) (hp : t.tb.linePeriod ≠ 0) : t.gapsUsed = true := by
  refine gapsUsed_of ?_ ?_ hp ?_
  · rw [ht]; exact hc
  · rw [ht]; exact hg
  · rw [ht]; exact h0

-- bookings end

theorem stampCal_work (q : Nat) (s : State) : ChannelWork s (stampCal q s) := (stamp_frame _ _ _).work

theorem stepOverrun_work (c : Nat) (s : State) : ChannelWork s (stepOverrun c s) ∧
    (stepOverrun c s).brk.granted = s.brk.granted := by
  unfold stepOverrun
  split
  · exact ⟨rfl, rfl⟩
  · split
    · exact ⟨rfl, rfl⟩
    · dsimp only
      split
      · exact ⟨rfl, rfl⟩
      · exact ⟨rfl, rfl⟩

theorem stepDone_work (c : Nat) (s : State) : ChannelWork s (stepDone c s) ∧
    (stepDone c s).brk.granted = s.brk.granted := by
  obtain ⟨h, hg⟩ := stepOverrun_work c s
  refine ⟨((h.trans (onCal_work _ _ _)).trans (bump_frame _ _ _).work).trans (stampCal_work _ _), ?_⟩
  unfold stepDone stampCal
  simp only [State.stamp_brk, State.bump_brk]
  exact hg

theorem settleFill_work (c : Nat) (s : State) : ChannelWork s (settleFill c s) ∧
    (settleFill c s).brk.granted = s.brk.granted := by
  unfold settleFill
  split
  · split
    · exact stepDone_work c s
    · exact ⟨rfl, rfl⟩
  · exact ⟨rfl, rfl⟩

theorem endPermit_work (c : Nat) (d : Duty) (s : State) : ChannelWork s (endPermit c d s) ∧
    (endPermit c d s).brk.granted = s.brk.granted := ⟨rfl, rfl⟩

/-- The work of a booking ends on its channels, and no other booking with it. -/
theorem endWork_work (b : Booking) (s : State) : ChannelWork s (endWork b s) ∧
    (endWork b s).brk.granted = s.brk.granted := by
  have hp : ∀ d, ChannelWork s (if s.granted b.work b.unit = true then s else endPermit b.unit d s) ∧
      (if s.granted b.work b.unit = true then s else endPermit b.unit d s).brk.granted = s.brk.granted := by
    intro d
    split
    · exact ⟨rfl, rfl⟩
    · exact endPermit_work _ _ _
  unfold endWork
  dsimp only
  split
  · exact hp _
  · exact hp _
  · exact hp _
  · exact settleFill_work _ _
  · exact ⟨rfl, rfl⟩

theorem execBookingEnd_of_over {g : Grant} (hc : s.clocked)
    (hf : s.brk.granted.find? (fun x => x.book.id == g.book.id) = some g) (ho : s.grantOver g) :
    execBookingEnd g.book.id s = .next (endWork g.book
      { s with brk := { s.brk with granted := s.brk.granted.filter fun x => x.book.id ≠ g.book.id } }) := by
  unfold execBookingEnd
  rw [hf]
  exact if_pos ⟨hc, ho⟩

-- corrupt words

theorem execCorruptWord_of_first {w : BitVec 64} (hc : s.clocked) (hy : wordSync w = 0xA7) (hv : validWord w = false)
    (ho : s.overlapsWord = false) (hr : ∀ n, s.tb.corruptAt = some n → n + 64 ≤ s.rsck) :
    execCorruptWord w s =
      let t : State := { s.bump TB_RSIERR_CRC with
        tb := { s.tb with corruptAt := some s.rsck, corrupt := s.tb.corrupt + 1 } }
      .next (if s.tb.corrupt + 1 = 16 then raise .rsiword 0 0 t else t) := by
  unfold execCorruptWord
  dsimp only
  cases h : s.tb.corruptAt with
  | none =>
    rw [if_pos ⟨hc, hy, by simp [hv], by simp [ho], rfl⟩]
    simp only [State.bump_tb, State.bump_rsck]
  | some n =>
    rw [if_pos ⟨hc, hy, by simp [hv], by simp [ho], by simpa using hr n h⟩]
    simp only [State.bump_tb, State.bump_rsck]

theorem execCorruptWord_of_recent {w : BitVec 64} {n : Nat} (h : s.tb.corruptAt = some n) (hn : s.rsck < n + 64) :
    execCorruptWord w s = .next s := by
  unfold execCorruptWord
  rw [h]
  exact if_neg (by simp [hn])

end

/-- Settles O14: a word is taken by `takeWord`; a line-start word begins its line in `lineWord`, which a measurement keeps; a
corrupt word is a bump of its counter. -/
theorem rasterWordsActByTheirEvent : Obligations.RasterWordsActByTheirEvent := by
  refine ⟨fun s w hc hv ho => ⟨fun he => ?none, fun he => ?line, fun he hg => ?mode⟩, fun s w hs hc hy hv ho => ⟨fun hr => ?first,
    fun n hn hr => execCorruptWord_of_recent hn hr⟩, fun s w ho c hm => ?overlap⟩
  case none => exact ⟨_, congrArg Host.Outcome.next (if_pos (takes_of hc hv ho he)), rfl, rfl, rfl⟩
  case line =>
    obtain ⟨hp, h0⟩ := lineWord_measured_place w (wordFrame w) (wordLine w).toNat (takeWord w s)
    have hl := lineWord_tb w (takeWord w s)
    obtain ⟨hlast, hframe, hline, ht, hown, _, hinH, _, _⟩ := place_fields hp
    refine ⟨_, congrArg Host.Outcome.next (if_pos (takes_of hc hv ho he)), ?_, ?_, ?_, ?_, ?_, h0, ?_⟩
    · rw [hlast, hl]; rfl
    · rw [hline, hl]
    · rw [ht, hl]
    · rw [hown, hl]
    · rw [hinH, hl]
    · rw [hframe, hl]
  case mode =>
    have hg' : (takeWord w s).good = true := hg
    refine ⟨_, congrArg Host.Outcome.next ((if_pos (takes_of hc hv ho he)).trans (if_pos hg')), rfl, rfl, rfl, rfl, rfl, rfl⟩
  case first =>
    have hb := bump_counts (s := s) (t := s) rfl rfl (canonical_stat hs) (f := TB_RSIERR_CRC) (by decide)
    have hf := bump_frame s TB_RSIERR_CRC 1
    have ho' := fun g hg => State.st_bump_other (s := s) TB_RSIERR_CRC g 1 (canonical_stat hs) (.inl hg)
    unfold SameButStat at hf
    refine ⟨_, execCorruptWord_of_first hc hy hv ho hr, ?_, fun hz => ?_, fun g hg => ?_, ?_, fun hn => ?_⟩
    all_goals split
    · rfl
    · rfl
    · exact (hb hz).1
    · exact (hb hz).1
    · exact ho' g hg
    · exact ho' g hg
    · rw [hf]; rfl
    · rw [hf]
    · contradiction
    · simp
  case overlap =>
    simp only [List.mem_cons, List.not_mem_nil, or_false] at hm
    rcases hm with rfl | rfl | rfl | rfl | rfl | rfl | rfl
    · exact congrArg Host.Outcome.next (if_neg (by simp [takes_of_overlap ho]))
    · exact congrArg Host.Outcome.next (if_neg (by simp [takes_of_overlap ho]))
    · exact if_pos (by simp [takes_of_overlap ho])
    · exact if_pos (by simp [takes_of_overlap ho])
    · exact if_pos (by simp [takes_of_overlap ho])
    · exact congrArg Host.Outcome.next (if_neg (by simp [takes_of_overlap ho]))
    · exact if_neg (by simp [ho])

/-- Settles O15: a frame begins in `newFrame`, a line in `beginLine`, and a measurement keeps both. -/
theorem framesAndLinesBegin : Obligations.FramesAndLinesBegin := by
  refine ⟨fun s w hc hv ho he => ?word, fun s hl hn => ?line, fun s hl hn => ?frame⟩
  case word =>
    obtain ⟨u, hx⟩ := execFrameStart_of_takes (takes_of hc hv ho he)
    refine ⟨_, hx, ?_⟩
    obtain ⟨_, hp, _⟩ := measure_measured (wordFrame w) 0 (if (takeWord w s).justBegun 0
      then beginLine 0 false { u with tb := { u.tb with frame := wordFrame w } } else newFrame (wordFrame w) false u)
    obtain ⟨_, hframe, hline, ht, hown, _, _, _, _⟩ := place_fields hp
    rw [hframe, hline, ht, hown]
    split
    · rw [beginLine_tb]
      exact ⟨rfl, rfl, rfl, rfl⟩
    · exact newFrame_shows _ _ _
  case line =>
    have hb := beginLine_tb (s.tb.line + 1) true { s with tb := { s.tb with since := s.tb.since + 1, held := s.tb.held + 1 } }
    have hf := beginLine_frame (s.tb.line + 1) true
      { s with tb := { s.tb with since := s.tb.since + 1, held := s.tb.held + 1 } }
    refine ⟨_, if_pos ⟨hl, hn⟩, ?_, ?_, ?_, ?_, hf⟩ <;> rw [hb]
  case frame => exact ⟨_, if_pos ⟨hl, hn⟩, newFrame_shows _ _ _⟩

/-- Settles O16: entry writes the timebase, its counter and its event; the end is `enterNosync`. -/
theorem holdoverBeginsAndEnds : Obligations.HoldoverBeginsAndEnds := by
  refine ⟨fun s hs hr hl hn => ?entry, fun s hr hl hn => ?limit⟩
  case entry =>
    have hw := canonical_stat hs
    let t : State := { s with tb := { s.tb with state := .holdover, held := 0 } }
    have hf := (bump_frame t TB_RSIEVT_HOLDS 1).trans (event_frame .hold _)
    have htb : (event .hold (t.bump TB_RSIEVT_HOLDS)).tb = t.tb := by simp [event]
    have hb : (t.bump TB_RSIEVT_HOLDS).stat.wf := State.bump_stat_wf (s := t) _ _ hw
    refine ⟨_, if_pos ⟨hr, hl, hn⟩, htb, ?_, fun hz => ?_, fun hz => ?_⟩
    · rw [htb]
      exact hf
    · refine (State.st_setBits_other FT_STSEVT_EVT TB_RSIEVT_HOLDS _ hb (.inl (by decide))).trans ?_
      exact State.st_bump_self (s := t) TB_RSIEVT_HOLDS 1 hw (by decide) hz
    · exact State.event_bit .hold hb (by simpa [t] using hz)
  case limit =>
    refine ⟨_, if_pos ⟨hr, hl, hn⟩, ?_⟩
    have h : (raise .rsiword 0 1 ((enterNosync s).bump TB_RSIEVT_LOSTS)).tb = (enterNosync s).tb := State.bump_tb _ _ _
    rw [h]
    exact ⟨rfl, rfl, rfl, rfl⟩

/-- Settles O17: every gap opens in `openGap`, which writes the gap into the timebase and nothing else of it; a booking's end
is `endWork`. -/
theorem gapsOpenAndBookingsEnd : Obligations.GapsOpenAndBookingsEnd := by
  refine ⟨⟨fun s w hc hv ho he hg hp h0 hV => ?hword, fun s hg hV hH hn => ?hstart, fun s w hc hv ho he hg hp hq h0 => ?vword,
    fun s hg hw hn hV => ?vstart⟩, fun s g hc hf ho => ?ends⟩
  case hword =>
    let t : State := { takeWord w s with tb := { (takeWord w s).tb with hbGrain := some (takeWord w s).grain } }
    have hgu : t.gapsUsed = true := gapsUsed_of (s := t) hc hg hp h0
    have hrr : (takeWord w s).rasterRuns = true := by
      have := hgu
      simp only [State.gapsUsed, Bool.and_eq_true] at this
      exact this.1
    have hx : exec (.horizontalBlank w) s =
        .next (if t.gapsUsed ∧ !t.tb.inV ∧ !t.tb.inH then openGap .h t else t) :=
      (if_neg (by simp [takes_of hc hv ho he])).trans (if_neg (by simp [hrr]))
    refine ⟨_, hx, ?_⟩
    split
    next => rw [openGap_tb]; exact ⟨rfl, rfl, hV, rfl⟩
    next h =>
      have hH : t.tb.inH = true := by
        have hV' : t.tb.inV = false := hV
        simpa [hgu, hV'] using h
      exact ⟨rfl, hH, hV, rfl⟩
  case hstart =>
    exact ⟨_, congrArg Host.Outcome.next (if_pos ⟨hg, by simp [hV], by simp [hH], hn⟩), openGap_tb .h s⟩
  case vword =>
    let m : State := measure (wordFrame w) (wordLine w).toNat (lineWord w (takeWord w s))
    let t : State := { m with tb := { m.tb with vbSeen := some (m.tb.vbSeen.getD (wordLine w).toNat) } }
    have hx : exec (.verticalBlank w) s = .next (openV t) := if_neg (by simp [takes_of hc hv ho he])
    obtain ⟨hm, hpl, _⟩ := measure_measured (wordFrame w) (wordLine w).toNat (lineWord w (takeWord w s))
    obtain ⟨_, _, hline, _, _, _, hinH, hper, hseen⟩ := place_fields hpl
    have hl := lineWord_tb w (takeWord w s)
    rw [hl] at hline hinH hper hseen
    have hvb : t.tb.vbSeen = some (s.tb.vbSeen.getD (wordLine w).toNat) := congrArg (fun o => some (o.getD (wordLine w).toNat)) hseen
    have ht : t = { s with tb := t.tb, brk := t.brk, op := t.op, stat := t.stat, news := t.news } := by
      have hf := lineWord_frame w (takeWord w s)
      dsimp only [t, m]
      rw [hm, hf]
      rfl
    have hper' : t.tb.linePeriod = s.lineper := hper.trans (takeWord_lineper w s)
    have hu : t.gapsUsed = true := gapsUsed_of_word ht hc hg h0 (hper' ▸ hq)
    refine ⟨_, hx, ?_⟩
    unfold openV
    split
    next => rw [openGap_tb]; exact ⟨rfl, rfl, hline, hvb⟩
    next h =>
      have hV : t.tb.inV = true := by simpa [hu] using h
      exact ⟨hV, hinH, hline, hvb⟩
  case vstart =>
    exact ⟨_, congrArg Host.Outcome.next ((if_pos ⟨by simp [hw], hn⟩).trans (if_pos ⟨hg, by simp [hV]⟩)), openGap_tb .v s⟩
  case ends =>
    obtain ⟨hw, hb⟩ := endWork_work g.book
      { s with brk := { s.brk with granted := s.brk.granted.filter fun x => x.book.id ≠ g.book.id } }
    refine ⟨_, execBookingEnd_of_over hc hf ho, hb, ?_⟩
    unfold ChannelWork at hw
    rw [hw]
    exact ⟨rfl, rfl, rfl⟩

end Sys2Proof.Machine
end

section
/-!
The register ports: accesses that are refused or held (R151, R154, R66, R168), writes by access code and image (R156,
R157, R163), and reads that clear and capture (R159 to R162).
-/

namespace Sys2Proof.Machine

section

variable {s : State}

-- the progress of an access

theorem State.clocked_split (h : s.clocked) : s.porst = true ∧ s.rsiAlive = true := by
  simpa [State.clocked] using h

theorem beginAccess_inReset {x : Access} (hf : (s.apb x.on.1).held = none) (hp : s.porst = false) :
    beginAccess x s = if s.rsiAlive then answerApb x.on.1 true 0 s else s.onApb x.on.1 fun y => { y with held := some x } := by
  simp [beginAccess, hf, hp]

theorem beginAccess_of_held {x : Access} (hf : (s.apb x.on.1).held = none) (hp : s.porst = true)
    (hh : s.holdsAccess x = true) : beginAccess x s = s.onApb x.on.1 fun y => { y with ready := false, held := some x } := by
  simp [beginAccess, hf, hp, hh]

theorem beginAccess_of_free {x : Access} (hf : (s.apb x.on.1).held = none) (hp : s.porst = true)
    (hh : s.holdsAccess x = false) : beginAccess x s = runAccess x s := by
  simp [beginAccess, hf, hp, hh]

/-- An access of which the answer is an error holds nothing and changes nothing. -/
theorem beginAccess_refused {x : Access} (hf : (s.apb x.on.1).held = none) (ha : s.rsiAlive = true)
    (h : s.porst = false ∨ refusedAccess x.on.1 x.on.2.1 x.on.2.2 = true) :
    beginAccess x s = s.onApb x.on.1 fun _ => ⟨true, true, 0, none⟩ := by
  cases hp : s.porst with
  | false => exact (beginAccess_inReset hf hp).trans (if_pos ha)
  | true =>
    have hr := h.resolve_left (by simp [hp])
    have hh : s.holdsAccess x = false := by simp [State.holdsAccess, ha, hr]
    rw [beginAccess_of_free hf hp hh]
    cases x with
    | write w => exact if_pos hr
    | read r => exact if_pos hr

-- what a write does

theorem setCfgWord_get_self {b : Nat} (v : Word) (hw : s.cfg.wf) (hz : b ∉ s.frozen) : (s.setCfgWord b v).cfg.get b = v := by
  unfold State.setCfgWord
  split
  next h => exact h.resolve_left (by simpa using hz)
  next => exact get_set_self _ _ hw

theorem setCfgWord_get_other {b x : Nat} (v : Word) (hw : s.cfg.wf) (hx : x ≠ b) :
    (s.setCfgWord b v).cfg.get x = s.cfg.get x := by
  unfold State.setCfgWord
  split
  · rfl
  · exact get_set_other _ hw hx

theorem setCfgWord_same {b : Nat} : s.setCfgWord b (s.cfg.get b) = s := if_pos (.inr rfl)

/-- A register that only stores takes the value written (R156). -/
theorem storeReg_plain {b : Nat} {old new : Word} (hp : plainReg b) (hz : b ∉ s.frozen) :
    storeReg b old new s = s.setCfgWord b new := by
  simp only [plainReg, Bool.and_eq_true, Option.isNone_iff_eq_none, List.isEmpty_iff] at hp
  obtain ⟨⟨hc, hs⟩, hw⟩ := hp
  unfold storeReg
  rw [if_neg (by simpa using hz), hc, hs]
  dsimp only [List.foldl_nil]
  cases h : winOf b <;> simp only [h] at hw ⊢
  case tb => simp at hw; simp [hw]
  case sp => simp at hw; simp [hw]
  case pt =>
    simp at hw
    exact if_neg (by omega)
  case qd => simp at hw; simp [hw]

theorem writtenBits_of_none {im : Image} {m old : Word} {w : ApbWrite} (h : (writtenBits im m old w).1 = 0) :
    (writtenBits im m old w).2 = old := by
  have hz : ∀ x : Word, x &&& ~~~0#32 = x := fun x => by rw [show ~~~0#32 = BitVec.allOnes 32 from rfl, BitVec.and_allOnes]
  cases im with
  | base =>
    change m &&& strobeMask w.strb = 0#32 at h
    change (old &&& ~~~(m &&& strobeMask w.strb)) ||| (w.data &&& (m &&& strobeMask w.strb)) = old
    rw [h, hz, BitVec.and_zero, BitVec.or_zero]
  | set =>
    change w.data &&& m = 0#32 at h
    change old ||| (w.data &&& m) = old
    rw [h, BitVec.or_zero]
  | clear =>
    change w.data &&& m = 0#32 at h
    change old &&& ~~~(w.data &&& m) = old
    rw [h, hz]
  | toggle =>
    change w.data &&& m = 0#32 at h
    change old ^^^ (w.data &&& m) = old
    rw [h, BitVec.xor_zero]

theorem startedBits_of_none {im : Image} {d : RegDesc} {w : ApbWrite} (h : d.w1p = 0) : startedBits im d w = 0 := by
  cases im <;> simp [startedBits, h]

theorem actReg_none (a : Nat) (armed : Bool) (s : State) : actReg a 0 armed s = s := if_pos rfl

/-- A write to a register that only stores gives it its new value. -/
theorem writeReg_plain {im : Image} {b : Nat} {d : RegDesc} {w : ApbWrite} (hi : im = .base ∨ w.strb = 0xF)
    (hp : plainReg b) (h1 : d.w1p = 0) (hz : b ∉ s.frozen) : ∃ pf, writeReg im b d w s =
      { s with perf := pf }.setCfgWord b (writtenBits im (s.writable d) (s.cfg.get b) w).2 := by
  have hf : ¬ (im ≠ .base ∧ w.strb ≠ 0xF) := fun h => hi.elim h.1 h.2
  have hm : ∀ t : State, t.cfg = s.cfg → t.frozen = s.frozen → (if (writtenBits im (s.writable d) (s.cfg.get b) w).1 = 0
      then t else storeReg b (s.cfg.get b) (writtenBits im (s.writable d) (s.cfg.get b) w).2 t) =
      t.setCfgWord b (writtenBits im (s.writable d) (s.cfg.get b) w).2 := by
    intro t hc hz'
    split
    next h => rw [writtenBits_of_none h, ← hc, setCfgWord_same]
    next => exact storeReg_plain hp (hz' ▸ hz)
  unfold writeReg
  rw [if_neg hf]
  dsimp only
  rw [startedBits_of_none h1, if_neg (by simp), actReg_none]
  have hpf : ∃ pf, (if b = PM_CTL_FREEZE.addr ∧ (writtenBits im (s.writable d) (s.cfg.get b) w).1.getLsbD 0 = true
      then s.onPerf fun f => { f with hostFreeze := true } else s) = { s with perf := pf } := by
    split
    · exact ⟨_, rfl⟩
    · exact ⟨s.perf, rfl⟩
  obtain ⟨pf, hpf⟩ := hpf
  rw [hpf]
  exact ⟨pf, hm _ rfl rfl⟩

theorem flagCause_plain {im : Image} {b : Nat} {d : RegDesc} {w : ApbWrite} (hi : im = .base ∨ w.strb = 0xF)
    (hd : regDesc b = some d) (h1 : d.w1p = 0) (hn : d.rw ||| d.lv ≠ 0) : s.flagCause im b d w = none := by
  have hb : b ≠ GL_CTRL_ARM.addr := by
    rintro rfl
    have h : ((regDesc GL_CTRL_ARM.addr).map RegDesc.w1p) ≠ some 0 := by decide
    exact h (by rw [hd, Option.map_some, h1])
  have hs : ¬ (im ≠ .base ∧ w.strb ≠ 0xF) := fun h => hi.elim h.1 h.2
  have hw : d.rw ||| d.lv ||| d.w1p ≠ 0 := by
    rw [h1]
    exact (BitVec.or_zero (x := d.rw ||| d.lv)).symm ▸ hn
  unfold State.flagCause
  rw [if_neg hw, if_neg hs]
  split
  · rfl
  · exact if_neg fun h => hb h.2.1

/-- A write that nothing refuses, of a register that only stores (R156, R163). -/
theorem apbWrite_plain {w : ApbWrite} {b : Nat} {d : RegDesc} (hb : mapAddr w.port w.addr % 0x40000 = b)
    (hr : refusedAccess w.port w.addr w.prot = false) (hd : regDesc b = some d)
    (hi : imageOf (mapAddr w.port w.addr) = .base ∨ w.strb = 0xF) (hp : plainReg b) (h1 : d.w1p = 0)
    (hn : d.rw ||| d.lv ≠ 0) (hz : b ∉ s.frozen) : ∃ pf, apbWrite w s =
      ({ s with perf := pf }.onApb w.port fun _ => ⟨true, false, 0, none⟩).setCfgWord b
        (writtenBits (imageOf (mapAddr w.port w.addr)) (s.writable d) (s.cfg.get b) w).2 := by
  subst hb
  unfold apbWrite
  rw [if_neg (by simp [hr])]
  dsimp only
  rw [hd]
  dsimp only
  rw [flagCause_plain hi hd h1 hn]
  dsimp only
  obtain ⟨pt, addr, data, strb, prot⟩ := w
  cases pt with
  | m => exact writeReg_plain (s := answerApb .m false 0 (dropHeld (mapAddr .m addr % 0x40000) s)) hi hp h1 hz
  | k => exact writeReg_plain (s := answerApb .k false 0 (dropHeld (mapAddr .k addr % 0x40000) s)) hi hp h1 hz

/-- What a write to a register that only stores shows. -/
structure Wrote (s : State) (p : ApbPort) (b : Nat) (v : Word) (t : State) : Prop where
  self : t.cfg.get b = v
  other : ∀ x, x ≠ b → t.cfg.get x = s.cfg.get x
  frame : t = { s with cfg := t.cfg, parErr := t.parErr, perf := t.perf }.onApb p fun _ => ⟨true, false, 0, none⟩

theorem setCfgWord_wrote {p : ApbPort} {b : Nat} {v : Word} {pf : Perf} (hw : s.cfg.wf) (hz : b ∉ s.frozen) :
    Wrote s p b v (({ s with perf := pf }.onApb p fun _ => ⟨true, false, 0, none⟩).setCfgWord b v) := by
  cases p with
  | m =>
    refine ⟨setCfgWord_get_self v hw hz, fun x hx => setCfgWord_get_other v hw hx, ?_⟩
    unfold State.setCfgWord
    split <;> rfl
  | k =>
    refine ⟨setCfgWord_get_self v hw hz, fun x hx => setCfgWord_get_other v hw hx, ?_⟩
    unfold State.setCfgWord
    split <;> rfl

-- the aliases

/-- An address at an image of a base address. -/
def imageAddr (im : Nat) (a : BitVec 20) : BitVec 20 := BitVec.ofNat 20 (a.toNat % 0x40000 + im * 0x40000)

theorem imageAddr_toNat {im : Nat} (h : im < 4) (a : BitVec 20) :
    (imageAddr im a).toNat = a.toNat % 0x40000 + im * 0x40000 := by
  rw [imageAddr, BitVec.toNat_ofNat]
  omega

theorem imageAddr_base {im : Nat} (h : im < 4) (a : BitVec 20) :
    mapAddr .m (imageAddr im a) % 0x40000 = mapAddr .m a % 0x40000 := by
  change (imageAddr im a).toNat % 0x40000 = a.toNat % 0x40000
  rw [imageAddr_toNat h]
  omega

theorem imageAddr_refused {im : Nat} (h : im < 4) (a : BitVec 20) (prot : BitVec 3) :
    refusedAccess .m (imageAddr im a) prot = refusedAccess .m a prot := by
  have hb : (imageAddr im a).toNat % 0x40000 = a.toNat % 0x40000 := imageAddr_base h a
  have h4 : (imageAddr im a).toNat % 4 = a.toNat % 4 := by
    have := imageAddr_toNat h a
    omega
  simp only [refusedAccess, hb, h4]

theorem imageOf_imageAddr {im : Nat} (h : im < 4) (a : BitVec 20) :
    imageOf (mapAddr .m (imageAddr im a)) = [Image.base, .set, .clear, .toggle].getD im .toggle := by
  have hd : mapAddr .m (imageAddr im a) / 0x40000 = im := by
    change (imageAddr im a).toNat / 0x40000 = im
    rw [imageAddr_toNat h]
    omega
  rw [imageOf, hd]
  interval_cases im <;> rfl

theorem aliasAccess_m {im : Nat} {w : ApbWrite} (h : w.port = .m) (s : State) :
    aliasAccess im w s = beginAccess (.write { w with addr := imageAddr im w.addr }) s := if_neg (by simp [h])

theorem imageOf_base {a : Nat} (h : a < 0x40000) : imageOf a = .base := by
  rw [imageOf, Nat.div_eq_of_lt h]
  rfl

-- flagged writes

/-- A register in the status file after another has been set. -/
theorem setSt_get_other {f : Field} {a : Nat} (v : Nat) (hw : s.stat.wf) (h : a ≠ f.addr) :
    (s.setSt f v).stat.get a = s.stat.get a := by
  unfold State.setSt
  split
  · rfl
  · exact get_set_other _ hw h

theorem flagWrite_frame (b c : Nat) (s : State) : SameButStat s (flagWrite b c s) := by
  unfold flagWrite
  dsimp only
  split
  · exact ((setBits_frame _ _ _).trans (setSt_frame _ _ _)).trans (setSt_frame _ _ _)
  · exact (setBits_frame _ _ _).trans (setSt_frame _ _ _)

/-- A flagged write shows in GL_STATUS.WR_IGN and GL_ACCERR. -/
theorem flagWrite_shows (b c : Nat) (hw : s.stat.wf) :
    (GL_STATUS_WR_IGN.addr ∉ s.frozen → (flagWrite b c s).st GL_STATUS_WR_IGN = 1) ∧
    (GL_ACCERR_ADDR.addr ∉ s.frozen → s.stat.get GL_ACCERR_ADDR.addr = 0 → (flagWrite b c s).st GL_ACCERR_CAUSE = c % 8) ∧
    (GL_ACCERR_ADDR.addr ∉ s.frozen → s.stat.get GL_ACCERR_ADDR.addr ≠ 0 → (flagWrite b c s).st GL_ACCERR_MORE = 1) := by
  have h1 := State.setBits_stat_wf (s := s) GL_STATUS_WR_IGN 1 hw
  have h2 := State.setSt_stat_wf (s := s.setBits GL_STATUS_WR_IGN 1) GL_ACCERR_ADDR b h1
  have hg : (s.setBits GL_STATUS_WR_IGN 1).stat.get GL_ACCERR_ADDR.addr = s.stat.get GL_ACCERR_ADDR.addr :=
    setSt_get_other (s := s) (f := GL_STATUS_WR_IGN) _ hw (by decide)
  have hi : GL_STATUS_WR_IGN.addr ∉ s.frozen → (s.setBits GL_STATUS_WR_IGN 1).st GL_STATUS_WR_IGN = 1 := fun hz => by
    rw [State.st_setBits_self _ _ hw (by decide) hz]
    have := s.st_lt GL_STATUS_WR_IGN
    have : s.st GL_STATUS_WR_IGN = 0 ∨ s.st GL_STATUS_WR_IGN = 1 := by
      have h : s.st GL_STATUS_WR_IGN < 2 := this
      omega
    rcases this with h | h <;> rw [h] <;> rfl
  unfold flagWrite
  dsimp only
  rw [hg]
  split
  next h0 =>
    refine ⟨fun hz => ?_, fun hz _ => ?_, fun _ hn => absurd h0 hn⟩
    · rw [State.st_setSt_other _ _ _ h2 (.inl (by decide)), State.st_setSt_other _ _ _ h1 (.inl (by decide)), hi hz]
    · exact State.st_setSt_self GL_ACCERR_CAUSE c h2 (by decide) (by rw [State.setSt_frozen, State.setBits_frozen]; exact hz)
  next h0 =>
    refine ⟨fun hz => ?_, fun _ hn => absurd hn h0, fun hz _ => ?_⟩
    · rw [State.st_setSt_other _ _ _ h1 (.inl (by decide)), hi hz]
    · exact State.st_setSt_self GL_ACCERR_MORE 1 h1 (by decide) (by rw [State.setBits_frozen]; exact hz)

theorem apbWrite_flagged {w : ApbWrite} {d : RegDesc} (hr : refusedAccess w.port w.addr w.prot = false)
    (hd : regDesc (mapAddr w.port w.addr % 0x40000) = some d) {c : Nat}
    (hf : (dropHeld (mapAddr w.port w.addr % 0x40000) s).flagCause (imageOf (mapAddr w.port w.addr))
      (mapAddr w.port w.addr % 0x40000) d w = some c) :
    apbWrite w s = answerApb w.port false 0 (flagWrite (mapAddr w.port w.addr) c
      (dropHeld (mapAddr w.port w.addr % 0x40000) s)) := by
  unfold apbWrite
  rw [if_neg (by simp [hr])]
  dsimp only
  rw [hd]
  dsimp only
  rw [hf]

theorem holdsAccess_write_free {w : ApbWrite} (ha : s.rsiAlive = true) (hg : s.wheel.gateCopy = none)
    (hk : s.wheel.calCopy = none) : s.holdsAccess (.write w) = false := by
  simp [State.holdsAccess, ha, hg, hk]

end

/-- Settles O18: an access that is refused never gets past `beginAccess`; one that the clock or a copy holds is kept there. -/
theorem accessesAreRefusedOrHeld : Obligations.AccessesAreRefusedOrHeld := by
  refine ⟨fun s p addr prot hf ha h => ⟨fun data strb => ?write, fun c hc => ?read⟩, fun s w hp ha hf => ?reset,
    fun s w hp hf h => ?held⟩
  case write => exact congrArg Host.Outcome.next (beginAccess_refused (x := .write ⟨p, addr, data, strb, prot⟩) hf ha h)
  case read =>
    have hx := beginAccess_refused (x := .read ⟨p, addr, prot⟩) hf ha h
    rcases hc with rfl | rfl | rfl <;> exact congrArg Host.Outcome.next hx
  case reset =>
    exact congrArg Host.Outcome.next ((beginAccess_inReset (x := .write w) hf hp).trans (if_neg (by simp [ha])))
  case held =>
    have hh : s.holdsAccess (.write w) = true := by
      rcases h with h | ⟨hr, hg | hk⟩
      · simp [State.holdsAccess, h]
      · simp [State.holdsAccess, Access.on, hr, hg]
      · simp [State.holdsAccess, Access.on, hr, hk]
    have hx := beginAccess_of_held (x := .write w) hf hp hh
    exact ⟨congrArg Host.Outcome.next hx, congrArg Host.Outcome.next hx⟩

/-- Settles O19: every such write is `apbWrite_plain` at its image; a write with nothing to write is `flagWrite`. -/
theorem writesActByAccessCodeAndImage : Obligations.WritesActByAccessCodeAndImage := by
  intro s p a d data strb prot b m old done wrote hs hc hf hr hg hk hd
  obtain ⟨hp, ha⟩ := State.clocked_split hc
  have hx : ∀ w : ApbWrite, w.port = p → beginAccess (.write w) s = apbWrite w s := by
    rintro w rfl
    exact beginAccess_of_free (x := .write w) hf hp (holdsAccess_write_free ha hg hk)
  refine ⟨fun hpl h1 hn hz => ⟨fun hb => ?base, fun hm => ?image⟩, fun hn hgood => ?flag⟩
  case base =>
    have hi := imageOf_base hb
    obtain ⟨pf, he⟩ := apbWrite_plain (s := s) (w := ⟨p, a, data, strb, prot⟩) rfl hr hd (.inl hi) hpl h1 hn hz
    rw [hi] at he
    have hw := setCfgWord_wrote (s := s) (p := p) (pf := pf)
      (v := (writtenBits .base m old ⟨p, a, data, strb, prot⟩).2) (canonical_cfg hs) hz
    exact ⟨_, congrArg Host.Outcome.next ((hx _ rfl).trans he), hw.self, hw.other, hw.frame⟩
  case image =>
    subst hm
    have hw : ∀ im : Nat, im < 4 → ∃ t, aliasAccess im ⟨.m, a, data, 0xF, prot⟩ s = t ∧
        Wrote s .m b (writtenBits ([Image.base, .set, .clear, .toggle].getD im .toggle) m old
          ⟨.m, imageAddr im a, data, 0xF, prot⟩).2 t := by
      intro im him
      obtain ⟨pf, he⟩ := apbWrite_plain (s := s) (w := ⟨.m, imageAddr im a, data, 0xF, prot⟩) (imageAddr_base him a)
        ((imageAddr_refused him a prot).trans hr) hd (.inr rfl) hpl h1 hn hz
      rw [imageOf_imageAddr him] at he
      exact ⟨_, ((aliasAccess_m rfl s).trans (hx _ rfl)).trans he, setCfgWord_wrote (canonical_cfg hs) hz⟩
    obtain ⟨t1, he1, hw1⟩ := hw 1 (by decide)
    obtain ⟨t2, he2, hw2⟩ := hw 2 (by decide)
    obtain ⟨t3, he3, hw3⟩ := hw 3 (by decide)
    exact ⟨⟨t1, congrArg Host.Outcome.next he1, hw1.self, hw1.other, hw1.frame⟩,
      ⟨t2, congrArg Host.Outcome.next he2, hw2.self, hw2.other, hw2.frame⟩,
      ⟨t3, congrArg Host.Outcome.next he3, hw3.self, hw3.other, hw3.frame⟩⟩
  case flag =>
    have hfc : (dropHeld b s).flagCause (imageOf (mapAddr p a)) b d ⟨p, a, data, strb, prot⟩ = some 1 := by
      have hg' : (dropHeld b s).good = true := hgood
      simp [State.flagCause, hg', hn]
    have he := apbWrite_flagged (s := s) (w := ⟨p, a, data, strb, prot⟩) hr hd hfc
    have hfr := flagWrite_frame (mapAddr p a) 1 (dropHeld b s)
    obtain ⟨h1, h2, h3⟩ := flagWrite_shows (s := dropHeld b s) (mapAddr p a) 1 (canonical_stat hs)
    unfold SameButStat at hfr
    refine ⟨_, congrArg Host.Outcome.next ((hx _ rfl).trans he), ?_⟩
    cases p with
    | m =>
      refine ⟨h1, h2, h3, ?_⟩
      change answerApb .m false 0 (flagWrite (mapAddr .m a) 1 (dropHeld b s)) = _
      rw [hfr]
      rfl
    | k =>
      refine ⟨h1, h2, h3, ?_⟩
      change answerApb .k false 0 (flagWrite (mapAddr .k a) 1 (dropHeld b s)) = _
      rw [hfr]
      rfl

end Sys2Proof.Machine
end

section
/-!
Reads of registers (R159 to R162): the value, the clear of RC fields, and the capture of values in several registers.
-/

namespace Sys2Proof.Machine

section

variable {s : State}

-- values in several registers

theorem partsOf_none_near : ∀ k < 0x49, partsOf (0x1FC0 + k) = none := by decide

theorem group_length {n : Nat} {o : Option Nat} {g : Nat → Nat} {e : Nat × Nat} (h : (o.map fun f => (g f, n)) = some e) :
    e.2 = n := by
  obtain ⟨f, _, rfl⟩ := Option.map_eq_some_iff.1 h
  rfl

theorem pair_length {p : Prop} [Decidable p] {k : Nat} {e : Nat × Nat} (h : (if p then some (k, 2) else none) = some e) :
    e.2 = 2 := by
  split at h
  · cases h; rfl
  · cases h

theorem or_length {o q : Option (Nat × Nat)} {e : Nat × Nat} {n : Nat} (h : o.or q = some e)
    (ho : o = some e → e.2 ≤ n) (hq : q = some e → e.2 ≤ n) : e.2 ≤ n := by
  rcases Option.or_eq_some_iff.1 h with h | ⟨_, h⟩
  · exact ho h
  · exact hq h

/-- A value has at most 12 parts (R12). -/
theorem partsOf_length {a : Nat} {e : Nat × Nat} (h : partsOf a = some e) : e.2 ≤ 12 := by
  have hg : ∀ {o : Option Nat} {g : Nat → Nat} {n : Nat}, n ≤ 12 → (o.map fun f => (g f, n)) = some e → e.2 ≤ 12 :=
    fun hn h => (group_length h).trans_le hn
  have hp : ∀ {p : Prop} [Decidable p] {k : Nat}, (if p then some (k, 2) else none) = some e → e.2 ≤ 12 :=
    fun h => (pair_length h).trans_le (by decide)
  unfold partsOf at h
  dsimp only at h
  split at h
  · exact hg (by decide) h
  · exact hg (by decide) h
  · split at h
    · cases h; exact (by decide : 4 ≤ 12)
    · split at h
      · exact hg (by decide) h
      · exact hg (by decide) h
  · exact or_length h hp hp
  · exact hg (by decide) h
  · cases h
  · exact or_length h (hg (by decide)) hp
  · split at h
    · exact hg (by decide) h
    · exact or_length h (hg (by decide)) hp
  · exact or_length h (hg (by decide)) (hg (by decide))
  · cases h

theorem mem_partAddrs {e : Nat × Nat} {b : Nat} (h : b ∈ partAddrs e) : ∃ i < e.2, b = e.1 + 4 * i := by
  obtain ⟨i, hi, rfl⟩ := List.mem_map.1 h
  exact ⟨i, List.mem_range.1 hi, rfl⟩

/-- No part of a value is a status register, whose causes persist (R160). -/
theorem part_notStatus {a n b : Nat} (h : partsOf a = some (a, n)) (hb : b ∈ partAddrs (a, n)) :
    ¬ (b = 0x2000 ∨ b = 0x2004 ∨ b = 0x2008) := by
  obtain ⟨i, hi, rfl⟩ := mem_partAddrs hb
  have hn : n ≤ 12 := partsOf_length h
  have hi : i < n := hi
  intro hs
  have hk : a = 0x1FC0 + (a - 0x1FC0) := by omega
  have hnone := partsOf_none_near (a - 0x1FC0) (by omega)
  rw [← hk, h] at hnone
  cases hnone

-- captures

/-- Two states differ in the captured parts alone. -/
def SameButCaps (s t : State) : Prop := t = { s with caps := t.caps }

theorem capture_frame (a : Nat) (s : State) : SameButCaps s (capture a s) := by
  unfold capture
  split <;> rfl

theorem captures_frame (l : List Nat) (s : State) : SameButCaps s (l.foldl (fun s b => capture b s) s) := by
  refine foldl_inv (SameButCaps s) l (fun t x _ ht => ?_) rfl
  have h := capture_frame x t
  unfold SameButCaps at *
  rw [h, ht]

/-- What a register shows does not depend on what has been captured. -/
theorem SameButCaps.regValue {t : State} (h : SameButCaps s t) (a : Nat) : t.regValue a = s.regValue a := by
  unfold SameButCaps at h
  rw [h]
  rfl

theorem SameButCaps.frozen {t : State} (h : SameButCaps s t) : t.frozen = s.frozen := by
  unfold SameButCaps at h
  rw [h]

theorem find_capture_self {b : Nat} (hz : b ∉ s.frozen) : find (capture b s).caps b = some (s.regValue b) := by
  unfold capture
  rw [if_neg (by simpa using hz)]
  exact find_put_self _ _ _

theorem find_capture_other {a b : Nat} (h : b ≠ a) : find (capture a s).caps b = find s.caps b := by
  unfold capture
  split
  · rfl
  · exact find_put_other _ _ h

/-- Every part of a list is captured as it stands. -/
theorem find_captures {b : Nat} (l : List Nat) (s : State) (hb : b ∈ l) (hz : b ∉ s.frozen) :
    find (l.foldl (fun s b => capture b s) s).caps b = some (s.regValue b) := by
  obtain ⟨l₁, l₂, rfl⟩ := List.append_of_mem hb
  rw [List.foldl_append, List.foldl_cons]
  have hf := captures_frame l₁ s
  generalize l₁.foldl (fun s b => capture b s) s = t at hf
  have hc : find (capture b t).caps b = some (s.regValue b) :=
    (find_capture_self (hf.frozen ▸ hz)).trans (congrArg some (hf.regValue b))
  have hl : ∀ (l : List Nat) (u : State), find u.caps b = some (s.regValue b) → SameButCaps s u →
      find (l.foldl (fun s b => capture b s) u).caps b = some (s.regValue b) := by
    intro l
    induction l with
    | nil => exact fun _ hu _ => hu
    | cons x l ih =>
      intro u hu hs
      have hx := capture_frame x u
      have hs' : SameButCaps s (capture x u) := by
        unfold SameButCaps at *
        rw [hx, hs]
      refine ih (capture x u) ?_ hs'
      by_cases h : b = x
      · subst h
        exact (find_capture_self (hs.frozen ▸ hz)).trans (congrArg some (hs.regValue b))
      · rw [find_capture_other h, hu]
  refine hl l₂ _ hc ?_
  have hx := capture_frame b t
  unfold SameButCaps at *
  rw [hx, hf]

-- clears

/-- Two states differ in the status registers alone. -/
def SameButRegs (s t : State) : Prop := t = { s with stat := t.stat } ∧ (s.stat.wf → t.stat.wf)

theorem clearRc_frame (a : Nat) (s : State) : SameButRegs s (clearRc a s) := by
  unfold clearRc
  split
  · exact ⟨rfl, id⟩
  · exact ⟨rfl, fun h => set_wf _ _ h⟩

theorem clears_frame (l : List Nat) (s : State) : SameButRegs s (l.foldl (fun s b => clearRc b s) s) := by
  refine foldl_inv (SameButRegs s) l (fun t x _ ht => ?_) ⟨rfl, id⟩
  obtain ⟨h, hw⟩ := clearRc_frame x t
  obtain ⟨h', hw'⟩ := ht
  refine ⟨?_, fun hs => hw (hw' hs)⟩
  rw [h, h']

theorem clearRc_get_other {a x : Nat} (hw : s.stat.wf) (h : x ≠ a) : (clearRc a s).stat.get x = s.stat.get x := by
  unfold clearRc
  split
  · rfl
  · exact get_set_other _ hw h

theorem clearRc_get_self {a : Nat} (hw : s.stat.wf) (hz : a ∉ s.frozen) : (clearRc a s).stat.get a = s.rcCleared a := by
  unfold clearRc
  rw [if_neg (by simpa using hz)]
  exact get_set_self _ _ hw

/-- With no event of the cc and no cause that persists, the RC fields are 0 after a read. -/
theorem rcCleared_quiet {a : Nat} {d : RegDesc} (hd : regDesc a = some d) (hn : ∀ e ∈ s.news, e.1.addr ≠ a)
    (hs : ¬ (a = 0x2000 ∨ a = 0x2004 ∨ a = 0x2008)) : s.rcCleared a = s.stat.get a &&& ~~~d.rc := by
  have hf : ∀ rc : Word, s.news.filter (fun e => e.1.addr == a && e.1.mask &&& rc ≠ 0) = [] := by
    intro rc
    refine List.filter_eq_nil_iff.2 fun e he => ?_
    simp [hn e he]
  unfold State.rcCleared
  dsimp only
  rw [hd, hf, if_neg hs]
  exact BitVec.or_zero

/-- A counter that counts in the cc of its clear ends with that count. -/
theorem rcCleared_counted {a : Nat} {d : RegDesc} {f : Field} {n : Nat} (hd : regDesc a = some d)
    (hs : ¬ (a = 0x2000 ∨ a = 0x2004 ∨ a = 0x2008)) (hn : s.news = [(f, .add n)]) (hf : f.addr = a)
    (hm : f.mask &&& d.rc ≠ 0) :
    s.rcCleared a = f.put (s.stat.get a &&& ~~~d.rc) (satAdd f.max (f.of (s.stat.get a &&& ~~~d.rc)) n) := by
  unfold State.rcCleared
  dsimp only
  rw [hd, hn, if_neg hs]
  have hk : (f.addr == a && decide (f.mask &&& d.rc ≠ 0)) = true := by
    rw [beq_iff_eq.2 hf, decide_eq_true hm, Bool.and_self]
  simp only [Option.map_some, Option.getD_some, List.filter_cons, hk, if_true, List.filter_nil, List.foldr_cons,
    List.foldr_nil, News.on]
  rw [show s.stat.get a &&& ~~~d.rc ||| 0 = s.stat.get a &&& ~~~d.rc from BitVec.or_zero]

theorem mask_getLsbD (f : Field) (i : Nat) :
    f.mask.getLsbD i = (decide (i < 32) && (decide (f.lo ≤ i) && decide (i < f.lo + f.width))) := by
  rw [Field.mask, BitVec.getLsbD_ofNat, mask_testBit]

/-- A field whose bits are all cleared reads 0. -/
theorem of_cleared {f : Field} {w rc : Word} (h : f.mask &&& ~~~rc = 0) (hl : f.lo + f.width ≤ 32) :
    f.of (w &&& ~~~rc) = 0 := by
  apply Nat.eq_of_testBit_eq
  intro i
  rw [Field.of_testBit, Nat.zero_testBit]
  by_cases hi : i < f.width
  · have hb := congrArg (fun v : Word => v.getLsbD (f.lo + i)) h
    simp only [BitVec.getLsbD_and, mask_getLsbD] at hb
    have hm : (decide (f.lo + i < 32) && (decide (f.lo ≤ f.lo + i) && decide (f.lo + i < f.lo + f.width))) = true := by
      simp; omega
    rw [hm, Bool.true_and] at hb
    rw [BitVec.getLsbD_and, hb]
    simp
  · simp [hi]

theorem clears_get_other {x : Nat} (l : List Nat) (s : State) (hw : s.stat.wf) (hx : x ∉ l) :
    (l.foldl (fun s b => clearRc b s) s).stat.get x = s.stat.get x := by
  induction l generalizing s with
  | nil => rfl
  | cons y l ih =>
    have hy : x ≠ y := fun h => hx (h ▸ List.mem_cons_self)
    have hl : x ∉ l := fun h => hx (List.mem_cons_of_mem y h)
    exact (ih (clearRc y s) ((clearRc_frame y s).2 hw) hl).trans (clearRc_get_other hw hy)

/-- Every register of a list has its RC fields cleared. -/
theorem clears_get {b : Nat} {e : RegDesc} (he : regDesc b = some e) (hs : ¬ (b = 0x2000 ∨ b = 0x2004 ∨ b = 0x2008))
    (l : List Nat) (s : State) (hw : s.stat.wf) (hz : b ∉ s.frozen) (hn : ∀ e ∈ s.news, e.1.addr ≠ b) (hb : b ∈ l) :
    (l.foldl (fun s b => clearRc b s) s).stat.get b = s.stat.get b &&& ~~~e.rc := by
  induction l generalizing s with
  | nil => cases hb
  | cons y l ih =>
    obtain ⟨hf, hwf⟩ := clearRc_frame y s
    have hz' : b ∉ (clearRc y s).frozen := by rw [hf]; exact hz
    have hn' : ∀ e ∈ (clearRc y s).news, e.1.addr ≠ b := by rw [hf]; exact hn
    have hy : b = y → (clearRc y s).stat.get b = s.stat.get b &&& ~~~e.rc := by
      rintro rfl
      rw [clearRc_get_self hw hz, rcCleared_quiet he hn hs]
    have hy' : b ≠ y → (clearRc y s).stat.get b = s.stat.get b := clearRc_get_other hw
    rw [List.foldl_cons]
    by_cases hl : b ∈ l
    · rw [ih _ (hwf hw) hz' hn' hl]
      by_cases h : b = y
      · rw [hy h, BitVec.and_assoc, BitVec.and_self]
      · rw [hy' h]
    · rw [clears_get_other l _ (hwf hw) hl]
      exact hy ((List.mem_cons.1 hb).resolve_right hl)

-- reads

theorem parityCheck_good {a : Nat} (h : a ∉ s.parErr) : parityCheck a s = s := if_neg (by simp [h])

theorem shown_of_unfrozen {a : Nat} (h : a ∉ s.frozen) : s.shown a = s.regValue a := if_neg (by simpa using h)

theorem readBase_alone {a : Nat} (hz : a ∉ s.frozen) (hp : a ∉ s.parErr) (hn : partsOf a = none) :
    readBase a s = (s.regValue a, clearRc a s) := by
  unfold readBase
  rw [parityCheck_good hp, hn]
  dsimp only
  rw [shown_of_unfrozen hz]

theorem readBase_lowest {a n : Nat} (hz : a ∉ s.frozen) (hp : a ∉ s.parErr) (hn : partsOf a = some (a, n)) :
    readBase a s = (s.regValue a, (partAddrs (a, n)).foldl (fun s b => clearRc b s)
      ((partAddrs (a, n)).foldl (fun s b => capture b s) s)) := by
  unfold readBase
  rw [parityCheck_good hp, hn]
  dsimp only
  rw [if_pos rfl, shown_of_unfrozen hz]

/-- A base read that nothing refuses or holds answers what `readBase` finds. -/
theorem exec_read {p : ApbPort} {addr : BitVec 20} {prot : BitVec 3} {d : RegDesc} {c : Instr} {v : Word} {t : State}
    (hc : c = .registerRead ⟨p, addr, prot⟩ ∨ c = .readClear ⟨p, addr, prot⟩ ∨ c = .multiRegisterCapture ⟨p, addr, prot⟩)
    (hk : s.clocked) (hf : (s.apb p).held = none) (hr : refusedAccess p addr prot = false)
    (hi : imageOf (mapAddr p addr) = .base) (hd : regDesc (mapAddr p addr) = some d)
    (he : readBase (mapAddr p addr) s = (v, t)) :
    exec c s = .next (answerApb p (t.frozen.contains (mapAddr p addr)) v t) := by
  obtain ⟨hp, ha⟩ := State.clocked_split hk
  have hh : s.holdsAccess (.read ⟨p, addr, prot⟩) = false := by simp [State.holdsAccess, ha]
  have hx : beginAccess (.read ⟨p, addr, prot⟩) s = answerApb p (t.frozen.contains (mapAddr p addr)) v t := by
    rw [beginAccess_of_free hf hp hh]
    change apbRead ⟨p, addr, prot⟩ s = _
    unfold apbRead
    rw [if_neg (by simp [hr])]
    dsimp only
    rw [hi, hd]
    dsimp only
    rw [he]
  rcases hc with rfl | rfl | rfl <;> exact congrArg Host.Outcome.next hx

theorem answerApb_apb (p : ApbPort) (err : Bool) (v : Word) (s : State) : (answerApb p err v s).apb p = ⟨true, err, v, none⟩ := by
  cases p <;> rfl

theorem answerApb_frame (p : ApbPort) (err : Bool) (v : Word) (s : State) : (answerApb p err v s).stat = s.stat ∧
    (answerApb p err v s).caps = s.caps ∧ (answerApb p err v s).cfg = s.cfg ∧ (answerApb p err v s).dram = s.dram := by
  cases p <;> exact ⟨rfl, rfl, rfl, rfl⟩

end

/-- Settles O20: a read answers the value and then clears one register, or captures and clears every part. -/
theorem readsClearAndCapture : Obligations.ReadsClearAndCapture := by
  intro s p addr prot d c a hc hs hk hf hr hi hd hz hp
  have hw := canonical_stat hs
  refine ⟨fun hn h0 h4 h8 => ?alone, fun n hn => ?parts⟩
  case alone =>
    have hst : ¬ (a = 0x2000 ∨ a = 0x2004 ∨ a = 0x2008) := by simp [h0, h4, h8]
    have hx := exec_read hc hk hf hr hi hd (readBase_alone hz hp hn)
    obtain ⟨hfr, _⟩ := clearRc_frame a s
    have hfz : ((clearRc a s).frozen.contains a) = false := by rw [hfr]; simpa using hz
    have hself := clearRc_get_self hw hz
    obtain ⟨ha, _, hcfg, hdram⟩ := answerApb_frame p ((clearRc a s).frozen.contains a) (s.regValue a) (clearRc a s)
    refine ⟨_, hx, ?_, fun hq => ?_, fun f n hq hfa hl hm hm' => ?_, fun x hx => ?_, ?_, ?_⟩
    · rw [answerApb_apb, hfz]
    · rw [ha, hself, rcCleared_quiet hd hq hst]
    · have hv : f.of (clearRc a s |>.stat.get a) = min f.max n := by
        rw [hself, rcCleared_counted hd hst hq hfa hm, of_cleared hm' hl, Field.of_put_self _ _ _ hl]
        unfold satAdd Field.max
        have := Nat.two_pow_pos f.width
        rw [Nat.zero_add]
        exact Nat.mod_eq_of_lt (by omega)
      rw [State.st_congr ha]
      exact (congrArg (fun b => f.of ((clearRc a s).stat.get b)) hfa).trans hv
    · rw [ha]; exact clearRc_get_other hw hx
    · rw [hcfg, hfr]
    · rw [hdram, hfr]
  case parts =>
    have hx := exec_read hc hk hf hr hi hd (readBase_lowest hz hp hn)
    have hcap := captures_frame (partAddrs (a, n)) s
    have hfind := fun b => find_captures (b := b) (partAddrs (a, n)) s
    generalize hu : (partAddrs (a, n)).foldl (fun s b => capture b s) s = u at hx hcap hfind
    obtain ⟨hclr, _⟩ := clears_frame (partAddrs (a, n)) u
    have hget := fun {b : Nat} (e : RegDesc) (he : regDesc b = some e) hst => clears_get he hst (partAddrs (a, n)) u
    have hgo := fun x => clears_get_other (x := x) (partAddrs (a, n)) u
    generalize ht : (partAddrs (a, n)).foldl (fun s b => clearRc b s) u = t at hx hclr hget hgo
    unfold SameButCaps at hcap
    have hus : u.stat = s.stat := by rw [hcap]
    have huw : u.stat.wf := hus ▸ hw
    have hfz : (t.frozen.contains a) = false := by rw [hclr, hcap]; simpa using hz
    obtain ⟨ha, hca, hcfg, hdram⟩ := answerApb_frame p (t.frozen.contains a) (s.regValue a) t
    refine ⟨_, hx, ?_, fun b hb hbz => ⟨?_, fun hq e he => ?_⟩, fun x hx => ?_, ?_, ?_⟩
    · rw [answerApb_apb, hfz]
    · rw [hca, hclr]; exact hfind b hb hbz
    · rw [ha, hget e he (part_notStatus hn hb) huw (by rw [hcap]; exact hbz) (by rw [hcap]; exact hq) hb, hus]
    · rw [ha, hgo x huw hx, hus]
    · rw [hcfg, hclr, hcap]
    · rw [hdram, hclr, hcap]

end Sys2Proof.Machine
end

section
/-!
The select of CLKMON (R123), the parity walker (R171 to R173), and block resets (R174 to R176).
-/

namespace Sys2Proof.Machine

-- what aborts, halts and flushes leave

/-- The pins, the maintenance port, the clocks, and the registers found with a mismatch with what was kept of them. -/
def State.desk (s : State) : Pins × Apb × Clk × List Nat × List (Nat × Word) := (s.pins, s.apbM, s.clk, s.frozen, s.caps)

/-- The desk of a state stands at `p`. -/
def HasDesk (p : Pins × Apb × Clk × List Nat × List (Nat × Word)) (s : State) : Prop := s.desk = p

section

variable {p : Pins × Apb × Clk × List Nat × List (Nat × Word)} {s : State}

theorem hasDesk_of {t : State} (h : HasDesk p s) (e : t.desk = s.desk) : HasDesk p t := e.trans h

theorem hasDesk_ite {a b : State} {c : Prop} [Decidable c] (ha : HasDesk p a) (hb : HasDesk p b) :
    HasDesk p (if c then a else b) := by
  split
  · exact ha
  · exact hb

theorem hasDesk_foldl {α : Type} {f : State → α → State} {l : List α} (hf : ∀ s x, HasDesk p s → HasDesk p (f s x))
    (h : HasDesk p s) : HasDesk p (l.foldl f s) := foldl_inv (HasDesk p) l (fun t x _ ht => hf t x ht) h

theorem State.setSt_hasDesk {a1 : Field} {a2 : Nat} (h : HasDesk p s) : HasDesk p (State.setSt s a1 a2) := by
  unfold State.setSt
  exact hasDesk_ite h (h)

theorem State.tell_hasDesk {a1 : Field} {a2 : News} (h : HasDesk p s) :
    HasDesk p (State.tell s a1 a2) := by
  unfold State.tell
  exact (hasDesk_of h rfl)

theorem State.setBits_hasDesk {a1 : Field} {a2 : Nat} (h : HasDesk p s) :
    HasDesk p (State.setBits s a1 a2) := by
  unfold State.setBits
  exact (State.tell_hasDesk (State.setSt_hasDesk h))

theorem State.note_hasDesk {a1 : Ev} {a2 : Nat} {a3 : Nat} (h : HasDesk p s) :
    HasDesk p (State.note s a1 a2 a3) := by
  unfold State.note
  extract_lets x1
  exact (hasDesk_of h rfl)

theorem State.onChan_hasDesk {a1 : Nat} {a2 : Chan → Chan} (h : HasDesk p s) :
    HasDesk p (State.onChan s a1 a2) := by
  unfold State.onChan
  exact (hasDesk_of h rfl)

theorem State.onQuad_hasDesk {a1 : Nat} {a2 : Quad → Quad} (h : HasDesk p s) :
    HasDesk p (State.onQuad s a1 a2) := by
  unfold State.onQuad
  exact (hasDesk_of h rfl)

theorem State.onPort_hasDesk {a1 : Nat} {a2 : Port → Port} (h : HasDesk p s) :
    HasDesk p (State.onPort s a1 a2) := by
  unfold State.onPort
  exact (hasDesk_of h rfl)

theorem State.onSpill_hasDesk {a1 : Nat} {a2 : Spill → Spill} (h : HasDesk p s) :
    HasDesk p (State.onSpill s a1 a2) := by
  unfold State.onSpill
  exact (hasDesk_of h rfl)

theorem State.setBit_hasDesk {a1 : Field} {a2 : Nat} (h : HasDesk p s) :
    HasDesk p (State.setBit s a1 a2) := by
  unfold State.setBit
  exact (State.setBits_hasDesk h)

theorem event_hasDesk {a0 : Evt} (h : HasDesk p s) : HasDesk p (event a0 s) := by
  unfold event
  exact (State.setBit_hasDesk h)

theorem spillHalt_hasDesk {a0 : Nat} {a1 : Nat} (h : HasDesk p s) :
    HasDesk p (spillHalt a0 a1 s) := by
  unfold spillHalt
  split
  · exact (event_hasDesk (State.onSpill_hasDesk h))
  · exact (event_hasDesk (State.onSpill_hasDesk h))
  · exact (event_hasDesk (State.onSpill_hasDesk h))
  · exact h

theorem portHalt_hasDesk {a0 : Nat} {a1 : Nat} (h : HasDesk p s) :
    HasDesk p (portHalt a0 a1 s) := by
  unfold portHalt
  split
  · exact (State.onPort_hasDesk h)
  · exact (State.onPort_hasDesk h)
  · exact (State.onPort_hasDesk h)
  · exact (hasDesk_ite (State.onPort_hasDesk h) h)
  · exact h

theorem State.addOp_hasDesk {a1 : Nat} {a2 : Op} (h : HasDesk p s) :
    HasDesk p (State.addOp s a1 a2) := by
  unfold State.addOp
  exact (State.onChan_hasDesk h)

theorem State.onWay_hasDesk {a1 : Nat} {a2 : Nat} {a3 : Way → Way} (h : HasDesk p s) :
    HasDesk p (State.onWay s a1 a2 a3) := by
  unfold State.onWay
  exact (State.onQuad_hasDesk h)

theorem State.writeback_hasDesk {a1 : Nat} {a2 : Nat} {a3 : Line} {a4 : Bool} (h : HasDesk p s) :
    HasDesk p (State.writeback s a1 a2 a3 a4) := by
  unfold State.writeback
  extract_lets x1 x2
  exact (State.note_hasDesk (State.addOp_hasDesk h))

theorem State.cleanWay_hasDesk {a1 : Nat} {a2 : Nat} {a3 : Bool} (h : HasDesk p s) :
    HasDesk p (State.cleanWay s a1 a2 a3) := by
  unfold State.cleanWay
  extract_lets x1
  exact (hasDesk_ite (State.onWay_hasDesk (State.writeback_hasDesk h)) h)

theorem flushCache_hasDesk {a0 : Nat} (h : HasDesk p s) : HasDesk p (flushCache a0 s) := by
  unfold flushCache
  exact (hasDesk_foldl (fun _ _ h1 => (State.cleanWay_hasDesk h1)) h)

theorem State.onScrub_hasDesk {a1 : Nat} {a2 : ScrubPass → ScrubPass} (h : HasDesk p s) :
    HasDesk p (State.onScrub s a1 a2) := by
  unfold State.onScrub
  exact (State.onQuad_hasDesk h)

theorem dropScrubLines_hasDesk {a0 : Nat} (h : HasDesk p s) :
    HasDesk p (dropScrubLines a0 s) := by
  unfold dropScrubLines
  exact (State.onChan_hasDesk h)

theorem abortScrub_hasDesk {a0 : Nat} {a1 : Nat} (h : HasDesk p s) :
    HasDesk p (abortScrub a0 a1 s) := by
  unfold abortScrub
  extract_lets x1
  have h2 : HasDesk p x1 := (State.setSt_hasDesk h)
  apply hasDesk_ite
  · exact h
  · refine hasDesk_foldl (fun _ _ h5 => ?_) ?_
    · extract_lets x6
      exact (State.onScrub_hasDesk (dropScrubLines_hasDesk h5))
    · exact (State.onScrub_hasDesk h2)

theorem unGrant_hasDesk {a0 : Nat} (h : HasDesk p s) : HasDesk p (unGrant a0 s) := by
  unfold unGrant
  exact (State.onChan_hasDesk h)

theorem abortSpills_hasDesk (h : HasDesk p s) : HasDesk p (abortSpills s) := by
  unfold abortSpills
  refine hasDesk_foldl (fun _ _ h2 => ?_) ?_
  · split
    · exact h2
    · exact h2
    · exact h2
    · exact (State.onSpill_hasDesk h2)
  · exact h

theorem discardWaiting_hasDesk (h : HasDesk p s) : HasDesk p (discardWaiting s) := by
  unfold discardWaiting
  extract_lets x1
  have h2 : HasDesk p x1 := by
    unfold x1
    refine hasDesk_foldl (fun _ _ h5 => ?_) ?_
    · extract_lets x6 x7
      exact (State.onPort_hasDesk h5)
    · exact h
  exact (hasDesk_foldl (fun _ _ h8 => (State.onChan_hasDesk (unGrant_hasDesk h8))) h2)

theorem ChannelWork.hasDesk {t : State} (h : HasDesk p s) (hw : ChannelWork s t) : HasDesk p t := by
  unfold ChannelWork at hw
  refine hasDesk_of h ?_
  rw [hw]
  rfl

end

section

variable {s : State}

-- parity

theorem raise_hasDesk {p : Pins × Apb × Clk × List Nat × List (Nat × Word)} {src : Src} {unit info : Nat}
    (h : HasDesk p s) : HasDesk p (raise src unit info s) := h

/-- A register found with a mismatch is kept as it is, and nothing else of the desk moves. -/
theorem parityFound_hasDesk (a : Nat) (s : State) :
    HasDesk (s.pins, s.apbM, s.clk, a :: s.frozen, put s.caps a (s.regValue a)) (parityFound a s) := by
  have h : HasDesk (s.pins, s.apbM, s.clk, a :: s.frozen, put s.caps a (s.regValue a))
      { s with caps := put s.caps a (s.regValue a), frozen := a :: s.frozen } := rfl
  unfold parityFound
  dsimp only
  split
  · exact raise_hasDesk h
  · exact raise_hasDesk (spillHalt_hasDesk h)
  · split
    · exact raise_hasDesk (portHalt_hasDesk h)
    · split
      · exact raise_hasDesk (hasDesk_foldl (fun _ _ h => abortScrub_hasDesk h) (State.onPort_hasDesk h))
      · exact raise_hasDesk h
  · exact raise_hasDesk h

theorem HasDesk.frozen (h : HasDesk p s) : s.frozen = p.2.2.2.1 := congrArg (fun e => e.2.2.2.1) h

theorem HasDesk.caps (h : HasDesk p s) : s.caps = p.2.2.2.2 := congrArg (fun e => e.2.2.2.2) h

theorem HasDesk.clk (h : HasDesk p s) : s.clk = p.2.2.1 := congrArg (fun e => e.2.2.1) h

theorem HasDesk.apbM (h : HasDesk p s) : s.apbM = p.2.1 := congrArg (fun e => e.2.1) h

theorem HasDesk.pins (h : HasDesk p s) : s.pins = p.1 := congrArg (fun e => e.1) h

/-- The walker's check of one register. -/
def walked (a : Nat) (bits : Word) (s : State) : State :=
  if (parityCheck a s).frozen.contains a then parityCheck a s else upset a bits (parityCheck a s)

theorem settleWalks_one {a : Nat} {bits : Word} (h : s.walks = [(a, bits)]) :
    settleWalks s = walked a bits { s with walks := [] } := by
  unfold settleWalks
  rw [h]
  rfl

theorem walked_mismatch {a : Nat} {bits : Word} (he : a ∈ s.parErr) (hz : a ∉ s.frozen) :
    walked a bits s = parityFound a s := by
  have hc : parityCheck a s = parityFound a s := if_pos (by simp [he, hz])
  unfold walked
  rw [hc, if_pos (by rw [(parityFound_hasDesk a s).frozen]; simp)]

theorem walked_match {a : Nat} {bits : Word} (he : a ∉ s.parErr) (hz : a ∉ s.frozen) : walked a bits s = upset a bits s := by
  unfold walked
  rw [parityCheck_good he, if_neg (by simpa using hz)]

theorem upset_match {a : Nat} {bits : Word} {d : RegDesc} (hd : regDesc a = some d) (he : a ∉ s.parErr) :
    upset a bits s = { s with
      cfg := s.cfg.set a (s.cfg.get a ^^^ (bits &&& d.held))
      parErr := if oddBits (bits &&& d.held) then a :: s.parErr else s.parErr } := by
  unfold upset
  rw [hd]
  dsimp only [Option.map_some, Option.getD_some]
  cases oddBits (bits &&& d.held) with
  | false => rfl
  | true => exact (if_neg Bool.noConfusion).trans (if_neg (by simpa using he))

-- block resets

theorem regDesc_glCtrl : regDesc 0x10 = some ⟨0, 0, 0x2, 0, 0x1⟩ := by decide

/-- The write that BLK_RESET stands for. -/
def blkWrite : ApbWrite := ⟨.m, 0x00010, 1, 0xF, 0⟩

theorem exec_blkReset_write (hc : s.clocked) (hf : s.apbM.held = none) : exec .blkReset s = .next (apbWrite blkWrite s) := by
  obtain ⟨hp, ha⟩ := State.clocked_split hc
  have hr : refusedAccess .m 0x00010 0 = false := by decide
  have hg : gateShadowReg (mapAddr .m 0x00010 % 0x40000) = false := by decide
  have hk : calShadowReg (mapAddr .m 0x00010 % 0x40000) = false := by decide
  have hh : s.holdsAccess (.write blkWrite) = false := by
    change (!s.rsiAlive || (!refusedAccess .m 0x00010 0 &&
      ((gateShadowReg (mapAddr .m 0x00010 % 0x40000) && s.wheel.gateCopy.isSome) ||
        (calShadowReg (mapAddr .m 0x00010 % 0x40000) && s.wheel.calCopy.isSome)))) = false
    rw [ha, hg, hk, hr]
    rfl
  exact congrArg Host.Outcome.next (beginAccess_of_free (x := .write blkWrite) hf hp hh)

theorem blkWrite_flagCause (hg : s.good) (h : s.on GL_CTRL_ARM = false) :
    s.flagCause .base 0x10 ⟨0, 0, 0x2, 0, 0x1⟩ blkWrite = some 3 := by
  simp [State.flagCause, hg, h, blkWrite]
  decide

theorem blkWrite_flagCause_armed (h : s.on GL_CTRL_ARM = true) :
    s.flagCause .base 0x10 ⟨0, 0, 0x2, 0, 0x1⟩ blkWrite = none := by
  simp [State.flagCause, h]

theorem abandonTests_work (s : State) : ChannelWork s (abandonTests s) := by
  unfold abandonTests
  exact .foldl (fun s c => abandonTest_work c s) _ _

theorem abandonSteps_work (s : State) : ChannelWork s (allChans.foldl (fun s c => abandonStep c s) s) :=
  .foldl (fun s c => abandonStep_work c s) _ _

theorem abortScrubs_hasDesk {p : Pins × Apb × Clk × List Nat × List (Nat × Word)} (h : HasDesk p s) :
    HasDesk p ([0, 1, 2, 3].foldl (fun s q => abortScrub q 0 s) s) :=
  foldl_inv (HasDesk p) [0, 1, 2, 3] (fun _ _ _ h => abortScrub_hasDesk h) h

/-- Step 1 of a block reset before what it aborts. -/
def State.resetBegun (s : State) : State :=
  let s := noteKept { s with pins := { s.pins with dmReady := false, ingHold := 0b1111 } }
  { s with chans := s.chans.map fun x => { x with clear := none } }

theorem resetBegun_hasDesk (s : State) : HasDesk ({ s.pins with dmReady := false, ingHold := 0b1111 }, s.apbM,
    s.resetBegun.clk, s.frozen, s.caps) s.resetBegun := rfl

/-- What step 1 of a block reset aborts. -/
def abortWork (s : State) : State :=
  abandonTests (allChans.foldl (fun s c => abandonStep c s)
    (discardWaiting ([0, 1, 2, 3].foldl (fun s q => abortScrub q 0 s) (abortSpills s))))

theorem abortWork_hasDesk {p : Pins × Apb × Clk × List Nat × List (Nat × Word)} (h : HasDesk p s) :
    HasDesk p (abortWork s) :=
  ChannelWork.hasDesk (discardWaiting_hasDesk (abortScrubs_hasDesk (abortSpills_hasDesk h)))
    ((abandonSteps_work _).trans (abandonTests_work _))

theorem startReset_idle (h : s.clk.blkStep = 0) : startReset s = settleReset (blkStep 2 (abortWork s.resetBegun)) := by
  unfold startReset
  rw [if_neg (not_not.2 h)]
  rfl

theorem onRanks_hasDesk {p : Pins × Apb × Clk × List Nat × List (Nat × Word)} {c : Nat} {f : Rank → Rank}
    (h : HasDesk p s) : HasDesk p (s.onRanks c f) := h

/-- Step 2 of a block reset stays or becomes step 3, with the pins and the port as they are. -/
theorem settleReset_fromTwo (h : s.clk.blkStep = 2) :
    ((settleReset s).clk.blkStep = 2 ∨ (settleReset s).clk.blkStep = 3) ∧ (settleReset s).pins = s.pins ∧
      (settleReset s).apbM = s.apbM := by
  have hs : ∀ t, HasDesk s.desk t → (t.clk.blkStep = 2 ∨ t.clk.blkStep = 3) ∧ t.pins = s.pins ∧ t.apbM = s.apbM :=
    fun t ht => ⟨.inl (by rw [ht.clk]; exact h), ht.pins, ht.apbM⟩
  unfold settleReset
  extract_lets cs evicted quiet
  have he : HasDesk s.desk evicted := hasDesk_foldl (fun _ _ h => State.onChan_hasDesk h) rfl
  split
  · exact hs s rfl
  · split
    · exact hs _ he
    · split
      · exact hs _ (hasDesk_foldl (fun _ _ h => flushCache_hasDesk h) he)
      · have hr : HasDesk (blkStep 3 evicted).desk (cs.foldl (fun s c => s.onRanks c fun k =>
            if k.awake then k.ask (.selfRefresh true) else k) (blkStep 3 evicted)) :=
          hasDesk_foldl (fun _ _ h => onRanks_hasDesk h) rfl
        exact ⟨.inr (by rw [hr.clk]; rfl), hr.pins.trans he.pins, hr.apbM.trans he.apbM⟩

/-- An armed write of BLK_RESET clears ARM and starts the reset. -/
theorem writeReg_blkReset (ha : s.on GL_CTRL_ARM = true) (hz : GL_CTRL_ARM.addr ∉ s.frozen) :
    ∃ v, writeReg .base 0x10 ⟨0, 0, 0x2, 0, 0x1⟩ blkWrite s = startReset (s.setCfgWord 0x10 v) := by
  have hw : s.writable ⟨0, 0, 0x2, 0, 0x1⟩ = 0x2 := by
    unfold State.writable
    split <;> rfl
  have hm : ∀ old, (writtenBits .base 0x2 old blkWrite).1 ≠ 0 := fun _ => by
    change (0x2 &&& strobeMask 0xF : Word) ≠ 0
    decide
  have hst : startedBits .base ⟨0, 0, 0x2, 0, 0x1⟩ blkWrite = 1 := by decide
  have hpl : plainReg 0x10 = true := by decide
  refine ⟨(writtenBits .base 0x2 (s.cfg.get 0x10) blkWrite).2, ?_⟩
  unfold writeReg
  rw [if_neg fun h => h.1 rfl]
  dsimp only
  rw [hst, hw, ha, if_neg (by simp), if_neg (hm _)]
  have hfz : ¬ (0x10 = PM_CTL_FREEZE.addr ∧ (writtenBits .base 0x2 (s.cfg.get 0x10) blkWrite).1.getLsbD 0 = true) :=
    fun h => absurd h.1 (by decide)
  rw [if_neg hfz, storeReg_plain hpl hz]
  rfl

theorem apbWrite_blkReset_armed (ha : s.on GL_CTRL_ARM = true) (hz : GL_CTRL_ARM.addr ∉ s.frozen) :
    ∃ t : State, t.clk = s.clk ∧ t.apbM = ⟨true, false, 0, none⟩ ∧ apbWrite blkWrite s = startReset t := by
  obtain ⟨v, hv⟩ := writeReg_blkReset (s := answerApb .m false 0 (dropHeld 0x10 s)) ha hz
  have hf := setCfgWord_frame (answerApb .m false 0 (dropHeld 0x10 s)) 0x10 v
  unfold SameButCfg at hf
  refine ⟨(answerApb .m false 0 (dropHeld 0x10 s)).setCfgWord 0x10 v, by rw [hf]; rfl, by rw [hf]; rfl, ?_⟩
  rw [← hv]
  have hb : mapAddr blkWrite.port blkWrite.addr % 0x40000 = 0x10 := by decide
  have hi : imageOf (mapAddr blkWrite.port blkWrite.addr) = .base := by decide
  have hr : refusedAccess blkWrite.port blkWrite.addr blkWrite.prot = false := by decide
  unfold apbWrite
  rw [if_neg (by simp [hr])]
  dsimp only
  rw [hb, regDesc_glCtrl, hi]
  dsimp only
  rw [blkWrite_flagCause_armed (s := dropHeld 0x10 s) ha]
  rfl

end

/-- Settles O21: the select is two writes of TB_CLKMON; a walk is a check, then the upset of its bits. -/
theorem monitorSelectAndParityWalk : Obligations.MonitorSelectAndParityWalk := by
  refine ⟨fun s sel div hs hc hg hz => ?select, fun s a bits hc hp => congrArg Host.Outcome.next (if_pos ⟨hc, hp⟩),
    fun s a bits d hw hz hd => ⟨fun he => ?mismatch, fun he => ?good⟩⟩
  case select =>
    have hw := canonical_cfg hs
    have hw1 := State.setCf_cfg_wf (s := s) TB_CLKMON_SEL sel.toNat hw
    have hf := (setCf_frame s TB_CLKMON_SEL sel.toNat).trans (setCf_frame _ TB_CLKMON_DIV div.toNat)
    have hz1 : TB_CLKMON_DIV.addr ∉ (s.setCf TB_CLKMON_SEL sel.toNat).frozen := by
      have h := setCf_frame s TB_CLKMON_SEL sel.toNat
      unfold SameButCfg at h
      rw [h]
      exact hz
    refine ⟨_, congrArg Host.Outcome.next (if_pos ⟨hc, hg⟩), ?_, ?_, ?_, fun g hg => ?_, ?_⟩
    · refine (State.cf_setCf_other TB_CLKMON_DIV TB_CLKMON_SEL _ hw1 (.inr (by decide))).trans ?_
      rw [State.cf_setCf_self _ _ hw (by decide) hz]
      exact Nat.mod_eq_of_lt sel.isLt
    · refine (State.cf_setCf_self TB_CLKMON_DIV _ hw1 (by decide) hz1).trans ?_
      exact Nat.mod_eq_of_lt div.isLt
    · exact Bool.false_and ({ (s.setCf TB_CLKMON_SEL sel.toNat).setCf TB_CLKMON_DIV div.toNat with
        clk := { ((s.setCf TB_CLKMON_SEL sel.toNat).setCf TB_CLKMON_DIV div.toNat).clk with monSw := false } } : State).monitorAllowed
    · exact (State.cf_setCf_other TB_CLKMON_DIV g _ hw1 (.inl hg)).trans
        (State.cf_setCf_other TB_CLKMON_SEL g _ hw (.inl hg))
    · unfold SameButCfg at hf
      unfold writeClkmon showClkmon
      dsimp only
      rw [hf]
  case mismatch =>
    have hx := (settleWalks_one hw).trans (walked_mismatch (s := { s with walks := [] }) (bits := bits) he hz)
    have hk := parityFound_hasDesk a { s with walks := [] }
    rw [hx]
    refine ⟨hk.frozen, parityFound_sameDram rfl, ?_⟩
    rw [hk.caps]
    exact find_put_self _ _ _
  case good =>
    exact (settleWalks_one hw).trans ((walked_match (s := { s with walks := [] }) he hz).trans (upset_match hd he))

/-- Settles O22: the write of BLK_RESET is a write of GL_CTRL, armed or flagged; a time-out is `resetBlock` with the DRAM
lost. -/
theorem blockResetStartsArmedAndEnds : Obligations.BlockResetStartsArmedAndEnds := by
  refine ⟨fun s hc hf hg ha h0 hz => ?armed, fun s hs hc hf hg ha hz => ?flagged, fun s hc h => ?late⟩
  case armed =>
    obtain ⟨t, htk, hta, ht⟩ := apbWrite_blkReset_armed ha hz
    have he := startReset_idle (s := t) (by rw [htk]; exact h0)
    have hu := abortWork_hasDesk (resetBegun_hasDesk t)
    generalize abortWork t.resetBegun = u at he hu
    obtain ⟨hstep, hpins, hapb⟩ := settleReset_fromTwo (s := blkStep 2 u) rfl
    refine ⟨_, exec_blkReset_write hc hf, ?_⟩
    rw [ht, he, hpins, hapb]
    have hp : (blkStep 2 u).pins = { t.pins with dmReady := false, ingHold := 0b1111 } := hu.pins
    have ha : (blkStep 2 u).apbM = t.apbM := hu.apbM
    rw [hp, ha, hta]
    exact ⟨hstep, rfl, rfl, rfl⟩
  case flagged =>
    have hx : apbWrite blkWrite s = answerApb .m false 0 (flagWrite 0x10 3 (dropHeld 0x10 s)) :=
      apbWrite_flagged (w := blkWrite) (by decide) regDesc_glCtrl (blkWrite_flagCause (s := dropHeld 0x10 s) hg ha)
    have hfr := flagWrite_frame 0x10 3 (dropHeld 0x10 s)
    unfold SameButStat at hfr
    refine ⟨_, (exec_blkReset_write hc hf).trans (congrArg _ hx), ?_, rfl, ?_⟩
    · exact (flagWrite_shows (s := dropHeld 0x10 s) 0x10 3 (canonical_stat hs)).1 hz
    · rw [hfr]
      rfl
  case late =>
    have hg : s.clocked = true ∧ (s.clk.blkStep = 2 ∨ s.clk.blkStep = 3) ∧
        s.clk.blkMark + s.usRsck (if s.clk.blkStep = 2 then 100 else 5) ≤ s.rsck := by
      rcases h with ⟨h, hm⟩ | ⟨h, hm⟩
      · exact ⟨hc, .inl h, by rw [if_pos h]; exact hm⟩
      · exact ⟨hc, .inr h, by rw [if_neg (by omega)]; exact hm⟩
    have hb : s.clk.blkStep ≠ 0 := by rcases hg.2.1 with h | h <;> omega
    refine ⟨resetBlock true s, congrArg Host.Outcome.next (if_pos hg), ?_⟩
    unfold resetBlock resetState
    rw [if_neg hb]
    refine ⟨rfl, rfl, rfl, rfl, rfl, rfl, rfl, rfl, rfl, fun i => ?_, rfl, rfl⟩
    exact Vector.getElem_map _ _

end Sys2Proof.Machine
end

section
/-!
Requests and write beats at a port, and the splitter: O23 and O24.
-/

namespace Sys2Proof.Machine

/-- Two states differ at one port, and in the counted events, alone. -/
def OnlyPort (p : Nat) (s t : State) : Prop :=
  (∀ q, q ≠ p → t.port q = s.port q) ∧ t = { s with ports := t.ports, perf := t.perf }

section

variable {p : Nat} {s t : State}

theorem OnlyPort.refl (p : Nat) (s : State) : OnlyPort p s s := ⟨fun _ _ => rfl, rfl⟩

theorem OnlyPort.trans {u : State} (h : OnlyPort p s t) (h' : OnlyPort p t u) : OnlyPort p s u := by
  obtain ⟨hport, hframe⟩ := h
  obtain ⟨hport', hframe'⟩ := h'
  refine ⟨fun q hq => (hport' q hq).trans (hport q hq), ?_⟩
  rw [hframe', hframe]

theorem onPort_only (p : Nat) (f : Port → Port) (s : State) : OnlyPort p s (s.onPort p f) :=
  ⟨fun _ hq => State.port_onPort_other _ _ hq, rfl⟩

theorem note_only (e : Ev) (u n p : Nat) (s : State) : OnlyPort p s (s.note e u n) := ⟨fun _ _ => rfl, rfl⟩

theorem portHalt_only (p cause : Nat) (s : State) : OnlyPort p s (portHalt p cause s) := by
  unfold portHalt
  split
  case h_4 =>
    split
    · exact onPort_only _ _ _
    · exact .refl _ _
  case h_5 => exact .refl _ _
  all_goals exact onPort_only _ _ _

/-- A protocol error halts a port that is not DISABLED, and one that is HALTED keeps its cause. -/
theorem portHalt_port {cause : Nat} (hp : p < 32) (hc : cause ≠ 1) (hs : (s.port p).state ≠ .disabled) :
    (portHalt p cause s).port p = { s.port p with
      state := .halted, hcause := if (s.port p).state = .halted then (s.port p).hcause else cause } := by
  unfold portHalt
  generalize hx : s.port p = x at hs ⊢
  obtain ⟨⟩ := x
  split <;> rename_i hst <;> cases hst
  case h_4 =>
    rw [if_neg hc, hx]
    rfl
  case h_5 => exact absurd rfl hs
  all_goals
    rw [State.port_onPort_self _ _ hp, hx]
    rfl

theorem accept_only (p : Nat) (r : Req) (s : State) : OnlyPort p s (accept_ p r s) := by
  unfold accept_
  dsimp only
  split
  · exact ((onPort_only _ _ _).trans (note_only _ _ _ _ _)).trans (portHalt_only _ _ _)
  · exact (onPort_only _ _ _).trans (note_only _ _ _ _ _)

/-- A request whose tag is free joins the end of the port's requests. -/
theorem accept_port_free {r : Req} (hp : p < 32)
    (h : ((s.port p).reqs.any fun e => e.tag == r.tag && !e.freed) = false) :
    (accept_ p r s).port p = { s.port p with
      reqs := (s.port p).reqs ++ [{ r with seq := (s.port p).nextSeq, at_ := s.now, bad := false, stage := .queued }]
      nextSeq := (s.port p).nextSeq + 1 } := by
  unfold accept_
  simp only [h, Bool.false_eq_true, if_false]
  exact State.port_onPort_self _ _ hp

/-- A request whose tag is in use halts a port in RUN. -/
theorem accept_port_clash {r : Req} (hp : p < 32) (hrun : (s.port p).state = .run)
    (h : ((s.port p).reqs.any fun e => e.tag == r.tag && !e.freed) = true) :
    (accept_ p r s).port p = { s.port p with
      reqs := (s.port p).reqs ++ [{ r with seq := (s.port p).nextSeq, at_ := s.now, bad := true, stage := .off }]
      nextSeq := (s.port p).nextSeq + 1, state := .halted, hcause := 2 } := by
  unfold accept_
  simp only [h, if_true]
  generalize hu : State.note _ _ _ = u
  have hx : u.port p = { s.port p with
      reqs := (s.port p).reqs ++ [{ r with seq := (s.port p).nextSeq, at_ := s.now, bad := true, stage := .off }]
      nextSeq := (s.port p).nextSeq + 1 } := by
    rw [← hu]
    exact State.port_onPort_self s _ hp
  rw [portHalt_port hp (by decide) (by rw [hx]; simp [hrun]), hx]
  simp [hrun]

theorem tag_free_iff {l : List Req} {tag : BitVec 8} :
    (l.any fun e => e.tag == tag && !e.freed) = false ↔ ∀ e ∈ l, e.tag = tag → e.freed = true := by
  simp

theorem tag_used_iff {l : List Req} {tag : BitVec 8} :
    (l.any fun e => e.tag == tag && !e.freed) = true ↔ ∃ e ∈ l, e.tag = tag ∧ e.freed = false := by
  simp

theorem qready_run (h : s.qready p = true) : (s.port p).state = .run := by
  unfold State.qready at h
  simp only [Bool.and_eq_true, beq_iff_eq] at h
  exact h.1.2

/-- Settles O23: a free tag is queued, a tag in use halts, and a request that is not ready waits. -/
theorem requestsAreTakenWhileReady : Obligations.RequestsAreTakenWhileReady := by
  intro s p addr len wr tag fence hc
  dsimp only
  have hp : p.val < 32 := by omega
  have htaken (hq : s.qready p = true) : exec (.request p addr len wr tag fence) s =
      .next (accept_ p (newReq 0 addr len.toNat wr tag fence) s) := if_pos ⟨hc, hq⟩
  have ⟨hother, hframe⟩ := accept_only p (newReq 0 addr len.toNat wr tag fence) s
  refine ⟨fun hq hfree => ?_, fun hq hused => ?_, fun hq => ?_⟩
  · exact ⟨_, htaken hq, accept_port_free hp (tag_free_iff.mpr hfree), hother, hframe⟩
  · have hport := accept_port_clash (r := newReq 0 addr len.toNat wr tag fence) hp (qready_run hq) (tag_used_iff.mpr hused)
    refine ⟨_, htaken hq, ?_, ?_, ?_, hother, hframe⟩ <;> rw [hport]
    rfl
  · have hwaits : exec (.request p addr len wr tag fence) s =
        if s.clocked ∧ (s.port p).state ≠ .disabled then .next (s.note .qstall p) else .next s := if_neg (by simp [hq])
    rw [hwaits]
    by_cases hd : (s.port p).state = .disabled
    · rw [if_neg (fun h => h.2 hd), if_pos hd]
    · rw [if_pos ⟨hc, hd⟩, if_neg hd]

-- write beats

/-- The state of a port that takes a beat, but for what becomes of the beat's request. -/
def State.beatIn (s : State) (p : Nat) : State := (s.note .beatsW p).onPort p fun x => { x with beatAt := some s.now }

theorem takeBeat_of_lacking {r : Req} (b : WBeat) (last : Bool) (h : (s.port p).lacking = some r) : takeBeat p b last s =
    if last = decide (r.taken + 1 = r.count) then
      (s.beatIn p).onPort p (·.onReq r.seq fun e => { e with
        taken := e.taken + 1, beats := if e.lost then [] else e.beats ++ [b] })
    else portHalt p (if last then 3 else 4) ((s.beatIn p).onPort p (·.onReq r.seq fun e => { e with bad := true })) := by
  unfold takeBeat
  rw [h]
  by_cases hl : last = decide (r.taken + 1 = r.count)
  · rw [if_pos hl]
    exact if_neg (by simp [hl])
  · rw [if_neg hl]
    exact if_pos fun h => hl (Bool.eq_iff_iff.mpr (by simp [h]))

theorem beatIn_port (hp : p < 32) : (s.beatIn p).port p = { s.port p with beatAt := some s.now } :=
  State.port_onPort_self (s.note .beatsW p) _ hp

theorem beatIn_only (p : Nat) (s : State) : OnlyPort p s (s.beatIn p) :=
  (note_only _ _ _ _ _).trans (onPort_only _ _ _)

theorem wready_enabled (h : s.wready p = true) : (s.port p).state ≠ .disabled := by
  unfold State.wready at h
  simp only [Bool.and_eq_true, decide_eq_true_eq] at h
  exact h.1.1.1.2

theorem wready_of_beatAt (h : (s.port p).beatAt = some s.now) : s.wready p = false := by
  unfold State.wready
  simp [h]

/-- Every line of a cut request stands at its home, and is refused in the order of assumption 40. -/
theorem cut_line (s : State) (r : Req) {l : ReqLine} (hl : l ∈ s.cut r) :
    (l.logical, l.q) = s.homeOf l.line ∧ l.handed = false ∧ l.dead = false ∧
      (r.crosses = true → l.out = some ⟨3, 2⟩) ∧
      (r.crosses = false → s.logicals * s.lines ≤ l.line → l.out = some ⟨3, 1⟩) ∧
      (r.crosses = false → l.line < s.logicals * s.lines → l.out = if r.lost then some ⟨3, 4⟩ else none) := by
  obtain ⟨k, -, rfl⟩ := List.mem_map.mp hl
  refine ⟨rfl, rfl, rfl, fun h => ?_, fun h hge => ?_, fun h hlt => ?_⟩
  · simp [h]
  · simp only [h, Bool.false_eq_true, if_false]
    exact if_pos hge
  · simp only [h, Bool.false_eq_true, if_false]
    exact if_neg (Nat.not_le.mpr hlt)

theorem cut_length (s : State) (r : Req) : (s.cut r).length = r.lastLine + 1 - r.firstLine := by
  simp [State.cut]

theorem splitNext_of_queued {r : Req} (h : (s.port p).reqs.find? (·.stage == .queued) = some r)
    (hr : (s.port p).splittable r = true) : splitNext p s = s.onPort p fun x => (x.onReq r.seq fun e => { e with
      lines := s.cut r, crossed := e.crosses, stage := if (s.cut r).all (·.out.isSome) then .off else .shaping }).sweep := by
  unfold splitNext
  rw [h]
  exact if_pos hr

end

/-- Settles O24: a beat that fits is held, one that does not halts the port, and a request is cut into lines at their homes. -/
theorem beatsAndLinesOfARequest : Obligations.BeatsAndLinesOfARequest := by
  intro s hc
  refine ⟨fun p data be last r hw hr => ?_, fun p r hrun hq hsplit => ?_⟩
  · have hp : p.val < 32 := by omega
    have hexec : exec (.writeBeat p data be last) s = .next (takeBeat p ⟨data, be⟩ last s) :=
      congrArg Host.Outcome.next (if_pos ⟨hc, hw⟩)
    rw [takeBeat_of_lacking _ _ hr] at hexec
    refine ⟨fun hl => ?_, fun hl => ?_⟩
    · rw [if_pos hl] at hexec
      have hport := State.port_onPort_self (s.beatIn p) (·.onReq r.seq fun e => { e with
        taken := e.taken + 1, beats := if e.lost then [] else e.beats ++ [⟨data, be⟩] }) hp
      have ⟨hother, hframe⟩ := (beatIn_only p s).trans (onPort_only p (·.onReq r.seq fun e => { e with
        taken := e.taken + 1, beats := if e.lost then [] else e.beats ++ [⟨data, be⟩] }) (s.beatIn p))
      rw [beatIn_port hp] at hport
      refine ⟨_, hexec, by rw [hport]; rfl, by rw [hport]; rfl, wready_of_beatAt (by rw [hport]; rfl), hother, hframe⟩
    · rw [if_neg hl] at hexec
      have hport := State.port_onPort_self (s.beatIn p) (·.onReq r.seq fun e => { e with bad := true }) hp
      have honly := (beatIn_only p s).trans (onPort_only p (·.onReq r.seq fun e => { e with bad := true }) (s.beatIn p))
      rw [beatIn_port hp] at hport
      generalize (s.beatIn p).onPort p _ = u at hexec hport honly
      have ⟨hother, hframe⟩ := honly.trans (portHalt_only p (if last then 3 else 4) u)
      have hhalt : (portHalt p (if last then 3 else 4) u).port p = _ :=
        portHalt_port hp (by cases last <;> decide) (by rw [hport]; exact wready_enabled hw)
      rw [hport] at hhalt
      exact ⟨_, hexec, by rw [hhalt], by rw [hhalt]; rfl, by rw [hhalt]; rfl, hother, hframe⟩
  · have hp : p.val < 32 := by omega
    have hexec : exec (.split p) s = .next (splitNext p s) :=
      congrArg Host.Outcome.next (if_pos (by simp [State.intakeRuns, hc, hrun]))
    rw [splitNext_of_queued hq hsplit] at hexec
    have ⟨hother, hframe⟩ := onPort_only p (fun x => (x.onReq r.seq fun e => { e with
      lines := s.cut r, crossed := e.crosses, stage := if (s.cut r).all (·.out.isSome) then .off else .shaping }).sweep) s
    exact ⟨_, hexec, State.port_onPort_self _ _ hp, cut_length s r, fun l hl => cut_line s r hl, hother, rfl⟩

end Sys2Proof.Machine
end

section
/-!
The shapers, the furlong and the gates: O26 to O28.
-/

namespace Sys2Proof.Machine

section

variable {s : State} {p : Nat}

-- updates of one port

theorem onPort_const (f : Port → Port) (h : p < 32) : s.onPort p f = s.onPort p fun _ => f (s.port p) := by
  simp [State.onPort, State.port, upd, h, Vector.getD]

theorem onPort_onPort (f g : Port → Port) : (s.onPort p f).onPort p g = s.onPort p fun x => g (f x) := by
  unfold State.onPort upd
  by_cases h : p < 32 <;> simp [h]

/-- The register copy a gate reads, of a state that agrees in what it reads from. -/
theorem gateOf_congr {t : State} (hw : t.wheel = s.wheel) (hc : t.cfg = s.cfg)
    (hs : ∀ f : Field, f.addr = (PT_GATEW_GATED p).addr → t.st f = s.st f) : t.gateOf p = s.gateOf p := by
  unfold State.gateOf State.on
  simp only [hw, State.cf_congr hc]
  rw [hs _ rfl, hs (PT_GATEW_GROUP p) rfl, hs (PT_GATEW_CPB p) rfl]

-- the shaper test

/-- A port whose head request is released. -/
def Port.release (x : Port) (now seq tier : Nat) (cal gated : Bool) : Port := { x.onReq seq (fun e => { e with
  tier := tier, cal := cal, stage := if gated then .gate else .hand
  passAt := if gated then none else some now }) with relAt := some now }

theorem release_eq (seq tier : Nat) (cal : Bool) :
    release p seq tier cal s = s.onPort p fun x => x.release s.now seq tier cal (s.gateOf p).1 := by
  unfold Machine.release
  cases (s.gateOf p).1 <;> rfl

theorem shaperTest_of_shaping {r : Req} (hrel : (s.port p).relAt ≠ some s.now) (hr : (s.port p).shaping = some r) :
    shaperTest p s =
      if (s.port p).credit ≥ r.lines.length then
        release p r.seq 0 true (s.onPort p fun x => { x with credit := x.credit - r.lines.length })
      else if !(s.port p).shaped then release p r.seq (s.cf (PT_ARB_TIER p)) false s
      else if (s.port p).levelC ≥ r.cost then
        release p r.seq (s.cf (PT_ARB_TIER p)) false (s.onPort p fun x => { x with levelC := x.levelC - r.cost })
      else if (s.port p).policed && (s.port p).levelP ≥ r.cost then
        release p r.seq ((s.port p).demotedTier (s.cf (PT_ARB_TIER p))) false
          (((s.onPort p fun x => { x with levelP := x.levelP - r.cost }).bump (PT_SHCNT_DEMOTED p)).note .demoted p)
      else
        ((s.onPort p fun y => { y with rodAt := some ((s.wheel.rod + (s.port p).waitRods r.cost) % 1024) }).bump
          (PT_SHCNT_SHAPED p)).note .shaped p := by
  unfold shaperTest
  simp only [if_neg hrel, hr]

theorem waitRods_bounds (x : Port) (cost : Nat) : 1 ≤ x.waitRods cost ∧ x.waitRods cost ≤ 1023 := by
  unfold Port.waitRods
  dsimp only
  generalize (match rodsToPay cost x.levelC _, _ with
    | none, none => 1023
    | some a, none => a
    | none, some b => b
    | some a, some b => min a b : Nat) = k
  omega

theorem released_onPort (f : Port → Port) (seq tier : Nat) (cal : Bool) (hp : p < 32) :
    release p seq tier cal (s.onPort p f) =
      s.onPort p fun _ => (f (s.port p)).release s.now seq tier cal (s.gateOf p).1 := by
  rw [release_eq, onPort_onPort, onPort_const _ hp]
  rfl

theorem bump_onPort (g : Field) (n : Nat) (f : Port → Port) : (s.onPort p f).bump g n = (s.bump g n).onPort p f := by
  unfold State.bump State.setSt
  by_cases h : s.frozen.contains g.addr
  · rw [if_pos h, if_pos (show (s.onPort p f).frozen.contains g.addr from h)]
    rfl
  · rw [if_neg h, if_neg (show ¬ (s.onPort p f).frozen.contains g.addr from h)]
    rfl

/-- Two states differ at one port, the events it counts and its counter alone. -/
def CountedAt (p : Nat) (g : Field) (s t : State) : Prop :=
  t = { s with ports := t.ports, stat := (s.bump g).stat, news := (s.bump g).news, perf := t.perf } ∧
  ∀ q, q ≠ p → t.port q = s.port q

theorem bump_counted (g : Field) {t : State} (h : OnlyPort p (s.bump g) t) : CountedAt p g s t := by
  obtain ⟨hother, hframe⟩ := h
  have hb : SameButStat s (s.bump g) := bump_frame _ _ _
  unfold SameButStat at hb
  refine ⟨?_, fun q hq => (hother q hq).trans (by simp [State.port])⟩
  generalize s.bump g = u at *
  rw [hframe, hb]

theorem counted_only (g : Field) (e : Ev) (f h : Port → Port) :
    OnlyPort p (s.bump g) ((((s.bump g).onPort p f).note e p).onPort p h) :=
  ((onPort_only p f _).trans (note_only e p 1 p _)).trans (onPort_only p h _)

theorem counted_port (g : Field) (e : Ev) (f h : Port → Port) (hp : p < 32) :
    ((((s.bump g).onPort p f).note e p).onPort p h).port p = h (f (s.port p)) := by
  have hb : (s.bump g).port p = s.port p := by simp [State.port]
  rw [State.port_onPort_self _ _ hp]
  change h (((s.bump g).onPort p f).port p) = _
  rw [State.port_onPort_self _ _ hp, hb]

/-- A release after a count that the gate does not read. -/
theorem release_counted (g : Field) (e : Ev) (f : Port → Port) (seq tier : Nat) (cal : Bool) (hs : s.stat.wf)
    (hg : (PT_GATEW_GATED p).addr ≠ g.addr) : release p seq tier cal (((s.onPort p f).bump g).note e p) =
      (((s.bump g).onPort p f).note e p).onPort p fun x => x.release s.now seq tier cal (s.gateOf p).1 := by
  have hgate : (((s.bump g).onPort p f).note e p).gateOf p = s.gateOf p :=
    gateOf_congr (State.bump_wheel _ _ _) (State.bump_cfg _ _ _) fun k hk =>
      State.st_bump_other g k 1 hs (.inl (by rwa [hk]))
  have hnow : (((s.bump g).onPort p f).note e p).now = s.now := State.bump_now _ _ _
  rw [bump_onPort, release_eq, hgate, hnow]

end

/-- Settles O26: the branches of the shaper's test, in their order. -/
theorem shapersTestTheHeadRequest : Obligations.ShapersTestTheHeadRequest := by
  intro s p r
  dsimp only
  have hp : p.val < 32 := by omega
  refine ⟨fun hrel => ?_, fun hcan hc hrun hrod hover hrel hr => ?_⟩
  · have hsame : shaperTest p s = s := by
      unfold shaperTest
      simp only [if_pos hrel]
    simp [execShaperTest, hsame]
  · have hexec : exec (.shaperTest p) s = .next (shaperTest p s) :=
      congrArg Host.Outcome.next (if_pos ⟨by simp [State.intakeRuns, hc, hrun], hrod, by simp [hover]⟩)
    rw [shaperTest_of_shaping hrel hr] at hexec
    refine ⟨fun hcredit => ?_, fun hcredit => ?_⟩
    · rw [hexec, if_pos hcredit, released_onPort _ _ _ _ hp]
      rfl
    rw [if_neg (Nat.not_le.mpr hcredit)] at hexec
    refine ⟨fun hshaped => ?_, fun hshaped => ?_⟩
    · rw [hexec, if_pos (by simp [hshaped]), release_eq, onPort_const _ hp]
      rfl
    rw [if_neg (by simp [hshaped])] at hexec
    refine ⟨fun hc => ?_, fun hc => ?_⟩
    · rw [hexec, if_pos (show (s.port p).levelC ≥ r.cost from hc), released_onPort _ _ _ _ hp]
      rfl
    rw [if_neg (show ¬ (s.port p).levelC ≥ r.cost from Nat.not_le.mpr hc)] at hexec
    refine ⟨fun hpol hlev => ?_, fun hlev => ?_⟩
    · rw [if_pos (show ((s.port p).policed && decide ((s.port p).levelP ≥ r.cost)) = true by
          simpa [hpol, Req.cost] using hlev),
        release_counted _ _ _ _ _ _ (canonical_stat hcan) (by simp [PT_GATEW_GATED, PT_SHCNT_DEMOTED])] at hexec
      have ⟨hframe, hother⟩ := bump_counted _ (counted_only (p := p) (s := s) (PT_SHCNT_DEMOTED p) .demoted
        (fun x => { x with levelP := x.levelP - r.cost }) (fun x => x.release s.now r.seq
          ((s.port p).demotedTier (s.cf (PT_ARB_TIER p))) false (s.gateOf p).1))
      exact ⟨_, hexec, counted_port _ _ _ _ hp, hframe, hother⟩
    · rw [if_neg (by rcases hlev with h | h <;> simp [h, Req.cost]), bump_onPort] at hexec
      have honly := (onPort_only p (fun y => { y with
        rodAt := some ((s.wheel.rod + (s.port p).waitRods r.cost) % 1024) }) (s.bump (PT_SHCNT_SHAPED p))).trans
        (note_only .shaped p 1 p _)
      have ⟨hframe, hother⟩ := bump_counted _ honly
      have ⟨hlow, hhigh⟩ := waitRods_bounds (s.port p) r.cost
      refine ⟨_, _, hexec, hlow, hhigh, ?_, hframe, hother⟩
      exact (State.port_onPort_self (s.bump (PT_SHCNT_SHAPED p)) _ hp).trans (by simp [State.port])

-- gates

theorem gateTest_pass {s : State} {p : Nat} {r : Req} (h : (s.gateOf p).1 = false ∨
    ∃ w ∈ s.windows (s.gateOf p).2.1, w.1 ≤ s.grain ∧ s.grain + s.transferGrains p r ≤ w.2) : s.gateTest p r = .pass := by
  unfold State.gateTest
  dsimp only
  by_cases hg : (s.gateOf p).1 = false
  · rw [if_pos (by simp [hg])]
  · rw [if_neg (by simp [hg]), if_pos (by simpa using h.resolve_left hg)]

/-- The rest of the test, of a request that fits no open window. -/
theorem gateTest_of_not_fits {s : State} {p : Nat} {r : Req} (hg : (s.gateOf p).1 = true)
    (h : ¬ ∃ w ∈ s.windows (s.gateOf p).2.1, w.1 ≤ s.grain ∧ s.grain + s.transferGrains p r ≤ w.2) :
    s.gateTest p r = if (∀ w ∈ s.windows (s.gateOf p).2.1, w.2 - w.1 < s.transferGrains p r) ∧
      ∃ w ∈ s.windows (s.gateOf p).2.1, w.1 ≤ s.grain ∧ s.grain < w.2 then .oversize else .wait := by
  unfold State.gateTest
  dsimp only
  rw [if_neg (by simp [hg]), if_neg (by simpa using h)]
  refine if_congr ?_ rfl rfl
  generalize s.windows (s.gateOf p).2.1 = ws
  simp only [Bool.and_eq_true, Bool.not_eq_true', List.isEmpty_eq_false_iff, List.all_eq_true, List.any_eq_true,
    decide_eq_true_eq]
  refine ⟨fun ⟨⟨_, hall⟩, hopen⟩ => ⟨hall, hopen⟩, fun ⟨hall, hopen⟩ => ⟨⟨?_, hall⟩, hopen⟩⟩
  obtain ⟨w, hw, -⟩ := hopen
  exact List.ne_nil_of_mem hw

/-- Settles O28: a gate's answer by what the windows leave room for. -/
theorem gatesPassWhatFitsTheWindow : Obligations.GatesPassWhatFitsTheWindow := by
  intro s p r ws e fits long passed hc hrun hline hr
  have hexec : exec (.gatePass p) s = match s.gateTest p r with
      | .wait => if r.waited then .next s else
        .next ((s.onPort p (·.onReq r.seq fun r => { r with waited := true })).bump (PT_GATESTAT_WAITS p))
      | .pass => .next (passed s)
      | .oversize => .next (passed (s.bump (PT_GATESTAT_OVERSIZE p))) := by
    rw [exec_gatePass, execGatePass, if_pos (by simp [State.intakeRuns, hc, hrun, hline]), hr]
    dsimp only
    cases s.gateTest p r with
    | wait => rfl
    | pass => rfl
    | oversize =>
      exact congrArg (fun n => Host.Outcome.next ((s.bump (PT_GATESTAT_OVERSIZE p)).onPort p (·.onReq r.seq fun r =>
        { r with stage := .hand, passAt := some n }))) (State.bump_now s _ _)
  refine ⟨fun h => ?_, fun hg hfit hlong => ?_, fun hg hfit hlong => ?_⟩
  · rw [hexec, gateTest_pass h]
  · rw [hexec, gateTest_of_not_fits hg hfit, if_pos hlong]
  · rw [hexec, gateTest_of_not_fits hg hfit, if_neg hlong]
    exact (apply_ite Host.Outcome.next _ _ _).symm

section

variable {s t : State} {p : Nat}

-- rods

/-- Two states differ in the ports and the counted events alone. -/
def SameButPorts (s t : State) : Prop := t = { s with ports := t.ports, perf := t.perf }

theorem SameButPorts.refl (s : State) : SameButPorts s s := rfl

theorem SameButPorts.trans {u : State} (h : SameButPorts s t) (h' : SameButPorts t u) : SameButPorts s u := by
  unfold SameButPorts at *
  rw [h', h]

theorem OnlyPort.frame (h : OnlyPort p s t) : SameButPorts s t := h.2

theorem SameButPorts.wheel (h : SameButPorts s t) : t.wheel = s.wheel := by
  unfold SameButPorts at h
  rw [h]

/-- A fold over ports that a port meets once does to the port what its own step does. -/
theorem foldl_at {f : State → Nat → State} (hf : ∀ s q, OnlyPort q s (f s q)) {l : List Nat} (hl : l.Nodup) (hp : p ∈ l)
    (s : State) : ∃ t, SameButPorts s t ∧ t.port p = s.port p ∧ (l.foldl f s).port p = (f t p).port p := by
  obtain ⟨l₁, l₂, rfl⟩ := List.append_of_mem hp
  have hkeep (l' : List Nat) (h' : p ∉ l') (v : State) :
      SameButPorts v (l'.foldl f v) ∧ (l'.foldl f v).port p = v.port p :=
    foldl_inv (fun t => SameButPorts v t ∧ t.port p = v.port p) l'
      (fun t q hq ⟨hframe, hport⟩ =>
        ⟨hframe.trans (hf t q).frame, ((hf t q).1 p (ne_of_mem_of_not_mem hq h').symm).trans hport⟩) ⟨.refl v, rfl⟩
  have hnd := List.nodup_append.mp hl
  have h₁ : p ∉ l₁ := fun h => hnd.2.2 p h p (List.mem_cons_self ..) rfl
  have h₂ : p ∉ l₂ := (List.nodup_cons.mp hnd.2.1).1
  obtain ⟨hframe, hport⟩ := hkeep l₁ h₁ s
  refine ⟨_, hframe, hport, ?_⟩
  rw [List.foldl_append, List.foldl_cons]
  exact (hkeep l₂ h₂ _).2

theorem reshape_only (p : Nat) (w : Word × Word × Word) (s : State) : OnlyPort p s (reshape p w s) :=
  (onPort_only _ _ _).trans (onPort_only _ _ _)

theorem rodPort_only (p : Nat) (s : State) : OnlyPort p s (rodPort p s).1 := by
  unfold rodPort
  dsimp only
  split
  · exact reshape_only _ _ _
  · split
    · exact (onPort_only _ _ _).trans (reshape_only _ _ _)
    · exact onPort_only _ _ _
  · exact onPort_only _ _ _

/-- No shaper write falls due at a port in this rod, and its furlong entry is not of this rod. -/
def QuietAt (p : Nat) (s : State) : Prop :=
  (s.port p).shDue = none ∧ (∀ w, (s.port p).shWrite = some w → s.wheel.mark ≤ w) ∧ (s.port p).rodAt ≠ some s.wheel.rod

theorem rodPort_of_quiet (h : QuietAt p s) : rodPort p s = (s.onPort p addTokens, false) := by
  obtain ⟨hdue, hwrite, hrod⟩ := h
  have hrod' : ((s.port p).rodAt == some s.wheel.rod) = false := by simpa using hrod
  unfold rodPort
  dsimp only
  rw [hdue]
  cases hw : (s.port p).shWrite with
  | none => simp [hrod']
  | some w => simp [Nat.not_lt.mpr (hwrite w hw), hrod']

theorem QuietAt.of_frame (h : QuietAt p s) (hframe : SameButPorts s t) (hport : t.port p = s.port p) : QuietAt p t := by
  unfold QuietAt at *
  rw [hport, hframe.wheel]
  exact h

/-- One port of the fold of `rodWork`. -/
def rodStep (acc : State × List Nat) (p : Nat) : State × List Nat :=
  ((rodPort p acc.1).1, if (rodPort p acc.1).2 then acc.2 ++ [p] else acc.2)

theorem rodSteps_fst (l : List Nat) (acc : State × List Nat) :
    (l.foldl rodStep acc).1 = l.foldl (fun s p => (rodPort p s).1) acc.1 := by
  induction l generalizing acc with
  | nil => rfl
  | cons q l ih => exact ih _

theorem rodSteps_snd_of_notMem {l : List Nat} {acc : State × List Nat} (hl : p ∉ l) (hp : p ∉ acc.2) :
    p ∉ (l.foldl rodStep acc).2 := by
  induction l generalizing acc with
  | nil => exact hp
  | cons q l ih =>
    obtain ⟨hq, hl⟩ := not_or.mp (mt List.mem_cons.mpr hl)
    refine ih hl ?_
    unfold rodStep
    split <;> simp [hp, hq]

/-- A quiet port is not tested again at the rod. -/
theorem rodSteps_snd_of_quiet {l : List Nat} {acc : State × List Nat} (hl : l.Nodup) (hquiet : QuietAt p acc.1)
    (hp : p ∉ acc.2) : p ∉ (l.foldl rodStep acc).2 := by
  induction l generalizing acc with
  | nil => exact hp
  | cons q l ih =>
    obtain ⟨hql, hl⟩ := List.nodup_cons.mp hl
    by_cases hqp : p = q
    · subst hqp
      refine rodSteps_snd_of_notMem (acc := rodStep acc p) hql ?_
      simpa [rodStep, rodPort_of_quiet hquiet] using hp
    · have honly := rodPort_only q acc.1
      refine ih hl (hquiet.of_frame honly.frame (honly.1 p hqp)) ?_
      unfold rodStep
      split <;> simp [hp, hqp]

/-- One port of the fold of `fireCalendar`. -/
def fireAt (s : State) (p : Nat) : State :=
  let n := ([0, 1, 2, 3].map fun k => calFires (s.calEntry p k) s.wheel.rod).sum
  if n = 0 then s else s.onPort p fun x => { x with credit := min 32 (x.credit + n) }

theorem fireAt_only (s : State) (p : Nat) : OnlyPort p s (fireAt s p) := by
  unfold fireAt
  dsimp only
  split
  · exact .refl _ _
  · exact onPort_only _ _ _

theorem fireAt_port (hp : p < 32) : (fireAt s p).port p =
    let n := ([0, 1, 2, 3].map fun k => calFires (s.calEntry p k) s.wheel.rod).sum
    { s.port p with credit := if n = 0 then (s.port p).credit else min 32 ((s.port p).credit + n) } := by
  unfold fireAt
  dsimp only
  split
  · rfl
  · exact State.port_onPort_self _ _ hp

/-- Two states differ at one port, the counters of its shaper and the counted events alone. -/
def TestedAt (p : Nat) (s t : State) : Prop :=
  (∀ q, q ≠ p → t.port q = s.port q) ∧
  t = { s with ports := t.ports, stat := t.stat, news := t.news, perf := t.perf } ∧
  (s.stat.wf → t.stat.wf ∧ ∀ f : Field, f.addr ≠ (PT_SHCNT_DEMOTED p).addr → t.st f = s.st f)

theorem TestedAt.trans {u : State} (h : TestedAt p s t) (h' : TestedAt p t u) : TestedAt p s u := by
  obtain ⟨hport, hframe, hstat⟩ := h
  obtain ⟨hport', hframe', hstat'⟩ := h'
  refine ⟨fun q hq => (hport' q hq).trans (hport q hq), ?_, fun hw => ?_⟩
  · rw [hframe', hframe]
  · obtain ⟨hwf, hst⟩ := hstat hw
    obtain ⟨hwf', hst'⟩ := hstat' hwf
    exact ⟨hwf', fun f hf => (hst' f hf).trans (hst f hf)⟩

theorem OnlyPort.tested (h : OnlyPort p s t) : TestedAt p s t := by
  obtain ⟨hport, hframe⟩ := h
  have hstat : t.stat = s.stat := by rw [hframe]
  refine ⟨hport, ?_, fun hw => ⟨hstat ▸ hw, fun f _ => State.st_congr hstat f⟩⟩
  rw [hframe]

theorem bump_tested (s : State) (g : Field) (hg : g.addr = (PT_SHCNT_DEMOTED p).addr) : TestedAt p s (s.bump g) := by
  have hframe : SameButStat s (s.bump g) := bump_frame _ _ _
  refine ⟨fun q _ => by simp [State.port], ?_, fun hw => ⟨State.bump_stat_wf _ _ hw, fun f hf =>
    State.st_bump_other _ _ _ hw (.inl (hg ▸ hf))⟩⟩
  unfold SameButStat at hframe
  generalize s.bump g = t at hframe ⊢
  rw [hframe]

theorem release_only (p seq tier : Nat) (cal : Bool) (s : State) : OnlyPort p s (release p seq tier cal s) := by
  rw [release_eq]
  exact onPort_only _ _ _

theorem shaperTest_tested (p : Nat) (s : State) : TestedAt p s (shaperTest p s) := by
  unfold shaperTest
  dsimp only
  split
  · exact (OnlyPort.refl _ _).tested
  · split
    · exact ((onPort_only _ _ _).trans (release_only _ _ _ _ _)).tested
    split
    · exact (release_only _ _ _ _ _).tested
    split
    · exact ((onPort_only _ _ _).trans (release_only _ _ _ _ _)).tested
    split
    · exact ((onPort_only _ _ _).tested.trans (bump_tested _ _ rfl)).trans
        ((note_only _ _ _ _ _).trans (release_only _ _ _ _ _)).tested
    · refine TestedAt.trans ?_ (note_only _ _ _ _ _).tested
      refine TestedAt.trans ?_ (bump_tested _ _ rfl)
      exact (onPort_only _ _ _).tested

theorem rodWork_eq (s : State) : rodWork s = (shapedPorts.foldl rodStep (s, [])).2.foldl
    (fun s p => shaperTest p (s.onPort p fun x => { x with rodAt := none }))
    (shapedPorts.foldl fireAt (shapedPorts.foldl (fun s p => (rodPort p s).1) s)) := by
  rw [← rodSteps_fst shapedPorts (s, [])]
  unfold rodWork fireCalendar
  generalize shapedPorts = l
  rfl

theorem foldl_sameButPorts {f : State → Nat → State} (hf : ∀ s q, OnlyPort q s (f s q)) (l : List Nat) (s : State) :
    SameButPorts s (l.foldl f s) :=
  foldl_inv (SameButPorts s) l (fun t q _ h => h.trans (hf t q).frame) (.refl s)

/-- What a rod boundary leaves alone. -/
def RodFrame (s t : State) : Prop :=
  t = { s with ports := t.ports, stat := t.stat, news := t.news, perf := t.perf } ∧
  (s.stat.wf → t.stat.wf ∧ ∀ f : Field, f.addr < (PT_SHCNT_DEMOTED 0).addr → t.st f = s.st f)

theorem TestedAt.rodFrame {u : State} (h : RodFrame s t) (h' : TestedAt p t u) : RodFrame s u := by
  obtain ⟨hframe, hstat⟩ := h
  obtain ⟨-, hframe', hstat'⟩ := h'
  refine ⟨by rw [hframe', hframe], fun hw => ?_⟩
  obtain ⟨hwf, hst⟩ := hstat hw
  obtain ⟨hwf', hst'⟩ := hstat' hwf
  refine ⟨hwf', fun f hf => (hst' f ?_).trans (hst f hf)⟩
  simp only [PT_SHCNT_DEMOTED] at hf ⊢
  omega

theorem SameButPorts.rodFrame (h : SameButPorts s t) : RodFrame s t := by
  have hstat : t.stat = s.stat := by
    unfold SameButPorts at h
    rw [h]
  refine ⟨?_, fun hw => ⟨hstat ▸ hw, fun f _ => State.st_congr hstat f⟩⟩
  unfold SameButPorts at h
  rw [h]

theorem rodWork_frame (s : State) : RodFrame s (rodWork s) := by
  rw [rodWork_eq]
  refine foldl_inv (RodFrame s) _ (fun t q _ ht => (((onPort_only q _ t).tested).trans (shaperTest_tested q _)).rodFrame ht)
    (SameButPorts.rodFrame ?_)
  exact (foldl_sameButPorts (fun s q => rodPort_only q s) _ _).trans (foldl_sameButPorts fireAt_only _ _)

theorem calEntry_congr (h : SameButPorts s t) (p k : Nat) : t.calEntry p k = s.calEntry p k := by
  unfold SameButPorts at h
  rw [h]
  rfl

/-- A quiet port gets its tokens and its calendar credit at a rod, and nothing else. -/
theorem rodWork_port (hp : p < 30) (hq : QuietAt p s) : (rodWork s).port p =
    let n := ([0, 1, 2, 3].map fun k => calFires (s.calEntry p k) s.wheel.rod).sum
    { addTokens (s.port p) with credit := if n = 0 then (s.port p).credit else min 32 ((s.port p).credit + n) } := by
  have hmem : p ∈ shapedPorts := List.mem_range.mpr hp
  have hnodup : shapedPorts.Nodup := List.nodup_range
  have hp' : p < 32 := by omega
  have hdue : p ∉ (shapedPorts.foldl rodStep (s, [])).2 := rodSteps_snd_of_quiet hnodup hq (List.not_mem_nil)
  rw [rodWork_eq]
  generalize (shapedPorts.foldl rodStep (s, [])).2 = due at hdue ⊢
  obtain ⟨t, htf, htp, ht⟩ := foldl_at (f := fun s p => (rodPort p s).1) (fun s q => rodPort_only q s) hnodup hmem s
  have htokens := foldl_sameButPorts (f := fun s p => (rodPort p s).1) (fun s q => rodPort_only q s) shapedPorts s
  rw [rodPort_of_quiet (hq.of_frame htf htp), State.port_onPort_self _ _ hp', htp] at ht
  generalize shapedPorts.foldl (fun s p => (rodPort p s).1) s = u at ht htokens ⊢
  obtain ⟨v, hvf, hvp, hv⟩ := foldl_at fireAt_only hnodup hmem u
  generalize shapedPorts.foldl fireAt u = w at hv ⊢
  have hkeep : (due.foldl (fun s p => shaperTest p (s.onPort p fun x => { x with rodAt := none })) w).port p = w.port p :=
    foldl_inv (fun t => t.port p = w.port p) due (fun t q hmem ht => by
      have hqp : p ≠ q := (ne_of_mem_of_not_mem hmem hdue).symm
      exact (((onPort_only q _ t).tested.trans (shaperTest_tested q _)).1 p hqp).trans ht) rfl
  have hsv := htokens.trans hvf
  rw [hkeep, hv, fireAt_port hp', hvp, ht]
  simp only [calEntry_congr hsv, hsv.wheel]
  rfl

-- revolutions

/-- The credits of the revolution that ends fall to zero. -/
def clearCredits (s : State) : State := shapedPorts.foldl (fun s p => s.onPort p fun x => { x with credit := 0 }) s

theorem clearCredits_frame (s : State) : SameButPorts s (clearCredits s) := by
  unfold clearCredits
  exact foldl_sameButPorts (fun s q => onPort_only q _ s) _ _

theorem clearCredits_port (hp : p < 30) : (clearCredits s).port p = { s.port p with credit := 0 } := by
  obtain ⟨t, -, htp, h⟩ := foldl_at (f := fun s p => s.onPort p fun x => { x with credit := 0 })
    (fun s q => onPort_only q _ s) (l := shapedPorts) List.nodup_range (List.mem_range.mpr hp) s
  rw [State.port_onPort_self _ _ (by omega), htp] at h
  exact h

/-- A revolution counts, and begins a requested commit. -/
def countRevolution (s : State) : State :=
  let s := s.setSt TB_CALREVS_REVS (s.st TB_CALREVS_REVS + 1)
  if s.wheel.calPend then commitCalendar s else s

theorem commitCalendar_frame (s : State) : commitCalendar s = { s with
    stat := (commitCalendar s).stat, news := (commitCalendar s).news
    wheel := { s.wheel with calPend := false, calCopy := some 0 } } :=
  bump_frame _ _ _

theorem commitCalendar_stat (hs : s.stat.wf) : (commitCalendar s).stat.wf ∧
    ∀ f : Field, f.addr ≠ TB_CALCTL_COMMITS.addr → (commitCalendar s).st f = s.st f :=
  ⟨State.bump_stat_wf _ _ hs, fun f hf =>
    State.st_bump_other (s := { s with wheel := { s.wheel with calPend := false, calCopy := some 0 } })
      TB_CALCTL_COMMITS f 1 hs (.inl hf)⟩

/-- What the count of a revolution leaves alone. -/
theorem countRevolution_frame (s : State) : countRevolution s = { s with
    stat := (countRevolution s).stat, news := (countRevolution s).news
    wheel := { s.wheel with calPend := false, calCopy := if s.wheel.calPend then some 0 else s.wheel.calCopy } } := by
  have hrev : SameButStat s (s.setSt TB_CALREVS_REVS (s.st TB_CALREVS_REVS + 1)) := setSt_frame _ _ _
  unfold countRevolution
  dsimp only
  rw [State.setSt_wheel]
  generalize s.setSt TB_CALREVS_REVS (s.st TB_CALREVS_REVS + 1) = t at hrev ⊢
  unfold SameButStat at hrev
  cases hp : s.wheel.calPend with
  | true =>
    have hc := commitCalendar_frame t
    simp only [if_true]
    generalize commitCalendar t = u at hc ⊢
    rw [hc, hrev]
  | false =>
    simp only [Bool.false_eq_true, if_false]
    rw [hrev, ← hp]

theorem countRevolution_stat (hs : s.stat.wf) : (countRevolution s).stat.wf ∧
    (∀ f : Field, f.addr ≠ TB_CALCTL_COMMITS.addr → f.addr ≠ TB_CALREVS_REVS.addr → (countRevolution s).st f = s.st f) ∧
    (TB_CALREVS_REVS.addr ∉ s.frozen →
      (countRevolution s).st TB_CALREVS_REVS = (s.st TB_CALREVS_REVS + 1) % 2 ^ TB_CALREVS_REVS.width) := by
  have hw : (s.setSt TB_CALREVS_REVS (s.st TB_CALREVS_REVS + 1)).stat.wf := State.setSt_stat_wf _ _ hs
  have hother (f : Field) (hf : f.addr ≠ TB_CALREVS_REVS.addr) :
      (s.setSt TB_CALREVS_REVS (s.st TB_CALREVS_REVS + 1)).st f = s.st f := State.st_setSt_other _ _ _ hs (.inl hf)
  have hself (h : TB_CALREVS_REVS.addr ∉ s.frozen) := State.st_setSt_self TB_CALREVS_REVS (s.st TB_CALREVS_REVS + 1) hs
    (by decide) h
  unfold countRevolution
  dsimp only
  generalize s.setSt TB_CALREVS_REVS (s.st TB_CALREVS_REVS + 1) = t at hw hother hself ⊢
  split
  · obtain ⟨hwf, hst⟩ := commitCalendar_stat hw
    exact ⟨hwf, fun f hf hf' => (hst f hf).trans (hother f hf'), fun h => (hst _ (by decide)).trans (hself h)⟩
  · exact ⟨hw, fun f _ hf' => hother f hf', hself⟩

/-- The state whose rod 0 begins, before the work of that rod. -/
def revolved (s : State) : State :=
  let t := countRevolution (clearCredits s)
  { t with wheel := { t.wheel with rod := 0, mark := t.wheel.mark + 16 } }

theorem execRevolutionEnd_eq (h : s.rodOver = true) (hrod : s.wheel.rod = 1023) :
    exec .revolutionEnd s = .next (rodWork (revolved s)) := if_pos ⟨h, hrod⟩

theorem revolved_frame (s : State) : revolved s = { s with
    ports := (revolved s).ports, stat := (revolved s).stat, news := (revolved s).news, perf := (revolved s).perf
    wheel := { s.wheel with
      rod := 0, mark := s.wheel.mark + 16, calPend := false
      calCopy := if s.wheel.calPend then some 0 else s.wheel.calCopy } } := by
  have hclear : SameButPorts s (clearCredits s) := clearCredits_frame s
  unfold revolved
  generalize clearCredits s = t at hclear ⊢
  unfold SameButPorts at hclear
  have hcount := countRevolution_frame t
  generalize countRevolution t = u at hcount ⊢
  rw [hcount, hclear]

theorem revolved_port (hp : p < 30) : (revolved s).port p = { s.port p with credit := 0 } := by
  have h := congrArg State.ports (countRevolution_frame (clearCredits s))
  unfold State.port revolved
  dsimp only at h ⊢
  rw [h]
  exact clearCredits_port hp

theorem revolved_stat (hs : s.stat.wf) : (revolved s).stat.wf ∧
    (∀ f : Field, f.addr ≠ TB_CALCTL_COMMITS.addr → f.addr ≠ TB_CALREVS_REVS.addr → (revolved s).st f = s.st f) ∧
    (TB_CALREVS_REVS.addr ∉ s.frozen →
      (revolved s).st TB_CALREVS_REVS = (s.st TB_CALREVS_REVS + 1) % 2 ^ TB_CALREVS_REVS.width) := by
  have hclear : SameButPorts s (clearCredits s) := clearCredits_frame s
  unfold revolved
  generalize clearCredits s = t at hclear ⊢
  unfold SameButPorts at hclear
  have hcount := countRevolution_stat (s := t) (by rw [hclear]; exact hs)
  rw [hclear] at hcount ⊢
  exact hcount

/-- What a rod boundary does to the state `v` in which its rod has begun. -/
theorem rodWork_shows {u v : State} (hcfg : v.cfg = u.cfg) (hcal : v.wheel.calCopy = u.wheel.calCopy) (hrod : v.wheel.rod = u.wheel.rod)
    (hst : ∀ f : Field, TB_CALREVS_REVS.addr < f.addr → v.st f = u.st f)
    (hp : p < 30) (hport : v.port p = u.port p) (hdue : (u.port p).shDue = none)
    (hwrite : ∀ w, (u.port p).shWrite = some w → v.wheel.mark ≤ w) (hat : (u.port p).rodAt ≠ some u.wheel.rod) :
    let n := ([0, 1, 2, 3].map fun k => calFires (u.calEntry p k) u.wheel.rod).sum
    (rodWork v).port p = { u.port p with
      levelC := min (bucketDepth (u.port p).shc) ((u.port p).levelC + bucketRate (u.port p).shc)
      levelP := min (bucketDepth (u.port p).shp) ((u.port p).levelP + bucketRate (u.port p).shp)
      credit := if n = 0 then (u.port p).credit else min 32 ((u.port p).credit + n) } := by
  have hquiet : QuietAt p v := ⟨hport ▸ hdue, hport ▸ hwrite, by rw [hport, hrod]; exact hat⟩
  have hentry (k : Nat) : v.calEntry p k = u.calEntry p k := by
    unfold State.calEntry Wheel.calShadow
    simp only [hcal, State.cf_congr hcfg]
    rw [hst (PT_CALW_START p k) (by simp [PT_CALW_START, TB_CALREVS_REVS]; omega),
      hst (PT_CALW_STRIDE p k) (by simp [PT_CALW_STRIDE, TB_CALREVS_REVS]; omega),
      hst (PT_CALW_LINES p k) (by simp [PT_CALW_LINES, TB_CALREVS_REVS]; omega)]
  rw [rodWork_port hp hquiet]
  simp only [hentry, hrod, hport]
  rfl

end

/-- Settles O27: tokens and calendar credit at each rod, the revolution and the ends of the copies. -/
theorem rodsAddTokensAndCredit : Obligations.RodsAddTokensAndCredit := by
  refine ⟨fun s u c hcan hover hc => ?_, fun s => ⟨fun hc => ⟨?_, ?_⟩, fun h => ?_, fun h => ?_⟩⟩
  · have hs := canonical_stat hcan
    rcases hc with ⟨rfl, hrod, rfl⟩ | ⟨rfl, hrod, hu, hport⟩
    · have hexec : exec .rodBoundary s = .next (rodWork { s with
        wheel := { s.wheel with rod := s.wheel.rod + 1, mark := s.wheel.mark + 16 } }) := if_pos ⟨hover, hrod⟩
      obtain ⟨hframe, -⟩ := rodWork_frame { s with
        wheel := { s.wheel with rod := s.wheel.rod + 1, mark := s.wheel.mark + 16 } }
      refine ⟨_, hexec, ?_, ?_, nofun, fun p hdue hwrite hat => ?_⟩
      · rw [hframe]
      · rw [hframe]
      · exact rodWork_shows (u := { s with wheel := { s.wheel with rod := s.wheel.rod + 1 } }) rfl rfl rfl
          (fun _ _ => rfl) p.isLt rfl hdue hwrite hat
    · have hrev := revolved_frame s
      obtain ⟨hwf, hother, hself⟩ := revolved_stat hs
      obtain ⟨hframe, hstat⟩ := rodWork_frame (revolved s)
      have hrport {p : Nat} (hp : p < 30) := revolved_port (s := s) hp
      have hexec := execRevolutionEnd_eq hover hrod
      generalize revolved s = v at hrev hwf hother hself hframe hstat hrport hexec
      have hwheel : v.wheel = { u.wheel with mark := s.wheel.mark + 16 } := by rw [hrev, hu]
      refine ⟨_, hexec, ?_, ?_, fun _ hfrozen => ?_, fun p hdue hwrite hat => ?_⟩
      · rw [hframe]
        exact hwheel
      · rw [hframe, hrev]
      · exact ((hstat hwf).2 _ (by decide)).trans (hself hfrozen)
      · refine rodWork_shows (u := u) (by rw [hrev, hu]) (by rw [hwheel]) (by rw [hwheel]) (fun f hf => ?_) p.isLt ?_
          hdue (by rw [hwheel]; exact hwrite) hat
        · rw [State.st_congr (show u.stat = s.stat by rw [hu])]
          exact hother f (by simp only [TB_CALREVS_REVS, TB_CALCTL_COMMITS] at hf ⊢; omega) hf.ne'
        · rw [hrport p.isLt, hport p, if_pos p.isLt]
  · exact congrArg Host.Outcome.next (if_pos hc)
  · exact congrArg Host.Outcome.next (if_pos hc)
  · exact congrArg Host.Outcome.next (if_pos h)
  · exact congrArg Host.Outcome.next (if_pos h)

end Sys2Proof.Machine
end

section
/-!
Lines on their way into a channel: the hand-over to a perch queue (O29).
-/

namespace Sys2Proof.Machine

section

variable {s : State} {p c : Nat}

/-- The perch line of a request's line that has its data. -/
def State.perchLine (s : State) (p i : Nat) (r : Req) (l : ReqLine) : PerchLine :=
  let d := if r.wr then r.lineData l.line else (0, 0)
  ⟨p, r.seq, i, l.line, l.q, r.tier, r.wr, (r.beatsOf l.line).length, d.1, d.2, .port, s.now, 0, 0⟩

/-- The state whose channel has the line in its perch queue. -/
def State.perched (s : State) (p c i : Nat) (r : Req) (l : ReqLine) : State :=
  addPerch c p (s.perchLine p i r l) (if r.cal then s.note .calLines p else s)

/-- A port whose request has handed its line on. -/
def Port.handed (x : Port) (now i seq : Nat) : Port :=
  ({ x with handAt := some now }.onReq seq fun e => (e.onLine i fun l => { l with handed := true }).settle).sweep

theorem handLine_of_room {r : Req} {i : Nat} {l : ReqLine} (hr : (s.port p).handing = some r)
    (hl : r.nextLine = some (i, l)) (hroom : (s.perch (s.tableAt l.logical) p).length < 4)
    (hd : r.wr = false ∨ r.holds l.line = true ∧ (r.lineData l.line).2 ≠ 0) :
    handLine p s = (s.perched p (s.tableAt l.logical) i r l).onPort p fun x => x.handed s.now i r.seq := by
  have hlack : ¬ (r.wr && !r.holds l.line) = true := by
    rcases hd with h | ⟨h, -⟩ <;> simp [h]
  have hempty : ¬ (r.wr && (if r.wr then r.lineData l.line else (0, 0)).2 == 0) = true := by
    rcases hd with h | ⟨-, h⟩
    · simp [h]
    · cases hw : r.wr with
      | false => simp
      | true => simpa using h
  unfold handLine
  rw [hr]
  dsimp only
  rw [hl]
  dsimp only
  rw [if_neg hlack, if_neg hempty, if_neg (Nat.not_le.mpr hroom), onPort_onPort]
  unfold State.perched
  cases r.cal <;> rfl

theorem perched_chan_other {i d : Nat} {r : Req} {l : ReqLine} (h : d ≠ c) : (s.perched p c i r l).chan d = s.chan d := by
  unfold State.perched addPerch
  rw [State.chan_onChan_other _ _ h]
  split <;> rfl

theorem perched_chan_self {i : Nat} {r : Req} {l : ReqLine} (h : c < 16) : (s.perched p c i r l).chan c =
    { s.chan c with arb := { (s.chan c).arb with
      perch := upd (s.chan c).arb.perch p fun q => q ++ [s.perchLine p i r l] } } := by
  unfold State.perched addPerch
  rw [State.chan_onChan_self _ _ h]
  split <;> rfl

theorem perched_frame (s : State) (p c i : Nat) (r : Req) (l : ReqLine) : s.perched p c i r l = { s with
    chans := (s.perched p c i r l).chans, perf := (s.perched p c i r l).perf } := by
  unfold State.perched
  split <;> rfl

/-- A channel in service outside take-preservation mode answers no line itself. -/
theorem turnedAway_of_serving {l : PerchLine} (hret : (s.chan c).state ≠ .retired) (htest : (s.chan c).test = 0)
    (htake : s.flt.take = false) : s.turnedAway c l = none := by
  unfold State.turnedAway
  simp [hret, htest, htake]

theorem turnAway_of_serving (n : Nat) (hret : (s.chan c).state ≠ .retired) (htest : (s.chan c).test = 0)
    (htake : s.flt.take = false) : turnAway n c p s = s := by
  cases n with
  | zero => rfl
  | succ n =>
    unfold turnAway
    cases (s.chan c).head p with
    | none => rfl
    | some l => simp only [turnedAway_of_serving hret htest htake]

end

/-- Settles O29: when a hand-over is held back, and where a line goes that is handed over. -/
theorem linesAreHandedToPerchQueues : Obligations.LinesAreHandedToPerchQueues := by
  intro s p ch hrun
  have hp : p.val < 32 := p.isLt
  refine ⟨fun h => if_pos (by simp [State.perchOpen, h]), fun hdec => ?_⟩
  have hopen : ¬ (!s.perchOpen ch) = true := by simp [State.perchOpen, hrun, hdec]
  have hexec : exec (.perchHandover p ch) s = if p.val = 30 then .next (handMaint ch s)
      else if p.val = 31 then .next (handScratch ch s)
      else if s.handsTo p = some ch.val ∧ (s.port p).handAt ≠ some s.now ∧ s.clk.retStep = 0 ∧ !s.gateHeld p then
        .next (if s.intakeWorks ch then turnAway 8 ch p (handLine p s) else handLine p s)
      else .next s := if_neg hopen
  rw [hexec]
  refine ⟨fun h30 hheld => ?_, fun r i l h30 hr hl htab hroom hd hat hret hgate hst htest htake => ?_, fun h => if_pos (congrArg Fin.val h),
    fun h => ?_⟩
  · have h30 : p.val < 30 := h30
    rw [if_neg (by omega), if_neg (by omega), if_neg]
    rintro ⟨-, hat, -, hgate⟩
    rcases hheld with h | h
    · exact hat h
    · simp [h] at hgate
  · have h30 : p.val < 30 := h30
    intro d
    have hhand := handLine_of_room hr hl (htab ▸ hroom) hd
    rw [htab] at hhand
    have hself := perched_chan_self (s := s) (p := p) (i := i) (r := r) (l := l) ch.isLt
    have hother (e : Nat) (he : e ≠ ch.val) := perched_chan_other (s := s) (p := p) (i := i) (r := r) (l := l) he
    have hframe := perched_frame s p ch i r l
    rw [if_neg (by omega), if_neg (by omega),
      if_pos ⟨(State.handsTo_of_nextLine hr hl).trans (congrArg some htab), hat, hret, by simp [hgate]⟩, hhand]
    generalize s.perched p ch i r l = u at hself hother hframe
    have hflt : u.flt = s.flt := by rw [hframe]
    have hports : u.port p = s.port p := by
      rw [hframe]
      rfl
    have haway : turnAway 8 ch p (u.onPort p fun x => x.handed s.now i r.seq) = u.onPort p fun x => x.handed s.now i r.seq :=
      turnAway_of_serving 8 (c := ch) (s := u.onPort p fun x => x.handed s.now i r.seq)
        (by change (u.chan ch).state ≠ _; rw [hself]; exact hst)
        (by change (u.chan ch).test = _; rw [hself]; exact htest)
        (by change u.flt.take = _; rw [hflt]; exact htake)
    rw [haway, ite_self]
    refine ⟨_, rfl, ?_, ?_, fun q hq => ?_, hother, ?_⟩
    · change (u.chan ch).arb.perch.getD p [] = _
      rw [hself]
      exact upd_getD_self _ _ _ hp
    · rw [State.port_onPort_self _ _ hp, hports]
      rfl
    · rw [State.port_onPort_other _ _ hq, hframe]
      rfl
    · change { u with ports := _ } = _
      rw [hframe]
      rfl
  · have h31 : p.val = 31 := congrArg Fin.val h
    rw [if_neg (by omega), if_pos h31]

end Sys2Proof.Machine
end

section
/-!
The intake arbiter: the order of the candidates, and what a grant does (O30).
-/

namespace Sys2Proof.Machine

section

variable {s u : State} {c t : Nat} {l : PerchLine}

-- the order of the candidates

theorem leastTag_cons (s : State) (c t : Nat) (l : PerchLine) (ls : List PerchLine) :
    ∃ b ∈ l :: ls, s.leastTag c t (l :: ls) = some b := by
  suffices h : ∀ (ls : List PerchLine) (a : PerchLine), ∃ b ∈ a :: ls, ls.foldl (fun best l => match best with
      | none => some l
      | some b => if laterTag (s.tag c b.port t).2 (s.tag c l.port t).2 then some l else some b) (some a) = some b from h ls l
  intro ls
  induction ls with
  | nil => exact fun a => ⟨a, List.mem_singleton_self a, rfl⟩
  | cons x ls ih =>
    intro a
    simp only [List.foldl_cons]
    split
    · obtain ⟨b, hb, he⟩ := ih x
      exact ⟨b, List.mem_cons_of_mem _ hb, he⟩
    · obtain ⟨b, hb, he⟩ := ih a
      refine ⟨b, ?_, he⟩
      rcases List.mem_cons.mp hb with rfl | hb
      · exact List.mem_cons_self ..
      · exact List.mem_cons_of_mem _ (List.mem_cons_of_mem _ hb)

theorem leastTag_mem {ls : List PerchLine} (h : s.leastTag c t ls = some l) : l ∈ ls := by
  cases ls with
  | nil => cases h
  | cons x ls =>
    obtain ⟨b, hb, he⟩ := leastTag_cons s c t x ls
    exact Option.some.inj (he.symm.trans h) ▸ hb

theorem leastTag_eq_none {ls : List PerchLine} (h : s.leastTag c t ls = none) : ls = [] := by
  cases ls with
  | nil => rfl
  | cons x ls =>
    obtain ⟨b, -, he⟩ := leastTag_cons s c t x ls
    cases he.symm.trans h

/-- The choice among the lines of P0 to P29, tier by tier. -/
def State.bestOfTiers (s : State) (c : Nat) (cand : List PerchLine) : Option PerchLine :=
  [0, 1, 2, 3].findSome? fun t => s.leastTag c t (cand.filter fun l => l.port < 30 && l.tier == t)

theorem bestOf_eq (s : State) (c : Nat) (cand : List PerchLine) : s.bestOf c cand =
    ((cand.find? (·.port = 31)).orElse fun _ => (s.bestOfTiers c cand).orElse fun _ => cand.find? (·.port = 30)) := by
  unfold State.bestOf State.bestOfTiers
  cases cand.find? (·.port = 31) with
  | some l => rfl
  | none =>
    dsimp only [Option.orElse]
    cases List.findSome? (fun t => s.leastTag c t (cand.filter fun l => l.port < 30 && l.tier == t)) [0, 1, 2, 3] <;> rfl

theorem bestOfTiers_some {cand : List PerchLine} (h : s.bestOfTiers c cand = some l) :
    l ∈ cand ∧ l.port < 30 ∧ ∀ x ∈ cand, x.port < 30 → x.tier ≤ 3 → l.tier ≤ x.tier := by
  obtain ⟨l₁, t, l₂, htiers, hl, hnone⟩ := List.findSome?_eq_some_iff.mp h
  have hmem := leastTag_mem hl
  simp only [List.mem_filter, Bool.and_eq_true, decide_eq_true_eq, beq_iff_eq] at hmem
  obtain ⟨hmem, hport, htier⟩ := hmem
  refine ⟨hmem, hport, fun x hx hxp hxt => ?_⟩
  have hsorted : ([0, 1, 2, 3] : List Nat).Pairwise (· < ·) := by decide
  have hin : x.tier ∈ ([0, 1, 2, 3] : List Nat) := by simp; omega
  rw [htiers] at hsorted hin
  rcases List.mem_append.mp hin with hin | hin
  · have hempty := leastTag_eq_none (hnone _ hin)
    have : x ∈ cand.filter fun l => l.port < 30 && l.tier == x.tier := by simp [hx, hxp]
    rw [hempty] at this
    cases this
  · rw [htier]
    rcases List.mem_cons.mp hin with h | h
    · exact h.ge
    · exact ((List.pairwise_cons.mp (List.pairwise_append.mp hsorted).2.1).1 _ h).le

theorem bestOfTiers_none {cand : List PerchLine} (h : s.bestOfTiers c cand = none) (x : PerchLine) (hx : x ∈ cand)
    (ht : x.tier ≤ 3) : ¬ x.port < 30 := by
  intro hp
  have hempty := leastTag_eq_none (List.findSome?_eq_none_iff.mp h x.tier (by simp; omega))
  have : x ∈ cand.filter fun l => l.port < 30 && l.tier == x.tier := by simp [hx, hp]
  rw [hempty] at this
  cases this

theorem bestOf_mem {cand : List PerchLine} (h : s.bestOf c cand = some l) : l ∈ cand := by
  rw [bestOf_eq] at h
  cases h31 : cand.find? (·.port = 31) with
  | some x =>
    rw [h31] at h
    exact Option.some.inj h ▸ List.mem_of_find?_eq_some h31
  | none =>
    rw [h31] at h
    cases ht : s.bestOfTiers c cand with
    | some x =>
      rw [ht] at h
      exact Option.some.inj h ▸ (bestOfTiers_some ht).1
    | none =>
      rw [ht] at h
      exact List.mem_of_find?_eq_some h

/-- P31 comes first, then P0 to P29 by tier, then P30 (R266). -/
theorem bestOf_order {cand : List PerchLine} (hb : ∀ x ∈ cand, x.port ≤ 31 ∧ x.tier ≤ 3) (hne : cand ≠ []) :
    ∃ l ∈ cand, s.bestOf c cand = some l ∧ ((∃ x ∈ cand, x.port = 31) → l.port = 31) ∧
      ((∀ x ∈ cand, x.port ≠ 31) → ∀ x ∈ cand, x.port < 30 → l.port < 30 ∧ l.tier ≤ x.tier) := by
  rw [bestOf_eq]
  cases h31 : cand.find? (·.port = 31) with
  | some l =>
    have hp : l.port = 31 := by simpa using List.find?_some h31
    have hmem := List.mem_of_find?_eq_some h31
    exact ⟨l, hmem, rfl, fun _ => hp, fun h => absurd hp (h l hmem)⟩
  | none =>
    have hno : ∀ x ∈ cand, x.port ≠ 31 := fun x hx => by simpa using List.find?_eq_none.mp h31 x hx
    cases ht : s.bestOfTiers c cand with
    | some l =>
      obtain ⟨hmem, hport, hleast⟩ := bestOfTiers_some ht
      exact ⟨l, hmem, rfl, fun ⟨x, hx, he⟩ => absurd he (hno x hx), fun _ x hx hp =>
        ⟨hport, hleast x hx hp (hb x hx).2⟩⟩
    | none =>
      have hlate (x : PerchLine) (hx : x ∈ cand) := bestOfTiers_none ht x hx (hb x hx).2
      cases h30 : cand.find? (·.port = 30) with
      | some l =>
        exact ⟨l, List.mem_of_find?_eq_some h30, rfl, fun ⟨x, hx, he⟩ => absurd he (hno x hx), fun _ x hx hp =>
          absurd hp (hlate x hx)⟩
      | none =>
        obtain ⟨x, hx⟩ := List.exists_mem_of_ne_nil cand hne
        have h30x : x.port ≠ 30 := by simpa using List.find?_eq_none.mp h30 x hx
        have := hlate x hx
        have := hno x hx
        have := (hb x hx).1
        omega

-- the decision is noted

/-- A channel that has decided in this cc; nothing but the note of it differs. -/
theorem decided_candidate (c : Nat) (hc : c < 16) (n : Nat) : (s.onChan c fun x => { x with
    arb := { x.arb with decidedAt := some n } }).candidate c = s.candidate c := by
  funext l
  unfold State.candidate State.hasRoom State.intakeOpen State.underCeilings State.gillFor State.p31Works State.scrubLimit
  rw [State.chan_onChan_self _ _ hc]
  rfl

theorem decided_heads (c : Nat) (hc : c < 16) (n : Nat) : (s.onChan c fun x => { x with
    arb := { x.arb with decidedAt := some n } }).heads c = s.heads c := by
  unfold State.heads
  rw [State.chan_onChan_self _ _ hc]
  rfl

theorem decided_bestOf (c : Nat) (hc : c < 16) (n : Nat) : (s.onChan c fun x => { x with
    arb := { x.arb with decidedAt := some n } }).bestOf c = s.bestOf c := by
  funext cand
  unfold State.bestOf State.leastTag State.tag
  rw [State.chan_onChan_self _ _ hc]
  rfl

-- a grant

/-- Two states differ at one channel and in the status registers alone. -/
def OnlyChan (c : Nat) (s t : State) : Prop :=
  (∀ d, d ≠ c → t.chan d = s.chan d) ∧ t = { s with chans := t.chans, stat := t.stat, news := t.news }

theorem OnlyChan.refl (c : Nat) (s : State) : OnlyChan c s s := ⟨fun _ _ => rfl, rfl⟩

theorem OnlyChan.trans {t : State} (h : OnlyChan c s t) (h' : OnlyChan c t u) : OnlyChan c s u := by
  obtain ⟨hchan, hframe⟩ := h
  obtain ⟨hchan', hframe'⟩ := h'
  refine ⟨fun d hd => (hchan' d hd).trans (hchan d hd), ?_⟩
  rw [hframe', hframe]

theorem onChan_only (c : Nat) (f : Chan → Chan) (s : State) : OnlyChan c s (s.onChan c f) :=
  ⟨fun _ hd => State.chan_onChan_other _ _ hd, rfl⟩

theorem SameButStat.onlyChan {t : State} (h : SameButStat s t) (c : Nat) : OnlyChan c s t := by
  unfold SameButStat at h
  constructor
  · intro d _
    rw [h]
    rfl
  · rw [h]

theorem SameButStat.chan {t : State} (h : SameButStat s t) (c : Nat) : t.chan c = s.chan c := by
  unfold SameButStat at h
  rw [h]
  rfl

/-- The arbiter of a channel after a grant. -/
def Arb.granted (a : Arb) (l : PerchLine) (tags : BitVec 32 × BitVec 32) (straight : Bool) (now : Nat) : Arb :=
  let a := { a with
    perch := upd a.perch l.port fun q => nowPresent (now + 1) q.tail, served := l.port :: a.served }
  let a := if l.port < 30 then { a with
    vtime := upd a.vtime l.tier fun _ => tags.1, finish := upd a.finish l.port fun _ => some tags.2 } else a
  if straight then { a with xfer := some (l, now + l.cycles - 1), park := some l.port }
  else { a with next := some (l, now + 1) }

/-- A merge reserved for a granted line. -/
def Chan.reserveFor (x : Chan) (l : PerchLine) : Chan :=
  match (if l.wr ∧ l.port < 31 ∧ l.kind ≠ .mirror then x.openGill l.line else none) with
  | some g => x.onGill g fun g => { g with reserved := g.reserved + 1 }
  | none => x

/-- The counters of a granted line (R276). -/
def grantCount (c : Nat) (l : PerchLine) (wait : Nat) (s : State) : State :=
  let s := s.bump (CH_AGR_COUNT c l.port)
  let most := min (CH_AMAX_MAX c l.port).max wait
  if most > s.st (CH_AMAX_MAX c l.port) then s.setSt (CH_AMAX_MAX c l.port) most else s

theorem grantCount_frame (c : Nat) (l : PerchLine) (wait : Nat) (s : State) : SameButStat s (grantCount c l wait s) := by
  unfold grantCount
  dsimp only
  split
  · exact (bump_frame _ _ _).trans (setSt_frame _ _ _)
  · exact bump_frame _ _ _

theorem grant_eq (c : Nat) (l : PerchLine) (straight : Bool) (s : State) : grant c l straight s =
    grantCount c l (s.now - l.since) ((popHead c l.port s).onChan c fun x =>
      { x.reserveFor l with arb :=
        let a := if l.port < 30 then { x.arb with
          vtime := upd x.arb.vtime l.tier fun _ => (s.tag c l.port l.tier).1
          finish := upd x.arb.finish l.port fun _ => some (s.tag c l.port l.tier).2 } else x.arb
        if straight then { a with xfer := some (l, s.now + l.cycles - 1), park := some l.port }
        else { a with next := some (l, s.now + 1) } }) := rfl

theorem grant_only (c : Nat) (l : PerchLine) (straight : Bool) (s : State) : OnlyChan c s (grant c l straight s) := by
  rw [grant_eq]
  exact ((onChan_only _ _ _).trans (onChan_only _ _ _)).trans ((grantCount_frame _ _ _ _).onlyChan c)

theorem grant_arb (l : PerchLine) (straight : Bool) (s : State) (hc : c < 16) :
    ((grant c l straight s).chan c).arb = (s.chan c).arb.granted l (s.tag c l.port l.tier) straight s.now := by
  rw [grant_eq, (grantCount_frame _ _ _ _).chan, State.chan_onChan_self _ _ hc]
  unfold popHead
  rw [State.chan_onChan_self _ _ hc]
  rfl

theorem takeHold_only (c p : Nat) (s : State) : OnlyChan c s (takeHold c p s) := by
  unfold takeHold
  split
  · exact onChan_only _ _ _
  · exact .refl _ _

/-- A hold changes nothing in the arbiter but the holder. -/
theorem takeHold_arb (c p : Nat) (s : State) (hc : c < 16) : ∃ h, ((takeHold c p s).chan c).arb =
    { (s.chan c).arb with hold := h } := by
  unfold takeHold
  split
  · exact ⟨some p, by rw [State.chan_onChan_self _ _ hc]⟩
  · exact ⟨_, rfl⟩

theorem granted_perch (a : Arb) (l : PerchLine) (tags : BitVec 32 × BitVec 32) (straight : Bool) (now : Nat)
    (hp : l.port < 32) : (a.granted l tags straight now).perch.getD l.port [] =
      nowPresent (now + 1) (a.perch.getD l.port []).tail := by
  unfold Arb.granted
  dsimp only
  cases straight <;> by_cases h : l.port < 30 <;> simp only [h, if_true, if_false, Bool.false_eq_true] <;>
    exact upd_getD_self _ _ _ hp

theorem granted_next (a : Arb) (l : PerchLine) (tags : BitVec 32 × BitVec 32) (now : Nat) :
    (a.granted l tags false now).next = some (l, now + 1) ∧ (a.granted l tags false now).decidedAt = a.decidedAt := by
  unfold Arb.granted
  by_cases h : l.port < 30 <;> simp [h]

theorem granted_straight (a : Arb) (l : PerchLine) (tags : BitVec 32 × BitVec 32) (now : Nat) :
    (a.granted l tags true now).xfer = some (l, now + l.cycles - 1) ∧ (a.granted l tags true now).next = a.next := by
  unfold Arb.granted
  by_cases h : l.port < 30 <;> simp [h]

theorem decided_of_heads (h : s.heads c ≠ []) :
    decided c s = s.onChan c fun x => { x with arb := { x.arb with decidedAt := some s.now } } :=
  if_neg (by simpa using h)

/-- What a decision without a hold does to the line it takes (R270). -/
theorem decide_of_free (hc : c < 16) (hhold : (s.chan c).arb.hold = none)
    (hbest : s.bestOf c ((s.heads c).filter (s.candidate c)) = some l) :
    decide_ c (decided c s) = takeHold c l.port (grant c l false (decided c s)) := by
  have hheads : s.heads c ≠ [] := List.ne_nil_of_mem (List.mem_filter.mp (bestOf_mem hbest)).1
  have harb : ((decided c s).chan c).arb.hold = none := by
    rw [decided_of_heads hheads, State.chan_onChan_self _ _ hc]
    exact hhold
  have hbest' : (decided c s).bestOf c (((decided c s).heads c).filter ((decided c s).candidate c)) = some l := by
    rw [decided_of_heads hheads, decided_bestOf c hc, decided_heads c hc, decided_candidate c hc]
    exact hbest
  unfold decide_
  simp only [harb, hbest']

/-- The line that stands alone at a parked arbiter and may transfer in this cc (R271). -/
def State.aloneAt (s : State) (c : Nat) : Option PerchLine :=
  match s.heads c, (s.chan c).arb.park with
  | [l], some p => if l.port = p ∧ s.intakeIdle c ∧ s.candidate c l then some l else none
  | _, _ => none

theorem execIntakeDecision_of_works {ch : Fin 16} (h : s.intakeWorks ch = true) : exec (.intakeDecision ch) s =
    let u := pressEviction ch (turnAwayAll ch (promote ch s))
    match u.aloneAt ch with
    | some l => .next (takeHold ch l.port (grant ch l true (decided ch u)))
    | none => .next (if u.deciding ch then decide_ ch (decided ch u) else u) := by
  rw [exec_intakeDecision]
  unfold execIntakeDecision State.aloneAt
  -- in a file of its own the two matches have different matchers, which agree case by case
  rw [if_pos h] <;> generalize pressEviction ch (turnAwayAll ch (promote ch s)) = u <;> dsimp only <;>
    rcases u.heads ch with _ | ⟨l, _ | _⟩ <;> rcases (u.chan ch).arb.park with _ | _ <;> rfl

end

/-- Settles O30: the order of the candidates, the grant of a decision and that of a parked owner. -/
theorem intakeGrantsByOrder : Obligations.IntakeGrantsByOrder := by
  refine ⟨fun u ch cand hb hne => bestOf_order hb hne, fun s ch l hworks hp => ?_⟩
  have hexec := execIntakeDecision_of_works hworks
  dsimp only at hexec ⊢
  generalize pressEviction ch (turnAwayAll ch (promote ch s)) = u at hexec ⊢
  have hgrant (straight : Bool) (hheads : u.heads ch ≠ []) :
      OnlyChan ch u (takeHold ch l.port (grant ch l straight (decided ch u))) ∧
      ∃ h, ((takeHold ch l.port (grant ch l straight (decided ch u))).chan ch).arb =
        { ({ (u.chan ch).arb with decidedAt := some u.now }.granted l ((decided ch u).tag ch l.port l.tier) straight u.now : Arb)
          with hold := h } := by
    obtain ⟨h, hhold⟩ := takeHold_arb ch l.port (grant ch l straight (decided ch u)) ch.isLt
    have hdec := decided_of_heads hheads
    have honly : OnlyChan ch u (decided ch u) := hdec ▸ onChan_only _ _ _
    refine ⟨(honly.trans (grant_only _ _ _ _)).trans (takeHold_only _ _ _), h, ?_⟩
    rw [hhold, grant_arb _ _ _ ch.isLt, hdec, State.chan_onChan_self _ _ ch.isLt]
    rfl
  refine ⟨fun hdec hhold halone hbest => ?_, fun hheads hpark hidle hcand => ?_⟩
  · have hheads : u.heads ch ≠ [] := List.ne_nil_of_mem (List.mem_filter.mp (bestOf_mem hbest)).1
    have hnone : u.aloneAt ch = none := by
      unfold State.aloneAt
      split
      case h_1 e p he hpark =>
        refine if_neg fun h => halone e he ?_
        rw [hpark, h.1]
      case h_2 => rfl
    rw [hnone] at hexec
    dsimp only at hexec
    rw [if_pos hdec, decide_of_free ch.isLt hhold hbest] at hexec
    obtain ⟨⟨hother, hframe⟩, h, harb⟩ := hgrant false hheads
    obtain ⟨hnext, hat⟩ := granted_next { (u.chan ch).arb with decidedAt := some u.now } l
      ((decided ch u).tag ch l.port l.tier) u.now
    refine ⟨_, hexec, ?_, ?_, ?_, hother, hframe⟩
    · rw [harb]
      exact hnext
    · rw [harb]
      exact hat
    · unfold State.perch
      rw [harb]
      exact granted_perch _ _ _ _ _ hp
  · have hsome : u.aloneAt ch = some l := by
      unfold State.aloneAt
      rw [hheads, hpark]
      exact if_pos ⟨rfl, hidle, hcand⟩
    rw [hsome] at hexec
    obtain ⟨⟨hother, hframe⟩, h, harb⟩ := hgrant true (by simp [hheads])
    obtain ⟨hxfer, hnext⟩ := granted_straight { (u.chan ch).arb with decidedAt := some u.now } l
      ((decided ch u).tag ch l.port l.tier) u.now
    have hidle' : (u.chan ch).arb.next = none := by
      unfold State.intakeIdle at hidle
      simp only [Bool.and_eq_true, Option.isNone_iff_eq_none] at hidle
      exact hidle.1.2
    refine ⟨_, hexec, ?_, ?_, ?_, hother, hframe⟩
    · rw [harb]
      exact hxfer
    · rw [harb]
      exact hnext.trans hidle'
    · unfold State.perch
      rw [harb]
      exact granted_perch _ _ _ _ _ hp

end Sys2Proof.Machine
end

section
/-!
Transferred lines join their channel (O31).
-/

namespace Sys2Proof.Machine

section

variable {s t : State} {c : Nat} {l : PerchLine}

/-- An update that leaves its channel as it is leaves the state as it is. -/
theorem onChan_eq_self {f : Chan → Chan} (h : f (s.chan c) = s.chan c) : s.onChan c f = s := by
  unfold State.chan at h
  unfold State.onChan upd
  by_cases hc : c < 16
  · rw [dif_pos hc]
    have hget : s.chans.getD c .reset = s.chans[c] := by simp [Vector.getD, hc]
    rw [hget] at h
    rw [h, Vector.set_getElem_self]
  · rw [dif_neg hc]

theorem promote_of_none (hnext : (s.chan c).arb.next = none) : promote c s = s := by
  unfold promote
  refine onChan_eq_self ?_
  rw [hnext]
  split
  · rename_i h
    cases h
  · rfl

theorem rank_of_port (h : l.port < 30) : l.rank = l.tier := by
  unfold PerchLine.rank
  rw [if_neg (by omega), if_neg (by omega)]

-- the counts of an admitted line

/-- Two states differ in the counted events, and in the event of a wrap, alone. -/
def Counted (s t : State) : Prop :=
  t = { s with perf := t.perf, stat := t.stat, news := t.news } ∧
  (s.stat.wf → ∀ f : Field, f.addr ≠ FT_STSEVT_EVT.addr → t.st f = s.st f)

theorem skidLine_counted (s : State) : Counted s (skidLine s) := by
  unfold skidLine
  cases s.perf.ovf with
  | none => exact ⟨rfl, fun _ _ _ => rfl⟩
  | some e =>
    dsimp only
    split
    · have hframe : SameButStat { s with perf := { s.perf with ovf := none } } _ := event_frame .pmovf _
      have hst (hs : s.stat.wf) (f : Field) (hf : f.addr ≠ FT_STSEVT_EVT.addr) :=
        State.st_setBits_other (s := { s with perf := { s.perf with ovf := none } }) FT_STSEVT_EVT f (2 ^ Evt.pmovf.bit)
          hs (.inl hf)
      refine ⟨?_, hst⟩
      unfold SameButStat at hframe
      generalize event .pmovf _ = u at hframe ⊢
      rw [hframe]
    · exact ⟨rfl, fun _ _ _ => rfl⟩

theorem Counted.note (h : Counted s t) (e : Ev) (u n : Nat) : Counted s (t.note e u n) := by
  obtain ⟨hframe, hst⟩ := h
  refine ⟨?_, hst⟩
  unfold State.note
  rw [hframe]

/-- The state in which a granted line of a port is counted and about to be admitted. -/
def Arrived (c : Nat) (s u : State) : Prop :=
  u = { s with
    chans := (s.onChan c fun x => { x with arb := { x.arb with xfer := none, xferAt := some s.now } }).chans
    op := { s.op with lines := s.op.lines + 1 }, perf := u.perf, stat := u.stat, news := u.news } ∧
  (s.stat.wf → ∀ f : Field, f.addr ≠ FT_STSEVT_EVT.addr → u.st f = s.st f)

theorem countLine_arrived (s : State) (c : Nat) (hp : l.port < 30) : Arrived c s (countLine c l
    (s.onChan c fun x => { x with arb := { x.arb with xfer := none, xferAt := some s.now } })) := by
  generalize hu : s.onChan c (fun x => { x with arb := { x.arb with xfer := none, xferAt := some s.now } }) = u
  have hs : u = { s with chans := u.chans } := by
    rw [← hu]
    rfl
  have ⟨hframe, hst⟩ := (((skidLine_counted u).note (if l.wr then .linesWr else .linesRd) l.port 1).note .lines l.port 1).note
    .linesAll c 1
  have hcount : countLine c l u = _ := if_pos hp
  rw [hcount]
  generalize State.note _ .linesAll c = v at hframe hst ⊢
  refine ⟨?_, fun hw f hf => (hst (by rw [hs]; exact hw) f hf).trans (by rw [hs]; rfl)⟩
  rw [hframe, hs, hu]

end

section

variable {s u : State} {ch : Fin 16} {l : PerchLine}

/-- The channel to which a line has been transferred. -/
def Chan.freed (x : Chan) (now : Nat) : Chan := { x with arb := { x.arb with xfer := none, xferAt := some now } }

theorem Arrived.chan (h : Arrived ch s u) : u.chan ch = (s.chan ch).freed s.now := by
  obtain ⟨h, -⟩ := h
  rw [h]
  exact State.chan_onChan_self _ _ ch.isLt

theorem Arrived.chan_other (h : Arrived ch s u) {d : Nat} (hd : d ≠ ch.val) : u.chan d = s.chan d := by
  obtain ⟨h, -⟩ := h
  rw [h]
  exact State.chan_onChan_other _ _ hd

theorem Arrived.cfg (h : Arrived ch s u) : u.cfg = s.cfg := by
  obtain ⟨h, -⟩ := h
  rw [h]

theorem Arrived.now (h : Arrived ch s u) : u.now = s.now := by
  obtain ⟨h, -⟩ := h
  rw [h]

theorem Arrived.port (h : Arrived ch s u) (p : Nat) : u.port p = s.port p := by
  obtain ⟨h, -⟩ := h
  rw [h]
  rfl

theorem Arrived.canWrite (h : Arrived ch s u) : u.canWrite = s.canWrite := by
  obtain ⟨h, -⟩ := h
  rw [h]
  rfl

theorem Arrived.present (h : Arrived ch s u) (hs : s.stat.wf) (m : Nat) : u.present ch m = s.present ch m := by
  have hchan := h.chan
  obtain ⟨h, hst⟩ := h
  have hevac : u.evacTo ch = s.evacTo ch := by
    rw [h]
    rfl
  unfold State.present State.cleared
  rw [hevac, hchan, hst hs (CH_MDINIT_PTR ch) (by simp [CH_MDINIT_PTR, FT_STSEVT_EVT]; omega)]
  cases s.evacTo ch with
  | none => rfl
  | some e =>
    dsimp only
    rw [hst hs (CH_EVPTR_Q e.src) (by simp [CH_EVPTR_Q, FT_STSEVT_EVT]; omega)]

/-- A line of a port is admitted once its transfer has ended. -/
theorem execLineAdmission_of_port {last : Nat} (hworks : s.intakeWorks ch = true) (hnext : (s.chan ch).arb.next = none)
    (hxfer : (s.chan ch).arb.xfer = some (l, last)) (hlast : last ≤ s.now) (haway : s.turnedAway ch l = none)
    (hkind : l.kind = .port) (hp : l.port < 30) : ∃ u, Arrived ch s u ∧
      ∀ v, (if l.wr then admitWrite ch l u else admitRead ch l u) = v → v.streams ch l = false →
        exec (.lineAdmission ch) s = .next (promote ch v) := by
  refine ⟨_, countLine_arrived s ch hp, fun v hv hstream => ?_⟩
  rw [exec_lineAdmission]
  unfold execLineAdmission
  rw [if_pos hworks]
  dsimp only
  rw [promote_of_none hnext, hxfer]
  dsimp only
  rw [if_pos hlast]
  have haway' : (s.onChan ch fun x => { x with arb := { x.arb with xfer := none, xferAt := some s.now } }).turnedAway ch l =
      none := by
    rw [← haway]
    unfold State.turnedAway
    rw [State.chan_onChan_self _ _ ch.isLt]
    rfl
  rw [haway']
  dsimp only
  unfold admitLine
  dsimp only
  rw [hkind]
  dsimp only
  rw [hv, if_neg (by simp [hstream])]

theorem onChan_congr {f g : Chan → Chan} {c : Nat} (h : f (s.chan c) = g (s.chan c)) : s.onChan c f = s.onChan c g := by
  unfold State.chan at h
  unfold State.onChan upd
  by_cases hc : c < 16
  · rw [dif_pos hc, dif_pos hc]
    have hget : s.chans.getD c .reset = s.chans[c] := by simp [Vector.getD, hc]
    rw [hget] at h
    rw [h]
  · rw [dif_neg hc, dif_neg hc]

theorem onChan_onChan (f g : Chan → Chan) (c : Nat) : (s.onChan c f).onChan c g = s.onChan c fun x => g (f x) := by
  unfold State.onChan upd
  by_cases h : c < 16 <;> simp [h]

/-- What an admission that touches one channel alone makes of the block. -/
theorem lineAdmission_shows {last : Nat} (hworks : s.intakeWorks ch = true) (hnext : (s.chan ch).arb.next = none)
    (hxfer : (s.chan ch).arb.xfer = some (l, last)) (hlast : last ≤ s.now) (haway : s.turnedAway ch l = none)
    (hkind : l.kind = .port) (hp : l.port < 30) (hstream : s.on (PT_CFG_STREAMING l.port) = false) (F : Chan → Chan)
    (hF : ∀ y, (F y).arb = y.arb)
    (hadmit : ∀ u, Arrived ch s u → (if l.wr then admitWrite ch l u else admitRead ch l u) = u.onChan ch F) :
    ∃ t, exec (.lineAdmission ch) s = .next t ∧ t.chan ch = F ((s.chan ch).freed s.now) ∧
      (∀ c, c ≠ ch.val → t.chan c = s.chan c) ∧
      t = { s with chans := t.chans, op := { s.op with lines := s.op.lines + 1 }, perf := t.perf, stat := t.stat, news := t.news } := by
  obtain ⟨u, hu, hexec⟩ := execLineAdmission_of_port hworks hnext hxfer hlast haway hkind hp
  have hself : (u.onChan ch F).chan ch = F ((s.chan ch).freed s.now) := by
    rw [State.chan_onChan_self _ _ ch.isLt, hu.chan]
  have hquiet : (u.onChan ch F).streams ch l = false := by
    have hon : (u.onChan ch F).on (PT_CFG_STREAMING l.port) = false := by
      rw [← hstream]
      exact congrArg (fun n => decide (n = 1)) (State.cf_congr hu.cfg _)
    simp [State.streams, hon, hkind]
  have hexec := hexec _ (hadmit u hu) hquiet
  rw [promote_of_none (by rw [hself, hF]; exact hnext)] at hexec
  refine ⟨_, hexec, hself, fun c hc => (State.chan_onChan_other _ _ hc).trans (hu.chan_other hc), ?_⟩
  obtain ⟨hframe, -⟩ := hu
  change { u with chans := _ } = _
  rw [hframe]
  rfl

/-- A line that no flush waits for stays in its gill. -/
theorem flushLine_of_unflushed {t : State} {c g : Nat} (ht : t.ports = s.ports)
    (h : ∀ n, (s.port l.port).flush = some n → n ≤ l.seq) : flushLine c g l t = t := by
  have hport : t.port l.port = s.port l.port := by simp [State.port, ht]
  unfold flushLine
  rw [hport]
  refine if_neg ?_
  cases hf : (s.port l.port).flush with
  | none => simp
  | some n => simpa using h n hf

/-- An operation at the tail of a channel's list. -/
def Chan.adds (y : Chan) (o : Op) : Chan := { y with ops := y.ops ++ [{ o with id := y.nextOp }], nextOp := y.nextOp + 1 }

/-- A line with no held data and a metadata line joins its chain (R351). -/
theorem admitRead_of_free (hheld : (s.chan ch).heldLead l.line = none) (hpres : s.present ch (l.q / 32) = true) :
    admitRead ch l s = s.onChan ch (·.adds { l.op .read .lookup with rq := .shared }) := by
  unfold admitRead
  simp only [hheld]
  rw [if_neg (by simp [hpres])]
  rfl

/-- The gill that a write line opens. -/
def PerchLine.newGill (l : PerchLine) (now : Nat) : Gill :=
  ⟨l.line, l.q, merge 0 l.data l.be, l.be, now, [l.port], l.rank, l.rank, none, 0, false⟩

/-- A write line with no gill of its line opens one (R353). -/
theorem admitWrite_of_new {g : Nat} (hw : s.canWrite = true) (hflush : ∀ n, (s.port l.port).flush = some n → n ≤ l.seq)
    (hres : (s.chan ch).reservedGill l.line = none) (hopen : (s.chan ch).openGill l.line = none)
    (hfree : (s.chan ch).freeGill = some g) (hbe : l.be ≠ BitVec.allOnes 256) :
    admitWrite ch l s = s.onChan ch fun y => ({ y with gills := upd y.gills g fun _ => some (l.newGill s.now) } : Chan).adds
      { l.op .write .gather with gill := some g, lead := (s.chan ch).nextOp } := by
  unfold admitWrite
  rw [if_neg (by simp [hw])]
  simp only [hres, hopen, hfree]
  rw [if_neg (by simpa [Gill.whole] using hbe)]
  refine (flushLine_of_unflushed (s := s) ?_ hflush).trans (onChan_onChan _ _ _)
  rfl

theorem gill_onGill_self (x : Chan) {g : Nat} {v : Gill} (f : Gill → Gill) (h : x.gill g = some v) :
    (x.onGill g f).gill g = some (f v) := by
  unfold Chan.gill Chan.onGill at *
  by_cases hg : g < 16
  · exact (upd_getD_self _ _ _ hg).trans (congrArg (Option.map f) h)
  · simp [Vector.getD, hg] at h

theorem onGill_congr (x : Chan) {g : Nat} {v : Gill} {f f' : Gill → Gill} (h : x.gill g = some v) (hf : f v = f' v) :
    x.onGill g f = x.onGill g f' := by
  unfold Chan.gill at h
  unfold Chan.onGill upd
  by_cases hg : g < 16
  · have hget : x.gills[g] = some v := by simpa [Vector.getD, hg] using h
    simp [hg, hget, hf]
  · simp [hg]

/-- What a merge does to its gill (R353). -/
def Gill.merged_ (v : Gill) (l : PerchLine) : Gill :=
  { v with
    data := merge v.data l.data l.be, mask := v.mask ||| l.be, tier := min v.tier l.rank
    ports := if v.ports.contains l.port then v.ports else v.ports ++ [l.port], reserved := v.reserved - 1 }

/-- A write line merges into the incomplete gill of its line (R353). -/
theorem admitWrite_of_merge {g : Nat} {v : Gill} {o : Op} (hw : s.canWrite = true)
    (hflush : ∀ n, (s.port l.port).flush = some n → n ≤ l.seq) (hres : (s.chan ch).reservedGill l.line = none)
    (hopen : (s.chan ch).openGill l.line = some g) (hgill : (s.chan ch).gill g = some v)
    (hlead : (s.chan ch).leadOf g = some o) (hmask : v.mask ||| l.be ≠ BitVec.allOnes 256) :
    admitWrite ch l s = s.onChan ch fun y =>
      (y.onGill g (·.merged_ l)).adds { l.op .write .gather with gill := some g, lead := o.id } := by
  unfold admitWrite
  rw [if_neg (by simp [hw])]
  simp only [hres, hopen, hlead]
  have hwhole : ((((s.onChan ch (·.onGill g (·.merged_ l))).addOp ch
      { l.op .write .gather with gill := some g, lead := o.id }).chan ch).gill g).map Gill.whole = some false := by
    unfold State.addOp
    rw [State.chan_onChan_self _ _ ch.isLt, State.chan_onChan_self _ _ ch.isLt]
    change (((s.chan ch).onGill g (·.merged_ l)).gill g).map Gill.whole = some false
    rw [gill_onGill_self _ _ hgill]
    simpa [Gill.whole, Gill.merged_] using hmask
  rw [if_neg (by
    have h := congrArg (fun w : Option Bool => w.getD false) hwhole
    simpa [Gill.merged_] using h)]
  refine (flushLine_of_unflushed (s := s) ?_ hflush).trans (onChan_onChan _ _ _)
  rfl

end

-- the watchdog

/-- What the hold-stall watchdog records, but for its fault (R308). -/
def stallRecord (ch h : Nat) (stuck : Bool) (s : State) : State :=
  let s := (s.setSt (CH_WDSTAT_PORT ch) h).setSt (CH_WDSTAT_NOROOM ch) (b2n stuck)
  (s.bump (CH_WDSTAT_STALLS ch)).stamp (CH_WDLINE_LINE ch) (CH_WDFRAME_FRAME ch)

theorem stallRecord_frame (ch h : Nat) (stuck : Bool) (s : State) : SameButStat s (stallRecord ch h stuck s) :=
  (((setSt_frame _ _ _).trans (setSt_frame _ _ _)).trans (bump_frame _ _ _)).trans (stamp_frame _ _ _)

/-- The head line of the holder waits for room. -/
def State.holderStuck (s : State) (ch h : Nat) : Bool :=
  match (s.chan ch).head h with
  | some l => !s.hasRoom ch l
  | none => false

theorem raise_chan (src : Src) (unit info : Nat) (s : State) (c : Nat) : (raise src unit info s).chan c = s.chan c := rfl

theorem execHoldStallTrip_of_due {s : State} {ch : Fin 16} {h : Nat} (hworks : s.intakeWorks ch = true)
    (hhold : (s.chan ch).arb.hold = some h) (hlimit : s.cf (CH_WDOG_LIMIT ch) ≠ 0)
    (hcount : s.cf (CH_WDOG_LIMIT ch) * 256 ≤ (s.chan ch).wdCount) (htrip : (s.chan ch).wdTripped = false)
    (hbroken : s.deciding ch → ∀ l ∈ s.heads ch, l.port = 31 → s.candidate ch l = false) :
    exec (.holdStallTrip ch) s = .next (raise .hstall ch h
      ((stallRecord ch h (s.holderStuck ch h) s).onChan ch fun x => { x with wdTripped := true })) := by
  have hquiet : (s.deciding ch && (s.heads ch).any fun l => decide (l.port = 31) && s.candidate ch l) = false := by
    cases hd : s.deciding ch with
    | false => rfl
    | true =>
      simp only [Bool.true_and, List.any_eq_false, Bool.and_eq_true, decide_eq_true_eq, not_and]
      exact fun l hl hp => by simp [hbroken hd l hl hp]
  rw [exec_holdStallTrip]
  unfold execHoldStallTrip State.holderStuck
  simp only [hhold]
  rw [if_pos ⟨hworks, hlimit, hcount, by simp [htrip], by simp [hquiet]⟩]
  cases (s.chan ch).head h <;> rfl

/-- Settles O31: a transferred line joins its channel, and the watchdog trips. -/
theorem transferredLinesAreAdmitted : Obligations.TransferredLinesAreAdmitted := by
  intro s ch hcan hworks
  refine ⟨fun l last hnext hxfer hlast haway hkind hp hstream => ?_, fun h hhold hlimit hcount htrip hbroken => ?_⟩
  · dsimp only
    refine ⟨fun hw hheld hpres => ?_, fun hw hcw hflush hres hopen g hfree hbe => ?_,
      fun hw hcw hflush hres g v o hopen hgill hlead hmask hport => ?_⟩
    · refine lineAdmission_shows hworks hnext hxfer hlast haway hkind hp hstream
        (·.adds { l.op .read .lookup with rq := .shared }) (fun _ => rfl) fun u hu => ?_
      rw [hw]
      refine admitRead_of_free ?_ ((hu.present (canonical_stat hcan) _).trans hpres)
      rw [hu.chan]
      exact hheld
    · refine lineAdmission_shows hworks hnext hxfer hlast haway hkind hp hstream
        (fun y => ({ y with
            gills := upd y.gills g fun _ => some { l.newGill s.now with tier := l.tier, opener := l.tier } } : Chan).adds
          { l.op .write .gather with gill := some g, lead := (s.chan ch).nextOp }) (fun _ => rfl) fun u hu => ?_
      rw [if_pos hw, admitWrite_of_new (g := g) (hu.canWrite.trans hcw) (by rw [hu.port]; exact hflush)
        (by rw [hu.chan]; exact hres) (by rw [hu.chan]; exact hopen) (by rw [hu.chan]; exact hfree) hbe]
      unfold PerchLine.newGill
      rw [rank_of_port hp, hu.chan, hu.now]
      rfl
    · refine lineAdmission_shows hworks hnext hxfer hlast haway hkind hp hstream
        (fun y => (y.onGill g fun v => { v with
          data := merge v.data l.data l.be, mask := v.mask ||| l.be, tier := min v.tier l.tier
          reserved := v.reserved - 1 }).adds { l.op .write .gather with gill := some g, lead := o.id })
        (fun _ => rfl) fun u hu => ?_
      have hgill' : (u.chan ch).gill g = some v := by
        rw [hu.chan]
        exact hgill
      rw [if_pos hw, admitWrite_of_merge (v := v) (o := o) (hu.canWrite.trans hcw) (by rw [hu.port]; exact hflush)
        (by rw [hu.chan]; exact hres) (by rw [hu.chan]; exact hopen) hgill' (by rw [hu.chan]; exact hlead) hmask]
      refine onChan_congr ?_
      rw [onGill_congr _ hgill' (f' := fun v => { v with
          data := merge v.data l.data l.be, mask := v.mask ||| l.be, tier := min v.tier l.tier
          reserved := v.reserved - 1 })]
      unfold Gill.merged_
      rw [if_pos (List.contains_iff_mem.mpr hport), rank_of_port hp]
  · have hexec := execHoldStallTrip_of_due hworks hhold hlimit hcount htrip hbroken
    have hframe : SameButStat s (stallRecord ch h (s.holderStuck ch h) s) := stallRecord_frame _ _ _ _
    refine ⟨_, hexec, ?_, fun c hc => ?_, ?_⟩
    · rw [raise_chan, State.chan_onChan_self _ _ ch.isLt, hframe.chan]
    · rw [raise_chan, State.chan_onChan_other _ _ hc, hframe.chan]
    · unfold SameButStat at hframe
      generalize stallRecord ch h (s.holderStuck ch h) s = u at hframe ⊢
      rw [hframe]
      rfl

end Sys2Proof.Machine
end

section
/-!
Responses of the ports (O32), and flushes, Tun resets and port states (O33).
-/

namespace Sys2Proof.Machine

section

variable {s t : State} {p : Nat}

/-- Two states differ in status registers and counted events alone. -/
def Recorded (s t : State) : Prop := t = { s with perf := t.perf, stat := t.stat, news := t.news }

theorem Recorded.refl (s : State) : Recorded s s := rfl

theorem Recorded.trans {u : State} (h : Recorded s t) (h' : Recorded t u) : Recorded s u := by
  unfold Recorded at *
  rw [h', h]

theorem Recorded.ite {c : Prop} [Decidable c] {u v : State} (h : Recorded s u) (h' : Recorded s v) :
    Recorded s (if c then u else v) := by
  split
  · exact h
  · exact h'

theorem SameButStat.recorded (h : SameButStat s t) : Recorded s t := by
  unfold SameButStat at h
  unfold Recorded
  rw [h]

theorem note_recorded (e : Ev) (u n : Nat) (s : State) : Recorded s (s.note e u n) := rfl

theorem Recorded.port (h : Recorded s t) (q : Nat) : t.port q = s.port q := by
  unfold Recorded at h
  rw [h]
  rfl

theorem setSt_recorded (s : State) (f : Field) (v : Nat) : Recorded s (s.setSt f v) := (setSt_frame s f v).recorded

theorem countResponse_recorded (p : Nat) (r : Req) (l : ReqLine) (s : State) : Recorded s (countResponse p r l s) := by
  unfold countResponse
  dsimp only
  split
  · exact .refl s
  · have hcount := (note_recorded .respBad p 1 s).trans (bump_frame (s.note .respBad p)
      (if (l.out.getD ⟨0, 0⟩).resp = 1 then PT_RESPCNT_UNCHK p else if (l.out.getD ⟨0, 0⟩).resp = 2 then
        PT_RESPCNT_POISON p else PT_RESPCNT_REFUSED p) 1).recorded
    generalize State.bump _ _ = u at hcount ⊢
    refine hcount.trans ?_
    split
    · exact setSt_recorded _ _ _
    · exact (((((setSt_recorded _ _ _).trans (setSt_recorded _ _ _)).trans (setSt_recorded _ _ _)).trans
        (setSt_recorded _ _ _)).trans (setSt_recorded _ _ _)).trans (setSt_recorded _ _ _)

/-- Two states differ at one port, in status registers and in counted events alone. -/
def PortWork (p : Nat) (s t : State) : Prop :=
  (∀ q, q ≠ p → t.port q = s.port q) ∧ t = { s with ports := t.ports, perf := t.perf, stat := t.stat, news := t.news }

theorem PortWork.trans {u : State} (h : PortWork p s t) (h' : PortWork p t u) : PortWork p s u := by
  obtain ⟨hport, hframe⟩ := h
  obtain ⟨hport', hframe'⟩ := h'
  refine ⟨fun q hq => (hport' q hq).trans (hport q hq), ?_⟩
  rw [hframe', hframe]

theorem Recorded.portWork (h : Recorded s t) (p : Nat) : PortWork p s t := by
  refine ⟨fun q _ => h.port q, ?_⟩
  unfold Recorded at h
  rw [h]

theorem OnlyPort.portWork (h : OnlyPort p s t) : PortWork p s t := by
  obtain ⟨hport, hframe⟩ := h
  refine ⟨hport, ?_⟩
  rw [hframe]

theorem finishReq_only (p seq : Nat) (s : State) : OnlyPort p s (finishReq p seq s) := onPort_only _ _ _

-- a D beat

/-- The state in which a D beat has transferred and its line is counted. -/
def State.beatOut (s : State) (p : Nat) (r : Req) : State :=
  let d := s.dBeat p r
  let b := r.addr.toNat + (s.port p).dBeat
  let s := (s.onPort p fun x => { x with lastD := d, dBeat := x.dBeat + 1 }).note .beatsD p
  if d.last || b % 4 = 3 then
    match r.lines.find? (·.line = b / 4) with
    | some l => countResponse p r l s
    | none => s
  else s

theorem sendD_eq (p : Nat) (r : Req) (s : State) : sendD p r s = if (s.dBeat p r).last then
    finishReq p r.seq ((s.beatOut p r).onPort p fun x => { x with dSeq := none, dBeat := 0 }) else s.beatOut p r := rfl

theorem beatOut_recorded (p : Nat) (r : Req) (s : State) :
    Recorded ((s.onPort p fun x => { x with lastD := s.dBeat p r, dBeat := x.dBeat + 1 }).note .beatsD p) (s.beatOut p r) := by
  unfold State.beatOut
  dsimp only
  split
  · split
    · exact countResponse_recorded _ _ _ _
    · exact .refl _
  · exact .refl _

theorem beatOut_work (p : Nat) (r : Req) (s : State) : PortWork p s (s.beatOut p r) :=
  ((onPort_only p _ s).trans (note_only .beatsD p 1 p _)).portWork.trans ((beatOut_recorded p r s).portWork p)

theorem beatOut_port (r : Req) (hp : p < 32) :
    (s.beatOut p r).port p = { s.port p with lastD := s.dBeat p r, dBeat := (s.port p).dBeat + 1 } := by
  rw [(beatOut_recorded p r s).port]
  exact State.port_onPort_self _ _ hp

theorem sendD_last {r : Req} (hp : p < 32) (h : (s.dBeat p r).last = true) :
    PortWork p s (sendD p r s) ∧ (sendD p r s).port p = { s.port p with
      lastD := s.dBeat p r, dBeat := 0, dSeq := none, reqs := (s.port p).reqs.filter (·.seq ≠ r.seq) } := by
  rw [sendD_eq, if_pos h]
  refine ⟨(beatOut_work p r s).trans ((onPort_only p _ _).trans (finishReq_only p r.seq _)).portWork, ?_⟩
  unfold finishReq
  rw [State.port_onPort_self _ _ hp, State.port_onPort_self _ _ hp, beatOut_port r hp]

-- a B transfer

theorem sendB_work (r : Req) (hp : p < 32) : PortWork p s (sendB p r s) ∧ ((sendB p r s).port p).lastB = (r.tag, r.worst) ∧
    ((sendB p r s).port p).reqs = (s.port p).reqs.filter (·.seq ≠ r.seq) := by
  have hcount : Recorded s (r.lines.foldl (fun s l => countResponse p r l s) s) :=
    foldl_inv (Recorded s) r.lines (fun t l _ h => h.trans (countResponse_recorded p r l t)) (.refl s)
  unfold sendB
  dsimp only
  generalize r.lines.foldl (fun s l => countResponse p r l s) s = u at hcount ⊢
  refine ⟨(hcount.portWork p).trans ((onPort_only p _ u).trans (finishReq_only p r.seq _)).portWork, ?_⟩
  unfold finishReq
  rw [State.port_onPort_self _ _ hp, State.port_onPort_self _ _ hp, hcount.port]
  exact ⟨rfl, rfl⟩

end

/-- Settles O32: the start of a read's beats, a beat and a write's response. -/
theorem responsesReturnInTurn : Obligations.ResponsesReturnInTurn := by
  intro s p hresp
  have hp : p.val < 32 := by omega
  refine ⟨fun tag r hseq hr => ?_, fun r hr => ?_, fun tag r hr => ?_⟩
  · rw [exec_readResponseStart]
    unfold execReadResponseStart
    rw [if_pos ⟨hresp, hseq⟩, hr]
  · have hexec : exec (.readDataTransfer p) s = .next (if p = 28 && (s.dBeat p r).last then
        spillRead r.seq r (sendD p r s) else sendD p r s) := by
      rw [exec_readDataTransfer]
      unfold execReadDataTransfer
      rw [hr]
    refine ⟨fun hlast h28 => ?_, fun hlast h28 => ?_, fun h28 => ?_⟩
    · rw [if_neg (by simp [h28]), sendD_eq, if_neg (by simp [hlast])] at hexec
      obtain ⟨hother, hframe⟩ := beatOut_work p r s
      exact ⟨_, hexec, beatOut_port r hp, hother, hframe⟩
    · rw [if_neg (by simp [h28])] at hexec
      obtain ⟨⟨hother, hframe⟩, hport⟩ := sendD_last hp hlast
      exact ⟨_, hexec, by rw [hport], by rw [hport], by rw [hport], hother, hframe⟩
    · rw [hexec]
      simp [h28]
  · have hexec : exec (.writeResponseTransfer p tag) s = .next (if p = 29 then
        spillWrote r.seq r (sendB p r s) else sendB p r s) := by
      rw [exec_writeResponseTransfer]
      unfold execWriteResponseTransfer
      rw [hr]
    refine ⟨fun h29 => ?_, fun h29 => ?_⟩
    · rw [if_neg h29] at hexec
      obtain ⟨⟨hother, hframe⟩, hlast, hreqs⟩ := sendB_work (s := s) r hp
      exact ⟨_, hexec, hlast, hreqs, hother, hframe⟩
    · rw [hexec, if_pos h29]

section

variable {s t : State} {p : Nat}

-- the reset of a Tun

/-- What the reset of its Tun makes of a request (R235). -/
def Req.tunReset (r : Req) : Req :=
  if r.wr && !r.bad && !(r.lines.all fun l => l.handed || l.out.isSome) || (r.wr && !r.bad && r.lines.isEmpty) then
    { r with
      lost := true, beats := []
      lines := r.lines.map fun l => if l.handed || l.out.isSome then l else { l with out := some ⟨3, 4⟩ }
      stage := if r.stage = .queued then .queued else .off }
  else if r.bad then { r with
      lost := true, lines := r.lines.map fun l => { l with dead := l.dead || !l.handed }
      stage := if r.stage = .queued then .queued else .off }
  else r

theorem tunReset_eq (p : Nat) (s : State) : Machine.tunReset p s = raise .tunrst p 0
    ((s.onPort p fun x => ({ x with reqs := x.reqs.map Req.tunReset } : Port).sweep).bump (PT_TUNEVT_RESETS p)) := rfl

/-- A request of a reset Tun holds no beat in the buffer. -/
theorem buffered_tunReset (r : Req) : r.tunReset.buffered = 0 := by
  unfold Req.tunReset
  split
  · simp [Req.buffered]
  · split
    · simp [Req.buffered]
    · rename_i hall hbad
      unfold Req.buffered
      cases hw : r.wr with
      | false => rfl
      | true =>
        simp only [hw, Bool.not_eq_true] at hall hbad
        simp only [hbad, Bool.not_false, Bool.true_and, Bool.or_eq_false_iff, Bool.not_eq_false', List.all_eq_true] at hall
        obtain ⟨hall, hempty⟩ := hall
        rw [hempty]
        have hnone : r.lines.filter (fun l => !l.handed && !l.dead && l.out.isNone) = [] := by
          refine List.filter_eq_nil_iff.mpr fun l hl => ?_
          have := hall l hl
          cases hh : l.handed <;> cases ho : l.out <;> simp_all
        rw [hnone]
        simp

/-- The lines of a write that still waits for them are refused where they were not handed on. -/
theorem lines_tunReset {r : Req} (hw : r.wr = true) (hb : r.bad = false) : r.tunReset.lines =
    r.lines.map fun l => if l.handed || l.out.isSome then l else { l with out := some ⟨3, 4⟩ } := by
  unfold Req.tunReset
  split
  · rfl
  · rename_i hall
    rw [if_neg (by simp [hb])]
    simp only [hw, hb, Bool.not_false, Bool.true_and, Bool.not_eq_true, Bool.or_eq_false_iff, Bool.not_eq_false',
      List.all_eq_true] at hall
    exact ((List.map_congr_left fun l hl => if_pos (hall.1 l hl)).trans (List.map_id' _)).symm

theorem seq_tunReset (r : Req) : r.tunReset.seq = r.seq ∧ r.tunReset.freed = r.freed := by
  unfold Req.tunReset
  split
  · exact ⟨rfl, rfl⟩
  · split <;> exact ⟨rfl, rfl⟩

theorem port_raise (src : Src) (unit info : Nat) (s : State) (q : Nat) : (raise src unit info s).port q = s.port q := rfl

theorem port_bump (s : State) (f : Field) (n q : Nat) : (s.bump f n).port q = s.port q := (bump_frame s f n).recorded.port q

theorem tunReset_port (hp : p < 32) : (Machine.tunReset p s).port p =
    ({ s.port p with reqs := (s.port p).reqs.map Req.tunReset } : Port).sweep := by
  rw [tunReset_eq, port_raise, port_bump, State.port_onPort_self _ _ hp]

theorem tunReset_frame (p : Nat) (s : State) : Machine.tunReset p s = { s with
    ports := (Machine.tunReset p s).ports, stat := (Machine.tunReset p s).stat, news := (Machine.tunReset p s).news
    flt := (Machine.tunReset p s).flt } := by
  rw [tunReset_eq]
  have hframe := bump_frame (s.onPort p fun x => ({ x with reqs := x.reqs.map Req.tunReset } : Port).sweep) (PT_TUNEVT_RESETS p) 1
  unfold SameButStat at hframe
  unfold raise
  dsimp only
  generalize State.bump _ (PT_TUNEVT_RESETS p) = u at hframe ⊢
  rw [hframe]
  rfl

theorem occupancy_tunReset (x : Port) : ({ x with reqs := x.reqs.map Req.tunReset } : Port).sweep.occupancy = 0 := by
  unfold Port.occupancy Port.sweep
  refine List.sum_eq_zero fun n hn => ?_
  obtain ⟨r, hr, rfl⟩ := List.mem_map.mp hn
  obtain ⟨e, -, rfl⟩ := List.mem_map.mp (List.mem_filter.mp hr).1
  exact buffered_tunReset e

theorem mem_tunReset {x : Port} {r : Req} (hr : r ∈ x.reqs) (hf : r.freed = false) :
    r.tunReset ∈ ({ x with reqs := x.reqs.map Req.tunReset } : Port).sweep.reqs := by
  refine List.mem_filter.mpr ⟨List.mem_map_of_mem hr, ?_⟩
  simp [(seq_tunReset r).2, hf]

-- the end of a cc at a Tun

theorem tunFallback_recorded (p before occ : Nat) (s : State) : Recorded s (tunFallback p before occ s) := by
  unfold tunFallback
  extract_lets level u
  have hu : Recorded s u := .ite ((setSt_frame _ _ _).trans (event_frame _ _)).recorded (.refl s)
  exact .ite (hu.trans (setSt_recorded _ _ _)) hu

theorem Recorded.pins (h : Recorded s t) : t.pins = s.pins := by
  unfold Recorded at h
  rw [h]

theorem setIngHold_bit (hp : p < 4) (hr : s.pins.dmReady = true) (hc : s.pins.pclk = true) :
    (setIngHold p true s).pins.ingHold.getLsbD p = true := by
  unfold setIngHold
  simp [hr, hc, hp]

/-- A port with a flush holds its traffic from the next cc on (R236). -/
theorem tunCc_ingHold (hp : p < 4) (hf : (s.port p).flush.isSome = true) (hr : s.pins.dmReady = true)
    (hc : s.pins.pclk = true) : (tunCc p s).pins.ingHold.getLsbD p = true := by
  unfold tunCc
  extract_lets before occ hold s₁ held s₂ s₃ s₄ s₅
  have hheld : held = true := by
    have hport : s₁.port p = { s.port p with occ := occ, hold := hold } := State.port_onPort_self _ _ (by omega)
    change (s₁.port p).holdNow = true
    rw [hport]
    unfold Port.holdNow
    simp [hf]
  have h₂ : Recorded s₁ s₂ := .ite (bump_frame _ _ _).recorded (.refl _)
  have h₄ : Recorded s₃ s₄ := .ite (setSt_recorded _ _ _) (.refl _)
  have h₅ : Recorded s₄ s₅ := .ite (bump_frame _ _ _).recorded (.refl _)
  have h₆ : Recorded s₃ (if s₅.on (PT_CFG_HOLD_FB p) then tunFallback p before occ s₅ else s₅) :=
    (h₄.trans h₅).trans (.ite (tunFallback_recorded _ _ _ _) (.refl _))
  have hset : s₃ = setIngHold p true s₂ := by rw [← hheld]
  rw [h₆.pins, hset]
  exact setIngHold_bit hp (by rw [h₂.pins]; exact hr) (by rw [h₂.pins]; exact hc)

-- flushes

theorem flushStart_ingest (hp : p < 4) : flushStart p s = ({ s with
    chans := s.chans.map fun c => c.evictGills .other fun g => g.ports.contains p } : State).onPort p fun x =>
      { x with flush := some x.nextSeq } := if_pos (by simp [ingest, hp])

-- port states

theorem portStop_of_run (h : (s.port p).state = .run) :
    portStop p s = s.onPort p fun x => { x with state := .drain } := if_pos h

theorem portResume_of_stopping (h : (s.port p).state = .drain ∨ (s.port p).state = .stopped) :
    portResume p s = s.onPort p fun x => { x with state := .run } := by
  unfold portResume
  rcases h with h | h <;> simp only [h]

/-- When RESUME returns a HALTED port to RUN (R242). -/
def State.mayResume (s : State) (p : Nat) : Prop :=
  2 ≤ (s.port p).hcause ∧ (s.port p).hcause ≤ 4 ∧ s.frozenIn (.pt p) = false ∧ (s.port p).tags = 1 ∧
    ∀ r ∈ (s.port p).reqs, r.bad = true

theorem portResume_of_halted (h : (s.port p).state = .halted) (hr : s.mayResume p) :
    portResume p s = s.onPort p fun x => ({ x with
      state := .run, hcause := 0, reqs := x.reqs.map fun r => { r with freed := true } } : Port).sweep := by
  obtain ⟨hlo, hhi, hfrozen, htags, hbad⟩ := hr
  unfold portResume
  simp only [h]
  exact if_pos ⟨hlo, hhi, by simp [hfrozen], htags, List.all_eq_true.mpr hbad⟩

theorem portResume_of_held (h : (s.port p).state = .halted) (hr : ¬ s.mayResume p) : portResume p s = s := by
  unfold portResume
  simp only [h]
  refine if_neg fun ⟨hlo, hhi, hfrozen, htags, hbad⟩ => hr ⟨hlo, hhi, by simpa using hfrozen, htags, List.all_eq_true.mp hbad⟩

theorem portResume_of_idle (h : (s.port p).state = .run ∨ (s.port p).state = .disabled) : portResume p s = s := by
  unfold portResume
  rcases h with h | h <;> simp only [h]

end

/-- Settles O33: the reset of a Tun, a flush and the moves of the port states. -/
theorem portsFlushStopAndResume : Obligations.PortsFlushStopAndResume := by
  refine ⟨fun s p hc => ⟨?_, ?_, fun hcan hflushed hfrozen => ?_⟩, fun s p hc => ?_⟩
  · have hp : p.val < 32 := by omega
    have hport := tunReset_port (s := s) hp
    refine ⟨_, congrArg Host.Outcome.next (if_pos hc), ?_, ?_, fun r hr hw hb hf => ?_, tunReset_frame p s⟩
    · rw [hport]
      exact occupancy_tunReset _
    · rw [hport]
      rfl
    · rw [hport]
      exact ⟨_, mem_tunReset hr hf, (seq_tunReset r).1, lines_tunReset hw hb⟩
  · have hp : p.val < 32 := by omega
    have hexec : exec (.flush p) s = .next (flushStart p (dropHeld (PT_CTRL_FLUSH p).addr s)) :=
      congrArg Host.Outcome.next (if_pos hc)
    rw [flushStart_ingest p.isLt] at hexec
    refine ⟨_, hexec, ?_, fun hr hk => ?_, rfl, rfl⟩
    · rw [State.port_onPort_self _ _ hp]
      rfl
    · refine tunCc_ingHold p.isLt ?_ hr hk
      rw [State.port_onPort_self _ _ hp]
      rfl
  · have hp : p.val < 32 := by omega
    have hexec : exec (.flushDone p) s = .next ((s.setBits (PT_STATE_FLUSH_DONE p) 1).onPort p fun x =>
        { x with flush := none }) := congrArg Host.Outcome.next (if_pos ⟨hc, hflushed⟩)
    have hframe := setBits_frame s (PT_STATE_FLUSH_DONE p) 1
    have hst := State.st_setBits_self (PT_STATE_FLUSH_DONE p) 1 (canonical_stat hcan) (by simp [PT_STATE_FLUSH_DONE]) hfrozen
    refine ⟨_, hexec, ?_, ?_, ?_⟩
    · rw [State.port_onPort_self _ _ hp]
    · refine hst.trans ?_
      have hlt : s.st (PT_STATE_FLUSH_DONE p) < 2 := s.st_lt (PT_STATE_FLUSH_DONE p)
      change (s.st (PT_STATE_FLUSH_DONE p) ||| 1) % 2 = 1
      interval_cases s.st (PT_STATE_FLUSH_DONE p) <;> rfl
    · unfold SameButStat at hframe
      generalize s.setBits (PT_STATE_FLUSH_DONE p) 1 = u at hframe ⊢
      rw [hframe]
      rfl
  · have hp : p.val < 32 := by omega
    intro x w moves
    have hstop : exec (.stop p) s = .next (portStop p w) := congrArg Host.Outcome.next (if_pos hc)
    have hresume : exec (.resume p) s = .next (portResume p w) := congrArg Host.Outcome.next (if_pos hc)
    have hw (f : Port → Port) : (w.onPort p f).port p = f x := State.port_onPort_self _ _ hp
    have hother (f : Port → Port) (q : Nat) (hq : q ≠ p.val) : (w.onPort p f).port q = s.port q :=
      State.port_onPort_other _ _ hq
    refine ⟨fun hrun => ?_, fun hrun => ?_, fun hst => ?_, fun hst htags => ?_, fun hst hlo hhi hfrozen htags hbad => ?_,
      fun hst => ?_⟩
    · rw [portStop_of_run (s := w) hrun] at hstop
      exact ⟨_, hstop, by rw [hw], by rw [hw], hother _, rfl⟩
    · rw [hstop]
      exact congrArg Host.Outcome.next (if_neg hrun)
    · rw [portResume_of_stopping (s := w) hst] at hresume
      exact ⟨_, hresume, by rw [hw], by rw [hw], hother _, rfl⟩
    · refine ⟨_, congrArg Host.Outcome.next (if_pos ⟨hc, hst, htags⟩), ?_, ?_, fun q hq => State.port_onPort_other _ _ hq, rfl⟩
      · rw [State.port_onPort_self _ _ hp]
      · rw [State.port_onPort_self _ _ hp]
    · rw [hresume, portResume_of_halted (s := w) hst ⟨hlo, hhi, hfrozen, htags, hbad⟩]
      exact congrArg Host.Outcome.next (onPort_const _ hp)
    · rw [hresume]
      refine congrArg Host.Outcome.next ?_
      rcases hst with hst | hst | ⟨hst, hheld⟩
      · exact portResume_of_idle (s := w) (.inl hst)
      · exact portResume_of_idle (s := w) (.inr hst)
      · refine portResume_of_held (s := w) hst fun ⟨hlo, _, hfrozen, htags, hbad⟩ => ?_
        rcases hheld with h | h | h | ⟨r, hr, h⟩
        · have hlo : 2 ≤ x.hcause := hlo
          omega
        · exact absurd h (by simp [show s.frozenIn (.pt p) = false from hfrozen])
        · exact h htags
        · exact absurd (hbad r hr) (by simp [h])

end Sys2Proof.Machine
end

section
/-!
The choice of a channel's engine meets the timing rules (O34). What each source of a command gives is one lemma; the choice
of R295 is one source or the other.
-/

namespace Sys2Proof.Machine

section

variable {s : State} {c r b thr id : Nat} {k : Cmd}

/-- The column command of an operation meets its rules (R296, R301, R303). -/
def State.columnMeets (s : State) (c id : Nat) (wr : Bool) : Prop :=
  ∃ o ∈ (s.chan c).ops, o.id = id ∧ o.inQueue ∧ o.writes = wr ∧
    s.columnReady c (s.opPlace c o) wr ∧ (s.chan c).wrMode = wr ∧
    ((s.rank c (s.opPlace c o).rank).bank (s.opPlace c o).bank).st = .opened ∧
    ((s.rank c (s.opPlace c o).rank).bank (s.opPlace c o).bank).row = (s.opPlace c o).row

/-- A command meets the timing rules of its kind. -/
def State.meets (s : State) (c : Nat) : Cmd → Prop
  | .act p id => p.rank < 2 ∧ p.bank < 16 ∧ s.actReady c p.rank p.bank ∧
      ∃ o ∈ (s.chan c).ops, o.id = id ∧ o.inQueue ∧ s.opPlace c o = p
  | .rd id => s.columnMeets c id false
  | .wr id => s.columnMeets c id true
  | .pre r b => r < 2 ∧ b < 16 ∧ s.preReady c r b
  | .refpb r a _ => r < 2 ∧ a < 8 ∧ s.rankFree c r ∧ (∀ b ∈ s.refBanks c a, ((s.rank c r).bank b).st = .closed) ∧
      ∀ b < 16, ((s.rank c r).bank b).ref ≠ (s.rank c r).refab →
        s.due ((s.rank c r).bank b).ref (s.tm c CH_TRFC_PBR2PBR)
  | .refab r _ => r < 2 ∧ s.rankFree c r ∧ ∀ b < 16, ((s.rank c r).bank b).st = .closed
  | .rfm r b _ => r < 2 ∧ b < 16 ∧ s.rankQuiet c r ∧ ((s.rank c r).bank b).st = .closed
  | .cas r => r < 2 ∧ s.rankQuiet c r ∧ (s.rank c r).wckOn = false
  | .mrr r => r < 2 ∧ s.rankQuiet c r ∧ (s.rank c r).mr4Due
  | .mrw r => r < 2 ∧ s.rankQuiet c r ∧ s.due (s.rank c r).mrw (s.tm c CH_TMR_MRW) ∧ s.fspOwed c r
  | .zqStart r => s.rankQuiet c r ∧ (s.cal c).step = some (3, r)
  | .zqLatch r => s.rankQuiet c r ∧ (s.cal c).step = some (2, r) ∧ (s.rank c r).zqReady
  | .oscStart r => s.rankQuiet c r ∧ (s.cal c).step = some (4, r)
  | .osc r => s.rankFree c r ∧ (s.cal c).step = some (4, r)

/-- Whatever command a source gives meets its rules. -/
def State.Gives (s : State) (c : Nat) (o : Option Cmd) : Prop := ∀ k, o = some k → s.meets c k

theorem gives_none : s.Gives c none := nofun

theorem gives_some (h : s.meets c k) : s.Gives c (some k) := fun _ hk => Option.some.inj hk ▸ h

theorem State.Gives.or {o o' : Option Cmd} (h : s.Gives c o) (h' : s.Gives c o') : s.Gives c (o.or o') := by
  cases o with
  | none => exact h'
  | some k => exact h

theorem State.Gives.ite {p : Prop} [Decidable p] {o : Option Cmd} (h : p → s.Gives c o) :
    s.Gives c (if p then o else none) := by
  by_cases hp : p
  · rw [if_pos hp]
    exact h hp
  · rw [if_neg hp]
    exact gives_none

-- banks of a rank

theorem bank_mem_list (k : Rank) (h : b < 16) : (k.bank b, b) ∈ k.list := by
  unfold Rank.list Rank.bank
  rw [List.mem_zipIdx_iff_getElem?]
  simp [Vector.getD, h]

theorem lt_of_mem_list {k : Rank} {e : Bank × Nat} (h : e ∈ k.list) : e.2 < 16 := by
  unfold Rank.list at h
  have := (List.mem_zipIdx h).2.1
  simpa using this

theorem lt_of_mem_refBanks {a : Nat} (ha : a < 8) (h : b ∈ s.refBanks c a) : b < 16 := by
  unfold State.refBanks at h
  split at h <;> simp at h <;> omega

theorem lt_of_refAddr {a : Nat} (h : s.refAddr c r = some a) : a < 8 := by
  unfold State.refAddr at h
  dsimp only at h
  split at h
  · rename_i he
    exact Option.some.inj h ▸ List.mem_range.mp (List.mem_of_find?_eq_some he)
  · exact List.mem_range.mp (List.mem_of_find?_eq_some h)

theorem lt_of_mem_refNeeds (h : b ∈ s.refNeeds c r) : b < 16 := by
  unfold State.refNeeds at h
  split at h
  · exact List.mem_range.mp h
  · split at h
    · rename_i he
      exact lt_of_mem_refBanks (lt_of_refAddr he) h
    · cases h

theorem lt_of_mem_raaBanks (h : b ∈ s.raaBanks c r thr) : b < 16 := by
  unfold State.raaBanks at h
  split at h
  · obtain ⟨e, he, rfl⟩ := List.mem_map.mp h
    exact lt_of_mem_list (List.mem_filter.mp he).1
  · cases h

-- the sources

theorem preFor_gives {bs : List Nat} (hr : r < 2) (hb : ∀ b ∈ bs, b < 16) : s.Gives c (s.preFor c r bs) := by
  intro k hk
  obtain ⟨b, hf, rfl⟩ := Option.map_eq_some_iff.mp hk
  exact ⟨hr, hb b (List.mem_of_find?_eq_some hf), List.find?_some hf⟩

theorem refCmd_gives (hr : r < 2) (placed : Bool) : s.Gives c (s.refCmd c r placed) := by
  unfold State.refCmd
  dsimp only
  split
  · exact gives_none
  split
  case isFalse => exact preFor_gives hr fun b hb => lt_of_mem_refNeeds hb
  case isTrue hclosed =>
    have hclosed : ∀ b ∈ s.refNeeds c r, ((s.rank c r).bank b).st = .closed := by simpa using hclosed
    split
    · exact gives_none
    rename_i hfree
    have hfree : s.rankFree c r = true := by simpa using hfree
    split
    · rename_i hall
      have hneeds : s.refNeeds c r = List.range 16 := if_pos hall
      exact gives_some ⟨hr, hfree, fun b hb => hclosed b (hneeds ▸ List.mem_range.mpr hb)⟩
    · rename_i hall
      refine .ite fun hgap k hk => ?_
      obtain ⟨a, ha, rfl⟩ := Option.map_eq_some_iff.mp hk
      have hneeds : s.refNeeds c r = s.refBanks c a := by
        unfold State.refNeeds
        rw [if_neg hall, ha]
      refine ⟨hr, lt_of_refAddr ha, hfree, fun b hb => hclosed b (hneeds ▸ hb), fun b hb hne => ?_⟩
      have hdue := List.all_eq_true.mp hgap _ (bank_mem_list (s.rank c r) hb)
      unfold Rank.refPb at hdue
      rwa [if_neg (Ne.symm hne)] at hdue

theorem rfmCmd_gives (hr : r < 2) (hb : b < 16) (placed : Bool) : s.Gives c (s.rfmCmd c r b placed) := by
  unfold State.rfmCmd
  split
  · rename_i hst
    exact .ite fun hq => gives_some ⟨hr, hb, hq, hst⟩
  · exact .ite fun _ => preFor_gives hr fun _ h => List.mem_singleton.mp h ▸ hb
  · exact gives_none

theorem mr4Cmd_gives (hr : r < 2) (top : Bool) : s.Gives c (s.mr4Cmd c r top) := by
  unfold State.mr4Cmd
  refine .ite fun h => gives_some ?_
  simp only [Bool.and_eq_true] at h
  exact ⟨hr, h.2, h.1.1.1.1⟩

theorem findRfm_gives {f : Nat → Option Cmd}
    (hf : ∀ b < 16, s.Gives c (f b)) : s.Gives c ((s.raaBanks c r thr).findSome? f) := by
  intro k hk
  obtain ⟨b, hb, hk⟩ := List.exists_of_findSome?_eq_some hk
  exact hf b (lt_of_mem_raaBanks hb) k hk

theorem limitRef_gives (hr : r < 2) : s.Gives c (s.limitRef c r) := .ite fun _ => refCmd_gives hr false

theorem limitRfm_gives (hr : r < 2) : s.Gives c (s.limitRfm c r) :=
  findRfm_gives fun _ hb => rfmCmd_gives hr hb false

theorem order1_gives : s.Gives c (s.order1 c) := by
  have h0 : 0 < 2 := by decide
  have h1 : 1 < 2 := by decide
  exact ((mr4Cmd_gives h0 true).or (limitRef_gives h0)).or (((mr4Cmd_gives h1 true).or (limitRef_gives h1)).or
    ((limitRfm_gives h0).or (limitRfm_gives h1)))

theorem placedRef_gives (hr : r < 2) : s.Gives c (s.placedRef c r) := by
  unfold State.placedRef
  dsimp only
  split
  · exact gives_none
  · exact (findRfm_gives fun _ hb => .ite fun _ => rfmCmd_gives hr hb true).or (.ite fun _ => refCmd_gives hr true)

theorem fspCmd_gives (hr : r < 2) : s.Gives c (s.fspCmd c r) := by
  unfold State.fspCmd
  refine .ite fun h => gives_some ?_
  simp only [Bool.and_eq_true] at h
  obtain ⟨⟨howed, hquiet⟩, hdue⟩ := h
  exact ⟨hr, hquiet, hdue, howed⟩

theorem placed_gives : s.Gives c (s.placed c) := by
  have h0 : 0 < 2 := by decide
  have h1 : 1 < 2 := by decide
  exact ((mr4Cmd_gives h0 false).or (mr4Cmd_gives h1 false)).or ((placedRef_gives h0).or ((placedRef_gives h1).or
    ((fspCmd_gives h0).or (fspCmd_gives h1))))

theorem calCmd_gives : s.Gives c (s.calCmd c) := by
  unfold State.calCmd
  split
  · rename_i hstep
    exact .ite fun hq => gives_some ⟨hq, hstep⟩
  · rename_i hstep
    refine .ite fun h => gives_some ?_
    obtain ⟨hready, hq⟩ := Bool.and_eq_true_iff.mp h
    exact ⟨hq, hstep, hready⟩
  · rename_i hstep
    split
    · exact .ite fun hq => gives_some ⟨hq, hstep⟩
    · refine .ite fun h => gives_some ?_
      exact ⟨(Bool.and_eq_true_iff.mp h).1, hstep⟩
  · exact gives_none

-- operations

theorem opPlace_bounds (s : State) (c : Nat) (o : Op) : (s.opPlace c o).rank < 2 ∧ (s.opPlace c o).bank < 16 := by
  unfold State.opPlace State.place
  have h1 : natBits o.x 7 1 < 2 := Nat.mod_lt _ (by decide)
  have h2 : natBits o.x 5 1 < 2 := Nat.mod_lt _ (by decide)
  have h3 : natBits o.x 5 2 < 4 := Nat.mod_lt _ (by decide)
  have h4 : natBits o.x 0 2 < 4 := Nat.mod_lt _ (by decide)
  dsimp only
  refine ⟨h1, ?_⟩
  split <;> omega

theorem opCmd_gives {o : Op} (ho : o ∈ (s.chan c).ops) (hq : o.inQueue = true) : s.Gives c (s.opCmd c o) := by
  obtain ⟨hr, hb⟩ := opPlace_bounds s c o
  unfold State.opCmd
  dsimp only
  split
  · exact gives_none
  split
  · refine .ite fun h => gives_some ⟨hr, hb, (Bool.and_eq_true_iff.mp h).2, o, ho, rfl, hq, rfl⟩
  · rename_i hst
    split
    · rename_i hrow
      refine .ite fun h => ?_
      have hmode : o.writes = (s.chan c).wrMode := by simpa using (Bool.and_eq_true_iff.mp h).1
      split
      · rename_i hwck
        exact .ite fun hquiet => gives_some ⟨hr, hquiet, by simpa using hwck⟩
      · refine .ite fun h => ?_
        have hcol := (Bool.and_eq_true_iff.mp h).2
        have hmeets : s.columnMeets c o.id o.writes := ⟨o, ho, rfl, hq, rfl, hcol, hmode.symm, hst, hrow⟩
        refine gives_some ?_
        cases hw : o.writes <;> rwa [hw] at hmeets
    · exact .ite fun h => gives_some ⟨hr, hb, (Bool.and_eq_true_iff.mp h).2⟩
  · exact gives_none

/-- A list of operations with commands that meet their rules. -/
def State.Meet (s : State) (c : Nat) (cs : List (Op × Cmd)) : Prop := ∀ e ∈ cs, s.meets c e.2

theorem cmdsOf_meet (s : State) (c n : Nat) : s.Meet c (s.cmdsOf c n) := by
  intro e he
  obtain ⟨o, ho, h⟩ := List.mem_filterMap.mp he
  split at h
  · rename_i hq
    obtain ⟨k, hk, rfl⟩ := Option.map_eq_some_iff.mp h
    exact opCmd_gives ho hq.2 k hk
  · cases h

theorem State.Meet.filter {cs : List (Op × Cmd)} (h : s.Meet c cs) (f : Op × Cmd → Bool) : s.Meet c (cs.filter f) :=
  fun e he => h e (List.mem_filter.mp he).1

theorem oldestCmd_gives {cs : List (Op × Cmd)} (h : s.Meet c cs) : s.Gives c (oldestCmd cs) := by
  intro k hk
  obtain ⟨o, -, hk⟩ := Option.bind_eq_some_iff.mp hk
  obtain ⟨e, he, rfl⟩ := Option.map_eq_some_iff.mp hk
  exact h e (List.mem_of_find?_eq_some he)

theorem orderCmd_gives (n : Nat) : s.Gives c (s.orderCmd c n) := oldestCmd_gives (cmdsOf_meet s c n)

theorem portCmd_gives : s.Gives c (s.portCmd c) := by
  have h := cmdsOf_meet s c 50
  unfold State.portCmd
  dsimp only
  split
  · exact gives_none
  · exact (oldestCmd_gives ((h.filter _).filter _)).or (oldestCmd_gives (h.filter _))

theorem choose_gives : s.Gives c (s.choose c) :=
  order1_gives.or (calCmd_gives.or ((orderCmd_gives 20).or ((orderCmd_gives 30).or ((orderCmd_gives 40).or
    ((orderCmd_gives 41).or (placed_gives.or (portCmd_gives.or (orderCmd_gives 60))))))))

theorem engineRuns_shows (h : s.engineRuns c = true) : s.slot c = true ∧ s.clocked = true := by
  unfold State.engineRuns State.busRuns State.quadLives at h
  simp only [Bool.and_eq_true] at h
  exact ⟨h.2, h.1.1.1.1.1.1.1.1⟩

theorem chosen_some (h : s.chosen c = some k) : s.engineRuns c = true ∧ s.choose c = some k := by
  unfold State.chosen at h
  split at h
  · rename_i hr
    exact ⟨hr, h⟩
  · cases h

end

/-- Settles O34: every source of the choice gives a command that meets its rules. -/
theorem chosenCommandsMeetTheirTimings : Obligations.ChosenCommandsMeetTheirTimings := by
  intro s ch k hk
  obtain ⟨hruns, hchoose⟩ := chosen_some hk
  obtain ⟨hslot, hclocked⟩ := engineRuns_shows hruns
  have hmeets := choose_gives k hchoose
  refine ⟨hslot, hclocked, ?_⟩
  cases k <;> exact hmeets

end Sys2Proof.Machine
end

section
/-!
Row commands move their bank alone (O35).
-/

namespace Sys2Proof.Machine

section

variable {s t u : State} {c r b : Nat}

/-- Two states differ, of the banks and channels, in one bank and in its channel alone. -/
def OneBank (c r b : Nat) (s t : State) : Prop :=
  (∀ r' b', (r', b') ≠ (r, b) → (t.rank c r').bank b' = (s.rank c r').bank b') ∧ ∀ d, d ≠ c → t.chan d = s.chan d

theorem OneBank.refl (c r b : Nat) (s : State) : OneBank c r b s s := ⟨fun _ _ _ => rfl, fun _ _ => rfl⟩

theorem OneBank.trans (h : OneBank c r b s t) (h' : OneBank c r b t u) : OneBank c r b s u := by
  obtain ⟨hbank, hchan⟩ := h
  obtain ⟨hbank', hchan'⟩ := h'
  exact ⟨fun r' b' hne => (hbank' r' b' hne).trans (hbank r' b' hne), fun d hd => (hchan' d hd).trans (hchan d hd)⟩

/-- An update of one rank that keeps its other banks. -/
theorem onRank_oneBank {f : Rank → Rank} (hc : c < 16) (hr : r < 2) (hf : ∀ k b', b' ≠ b → (f k).bank b' = k.bank b') :
    OneBank c r b s (s.onRank c r f) := by
  refine ⟨fun r' b' hne => ?_, fun d hd => State.chan_onChan_other _ _ hd⟩
  by_cases hrr : r' = r
  · subst hrr
    rw [State.rank_onRank_self _ _ hc hr]
    exact hf _ _ fun h => hne (by rw [h])
  · rw [State.rank_onRank_other _ _ (.inr hrr)]

theorem onBank_oneBank (f : Bank → Bank) (hc : c < 16) (hr : r < 2) : OneBank c r b s (s.onBank c r b f) :=
  onRank_oneBank hc hr fun k _ h => Rank.bank_onBank_other k f h

theorem bank_onBank_self (f : Bank → Bank) (hc : c < 16) (hr : r < 2) (hb : b < 16) :
    ((s.onBank c r b f).rank c r).bank b = f ((s.rank c r).bank b) := by
  unfold State.onBank
  rw [State.rank_onRank_self _ _ hc hr, Rank.bank_onBank_self _ _ hb]

theorem SameButStat.rank (h : SameButStat s t) (c r : Nat) : t.rank c r = s.rank c r := by
  unfold State.rank
  rw [h.chan]

-- a command takes its slot

theorem takeSlot_rank (c n d r : Nat) : (s.takeSlot c n).rank d r = s.rank d r :=
  State.chan_onChan_keep (f := fun x => { x with cmdAt := s.now + n * s.ck }) (·.rank r) s c (fun _ => rfl) d

theorem takeSlot_cmdAt (n : Nat) (hc : c < 16) : ((s.takeSlot c n).chan c).cmdAt = s.now + n * s.ck := by
  unfold State.takeSlot
  rw [State.chan_onChan_self _ _ hc]

theorem takeSlot_oneBank (c n r b : Nat) (s : State) : OneBank c r b s (s.takeSlot c n) :=
  ⟨fun _ _ _ => by rw [takeSlot_rank], fun _ hd => State.chan_onChan_other _ _ hd⟩

-- ACT

/-- What `raiseRaa` does to the rank, and that nothing else of the banks moves. -/
theorem raiseRaa_shows (hc : c < 16) (hr : r < 2) (hb : b < 16) : ∃ v, SameButStat v (raiseRaa c r b s) ∧
    v = { s with chans := v.chans } ∧ OneBank c r b s v ∧
    (v.rank c r).bank b = { (s.rank c r).bank b with
      raa := ((s.rank c r).bank b).raa + if s.on (CH_RFMCFG_EN c) then 1 else 0 } ∧ (v.rank c r).faw = (s.rank c r).faw := by
  unfold raiseRaa
  dsimp only
  split
  · refine ⟨s.onBank c r b fun x => { x with raa := x.raa + 1 }, ?_, rfl, onBank_oneBank _ hc hr,
      bank_onBank_self _ hc hr hb, ?_⟩
    · split
      · exact setSt_frame _ _ _
      · exact .refl _
    · unfold State.onBank
      rw [State.rank_onRank_self _ _ hc hr]
      rfl
  · exact ⟨s, .refl s, rfl, .refl _ _ _ s, rfl, rfl⟩

/-- What ACT does to its rank. -/
def Rank.activate (k : Rank) (p : Place) (id now : Nat) : Rank :=
  { k.onBank p.bank fun b => { b with
      st := .opening, row := p.row, act := some now, hits := 0, actFor := some id, idleAt := now } with
    faw := (now :: k.faw).take 4 }

theorem issueAct_eq (c : Nat) (p : Place) (id : Nat) (s : State) : issueAct c p id s =
    ((raiseRaa c p.rank p.bank (s.onRank c p.rank fun k => k.activate p id s.now)).takeSlot c 2).note .act c := rfl

theorem issueAct_shows (p : Place) (id : Nat) (hc : c < 16) (hr : p.rank < 2) (hb : p.bank < 16) :
    ((issueAct c p id s).rank c p.rank).bank p.bank = { (s.rank c p.rank).bank p.bank with
      st := .opening, row := p.row, act := some s.now, hits := 0, actFor := some id, idleAt := s.now
      raa := ((s.rank c p.rank).bank p.bank).raa + if s.on (CH_RFMCFG_EN c) then 1 else 0 } ∧
    OneBank c p.rank p.bank s (issueAct c p id s) ∧
    ((issueAct c p id s).rank c p.rank).faw = (s.now :: (s.rank c p.rank).faw).take 4 ∧
    ((issueAct c p id s).chan c).cmdAt = s.now + 2 * s.ck ∧
    issueAct c p id s = { s with
      chans := (issueAct c p id s).chans, stat := (issueAct c p id s).stat, news := (issueAct c p id s).news
      perf := (issueAct c p id s).perf } := by
  have hone : OneBank c p.rank p.bank s (s.onRank c p.rank fun k => k.activate p id s.now) :=
    onRank_oneBank hc hr fun k b' h => Rank.bank_onBank_other k _ h
  have hrank := State.rank_onRank_self s (c := c) (r := p.rank) (fun k => k.activate p id s.now) hc hr
  have hact : ((s.rank c p.rank).activate p id s.now).bank p.bank = _ := Rank.bank_onBank_self (s.rank c p.rank) _ hb
  rw [issueAct_eq]
  generalize hv : s.onRank c p.rank (fun k => k.activate p id s.now) = v at hone hrank
  have hvf : v = { s with chans := v.chans } := by
    rw [← hv]
    rfl
  obtain ⟨w, hstat, hwf, hone', hbank, hfaw⟩ := raiseRaa_shows (s := v) hc hr hb
  have hplain : SameButStat w (raiseRaa c p.rank p.bank v) := hstat
  generalize raiseRaa c p.rank p.bank v = x at hstat hplain ⊢
  have hx : x = { s with chans := x.chans, stat := x.stat, news := x.news } := by
    unfold SameButStat at hstat
    rw [hstat, hwf, hvf]
  have hon : v.on (CH_RFMCFG_EN c) = s.on (CH_RFMCFG_EN c) := by
    rw [hvf]
    rfl
  have hrankx (q : Nat) : ((x.takeSlot c 2).note .act c).rank c q = w.rank c q :=
    (takeSlot_rank c 2 c q).trans (hplain.rank c q)
  refine ⟨?_, ?_, ?_, ?_, ?_⟩
  · rw [hrankx, hbank, hrank, hact, hon]
  · have hxw : OneBank c p.rank p.bank w x := ⟨fun _ _ _ => by rw [hplain.rank], fun d _ => hplain.chan d⟩
    exact ((hone.trans hone').trans hxw).trans (takeSlot_oneBank c 2 _ _ x)
  · rw [hrankx, hfaw, hrank]
    rfl
  · refine (takeSlot_cmdAt (s := x) 2 hc).trans ?_
    rw [hx]
    rfl
  · change { x with chans := _, perf := _ } = _
    rw [hx]
    rfl

-- PRE

theorem issuePre_eq (c r b : Nat) (s : State) : issuePre c r b s =
    ((s.onBank c r b fun x => { x with st := .closing, pre := some s.now }).takeSlot c 1).note .pre c := rfl

theorem issuePre_shows (hc : c < 16) (hr : r < 2) (hb : b < 16) :
    ((issuePre c r b s).rank c r).bank b = { (s.rank c r).bank b with st := .closing, pre := some s.now } ∧
    OneBank c r b s (issuePre c r b s) ∧ ((issuePre c r b s).chan c).cmdAt = s.now + s.ck ∧
    issuePre c r b s = { s with chans := (issuePre c r b s).chans, perf := (issuePre c r b s).perf } := by
  have hone := onBank_oneBank (s := s) (b := b) (fun x => { x with st := .closing, pre := some s.now }) hc hr
  have hself := bank_onBank_self (s := s) (fun x => { x with st := .closing, pre := some s.now }) hc hr hb
  rw [issuePre_eq]
  generalize hv : s.onBank c r b (fun x => { x with st := .closing, pre := some s.now }) = v at hone hself
  have hvf : v = { s with chans := v.chans } := by
    rw [← hv]
    rfl
  refine ⟨(congrArg (·.bank b) (takeSlot_rank c 1 c r)).trans hself, hone.trans (takeSlot_oneBank c 1 r b v), ?_, ?_⟩
  · refine (takeSlot_cmdAt (s := v) 1 hc).trans ?_
    rw [hvf, Nat.one_mul]
    rfl
  · change { v with chans := _, perf := _ } = _
    rw [hvf]
    rfl

-- PREab

theorem bank_mapBanks (k : Rank) (f : Bank → Bank) (hb : b < 16) : (k.mapBanks f).bank b = f (k.bank b) := by
  unfold Rank.mapBanks Rank.bank
  simp [Vector.getD, hb]

/-- What PREab does to its rank. -/
def Rank.prechargeAll (k : Rank) (now : Nat) : Rank :=
  { k.mapBanks fun b => if b.st = .opened then { b with st := .closing, pre := some now } else b with
    preab := some now, preDue := false }

theorem issuePreab_eq (c r : Nat) (s : State) : issuePreab c r s =
    ((s.onRank c r fun k => k.prechargeAll s.now).takeSlot c 1).note .pre c := rfl

theorem issuePreab_shows (hc : c < 16) (hr : r < 2) :
    (issuePreab c r s).rank c r = (s.rank c r).prechargeAll s.now ∧
    (∀ q, q ≠ r → (issuePreab c r s).rank c q = s.rank c q) ∧ (∀ d, d ≠ c → (issuePreab c r s).chan d = s.chan d) ∧
    ((issuePreab c r s).chan c).cmdAt = s.now + s.ck ∧
    issuePreab c r s = { s with chans := (issuePreab c r s).chans, perf := (issuePreab c r s).perf } := by
  have hself := State.rank_onRank_self s (fun k => k.prechargeAll s.now) hc hr
  have hother (q : Nat) (hq : q ≠ r) := State.rank_onRank_other s (c := c) (d := c) (fun k => k.prechargeAll s.now) (.inr hq)
  rw [issuePreab_eq]
  refine ⟨(takeSlot_rank c 1 c r).trans hself, fun q hq => (takeSlot_rank c 1 c q).trans (hother q hq), fun d hd => ?_, ?_,
    rfl⟩
  · exact (State.chan_onChan_other _ _ hd).trans (State.chan_onChan_other _ _ hd)
  · refine (takeSlot_cmdAt (s := s.onRank c r fun k => k.prechargeAll s.now) 1 hc).trans ?_
    rw [Nat.one_mul]
    rfl

end

/-- Settles O35: ACT, PRE and PREab, and the ends of their times. -/
theorem rowCommandsMoveTheirBanks : Obligations.RowCommandsMoveTheirBanks := by
  intro s ch bank others closing
  have hclosing (c : Instr) {r b : Nat} (hr : r < 2) (hb : b < 16) (hexec : exec c s = .next (issuePre ch r b s)) :
      closing c r b := ⟨_, hexec, issuePre_shows ch.isLt hr hb⟩
  refine ⟨fun p id hk hr hb => ?_, fun r b hk hr hb => ?_, fun r b hruns hnone hidle hosc hready hqueued hat => ?_,
    fun r hruns hready => ?_, fun r b hc => ⟨fun hst hdue => ?_, fun hst hne hdue => ?_, fun hst hsome heq hdue => ?_,
      fun hst href hrfm => ?_⟩⟩
  · have hexec : exec (.act ch) s = .next (issueAct ch p id s) := by
      rw [exec_act]
      unfold execAct
      rw [hk]
    exact ⟨_, hexec, issueAct_shows p id ch.isLt hr hb⟩
  · refine hclosing _ hr hb ?_
    rw [exec_pre]
    unfold execPre
    rw [hk]
  · refine hclosing _ r.isLt b.isLt ?_
    refine if_pos ⟨hruns, ?_, hidle, by simp [hosc], hready, by simpa using hqueued, hat⟩
    rw [hnone]
    rfl
  · have hexec : exec (.preab ch r) s = .next (issuePreab ch r s) :=
      congrArg Host.Outcome.next (if_pos ⟨hruns, hready⟩)
    obtain ⟨hself, hother, hchan, hcmd, hframe⟩ := issuePreab_shows (s := s) ch.isLt r.isLt
    refine ⟨_, hexec, by rw [hself]; rfl, by rw [hself]; rfl, fun b hb => ?_, hother, hchan, hcmd, hframe⟩
    change ((issuePreab ch r s).rank ch r).bank b = _
    rw [hself]
    exact bank_mapBanks _ _ hb
  · exact congrArg Host.Outcome.next (if_pos ⟨hc, hst, hdue⟩)
  · refine congrArg Host.Outcome.next (if_pos ⟨hc, hst, ?_⟩)
    rw [if_neg]
    · exact hdue
    · simpa using fun _ => Ne.symm hne
  · refine congrArg Host.Outcome.next (if_pos ⟨hc, hst, ?_⟩)
    rw [if_pos]
    · exact hdue
    · simpa using ⟨hsome, heq.symm⟩
  · refine congrArg Host.Outcome.next (if_pos ⟨hc, hst, Bool.and_eq_true_iff.mpr ⟨?_, hrfm⟩⟩)
    refine Eq.trans (congrArg _ (if_congr ?_ rfl rfl)) href
    simp only [Bool.and_eq_true, beq_iff_eq]
    exact and_congr_right fun _ => eq_comm

end Sys2Proof.Machine
end

section
/-!
Column commands move one burst (O36).
-/

namespace Sys2Proof.Machine

section

variable {s t u : State} {c id : Nat} {o w : Op}

-- the operation with a number

theorem op_onOp_self (x : Chan) {f : Op → Op} (hf : ∀ o, (f o).id = o.id) : (x.onOp id f).op id = (x.op id).map f := by
  unfold Chan.op Chan.onOp
  induction x.ops with
  | nil => rfl
  | cons o ops ih =>
    by_cases h : o.id = id
    · simp [h, hf]
    · simp only [List.map_cons, h, if_false, List.find?_cons, decide_false]
      exact ih

theorem op_id (h : (s.chan c).op id = some o) : o.id = id := by simpa using List.find?_some h

theorem op_mem {x : Chan} (h : x.op id = some o) : o ∈ x.ops := List.mem_of_find?_eq_some h

theorem op_congr {x y : Chan} (h : y.ops = x.ops) (id : Nat) : y.op id = x.op id := by
  unfold Chan.op
  rw [h]

theorem chan_onOp_self (f : Op → Op) (hc : c < 16) : (s.onOp c id f).chan c = (s.chan c).onOp id f :=
  State.chan_onChan_self _ _ hc

-- what a column command leaves alone

/-- Two states differ in one channel, but for its operations, and in the counted events alone. -/
def Columns (c : Nat) (s t : State) : Prop :=
  (t.chan c).ops = (s.chan c).ops ∧ (∀ d, d ≠ c → t.chan d = s.chan d) ∧ t = { s with chans := t.chans, perf := t.perf }

theorem Columns.refl (c : Nat) (s : State) : Columns c s s := ⟨rfl, fun _ _ => rfl, rfl⟩

theorem Columns.trans (h : Columns c s t) (h' : Columns c t u) : Columns c s u := by
  obtain ⟨hops, hchan, hframe⟩ := h
  obtain ⟨hops', hchan', hframe'⟩ := h'
  refine ⟨hops'.trans hops, fun d hd => (hchan' d hd).trans (hchan d hd), ?_⟩
  rw [hframe', hframe]

theorem note_columns (e : Ev) (n m c : Nat) (s : State) : Columns c s (s.note e n m) := ⟨rfl, fun _ _ => rfl, rfl⟩

theorem onChan_columns (c : Nat) {f : Chan → Chan} (s : State) (hf : ∀ x, (f x).ops = x.ops) : Columns c s (s.onChan c f) :=
  ⟨State.chan_onChan_keep (·.ops) s c hf c, fun _ hd => State.chan_onChan_other _ _ hd, rfl⟩

theorem onBank_columns (c r b : Nat) (f : Bank → Bank) (s : State) : Columns c s (s.onBank c r b f) :=
  onChan_columns c s fun _ => rfl

theorem takeSlot_columns (c n : Nat) (s : State) : Columns c s (s.takeSlot c n) := onChan_columns c s fun _ => rfl

theorem hitBank_columns (c : Nat) (o : Op) (wr : Bool) (s : State) : Columns c s (hitBank c o wr s) := by
  unfold hitBank
  extract_lets p waits own s₁ from_ s₂ s₃
  have h₁ : Columns c s s₁ := onBank_columns _ _ _ _ _
  have h₂ : Columns c s₁ s₂ := onChan_columns c s₁ fun _ => rfl
  have h₃ : Columns c s₂ s₃ := by
    unfold s₃
    split
    · exact note_columns _ _ _ _ _
    · exact .refl _ _
  exact ((h₁.trans h₂).trans h₃).trans ((takeSlot_columns c 1 s₃).trans (note_columns _ _ _ _ _))

theorem autoPrecharge_columns (c : Nat) (o : Op) (wr : Bool) (s : State) : Columns c s (autoPrecharge c o wr s) := by
  unfold autoPrecharge
  extract_lets p b ras own
  split
  · exact (onBank_columns _ _ _ _ _).trans (note_columns _ _ _ _ _)
  · exact .refl _ _

-- RD

/-- The operation of a line after one more burst has been read. -/
def Op.read_ (o : Op) (d : Line) (now : Nat) : Op :=
  { o with
    bursts := o.bursts + 1, data := d, rq := if o.bursts = 3 then .none else o.rq
    phase := if o.bursts = 3 then .flight else o.phase, mark := if o.bursts = 3 then now else o.mark }

/-- A state on the way of a column command: only the channel of the command and the counted events have moved, and of the
operations there the one with a number alone. -/
def Moved (c id : Nat) (w : Op) (s t : State) : Prop :=
  (t.chan c).op id = some w ∧ (∀ d, d ≠ c → t.chan d = s.chan d) ∧ t = { s with chans := t.chans, perf := t.perf }

theorem Columns.moved (hc : c < 16) {f : Op → Op} (hf : ∀ o, (f o).id = o.id) (ho : (s.chan c).op id = some o)
    (h : Columns c s t) : Moved c id (f o) s (t.onOp c id f) := by
  obtain ⟨hops, hchan, hframe⟩ := h
  refine ⟨?_, fun d hd => (State.chan_onChan_other _ _ hd).trans (hchan d hd), ?_⟩
  · rw [chan_onOp_self _ hc, op_onOp_self _ hf, op_congr hops, ho]
    rfl
  · change { t with chans := _ } = _
    rw [hframe]
    rfl

theorem Moved.columns (h : Moved c id w s t) (h' : Columns c t u) : Moved c id w s u := by
  obtain ⟨hop, hchan, hframe⟩ := h
  obtain ⟨hops', hchan', hframe'⟩ := h'
  refine ⟨(op_congr hops' id).trans hop, fun d hd => (hchan' d hd).trans (hchan d hd), ?_⟩
  rw [hframe', hframe]

theorem issueRd_moved (hc : c < 16) (ho : (s.chan c).op id = some o) :
    Moved c id (o.read_ (withBurst o.data o.bursts (s.burst c o.x o.bursts)) s.now) s (issueRd c id s) := by
  unfold issueRd
  rw [ho]
  dsimp -zeta only
  extract_lets s₁ s₂ d last s₃
  have h₁ : Columns c s s₁ := by
    unfold s₁
    split
    · exact note_columns _ _ _ _ _
    · exact .refl _ _
  have h₂ : Columns c s s₂ := h₁.trans (hitBank_columns c o false s₁)
  have hd : d = withBurst o.data o.bursts (s.burst c o.x o.bursts) := by
    change withBurst o.data o.bursts (s₂.burst c o.x o.bursts) = _
    obtain ⟨-, -, hframe⟩ := h₂
    rw [hframe]
    rfl
  have hnow : s₂.now = s.now := by
    obtain ⟨-, -, hframe⟩ := h₂
    rw [hframe]
  have h₃ : Moved c id (o.read_ d s₂.now) s s₃ := h₂.moved (f := fun o' => { o' with
    bursts := o'.bursts + 1, data := d, rq := if o.bursts = 3 then .none else o'.rq
    phase := if o.bursts = 3 then .flight else o'.phase, mark := if o.bursts = 3 then s₂.now else o'.mark }) hc (fun _ => rfl) ho
  rw [hd, hnow] at h₃
  split
  · exact h₃.columns (autoPrecharge_columns c o false s₃)
  · exact h₃

-- WR

/-- The operation of a line after one more burst has been written. -/
def Op.written_ (o : Op) (now : Nat) : Op :=
  { o with
    bursts := o.bursts + 1, wq := if o.bursts = 3 then .none else o.wq
    phase := if o.bursts = 3 then .recovering else o.phase, mark := if o.bursts = 3 then now else o.mark }

/-- A burst of an operation's data goes to DRAM. -/
def writeBurst (c id : Nat) (w : Op) (s : State) : State :=
  let s := (hitBank c w true s).setBurst c w.x w.bursts (burstOf w.data w.bursts)
  s.onOp c id fun o => { o with
    bursts := o.bursts + 1, wq := if w.bursts = 3 then .none else o.wq
    phase := if w.bursts = 3 then .recovering else o.phase, mark := if w.bursts = 3 then s.now else o.mark }

theorem issueWr_eq (ho : (s.chan c).op id = some o) : issueWr c id s =
    let u := if o.bursts = 0 then sealWrite c o s else s
    let w := ((u.chan c).op id).getD o
    if w.bursts = 3 then written c w (autoPrecharge c w true (writeBurst c id w u)) else writeBurst c id w u := by
  unfold issueWr
  rw [ho]
  rfl

theorem issueWr_of_started (ho : (s.chan c).op id = some o) (hb : 0 < o.bursts) : issueWr c id s =
    if o.bursts = 3 then written c o (autoPrecharge c o true (writeBurst c id o s)) else writeBurst c id o s := by
  rw [issueWr_eq ho, if_neg hb.ne']
  dsimp only
  rw [ho]
  rfl

theorem issueWr_of_new (ho : (s.chan c).op id = some o) (hb : o.bursts = 0)
    (hw : ((sealWrite c o s).chan c).op id = some w) (hwb : w.bursts = 0) :
    issueWr c id s = writeBurst c id w (sealWrite c o s) := by
  rw [issueWr_eq ho, if_pos hb]
  dsimp only
  rw [hw]
  exact if_neg (by simp [hwb])

/-- What a burst that is written leaves: the operation goes on, and its burst stands in DRAM. -/
theorem writeBurst_shows (hc : c < 16) (hw : (s.chan c).op id = some w) :
    ((writeBurst c id w s).chan c).op id = some (w.written_ s.now) ∧
    (∀ d, d ≠ c → (writeBurst c id w s).chan d = s.chan d) ∧
    (writeBurst c id w s).dram = put s.dram (burstKey c w.x w.bursts) (burstOf w.data w.bursts) ∧
    writeBurst c id w s = { s with
      chans := (writeBurst c id w s).chans, perf := (writeBurst c id w s).perf, dram := (writeBurst c id w s).dram } := by
  unfold writeBurst
  have hcol := hitBank_columns c w true s
  generalize hitBank c w true s = t at hcol ⊢
  obtain ⟨hop, hchan, -⟩ := hcol.moved (f := fun o => { o with
    bursts := o.bursts + 1, wq := if w.bursts = 3 then .none else o.wq
    phase := if w.bursts = 3 then .recovering else o.phase, mark := if w.bursts = 3 then t.now else o.mark }) hc (fun _ => rfl) hw
  obtain ⟨-, -, hframe⟩ := hcol
  have hnow : t.now = s.now := by rw [hframe]
  have hdram : t.dram = s.dram := by rw [hframe]
  refine ⟨?_, hchan, ?_, ?_⟩
  · rw [hnow] at hop
    refine Eq.trans ?_ hop
    rw [← hnow]
    rfl
  · change put t.dram _ _ = _
    rw [hdram]
  · change { t with chans := _, dram := _ } = _
    rw [hframe]
    rfl

/-- Two states differ in the channels and the caches of the quads alone. -/
def SameButLines (s t : State) : Prop := t = { s with chans := t.chans, quads := t.quads }

/-- A finished write rests at its channel (R286). -/
def Rests (c id now : Nat) (t : State) : Prop :=
  ∃ w ∈ (t.chan c).ops, w.id = id ∧ w.bursts = 4 ∧ w.phase = .recovering ∧ w.mark = now ∧ w.wq = .none

/-- An update that keeps what a resting write shows, or adds operations. -/
theorem Rests.onChan {now d : Nat} {f : Chan → Chan} (h : Rests c id now s)
    (hf : ∀ x, ∀ w ∈ x.ops, ∃ w' ∈ (f x).ops,
      w'.id = w.id ∧ w'.bursts = w.bursts ∧ w'.phase = w.phase ∧ w'.mark = w.mark ∧ w'.wq = w.wq) :
    Rests c id now (s.onChan d f) := by
  refine State.chan_onChan_inv (fun x => ∃ w ∈ x.ops, w.id = id ∧ w.bursts = 4 ∧ w.phase = .recovering ∧ w.mark = now ∧
    w.wq = .none) s d (fun x ⟨w, hw, hid, hbursts, hphase, hmark, hwq⟩ => ?_) h
  obtain ⟨w', hw', hid', hbursts', hphase', hmark', hwq'⟩ := hf x w hw
  exact ⟨w', hw', hid'.trans hid, hbursts'.trans hbursts, hphase'.trans hphase, hmark'.trans hmark, hwq'.trans hwq⟩

theorem Rests.onOp {now d n : Nat} {f : Op → Op} (h : Rests c id now s)
    (hf : ∀ w, (f w).id = w.id ∧ (f w).bursts = w.bursts ∧ (f w).phase = w.phase ∧ (f w).mark = w.mark ∧ (f w).wq = w.wq) :
    Rests c id now (s.onOp d n f) := by
  refine h.onChan fun x w hw => ⟨if w.id = n then f w else w, List.mem_map_of_mem hw, ?_⟩
  split
  · exact hf w
  · exact ⟨rfl, rfl, rfl, rfl, rfl⟩

theorem Rests.addOp {now d : Nat} {e : Op} (h : Rests c id now s) : Rests c id now (s.addOp d e) :=
  h.onChan fun _ w hw => ⟨w, List.mem_append_left _ hw, rfl, rfl, rfl, rfl, rfl⟩

theorem SameButLines.trans (h : SameButLines s t) (h' : SameButLines t u) : SameButLines s u := by
  unfold SameButLines at *
  rw [h', h]

theorem SameButLines.rest (h : SameButLines s t) : t.dram = s.dram ∧ t.cfg = s.cfg ∧ t.ports = s.ports := by
  unfold SameButLines at h
  rw [h]
  exact ⟨rfl, rfl, rfl⟩

theorem Columns.rest (h : Columns c s t) : t.dram = s.dram ∧ t.cfg = s.cfg ∧ t.ports = s.ports := by
  obtain ⟨-, -, h⟩ := h
  rw [h]
  exact ⟨rfl, rfl, rfl⟩

theorem updateEntry_rests {now d q : Nat} {way : Option Nat} {e : Entry} (h : Rests c id now s) :
    SameButLines s (updateEntry d q way e s) ∧ Rests c id now (updateEntry d q way e s) := by
  unfold updateEntry
  cases way with
  | some w => exact ⟨rfl, h⟩
  | none => exact ⟨rfl, h.addOp⟩

theorem mirror_rests {now d sp : Nat} {l : Line} {e : Entry} {only : Bool} (h : Rests c id now s) :
    SameButLines s (mirror d sp o l e only s) ∧ Rests c id now (mirror d sp o l e only s) := by
  unfold mirror
  refine ⟨rfl, Rests.onOp (h.onChan fun x w hw => ⟨w, hw, rfl, rfl, rfl, rfl, rfl⟩) fun w => ⟨rfl, rfl, rfl, rfl, rfl⟩⟩

/-- The update of the entry that follows the last burst keeps the write at rest. -/
theorem written_rests {now : Nat} (h : Rests c id now s) :
    SameButLines s (written c w s) ∧ Rests c id now (written c w s) := by
  obtain ⟨hframe, hentry⟩ := updateEntry_rests (d := c) (q := w.q) (way := w.way) (e := w.entry) h
  have hop : Rests c id now ((updateEntry c w.q w.way w.entry s).onOp c w.id fun w => { w with tries := 1, way := none }) :=
    hentry.onOp fun _ => ⟨rfl, rfl, rfl, rfl, rfl⟩
  have hopf : SameButLines s ((updateEntry c w.q w.way w.entry s).onOp c w.id fun w => { w with tries := 1, way := none }) :=
    hframe.trans rfl
  have hmirror (sp : Nat) := mirror_rests (d := c) (sp := sp) (o := w) (l := w.data) (e := w.entry) (only := false) hop
  unfold written
  extract_lets fresh s₁
  split
  · split
    · exact ⟨rfl, h⟩
    · split
      · exact ⟨hopf.trans (hmirror _).1, (hmirror _).2⟩
      · exact ⟨hopf, hop⟩
  · split
    · exact ⟨rfl, h⟩
    · split
      · exact ⟨hopf.trans (hmirror _).1, (hmirror _).2⟩
      · exact ⟨hopf, hop⟩
  · split
    · exact ⟨hopf, hop⟩
    · exact ⟨rfl, h⟩
  · exact ⟨rfl, h⟩

/-- What is sealed of an operation before its first burst keeps where it stands. -/
theorem sealWrite_shows (hc : c < 16) (ho : (s.chan c).op id = some o) (hb : o.bursts = 0) :
    ∃ w, ((sealWrite c o s).chan c).op id = some w ∧ w.bursts = 0 ∧ w.x = o.x ∧
      sealWrite c o s = { s with chans := (sealWrite c o s).chans } := by
  have hid : o.id = id := op_id ho
  have hop (f : Op → Op) (hf : ∀ e, (f e).id = e.id) : ((s.onOp c o.id f).chan c).op id = some (f o) := by
    rw [chan_onOp_self _ hc, hid, op_onOp_self _ hf, ho]
    rfl
  unfold sealWrite
  split
  · exact ⟨o, ho, hb, rfl, rfl⟩
  · split
    · exact ⟨_, hop _ fun _ => rfl, hb, rfl, rfl⟩
    · exact ⟨_, hop _ fun _ => rfl, hb, rfl, rfl⟩
    · exact ⟨o, ho, hb, rfl, rfl⟩

theorem execWr_of_chosen {ch : Fin 16} (h : s.chosen ch = some (.wr id)) : exec (.wr ch) s = .next (issueWr ch id s) := by
  rw [exec_wr]
  unfold execWr
  rw [h]

theorem execRd_of_chosen {ch : Fin 16} (h : s.chosen ch = some (.rd id)) : exec (.rd ch) s = .next (issueRd ch id s) := by
  rw [exec_rd]
  unfold execRd
  rw [h]

end

/-- Settles O36: RD and WR move one burst, the bus turns, and a write recovers. -/
theorem columnCommandsMoveOneBurst : Obligations.ColumnCommandsMoveOneBurst := by
  intro s ch id o ho
  have hc := ch.isLt
  refine ⟨fun hk => ?_, fun hk hb => ?_, fun hk hb => ?_, fun hruns hslot hturn hbusy => ?_, fun hworks hphase hpart hdue => ?_⟩
  · obtain ⟨hop, hchan, hframe⟩ := issueRd_moved hc ho
    exact ⟨_, execRd_of_chosen hk, by rw [hframe], hop, hchan, hframe⟩
  · have hexec := execWr_of_chosen hk
    rw [issueWr_of_started ho hb] at hexec
    obtain ⟨hop, -, hdram, hframe⟩ := writeBurst_shows hc ho
    generalize writeBurst ch id o s = u at hexec hop hdram hframe
    by_cases hlast : o.bursts = 3
    · rw [if_pos hlast] at hexec
      have hauto := autoPrecharge_columns ch o true u
      have hid : (o.written_ s.now).id = id := show o.id = id from op_id ho
      have hrest : Rests ch id s.now (autoPrecharge ch o true u) := by
        refine ⟨o.written_ s.now, op_mem ((op_congr hauto.1 id).trans hop), hid, ?_, ?_, ?_, ?_⟩
        all_goals simp [Op.written_, hlast]
      obtain ⟨hlines, hdone⟩ := written_rests (w := o) hrest
      obtain ⟨hd₁, hc₁, hp₁⟩ := hlines.rest
      obtain ⟨hd₂, hc₂, hp₂⟩ := hauto.rest
      refine ⟨_, hexec, ?_, fun a ha => ?_, (hc₁.trans hc₂).trans (by rw [hframe]), (hp₁.trans hp₂).trans (by rw [hframe]),
        fun _ => hdone, fun h => absurd hlast h⟩
      · rw [hd₁, hd₂, hdram]
        exact find_put_self _ _ _
      · rw [hd₁, hd₂, hdram]
        exact find_put_other _ _ ha
    · rw [if_neg hlast] at hexec
      refine ⟨_, hexec, ?_, fun a ha => ?_, by rw [hframe], by rw [hframe], fun h => absurd h hlast, fun _ => ⟨?_, hframe⟩⟩
      · rw [hdram]
        exact find_put_self _ _ _
      · rw [hdram]
        exact find_put_other _ _ ha
      · rw [hop]
        simp [Op.written_, hlast]
  · have hexec := execWr_of_chosen hk
    obtain ⟨w, hw, hwb, hwx, hseal⟩ := sealWrite_shows hc ho hb
    rw [issueWr_of_new ho hb hw hwb] at hexec
    obtain ⟨hop, -, hdram, hframe⟩ := writeBurst_shows hc hw
    rw [hwb, hwx, show (sealWrite ch o s).dram = s.dram by rw [hseal]] at hdram
    have hall : writeBurst ch id w (sealWrite ch o s) = { s with
        chans := (writeBurst ch id w (sealWrite ch o s)).chans, perf := (writeBurst ch id w (sealWrite ch o s)).perf
        dram := (writeBurst ch id w (sealWrite ch o s)).dram } := by
      generalize writeBurst ch id w (sealWrite ch o s) = u at hframe ⊢
      generalize sealWrite ch o s = v at hframe hseal
      rw [hframe, hseal]
    refine ⟨_, w, hexec, hw, ?_, fun a ha => ?_, ?_, hall⟩
    · rw [hdram]
      exact find_put_self _ _ _
    · rw [hdram]
      exact find_put_other _ _ ha
    · rw [hop]
      simp [Op.written_, hwb]
  · refine if_pos ⟨hruns, hslot, hturn, ?_⟩
    simp only [Bool.not_eq_true', List.any_eq_false, Bool.and_eq_true, beq_iff_eq, not_and]
    exact fun e he hs => hbusy e he hs
  · have hexec : exec (.writeRecoveryExpiry ch id) s = .next (recovered ch o s) := by
      rw [exec_writeRecoveryExpiry]
      unfold execWriteRecoveryExpiry
      rw [ho]
      exact if_pos ⟨hworks, hphase, by simp [hpart], hdue⟩
    refine ⟨hexec, fun hkind => ?_⟩
    rw [hexec]
    unfold recovered
    rw [hkind]

end Sys2Proof.Machine
end

section
/-!
Fetched lines are checked, and gills age and leave (O37).
-/

namespace Sys2Proof.Machine

section

variable {s t : State} {c id : Nat} {o : Op}

theorem bump48_frame (s : State) (lo hi : Field) (n : Nat) : SameButStat s (s.bump48 lo hi n) :=
  ((setSt_frame _ _ _).trans (setSt_frame _ _ _)).trans (tell_frame _ _ _)

theorem SameButStat.ite {p : Prop} [Decidable p] {u v : State} (h : SameButStat s u) (h' : SameButStat s v) :
    SameButStat s (if p then u else v) := by
  split
  · exact h
  · exact h'

theorem countFetch_frame (c : Nat) (salvage : Bool) (s : State) : SameButStat s (countFetch c salvage s) := by
  unfold countFetch
  extract_lets s₁ n s₂ s₃
  have h₁ : SameButStat s s₁ := bump48_frame _ _ _ _
  have h₃ : SameButStat s s₃ := (h₁.trans (setSt_frame _ _ _)).trans (setSt_frame _ _ _)
  exact .ite h₁ (.ite (h₁.trans (setSt_frame _ _ _))
    (((h₃.trans (setSt_frame _ _ _)).trans (setSt_frame _ _ _)).trans (setSt_frame _ _ _)))

/-- The plain data of a fetched line, and whether its check matches. -/
def State.plainOf (s : State) (o : Op) (d : Line) : Line := s.decrypt (Entry.epoch o.entry) o.line d

theorem checkLine_of_match (d : Line) (hdebt : s.clk.debtOver = false)
    (hgood : lineCrc (s.plainOf o d) o.line = Entry.crc o.entry) : checkLine c o d s =
      goodLine c o d (s.plainOf o d) (Entry.unverified o.entry) false true (o.tries > 0)
        (countFetch c false (if o.tries > 0 then transient c o.line s else s)) := by
  unfold checkLine
  rw [if_neg (by simp [hdebt])]
  exact if_pos (by simpa [State.plainOf] using hgood)

theorem checkLine_of_mismatch (d : Line) (hdebt : s.clk.debtOver = false)
    (hbad : ¬ lineCrc (s.plainOf o d) o.line = Entry.crc o.entry) : checkLine c o d s =
      if o.tries = 0 then refetch c o.id (s.onOp c o.id fun o => { o with tries := 1 })
      else if o.tries = 1 then s.onOp c o.id fun o => { o with phase := .pause, tries := 2, bursts := 0, mark := s.rsck }
      else badLine c o s := by
  unfold checkLine
  rw [if_neg (by simp [hdebt])]
  exact if_neg (by simpa [State.plainOf] using hbad)

/-- A read of a port is answered with its data and leaves its chain. -/
theorem finishRead_shows (hc : c < 16) (hk : o.kind = .read) (hp : o.port < 30) {out : Outcome} (hout : out.resp < 2)
    (d : Line) :
    ((finishRead c o out d s).chan c).ops = (s.chan c).ops.filter (·.id ≠ o.id) ∧
    ((finishRead c o out d s).port o.port).reqs = (s.port o.port).reqs.map (fun r => if r.seq = o.seq then
      r.onLine o.idx fun l => { l with out := some out, data := d } else r) ∧ (finishRead c o out d s).dram = s.dram := by
  unfold finishRead finishOp answerOp
  rw [if_pos hp, hk]
  refine ⟨?_, ?_, rfl⟩
  · refine (congrArg Chan.ops (State.chan_onChan_self _ _ hc)).trans ?_
    rfl
  · refine (congrArg Port.reqs (State.port_onPort_self s _ (by omega))).trans ?_
    unfold Port.onReq
    simp only [Nat.not_le.mpr hout, if_false]

theorem rqFree_onOp (x : Chan) {f : Op → Op} (hf : ∀ o, (f o).rq = o.rq) : (x.onOp id f).rqFree = x.rqFree := by
  have hrq : (x.onOp id f).rq .shared = x.rq .shared := by
    unfold Chan.rq Chan.onOp
    induction x.ops with
    | nil => rfl
    | cons o ops ih =>
      have hhead : (if o.id = id then f o else o).rq = o.rq := by
        split
        · exact hf o
        · rfl
      simp only [List.map_cons, List.filter_cons, hhead]
      split
      · simp only [List.length_cons, ih]
      · exact ih
  unfold Chan.rqFree
  rw [hrq]
  rfl

/-- An operation that is fetched again, with an entry where one is free. -/
def Op.again (o : Op) (free : Bool) : Op :=
  { o with phase := if free then .reading else .wantQueue, rq := if free then .shared else .none, bursts := 0 }

theorem refetch_op (hc : c < 16) (ho : (s.chan c).op id = some o) :
    ((refetch c id s).chan c).op id = some (o.again (s.chan c).rqFree) := by
  have h := op_onOp_self (id := id) (s.chan c) (f := fun o => o.again (s.chan c).rqFree) fun _ => rfl
  rw [ho] at h
  exact (congrArg (·.op id) (chan_onOp_self _ hc)).trans h

/-- A line that fails its first check is fetched again at once. -/
theorem refetch_first_op (hc : c < 16) (ho : (s.chan c).op id = some o) :
    ((refetch c id (s.onOp c id fun o => { o with tries := 1 })).chan c).op id =
      some (({ o with tries := 1 } : Op).again (s.chan c).rqFree) := by
  have hchan : (s.onOp c id fun o => { o with tries := 1 }).chan c = (s.chan c).onOp id fun o => { o with tries := 1 } :=
    chan_onOp_self _ hc
  have hop := op_onOp_self (id := id) (s.chan c) (f := fun o => { o with tries := 1 }) fun _ => rfl
  rw [ho, ← hchan] at hop
  have hfree := rqFree_onOp (id := id) (s.chan c) (f := fun o => { o with tries := 1 }) fun _ => rfl
  rw [← hchan] at hfree
  rw [refetch_op hc hop, hfree]

end

/-- The kinds of operations whose fetched lines are checked (R358). -/
def OpKind.checks (k : OpKind) : Prop := k = .read ∨ k = .rmw ∨ k = .scrub ∨ k = .migration ∨ k = .rekey

theorem execReadDataReturn_of_checks {s : State} {ch : Fin 16} {id : Nat} {o : Op} (err : Line)
    (ho : (s.chan ch).op id = some o) (hw : s.opWorks ch o = true) (hf : s.fetched ch o = true) (hk : o.kind.checks) :
    exec (.readDataReturn ch id err) s = .next (checkLine ch o (o.data ^^^ err) s) := by
  rw [exec_readDataReturn]
  unfold execReadDataReturn
  rw [ho]
  refine (if_pos ⟨hw, hf⟩).trans ?_
  rcases hk with h | h | h | h | h <;> rw [h]

theorem execReadDataReturn_of_own {s : State} {ch : Fin 16} {id : Nat} {o : Op} (err : Line)
    (ho : (s.chan ch).op id = some o) (hw : s.opWorks ch o = true) (hf : s.fetched ch o = true) :
    (o.kind = .scratch → exec (.readDataReturn ch id err) s = .next (finishOp ch o s)) ∧
    ∀ i, o.kind = .recompute i → exec (.readDataReturn ch id err) s = .next (recomputeRead ch i o (o.data ^^^ err) s) := by
  rw [exec_readDataReturn]
  unfold execReadDataReturn
  rw [ho]
  refine ⟨fun hk => (if_pos ⟨hw, hf⟩).trans ?_, fun i hk => (if_pos ⟨hw, hf⟩).trans ?_⟩ <;> rw [hk]

section

variable {s : State} {c id : Nat} {o : Op}

-- gills

/-- A whole gill's lead write, in the write queue. -/
def Op.queued (o : Op) (v : Gill) (now : Nat) : Op :=
  { o with phase := .writing, gill := none, wq := .shared, tier := v.tier, plain := v.data, mark := now }

theorem toWriteQueue_shows {g : Nat} {v : Gill} (hc : c < 16) (hg : g < 16) (ho : (s.chan c).leadOf g = some o) :
    ((toWriteQueue c g v o s).chan c).gill g = none ∧
    (∀ k, k ≠ g → ((toWriteQueue c g v o s).chan c).gill k = (s.chan c).gill k) ∧
    (∃ e ∈ ((toWriteQueue c g v o s).chan c).ops, e = o.queued v s.now) ∧
    (∀ d, d ≠ c → (toWriteQueue c g v o s).chan d = s.chan d) ∧
    toWriteQueue c g v o s = { s with
      chans := (toWriteQueue c g v o s).chans, stat := (toWriteQueue c g v o s).stat, news := (toWriteQueue c g v o s).news } := by
  unfold toWriteQueue State.freeGillAt
  extract_lets s₁ move
  have h₁ : SameButStat s s₁ := .ite (.refl s) (bump_frame _ _ _)
  have hnow : s₁.now = s.now := by
    unfold SameButStat at h₁
    rw [h₁]
  have hself : ((s₁.onChan c fun x => { x with ops := x.ops.map move }).onChan c fun x => { x with
      gills := upd x.gills g fun _ => none }).chan c =
      { s.chan c with ops := (s.chan c).ops.map move, gills := upd (s.chan c).gills g fun _ => none } := by
    rw [State.chan_onChan_self _ _ hc, State.chan_onChan_self _ _ hc, h₁.chan]
  refine ⟨?_, fun k hk => ?_, ⟨move o, ?_, ?_⟩, fun d hd => ?_, ?_⟩
  · rw [hself]
    exact upd_getD_self _ _ _ hg
  · rw [hself]
    exact upd_getD_other _ _ _ hk
  · rw [hself]
    exact List.mem_map_of_mem (List.mem_of_find?_eq_some ho)
  · unfold Op.queued
    rw [← hnow]
    exact if_pos rfl
  · rw [State.chan_onChan_other _ _ hd, State.chan_onChan_other _ _ hd, h₁.chan]
  · unfold SameButStat at h₁
    change { s₁ with chans := _ } = _
    rw [h₁]
    rfl

end

/-- Settles O37: a fetched line by its check, the second refetch, and the ends of a gill. -/
theorem fetchedLinesAreChecked : Obligations.FetchedLinesAreChecked := by
  refine ⟨fun s ch id o err ho hw hf => ?_, fun s ch id o ho hw hphase hdue => ?_, fun s ch g v hw hg => ⟨fun hwhole hev hage => ?_,
    fun o hwhole hres hlead hfree => ?_⟩⟩
  · intro d plain good
    have hc := ch.isLt
    refine ⟨fun hk hdebt hgood htries hp => ?_, fun hk hdebt hbad => ?_, fun hk => ?_, fun i hk =>
      (execReadDataReturn_of_own err ho hw hf).2 i hk⟩
    · have hexec := execReadDataReturn_of_checks err ho hw hf (.inl hk)
      have hres : (checkedAnswer (Entry.unverified o.entry)).resp < 2 := by
        unfold checkedAnswer
        split <;> decide
      rw [checkLine_of_match _ hdebt hgood, if_neg (by omega)] at hexec
      unfold goodLine at hexec
      rw [hk] at hexec
      have hcount := countFetch_frame ch false s
      generalize countFetch ch false s = u at hexec hcount
      obtain ⟨hops, hreqs, hdram⟩ := finishRead_shows (s := u) hc hk hp hres (merge plain o.plain o.mask)
      rw [hcount.chan] at hops
      rw [hcount.recorded.port] at hreqs
      refine ⟨_, hexec, hops, hreqs, hdram.trans ?_⟩
      unfold SameButStat at hcount
      rw [hcount]
    · have hexec := execReadDataReturn_of_checks err ho hw hf hk
      rw [checkLine_of_mismatch _ hdebt hbad] at hexec
      refine ⟨fun h => ?_, fun h => ?_, fun h => ?_⟩
      · rw [if_pos h, op_id ho] at hexec
        exact ⟨_, hexec, refetch_first_op hc ho, rfl, rfl⟩
      · rw [hexec, if_neg (by omega), if_pos h]
      · rw [hexec, if_neg (by omega), if_neg (by omega)]
    · rw [(execReadDataReturn_of_own err ho hw hf).1 hk]
      unfold finishOp
      rw [hk]
  · rw [exec_secondRefetchDue]
    unfold execSecondRefetchDue
    rw [ho]
    exact if_pos ⟨hw, hphase, hdue⟩
  · rw [exec_gillAgeExpiry]
    unfold execGillAgeExpiry
    rw [hg]
    refine (if_pos ⟨hw, by simp [hwhole], by simp [hev], hage⟩).trans (congrArg Host.Outcome.next (onChan_congr ?_))
    refine onGill_congr _ hg ?_
    unfold Gill.evictFor
    simp [hev]
  · have hexec : exec (.gillToWriteQueue ch g) s = .next (toWriteQueue ch g v o s) := by
      rw [exec_gillToWriteQueue]
      unfold execGillToWriteQueue
      dsimp only
      rw [hg, hlead]
      exact if_pos ⟨hw, hwhole, hres, hfree⟩
    obtain ⟨hgill, hother, ⟨e, he, hq⟩, hchan, hframe⟩ := toWriteQueue_shows (v := v) ch.isLt g.isLt hlead
    exact ⟨_, hexec, hgill, hother, ⟨e, he, by rw [hq]; exact ⟨rfl, rfl, rfl, rfl, rfl⟩⟩, hchan, hframe⟩

end Sys2Proof.Machine
end

section
/-!
Refreshes, the debt and the temperature classes (O38).
-/

namespace Sys2Proof.Machine

section

variable {s t u : State} {c r b n : Nat}

-- updates of one rank

theorem Chan.onRank_onRank (x : Chan) (f g : Rank → Rank) : (x.onRank r f).onRank r g = x.onRank r fun k => g (f k) := by
  unfold Chan.onRank upd
  by_cases h : r < 2 <;> simp [h]

theorem onRank_onRank (f g : Rank → Rank) : (s.onRank c r f).onRank c r g = s.onRank c r fun k => g (f k) := by
  unfold State.onRank
  rw [onChan_onChan]
  simp only [Chan.onRank_onRank]

theorem onRank_id (s : State) (c r : Nat) : s.onRank c r (fun k => k) = s := by
  unfold State.onRank
  refine onChan_eq_self ?_
  unfold Chan.onRank upd
  by_cases h : r < 2 <;> simp [h]

theorem onRank_congr {f g : Rank → Rank} (h : f (s.rank c r) = g (s.rank c r)) : s.onRank c r f = s.onRank c r g := by
  unfold State.rank Chan.rank at h
  unfold State.onRank
  refine onChan_congr ?_
  unfold Chan.onRank upd
  by_cases hr : r < 2
  · have hget : (s.chan c).ranks.getD r .reset = (s.chan c).ranks[r] := by simp [Vector.getD, hr]
    rw [hget] at h
    rw [dif_pos hr, dif_pos hr, h]
  · rw [dif_neg hr, dif_neg hr]

/-- Updates of banks of one rank, one after the other, are one update of the rank. -/
theorem foldl_onBank {f : State → Bank → Bank} (hf : ∀ g, f (s.onRank c r g) = f s) (l : List Nat) :
    l.foldl (fun u b => u.onBank c r b (f u)) s = s.onRank c r fun k => l.foldl (fun k b => k.onBank b (f s)) k := by
  induction l generalizing s with
  | nil => exact (onRank_id s c r).symm
  | cons b l ih =>
    have hstep (g : Rank → Rank) : f ((s.onBank c r b (f s)).onRank c r g) = f (s.onBank c r b (f s)) := by
      unfold State.onBank
      rw [onRank_onRank, hf, hf]
    have hfs : f (s.onBank c r b (f s)) = f s := hf _
    rw [List.foldl_cons, ih hstep, hfs]
    unfold State.onBank
    rw [onRank_onRank]
    rfl

-- banks of a rank under such an update

theorem foldl_onBank_rank (f : Bank → Bank) (l : List Nat) (k : Rank) :
    l.foldl (fun k b => k.onBank b f) k = { k with banks := (l.foldl (fun k b => k.onBank b f) k).banks } := by
  induction l generalizing k with
  | nil => rfl
  | cons b l ih =>
    rw [List.foldl_cons, ih]
    rfl

theorem foldl_onBank_notMem (f : Bank → Bank) {l : List Nat} (k : Rank) (h : b ∉ l) :
    (l.foldl (fun k b => k.onBank b f) k).bank b = k.bank b := by
  induction l generalizing k with
  | nil => rfl
  | cons a l ih =>
    obtain ⟨ha, hl⟩ := not_or.mp (mt List.mem_cons.mpr h)
    rw [List.foldl_cons, ih _ hl, Rank.bank_onBank_other _ _ ha]

theorem foldl_onBank_mem (f : Bank → Bank) {l : List Nat} (k : Rank) (hl : l.Nodup) (h : b ∈ l) (hb : b < 16) :
    (l.foldl (fun k b => k.onBank b f) k).bank b = f (k.bank b) := by
  induction l generalizing k with
  | nil => cases h
  | cons a l ih =>
    obtain ⟨ha, hl⟩ := List.nodup_cons.mp hl
    rw [List.foldl_cons]
    rcases List.mem_cons.mp h with rfl | h
    · rw [foldl_onBank_notMem f _ ha, Rank.bank_onBank_self _ _ hb]
    · rw [ih _ hl h, Rank.bank_onBank_other _ _ (ne_of_mem_of_not_mem h ha)]

-- RAA counters

/-- A bank whose RAA counter falls by a number of thresholds. -/
def Bank.lowered (x : Bank) (m : Nat) : Bank := { x with raa := x.raa - m }

theorem lowerRaa_eq (c r n : Nat) (bs : List Nat) (s : State) : lowerRaa c r n bs s =
    if s.on (CH_RFMCFG_EN c) then s.onRank c r fun k =>
      bs.foldl (fun k b => k.onBank b (·.lowered (n * s.cf (CH_RFMCFG_RAAIMT c)))) k else s := by
  unfold lowerRaa
  split
  · exact foldl_onBank (f := fun u x => x.lowered (n * u.cf (CH_RFMCFG_RAAIMT c))) (fun _ => rfl) bs
  · rfl

/-- What the lowering of RAA counters makes of a rank. -/
def State.lowers (s : State) (c n : Nat) (bs : List Nat) (k : Rank) : Rank :=
  if s.on (CH_RFMCFG_EN c) then bs.foldl (fun k b => k.onBank b (·.lowered (n * s.cf (CH_RFMCFG_RAAIMT c)))) k else k

theorem lowerRaa_onRank (c r n : Nat) (bs : List Nat) (s : State) :
    lowerRaa c r n bs s = s.onRank c r (s.lowers c n bs) := by
  rw [lowerRaa_eq]
  unfold State.lowers
  split
  · rfl
  · exact (onRank_id s c r).symm

theorem lowers_rank (bs : List Nat) (k : Rank) : s.lowers c n bs k = { k with banks := (s.lowers c n bs k).banks } := by
  unfold State.lowers
  split
  · exact foldl_onBank_rank _ _ _
  · rfl

/-- The RAA counter of a bank that a refresh lowers. -/
def State.raaAfter (s : State) (c n : Nat) (x : Bank) : Nat :=
  if s.on (CH_RFMCFG_EN c) then x.raa - n * s.cf (CH_RFMCFG_RAAIMT c) else x.raa

theorem lowers_bank {bs : List Nat} (k : Rank) (hb : b < 16) (hl : bs.Nodup) :
    (s.lowers c n bs k).bank b = if b ∈ bs then { k.bank b with raa := s.raaAfter c n (k.bank b) } else k.bank b := by
  unfold State.lowers State.raaAfter
  by_cases hm : b ∈ bs
  · rw [if_pos hm]
    split
    · exact foldl_onBank_mem _ _ hl hm hb
    · rfl
  · rw [if_neg hm]
    split
    · exact foldl_onBank_notMem _ _ hm
    · rfl

theorem lowers_bank_notMem {bs : List Nat} (k : Rank) (hm : b ∉ bs) : (s.lowers c n bs k).bank b = k.bank b := by
  unfold State.lowers
  split
  · exact foldl_onBank_notMem _ _ hm
  · rfl

-- the counts of a refresh

/-- Of the state only the calibrator, the events and what the host reads move. -/
def Tallied (s t : State) : Prop := t = { s with cals := t.cals, perf := t.perf, stat := t.stat, news := t.news }

theorem Tallied.refl (s : State) : Tallied s s := rfl

theorem Tallied.trans (h : Tallied s t) (h' : Tallied t u) : Tallied s u := by
  unfold Tallied at *
  rw [h', h]

theorem Tallied.ite {p : Prop} [Decidable p] (h : Tallied s t) (h' : Tallied s u) : Tallied s (if p then t else u) := by
  split
  · exact h
  · exact h'

theorem SameButStat.tallied (h : SameButStat s t) : Tallied s t := by
  unfold SameButStat at h
  unfold Tallied
  rw [h]

theorem Tallied.chan (h : Tallied s t) (c : Nat) : t.chan c = s.chan c := by
  unfold Tallied at h
  rw [h]
  rfl

theorem Tallied.now (h : Tallied s t) : t.now = s.now ∧ t.ck = s.ck := by
  unfold Tallied at h
  rw [h]
  exact ⟨rfl, rfl⟩

/-- The counts of a refresh (R340, R511) and the end of an oscillator's count (R419). -/
def tallyRefresh (c r : Nat) (limit placed : Bool) (s : State) : State :=
  let s := if placed then s.bump (CH_REFCNT_PLACED c) else if limit then s.bump (CH_REFCNT_LIMIT c) else s
  let s := if placed then s else s.note .refLimit c
  if s.oscOn c r then
    bookStep c 4 r ((s.onCal c fun x => { x with oscRun := upd x.oscRun r fun _ => none, step := none }).bump
      (QD_CALEVT_OSCDISC (quadOf c)))
  else s

theorem tallyRefresh_tallied (c r : Nat) (limit placed : Bool) (s : State) : Tallied s (tallyRefresh c r limit placed s) := by
  unfold tallyRefresh
  extract_lets s₁ s₂
  have h₁ : Tallied s s₁ :=
    .ite (bump_frame s _ _).tallied (.ite (bump_frame s _ _).tallied (.refl s))
  have h₂ : Tallied s s₂ := .ite h₁ (h₁.trans rfl)
  refine .ite (h₂.trans ?_) h₂
  exact .trans (t := (s₂.onCal c fun x => { x with oscRun := upd x.oscRun r fun _ => none, step := none })) rfl
    ((bump_frame _ _ _).tallied.trans rfl)

/-- What the count of a refresh makes of its rank: the MR4 read that is due follows it (R321). -/
def Rank.followed (placed : Bool) (k : Rank) : Rank := { k with mr4Go := k.mr4Due, mr4Top := !placed }

theorem followed_bank (k : Rank) (placed : Bool) (b : Nat) : (k.followed placed).bank b = k.bank b := rfl

theorem countRefresh_eq (c r : Nat) (limit placed : Bool) (s : State) : countRefresh c r limit placed s =
    (((tallyRefresh c r limit placed s).onRank c r (·.followed placed)).takeSlot c 1).note .ref c := rfl

/-- A refresh moves its channel, the calibrator, the events and what the host reads, and it takes its slot. -/
def RefreshWork (c : Nat) (s t : State) : Prop :=
  t = { s with chans := t.chans, cals := t.cals, perf := t.perf, stat := t.stat, news := t.news } ∧
  (t.chan c).cmdAt = s.now + s.ck

theorem RefreshWork.onRank (h : RefreshWork c s t) (f : Rank → Rank) : RefreshWork c s (t.onRank c r f) := by
  obtain ⟨heq, hat⟩ := h
  refine ⟨by rw [heq]; rfl, ?_⟩
  exact (State.chan_onChan_keep (·.cmdAt) t c (f := fun x => x.onRank r f) (fun _ => rfl) c).trans hat

theorem countRefresh_work (hc : c < 16) (limit placed : Bool) : RefreshWork c s (countRefresh c r limit placed s) := by
  rw [countRefresh_eq]
  have h := tallyRefresh_tallied c r limit placed s
  obtain ⟨hnow, hck⟩ := h.now
  refine ⟨?_, ?_⟩
  · unfold Tallied at h
    rw [h]
    rfl
  · have hat := takeSlot_cmdAt (s := (tallyRefresh c r limit placed s).onRank c r (·.followed placed)) 1 hc
    rw [Nat.one_mul] at hat
    exact hat.trans (by rw [← hnow, ← hck]; rfl)

theorem countRefresh_rank (hc : c < 16) (hr : r < 2) (limit placed : Bool) :
    (countRefresh c r limit placed s).rank c r = (s.rank c r).followed placed := by
  rw [countRefresh_eq]
  change ((State.takeSlot _ _ _).rank c r) = _
  rw [takeSlot_rank, State.rank_onRank_self _ _ hc hr]
  unfold State.rank
  rw [(tallyRefresh_tallied c r limit placed s).chan]

theorem countRefresh_rank_other {q : Nat} (hq : q ≠ r) (limit placed : Bool) :
    (countRefresh c r limit placed s).rank c q = s.rank c q := by
  rw [countRefresh_eq]
  change ((State.takeSlot _ _ _).rank c q) = _
  rw [takeSlot_rank, State.rank_onRank_other _ _ (.inr hq)]
  unfold State.rank
  rw [(tallyRefresh_tallied c r limit placed s).chan]

-- the refreshes

theorem lowers_congr (h : t.cfg = s.cfg) : t.lowers c n = s.lowers c n := by
  unfold State.lowers State.on
  simp only [State.cf_congr h]

theorem lowers_onRank (f : Rank → Rank) (c n d : Nat) : (s.onRank d r f).lowers c n = s.lowers c n := lowers_congr rfl

theorem RefreshWork.cfg (h : RefreshWork c s t) : t.cfg = s.cfg ∧ t.now = s.now := by
  obtain ⟨heq, -⟩ := h
  rw [heq]
  exact ⟨rfl, rfl⟩

theorem RefreshWork.rest (h : RefreshWork c s t) : (t.chan c).cmdAt = s.now + s.ck ∧ t.dram = s.dram ∧ t.ports = s.ports := by
  obtain ⟨heq, hat⟩ := h
  exact ⟨hat, by rw [heq], by rw [heq]⟩

/-- A bank that a refresh makes busy. -/
def Bank.refresh (x : Bank) (now : Nat) : Bank := { x with st := .refreshing, ref := some now }

/-- A REFpb pays one eighth of an all-bank refresh in its round (R315, R316). -/
def Rank.pay1 (k : Rank) (a : Nat) : Rank :=
  { k with debt := k.debt - 1, round := if k.round ||| 2 ^ a = 255 then 0 else k.round ||| 2 ^ a }

/-- A REFab pays a whole refresh (R315). -/
def Rank.pay8 (k : Rank) (now : Nat) : Rank :=
  { k.mapBanks (·.refresh now) with debt := k.debt - 8, round := 0, refab := some now }

/-- What a REFpb makes of its rank. -/
def State.refpbRank (s : State) (c a : Nat) (k : Rank) : Rank :=
  s.lowers c 1 (s.refBanks c a) (((s.refBanks c a).foldl (fun k b => k.onBank b (·.refresh s.now)) k).pay1 a)

theorem issueRefpb_eq {a : Nat} (hc : c < 16) (placed : Bool) : issueRefpb c r a placed s =
    (countRefresh c r ((s.rank c r).debt ≥ 64) placed s).onRank c r (s.refpbRank c a) := by
  obtain ⟨hcfg, hnow⟩ := (countRefresh_work (s := s) (r := r) hc ((s.rank c r).debt ≥ 64) placed).cfg
  unfold issueRefpb
  generalize countRefresh c r ((s.rank c r).debt ≥ 64) placed s = u at hcfg hnow ⊢
  change lowerRaa c r 1 _ (((s.refBanks c a).foldl (fun u b => u.onBank c r b (·.refresh u.now)) u).onRank c r (·.pay1 a)) = _
  rw [foldl_onBank (f := fun u x => x.refresh u.now) (fun _ => rfl), onRank_onRank, lowerRaa_onRank, onRank_onRank,
    lowers_onRank, lowers_congr hcfg, hnow]
  rfl

/-- What a REFab makes of its rank. -/
def State.refabRank (s : State) (c : Nat) (k : Rank) : Rank := s.lowers c 1 (List.range 16) (k.pay8 s.now)

theorem issueRefab_eq (hc : c < 16) (placed : Bool) : issueRefab c r placed s =
    (countRefresh c r ((s.rank c r).debt ≥ 64) placed s).onRank c r (s.refabRank c) := by
  obtain ⟨hcfg, hnow⟩ := (countRefresh_work (s := s) (r := r) hc ((s.rank c r).debt ≥ 64) placed).cfg
  unfold issueRefab
  generalize countRefresh c r ((s.rank c r).debt ≥ 64) placed s = u at hcfg hnow ⊢
  change lowerRaa c r 1 _ (u.onRank c r (·.pay8 u.now)) = _
  rw [lowerRaa_onRank, onRank_onRank, lowers_onRank, lowers_congr hcfg, hnow]
  rfl

theorem refBanks_nodup (s : State) (c a : Nat) : (s.refBanks c a).Nodup := by
  unfold State.refBanks
  split <;> simp

theorem refBanks_lt {a : Nat} (ha : a < 8) (hb : b ∈ s.refBanks c a) : b < 16 := by
  unfold State.refBanks at hb
  split at hb <;> simp at hb <;> omega

theorem refpbRank_bank {a : Nat} (k : Rank) (ha : a < 8) (hb : b ∈ s.refBanks c a) :
    (s.refpbRank c a k).bank b = { (k.bank b).refresh s.now with raa := s.raaAfter c 1 (k.bank b) } := by
  have hpaid : (((s.refBanks c a).foldl (fun k b => k.onBank b (·.refresh s.now)) k).pay1 a).bank b =
      (k.bank b).refresh s.now :=
    foldl_onBank_mem (·.refresh s.now) k (refBanks_nodup s c a) hb (refBanks_lt ha hb)
  unfold State.refpbRank
  rw [lowers_bank _ (refBanks_lt ha hb) (refBanks_nodup s c a), if_pos hb, hpaid]
  rfl

theorem refpbRank_bank_other {a : Nat} (k : Rank) (hb : b ∉ s.refBanks c a) : (s.refpbRank c a k).bank b = k.bank b :=
  (lowers_bank_notMem _ hb).trans (foldl_onBank_notMem (·.refresh s.now) k hb)

theorem refpbRank_debt (a : Nat) (k : Rank) : (s.refpbRank c a k).debt = k.debt - 1 ∧
    (s.refpbRank c a k).round = if k.round ||| 2 ^ a = 255 then 0 else k.round ||| 2 ^ a := by
  unfold State.refpbRank
  rw [lowers_rank, foldl_onBank_rank]
  exact ⟨rfl, rfl⟩

theorem refabRank_bank (k : Rank) (hb : b < 16) :
    (s.refabRank c k).bank b = { (k.bank b).refresh s.now with raa := s.raaAfter c 1 (k.bank b) } := by
  have hmap : (k.pay8 s.now).bank b = (k.bank b).refresh s.now := bank_mapBanks k _ hb
  unfold State.refabRank
  rw [lowers_bank _ hb List.nodup_range, if_pos (List.mem_range.mpr hb), hmap]
  rfl

theorem refabRank_debt (k : Rank) : (s.refabRank c k).debt = k.debt - 8 ∧ (s.refabRank c k).round = 0 := by
  unfold State.refabRank
  rw [lowers_rank]
  exact ⟨rfl, rfl⟩

/-- A bank that a refresh management command makes busy. -/
def Bank.manage (x : Bank) (now : Nat) : Bank := { x with st := .refreshing, rfm := some now }

theorem rank_onRank_countRefresh (hc : c < 16) (hr : r < 2) (limit placed : Bool) (f : Rank → Rank) :
    ((countRefresh c r limit placed s).onRank c r f).rank c r = f ((s.rank c r).followed placed) := by
  rw [State.rank_onRank_self _ _ hc hr, countRefresh_rank hc hr]

theorem rank_onRank_countRefresh_other {q : Nat} (hq : q ≠ r) (limit placed : Bool) (f : Rank → Rank) :
    ((countRefresh c r limit placed s).onRank c r f).rank c q = s.rank c q := by
  rw [State.rank_onRank_other _ _ (.inr hq), countRefresh_rank_other hq]

theorem rfmDec_congr (h : t.cfg = s.cfg) : t.rfmDec c = s.rfmDec c := by
  unfold State.rfmDec
  rw [State.cf_congr h]

theorem issueRfm_eq (c r b : Nat) (s : State) : issueRfm c r b s =
    ((s.bump (CH_RFMSTAT_RFMS c)).onRank c r fun k =>
      s.lowers c (s.rfmDec c) [b] (k.onBank b (·.manage s.now))).takeSlot c 1 := by
  have hdec (f : Bank → Bank) : ((s.bump (CH_RFMSTAT_RFMS c)).onBank c r b f).rfmDec c = s.rfmDec c :=
    rfmDec_congr (State.bump_cfg ..)
  change (lowerRaa c r _ [b] ((s.bump (CH_RFMSTAT_RFMS c)).onRank c r fun k => k.onBank b (·.manage s.now))).takeSlot c 1 = _
  rw [lowerRaa_onRank, onRank_onRank, lowers_onRank, lowers_congr (s := s) (State.bump_cfg ..)]
  rw [hdec]

/-- A refresh management command makes one bank busy, with its RAA counter lowered (R323). -/
theorem issueRfm_shows (hc : c < 16) (hr : r < 2) (hb : b < 16) :
    ((issueRfm c r b s).rank c r).bank b =
      { ((s.rank c r).bank b).manage s.now with raa := s.raaAfter c (s.rfmDec c) ((s.rank c r).bank b) } ∧
    OneBank c r b s (issueRfm c r b s) ∧ ((issueRfm c r b s).chan c).cmdAt = s.now + s.ck ∧
    issueRfm c r b s = { s with
      chans := (issueRfm c r b s).chans, stat := (issueRfm c r b s).stat, news := (issueRfm c r b s).news } := by
  have hbump := bump_frame s (CH_RFMSTAT_RFMS c) 1
  have hmem : b ∈ [b] := List.mem_singleton.mpr rfl
  obtain ⟨hnow, hck⟩ := hbump.tallied.now
  rw [issueRfm_eq]
  refine ⟨?_, ?_, ?_, ?_⟩
  · rw [takeSlot_rank, State.rank_onRank_self _ _ hc hr, hbump.rank, lowers_bank _ hb (List.nodup_singleton b), if_pos hmem,
      Rank.bank_onBank_self _ _ hb]
    rfl
  · refine OneBank.trans ?_ (takeSlot_oneBank c 1 r b _)
    have hone : OneBank c r b s (s.bump (CH_RFMSTAT_RFMS c)) :=
      ⟨fun _ _ _ => by rw [hbump.rank], fun _ _ => by rw [hbump.chan]⟩
    refine hone.trans (onRank_oneBank hc hr fun k b' hne => ?_)
    rw [lowers_bank_notMem _ (mt List.mem_singleton.mp hne), Rank.bank_onBank_other _ _ hne]
  · have hat := takeSlot_cmdAt (s := (s.bump (CH_RFMSTAT_RFMS c)).onRank c r fun k =>
      s.lowers c (s.rfmDec c) [b] (k.onBank b (·.manage s.now))) 1 hc
    rw [Nat.one_mul] at hat
    exact hat.trans (by rw [← hnow, ← hck]; rfl)
  · unfold SameButStat at hbump
    rw [hbump]
    rfl

-- the debt and the classes

theorem riseDebt_of_lt (h : (s.rank c r).debt < 64) : riseDebt c r s =
    s.onRank c r fun k => { k with debtMark := k.debtMark + s.riseTime c r, debt := k.debt + 1 } := by
  refine (if_neg (by simpa using h)).trans (onRank_congr ?_)
  have hmin : min 64 ((s.rank c r).debt + 1) = (s.rank c r).debt + 1 := by omega
  rw [hmin]

/-- A rise at 64 is lost, counted and reported (R317). -/
def loseRise (c r : Nat) (s : State) : State :=
  raise .reflost c r ((s.onRank c r fun k =>
    { k with debtMark := k.debtMark + s.riseTime c r, debt := min 64 (k.debt + 1) }).bump (CH_REFCNT_OVER c))

theorem riseDebt_of_ge (h : 64 ≤ (s.rank c r).debt) : riseDebt c r s = loseRise c r s := if_pos (by simpa using h)

theorem loseRise_debt (hc : c < 16) (hr : r < 2) (h : 64 ≤ (s.rank c r).debt) : ((loseRise c r s).rank c r).debt = 64 := by
  unfold loseRise
  rw [State.rank, raise_chan, ← State.rank, (bump_frame _ _ _).rank, State.rank_onRank_self _ _ hc hr]
  change min 64 ((s.rank c r).debt + 1) = 64
  omega

theorem loseRise_flt (c r : Nat) (s : State) : ∃ e, (loseRise c r s).flt = { s.flt with logs := s.flt.logs ++ [e] } ∧
    e.valid = true ∧ e.src = Src.reflost.bit ∧ e.ncls = Src.reflost.cls ∧ e.stamp = s.tb.last := by
  unfold loseRise raise
  rw [State.bump_flt, State.bump_tb]
  exact ⟨_, rfl, rfl, rfl, rfl, rfl⟩

theorem mult4Of_congr (h : t.cfg = s.cfg) (c cls : Nat) : t.mult4Of c cls = s.mult4Of c cls := by
  unfold State.mult4Of
  rw [State.cf_congr h]

theorem applyClass_rank (cls : Nat) (hc : c < 16) (hr : r < 2) :
    (applyClass c r cls s).rank c r = { s.rank c r with cls := cls, clsCand := none, clsHeld := none } := by
  unfold applyClass
  extract_lets former v
  have hv : v.rank c r = { s.rank c r with cls := cls, clsCand := none, clsHeld := none } :=
    State.rank_onRank_self _ _ hc hr
  have hraise (src : Src) : (raise src c r v).rank c r = v.rank c r := rfl
  split
  · exact hv
  · split
    · exact (hraise _).trans hv
    · split
      · exact (hraise _).trans hv
      · exact hv

/-- A reading takes effect where its class has no larger multiplier, or repeats the one that waits (R322). -/
theorem readClass_of_taken {cls : Nat} (h : s.mult4Of c cls ≤ s.mult4Of c ((s.rank c r).clsHeld.getD (s.rank c r).cls) ∨
    (s.rank c r).clsCand = some cls) : readClass c r cls s =
    if 2 ≤ s.op.step ∧ s.op.step ≤ 6 then s.onRank c r fun k => { k with clsHeld := some cls, clsCand := none }
    else applyClass c r cls s := by
  refine if_neg fun hno => ?_
  obtain ⟨hlt, hne⟩ := hno
  rcases h with h | h
  · exact absurd h (Nat.not_le.mpr hlt)
  · exact hne h

theorem readClass_of_first {cls : Nat} (h : s.mult4Of c ((s.rank c r).clsHeld.getD (s.rank c r).cls) < s.mult4Of c cls)
    (hne : (s.rank c r).clsCand ≠ some cls) : readClass c r cls s = s.onRank c r fun k => { k with clsCand := some cls } :=
  if_pos ⟨h, hne⟩

theorem readClass_mr4Wait (cls : Nat) (hc : c < 16) (hr : r < 2) :
    ((readClass c r cls s).rank c r).mr4Wait = (s.rank c r).mr4Wait := by
  unfold readClass
  extract_lets k
  split
  · rw [State.rank_onRank_self _ _ hc hr]
  · split
    · rw [State.rank_onRank_self _ _ hc hr]
    · rw [applyClass_rank _ hc hr]

/-- The read of MR4 has returned. -/
def State.mr4Back (s : State) (c r : Nat) : State :=
  (s.bump (CH_TEMP_READS c)).onRank c r fun k => { k with mr4Wait := false }

theorem mr4Back_rank (hc : c < 16) (hr : r < 2) : (s.mr4Back c r).rank c r = { s.rank c r with mr4Wait := false } := by
  unfold State.mr4Back
  rw [State.rank_onRank_self _ _ hc hr, (bump_frame _ _ _).rank]

theorem mr4Back_mult4Of (cls d : Nat) : (s.mr4Back c r).mult4Of d cls = s.mult4Of d cls :=
  mult4Of_congr (State.bump_cfg ..) d cls

theorem mr4Back_op : (s.mr4Back c r).op = s.op := State.bump_op ..

/-- What the reading of a class leaves of its rank. -/
theorem execMr4Result_shows {ch : Fin 16} {r : Fin 2} {cls : Fin 8} (hclk : s.clocked) (hw : (s.rank ch r).mr4Wait)
    (hdue : s.due (s.rank ch r).mrr (s.tm ch CH_TLAT_RL)) :
    ∃ t, exec (.mr4Result ch r cls) s = .next t ∧ (t.rank ch r).mr4Wait = false ∧
      let known := s.mult4Of ch ((s.rank ch r).clsHeld.getD (s.rank ch r).cls)
      (s.mult4Of ch cls ≤ known ∨ (s.rank ch r).clsCand = some cls.val →
        (s.op.step < 2 ∨ 6 < s.op.step → (t.rank ch r).cls = cls ∧ (t.rank ch r).clsHeld = none) ∧
        (2 ≤ s.op.step → s.op.step ≤ 6 → (t.rank ch r).cls = (s.rank ch r).cls ∧ (t.rank ch r).clsHeld = some cls.val)) ∧
      (known < s.mult4Of ch cls → (s.rank ch r).clsCand ≠ some cls.val →
        (t.rank ch r).cls = (s.rank ch r).cls ∧ (t.rank ch r).clsCand = some cls.val) := by
  have hrank : (s.mr4Back ch r).rank ch r = { s.rank ch r with mr4Wait := false } := mr4Back_rank ch.isLt r.isLt
  have hexec : exec (.mr4Result ch r cls) s = .next (readClass ch r cls (s.mr4Back ch r)) := if_pos ⟨hclk, hw, hdue⟩
  refine ⟨_, hexec, by rw [readClass_mr4Wait _ ch.isLt r.isLt, hrank], fun h => ?_, fun h hne => ?_⟩
  · rw [readClass_of_taken (by rw [hrank, mr4Back_mult4Of, mr4Back_mult4Of]; exact h), mr4Back_op]
    refine ⟨fun hstep => ?_, fun hlo hhi => ?_⟩
    · rw [if_neg (by omega), applyClass_rank _ ch.isLt r.isLt]
      exact ⟨rfl, rfl⟩
    · rw [if_pos ⟨hlo, hhi⟩, State.rank_onRank_self _ _ ch.isLt r.isLt, hrank]
      exact ⟨rfl, rfl⟩
  · rw [readClass_of_first (by rw [hrank, mr4Back_mult4Of, mr4Back_mult4Of]; exact h) (by rw [hrank]; exact hne),
      State.rank_onRank_self _ _ ch.isLt r.isLt, hrank]
    exact ⟨rfl, rfl⟩

end

/-- Settles O38: a refresh is its count and one update of its rank; the reading of a class by the cases of R322. -/
theorem refreshesPayTheDebt : Obligations.RefreshesPayTheDebt := by
  intro s ch bank lower
  refine ⟨fun r a placed hk hr ha => ?_, fun r placed hk hr => ?_, fun r b placed hk hr hb => ?_,
    fun r => ⟨fun hc hcounts hmark => ⟨fun hlt => ?_, fun hge => ?_⟩, fun hc hkeeps hno hat => ?_, fun hk => ?_,
      fun cls hc hw hdue => execMr4Result_shows hc hw hdue⟩⟩
  · have hexec : exec (.refpb ch) s = .next (issueRefpb ch r a placed s) := by
      rw [exec_refpb]
      unfold execRefpb
      rw [hk]
    have hwork := (countRefresh_work (s := s) (r := r) ch.isLt ((s.rank ch r).debt ≥ 64) placed).onRank
      (r := r) (s.refpbRank ch a)
    refine ⟨_, hexec, ?_⟩
    simp only [bank]
    rw [issueRefpb_eq ch.isLt, rank_onRank_countRefresh ch.isLt hr]
    obtain ⟨hdebt, hround⟩ := refpbRank_debt (s := s) (c := ch) a
      ((s.rank ch r).followed placed)
    exact ⟨hdebt, hround, fun b hb => by rw [refpbRank_bank _ ha hb, followed_bank]; rfl,
      fun b hb => by rw [refpbRank_bank_other _ hb, followed_bank],
      fun q hq => rank_onRank_countRefresh_other hq _ _ _, hwork.rest⟩
  · have hexec : exec (.refab ch) s = .next (issueRefab ch r placed s) := by
      rw [exec_refab]
      unfold execRefab
      rw [hk]
    have hwork := (countRefresh_work (s := s) (r := r) ch.isLt ((s.rank ch r).debt ≥ 64) placed).onRank
      (r := r) (s.refabRank ch)
    refine ⟨_, hexec, ?_⟩
    simp only [bank]
    rw [issueRefab_eq ch.isLt, rank_onRank_countRefresh ch.isLt hr]
    obtain ⟨hdebt, hround⟩ := refabRank_debt (s := s) (c := ch) ((s.rank ch r).followed placed)
    exact ⟨hdebt, hround, fun b hb => by rw [refabRank_bank _ hb, followed_bank]; rfl,
      fun q hq => rank_onRank_countRefresh_other hq _ _ _, hwork.rest⟩
  · have hexec : exec (.rfmpb ch) s = .next (issueRfm ch r b s) := by
      rw [exec_rfmpb]
      unfold execRfmpb
      rw [hk]
    obtain ⟨hbank, ⟨hother, -⟩, hat, hframe⟩ := issueRfm_shows (s := s) ch.isLt hr hb
    exact ⟨_, hexec, hbank, hother, hat, hframe⟩
  · exact congrArg Host.Outcome.next ((if_pos ⟨hc, hcounts, hmark⟩).trans (riseDebt_of_lt hlt))
  · have hexec : exec (.debtRise ch r) s = .next (loseRise ch r s) :=
      congrArg Host.Outcome.next ((if_pos ⟨hc, hcounts, hmark⟩).trans (riseDebt_of_ge hge))
    exact ⟨_, hexec, loseRise_debt ch.isLt r.isLt hge, loseRise_flt ch r s⟩
  · exact congrArg Host.Outcome.next (if_pos ⟨hc, hkeeps, by simp [hno], hat⟩)
  · exact if_pos hk

end Sys2Proof.Machine
end

section
/-!
The power states of a rank (O39).
-/

namespace Sys2Proof.Machine

section

variable {s t : State} {c r : Nat}

theorem takeSlot_one_cmdAt (s : State) (hc : c < 16) : ((s.takeSlot c 1).chan c).cmdAt = s.now + s.ck := by
  rw [takeSlot_cmdAt 1 hc, Nat.one_mul]

/-- A rank enters a power state: a ZQ latch to come is cancelled, and the command takes its slot. -/
def enterLow (c r : Nat) (f : Rank → Rank) (s : State) : State := (cancelLatch c r (s.onRank c r f)).takeSlot c 1

theorem enterLow_rank (f : Rank → Rank) (hc : c < 16) (hr : r < 2) :
    (enterLow c r f s).rank c r = { f (s.rank c r) with zqStart := none, zqReady := false } := by
  have hcancel (u : State) : (cancelLatch c r u).rank c r = { u.rank c r with zqStart := none, zqReady := false } :=
    State.rank_onRank_self u (fun k => { k with zqStart := none, zqReady := false }) hc hr
  unfold enterLow
  rw [takeSlot_rank, hcancel, State.rank_onRank_self _ _ hc hr]

theorem enterLow_cmdAt (f : Rank → Rank) (hc : c < 16) : ((enterLow c r f s).chan c).cmdAt = s.now + s.ck :=
  takeSlot_one_cmdAt _ hc

theorem enterLow_rest (f : Rank → Rank) : (enterLow c r f s).dram = s.dram ∧ (enterLow c r f s).ports = s.ports ∧
    (enterLow c r f s).cfg = s.cfg := by
  unfold enterLow cancelLatch State.takeSlot
  simp

/-- A rank goes to sleep: after a payment it owes nothing (R314, R326). -/
def Rank.asleep (st : PowerSt) (now : Nat) (k : Rank) : Rank :=
  { k with power := st, lowAt := some now, wckOn := false, debt := if k.want.pays then 0 else k.debt, mr4Wait := false }

theorem sleepRank_eq (st : PowerSt) : sleepRank c r st s = enterLow c r (·.asleep st s.now) s := rfl

theorem sleepRank_shows (st : PowerSt) (hc : c < 16) (hr : r < 2) : ((sleepRank c r st s).rank c r).power = st ∧
    ((sleepRank c r st s).rank c r).debt = (if (s.rank c r).want.pays then 0 else (s.rank c r).debt) ∧
    ((sleepRank c r st s).rank c r).lowAt = some s.now ∧ ((sleepRank c r st s).rank c r).wckOn = false := by
  rw [sleepRank_eq, enterLow_rank _ hc hr]
  exact ⟨rfl, rfl, rfl, rfl⟩

/-- What a self-refresh exit makes of its rank (R325). -/
def State.exits (s : State) (c r : Nat) (k : Rank) : Rank :=
  let deep := k.want ≠ .serve
  { k with
    power := .active, keeps := true
    upAt := some (s.now + max (s.tm c CH_TXSR_XSR) (if s.op.step = 5 then s.tm c CH_TXSR_FC else 0) * s.ck)
    wckOn := false, mr4Due := true, mr4Go := false, debtMark := 32 * s.now, idleAt := s.now
    check := k.check || (s.longStay c r && !deep), preDue := k.preDue || deep, forced := k.forced || (deep && k.want.pays) }

theorem exitRank_eq : exitRank c r s = (s.onRank c r (s.exits c r)).takeSlot c 1 := rfl

theorem exitRank_rank (hc : c < 16) (hr : r < 2) : (exitRank c r s).rank c r = s.exits c r (s.rank c r) := by
  rw [exitRank_eq, takeSlot_rank, State.rank_onRank_self _ _ hc hr]

theorem exitRank_cmdAt (hc : c < 16) : ((exitRank c r s).chan c).cmdAt = s.now + s.ck := takeSlot_one_cmdAt _ hc

theorem exitRank_frame : SameButChans s (exitRank c r s) := rfl

-- a ZQ start falls due

theorem bookStep_booked (kind : Nat) (hc : c < 16) : (kind, r) ∈ ((bookStep c kind r s).cal c).booked := by
  have hself : (bookStep c kind r s).cal c = { s.cal c with
      booked := if (s.cal c).booked.contains (kind, r) then (s.cal c).booked else (s.cal c).booked ++ [(kind, r)] } :=
    State.cal_onCal_self _ _ hc
  rw [hself]
  dsimp only
  split
  · next h => exact List.contains_iff_mem.mp h
  · exact List.mem_append_right _ (List.mem_singleton.mpr rfl)

theorem zqDue_rank (d q : Nat) : (zqDue c r s).rank d q = s.rank d q := by
  unfold zqDue bookStep
  split <;> rfl

theorem zqDue_frame : zqDue c r s = { s with cals := (zqDue c r s).cals } := by
  unfold zqDue bookStep
  split <;> rfl

/-- A rank ends its deep sleep and goes on as in self-refresh, with a check (R325, R428). -/
def Rank.woken (k : Rank) : Rank := { k with power := .selfRefresh, exitAt := none, check := true }

end

/-- Settles O39: every move of a power state is one update of its rank and the slot of its command. -/
theorem ranksEnterAndLeavePowerStates : Obligations.RanksEnterAndLeavePowerStates := by
  intro s ch r k moves
  refine ⟨fun hruns hn hact hwant hpre hchk hfsp hidle hat hdebt href hquiet hrest hcmd => ?_,
    fun hruns hpd hleaves hdue => if_pos ⟨hruns, hpd, hleaves, hdue⟩, fun pay hwant hsleep hstep => ?_,
    fun pay hwant hsleep => ?_, fun hready => ?_, fun hruns hdeep hwant hexit => ?_, fun m hc hexit hat => ?_,
    fun hruns hn hlive hawake hwant hchk hstep hfsp hidle hat => ?_, fun h => ?_⟩
  · have hexec : exec (.pde ch r) s = .next (enterLow ch r (fun k => { k with
        power := .powerDown, lowAt := some s.now, wckOn := false }) s) :=
      if_pos ⟨hruns, hn, hact, hwant, by simpa using hpre, by simpa using hchk, by simpa using hfsp, hidle, hat, hdebt,
        by simpa using href, hquiet, hrest, hcmd⟩
    exact ⟨_, hexec, by rw [enterLow_rank _ ch.isLt r.isLt], enterLow_cmdAt _ ch.isLt, enterLow_rest _⟩
  · have hexec : exec (.sre ch r) s = .next (settleOp (sleepRank ch r .selfRefresh s)) := by
      rw [exec_sre]
      unfold execSre
      simp only [k] at hwant
      refine if_pos ?_
      rw [hwant, hsleep]
      simpa [or_assoc] using hstep
    obtain ⟨hpower, hdebt, hlow, hwck⟩ := sleepRank_shows (s := s) .selfRefresh ch.isLt r.isLt
    rw [show (s.rank ch r).want = .selfRefresh pay from hwant] at hdebt
    exact ⟨_, hexec, rfl, hpower, hdebt, hlow, hwck⟩
  · have hexec : exec (.deepSleepEntry ch r) s = .next (sleepRank ch r .deepSleep s) := by
      rw [exec_deepSleepEntry]
      unfold execDeepSleepEntry
      simp only [k] at hwant
      rw [hwant]
      exact congrArg Host.Outcome.next (if_pos hsleep)
    obtain ⟨hpower, -⟩ := sleepRank_shows (s := s) .deepSleep ch.isLt r.isLt
    exact ⟨⟨_, hexec, hpower, enterLow_cmdAt _ ch.isLt, enterLow_rest _⟩, hexec⟩
  · have hexec : exec (.srx ch r) s = .next (exitRank ch r s) := congrArg Host.Outcome.next (if_pos hready)
    refine ⟨_, hexec, ?_⟩
    rw [exitRank_rank ch.isLt r.isLt]
    exact ⟨rfl, rfl, rfl, rfl, rfl, exitRank_cmdAt ch.isLt, exitRank_frame⟩
  · exact if_pos ⟨hruns, hdeep, hwant, Option.isNone_iff_eq_none.mpr hexit⟩
  · have hexec : exec (.dsmxExpiry ch r) s = .next (zqDue ch r (s.onRank ch r Rank.woken)) := by
      rw [exec_dsmxExpiry]
      unfold execDsmxExpiry
      simp only [k] at hexit
      rw [hexit]
      exact if_pos ⟨hc, hat⟩
    have hrank : (zqDue ch r (s.onRank ch r Rank.woken)).rank ch r = (s.rank ch r).woken := by
      rw [zqDue_rank, State.rank_onRank_self _ _ ch.isLt r.isLt]
    have hframe : zqDue ch r (s.onRank ch r Rank.woken) = { s with
        chans := (zqDue ch r (s.onRank ch r Rank.woken)).chans, cals := (zqDue ch r (s.onRank ch r Rank.woken)).cals } := by
      rw [zqDue_frame]
      rfl
    exact ⟨_, hexec, by rw [hrank]; rfl, by rw [hrank]; rfl, by rw [hrank]; rfl, bookStep_booked 3 ch.isLt, hframe⟩
  · have hexec : exec (.selfRefreshIdleExpiry ch r) s = .next (s.onRank ch r fun k =>
        { k.ask (.selfRefresh true) with nap := true }) :=
      if_pos ⟨hruns, hn, hlive, hawake, hwant, by simpa using hchk, hstep, by simpa using hfsp, hidle, hat⟩
    refine ⟨_, hexec, ?_⟩
    rw [State.rank_onRank_self _ _ ch.isLt r.isLt]
    refine ⟨rfl, hawake, ?_, rfl⟩
    change (k.awake && true && k.keeps) = k.keeps
    rw [hawake]
    rfl
  · refine if_pos (h.imp_right fun ⟨hruns, hoff, hcalled, hquiet, hnone⟩ => ?_)
    exact ⟨hruns, by simpa using hoff, by simpa using hcalled, hquiet, Option.isNone_iff_eq_none.mpr hnone⟩

end Sys2Proof.Machine
end

section
/-!
The supply handshake, the request of the operating-point pin and the MRW of a change (O40).
-/

namespace Sys2Proof.Machine

section

variable {s t u : State} {q c r : Nat}

-- what holds of the operating point and the configuration

/-- The operating point and the configuration are as they were. -/
def SamePoint (s t : State) : Prop := t.op = s.op ∧ t.cfg = s.cfg

theorem SamePoint.refl (s : State) : SamePoint s s := ⟨rfl, rfl⟩

theorem SamePoint.trans (h : SamePoint s t) (h' : SamePoint t u) : SamePoint s u := by
  obtain ⟨hop, hcfg⟩ := h
  obtain ⟨hop', hcfg'⟩ := h'
  exact ⟨hop'.trans hop, hcfg'.trans hcfg⟩

theorem SamePoint.ite {p : Prop} [Decidable p] (h : SamePoint s t) (h' : SamePoint s u) :
    SamePoint s (if p then t else u) := by
  split
  · exact h
  · exact h'

theorem SamePoint.foldl {α : Type} {f : State → α → State} (h : ∀ s x, SamePoint s (f s x)) (l : List α) (s : State) :
    SamePoint s (l.foldl f s) := foldl_inv (SamePoint s) l (fun t x _ ht => ht.trans (h t x)) (.refl s)

theorem SameButChans.samePoint (h : SameButChans s t) : SamePoint s t := by
  unfold SameButChans at h
  rw [h]
  exact ⟨rfl, rfl⟩

theorem setSt_samePoint (s : State) (f : Field) (v : Nat) : SamePoint s (s.setSt f v) := ⟨State.setSt_op .., State.setSt_cfg ..⟩

theorem bump_samePoint (s : State) (f : Field) : SamePoint s (s.bump f) := ⟨State.bump_op .., State.bump_cfg ..⟩

theorem onPll_samePoint (s : State) (p : PllId) (f : Pll → Pll) : SamePoint s (s.onPll p f) := by
  cases p <;> exact ⟨rfl, rfl⟩

theorem startPll_samePoint (p : PllId) (why : PllWhy) (k : Nat) (s : State) : SamePoint s (startPll p why k s) :=
  onPll_samePoint _ _ _

theorem quadSwitch_samePoint (q : Nat) (d : ClkSrc) (why : SwWhy) (s : State) : SamePoint s (quadSwitch q d why s) := ⟨rfl, rfl⟩

theorem onRanks_samePoint (s : State) (c : Nat) (f : Rank → Rank) : SamePoint s (s.onRanks c f) := ⟨rfl, rfl⟩

theorem clearFsp_samePoint (s : State) : SamePoint s (clearFsp s) := .foldl (fun _ _ => onRanks_samePoint _ _ _) _ _

theorem prelock_samePoint (k : Nat) (f : Pll → Bool) (s : State) : SamePoint s (prelock k f s) :=
  .foldl (fun u _ => .ite (.foldl (fun _ _ => startPll_samePoint _ _ _ _) _ _) (.refl u)) _ _

theorem unprelock_samePoint (s : State) : SamePoint s (unprelock s) :=
  .foldl (fun _ _ => .foldl (fun v _ => .ite (startPll_samePoint _ _ _ _) (.refl v)) _ _) _ _

theorem restSpares_samePoint (s : State) : SamePoint s (restSpares s) :=
  .foldl (fun u _ => .ite (onRanks_samePoint _ _ _) (.refl u)) _ _

theorem resumeChans_samePoint (s : State) : SamePoint s (resumeChans s) :=
  .ite (.trans (.foldl (fun u _ => .ite (.refl u) (onRanks_samePoint _ _ _)) _ _) (restSpares_samePoint _)) (.refl s)

theorem switchBack_samePoint (s : State) : SamePoint s (switchBack s) := by
  refine .ite (.foldl (fun _ _ => .foldl (fun v _ => .ite ?_ (.refl v)) _ _) _ _) (.refl s)
  exact (onPll_samePoint _ _ _).trans ((startPll_samePoint _ _ _ _).trans (quadSwitch_samePoint _ _ _ _))

-- a change ends

/-- No change of the operating point is pending or in progress. -/
def OpSeq.ended (o : OpSeq) : OpSeq := { o with pend := false, step := 0, granted := false, book := none }

theorem endPending_op (s : State) : (endPending s).op = s.op.ended := State.setSt_op ..

theorem endPending_cfg (s : State) : (endPending s).cfg = s.cfg := State.setSt_cfg ..

theorem abandonChange_op (h : s.op.step ≠ 0) : (abandonChange s).op = s.op.ended := by
  have htaken : (s.op.pend || decide (s.op.step ≠ 0)) = true := by simp [h]
  have hmove := (resumeChans_samePoint s).trans (switchBack_samePoint _)
  unfold abandonChange
  rw [if_pos htaken, (unprelock_samePoint _).1, State.bump_op, endPending_op, hmove.1]

-- a target is requested

/-- The target of a pending change. -/
def OpSeq.pending_ (o : OpSeq) (k : Nat) : OpSeq := { o with pend := true, target := k, want := none, book := none }

theorem beginPending_samePoint (k : Nat) (s : State) : SamePoint { s with op := s.op.pending_ k } (beginPending k s) :=
  (setSt_samePoint _ _ _).trans ((clearFsp_samePoint _).trans (prelock_samePoint _ _ _))

theorem retarget_cfg (k : Nat) (s : State) : (retarget k s).cfg = s.cfg := by
  unfold retarget
  rw [(prelock_samePoint _ _ _).2, (clearFsp_samePoint _).2, State.setSt_cfg]
  rfl

theorem requestOp_cfg (k : Nat) (s : State) : (requestOp k s).cfg = s.cfg := by
  unfold requestOp
  split
  · rfl
  · split
    · split
      · rw [(unprelock_samePoint _).2, endPending_cfg]
      · split
        · rfl
        · exact retarget_cfg k s
    · split
      · rfl
      · split
        · exact (beginPending_samePoint k s).2
        · rfl

/-- A first target, at a point other than the one in force (R332, R336). -/
theorem requestOp_of_rest {k : Nat} (hstep : s.op.step = 0) (hgrant : s.op.granted = false) (hpend : s.op.pend = false)
    (hk : k ≠ s.op.cur) : requestOp k s =
      if s.changeAllowed then beginPending k s else { s with op := { s.op with want := some k } } := by
  unfold requestOp
  rw [if_neg (by simp [hstep, hgrant]), if_neg (by simp [hpend]), if_neg hk]

-- the pin

/-- The state with the values of TB_OPPIN written. -/
def State.pinSet (s : State) (en : Bool) (k : Nat) : State := (s.setCf TB_OPPIN_EN (b2n en)).setCf TB_OPPIN_OP k

theorem pinSet_frame (en : Bool) (k : Nat) : SameButCfg s (s.pinSet en k) := (setCf_frame _ _ _).trans (setCf_frame _ _ _)

theorem pinSet_op (en : Bool) (k : Nat) : (s.pinSet en k).op = s.op := (State.setCf_op ..).trans (State.setCf_op ..)

theorem pinSet_changeAllowed (en : Bool) (k : Nat) : (s.pinSet en k).changeAllowed = s.changeAllowed := by
  have h := pinSet_frame (s := s) en k
  unfold SameButCfg at h
  rw [h]
  rfl

theorem pinSet_en (en : Bool) (k : Nat) (hw : s.cfg.wf) (hf : TB_OPPIN_EN.addr ∉ s.frozen) :
    (s.pinSet en k).cf TB_OPPIN_EN = b2n en := by
  unfold State.pinSet
  rw [State.cf_setCf_other _ _ _ (State.setCf_cfg_wf _ _ hw) (by decide), State.cf_setCf_self _ _ hw (by decide) hf]
  cases en <;> rfl

theorem pinSet_op_field (en : Bool) (k : Fin 4) (hw : s.cfg.wf) (hf : TB_OPPIN_EN.addr ∉ s.frozen) :
    (s.pinSet en k).cf TB_OPPIN_OP = k := by
  unfold State.pinSet
  rw [State.cf_setCf_self _ _ (State.setCf_cfg_wf _ _ hw) (by decide) (by rw [State.setCf_frozen]; exact hf)]
  exact Nat.mod_eq_of_lt k.isLt

theorem pinSet_other (en : Bool) (k : Nat) (f : Field) (hw : s.cfg.wf) (hf : f.addr ≠ TB_OPPIN_EN.addr) :
    (s.pinSet en k).cf f = s.cf f := by
  unfold State.pinSet
  rw [State.cf_setCf_other TB_OPPIN_OP f k (State.setCf_cfg_wf _ _ hw) (.inl hf),
    State.cf_setCf_other TB_OPPIN_EN f _ hw (.inl hf)]

theorem pinSet_pinned {k : Fin 4} (hw : s.cfg.wf) (hf : TB_OPPIN_EN.addr ∉ s.frozen) (hv : s.on (TB_OP_VALID k)) :
    (s.pinSet true k).pinned? = some k.val := by
  have hvalid : (s.pinSet true k).on (TB_OP_VALID k) = true := by
    unfold State.on
    rw [pinSet_other _ _ _ hw (by simp only [TB_OP_VALID, TB_OPPIN_EN]; omega)]
    exact hv
  have hen : (s.pinSet true k).on TB_OPPIN_EN = true := by
    unfold State.on
    rw [pinSet_en _ _ hw hf]
    rfl
  unfold State.pinned?
  rw [pinSet_op_field _ _ hw hf, hen]
  exact if_pos hvalid

theorem writePin_eq (en : Bool) (k : Nat) : writePin en k s =
    if !en then
      if s.on TB_OPPIN_EN then { s.pinSet en k with op := { (s.pinSet en k).op with choices := [], want := none } }
      else s.pinSet en k
    else ((s.pinSet en k).pinned?.map fun k' => requestOp k' (s.pinSet en k)).getD (s.pinSet en k) := by
  unfold writePin
  extract_lets former u
  have hu : u = s.pinSet en k := rfl
  rw [hu]
  cases (s.pinSet en k).pinned? <;> rfl

theorem writePin_cfg (en : Bool) (k : Nat) : (writePin en k s).cfg = (s.pinSet en k).cfg := by
  rw [writePin_eq]
  split
  · split <;> rfl
  · cases (s.pinSet en k).pinned? with
    | none => rfl
    | some k' => exact requestOp_cfg _ _

theorem writePin_of_pinned {k : Nat} (h : (s.pinSet true k).pinned? = some k) :
    writePin true k s = requestOp k (s.pinSet true k) := by
  rw [writePin_eq, h]
  rfl

/-- The pin takes its values, and its valid point is requested (R331). -/
theorem execOpPin_shows {en : Bool} {k : Fin 4} (hclk : s.clocked) (hcan : s.canonical) (hgood : s.good)
    (hf : TB_OPPIN_EN.addr ∉ s.frozen) :
    ∃ t, exec (.opPin en k) s = .next t ∧ t.cf TB_OPPIN_EN = b2n en ∧ t.cf TB_OPPIN_OP = k ∧
      (en = true → s.on (TB_OP_VALID k) → s.op.step = 0 → s.op.granted = false → s.op.pend = false → k.val ≠ s.op.cur →
        (s.changeAllowed = true → t.op.pend = true ∧ t.op.target = k) ∧
        (s.changeAllowed = false → t.op.want = some k.val ∧ t.op.pend = false)) := by
  have hw := canonical_cfg hcan
  have hexec : exec (.opPin en k) s = .next (writePin en k s) := congrArg Host.Outcome.next (if_pos ⟨hclk, hgood⟩)
  refine ⟨_, hexec, ?_, ?_, fun hen hv hstep hgrant hpend hk => ?_⟩
  · rw [State.cf_congr (writePin_cfg en k), pinSet_en _ _ hw hf]
  · rw [State.cf_congr (writePin_cfg en k), pinSet_op_field _ _ hw hf]
  · subst hen
    rw [writePin_of_pinned (pinSet_pinned hw hf hv), requestOp_of_rest (by rw [pinSet_op]; exact hstep)
      (by rw [pinSet_op]; exact hgrant) (by rw [pinSet_op]; exact hpend) (by rw [pinSet_op]; exact hk), pinSet_changeAllowed]
    refine ⟨fun hmay => ?_, fun hmay => ?_⟩
    · rw [if_pos hmay, (beginPending_samePoint _ _).1]
      exact ⟨rfl, rfl⟩
    · rw [if_neg (by simp [hmay])]
      exact ⟨rfl, by rw [pinSet_op]; exact hpend⟩

/-- In the steps of a change the engine chooses no FSP write: those belong to its preparation (R332). -/
theorem mrw_not_chosen (hstep : s.op.step = 3) : s.chosen c ≠ some (.mrw r) := by
  intro h
  obtain ⟨-, hk⟩ := chosen_some h
  obtain ⟨-, -, -, howed⟩ := choose_gives _ hk
  simp [State.fspOwed, hstep] at howed

end

/-- Settles O40: the steps of the handshake are its cases; an abandoned change keeps the point through all it undoes. -/
theorem operatingPointsChangeByTheirSteps : Obligations.OperatingPointsChangeByTheirSteps := by
  intro s hclk v supply
  refine ⟨fun hstep hmark => if_pos ⟨hclk, hstep, hmark⟩, fun hstep => if_pos ⟨hclk, hstep⟩, fun hstep => ?_,
    fun hstep hlate => ⟨fun hone => ?_, fun hseven => ?_⟩, fun en k hcan hgood hf => execOpPin_shows hclk hcan hgood hf,
    fun ch r => ⟨fun hk => if_pos hk, fun hruns hquiet hdue hstep hmem hpre hclosed hforced => ?_⟩⟩
  · refine (if_pos ⟨hclk, hstep⟩).trans ?_
    by_cases h1 : s.op.step = 1
    · exact (if_pos h1).trans (by rw [if_pos h1])
    · by_cases h7 : s.op.step = 7
      · exact (if_neg h1).trans ((if_pos h7).trans (by rw [if_neg h1, if_pos h7]))
      · exact (if_neg h1).trans ((if_neg h7).trans (by rw [if_neg h1, if_neg h7]))
  · have hexec : exec .vackTimeout s = .next (abandonChange (raise .vack 0 (v.vreq &&& 3).toNat s)) :=
      (if_pos ⟨hclk, hstep, hlate⟩).trans (if_pos hone)
    have hop : (raise .vack 0 (v.vreq &&& 3).toNat s).op = s.op := rfl
    refine ⟨_, hexec, ?_⟩
    rw [abandonChange_op (by rw [hop, hone]; decide), hop]
    exact ⟨rfl, rfl, rfl⟩
  · have hexec : exec .vackTimeout s = .next (raise .vack 0 ((v.vreq &&& 3).toNat + 4)
        (opStep 0 (supply { v with late := true }))) :=
      (if_pos ⟨hclk, hstep, hlate⟩).trans ((if_neg (by rw [hseven]; decide)).trans (if_pos hseven))
    exact ⟨_, hexec, rfl, rfl, rfl, rfl⟩
  · have hready : (s.powerRuns ch && s.rankQuiet ch r && s.due (s.rank ch r).mrw (s.tm ch CH_TMR_MRW)) = true := by
      simp [hruns, hquiet, hdue]
    have hmay : (s.op.step == 3 && s.opChans.contains ch.val && !(s.rank ch r).preDue && (s.rank ch r).allClosed &&
        !(s.rank ch r).forced) = true := by simp [hstep, hmem, hpre, hclosed, hforced]
    have hno : s.chosen ch ≠ some (.mrw r) := mrw_not_chosen hstep
    refine ⟨fun hdone => ?_, fun hdone hsel hrest => ?_⟩
    · exact (if_neg hno).trans ((if_neg (by simp [hready])).trans ((if_pos hmay).trans (if_pos (by simp [hdone]))))
    · exact (if_neg hno).trans ((if_neg (by simp [hready])).trans ((if_pos hmay).trans
        ((if_neg (by simp [hdone])).trans (if_pos (by simp [hsel, hrest])))))

end Sys2Proof.Machine
end

section
/-!
Deep sleep (O41).
-/

namespace Sys2Proof.Machine

section

variable {s : State} {c : Nat}

/-- One update at each channel of a list is that update at every channel of the list. -/
theorem chan_foldl_onChan (f : Chan → Chan) {l : List Nat} (hl : l.Nodup) (hc : c < 16) (s : State) :
    (l.foldl (fun s c => s.onChan c f) s).chan c = if c ∈ l then f (s.chan c) else s.chan c := by
  induction l generalizing s with
  | nil => rfl
  | cons a l ih =>
    obtain ⟨ha, hl⟩ := List.nodup_cons.mp hl
    rw [List.foldl_cons, ih hl]
    by_cases hca : c = a
    · subst hca
      rw [if_neg ha, if_pos (List.mem_cons_self ..), State.chan_onChan_self _ _ hc]
    · rw [State.chan_onChan_other _ _ hca]
      simp only [List.mem_cons, hca, false_or]

theorem serving_nodup (s : State) : s.serving.Nodup := List.nodup_range.filter _

theorem mem_serving (hc : c < 16) : c ∈ s.serving ↔ (s.chan c).inService := by
  simp [State.serving, allChans, hc]

/-- An update at every channel in service. -/
theorem chan_foldl_serving (f : Chan → Chan) (t : State) (hc : c < 16) :
    (s.serving.foldl (fun s c => s.onChan c f) t).chan c = if (s.chan c).inService then f (t.chan c) else t.chan c := by
  rw [chan_foldl_onChan f (serving_nodup s) hc]
  simp only [mem_serving hc]

-- the steps of deep sleep

/-- Intake stops at a channel, and its gills are evicted (R327). -/
def Chan.closeIntake (x : Chan) : Chan := { x with noRoom := true }.evictGills .other fun _ => true

/-- Intake stops at every channel in service. -/
def stopIntake (s : State) : State := s.serving.foldl (fun s c => s.onChan c Chan.closeIntake) (dsmStep 2 s)

theorem settleDsm_of_one (h : s.op.dsmStep = 1) :
    settleDsm s = if s.op.pend || s.op.step ≠ 0 then s else stopIntake s := by
  unfold settleDsm
  rw [h] <;> rfl

theorem stopIntake_frame : SameButChans (dsmStep 2 s) (stopIntake s) := .foldl (fun _ _ => onChan_frame _ _ _) _ _

/-- The first step of deep sleep. -/
def State.asks (s : State) : State := { s with op := { s.op with dsm := 1, dsmStep := 1 } }

theorem stopIntake_rest : (stopIntake s.asks).op.dsm = 1 ∧ (stopIntake s.asks).dram = s.dram ∧
    (stopIntake s.asks).cfg = s.cfg ∧ (stopIntake s.asks).ports = s.ports := by
  rw [show stopIntake s.asks = _ from stopIntake_frame]
  exact ⟨rfl, rfl, rfl, rfl⟩

theorem enterDsm_eq (hclk : s.clocked) (hdsm : s.op.dsm = 0) (hstart : s.clk.startStep = 0) :
    enterDsm s = if s.op.pend || s.op.step ≠ 0 then s.asks else stopIntake s.asks :=
  (if_pos ⟨hclk, hdsm, hstart⟩).trans (settleDsm_of_one rfl)

/-- Both ranks of a channel are asked to serve. -/
def Chan.serveAgain (x : Chan) : Chan := { x with ranks := x.ranks.map fun k => { k with want := .serve } }

end

/-- Settles O41: each command is its first step, at every channel in service. -/
theorem deepSleepBeginsAndEnds : Obligations.DeepSleepBeginsAndEnds := by
  intro s hclk
  refine ⟨fun hdsm hstart => ?_, fun h => congrArg Host.Outcome.next (if_neg ?_), fun hdsm => ?_,
    fun hdsm => congrArg Host.Outcome.next (if_neg fun ⟨_, h⟩ => hdsm h)⟩
  · have hexec : exec .dsmEnter s = .next (if s.op.pend || s.op.step ≠ 0 then s.asks else stopIntake s.asks) :=
      congrArg Host.Outcome.next (enterDsm_eq hclk hdsm hstart)
    refine ⟨_, hexec, ?_⟩
    split
    · next hwait =>
      refine ⟨rfl, rfl, rfl, rfl, fun _ => rfl, fun hpend hstep => ?_⟩
      simp [hpend, hstep] at hwait
    · next hgo =>
      obtain ⟨hone, hdram, hcfg, hports⟩ := stopIntake_rest (s := s)
      refine ⟨hone, hdram, hcfg, hports, fun h => ?_, fun _ _ c hc => chan_foldl_serving (s := s) _ _ hc⟩
      exact absurd h (by simpa using hgo)
  · intro ⟨_, hdsm, hstart⟩
    exact h.elim (fun h => h hdsm) (fun h => h hstart)
  · have hexec : exec .dsmExit s = .next (s.serving.foldl (fun s c => s.onChan c Chan.serveAgain)
        { s with op := { s.op with dsm := 3, dsmStep := 5 } }) := congrArg Host.Outcome.next (if_pos ⟨hclk, hdsm⟩)
    have hframe := SameButChans.foldl (fun s c => onChan_frame s c Chan.serveAgain) s.serving
      { s with op := { s.op with dsm := 3, dsmStep := 5 } }
    refine ⟨_, hexec, ?_, fun c hc => chan_foldl_serving _ _ hc, ?_⟩
    · rw [show List.foldl _ _ _ = _ from hframe]
    · rw [show List.foldl _ _ _ = _ from hframe]

end Sys2Proof.Machine
end

section
/-!
Maintenance operations of the metadata caches, and their bypass (O43).
-/

namespace Sys2Proof.Machine

section

variable {s : State} {q op : Nat}

-- updates of a quad

theorem onQuad_eq_self {f : Quad → Quad} (h : f (s.quad q) = s.quad q) : s.onQuad q f = s := by
  unfold State.quad at h
  unfold State.onQuad upd
  by_cases hq : q < 4
  · rw [dif_pos hq]
    have hget : s.quads.getD q .reset = s.quads[q] := by simp [Vector.getD, hq]
    rw [hget] at h
    rw [h, Vector.set_getElem_self]
  · rw [dif_neg hq]

theorem onQuad_onQuad (f g : Quad → Quad) (q : Nat) : (s.onQuad q f).onQuad q g = s.onQuad q fun x => g (f x) := by
  unfold State.onQuad upd
  by_cases h : q < 4 <;> simp [h]

theorem onQuad_congr {f g : Quad → Quad} (h : f (s.quad q) = g (s.quad q)) : s.onQuad q f = s.onQuad q g := by
  unfold State.quad at h
  unfold State.onQuad upd
  by_cases hq : q < 4
  · rw [dif_pos hq, dif_pos hq]
    have hget : s.quads.getD q .reset = s.quads[q] := by simp [Vector.getD, hq]
    rw [hget] at h
    rw [h]
  · rw [dif_neg hq, dif_neg hq]

theorem SameButCfg.quad {t : State} (h : SameButCfg s t) (q : Nat) : t.quad q = s.quad q := by
  unfold SameButCfg at h
  rw [h]
  rfl

theorem SameButStat.quad {t : State} (h : SameButStat s t) (q : Nat) : t.quad q = s.quad q := by
  unfold SameButStat at h
  rw [h]
  rfl

-- GO

/-- The state with the code of an operation in its register. -/
def State.coded (s : State) (q op : Nat) : State := s.setCf (QD_MCOPCTL_OP q) op

theorem coded_quad (q op : Nat) : (s.coded q op).quad q = s.quad q := (setCf_frame _ _ _).quad q

theorem coded_cf (f : Field) (hw : s.cfg.wf) (hf : f.addr ≠ (QD_MCOPCTL_OP q).addr) : (s.coded q op).cf f = s.cf f :=
  State.cf_setCf_other _ _ _ hw (.inl hf)

theorem coded_bypass (hw : s.cfg.wf) : (s.coded q op).on (QD_MCCTL_BYPASS q) = s.on (QD_MCCTL_BYPASS q) := by
  unfold State.on
  rw [coded_cf _ hw (by simp only [QD_MCCTL_BYPASS, QD_MCOPCTL_OP]; omega)]

theorem coded_lo (hw : s.cfg.wf) : (s.coded q op).mopLo q = s.mopLo q := by
  unfold State.mopLo
  rw [coded_cf _ hw (by simp only [QD_MCOPSH_ADDR_HI, QD_MCOPCTL_OP]; omega),
    coded_cf _ hw (by simp only [QD_MCOPSL_ADDR_LO, QD_MCOPCTL_OP]; omega)]

theorem coded_hi (hw : s.cfg.wf) : (s.coded q op).mopHi q = s.mopHi q := by
  unfold State.mopHi
  rw [coded_cf _ hw (by simp only [QD_MCOPEH_ADDR_HI, QD_MCOPCTL_OP]; omega),
    coded_cf _ hw (by simp only [QD_MCOPEL_ADDR_LO, QD_MCOPCTL_OP]; omega)]

theorem coded_table (hw : s.cfg.wf) : (s.coded q op).table = s.table := by
  unfold State.table State.tableAt
  rw [coded_cf _ hw (by simp only [GL_L2P0_LOG, QD_MCOPCTL_OP]; omega),
    coded_cf _ hw (by simp only [GL_L2P1_LOG, QD_MCOPCTL_OP]; omega)]
  
theorem goOp_eq (hclk : s.clocked) : goOp q op s = startMop q op (s.on (QD_MCOPCTL_ALL q)) (s.coded q op) := if_pos hclk

/-- What GO does, by what stands in its way (R382, R383, R386). -/
theorem goOp_cases (hclk : s.clocked) (hw : s.cfg.wf) :
    ((s.quad q).mop.isSome → goOp q op s = s.coded q op) ∧
    ((s.quad q).mop = none → (s.quad q).bypStep ≠ 0 ∨ s.on (QD_MCCTL_BYPASS q) = true →
      goOp q op s = (s.coded q op).setSt (QD_MCOPSTAT_RESULT q) 3) ∧
    ((s.quad q).mop = none → ¬ ((s.quad q).bypStep ≠ 0 ∨ s.on (QD_MCCTL_BYPASS q) = true) →
      (4 < op ∨ s.on (QD_MCOPCTL_ALL q) = true ∧ (op = 2 ∨ op = 3) →
        goOp q op s = (s.coded q op).setSt (QD_MCOPSTAT_RESULT q) 1) ∧
      (¬ (4 < op ∨ s.on (QD_MCOPCTL_ALL q) = true ∧ (op = 2 ∨ op = 3)) →
        goOp q op s = (s.coded q op).onQuad q fun x =>
          { x with mop := some ⟨op, s.on (QD_MCOPCTL_ALL q), s.mopLo q, s.mopHi q, 4 * q, 0, false, s.table⟩ })) := by
  rw [goOp_eq hclk]
  unfold startMop
  extract_lets x result
  have hx : x = s.quad q := coded_quad q op
  rw [hx, coded_bypass hw]
  refine ⟨fun hsome => if_pos hsome, fun hnone hbyp => ?_, fun hnone hbyp => ⟨fun hwrong => ?_, fun hright => ?_⟩⟩
  · rw [if_neg (by simp [hnone]), if_pos hbyp]
  · rw [if_neg (by simp [hnone]), if_neg hbyp, if_pos hwrong]
  · rw [if_neg (by simp [hnone]), if_neg hbyp, if_neg hright, coded_lo hw, coded_hi hw, coded_table hw]

/-- Each command of an operation is GO with its code. -/
theorem exec_goOp {c : Instr} {q : Fin 4} (hc : (c, op) ∈ [(Instr.clean q, 0), (.invalidate q, 1), (.preload q, 2),
    (.preloadLock q, 3), (.unlock q, 4), (.reservedOperation q, max 5 (s.cf (QD_MCOPCTL_OP q)))]) :
    exec c s = .next (goOp q op s) := by
  simp only [List.mem_cons, Prod.mk.injEq, List.not_mem_nil, or_false] at hc
  rcases hc with ⟨rfl, rfl⟩ | ⟨rfl, rfl⟩ | ⟨rfl, rfl⟩ | ⟨rfl, rfl⟩ | ⟨rfl, rfl⟩ | ⟨rfl, rfl⟩ <;> rfl

-- the bypass

/-- The bypass is entered from rest once no operation runs (R386, R387). -/
theorem settleBypass_of_rest (hstep : (s.quad q).bypStep = 0) : settleBypass q s =
    if s.on (QD_MCCTL_BYPASS q) ∧ (s.quad q).mop.isNone then s.onQuad q fun x => { x with bypStep := 1 } else s := by
  unfold settleBypass
  extract_lets x to_
  by_cases hgo : s.on (QD_MCCTL_BYPASS q) ∧ x.mop.isNone
  · rw [if_pos ⟨hstep, hgo⟩, if_pos hgo]
  · rw [if_neg fun h => hgo h.2, if_neg hgo, if_neg (by simp [x, hstep]), if_neg (by simp [x, hstep])]

theorem bypass_on (hw : s.cfg.wf) (hz : (QD_MCCTL_BYPASS q).addr ∉ s.frozen) :
    (s.setCf (QD_MCCTL_BYPASS q) 1).cf (QD_MCCTL_BYPASS q) = 1 :=
  State.cf_setCf_self (QD_MCCTL_BYPASS q) 1 hw (by simp [QD_MCCTL_BYPASS]) hz

theorem bypass_off (hw : s.cfg.wf) (hz : (QD_MCCTL_BYPASS q).addr ∉ s.frozen) :
    (s.setCf (QD_MCCTL_BYPASS q) 0).cf (QD_MCCTL_BYPASS q) = 0 :=
  State.cf_setCf_self (QD_MCCTL_BYPASS q) 0 hw (by simp [QD_MCCTL_BYPASS]) hz

theorem enterBypass_of_rest (hw : s.cfg.wf) (hz : (QD_MCCTL_BYPASS q).addr ∉ s.frozen) (hstep : (s.quad q).bypStep = 0) :
    enterBypass q s = if (s.quad q).mop.isNone then
      (s.setCf (QD_MCCTL_BYPASS q) 1).onQuad q fun x => { x with bypStep := 1 } else s.setCf (QD_MCCTL_BYPASS q) 1 := by
  have hquad : (s.setCf (QD_MCCTL_BYPASS q) 1).quad q = s.quad q := (setCf_frame _ _ _).quad q
  have hon : (s.setCf (QD_MCCTL_BYPASS q) 1).on (QD_MCCTL_BYPASS q) = true := by
    unfold State.on
    rw [bypass_on hw hz]
    rfl
  unfold enterBypass
  rw [settleBypass_of_rest (by rw [hquad]; exact hstep), hquad, hon]
  simp only [true_and]

end

/-- Settles O43: each operation is GO with its code; the bypass begins from rest, and its end is one update of the quad. -/
theorem cacheMaintenanceStartsAndEnds : Obligations.CacheMaintenanceStartsAndEnds := by
  intro s q hclk
  refine ⟨fun c op hc hcan => ?_, fun o hmop hover hstep => ?_, fun hcan hz hstep => ?_, fun hstep hflushed => ?_,
    fun hcan hz => ?_⟩
  · intro u all bypass wrong
    have hexec := exec_goOp hc
    obtain ⟨hsome, hbyp, hrest⟩ := goOp_cases (q := q) (op := op) hclk (canonical_cfg hcan)
    exact ⟨fun h => hexec.trans (congrArg _ (hsome h)), fun h hb => hexec.trans (congrArg _ (hbyp h hb)),
      fun h hb hw => hexec.trans (congrArg _ ((hrest h hb).1 hw)), fun h hb hw => hexec.trans (congrArg _ ((hrest h hb).2 hw))⟩
  · have hexec : exec (.mcOperationDone q) s = .next (settleBypass q
        ((s.setSt (QD_MCOPSTAT_RESULT q) (if o.refused then 2 else 0)).onQuad q fun x => { x with mop := none })) := by
      rw [exec_mcOperationDone]
      unfold execMcOperationDone
      rw [hmop]
      exact congrArg _ (if_pos (by simp [hclk, hover]))
    rw [hexec]
    generalize hv : s.setSt (QD_MCOPSTAT_RESULT q) (if o.refused then 2 else 0) = v
    have hon : (v.onQuad q fun x => { x with mop := none }).on (QD_MCCTL_BYPASS q) = s.on (QD_MCCTL_BYPASS q) := by
      rw [← hv]
      exact congrArg (· == 1) (State.cf_congr (State.setSt_cfg ..) _)
    have hquad : v.quad q = s.quad q := by
      rw [← hv]
      exact (setSt_frame s _ _).quad q
    have hself : (v.onQuad q fun x => { x with mop := none }).quad q = { s.quad q with mop := none } := by
      rw [State.quad_onQuad_self _ _ q.isLt, hquad]
    rw [settleBypass_of_rest (by rw [hself]; exact hstep), hself, hon]
    split
    · next h =>
      rw [onQuad_onQuad, if_pos h.1]
    · next h =>
      have hoff : ¬ s.on (QD_MCCTL_BYPASS q) = true := fun hb => h ⟨hb, rfl⟩
      rw [if_neg hoff]
      refine congrArg Host.Outcome.next (onQuad_congr ?_)
      rw [hquad, ← hstep]
  · have hexec : exec (.cacheBypassEntry q) s = .next (enterBypass q s) := congrArg Host.Outcome.next (if_pos hclk)
    have hbyp := bypass_on (q := q) (canonical_cfg hcan) hz
    refine ⟨_, hexec, ?_⟩
    rw [enterBypass_of_rest (canonical_cfg hcan) hz hstep]
    have hframe := setCf_frame s (QD_MCCTL_BYPASS q) 1
    cases hmop : (s.quad q).mop with
    | none =>
      have hnone : (none : Option CacheOp).isNone = true := rfl
      rw [if_pos hnone]
      refine ⟨hbyp, ?_, ?_⟩
      · rw [if_pos rfl, State.quad_onQuad_self _ _ q.isLt]
      · unfold SameButCfg at hframe
        rw [hframe]
        rfl
    | some o =>
      have hsome : ¬ (some o).isNone = true := nofun
      rw [if_neg hsome]
      refine ⟨hbyp, ?_, ?_⟩
      · rw [if_neg nofun, hframe.quad, hstep]
      · unfold SameButCfg at hframe
        rw [hframe]
  · exact congrArg Host.Outcome.next (if_pos ⟨hclk, hstep, hflushed⟩)
  · have hexec : exec (.cacheBypassExit q) s = .next (leaveBypass q s) := congrArg Host.Outcome.next (if_pos hclk)
    have hframe := setCf_frame s (QD_MCCTL_BYPASS q) 0
    have hbyp := bypass_off (q := q) (canonical_cfg hcan) hz
    refine ⟨_, hexec, hbyp, ?_, ?_⟩
    · unfold leaveBypass
      rw [State.quad_onQuad_self _ _ q.isLt, hframe.quad]
    · unfold leaveBypass
      unfold SameButCfg at hframe
      rw [hframe]
      rfl

end Sys2Proof.Machine
end

section
/-!
Lookups, fills and rebuilds of metadata lines (O42).
-/

namespace Sys2Proof.Machine

section

variable {s : State} {q c w : Nat} {o : Op} {d : Line}

/-- A fold whose every step keeps the state keeps it. -/
theorem foldl_eq_self {α β : Type} {f : β → α → β} {l : List α} {s : β} (h : ∀ x ∈ l, f s x = s) : l.foldl f s = s := by
  induction l with
  | nil => rfl
  | cons x l ih =>
    rw [List.foldl_cons, h x (List.mem_cons_self ..)]
    exact ih fun y hy => h y (List.mem_cons_of_mem _ hy)

-- ways

theorem Quad.way_setWay (x : Quad) {v : Way} (hv : v.st ≠ .invalid) : (x.setWay w v).way w = v := by
  unfold Quad.setWay Quad.way
  rw [if_neg fun h => hv h.1, find_put_self]
  rfl

theorem way_onWay {f : Way → Way} (hq : q < 4) (hf : (f ((s.quad q).way w)).st ≠ .invalid) :
    ((s.onWay q w f).quad q).way w = f ((s.quad q).way w) := by
  unfold State.onWay
  rw [State.quad_onQuad_self _ _ hq]
  exact Quad.way_setWay _ hf

/-- What an update of a quad keeps, it keeps at every quad. -/
theorem quad_onQuad_keep {β : Type} (g : Quad → β) (s : State) (q : Nat) {f : Quad → Quad} (h : ∀ x, g (f x) = g x) (k : Nat) :
    g ((s.onQuad q f).quad k) = g (s.quad k) := by
  by_cases hk : k = q
  · subst hk
    by_cases hl : k < 4
    · rw [State.quad_onQuad_self _ _ hl, h]
    · simp [State.quad, State.onQuad, upd, hl]
  · rw [State.quad_onQuad_other _ _ hk]

theorem onLane_ways (q l : Nat) (f : Lane → Lane) (k : Nat) : ((s.onLane q l f).quad k).ways = (s.quad k).ways :=
  quad_onQuad_keep (f := fun x => x.onLane l f) (·.ways) s q (fun _ => rfl) k

theorem onLane_rebuilds (q l : Nat) (f : Lane → Lane) (k : Nat) :
    ((s.onLane q l f).quad k).rebuilds = (s.quad k).rebuilds :=
  quad_onQuad_keep (f := fun x => x.onLane l f) (·.rebuilds) s q (fun _ => rfl) k

theorem Quad.way_congr {x y : Quad} (h : y.ways = x.ways) (w : Nat) : y.way w = x.way w := by
  unfold Quad.way
  rw [h]

theorem Quad.wayFor_congr {x y : Quad} (h : y.ways = x.ways) (c m : Nat) : y.wayFor c m = x.wayFor c m := by
  unfold Quad.wayFor
  simp only [Quad.way_congr h]

-- lookups

/-- An operation of a read that has its entry (R374). -/
def Op.served (o : Op) (w : Nat) (e : Entry) : Op := { o with looked := true, entry := e, way := some w, phase := .reading }

/-- A read that meets a line in use reads DRAM under its entry. -/
theorem serve_read {e : Entry} (hop : (s.chan c).op o.id = some o) (hk : o.kind = .read)
    (he : s.lineState e ∈ [LineState.good, .unverified]) : serve c o.id (some w) e s = s.onOp c o.id fun o => { o with
      looked := true, entry := if o.kind = .mirror then o.entry else e, way := some w
      phase := if o.kind = .write ∨ o.kind = .mirror then o.phase else .reading } := by
  unfold serve
  rw [hop]
  dsimp -zeta only
  extract_lets st dead u o'
  have hk' : o'.kind = .read := hk
  have hdead : dead = false := by
    rcases List.mem_cons.mp he with h | h
    · simp [dead, st, h]
    · simp [dead, st, List.mem_singleton.mp h]
  rw [hk']
  exact if_neg (by simp [hdead])

/-- A line held CLEAN or DIRTY answers the lookup of a read with its entry (R374). -/
theorem lookupPresent_of_held (hway : (s.quad (quadOf c)).wayFor c (o.q / 32) = some w)
    (hst : ((s.quad (quadOf c)).way w).st = .clean ∨ ((s.quad (quadOf c)).way w).st = .dirty) :
    lookupPresent c o s = serve c o.id (some w) (entryOf ((s.quad (quadOf c)).way w).data o.q) s := by
  unfold lookupPresent
  extract_lets m k
  rw [show (s.quad k).wayFor c m = some w from hway]
  dsimp -zeta only
  extract_lets v
  rcases hst with h | h
  · rw [show v.st = .clean from h]
  · rw [show v.st = .dirty from h]

/-- Of the state only the lanes of the quads move. -/
def LaneWork (s t : State) : Prop :=
  t = { s with quads := t.quads } ∧ ∀ k, (t.quad k).ways = (s.quad k).ways ∧ (t.quad k).rebuilds = (s.quad k).rebuilds

theorem onLane_laneWork (q l : Nat) (f : Lane → Lane) : LaneWork s (s.onLane q l f) :=
  ⟨rfl, fun k => ⟨onLane_ways q l f k, onLane_rebuilds q l f k⟩⟩

theorem LaneWork.trans {t u : State} (h : LaneWork s t) (h' : LaneWork t u) : LaneWork s u := by
  obtain ⟨heq, hquad⟩ := h
  obtain ⟨heq', hquad'⟩ := h'
  refine ⟨by rw [heq', heq], fun k => ?_⟩
  obtain ⟨hways, hre⟩ := hquad k
  obtain ⟨hways', hre'⟩ := hquad' k
  exact ⟨hways'.trans hways, hre'.trans hre⟩

theorem LaneWork.chan {t : State} (h : LaneWork s t) (c : Nat) : t.chan c = s.chan c := by
  obtain ⟨heq, -⟩ := h
  rw [heq]
  rfl

theorem LaneWork.present {t : State} (h : LaneWork s t) (c m : Nat) : t.present c m = s.present c m := by
  obtain ⟨heq, -⟩ := h
  rw [heq]
  rfl

theorem LaneWork.lineState {t : State} (h : LaneWork s t) (e : Entry) : t.lineState e = s.lineState e := by
  obtain ⟨heq, -⟩ := h
  rw [heq]
  rfl

theorem LaneWork.lookupOf {t : State} (h : LaneWork s t) (c lane : Nat) : t.lookupOf c lane = s.lookupOf c lane := by
  have hre := (h.2 (quadOf c)).2
  unfold State.lookupOf State.opFree
  simp only [h.chan, hre]

/-- A free lane in which no miss waits takes the lookup that is next in turn (R374). -/
theorem laneStep_of_found {lane : Nat} (hfree : s.laneFree q lane = true) (hwait : ((s.quad q).lane lane).waiting = none)
    (hfound : ([1, 2, 3, 4].map fun i => 4 * q + (((s.quad q).lane lane).last + i) % 4).findSome?
      (fun c => (s.lookupOf c lane).map fun o => (c, o)) = some (c, o)) :
    ∃ t, LaneWork s t ∧ laneStep q lane s = lookupOp c o t := by
  have hwork : LaneWork s (s.onLane q lane fun l => { l with usedAt := some s.now }) := onLane_laneWork q lane _
  refine ⟨(s.onLane q lane fun l => { l with usedAt := some s.now }).onLane q lane fun l => { l with last := c % 4 },
    hwork.trans (onLane_laneWork q lane _), ?_⟩
  unfold laneStep
  extract_lets l u
  rw [if_neg (by simp [hfree]), show l.waiting = none from hwait]
  have hsame : (fun c => (u.lookupOf c lane).map fun o => (c, o)) = fun c => (s.lookupOf c lane).map fun o => (c, o) := by
    funext c
    rw [hwork.lookupOf]
  rw [hsame]
  dsimp only
  rw [show List.findSome? _ _ = some (c, o) from hfound]

/-- A lookup of a read that a held line answers. -/
theorem lookupOp_of_held (hpres : s.present c (o.q / 32) = true) (hk : o.kind = .read)
    (hway : (s.quad (quadOf c)).wayFor c (o.q / 32) = some w)
    (hst : ((s.quad (quadOf c)).way w).st = .clean ∨ ((s.quad (quadOf c)).way w).st = .dirty)
    (he : s.lineState (entryOf ((s.quad (quadOf c)).way w).data o.q) ∈ [LineState.good, .unverified])
    (hop : (s.chan c).op o.id = some o) (hc : c < 16) :
    ((lookupOp c o s).chan c).op o.id = some (o.served w (entryOf ((s.quad (quadOf c)).way w).data o.q)) ∧
    (lookupOp c o s).dram = s.dram ∧ (lookupOp c o s).ports = s.ports ∧ (lookupOp c o s).cfg = s.cfg := by
  have heq : lookupOp c o s = _ := (if_pos hpres).trans ((congrArg (lookupPresent c o) (if_neg (by rw [hk]; decide))).trans
    ((lookupPresent_of_held hway hst).trans (serve_read hop hk he)))
  rw [heq]
  refine ⟨?_, rfl, rfl, rfl⟩
  rw [chan_onOp_self _ hc, op_onOp_self _ (by intro _; rfl), hop]
  simp [Op.served, hk]

-- fills

/-- The fill of a line with no lookup to serve: its way is CLEAN, and the fill is over. -/
theorem serveWaiting_of_none {way : Option Nat} (h : ∀ e ∈ quadChans q, ∀ a ∈ (s.chan e).ops, a.way ≠ some w) :
    serveWaiting q w way d s = s :=
  foldl_eq_self fun e he => foldl_eq_self fun a ha => if_neg fun hp => h e he a ha hp.1

theorem execFillInstall_eq {ch : Fin 16} {err : Line} {id : Nat} (hworks : s.quadWorks (quadOf ch) = true)
    (hop : (s.chan ch).op id = some o) (hfill : o.isMetaFill = true) (hback : s.fetched ch o = true) :
    exec (.fillInstall ch id err) s = .next (fillReturn ch o (o.data ^^^ err) s) := by
  have hopWorks : s.opWorks ch o = true := by
    unfold State.opWorks
    rw [if_neg, hworks]
    · rfl
    · intro hk
      simp [Op.isMetaFill, hk] at hfill
  rw [exec_fillInstall]
  unfold execFillInstall
  rw [hop]
  exact if_pos ⟨hopWorks, hfill, hback⟩

theorem fillReturn_of_good (h : mcrcOf d = s.mcrc c o.q d) (ht : o.tries = 0) : fillReturn c o d s = install c o d s := by
  unfold fillReturn
  extract_lets k u
  rw [if_pos (beq_iff_eq.mpr h)]
  exact congrArg (install c o d) (if_neg (by rw [ht]; decide))

theorem fillReturn_of_bad (h : mcrcOf d ≠ s.mcrc c o.q d) (hk : o.kind ≠ .preload) : fillReturn c o d s =
    if o.tries = 0 then s.onOp c o.id fun o => { o with phase := .wantQueue, tries := 1, bursts := 0 }
    else startRecompute c o s := by
  unfold fillReturn
  extract_lets k
  rw [if_neg (by simpa using h), if_neg hk]

theorem mem_ops_dropOp {a : Op} {e id : Nat} (ha : a ∈ ((s.dropOp c id).chan e).ops) (hc : c < 16) :
    a ∈ (s.chan e).ops ∧ ¬ (e = c ∧ a.id = id) := by
  unfold State.dropOp at ha
  by_cases hec : e = c
  · subst hec
    rw [State.chan_onChan_self _ _ hc] at ha
    obtain ⟨ha, hne⟩ := List.mem_filter.mp ha
    exact ⟨ha, fun h => by simp [h.2] at hne⟩
  · rw [State.chan_onChan_other _ _ hec] at ha
    exact ⟨ha, fun h => hec h.1⟩

/-- A demand fill that nothing else waits for. -/
theorem install_of_demand (hc : c < 16) (hk : o.kind = .demand) (hw : o.way = some w)
    (h : ∀ e ∈ quadChans (quadOf c), ∀ a ∈ (s.chan e).ops, a.way = some w → e = c ∧ a.id = o.id) :
    install c o d s = ((fillOver c o s).dropOp c o.id).onWay (quadOf c) w fun v =>
      { v with st := .clean, data := d, locked := v.locked || false } := by
  unfold install
  extract_lets k u
  rw [hk, hw]
  refine serveWaiting_of_none fun e he a ha hp => ?_
  obtain ⟨ha, hne⟩ := mem_ops_dropOp (s := fillOver c o s) ha hc
  obtain ⟨rfl, hid⟩ := h e he a ha hp
  exact hne ⟨rfl, hid⟩

/-- What a demand fill that nothing else waits for leaves (R375). -/
theorem install_shows (hc : c < 16) (hk : o.kind = .demand) (hw : o.way = some w)
    (h : ∀ e ∈ quadChans (quadOf c), ∀ a ∈ (s.chan e).ops, a.way = some w → e = c ∧ a.id = o.id) :
    ((install c o d s).quad (quadOf c)).way w = { (s.quad (quadOf c)).way w with st := .clean, data := d } ∧
    ((install c o d s).chan c).ops = (s.chan c).ops.filter (·.id ≠ o.id) ∧ (install c o d s).dram = s.dram := by
  have hq : quadOf c < 4 := by unfold quadOf; omega
  rw [install_of_demand hc hk hw h]
  have hsame : (((fillOver c o s).dropOp c o.id).quad (quadOf c)).way w = (s.quad (quadOf c)).way w :=
    Quad.way_congr (onLane_ways _ _ _ _) w
  refine ⟨?_, ?_, rfl⟩
  · rw [way_onWay hq (by simp), hsame, Bool.or_false]
  · change (((fillOver c o s).dropOp c o.id).chan c).ops = _
    unfold State.dropOp
    rw [State.chan_onChan_self _ _ hc]
    rfl

-- rebuilds

theorem raise_quad (src : Src) (unit info : Nat) (s : State) (q : Nat) : (raise src unit info s).quad q = s.quad q := rfl

/-- A rebuild is reported and leaves the list (R389). -/
def rebuildOver (q : Nat) (b : Rebuild) (s : State) : State :=
  (raise .recomp b.chan b.m (s.bump (QD_MCEVT_RECOMP q))).onQuad q fun x =>
    { x with rebuilds := x.rebuilds.filter (·.id ≠ b.id) }

theorem rebuildOver_quad (b : Rebuild) (hq : q < 4) : (rebuildOver q b s).quad q =
    { s.quad q with rebuilds := (s.quad q).rebuilds.filter (·.id ≠ b.id) } := by
  unfold rebuildOver
  rw [State.quad_onQuad_self _ _ hq, raise_quad, (bump_frame s _ _).quad]

theorem rebuildOver_rest (b : Rebuild) : (rebuildOver q b s).dram = s.dram ∧ ∀ c, (rebuildOver q b s).chan c = s.chan c :=
  ⟨State.bump_dram .., (bump_frame s _ _).chan⟩

/-- A rebuilt line of the cache that no lookup waits for is installed DIRTY (R389). -/
theorem rebuilt_of_cached {b : Rebuild} (hb : b.id < 2048) (h : ∀ c ∈ quadChans q, ∀ o ∈ (s.chan c).ops, o.way ≠ some b.id) :
    rebuilt q b s = (rebuildOver q b s).onWay q b.id fun v => { v with st := .dirty, data := b.data } := by
  obtain ⟨-, hchan⟩ := rebuildOver_rest (s := s) (q := q) b
  refine (if_pos hb).trans (serveWaiting_of_none fun c hc o ho => ?_)
  exact h c hc o (by rw [← hchan c]; exact ho)

end

/-- Settles O42: the lookup through `laneStep`, the fill and the rebuild with no lookup left to serve. -/
theorem metadataLinesAreLookedUpAndInstalled : Obligations.MetadataLinesAreLookedUpAndInstalled := by
  intro s q hworks
  refine ⟨fun lane hstep => ⟨fun hstop => ?_, fun hfree hwait c o w hc hq hfound hpres hway hst hk he hop => ?_⟩,
    fun ch id o err hq hop hfill hback => ?_, fun way b hfind hleft => ?_⟩
  · have hbusy : (!s.laneFree q lane) = true := by
      simp [State.laneFree, hstop]
    exact congrArg Host.Outcome.next ((if_pos ⟨hworks, .inl hstep⟩).trans (if_pos hbusy))
  · obtain ⟨t, hwork, hlane⟩ := laneStep_of_found hfree hwait hfound
    have hexec : exec (.metadataLookup q lane) s = .next (lookupOp c o t) :=
      congrArg Host.Outcome.next ((if_pos ⟨hworks, .inl hstep⟩).trans hlane)
    have hways := (hwork.2 q).1
    rw [← hq] at hways hway hst he ⊢
    rw [← Quad.wayFor_congr hways] at hway
    rw [← Quad.way_congr hways] at hst he ⊢
    obtain ⟨hop', hdram, hports, hcfg⟩ := lookupOp_of_held (s := t) (by rw [hwork.present]; exact hpres) hk hway hst
      (by rw [hwork.lineState]; exact he) (by rw [hwork.chan]; exact hop) hc
    obtain ⟨heq, -⟩ := hwork
    exact ⟨_, hexec, hop', hdram.trans (by rw [heq]), hports.trans (by rw [heq]), hcfg.trans (by rw [heq])⟩
  · rw [← hq] at hworks ⊢
    have hid : o.id = id := op_id hop
    have hexec := execFillInstall_eq (err := err) hworks hop hfill hback
    intro d
    refine ⟨fun hgood ht => ?_, fun hgood ht hk w hw hothers => ?_, fun hbad hk ht => ?_, fun hbad hk ht => ?_⟩
    · rw [hexec, fillReturn_of_good hgood ht]
    · rw [hexec, fillReturn_of_good hgood ht]
      exact ⟨_, rfl, install_shows ch.isLt hk hw hothers⟩
    · rw [hexec, fillReturn_of_bad hbad hk, if_pos ht]
    · rw [hexec, fillReturn_of_bad hbad hk, if_neg ht]
  · have hexec : exec (.recomputeComplete q way) s = .next (rebuilt q b s) := by
      rw [exec_recomputeComplete]
      unfold execRecomputeComplete
      rw [hfind]
      exact congrArg Host.Outcome.next (if_pos ⟨hworks, hleft⟩)
    refine ⟨hexec, fun hb hothers => ⟨_, hexec, ?_⟩⟩
    rw [rebuilt_of_cached hb hothers]
    obtain ⟨hdram, -⟩ := rebuildOver_rest (s := s) (q := q) b
    have hquad := rebuildOver_quad (s := s) b q.isLt
    refine ⟨?_, ?_, hdram⟩
    · rw [way_onWay q.isLt (by simp), hquad]
      rfl
    · have hkeep : ((rebuildOver q b s).onWay q b.id fun v => { v with st := .dirty, data := b.data }).quad q =
          ((rebuildOver q b s).quad q).onWay b.id fun v => { v with st := .dirty, data := b.data } :=
        State.quad_onQuad_self _ _ q.isLt
      rw [hkeep, hquad]
      rfl

end Sys2Proof.Machine
end

section
/-!
Scrub passes and idle permission (O44).
-/

namespace Sys2Proof.Machine

section

variable {s t u : State} {q c v w n : Nat} {f g : Field}

-- what a status field shows

/-- The status registers are in their form, and a field of them shows a value. -/
def Showing (f : Field) (v : Nat) (s : State) : Prop := s.stat.wf ∧ s.st f = v

/-- Two fields have no bit in common. -/
def Field.apart (f g : Field) : Prop := f.addr ≠ g.addr ∨ f.lo + f.width ≤ g.lo ∨ g.lo + g.width ≤ f.lo

theorem Showing.of_setSt (hw : s.stat.wf) (hf : f.lo + f.width ≤ 32) (hz : f.addr ∉ s.frozen) (hv : v < 2 ^ f.width) :
    Showing f v (s.setSt f v) :=
  ⟨State.setSt_stat_wf _ _ hw, by rw [State.st_setSt_self _ _ hw hf hz, Nat.mod_eq_of_lt hv]⟩

theorem Showing.congr (h : Showing f v s) (he : t.stat = s.stat) : Showing f v t := by
  obtain ⟨hw, hv⟩ := h
  exact ⟨by rw [he]; exact hw, by rw [State.st_congr he, hv]⟩

theorem Showing.setSt (h : Showing f v s) (ha : f.apart g) : Showing f v (s.setSt g w) := by
  obtain ⟨hw, hv⟩ := h
  exact ⟨State.setSt_stat_wf _ _ hw, by rw [State.st_setSt_other _ _ _ hw ha, hv]⟩

theorem Showing.stamp (h : Showing f v s) {l k : Field} (hl : f.apart l) (hk : f.apart k) : Showing f v (s.stamp l k) :=
  (h.setSt hl).setSt hk

theorem Showing.event (h : Showing f v s) (e : Evt) (ha : f.apart FT_STSEVT_EVT) : Showing f v (event e s) :=
  (h.setSt (g := FT_STSEVT_EVT) ha).congr (State.setBits_stat s _ _)

theorem Showing.onScrub {k : ScrubPass → ScrubPass} (h : Showing f v s) : Showing f v (s.onScrub q k) := h

-- the work of a pass

/-- Of the state only the registers, the channels and one quad move. -/
def ScrubWork (q : Nat) (s t : State) : Prop :=
  t = { s with stat := t.stat, news := t.news, quads := t.quads, chans := t.chans } ∧ ∀ k, k ≠ q → t.quad k = s.quad k

theorem ScrubWork.refl (q : Nat) (s : State) : ScrubWork q s s := ⟨rfl, fun _ _ => rfl⟩

theorem ScrubWork.trans (h : ScrubWork q s t) (h' : ScrubWork q t u) : ScrubWork q s u := by
  obtain ⟨heq, hquad⟩ := h
  obtain ⟨heq', hquad'⟩ := h'
  exact ⟨by rw [heq', heq], fun k hk => (hquad' k hk).trans (hquad k hk)⟩

theorem ScrubWork.foldl {α : Type} {f : State → α → State} (h : ∀ s x, ScrubWork q s (f s x)) (l : List α) (s : State) :
    ScrubWork q s (l.foldl f s) := foldl_inv (ScrubWork q s) l (fun t x _ ht => ht.trans (h t x)) (.refl q s)

theorem SameButStat.scrubWork (h : SameButStat s t) (q : Nat) : ScrubWork q s t := by
  refine ⟨?_, fun k _ => h.quad k⟩
  unfold SameButStat at h
  rw [h]

theorem onScrub_scrubWork (q : Nat) (f : ScrubPass → ScrubPass) (s : State) : ScrubWork q s (s.onScrub q f) :=
  ⟨rfl, fun _ hk => State.quad_onQuad_other _ _ hk⟩

theorem onChan_scrubWork (q c : Nat) (f : Chan → Chan) (s : State) : ScrubWork q s (s.onChan c f) := ⟨rfl, fun _ _ => rfl⟩

theorem onScrub_event (f : ScrubPass → ScrubPass) (hw : s.stat.wf) (hz : FT_STSEVT_EVT.addr ∉ s.frozen) :
    natBit ((event .scrub (s.onScrub q f)).st FT_STSEVT_EVT) Evt.scrub.bit = true :=
  State.event_bit .scrub (s := s.onScrub q f) hw hz

theorem scrub_onScrub (f : ScrubPass → ScrubPass) (hq : q < 4) : ((s.onScrub q f).quad q).scrub = f (s.quad q).scrub := by
  unfold State.onScrub
  rw [State.quad_onQuad_self _ _ hq]

-- the end of a pass

theorem endScrub_work (q : Nat) (aborted : Bool) (s : State) : ScrubWork q s (endScrub q aborted s) := by
  unfold endScrub
  extract_lets s₁ s₂ s₃
  have h₃ : SameButStat s s₃ := (stamp_frame s _ _).trans ((setSt_frame s₁ _ _).trans
    ((setSt_frame _ _ _).trans (setSt_frame s₂ _ _)))
  exact (h₃.scrubWork q).trans ((onScrub_scrubWork q _ s₃).trans ((event_frame _ _).scrubWork q))

theorem endScrub_chans (q : Nat) (aborted : Bool) (s : State) : (endScrub q aborted s).chans = s.chans := by
  simp [endScrub, State.onScrub]

theorem endScrub_running (aborted : Bool) (hq : q < 4) : ((endScrub q aborted s).quad q).scrub.running = false := by
  unfold endScrub
  rw [(event_frame _ _).quad, scrub_onScrub _ hq]

/-- The registers that a pass which ends leaves. -/
theorem endScrub_shows (aborted : Bool) (hw : s.stat.wf) :
    ((QD_SCRSTAT_STATE q).addr ∉ s.frozen → (endScrub q aborted s).st (QD_SCRSTAT_STATE q) = if aborted then 3 else 2) ∧
    ((QD_PKSTAT_FINAL q).addr ∉ s.frozen → (endScrub q aborted s).st (QD_PKSTAT_FINAL q) = 1 ∧
      (endScrub q aborted s).st (QD_PKSTAT_ABORTED q) = b2n aborted) ∧
    (FT_STSEVT_EVT.addr ∉ s.frozen → natBit ((endScrub q aborted s).st FT_STSEVT_EVT) Evt.scrub.bit = true) := by
  unfold endScrub
  extract_lets s₁ s₂ s₃
  have hw₁ : s₁.stat.wf := State.setSt_stat_wf _ _ (State.setSt_stat_wf _ _ hw)
  have hwf : (s₁.setSt (QD_PKSTAT_FINAL q) 1).stat.wf := State.setSt_stat_wf _ _ hw₁
  have hw₂ : s₂.stat.wf := State.setSt_stat_wf _ _ hwf
  have hw₃ : s₃.stat.wf := State.setSt_stat_wf _ _ hw₂
  have hz₁ : s₁.frozen = s.frozen := (State.stamp_frozen ..)
  have hz₂ : s₂.frozen = s.frozen := (State.setSt_frozen ..).trans ((State.setSt_frozen ..).trans hz₁)
  have hz₃ : s₃.frozen = s.frozen := (State.setSt_frozen ..).trans hz₂
  refine ⟨fun hz => ?_, fun hz => ⟨?_, ?_⟩, fun hz => ?_⟩
  · have h : Showing (QD_SCRSTAT_STATE q) (if aborted then 3 else 2) s₃ :=
      .of_setSt hw₂ (by simp [QD_SCRSTAT_STATE]) (by rw [hz₂]; exact hz) (by cases aborted <;> simp [QD_SCRSTAT_STATE])
    exact (h.onScrub.event .scrub
      (.inl (by simp only [QD_SCRSTAT_STATE, FT_STSEVT_EVT]; omega))).2
  · have h : Showing (QD_PKSTAT_FINAL q) 1 (s₁.setSt (QD_PKSTAT_FINAL q) 1) :=
      .of_setSt hw₁ (by simp [QD_PKSTAT_FINAL]) (by rw [hz₁]; exact hz) (by simp [QD_PKSTAT_FINAL])
    have h₂ : Showing (QD_PKSTAT_FINAL q) 1 s₂ := h.setSt (.inr (.inl (by simp [QD_PKSTAT_FINAL, QD_PKSTAT_ABORTED])))
    have h₃ : Showing (QD_PKSTAT_FINAL q) 1 s₃ :=
      h₂.setSt (.inl (by simp only [QD_PKSTAT_FINAL, QD_SCRSTAT_STATE]; omega))
    exact (h₃.onScrub.event .scrub
      (.inl (by simp only [QD_PKSTAT_FINAL, FT_STSEVT_EVT]; omega))).2
  · have h₂ : Showing (QD_PKSTAT_ABORTED q) (b2n aborted) s₂ :=
      .of_setSt hwf (by simp [QD_PKSTAT_ABORTED]) (by rw [State.setSt_frozen, hz₁]; exact hz)
        (by cases aborted <;> simp [QD_PKSTAT_ABORTED, b2n])
    have h₃ : Showing (QD_PKSTAT_ABORTED q) (b2n aborted) s₃ :=
      h₂.setSt (.inl (by simp only [QD_PKSTAT_ABORTED, QD_SCRSTAT_STATE]; omega))
    exact (h₃.onScrub.event .scrub
      (.inl (by simp only [QD_PKSTAT_ABORTED, FT_STSEVT_EVT]; omega))).2
  · exact onScrub_event _ hw₃ (by rw [hz₃]; exact hz)

-- the start of a pass

theorem foldl_set_zero (l : List Nat) (f : RegFile) (h : f.wf) : (l.foldl (fun f a => f.set a 0) f).wf ∧
    ∀ k, k ∈ l ∨ f.get k = 0 → (l.foldl (fun f a => f.set a 0) f).get k = 0 := by
  induction l generalizing f with
  | nil => exact ⟨h, fun k hk => hk.resolve_left (List.not_mem_nil)⟩
  | cons a l ih =>
    obtain ⟨hwf, hget⟩ := ih (f.set a 0) (set_wf a 0 h)
    refine ⟨hwf, fun k hk => hget k ?_⟩
    by_cases hka : k = a
    · subst hka
      exact .inr (get_set_self k 0 h)
    · rcases hk with hk | hk
      · exact .inl ((List.mem_cons.mp hk).resolve_left hka)
      · exact .inr ((get_set_other 0 h hka).trans hk)

theorem clearPeck_shows (hw : s.stat.wf) :
    (clearPeck q s).stat.wf ∧ ∀ f : Field, f.addr ∈ peckRegs q → Showing f 0 (clearPeck q s) := by
  unfold clearPeck Showing State.st RegFile.fget
  generalize peckRegs q = l
  obtain ⟨hwf, hget⟩ := foldl_set_zero l s.stat hw
  refine ⟨hwf, fun f hf => ⟨hwf, ?_⟩⟩
  rw [hget _ (.inl hf)]
  simp [Field.of, natBits]

/-- What a pass that has begun shows, before its range is looked at (R396). -/
structure Begun (q : Nat) (s t : State) : Prop where
  work : ScrubWork q s t
  chans : t.chans = s.chans
  pass : (t.quad q).scrub.running = true ∧ (t.quad q).scrub.aborting = false ∧ (t.quad q).scrub.lo = s.scrubLo q ∧
    (t.quad q).scrub.hi = s.scrubHi q
  wf : t.stat.wf
  state : (QD_SCRSTAT_STATE q).addr ∉ s.frozen → t.st (QD_SCRSTAT_STATE q) = 1
  line : (QD_PKSLINE_LINE q).addr ∉ s.frozen → t.st (QD_PKSLINE_LINE q) = s.tb.last.line.toNat
  counts : t.st (QD_PKSKIPST_COUNT q) = 0 ∧ t.st (QD_PKSKIPHD_COUNT q) = 0

theorem Showing.foldl {α : Type} {k : State → α → State} {l : List α} (h : Showing f v s)
    (hk : ∀ s, ∀ x ∈ l, Showing f v s → Showing f v (k s x)) : Showing f v (l.foldl k s) :=
  foldl_inv (Showing f v) l (fun t x hx ht => hk t x hx ht) h

theorem startScrub_begins (hw : s.stat.wf) (hq : q < 4) (hrun : (s.quad q).scrub.running = false) :
    ∃ t, Begun q s t ∧ startScrub q s = if s.scrubHi q < s.scrubLo q then endScrub q false t else t := by
  unfold startScrub
  rw [if_neg (by simp [hrun])]
  extract_lets lo hi l s₁ s₂ walks last s₃ s₄
  have hf₁ : ScrubWork q s (clearPeck q s) := ⟨rfl, fun _ _ => rfl⟩
  have hwork₁ : ScrubWork q s s₁ := hf₁.trans ((stamp_frame _ _ _).scrubWork q)
  have hwork₂ : ScrubWork q s s₂ := hwork₁.trans (((setSt_frame s₁ _ _).trans (setSt_frame _ _ _)).scrubWork q)
  have hwork₃ : ScrubWork q s s₃ := hwork₂.trans (onScrub_scrubWork q _ s₂)
  have hpos : SameButStat s₃ s₄ := .foldl (fun _ _ => setSt_frame _ _ _) _ _
  have hchans₂ : s₂.chans = s.chans := (State.setSt_chans ..).trans ((State.setSt_chans ..).trans (State.stamp_chans ..))
  have hfr₁ : s₁.frozen = s.frozen := State.stamp_frozen ..
  obtain ⟨hw₀, hzero⟩ := clearPeck_shows (q := q) hw
  have hw₁ : s₁.stat.wf := State.setSt_stat_wf _ _ (State.setSt_stat_wf _ _ hw₀)
  have hw₂ : s₂.stat.wf := State.setSt_stat_wf _ _ (State.setSt_stat_wf _ _ hw₁)
  have hw₃ : s₃.stat.wf := hw₂
  have hw₄ : s₄.stat.wf := foldl_inv (fun t => t.stat.wf) _ (fun _ _ _ h => State.setSt_stat_wf _ _ h) hw₃
  have hlast (k : Field) (v : Nat) (ha : k.addr < 0x20120 + 0x2000 * q ∨ 0x20130 + 0x2000 * q ≤ k.addr)
      (h : Showing k v s₂) : Showing k v s₄ := by
    refine (h.onScrub : Showing k v s₃).foldl fun t i hi ht => ht.setSt (.inl ?_)
    have hi := List.mem_range.mp hi
    simp only [QD_SCRPOS_Q]
    omega
  refine ⟨s₄, ?_, rfl⟩
  constructor
  · exact hwork₃.trans (hpos.scrubWork q)
  · have hchans₃ : s₃.chans = s.chans := hchans₂
    unfold SameButStat at hpos
    rw [hpos, ← hchans₃]
  · rw [hpos.quad, scrub_onScrub _ hq]
    exact ⟨rfl, rfl, rfl, rfl⟩
  · exact hw₄
  · intro hz
    refine (hlast _ _ (by simp only [QD_SCRSTAT_STATE]; omega) ?_).2
    have h : Showing (QD_SCRSTAT_STATE q) 1 (s₁.setSt (QD_SCRSTAT_STATE q) 1) :=
      .of_setSt hw₁ (by simp [QD_SCRSTAT_STATE]) (by rw [hfr₁]; exact hz) (by simp [QD_SCRSTAT_STATE])
    exact h.setSt (.inr (.inl (by simp [QD_SCRSTAT_STATE, QD_SCRSTAT_ACAUSE])))
  · intro hz
    refine (hlast _ _ (by simp only [QD_PKSLINE_LINE]; omega) ?_).2
    have h : Showing (QD_PKSLINE_LINE q) s.tb.last.line.toNat
        ((clearPeck q s).setSt (QD_PKSLINE_LINE q) s.tb.last.line.toNat) :=
      .of_setSt hw₀ (by simp [QD_PKSLINE_LINE]) hz s.tb.last.line.isLt
    have h₁ : Showing (QD_PKSLINE_LINE q) s.tb.last.line.toNat s₁ :=
      h.setSt (.inl (by simp only [QD_PKSLINE_LINE, QD_PKSFRAME_FRAME]; omega))
    exact (h₁.setSt (.inl (by simp only [QD_PKSLINE_LINE, QD_SCRSTAT_STATE]; omega))).setSt
      (.inl (by simp only [QD_PKSLINE_LINE, QD_SCRSTAT_ACAUSE]; omega))
  · have hcount (k : Field) (ha : k.addr = 0x20150 + 0x2000 * q ∨ k.addr = 0x20154 + 0x2000 * q) : s₄.st k = 0 := by
      have hmem : k.addr ∈ peckRegs q := by
        refine List.mem_map.mpr ?_
        rcases ha with ha | ha
        · exact ⟨4, by decide, by omega⟩
        · exact ⟨5, by decide, by omega⟩
      have h : Showing k 0 s₁ := (hzero k hmem).stamp (.inl (by simp only [QD_PKSLINE_LINE]; omega))
        (.inl (by simp only [QD_PKSFRAME_FRAME]; omega))
      exact (hlast k 0 (by omega) ((h.setSt (.inl (by simp only [QD_SCRSTAT_STATE]; omega))).setSt
        (.inl (by simp only [QD_SCRSTAT_ACAUSE]; omega)))).2
    exact ⟨hcount _ (.inl rfl), hcount _ (.inr rfl)⟩

-- an abort

/-- A line of P30 that belongs to no scrub pass. -/
def PerchLine.unscrubbed (l : PerchLine) : Bool := l.kind ≠ .scrub

theorem perch_dropScrubLines (hc : c < 16) (a : Nat) (s : State) : (dropScrubLines a s).perch c 30 =
    if a = c then (s.perch c 30).filter (·.unscrubbed) else s.perch c 30 := by
  unfold State.perch dropScrubLines
  by_cases ha : a = c
  · subst ha
    rw [if_pos rfl, State.chan_onChan_self _ _ hc]
    exact upd_getD_self _ _ _ (by decide)
  · rw [if_neg ha, State.chan_onChan_other _ _ (Ne.symm ha)]

/-- The lines of a pass leave the perch queue of each channel of a list. -/
theorem perch_foldl {k : State → Nat → State} (hc : c < 16)
    (hk : ∀ s a, (k s a).perch c 30 = (dropScrubLines a s).perch c 30) {l : List Nat} (hl : l.Nodup) (hm : c ∈ l) (s : State) :
    (l.foldl k s).perch c 30 = (s.perch c 30).filter (·.unscrubbed) := by
  have hkeep {l' : List Nat} (hn : c ∉ l') (u : State) : (l'.foldl k u).perch c 30 = u.perch c 30 :=
    foldl_inv (fun t => t.perch c 30 = u.perch c 30) l' (fun t a ha ht => by
      rw [hk, perch_dropScrubLines hc, if_neg (ne_of_mem_of_not_mem ha hn), ht]) rfl
  obtain ⟨l₁, l₂, rfl⟩ := List.append_of_mem hm
  obtain ⟨-, hl₂, hdis⟩ := List.nodup_append.mp hl
  rw [List.foldl_append, List.foldl_cons, hkeep (List.nodup_cons.mp hl₂).1, hk, perch_dropScrubLines hc, if_pos rfl,
    hkeep fun h => hdis c h c (List.mem_cons_self ..) rfl]

/-- One channel's part in an abort: its lines of the pass leave the perch queue and the count. -/
def abortAt (q : Nat) (s : State) (c : Nat) : State :=
  (dropScrubLines c s).onScrub q fun p => { p with out := upd p.out (c % 4) (· - s.scrubLines c) }

theorem abortScrub_eq (cause : Nat) (hrun : (s.quad q).scrub.running = true) : abortScrub q cause s =
    (quadChans q).foldl (abortAt q) ((s.setSt (QD_SCRSTAT_ACAUSE q) cause).onScrub q fun p => { p with aborting := true }) :=
  if_neg (by simp [hrun])

theorem abortAt_work (q : Nat) (s : State) (c : Nat) : ScrubWork q s (abortAt q s c) :=
  (onChan_scrubWork q c _ s).trans (onScrub_scrubWork q _ _)

theorem abortAt_pass (hq : q < 4) (s : State) (c : Nat) :
    ((abortAt q s c).quad q).scrub.aborting = (s.quad q).scrub.aborting ∧
    ((abortAt q s c).quad q).scrub.running = (s.quad q).scrub.running := by
  unfold abortAt
  rw [scrub_onScrub _ hq]
  exact ⟨rfl, rfl⟩

theorem quadChans_nodup (q : Nat) : (quadChans q).Nodup := by simp [quadChans]

theorem onScrub_perch (f : ScrubPass → ScrubPass) (p : Nat) : (s.onScrub q f).perch c p = s.perch c p := rfl

theorem SameButStat.perch (h : SameButStat s t) (c p : Nat) : t.perch c p = s.perch c p := by
  unfold State.perch
  rw [h.chan]

theorem abortScrub_shows (cause : Nat) (hq : q < 4) (hrun : (s.quad q).scrub.running = true) :
    ((abortScrub q cause s).quad q).scrub.aborting = true ∧ ((abortScrub q cause s).quad q).scrub.running = true ∧
    (∀ c ∈ quadChans q, (abortScrub q cause s).perch c 30 = (s.perch c 30).filter (·.unscrubbed)) ∧
    ScrubWork q s (abortScrub q cause s) := by
  rw [abortScrub_eq cause hrun]
  have hset : SameButStat s (s.setSt (QD_SCRSTAT_ACAUSE q) cause) := setSt_frame _ _ _
  generalize s.setSt (QD_SCRSTAT_ACAUSE q) cause = u at hset ⊢
  have hpass : ((u.onScrub q fun p => { p with aborting := true }).quad q).scrub.aborting = true ∧
      ((u.onScrub q fun p => { p with aborting := true }).quad q).scrub.running = true := by
    rw [scrub_onScrub _ hq, hset.quad]
    exact ⟨rfl, hrun⟩
  obtain ⟨habort, hruns⟩ := foldl_inv (fun t => (t.quad q).scrub.aborting = true ∧ (t.quad q).scrub.running = true)
    (quadChans q) (f := abortAt q) (fun t c _ ht => by
      obtain ⟨ha, hr⟩ := abortAt_pass hq t c
      exact ⟨ha.trans ht.1, hr.trans ht.2⟩) hpass
  refine ⟨habort, hruns, fun c hc => ?_, ?_⟩
  · have hlt : c < 16 := by
      simp only [quadChans, List.mem_cons, List.not_mem_nil, or_false] at hc
      omega
    refine (perch_foldl hlt (fun _ _ => onScrub_perch _ _) (quadChans_nodup q) hc _).trans ?_
    rw [onScrub_perch, hset.perch]
  · exact ((hset.scrubWork q).trans (onScrub_scrubWork q _ u)).trans (.foldl (abortAt_work q) _ _)

-- idle permission

/-- A duty that is idle for long enough at a channel with no line of a port gains idle permission (R393). -/
def permitDuty (c : Nat) (s : State) (d : Duty) : State :=
  if s.idleOn c d && (s.chan c).idleAt + 16 * s.idleWait c d ≤ s.now && (s.chan c).holds 2 then
    s.onChan c fun x => x.setPerm d (x.perm d ||| 2)
  else s

theorem idlePermit_eq (c : Nat) (s : State) :
    idlePermit c s = permitDuty c (permitDuty c (permitDuty c s .scrub) .migration) .rekey := rfl

/-- The duty has its idle permission at a channel. -/
def State.mayIdle (s : State) (c : Nat) (d : Duty) : Bool :=
  s.idleOn c d && decide ((s.chan c).idleAt + 16 * s.idleWait c d ≤ s.now) && !(s.chan c).portsWait

theorem perm_setPerm (x : Chan) (d e : Duty) (v : Nat) : (x.setPerm d v).perm e = if e = d then v else x.perm e := by
  cases d <;> cases e <;> rfl

theorem setPerm_rest (x : Chan) (d : Duty) (v : Nat) : (x.setPerm d v).idleAt = x.idleAt ∧ (x.setPerm d v).arb = x.arb := by
  cases d <;> exact ⟨rfl, rfl⟩

/-- Of a channel only the permissions of some duties move. -/
def OnlyPerms (c : Nat) (s t : State) : Prop :=
  t = { s with chans := t.chans } ∧ (∀ d, d ≠ c → t.chan d = s.chan d) ∧ (t.chan c).idleAt = (s.chan c).idleAt ∧
    (t.chan c).arb = (s.chan c).arb

theorem OnlyPerms.trans (h : OnlyPerms c s t) (h' : OnlyPerms c t u) : OnlyPerms c s u := by
  obtain ⟨heq, hchan, hidle, harb⟩ := h
  obtain ⟨heq', hchan', hidle', harb'⟩ := h'
  exact ⟨by rw [heq', heq], fun d hd => (hchan' d hd).trans (hchan d hd), hidle'.trans hidle, harb'.trans harb⟩

theorem OnlyPerms.mayIdle (h : OnlyPerms c s t) (d : Duty) : t.mayIdle c d = s.mayIdle c d := by
  obtain ⟨heq, -, hidle, harb⟩ := h
  unfold State.mayIdle Chan.portsWait
  rw [hidle, harb, heq]
  cases d <;> rfl

theorem permitDuty_eq (c : Nat) (s : State) (d : Duty) : permitDuty c s d =
    if s.mayIdle c d then s.onChan c fun x => x.setPerm d (x.perm d ||| 2) else s := rfl

theorem permitDuty_only (hc : c < 16) (s : State) (d : Duty) : OnlyPerms c s (permitDuty c s d) := by
  rw [permitDuty_eq]
  split
  · refine ⟨rfl, fun e he => State.chan_onChan_other _ _ he, ?_, ?_⟩
    · rw [State.chan_onChan_self _ _ hc, (setPerm_rest _ _ _).1]
    · rw [State.chan_onChan_self _ _ hc, (setPerm_rest _ _ _).2]
  · exact ⟨rfl, fun _ _ => rfl, rfl, rfl⟩

theorem permitDuty_perm (hc : c < 16) (s : State) (d e : Duty) : ((permitDuty c s d).chan c).perm e =
    if e = d ∧ s.mayIdle c d = true then (s.chan c).perm e ||| 2 else (s.chan c).perm e := by
  rw [permitDuty_eq]
  by_cases hm : s.mayIdle c d = true
  · rw [if_pos hm, State.chan_onChan_self _ _ hc, perm_setPerm]
    by_cases he : e = d
    · rw [if_pos he, if_pos ⟨he, hm⟩, he]
    · rw [if_neg he, if_neg fun h => he h.1]
  · rw [if_neg hm, if_neg fun h => hm h.2]

theorem idlePermit_shows (hc : c < 16) (s : State) : OnlyPerms c s (idlePermit c s) ∧
    ∀ d, ((idlePermit c s).chan c).perm d = if s.mayIdle c d then (s.chan c).perm d ||| 2 else (s.chan c).perm d := by
  rw [idlePermit_eq]
  have h₁ := permitDuty_only hc s .scrub
  have h₂ := h₁.trans (permitDuty_only hc _ .migration)
  refine ⟨h₂.trans (permitDuty_only hc _ .rekey), fun d => ?_⟩
  rw [permitDuty_perm hc, h₂.mayIdle, permitDuty_perm hc, h₁.mayIdle, permitDuty_perm hc]
  cases d <;> simp

end

/-- Settles O44: a pass begins and ends by its steps in order; an abort and the idle permission channel by channel. -/
theorem scrubPassesStartAndEnd : Obligations.ScrubPassesStartAndEnd := by
  intro s q hcan hclk running shows_ final quiet
  have hw := canonical_stat hcan
  refine ⟨fun hrun hrange => ?_, fun hrun hrange => ?_, fun hrun => ?_, fun hrun => ?_, fun hrun => ?_,
    fun hrun hdone => ?_, fun ch hhalt => ?_⟩
  · obtain ⟨t, hbegun, hstart⟩ := startScrub_begins hw q.isLt hrun
    have hexec : exec (.scrubStart q) s = .next t :=
      congrArg Host.Outcome.next ((if_pos hclk).trans (hstart.trans (if_neg (Nat.not_lt.mpr hrange))))
    obtain ⟨hwork, hchans, ⟨hruns, habort, hlo, hhi⟩, -, hstate, hline, hst, hhd⟩ := hbegun
    exact ⟨t, hexec, hruns, habort, hstate, hlo, hhi, hchans, hwork, hline, hst, hhd⟩
  · obtain ⟨t, hbegun, hstart⟩ := startScrub_begins hw q.isLt hrun
    have hexec : exec (.scrubStart q) s = .next (endScrub q false t) :=
      congrArg Host.Outcome.next ((if_pos hclk).trans (hstart.trans (if_pos hrange)))
    have hfrozen : t.frozen = s.frozen := by rw [hbegun.work.1]
    have hshows := endScrub_shows (q := q) false hbegun.wf
    rw [hfrozen] at hshows
    exact ⟨_, hexec, ⟨endScrub_running false q.isLt, hshows⟩, (endScrub_chans ..).trans hbegun.chans,
      hbegun.work.trans (endScrub_work q false t)⟩
  · exact congrArg Host.Outcome.next ((if_pos hclk).trans (if_pos hrun))
  · have hexec : exec (.scrubAbort q) s = .next (abortScrub q 0 s) := congrArg Host.Outcome.next (if_pos hclk)
    obtain ⟨habort, hruns, hperch, hwork⟩ := abortScrub_shows 0 q.isLt hrun
    exact ⟨_, hexec, habort, hruns, hperch, hwork⟩
  · refine congrArg Host.Outcome.next ((if_pos hclk).trans (if_pos ?_))
    simpa using hrun
  · have hall : ((quadChans q).all fun c => ((s.quad q).scrub.aborting || s.walked c) && s.scrubOut c == 0) = true := by
      simpa using hdone
    have hexec : exec (.scrubPassEnd q) s = .next (endScrub q (s.quad q).scrub.aborting s) := by
      refine congrArg Host.Outcome.next (if_pos ?_)
      rw [hclk, hall]
      simpa using hrun
    exact ⟨_, hexec, ⟨endScrub_running _ q.isLt, endScrub_shows _ hw⟩, endScrub_chans .., endScrub_work q _ s⟩
  · have hexec : exec (.idlePermission ch) s = .next (idlePermit ch s) :=
      congrArg Host.Outcome.next (if_pos (by simp [State.intakeRuns, hclk, hhalt]))
    obtain ⟨⟨heq, hchan, -⟩, hperm⟩ := idlePermit_shows ch.isLt s
    exact ⟨_, hexec, heq, hchan, hperm⟩

end Sys2Proof.Machine
end

section
/-!
Windows, sweeps and retrain requests of the calibration engines (O45).
-/

namespace Sys2Proof.Machine

section

variable {s t u : State} {c i n e l : Nat}

-- the calibrator of a channel

theorem onCal_onCal (f g : ChanCal → ChanCal) : (s.onCal c f).onCal c g = s.onCal c fun x => g (f x) := by
  unfold State.onCal upd
  by_cases h : c < 16 <;> simp [h]

theorem bitCal_onBit_self (f : BitCal → BitCal) (hc : c < 16) (hi : i < 36) :
    (s.onBit c i f).bitCal c i = f (s.bitCal c i) := by
  unfold State.bitCal State.onBit
  rw [State.cal_onCal_self _ _ hc]
  exact upd_getD_self _ _ _ hi

theorem bitCal_onBit_other (f : BitCal → BitCal) {j : Nat} (hc : c < 16) (hj : j ≠ i) :
    (s.onBit c i f).bitCal c j = s.bitCal c j := by
  unfold State.bitCal State.onBit
  rw [State.cal_onCal_self _ _ hc]
  exact upd_getD_other _ _ _ hj

/-- A channel has a retrain pending. -/
def State.retrains (s : State) (c : Nat) : Bool := (s.cal c).booked.any (·.1 == 1)

theorem bitCal_congr (h : (t.cal c).bits = (s.cal c).bits) (i : Nat) : t.bitCal c i = s.bitCal c i := by
  unfold State.bitCal
  rw [h]

-- a retrain is requested

/-- A request that nothing stands against is booked with its cause (R412). -/
theorem requestRetrain_of_free {cause : Nat} (hpause : s.paused (quadOf c) = false) (hbusy : s.retrains c = false)
    (hret : (s.chan c).state ≠ .retired) (htest : (s.chan c).state ≠ .test) (hc : c < 16) :
    ((requestRetrain c cause s).cal c) = { s.cal c with booked := (s.cal c).booked ++ [(1, 0)], rtCause := cause } ∧
    requestRetrain c cause s = { s with cals := (requestRetrain c cause s).cals } := by
  have heq : requestRetrain c cause s = bookStep c 1 0 (s.onCal c fun x => { x with rtCause := cause }) := by
    refine if_neg ?_
    have hnone : ((s.cal c).booked.any (·.1 == 1)) = false := hbusy
    rw [hpause, hnone]
    simp [hret, htest]
  have hno : (s.cal c).booked.contains (1, 0) = false := by
    refine Bool.eq_false_iff.mpr fun h => ?_
    have hany : s.retrains c = true := List.any_eq_true.mpr ⟨(1, 0), List.contains_iff_mem.mp h, rfl⟩
    simp [hbusy] at hany
  rw [heq]
  refine ⟨?_, rfl⟩
  unfold bookStep
  rw [onCal_onCal, State.cal_onCal_self _ _ hc]
  simp only [hno]
  rfl

theorem requestRetrain_of_held {cause : Nat} (h : s.paused (quadOf c) = true ∨ s.retrains c = true ∨
    (s.chan c).state = .retired ∨ (s.chan c).state = .test) : requestRetrain c cause s = s := by
  refine if_pos ?_
  simpa [State.retrains, or_assoc] using h

-- a window closes outside a sweep

/-- The tracker at the end of its range: LIMITS counts, and a retrain is asked for (R415). -/
structure LimitTold (c : Nat) (s t : State) : Prop where
  frame : t = { s with cals := t.cals, stat := t.stat, news := t.news }
  bits : (t.cal c).bits = (s.cal c).bits
  asked : t.retrains c = true
  fresh : s.retrains c = false → (t.cal c).rtCause = 1 ∧ (1, 0) ∈ (t.cal c).booked
  counted : s.stat.wf → (QD_CALEVT_LIMITS (quadOf c)).addr ∉ s.frozen →
    t.st (QD_CALEVT_LIMITS (quadOf c)) = min (QD_CALEVT_LIMITS (quadOf c)).max (s.st (QD_CALEVT_LIMITS (quadOf c)) + 1)

theorem limitReached_told (hpause : s.paused (quadOf c) = false) (hret : (s.chan c).state ≠ .retired)
    (htest : (s.chan c).state ≠ .test) (hc : c < 16) : LimitTold c s (limitReached c s) := by
  have hbump := bump_frame s (QD_CALEVT_LIMITS (quadOf c)) 1
  have hcount (hw : s.stat.wf) (hz : (QD_CALEVT_LIMITS (quadOf c)).addr ∉ s.frozen) :=
    State.st_bump_self (QD_CALEVT_LIMITS (quadOf c)) 1 hw (by simp [QD_CALEVT_LIMITS]) hz
  unfold limitReached
  generalize s.bump (QD_CALEVT_LIMITS (quadOf c)) = u at hbump hcount ⊢
  have hcal : u.cal c = s.cal c := by
    unfold SameButStat at hbump
    rw [hbump]
    rfl
  have hpause' : u.paused (quadOf c) = false := by
    unfold SameButStat at hbump
    rw [hbump]
    exact hpause
  have hretrains : u.retrains c = s.retrains c := by
    unfold State.retrains
    rw [hcal]
  have hmem : (1, 0) ∈ (s.cal c).booked ++ [(1, 0)] := List.mem_append_right _ (List.mem_singleton.mpr rfl)
  unfold SameButStat at hbump
  cases hbusy : s.retrains c with
  | true =>
    rw [requestRetrain_of_held (.inr (.inl (by rw [hretrains, hbusy])))]
    exact ⟨by rw [hbump], by rw [hcal], by rw [hretrains, hbusy], by rw [hbusy]; nofun, hcount⟩
  | false =>
    obtain ⟨hself, hframe⟩ := requestRetrain_of_free (s := u) (cause := 1) hpause' (by rw [hretrains, hbusy])
      (by rw [hbump]; exact hret) (by rw [hbump]; exact htest) hc
    generalize requestRetrain c 1 u = t at hself hframe ⊢
    refine ⟨by rw [hframe, hbump], by rw [hself, hcal], ?_, fun _ => ?_, fun hw hz => ?_⟩
    · unfold State.retrains
      rw [hself, hcal]
      exact List.any_eq_true.mpr ⟨(1, 0), hmem, rfl⟩
    · rw [hself, hcal]
      exact ⟨rfl, hmem⟩
    · rw [hframe]
      exact hcount hw hz

/-- What the close of a T window makes of its bit, its target apart. -/
def State.trackOnce (s : State) (c : Nat) (b : BitCal) : BitCal :=
  { b with windows := if (s.cal c).sweepOn then 0 else b.windows + 1, nextP := b.sweeping }

/-- A T window moves its target by the sign of the difference, beyond the threshold (R415). -/
theorem closeTrack_eq : closeTrack c i n e l s =
    if l > e + n >>> s.cf (QD_CALCFG_THR (quadOf c)) then
      if (s.bitCal c i).tgtRd = 0 then limitReached c (s.onBit c i (s.trackOnce c))
      else (s.onBit c i (s.trackOnce c)).onBit c i fun b => { b with tgtRd := (s.bitCal c i).tgtRd - 1 }
    else if e > l + n >>> s.cf (QD_CALCFG_THR (quadOf c)) then
      if (s.bitCal c i).tgtRd ≥ 511 then limitReached c (s.onBit c i (s.trackOnce c))
      else (s.onBit c i (s.trackOnce c)).onBit c i fun b => { b with tgtRd := (s.bitCal c i).tgtRd + 1 }
    else s.onBit c i (s.trackOnce c) := by
  unfold closeTrack
  extract_lets t u apart
  have hthr : u.cf (QD_CALCFG_THR (quadOf c)) = s.cf (QD_CALCFG_THR (quadOf c)) := rfl
  have hapart : apart = if e ≥ l then e - l else l - e := rfl
  rw [hthr]
  generalize n >>> s.cf (QD_CALCFG_THR (quadOf c)) = thr
  by_cases hl : l > e + thr
  · rw [if_neg (by rw [hapart, if_neg (by omega)]; omega), if_pos (show l > e by omega), if_pos hl]
    rfl
  · by_cases he : e > l + thr
    · rw [if_neg (by rw [hapart, if_pos (by omega)]; omega), if_neg (show ¬ l > e by omega), if_neg hl, if_pos he]
      rfl
    · rw [if_pos (by rw [hapart]; split <;> omega), if_neg hl, if_neg he]
      rfl

/-- What a closed window leaves of its bit, with the target it has now; the other bits are as they were. -/
def Tracked (c i m : Nat) (s t : State) : Prop :=
  (t.bitCal c i).tgtRd = m ∧ (t.bitCal c i).windows = (if (s.cal c).sweepOn then 0 else (s.bitCal c i).windows + 1) ∧
    ∀ j, j ≠ i → t.bitCal c j = s.bitCal c j

theorem trackOnce_tracked (hc : c < 16) (hi : i < 36) :
    Tracked c i (s.bitCal c i).tgtRd s (s.onBit c i (s.trackOnce c)) := by
  refine ⟨?_, ?_, fun j hj => bitCal_onBit_other _ hc hj⟩
  · rw [bitCal_onBit_self _ hc hi]
    rfl
  · rw [bitCal_onBit_self _ hc hi]
    rfl

theorem Tracked.moved {m k : Nat} (h : Tracked c i k s t) (hc : c < 16) (hi : i < 36) :
    Tracked c i m s (t.onBit c i fun b => { b with tgtRd := m }) := by
  obtain ⟨-, hwin, hother⟩ := h
  refine ⟨?_, ?_, fun j hj => (bitCal_onBit_other _ hc hj).trans (hother j hj)⟩
  · rw [bitCal_onBit_self _ hc hi]
  · rw [bitCal_onBit_self _ hc hi]
    exact hwin

theorem Tracked.limit {m : Nat} (h : Tracked c i m s t) (h' : LimitTold c t u) : Tracked c i m s u := by
  obtain ⟨htgt, hwin, hother⟩ := h
  have hbit := bitCal_congr h'.bits
  exact ⟨by rw [hbit]; exact htgt, by rw [hbit]; exact hwin, fun j hj => by rw [hbit]; exact hother j hj⟩

/-- The target after the window, by the disagreements on either side and the threshold (R415). -/
def nextTarget (e l thr v : Nat) : Nat :=
  if l > e + thr ∧ 0 < v then v - 1 else if e > l + thr ∧ v < 511 then v + 1 else v

/-- The close of a window outside a sweep, at a channel at work (R415). -/
theorem closeTrack_shows {thr : Nat} (hthr : thr = n >>> s.cf (QD_CALCFG_THR (quadOf c)))
    (hpause : s.paused (quadOf c) = false) (hret : (s.chan c).state ≠ .retired)
    (htest : (s.chan c).state ≠ .test) (hc : c < 16) (hi : i < 36) :
    Tracked c i (nextTarget e l thr (s.bitCal c i).tgtRd) s (closeTrack c i n e l s) ∧
    (e ≤ l + thr → l ≤ e + thr → closeTrack c i n e l s = { s with cals := (closeTrack c i n e l s).cals }) ∧
    (l > e + thr ∧ (s.bitCal c i).tgtRd = 0 ∨ e > l + thr ∧ 511 ≤ (s.bitCal c i).tgtRd →
      LimitTold c (s.onBit c i (s.trackOnce c)) (closeTrack c i n e l s)) ∧
    closeTrack c i n e l s = { s with
      cals := (closeTrack c i n e l s).cals, stat := (closeTrack c i n e l s).stat
      news := (closeTrack c i n e l s).news } := by
  have htrack := trackOnce_tracked (s := s) hc hi
  have hlimit : LimitTold c (s.onBit c i (s.trackOnce c)) (limitReached c (s.onBit c i (s.trackOnce c))) :=
    limitReached_told hpause hret htest hc
  rw [closeTrack_eq, ← hthr]
  unfold nextTarget
  by_cases hl : l > e + thr
  · by_cases hz : (s.bitCal c i).tgtRd = 0
    · rw [if_pos hl, if_pos hz, if_neg (by omega), if_neg (by omega)]
      exact ⟨htrack.limit hlimit, fun _ h => absurd h (by omega), fun _ => hlimit, by rw [hlimit.frame]; rfl⟩
    · rw [if_pos hl, if_neg hz, if_pos (by omega)]
      exact ⟨htrack.moved hc hi, fun _ h => absurd h (by omega), fun h => absurd h (by omega), rfl⟩
  · by_cases he : e > l + thr
    · by_cases hm : (s.bitCal c i).tgtRd ≥ 511
      · rw [if_neg hl, if_pos he, if_pos hm, if_neg (by omega), if_neg (by omega)]
        exact ⟨htrack.limit hlimit, fun h => absurd h (by omega), fun _ => hlimit, by rw [hlimit.frame]; rfl⟩
      · rw [if_neg hl, if_pos he, if_neg hm, if_neg (by omega), if_pos (by omega)]
        exact ⟨htrack.moved hc hi, fun h => absurd h (by omega), fun h => absurd h (by omega), rfl⟩
    · rw [if_neg hl, if_neg he, if_neg (by omega), if_neg (by omega)]
      exact ⟨htrack, fun _ _ => rfl, fun h => absurd h (by omega), rfl⟩

-- sweeps

/-- A sweep of a bit from its next offset (R416). -/
def BitCal.sweep (h : Nat) (b : BitCal) : BitCal :=
  { b with sweeping := true, nextP := true, h := h, left := none, right := none, windows := 0 }

theorem startSweep_of_rest (h : (s.cal c).sweepOn = false) : startSweep c s = s.onCal c fun x =>
    { x with bits := x.bits.map (BitCal.sweep (s.cf (QD_CALCFG_TRKOFS (quadOf c)) + 1)), sweepOn := true } :=
  if_neg (by simp [h])

theorem startSweep_bit (h : (s.cal c).sweepOn = false) (hc : c < 16) (hi : i < 36) :
    (startSweep c s).bitCal c i = (s.bitCal c i).sweep (s.cf (QD_CALCFG_TRKOFS (quadOf c)) + 1) := by
  rw [startSweep_of_rest h]
  unfold State.bitCal
  rw [State.cal_onCal_self _ _ hc]
  simp [Vector.getD, hi]

theorem startSweep_frame (c : Nat) (s : State) : startSweep c s = { s with cals := (startSweep c s).cals } := by
  unfold startSweep
  split <;> rfl

theorem startSweep_cal_other {d : Nat} (h : d ≠ c) : (startSweep c s).cal d = s.cal d := by
  unfold startSweep
  split
  · rfl
  · exact State.cal_onCal_other _ _ h

/-- What a sweep makes of the calibrator of its channel depends on that channel and the configuration alone. -/
theorem startSweep_cal_congr (hcal : t.cal c = s.cal c) (hcfg : t.cfg = s.cfg) (hc : c < 16) :
    (startSweep c t).cal c = (startSweep c s).cal c := by
  unfold startSweep
  rw [hcal]
  split
  · exact hcal
  · rw [State.cal_onCal_self _ _ hc, State.cal_onCal_self _ _ hc, hcal, State.cf_congr hcfg]

/-- A sweep at a channel in service. -/
def sweepServing (s : State) (c : Nat) : State := if (s.chan c).inService then startSweep c s else s

theorem sweepServing_frame (s : State) (c : Nat) : sweepServing s c = { s with cals := (sweepServing s c).cals } := by
  unfold sweepServing
  split
  · exact startSweep_frame c s
  · rfl

theorem sweepServing_cal_other {d : Nat} (h : d ≠ c) : (sweepServing s c).cal d = s.cal d := by
  unfold sweepServing
  split
  · exact startSweep_cal_other h
  · rfl

theorem foldl_sweepServing (l : List Nat) (hl : l.Nodup) (s : State) :
    l.foldl sweepServing s = { s with cals := (l.foldl sweepServing s).cals } ∧
    ∀ c < 16, (l.foldl sweepServing s).cal c =
      if c ∈ l ∧ (s.chan c).inService then (startSweep c s).cal c else s.cal c := by
  induction l generalizing s with
  | nil => exact ⟨rfl, fun c _ => (if_neg fun h => nomatch h.1).symm⟩
  | cons a l ih =>
    obtain ⟨ha, hl⟩ := List.nodup_cons.mp hl
    obtain ⟨hframe, hcal⟩ := ih hl (sweepServing s a)
    have hstep := sweepServing_frame s a
    have hchan (c : Nat) : (sweepServing s a).chan c = s.chan c := by
      rw [hstep]
      rfl
    rw [List.foldl_cons]
    refine ⟨by rw [hframe, hstep], fun c hc => ?_⟩
    rw [hcal c hc, hchan]
    by_cases hca : c = a
    · subst hca
      rw [if_neg fun h => ha h.1]
      unfold sweepServing
      by_cases hserv : (s.chan c).inService
      · rw [if_pos hserv, if_pos ⟨List.mem_cons_self .., hserv⟩]
      · rw [if_neg hserv, if_neg fun h => hserv h.2]
    · have hsame : (startSweep c (sweepServing s a)).cal c = (startSweep c s).cal c :=
        startSweep_cal_congr (sweepServing_cal_other hca) (by rw [hstep]) hc
      rw [hsame, sweepServing_cal_other hca]
      simp only [List.mem_cons, hca, false_or]

theorem calWorks_shows {r : Nat} (h : s.calWorks c r = true) : s.paused (quadOf c) = false ∧
    (s.chan c).state ≠ .retired ∧ (s.chan c).state ≠ .test := by
  unfold State.calWorks at h
  simp only [Bool.and_eq_true, Bool.not_eq_true', decide_eq_true_eq] at h
  obtain ⟨⟨⟨⟨⟨⟨-, hret⟩, htest⟩, -⟩, hpause⟩, -⟩, -⟩ := h
  exact ⟨hpause, hret, htest⟩

/-- A window has closed: its rank needs no read fill (R418). -/
def noFill (c r : Nat) (s : State) : State :=
  (s.onCal c fun x => { x with
    closedAt := upd x.closedAt r fun _ => s.now, booked := x.booked.filter (· ≠ (6, r)) }).unpost fun b =>
      b.work == .calStep 6 && b.unit == 2 * c + r

theorem noFill_cal {r : Nat} (hc : c < 16) : (noFill c r s).cal c = { s.cal c with
    closedAt := upd (s.cal c).closedAt r fun _ => s.now, booked := (s.cal c).booked.filter (· ≠ (6, r)) } :=
  State.cal_onCal_self _ _ hc

theorem noFill_bitCal {r : Nat} (hc : c < 16) (i : Nat) : (noFill c r s).bitCal c i = s.bitCal c i :=
  bitCal_congr (by rw [noFill_cal hc]) i

theorem onBit_retrains (f : BitCal → BitCal) (hc : c < 16) : (s.onBit c i f).retrains c = s.retrains c := by
  unfold State.retrains State.onBit
  rw [State.cal_onCal_self _ _ hc]

theorem noFill_retrains {r : Nat} (hc : c < 16) (h : s.retrains c = false) : (noFill c r s).retrains c = false := by
  unfold State.retrains at *
  rw [noFill_cal hc]
  refine List.any_eq_false.mpr fun e he => List.any_eq_false.mp h e ?_
  exact List.mem_of_mem_filter he

end

/-- Settles O45: the windows by their difference, sweeps at the channels in service, and retrains booked once. -/
theorem windowsMoveReadTargets : Obligations.WindowsMoveReadTargets := by
  refine ⟨fun s ch bit e l => ?_, fun s ch hw0 hw1 hn hall => ⟨?_, fun hrest i => ?_⟩, fun s q hclk hpause => ?_,
    fun s ch hclk => ⟨fun h => ?_, fun hpause hbusy hout => ?_⟩, fun s ch r hworks hserv hn hstale => ⟨?_, ?_⟩⟩
  · intro n thr b hworks htrk he hl hrest
    obtain ⟨hpause, hret, htest⟩ := calWorks_shows hworks
    have hsweep : (((noFill ch (bitRank bit) s).bitCal ch bit).sweeping && ((noFill ch (bitRank bit) s).bitCal ch bit).nextP) =
        false := by
      rw [noFill_bitCal ch.isLt]
      simp only [b] at hrest
      rw [hrest]
      rfl
    have hexec : exec (.calWindowClose ch bit e l) s = .next (closeTrack ch bit n e l (noFill ch (bitRank bit) s)) := by
      refine (if_pos ⟨hworks, htrk, he, hl⟩).trans (congrArg Host.Outcome.next (if_neg ?_))
      exact Bool.eq_false_iff.mp hsweep
    obtain ⟨⟨htgt, hwin, hother⟩, hstill, hlimit, hframe⟩ := closeTrack_shows (e := e) (l := l) (n := n) (thr := thr)
      (s := noFill ch (bitRank bit) s) rfl hpause hret htest ch.isLt bit.isLt
    rw [noFill_bitCal ch.isLt] at htgt hwin hlimit
    rw [noFill_cal ch.isLt] at hwin
    refine ⟨_, hexec, htgt, hwin, fun j hj => (hother j hj).trans (noFill_bitCal ch.isLt j), fun h h' => ?_, fun h => ?_,
      by rw [hframe]; rfl, by rw [hframe]; rfl, by rw [hframe]; rfl⟩
    · rw [hstill h h']
      rfl
    · have htold := hlimit h
      refine ⟨htold.asked, fun hbusy => htold.fresh ?_, fun hcan hz => ?_⟩
      · exact (onBit_retrains _ ch.isLt).trans (noFill_retrains ch.isLt hbusy)
      · exact htold.counted (canonical_stat hcan) hz
  · refine congrArg Host.Outcome.next (if_pos ?_)
    have hready : (allBits.all fun i => !s.trackedRd ch i ||
        decide (s.cf (QD_CALCFG_MPER (quadOf ch)) ≤ (s.bitCal ch i).windows)) = true := by
      refine List.all_eq_true.mpr fun i hi => ?_
      have hi := List.mem_range.mp hi
      cases htrk : s.trackedRd ch i with
      | false => rfl
      | true => simpa using hall ⟨i, hi⟩ htrk
    simp only [hw0, hw1, hready]
    simpa using hn
  · rw [startSweep_bit hrest ch.isLt i.isLt]
    exact ⟨rfl, rfl⟩
  · have hexec : exec (.sweep q) s = .next ((quadChans q).foldl sweepServing s) :=
      congrArg Host.Outcome.next (if_pos ⟨hclk, by simp [hpause]⟩)
    exact ⟨_, hexec, foldl_sweepServing _ (quadChans_nodup q) s⟩
  · refine congrArg Host.Outcome.next ((if_pos hclk).trans (requestRetrain_of_held ?_))
    exact h
  · have hexec : exec (.retrain ch) s = .next (requestRetrain ch 4 s) := congrArg Host.Outcome.next (if_pos hclk)
    obtain ⟨hret, htest⟩ := not_or.mp hout
    obtain ⟨hself, hframe⟩ := requestRetrain_of_free (cause := 4) hpause (Bool.eq_false_iff.mpr hbusy) hret htest ch.isLt
    exact ⟨_, hexec, by rw [hself], by rw [hself], hframe⟩
  · exact congrArg Host.Outcome.next (if_pos ⟨hworks, hserv, hn, hstale⟩)
  · exact bookStep_booked 6 ch.isLt

end Sys2Proof.Machine
end

section
/-!
A live correction moves one delay or code by one step (O47).
-/

namespace Sys2Proof.Machine

section

variable {s t : State} {c i q n v w k : Nat} {f g : Field}

-- one step

theorem toward_lt {b : Nat} (hv : v < b) (ht : n < b) : toward v n < b := by
  unfold toward
  split
  · omega
  · split <;> omega

theorem Showing.bump (h : Showing f v s) (n : Nat) (ha : f.apart g) : Showing f v (s.bump g n) := by
  obtain ⟨hw, hv⟩ := h
  exact ⟨State.bump_stat_wf _ _ hw, by rw [State.st_bump_other _ _ _ hw ha, hv]⟩

theorem Showing.onBit {k : BitCal → BitCal} (h : Showing f v s) : Showing f v (s.onBit c i k) := h

theorem Showing.self (hw : s.stat.wf) (f : Field) : Showing f (s.st f) s := ⟨hw, rfl⟩

/-- A move is counted over what the register showed (R426). -/
theorem countMove_counts (h : Showing (QD_CALTAPS_MOVES q) v s) (hz : (QD_CALTAPS_MOVES q).addr ∉ s.frozen) :
    (countMove q s).st (QD_CALTAPS_MOVES q) = min (QD_CALTAPS_MOVES q).max (v + 1) := by
  obtain ⟨hw, rfl⟩ := h
  exact State.st_bump_self _ 1 hw (by simp [QD_CALTAPS_MOVES]) hz

-- the per-bit delays

/-- The register of a per-bit delay. -/
def bitAddr (c k i : Nat) : Nat := 0x10B00 + 0x1000 * c + 0x100 * k + 0x80 * bitRank i + 0x4 * bitNum i

theorem bitAddr_ne {j : Nat} (h : j ≠ i) : bitAddr c k j ≠ bitAddr c k i := by
  unfold bitAddr bitRank bitNum
  omega

theorem bitAddr_moves (hk : k < 4) (hi : i < 36) : bitAddr c k i ≠ (QD_CALTAPS_MOVES q).addr := by
  simp only [bitAddr, bitRank, bitNum, QD_CALTAPS_MOVES]
  omega

/-- A delay of a bit is moved, with the time of its move, and counted. -/
def moveBit (c i : Nat) (f : Field) (v : Nat) (k : BitCal → BitCal) (s : State) : State :=
  countMove (quadOf c) ((s.setSt f v).onBit c i k)

theorem moveBit_frame (k : BitCal → BitCal) : moveBit c i f v k s =
    { s with stat := (moveBit c i f v k s).stat, news := (moveBit c i f v k s).news, cals := (moveBit c i f v k s).cals } := by
  unfold moveBit countMove
  have hset : SameButStat s (s.setSt f v) := setSt_frame _ _ _
  generalize s.setSt f v = u at hset ⊢
  have hbump : SameButStat (u.onBit c i k) ((u.onBit c i k).bump (QD_CALTAPS_MOVES (quadOf c))) := bump_frame _ _ _
  unfold SameButStat at hset hbump
  rw [hbump, hset]
  rfl

theorem moveBit_bit (k : BitCal → BitCal) (hc : c < 16) (hi : i < 36) :
    (moveBit c i f v k s).bitCal c i = k (s.bitCal c i) := by
  have hbump : SameButStat ((s.setSt f v).onBit c i k) (moveBit c i f v k s) := bump_frame _ _ _
  have hset : SameButStat s (s.setSt f v) := setSt_frame _ _ _
  have hsame {u t : State} (h : SameButStat u t) : t.bitCal c i = u.bitCal c i := by
    unfold SameButStat at h
    rw [h]
    rfl
  rw [hsame hbump, bitCal_onBit_self _ hc hi, hsame hset]

/-- What the registers show after a delay of a bit has moved. -/
theorem moveBit_shows {j : BitCal → BitCal} (hw : s.stat.wf) (hf : f.lo + f.width ≤ 32) (hz : f.addr ∉ s.frozen)
    (hv : v < 2 ^ f.width) (ha : f.addr ≠ (QD_CALTAPS_MOVES (quadOf c)).addr) :
    (moveBit c i f v j s).st f = v ∧
    (∀ g : Field, g.apart f → g.addr ≠ (QD_CALTAPS_MOVES (quadOf c)).addr → (moveBit c i f v j s).st g = s.st g) ∧
    ((QD_CALTAPS_MOVES (quadOf c)).addr ∉ s.frozen → (moveBit c i f v j s).st (QD_CALTAPS_MOVES (quadOf c)) =
      min (QD_CALTAPS_MOVES (quadOf c)).max (s.st (QD_CALTAPS_MOVES (quadOf c)) + 1)) := by
  have hself : Showing f v (s.setSt f v) := .of_setSt hw hf hz hv
  refine ⟨(hself.onBit.bump 1 (.inl ha)).2, fun g hg hm => ?_, fun hz' => ?_⟩
  · exact (((Showing.self hw g).setSt hg).onBit.bump 1 (.inl hm)).2
  · have hmoves : Showing (QD_CALTAPS_MOVES (quadOf c)) (s.st (QD_CALTAPS_MOVES (quadOf c))) (s.setSt f v) :=
      (Showing.self hw _).setSt (.inl (Ne.symm ha))
    exact countMove_counts (s := (s.setSt f v).onBit c i j) hmoves.onBit (by
      rw [show ((s.setSt f v).onBit c i j).frozen = _ from State.setSt_frozen ..]
      exact hz')

-- the codes of a quad

theorem codeField_eq (q : Nat) (k : Fin 3) : codeField q k = ⟨0x2042C + 0x2000 * q, 8 * k, 6⟩ := by
  fin_cases k <;> rfl

theorem codeField_apart {j k : Fin 3} (h : j ≠ k) : (codeField q j).apart (codeField q k) := by
  rw [codeField_eq, codeField_eq]
  have hne : j.val ≠ k.val := Fin.val_ne_of_ne h
  refine .inr ?_
  change 8 * j.val + 6 ≤ 8 * k.val ∨ 8 * k.val + 6 ≤ 8 * j.val
  omega

theorem codeField_apart_of (k : Fin 3) (h : g.addr ≠ 0x2042C + 0x2000 * q) : (codeField q k).apart g ∧ g.apart (codeField q k) := by
  rw [codeField_eq]
  exact ⟨.inl (Ne.symm h), .inl h⟩

/-- The quad notes when a code has moved. -/
def codeMoved (q k : Nat) (s : State) : State := s.onQuad q fun x => { x with codeAt := upd x.codeAt k fun _ => s.now }

/-- A code that reaches an end of its range is reported (R422). -/
def codeEnd (q k v : Nat) (s : State) : State :=
  if v = 0 ∨ v = 63 then raise .phycode q k (s.bump (QD_CALEVT_CODEEND q)) else s

theorem moveCode_eq (q k : Nat) (s : State) : moveCode q k s =
    codeEnd q k (toward (s.st (codeField q k)) ((s.quad q).codeTgt.getD k 0))
      (countMove q ((codeMoved q k s).setSt (codeField q k)
        (toward (s.st (codeField q k)) ((s.quad q).codeTgt.getD k 0)))) := rfl

theorem Showing.codeEnd (h : Showing f v s) (ha : f.addr ≠ (QD_CALEVT_CODEEND q).addr) : Showing f v (codeEnd q k w s) := by
  unfold Machine.codeEnd
  split
  · exact h.bump 1 (.inl ha)
  · exact h

theorem codeEnd_rest : (codeEnd q k w s).quad n = s.quad n ∧ (codeEnd q k w s).dram = s.dram ∧
    (codeEnd q k w s).chans = s.chans := by
  unfold codeEnd
  split
  · exact ⟨(bump_frame s _ _).quad n, State.bump_dram .., State.bump_chans ..⟩
  · exact ⟨rfl, rfl, rfl⟩

theorem moveCode_shows {k : Fin 3} (hw : s.stat.wf) (hz : (codeField q k).addr ∉ s.frozen)
    (ht : (s.quad q).codeTgt.getD k 0 < 64) :
    (moveCode q k s).st (codeField q k) = toward (s.st (codeField q k)) ((s.quad q).codeTgt.getD k 0) ∧
    (∀ j : Fin 3, j ≠ k → (moveCode q k s).st (codeField q j) = s.st (codeField q j)) ∧
    ((QD_CALTAPS_MOVES q).addr ∉ s.frozen → (moveCode q k s).st (QD_CALTAPS_MOVES q) =
      min (QD_CALTAPS_MOVES q).max (s.st (QD_CALTAPS_MOVES q) + 1)) := by
  have hlt : s.st (codeField q k) < 64 := by
    have h := s.st_lt (codeField q k)
    rw [codeField_eq] at h ⊢
    exact h
  have hmoves : (QD_CALTAPS_MOVES q).addr ≠ 0x2042C + 0x2000 * q := by simp only [QD_CALTAPS_MOVES]; omega
  have hends : (QD_CALEVT_CODEEND q).addr ≠ 0x2042C + 0x2000 * q := by simp only [QD_CALEVT_CODEEND]; omega
  have hv := toward_lt hlt ht
  rw [moveCode_eq]
  generalize toward (s.st (codeField q k)) ((s.quad q).codeTgt.getD k 0) = v at hv ⊢
  have hself : Showing (codeField q k) v ((codeMoved q k s).setSt (codeField q k) v) :=
    .of_setSt hw (by rw [codeField_eq]; simp; omega) hz (by rw [codeField_eq]; exact hv)
  have hcode (j : Fin 3) {v' : Nat} {u : State} (h : Showing (codeField q j) v' u) :
      Showing (codeField q j) v' (codeEnd q k v (countMove q u)) :=
    (h.bump 1 (codeField_apart_of j hmoves).1).codeEnd (by rw [codeField_eq]; exact Ne.symm hends)
  refine ⟨(hcode k hself).2, fun j hj => ?_, fun hz' => ?_⟩
  · have h : Showing (codeField q j) (s.st (codeField q j)) (codeMoved q k s) := ⟨hw, rfl⟩
    exact (hcode j (h.setSt (codeField_apart hj))).2
  · have h : Showing (QD_CALTAPS_MOVES q) (s.st (QD_CALTAPS_MOVES q)) (codeMoved q k s) := ⟨hw, rfl⟩
    have hset := h.setSt (w := v) (codeField_apart_of k hmoves).2
    have hcount : Showing (QD_CALTAPS_MOVES q) (min (QD_CALTAPS_MOVES q).max (s.st (QD_CALTAPS_MOVES q) + 1))
        (countMove q ((codeMoved q k s).setSt (codeField q k) v)) :=
      ⟨State.bump_stat_wf _ _ hset.1, countMove_counts hset (by rw [State.setSt_frozen]; exact hz')⟩
    exact (hcount.codeEnd (by simp only [QD_CALTAPS_MOVES, QD_CALEVT_CODEEND]; omega)).2

theorem moveCode_rest {k : Fin 3} (hq : q < 4) : ((moveCode q k s).quad q).codeAt.getD k 0 = s.now ∧
    (moveCode q k s).dram = s.dram ∧ (moveCode q k s).chans = s.chans := by
  rw [moveCode_eq]
  generalize toward (s.st (codeField q k)) ((s.quad q).codeTgt.getD k 0) = v
  obtain ⟨hquad, hdram, hchans⟩ := codeEnd_rest (q := q) (k := k) (w := v) (n := q)
    (s := countMove q ((codeMoved q k s).setSt (codeField q k) v))
  have hframe : SameButStat (codeMoved q k s) (countMove q ((codeMoved q k s).setSt (codeField q k) v)) :=
    (setSt_frame _ _ _).trans (bump_frame _ _ _)
  rw [hquad, hdram, hchans, hframe.quad]
  refine ⟨?_, ?_, ?_⟩
  · unfold codeMoved
    rw [State.quad_onQuad_self _ _ hq]
    exact upd_getD_self _ _ _ k.isLt
  · unfold SameButStat at hframe
    rw [hframe]
    rfl
  · unfold SameButStat at hframe
    rw [hframe]
    rfl

end

/-- Settles O47: a move writes its one field, and every other delay and code lies in other bits. -/
theorem delaysMoveOneStep : Obligations.DelaysMoveOneStep := by
  intro s hcan counted
  have hw := canonical_stat hcan
  refine ⟨fun ch bit hz hk hworks hne ht hat hidle => ?_, fun ch bit hz hk hworks hne ht hat hidle => ?_,
    fun q k hruns hpause ht hne hat hidle hz => ?_⟩
  · have hv : toward (s.st (s.rdField ch bit)) (s.bitCal ch bit).tgtRd < 512 := toward_lt (s.st_lt _) ht
    have hexec : exec (.tapMove (.read ch bit)) s = .next (moveBit ch bit (s.rdField ch bit)
        (toward (s.st (s.rdField ch bit)) (s.bitCal ch bit).tgtRd) (fun b => { b with movedRd := s.now }) s) :=
      if_pos ⟨hworks, hne, hat, by simp [hidle]⟩
    obtain ⟨hself, hother, hcount⟩ := moveBit_shows (s := s) (c := ch) (i := bit) (f := s.rdField ch bit)
      (j := fun b => { b with movedRd := s.now }) hw (by simp [State.rdField, CH_BD_RD]) hz hv
      (bitAddr_moves hk bit.isLt)
    refine ⟨_, hexec, by rw [moveBit_bit _ ch.isLt bit.isLt], hself, fun i hi => ?_, fun i => ?_, hcount, moveBit_frame _⟩
    · exact hother _ (.inl (bitAddr_ne (Fin.val_ne_of_ne hi))) (bitAddr_moves hk i.isLt)
    · exact hother _ (.inr (.inr (by simp [State.rdField, State.wrField, CH_BD_RD, CH_BD_WR]))) (bitAddr_moves hk i.isLt)
  · have hv : toward (s.st (s.wrField ch bit)) (s.bitCal ch bit).tgtWr < 512 := toward_lt (s.st_lt _) ht
    have hexec : exec (.tapMove (.write ch bit)) s = .next (moveBit ch bit (s.wrField ch bit)
        (toward (s.st (s.wrField ch bit)) (s.bitCal ch bit).tgtWr) (fun b => { b with movedWr := s.now }) s) :=
      if_pos ⟨hworks, hne, hat, by simp [hidle]⟩
    obtain ⟨hself, hother, hcount⟩ := moveBit_shows (s := s) (c := ch) (i := bit) (f := s.wrField ch bit)
      (j := fun b => { b with movedWr := s.now }) hw (by simp [State.wrField, CH_BD_WR]) hz hv
      (bitAddr_moves hk bit.isLt)
    refine ⟨_, hexec, by rw [moveBit_bit _ ch.isLt bit.isLt], hself, fun i hi => ?_, fun i => ?_, hcount, moveBit_frame _⟩
    · exact hother _ (.inl (bitAddr_ne (Fin.val_ne_of_ne hi))) (bitAddr_moves hk i.isLt)
    · exact hother _ (.inr (.inl (by simp [State.rdField, State.wrField, CH_BD_RD, CH_BD_WR]))) (bitAddr_moves hk i.isLt)
  · have hbusy : ((quadChans q).any fun c => s.laneBusy c false || s.laneBusy c true) = false := by
      refine List.any_eq_false.mpr fun c hc => ?_
      obtain ⟨hrd, hwr⟩ := hidle c hc
      simp [hrd, hwr]
    have hexec : exec (.tapMove (.code q k)) s = .next (moveCode q k s) :=
      if_pos ⟨hruns, by simp [hpause], hne, hat, by simp [hbusy]⟩
    obtain ⟨hself, hother, hcount⟩ := moveCode_shows hw hz ht
    obtain ⟨hwhen, hdram, hchans⟩ := moveCode_rest (s := s) (k := k) q.isLt
    exact ⟨_, hexec, hwhen, hself, hother, hcount, hdram, hchans⟩

end Sys2Proof.Machine
end

section
/-!
The booked steps of the calibration engines, and PAUSE (O46).
-/

namespace Sys2Proof.Machine

section

variable {s t u : State} {c q n r : Nat}

-- a step ends

/-- Of the state only the calibrators, the registers and the bookings move. -/
def StepWork (s t : State) : Prop :=
  t = { s with cals := t.cals, stat := t.stat, news := t.news, brk := t.brk }

theorem StepWork.trans (h : StepWork s t) (h' : StepWork t u) : StepWork s u := by
  unfold StepWork at *
  rw [h', h]

theorem SameButStat.stepWork (h : SameButStat s t) : StepWork s t := by
  unfold SameButStat at h
  unfold StepWork
  rw [h]

theorem StepWork.chan (h : StepWork s t) (c : Nat) : t.chan c = s.chan c := by
  unfold StepWork at h
  rw [h]
  rfl

theorem stepOverrun_frame (c : Nat) (s : State) : stepOverrun c s = { s with brk := (stepOverrun c s).brk } := by
  unfold stepOverrun
  split
  · rfl
  · split
    · rfl
    · extract_lets m
      split
      · rfl
      · rfl

theorem stepDone_stepWork (c : Nat) (s : State) : StepWork s (stepDone c s) := by
  unfold stepDone stampCal
  extract_lets u
  have hu : StepWork s u := by
    have h := stepOverrun_frame c s
    unfold StepWork
    simp only [u]
    rw [h]
    rfl
  exact hu.trans ((bump_frame u _ _).trans (stamp_frame _ _ _)).stepWork

theorem stepDone_stat_wf (c : Nat) (h : s.stat.wf) : (stepDone c s).stat.wf := by
  have hover : (stepOverrun c s).stat = s.stat := by
    rw [stepOverrun_frame]
  unfold stepDone stampCal
  extract_lets u
  have hu : u.stat.wf := by
    rw [show u.stat = _ from hover]
    exact h
  exact State.setSt_stat_wf _ _ (State.setSt_stat_wf _ _ (State.bump_stat_wf _ _ hu))

theorem stepDone_cal (hc : c < 16) : (stepDone c s).cal c = { s.cal c with step := none, lines := [] } := by
  have hover : (stepOverrun c s).cal c = s.cal c := by
    rw [stepOverrun_frame]
    rfl
  unfold stepDone stampCal
  extract_lets u
  have hframe : SameButStat u ((u.bump (QD_CALCNT_STEPS (quadOf c))).stamp (QD_CALLINE_LINE (quadOf c)) (QD_CALFRAME_FRAME (quadOf c))) :=
    (bump_frame u _ _).trans (stamp_frame _ _ _)
  have hu : u.cal c = { s.cal c with step := none, lines := [] } := by
    rw [show u.cal c = _ from State.cal_onCal_self _ _ hc, hover]
  rw [← hu]
  unfold SameButStat at hframe
  rw [hframe]
  rfl

/-- A step ends with a command to its rank (R423). -/
theorem stepEnds_shows {f : Rank → Rank} (hc : c < 16) (hr : r < 2) (hu : StepWork s u) :
    ((stepDone c ((u.onRank c r f).takeSlot c 1)).cal c).step = none ∧
    ((stepDone c ((u.onRank c r f).takeSlot c 1)).cal c).lines = [] ∧
    (stepDone c ((u.onRank c r f).takeSlot c 1)).rank c r = f (s.rank c r) ∧
    ((stepDone c ((u.onRank c r f).takeSlot c 1)).chan c).cmdAt = s.now + s.ck ∧
    (∀ d, d ≠ c → (stepDone c ((u.onRank c r f).takeSlot c 1)).chan d = s.chan d) ∧
    stepDone c ((u.onRank c r f).takeSlot c 1) = { s with
      chans := (stepDone c ((u.onRank c r f).takeSlot c 1)).chans, cals := (stepDone c ((u.onRank c r f).takeSlot c 1)).cals
      stat := (stepDone c ((u.onRank c r f).takeSlot c 1)).stat, news := (stepDone c ((u.onRank c r f).takeSlot c 1)).news
      brk := (stepDone c ((u.onRank c r f).takeSlot c 1)).brk } := by
  have hcal := stepDone_cal (s := (u.onRank c r f).takeSlot c 1) hc
  have hwork := stepDone_stepWork c ((u.onRank c r f).takeSlot c 1)
  have hrank : ((u.onRank c r f).takeSlot c 1).rank c r = f (s.rank c r) := by
    rw [takeSlot_rank, State.rank_onRank_self _ _ hc hr]
    unfold State.rank
    rw [hu.chan]
  have hat : (((u.onRank c r f).takeSlot c 1).chan c).cmdAt = s.now + s.ck := by
    have h := takeSlot_one_cmdAt (u.onRank c r f) hc
    unfold StepWork at hu
    rw [hu] at h ⊢
    exact h
  have hother (d : Nat) (hd : d ≠ c) : ((u.onRank c r f).takeSlot c 1).chan d = s.chan d := by
    rw [← hu.chan d]
    exact (State.chan_onChan_other _ _ hd).trans (State.chan_onChan_other _ _ hd)
  have hframe : (u.onRank c r f).takeSlot c 1 = { s with
      chans := ((u.onRank c r f).takeSlot c 1).chans, cals := ((u.onRank c r f).takeSlot c 1).cals
      stat := ((u.onRank c r f).takeSlot c 1).stat, news := ((u.onRank c r f).takeSlot c 1).news
      brk := ((u.onRank c r f).takeSlot c 1).brk } := by
    unfold StepWork at hu
    rw [hu]
    rfl
  generalize (u.onRank c r f).takeSlot c 1 = v at *
  refine ⟨by rw [hcal], by rw [hcal], ?_, by rw [hwork.chan, hat], fun d hd => by rw [hwork.chan, hother d hd], ?_⟩
  · unfold State.rank at *
    rw [hwork.chan, hrank]
  · unfold StepWork at hwork
    rw [hwork, hframe]

/-- A ZQ latch that comes late is counted, and none is owed any more (R423). -/
def lateLatch (c r : Nat) (s : State) : State :=
  (if (s.cal c).zqAt.getD r 0 + s.tm c CH_TZQ_ZQCAL * s.ck + s.usCc (1000 * s.cf (QD_CALPER_ZQINT (quadOf c))) < s.now then
      s.bump (QD_CALEVT_LATE (quadOf c))
    else s).onCal c fun x => { x with zqOwed := upd x.zqOwed r fun _ => false }

theorem lateLatch_work (c r : Nat) (s : State) : StepWork s (lateLatch c r s) := by
  have h : SameButStat s (if (s.cal c).zqAt.getD r 0 + s.tm c CH_TZQ_ZQCAL * s.ck +
      s.usCc (1000 * s.cf (QD_CALPER_ZQINT (quadOf c))) < s.now then s.bump (QD_CALEVT_LATE (quadOf c)) else s) :=
    SameButStat.ite (bump_frame _ _ _) (.refl s)
  exact h.stepWork.trans rfl

theorem lateLatch_now (c r : Nat) (s : State) : (lateLatch c r s).now = s.now := by
  have h := lateLatch_work c r s
  unfold StepWork at h
  rw [h]

-- an interval books its step

theorem getD_upd {α : Type} {v : Vector α 2} {f : α → α} {d : α} (hr : r < 2) : (upd v r f).getD r d = f (v.getD r d) :=
  upd_getD_self _ _ _ hr

/-- A list of booked steps with one more, unless it holds it. -/
def withStep (l : List (Nat × Nat)) (e : Nat × Nat) : List (Nat × Nat) := if l.contains e then l else l ++ [e]

theorem bookStep_cal {kind : Nat} {f : ChanCal → ChanCal} (hc : c < 16) :
    (bookStep c kind r (s.onCal c f)).cal c =
      { f (s.cal c) with booked := withStep (f (s.cal c)).booked (kind, r) } := by
  unfold bookStep
  rw [onCal_onCal, State.cal_onCal_self _ _ hc]
  rfl

-- the count of an oscillator

/-- What the count of an oscillator leaves as it was. -/
def CountKept (c : Nat) (s t : State) : Prop :=
  (t.cal c).oscRun = (s.cal c).oscRun ∧ (t.cal c).step = (s.cal c).step ∧ t.dram = s.dram ∧ t.cfg = s.cfg

theorem CountKept.refl (c : Nat) (s : State) : CountKept c s s := ⟨rfl, rfl, rfl, rfl⟩

theorem CountKept.trans (h : CountKept c s t) (h' : CountKept c t u) : CountKept c s u := by
  obtain ⟨h1, h2, h3, h4⟩ := h
  obtain ⟨h1', h2', h3', h4'⟩ := h'
  exact ⟨h1'.trans h1, h2'.trans h2, h3'.trans h3, h4'.trans h4⟩

theorem SameButStat.countKept (h : SameButStat s t) (c : Nat) : CountKept c s t := by
  unfold SameButStat at h
  rw [h]
  exact ⟨rfl, rfl, rfl, rfl⟩

theorem onCal_countKept {f : ChanCal → ChanCal} (hc : c < 16) (h : ∀ x, (f x).oscRun = x.oscRun ∧ (f x).step = x.step) :
    CountKept c s (s.onCal c f) := by
  unfold CountKept
  rw [State.cal_onCal_self _ _ hc]
  obtain ⟨hrun, hstep⟩ := h (s.cal c)
  exact ⟨hrun, hstep, rfl, rfl⟩

theorem onBit_countKept (i : Nat) (f : BitCal → BitCal) (hc : c < 16) : CountKept c s (s.onBit c i f) :=
  onCal_countKept (f := fun x => { x with bits := upd x.bits i f }) hc fun _ => ⟨rfl, rfl⟩

theorem bookStep_countKept {kind : Nat} {f : ChanCal → ChanCal} (hc : c < 16)
    (h : ∀ x, (f x).oscRun = x.oscRun ∧ (f x).step = x.step) : CountKept c s (bookStep c kind r (s.onCal c f)) := by
  unfold CountKept
  rw [bookStep_cal hc]
  obtain ⟨hrun, hstep⟩ := h (s.cal c)
  exact ⟨hrun, hstep, rfl, rfl⟩

theorem requestRetrain_countKept (cause : Nat) (hc : c < 16) : CountKept c s (requestRetrain c cause s) := by
  unfold requestRetrain
  extract_lets pending
  split
  · exact .refl c s
  · exact bookStep_countKept hc fun _ => ⟨rfl, rfl⟩

theorem requestRetrain_stat (c cause : Nat) (s : State) : (requestRetrain c cause s).stat = s.stat := by
  unfold requestRetrain
  extract_lets pending
  split
  · rfl
  · rfl

/-- A count of the oscillator shows, and the write offset of the rank follows it or a retrain is asked for (R420). -/
theorem oscCount_shows {count : Nat} (hc : c < 16) : CountKept c s (oscCount c r count s) ∧
    (r < 2 → s.stat.wf → (CH_OSC_COUNT c r).addr ∉ s.frozen → count < 65536 →
      (oscCount c r count s).st (CH_OSC_COUNT c r) = count) := by
  unfold oscCount
  extract_lets base u apart delta move bits out v
  have hu : CountKept c s u := (setSt_frame s _ _).countKept c
  have hshow (hw : s.stat.wf) (hz : (CH_OSC_COUNT c r).addr ∉ s.frozen) (hn : count < 65536) :
      Showing (CH_OSC_COUNT c r) count u := .of_setSt hw (by simp [CH_OSC_COUNT]) hz hn
  have hv : CountKept c u v :=
    foldl_inv (CountKept c u) _ (fun t i _ ht => ht.trans (onBit_countKept i _ hc)) (.refl c u)
  have hvstat : v.stat = u.stat := by
    refine foldl_inv (fun t => t.stat = u.stat) bits (fun t i _ ht => ?_) rfl
    exact ht
  split
  · exact ⟨hu.trans (requestRetrain_countKept 3 hc), fun hr hw hz hn => ((hshow hw hz hn).congr (requestRetrain_stat _ _ _)).2⟩
  · split
    · exact ⟨hu.trans (requestRetrain_countKept 1 hc), fun hr hw hz hn => ((hshow hw hz hn).congr (requestRetrain_stat _ _ _)).2⟩
    · refine ⟨hu.trans (hv.trans ((setSt_frame v _ _).countKept c)), fun hr hw hz hn => ?_⟩
      refine (((hshow hw hz hn).congr hvstat).setSt (.inl ?_)).2
      unfold ofsField
      split <;> simp only [CH_OSC_COUNT, CH_WOFS_OFS0, CH_WOFS_OFS1] <;> omega

-- the ZQ interval

theorem bookStep_keeps {d p k : Nat} {e : Nat × Nat} (hd : d < 16) (h : e ∈ (s.cal d).booked) :
    e ∈ ((bookStep c k p s).cal d).booked := by
  unfold bookStep
  by_cases hdc : d = c
  · subst hdc
    rw [State.cal_onCal_self _ _ hd]
    dsimp only
    split
    · exact h
    · exact List.mem_append_left _ h
  · rw [State.cal_onCal_other _ _ hdc]
    exact h

theorem zqDue_keeps {d p : Nat} {e : Nat × Nat} (hd : d < 16) (h : e ∈ (s.cal d).booked) : e ∈ ((zqDue c p s).cal d).booked := by
  unfold zqDue
  refine bookStep_keeps hd ?_
  split
  · exact h
  · by_cases hdc : d = c
    · subst hdc
      rw [State.cal_onCal_self _ _ hd]
      exact h
    · rw [State.cal_onCal_other _ _ hdc]
      exact h

theorem zqDue_booked (hc : c < 16) : (3, r) ∈ ((zqDue c r s).cal c).booked := bookStep_booked 3 hc

/-- ZQ starts of the ranks of a list. -/
def zqDues (l : List (Nat × Nat)) (s : State) : State := l.foldl (fun s e => zqDue e.1 e.2 s) s

theorem zqDues_booked {l : List (Nat × Nat)} (hm : (c, r) ∈ l) (hc : c < 16) : (3, r) ∈ ((zqDues l s).cal c).booked := by
  unfold zqDues
  obtain ⟨l₁, l₂, rfl⟩ := List.append_of_mem hm
  rw [List.foldl_append, List.foldl_cons]
  exact foldl_inv (fun t => (3, r) ∈ (t.cal c).booked) l₂ (fun t e _ ht => zqDue_keeps hc ht) (zqDue_booked hc)

theorem zqDues_frame (l : List (Nat × Nat)) (s : State) : zqDues l s = { s with cals := (zqDues l s).cals } :=
  foldl_inv (fun t => t = { s with cals := t.cals }) l (fun t e _ ht => by rw [zqDue_frame, ht]) rfl

theorem zqInterval_eq (codes : Vector Nat 3) (s : State) : zqInterval q codes s =
    zqDues (ranksOf ((quadChans q).filter s.calBooks)) (s.onQuad q fun x => { x with zqAt := s.now, codeTgt := codes }) := rfl

theorem zqInterval_shows (codes : Vector Nat 3) (hq : q < 4) : ((zqInterval q codes s).quad q).zqAt = s.now ∧
    ((zqInterval q codes s).quad q).codeTgt = codes ∧
    (∀ c ∈ quadChans q, s.calBooks c = true → ∀ r < 2, (3, r) ∈ ((zqInterval q codes s).cal c).booked) ∧
    zqInterval q codes s = { s with quads := (zqInterval q codes s).quads, cals := (zqInterval q codes s).cals } := by
  rw [zqInterval_eq]
  have hquad : (s.onQuad q fun x => { x with zqAt := s.now, codeTgt := codes }).quad q =
      { s.quad q with zqAt := s.now, codeTgt := codes } := State.quad_onQuad_self _ _ hq
  have hframe := zqDues_frame (ranksOf ((quadChans q).filter s.calBooks))
    (s.onQuad q fun x => { x with zqAt := s.now, codeTgt := codes })
  refine ⟨?_, ?_, fun c hc hbooks r hr => ?_, ?_⟩
  · rw [hframe]
    exact congrArg Quad.zqAt hquad
  · rw [hframe]
    exact congrArg Quad.codeTgt hquad
  · have hlt : c < 16 := by
      simp only [quadChans, List.mem_cons, List.not_mem_nil, or_false] at hc
      omega
    refine zqDues_booked (List.mem_flatMap.mpr ⟨c, List.mem_filter.mpr ⟨hc, hbooks⟩, ?_⟩) hlt
    rcases (by omega : r = 0 ∨ r = 1) with rfl | rfl <;> simp
  · rw [hframe]
    rfl

-- PAUSE

/-- What the step of a channel in a fold leaves of its calibrator; nothing but calibrators moves. -/
theorem foldl_cals {f : State → Nat → State} {P : ChanCal → Prop} {l : List Nat}
    (hframe : ∀ t d, f t d = { t with cals := (f t d).cals }) (hother : ∀ t d, c ≠ d → (f t d).cal c = t.cal c)
    (hself : ∀ t, t = { s with cals := t.cals } → P ((f t c).cal c)) (hm : c ∈ l) : P ((l.foldl f s).cal c) := by
  have hstep (t : State) (d : Nat) (ht : t = { s with cals := t.cals }) : f t d = { s with cals := (f t d).cals } := by
    rw [hframe, ht]
  obtain ⟨l₁, l₂, rfl⟩ := List.append_of_mem hm
  rw [List.foldl_append, List.foldl_cons]
  have h₁ : l₁.foldl f s = { s with cals := (l₁.foldl f s).cals } :=
    foldl_inv (fun t => t = { s with cals := t.cals }) l₁ (fun t d _ ht => hstep t d ht) rfl
  refine (foldl_inv (fun t => t = { s with cals := t.cals } ∧ P (t.cal c)) l₂ (fun t d _ ht => ?_) ⟨hstep _ c h₁, hself _ h₁⟩).2
  refine ⟨hstep t d ht.1, ?_⟩
  by_cases hd : c = d
  · subst hd
    exact hself t ht.1
  · rw [hother t d hd]
    exact ht.2

/-- PAUSE withdraws the steps of a channel that no booking has begun, and discards its windows (R429). -/
def pauseAt (held : Nat → Nat × Nat → Bool) (s : State) (c : Nat) : State :=
  discardWindows c (s.onCal c fun x => { x with booked := x.booked.filter fun e => e.1 ≤ 2 || held c e })

/-- The intervals of a channel restart, with its windows (R429). -/
def restartAt (s : State) (c : Nat) : State :=
  (discardWindows c s).onCal c fun x => { x with oscAt := Vector.replicate 2 s.now, wrcAt := Vector.replicate 2 s.now }

/-- A booking is of a calibration step of a channel of the quad. -/
def Booking.calibrates (q : Nat) (b : Booking) : Bool :=
  (match b.work with | .calStep _ => true | _ => false) && (quadChans q).any fun c => b.scope == .chan c

/-- A booked step of a channel has its booking granted. -/
def State.calGranted (s : State) (c : Nat) (e : Nat × Nat) : Bool :=
  s.brk.granted.any fun g => g.book.work == .calStep e.1 && g.book.unit == 2 * c + e.2

theorem calPause_eq (q : Nat) (s : State) : calPause q s = (quadChans q).foldl (pauseAt s.calGranted)
    ((s.setCf (QD_CALCTL_PAUSE q) 1).unpost (Booking.calibrates q)) := by
  have h : ((s.setCf (QD_CALCTL_PAUSE q) 1).unpost (Booking.calibrates q)).calGranted = s.calGranted := by
    funext c e
    unfold State.calGranted
    rw [show ((s.setCf (QD_CALCTL_PAUSE q) 1).unpost (Booking.calibrates q)).brk.granted =
      (s.setCf (QD_CALCTL_PAUSE q) 1).brk.granted from rfl, State.setCf_brk]
  rw [← h]
  rfl

theorem calUnpause_eq (q : Nat) (s : State) : calUnpause q s = (quadChans q).foldl restartAt
    ((s.setCf (QD_CALCTL_PAUSE q) 0).onQuad q fun x => { x with zqAt := (s.setCf (QD_CALCTL_PAUSE q) 0).now }) := rfl

theorem pauseAt_frame (held : Nat → Nat × Nat → Bool) (s : State) (c : Nat) :
    pauseAt held s c = { s with cals := (pauseAt held s c).cals } := rfl

theorem restartAt_frame (s : State) (c : Nat) : restartAt s c = { s with cals := (restartAt s c).cals } := rfl

theorem foldl_cals_frame {f : State → Nat → State} (hframe : ∀ t d, f t d = { t with cals := (f t d).cals }) (l : List Nat) :
    l.foldl f s = { s with cals := (l.foldl f s).cals } :=
  foldl_inv (fun t => t = { s with cals := t.cals }) l (fun t d _ ht => by rw [hframe, ht]) rfl

theorem pauseAt_self (held : Nat → Nat × Nat → Bool) (s : State) (hc : c < 16) :
    ((pauseAt held s c).cal c).sweepOn = false ∧ ∀ e ∈ ((pauseAt held s c).cal c).booked, e.1 ≤ 2 ∨ held c e = true := by
  unfold pauseAt discardWindows
  rw [onCal_onCal, State.cal_onCal_self _ _ hc]
  refine ⟨rfl, fun e he => ?_⟩
  simpa using (List.mem_filter.mp he).2

/-- The intervals and windows of a calibrator begin at a cc. -/
def ChanCal.restarted (x : ChanCal) (now : Nat) : Prop :=
  x.oscAt = Vector.replicate 2 now ∧ x.wrcAt = Vector.replicate 2 now ∧ x.sweepOn = false

theorem restartAt_self (s : State) (hc : c < 16) : ((restartAt s c).cal c).restarted s.now := by
  unfold restartAt discardWindows
  rw [onCal_onCal, State.cal_onCal_self _ _ hc]
  exact ⟨rfl, rfl, rfl⟩

theorem pauseAt_other (held : Nat → Nat × Nat → Bool) (s : State) {d : Nat} (h : c ≠ d) : (pauseAt held s d).cal c = s.cal c :=
  (State.cal_onCal_other _ _ h).trans (State.cal_onCal_other _ _ h)

theorem restartAt_other (s : State) {d : Nat} (h : c ≠ d) : (restartAt s d).cal c = s.cal c :=
  (State.cal_onCal_other _ _ h).trans (State.cal_onCal_other _ _ h)

theorem mem_quadChans_lt (hq : q < 4) (hc : c ∈ quadChans q) : c < 16 := by
  simp only [quadChans, List.mem_cons, List.not_mem_nil, or_false] at hc
  omega

theorem paused_setCf {v : Nat} (hv : v < 2) (hw : s.cfg.wf) (hz : (QD_CALCTL_PAUSE q).addr ∉ s.frozen) :
    (s.setCf (QD_CALCTL_PAUSE q) v).paused q = (v == 1) := by
  unfold State.paused State.on
  rw [State.cf_setCf_self _ _ hw (by simp [QD_CALCTL_PAUSE]) hz]
  congr 1
  exact Nat.mod_eq_of_lt hv

theorem paused_congr (h : t.cfg = s.cfg) : t.paused q = s.paused q := by
  unfold State.paused State.on
  rw [State.cf_congr h]

theorem calPause_shows (hq : q < 4) (hw : s.cfg.wf) (hz : (QD_CALCTL_PAUSE q).addr ∉ s.frozen) :
    (calPause q s).paused q = true ∧
    (∀ b ∈ (calPause q s).brk.posted, (∃ k, b.work = .calStep k) → ∀ c ∈ quadChans q, b.scope ≠ .chan c) ∧
    (∀ c ∈ quadChans q, ((calPause q s).cal c).sweepOn = false ∧ ∀ e ∈ ((calPause q s).cal c).booked, e.1 ≤ 2 ∨
      ∃ g ∈ s.brk.granted, g.book.work = .calStep e.1 ∧ g.book.unit = 2 * c + e.2) ∧
    calPause q s = { s with
      cfg := (calPause q s).cfg, parErr := (calPause q s).parErr, cals := (calPause q s).cals
      brk := (calPause q s).brk } := by
  rw [calPause_eq]
  have hset := setCf_frame s (QD_CALCTL_PAUSE q) 1
  have hpaused := paused_setCf (q := q) (v := 1) (by decide) hw hz
  have hframe := foldl_cals_frame (s := (s.setCf (QD_CALCTL_PAUSE q) 1).unpost (Booking.calibrates q))
    (pauseAt_frame s.calGranted) (quadChans q)
  refine ⟨?_, fun b hb ⟨k, hk⟩ c hc hscope => ?_, fun c hc => ?_, ?_⟩
  · rw [paused_congr (s := (s.setCf (QD_CALCTL_PAUSE q) 1).unpost (Booking.calibrates q)) (by rw [hframe])]
    exact hpaused
  · rw [hframe] at hb
    have hno := (List.mem_filter.mp hb).2
    have hyes : b.calibrates q = true := by
      unfold Booking.calibrates
      rw [hk]
      exact List.any_eq_true.mpr ⟨c, hc, by simp [hscope]⟩
    simp [hyes] at hno
  · have hlt := mem_quadChans_lt hq hc
    obtain ⟨hsweep, hbooked⟩ := foldl_cals (P := fun x => x.sweepOn = false ∧ ∀ e ∈ x.booked, e.1 ≤ 2 ∨ s.calGranted c e = true)
      (pauseAt_frame s.calGranted) (fun t d => pauseAt_other s.calGranted t) (fun t _ => pauseAt_self _ t hlt) hc
    refine ⟨hsweep, fun e he => (hbooked e he).imp_right fun hg => ?_⟩
    obtain ⟨g, hmem, hg⟩ := List.any_eq_true.mp hg
    exact ⟨g, hmem, by simpa using hg⟩
  · unfold SameButCfg at hset
    rw [hframe, hset]
    rfl

theorem calUnpause_shows (hq : q < 4) (hw : s.cfg.wf) (hz : (QD_CALCTL_PAUSE q).addr ∉ s.frozen) :
    (calUnpause q s).paused q = false ∧ ((calUnpause q s).quad q).zqAt = s.now ∧
    (∀ c ∈ quadChans q, ((calUnpause q s).cal c).restarted s.now) ∧
    calUnpause q s = { s with
      cfg := (calUnpause q s).cfg, parErr := (calUnpause q s).parErr, cals := (calUnpause q s).cals
      quads := (calUnpause q s).quads } := by
  rw [calUnpause_eq]
  have hset := setCf_frame s (QD_CALCTL_PAUSE q) 0
  have hpaused := paused_setCf (q := q) (v := 0) (by decide) hw hz
  rw [State.setCf_now]
  have hv : ((s.setCf (QD_CALCTL_PAUSE q) 0).onQuad q fun x => { x with zqAt := s.now }) = { s with
      cfg := (s.setCf (QD_CALCTL_PAUSE q) 0).cfg, parErr := (s.setCf (QD_CALCTL_PAUSE q) 0).parErr
      quads := upd s.quads q fun x => { x with zqAt := s.now } } := by
    unfold SameButCfg at hset
    rw [hset]
    rfl
  have hquad : (((s.setCf (QD_CALCTL_PAUSE q) 0).onQuad q fun x => { x with zqAt := s.now }).quad q).zqAt = s.now :=
    congrArg Quad.zqAt (State.quad_onQuad_self _ _ hq)
  have hpaused' : ((s.setCf (QD_CALCTL_PAUSE q) 0).onQuad q fun x => { x with zqAt := s.now }).paused q = false := hpaused
  generalize (s.setCf (QD_CALCTL_PAUSE q) 0).onQuad q (fun x => { x with zqAt := s.now }) = v at hv hquad hpaused' ⊢
  have hframe := foldl_cals_frame (s := v) restartAt_frame (quadChans q)
  refine ⟨?_, ?_, fun c hc => ?_, ?_⟩
  · rw [paused_congr (s := v) (by rw [hframe])]
    exact hpaused'
  · have hquads : ((quadChans q).foldl restartAt v).quads = v.quads := by rw [hframe]
    unfold State.quad at hquad ⊢
    rw [hquads]
    exact hquad
  · have hself (t : State) (ht : t = { v with cals := t.cals }) : ((restartAt t c).cal c).restarted s.now := by
      have htnow : t.now = s.now := by rw [ht, hv]
      rw [← htnow]
      exact restartAt_self t (mem_quadChans_lt hq hc)
    exact foldl_cals (P := (·.restarted s.now)) restartAt_frame (fun t d => restartAt_other t) hself hc
  · rw [hframe, hv]

end

/-- Settles O46: each interval books by `bookStep`, each end is `stepDone`, and PAUSE goes channel by channel. -/
theorem calibrationIntervalsBookTheirSteps : Obligations.CalibrationIntervalsBookTheirSteps := by
  refine ⟨fun s ch r => ⟨fun hbooks hn hat => ?_, fun hbooks hn hat => ?_, fun count hk => ?_, fun pass hclk hstep hrest => ?_,
    fun hk => ?_, fun hclk hsome hdue => ?_, fun hk => ?_⟩, fun s q pu pd odt hruns hpause hn hstart hat => ?_,
    fun s q hcan hclk hz => ⟨fun hpause => ?_, fun hpause => ?_, fun hpause => ?_, fun hpause => ?_⟩⟩
  · have hexec : exec (.oscillatorInterval ch r) s = .next (bookStep ch 4 r (s.onCal ch fun x =>
        { x with oscAt := upd x.oscAt r fun _ => s.now })) := congrArg Host.Outcome.next (if_pos ⟨hbooks, hn, hat⟩)
    exact ⟨_, hexec, bookStep_booked 4 ch.isLt, by rw [bookStep_cal ch.isLt]; exact getD_upd r.isLt, rfl⟩
  · have hexec : exec (.writeReadCompareInterval ch r) s = .next (bookStep ch 5 r (s.onCal ch fun x =>
        { x with wrcAt := upd x.wrcAt r fun _ => s.now })) := congrArg Host.Outcome.next (if_pos ⟨hbooks, hn, hat⟩)
    exact ⟨_, hexec, bookStep_booked 5 ch.isLt, by rw [bookStep_cal ch.isLt]; exact getD_upd r.isLt, rfl⟩
  · have hexec : exec (.oscillatorCount ch r count) s = .next (oscCount ch r count.toNat
        (stepDone ch ((s.onCal ch fun x => { x with oscRun := upd x.oscRun r fun _ => none }).takeSlot ch 1))) := if_pos hk
    generalize hv : (s.onCal ch fun x => { x with oscRun := upd x.oscRun r fun _ => none }).takeSlot ch 1 = v at hexec
    have hcal : v.cal ch = { s.cal ch with oscRun := upd (s.cal ch).oscRun r fun _ => none } := by
      rw [← hv]
      exact State.cal_onCal_self _ _ ch.isLt
    have hrest : v.dram = s.dram ∧ v.cfg = s.cfg ∧ v.stat = s.stat ∧ v.frozen = s.frozen := by
      rw [← hv]
      exact ⟨rfl, rfl, rfl, rfl⟩
    obtain ⟨hdram, hcfg, hstat, hfrozen⟩ := hrest
    have hdone := stepDone_cal (s := v) ch.isLt
    have hwf := stepDone_stat_wf (s := v) ch
    have hwork := stepDone_stepWork ch v
    obtain ⟨⟨hrun, hstep, hdram', hcfg'⟩, hshow⟩ := oscCount_shows (s := stepDone ch v) (r := r) (count := count.toNat) ch.isLt
    refine ⟨_, hexec, ?_, ?_, fun hcan hz => ?_, ?_, ?_⟩
    · rw [hrun, hdone, hcal]
      exact getD_upd r.isLt
    · rw [hstep, hdone]
    · refine hshow r.isLt (hwf (by rw [hstat]; exact canonical_stat hcan)) ?_ count.isLt
      unfold StepWork at hwork
      rw [hwork, hfrozen]
      exact hz
    · unfold StepWork at hwork
      rw [hdram', hwork, hdram]
    · unfold StepWork at hwork
      rw [hcfg', hwork, hcfg]
  · exact congrArg Host.Outcome.next (if_pos ⟨hclk, hstep, hrest⟩)
  · exact ⟨_, if_pos hk, stepEnds_shows ch.isLt r.isLt rfl⟩
  · have hexec : exec (.zqcalExpiry ch r) s = .next (bookStep ch 2 r (s.onRank ch r fun k =>
        { k with zqStart := none, zqReady := true })) := congrArg Host.Outcome.next (if_pos ⟨hclk, hsome, hdue⟩)
    have hrank : (bookStep ch 2 r (s.onRank ch r fun k => { k with zqStart := none, zqReady := true })).rank ch r =
        { s.rank ch r with zqStart := none, zqReady := true } := State.rank_onRank_self _ _ ch.isLt r.isLt
    exact ⟨_, hexec, by rw [hrank], by rw [hrank], bookStep_booked 2 ch.isLt, rfl⟩
  · have hexec : exec (.zqLatch ch r) s = .next (stepDone ch (((lateLatch ch r s).onRank ch r fun k =>
        { k with zqReady := false, zqLatch := some (lateLatch ch r s).now }).takeSlot ch 1)) := if_pos hk
    rw [lateLatch_now] at hexec
    exact ⟨_, hexec, stepEnds_shows ch.isLt r.isLt (lateLatch_work ch r s)⟩
  · have hexec : exec (.zqInterval q pu pd odt) s = .next (zqInterval q #v[pu.toNat, pd.toNat, odt.toNat] s) :=
      congrArg Host.Outcome.next (if_pos ⟨hruns, by simp [hpause], hn, hstart, hat⟩)
    exact ⟨_, hexec, zqInterval_shows _ q.isLt⟩
  · have hexec : exec (.calPause q) s = .next (calPause q s) :=
      congrArg Host.Outcome.next (if_pos ⟨hclk, by simp [hpause]⟩)
    exact ⟨_, hexec, calPause_shows q.isLt (canonical_cfg hcan) hz⟩
  · have hexec : exec (.calUnpause q) s = .next (calUnpause q s) := congrArg Host.Outcome.next (if_pos ⟨hclk, hpause⟩)
    exact ⟨_, hexec, calUnpause_shows q.isLt (canonical_cfg hcan) hz⟩
  · exact congrArg Host.Outcome.next (if_neg fun h => by simp [hpause] at h)
  · exact congrArg Host.Outcome.next (if_neg fun h => by simp [hpause] at h)

end Sys2Proof.Machine
end

section
/-!
A write of FT_EVCTL with EVAC (R449).
-/

namespace Sys2Proof.Machine

/-- A clocked state whose register file is not in order: FT_EVCTL stands ahead of the address map, and hides it. Its
channel 0 is in service and channel 1 is a spare. -/
def hiddenMap : State := { State.reset with
  porst := true
  rsiAlive := true
  cfg := [(FT_EVCTL_CH.addr, 0x10), (GL_L2P0_LOG.addr, 0x76543210), (GL_L2P1_LOG.addr, 0xFEDCBA98)]
  chans := (Vector.replicate 16 { Chan.reset with state := .spare }).set 0 { Chan.reset with state := .active } }

theorem hiddenMap_clocked : hiddenMap.clocked := by decide +kernel

/-- While FT_EVCTL hides the map, every entry of the table names channel 0, which is no spare. -/
theorem hiddenMap_firstSpare : hiddenMap.firstSpare = none := by decide +kernel

/-- The write of CH = 0 takes FT_EVCTL out of the register file, and the spares of the map show. -/
theorem hiddenMap_evac : requestEvac 0 hiddenMap = becomeWearing 0 5 (hiddenMap.setCf FT_EVCTL_CH 0) :=
  if_pos (by decide +kernel)

theorem hiddenMap_notRefused : (requestEvac 0 hiddenMap).st FT_EVSTAT_REFUSED = 0 := by
  rw [hiddenMap_evac]
  decide +kernel

/-- Refutes O48: the statement does not ask for the canonical form of the register files. In `hiddenMap` no spare is at
hand before the write of FT_EVCTL and one is after it, so the request is taken and not refused. -/
theorem not_faultWritesActByTheirBits : ¬ Obligations.FaultWritesActByTheirBits := by
  unfold Obligations.FaultWritesActByTheirBits
  intro h
  obtain ⟨_, _, _, hevac⟩ := h hiddenMap hiddenMap_clocked
  obtain ⟨_, _, hrefused⟩ := hevac 0
  obtain ⟨t, hstep, hshown, _⟩ := hrefused (.inr hiddenMap_firstSpare)
  have ht : requestEvac 0 hiddenMap = t := by
    rw [exec_evac] at hstep
    unfold execEvac at hstep
    rw [if_pos hiddenMap_clocked] at hstep
    exact Host.Outcome.next.inj hstep
  have h1 : t.st FT_EVSTAT_REFUSED = 1 := hshown (by decide +kernel)
  rw [← ht, hiddenMap_notRefused] at h1
  exact absurd h1 (by decide)

end Sys2Proof.Machine
end

section
/-!
Evacuations: start, swap, and a drain that is too long (O49).
-/

namespace Sys2Proof.Machine

section

variable {s t u : State} {c sp : Nat} {e : Evac}

-- the start (R450 step 1)

theorem nextEvac_lt (h : s.nextEvac = some c) : c < 16 := by
  unfold State.nextEvac at h
  refine List.foldlRecOn (motive := fun best : Option Nat => ∀ d, best = some d → d < 16) allChans _
    (by simp) (fun best hbest a ha d hd => ?_) c h
  have ha : a < 16 := List.mem_range.mp ha
  dsimp only at hd
  split at hd
  · split at hd
    · obtain rfl := Option.some.inj hd
      exact ha
    · split at hd
      · obtain rfl := Option.some.inj hd
        exact ha
      · exact hbest d hd
  · exact hbest d hd

/-- Two states differ in what the status registers show alone. -/
def SameButShown (s t : State) : Prop := t = { s with stat := t.stat }

theorem SameButShown.trans (h : SameButShown s t) (h' : SameButShown t u) : SameButShown s u := by
  unfold SameButShown at *
  rw [h', h]

theorem setSt_shown (s : State) (f : Field) (v : Nat) : SameButShown s (s.setSt f v) := by
  unfold State.setSt
  split <;> rfl

theorem setPartner_shown (s : State) (c : Nat) (p : Option Nat) : SameButShown s (s.setPartner c p) :=
  (setSt_shown _ _ _).trans (setSt_shown _ _ _)

/-- The registers as the start of an evacuation leaves them. -/
def evacShown (c sp : Nat) (s : State) : State :=
  (((s.setPartner c (some sp)).setPartner sp (some c)).setSt (CH_WEARSTAT_RESERVED_SP c) 0).setSt (CH_EVPTR_Q c) 0

theorem evacShown_shown (c sp : Nat) (s : State) : SameButShown s (evacShown c sp s) :=
  (((setPartner_shown _ _ _).trans (setPartner_shown _ _ _)).trans (setSt_shown _ _ _)).trans (setSt_shown _ _ _)

theorem evacShown_ptr (hw : s.stat.wf) (hz : (CH_EVPTR_Q c).addr ∉ s.frozen) : (evacShown c sp s).st (CH_EVPTR_Q c) = 0 := by
  have hz' : (CH_EVPTR_Q c).addr ∉
      (((s.setPartner c (some sp)).setPartner sp (some c)).setSt (CH_WEARSTAT_RESERVED_SP c) 0).frozen := by
    rw [((((setPartner_shown s c (some sp)).trans (setPartner_shown _ sp (some c))).trans
      (setSt_shown _ (CH_WEARSTAT_RESERVED_SP c) 0)) : _ = _)]
    exact hz
  unfold evacShown State.setPartner at *
  rw [State.st_setSt_self _ _ _ (by simp [CH_EVPTR_Q]) hz', Nat.zero_mod]
  exact State.setSt_stat_wf _ _ (State.setSt_stat_wf _ _ (State.setSt_stat_wf _ _ (State.setSt_stat_wf _ _
    (State.setSt_stat_wf _ _ hw))))

/-- A new evacuation of a channel into its spare. -/
def evacOf (c sp now : Nat) : Evac := ⟨c, sp, 1, now, 0, [], []⟩

/-- The channels as the start of an evacuation leaves them. -/
def evacChans (c sp : Nat) (s : State) : State :=
  (s.onChan c fun x => { x with state := .evacuating, reserve := none }).onRanks sp (Rank.rouse true)

/-- An evacuation begins in a state. -/
def beginEvac (c sp : Nat) (s : State) : State :=
  { s with mnt := { s.mnt with evac := some (evacOf c sp s.now), refusals := 0 } }

theorem startEvac_eq (c sp : Nat) (s : State) : startEvac c sp s = beginEvac c sp (evacChans c sp (evacShown c sp s)) := by
  unfold startEvac evacChans evacShown
  rfl

theorem evacChans_source (hc : c < 16) (hne : sp ≠ c) (s : State) :
    (evacChans c sp s).chan c = { s.chan c with state := .evacuating, reserve := none } := by
  unfold evacChans State.onRanks
  rw [State.chan_onChan_other _ _ hne.symm, State.chan_onChan_self _ _ hc]

theorem evacChans_other {d : Nat} (hc : d ≠ c) (hsp : d ≠ sp) (s : State) : (evacChans c sp s).chan d = s.chan d := by
  unfold evacChans State.onRanks
  rw [State.chan_onChan_other _ _ hsp, State.chan_onChan_other _ _ hc]

theorem onEvac_some (h : s.mnt.evac = some e) (f : Evac → Evac) :
    s.onEvac f = { s with mnt := { s.mnt with evac := some (f e) } } := by
  unfold State.onEvac
  rw [h]
  rfl

/-- A booked swap stands among the bookings. -/
def bookSwap (c : Nat) (s : State) : State := postBooking .v (.chan c) .swap c (s.usCc 20) s

theorem bookSwap_frame (c : Nat) (s : State) : bookSwap c s = { s with brk := (bookSwap c s).brk } := rfl

theorem toSwap_some (h : s.mnt.evac = some e) : ∃ b, toSwap s = { s with
    mnt := { s.mnt with evac := some { e with step := 3 } }, brk := b } := by
  unfold toSwap
  rw [h, onEvac_some h]
  exact ⟨_, rfl⟩

/-- Once its spare is up a new evacuation goes on: to the migration, or to the swap where the pointer stands at the end. -/
theorem settleEvac_some (h : s.mnt.evac = some e) (h1 : e.step = 1) : ∃ m b, settleEvac s = { s with
    mnt := { s.mnt with evac := some { e with step := m } }, brk := b } ∧
    (m = 1 ∨ m = 2 ∨ m = 3 ∧ s.st (CH_EVPTR_Q e.src) = s.lines) := by
  unfold settleEvac
  rw [h]
  dsimp only
  split
  · split
    next hlines =>
      obtain ⟨b, hb⟩ := toSwap_some h
      exact ⟨3, b, hb, .inr (.inr ⟨rfl, hlines⟩)⟩
    next => exact ⟨2, s.brk, onEvac_some h _, .inr (.inl rfl)⟩
  · refine ⟨1, s.brk, ?_, .inl rfl⟩
    rw [← h1, ← h]

theorem evacuation_begins (hw : s.stat.wf) (hc : c < 16) (hne : sp ≠ c) :
    ∃ t e, settleEvac (startEvac c sp s) = t ∧ (t.chan c).state = .evacuating ∧ (t.chan c).reserve = none ∧
      t.mnt.evac = some e ∧ e.src = c ∧ e.spare = sp ∧ e.next = 0 ∧
      (e.step = 1 ∨ e.step = 2 ∨ e.step = 3 ∧ t.st (CH_EVPTR_Q c) = s.lines) ∧
      ((CH_EVPTR_Q c).addr ∉ s.frozen → t.st (CH_EVPTR_Q c) = 0) ∧
      (∀ d, d ≠ c → d ≠ sp → t.chan d = s.chan d) ∧
      t = { s with chans := t.chans, stat := t.stat, mnt := t.mnt, brk := t.brk } := by
  have hptr := fun hz => evacShown_ptr (c := c) (sp := sp) hw hz
  have hu : evacShown c sp s = { s with stat := (evacShown c sp s).stat } := evacShown_shown c sp s
  rw [startEvac_eq]
  generalize evacShown c sp s = u at hu hptr
  have hsource := evacChans_source hc hne u
  have hother := fun d (h1 : d ≠ c) (h2 : d ≠ sp) => evacChans_other h1 h2 u
  have hv : evacChans c sp u = { u with chans := (evacChans c sp u).chans } :=
    (onChan_frame u c _).trans (onRanks_frame _ sp _)
  generalize evacChans c sp u = v at hv hsource hother
  obtain ⟨m, b, heq, hm⟩ := settleEvac_some (s := beginEvac c sp v) rfl rfl
  refine ⟨_, _, heq, ?_, ?_, rfl, rfl, rfl, rfl, ?_, ?_, ?_, ?_⟩
  · exact congrArg Chan.state hsource
  · exact congrArg Chan.reserve hsource
  · refine hm.imp_right (.imp_right fun h => ⟨h.1, h.2.trans ?_⟩)
    have : v.cfg = s.cfg := by rw [hv, hu]
    exact State.cf_congr (s := v) this _
  · intro hz
    have : v.stat = u.stat := by rw [hv]
    exact (State.st_congr (s := v) this _).trans (hptr hz)
  · intro d h1 h2
    have : u.chan d = s.chan d := by rw [hu]; rfl
    exact (hother d h1 h2).trans this
  · unfold beginEvac
    rw [hv, hu]

-- the swap (R450 steps 5 and 6, R451)

/-- The word of a half of the table. -/
def tableWord (l : List Nat) : Nat := l.foldr (fun e acc => acc * 16 + e % 16) 0

theorem tableWord_cons (a : Nat) (l : List Nat) : tableWord (a :: l) = tableWord l * 16 + a % 16 := rfl

theorem natBits_tableWord (l : List Nat) (i : Nat) (h : i < l.length) : natBits (tableWord l) (4 * i) 4 = l[i] % 16 := by
  induction l generalizing i with
  | nil => simp at h
  | cons a l ih =>
    rw [tableWord_cons]
    cases i with
    | zero => simp only [natBits, Nat.mul_zero, Nat.pow_zero, Nat.div_one, List.getElem_cons_zero]; omega
    | succ i =>
      rw [List.getElem_cons_succ, ← ih i (by simpa using h)]
      have hp : 2 ^ (4 * (i + 1)) = 16 * 2 ^ (4 * i) := by rw [Nat.mul_add, Nat.pow_add, Nat.mul_comm]
      have hw : (tableWord l * 16 + a % 16) / 16 = tableWord l := by omega
      simp only [natBits]
      rw [hp, ← Nat.div_div_eq_div_mul, hw]

theorem natBits_mod {n lo w k : Nat} (h : lo + w ≤ k) : natBits (n % 2 ^ k) lo w = natBits n lo w := by
  apply Nat.eq_of_testBit_eq
  intro i
  rw [natBits_testBit, natBits_testBit, Nat.testBit_mod_two_pow]
  by_cases hi : i < w
  · simp [hi, show lo + i < k by omega]
  · simp [hi]

theorem setTable_eq (l : List Nat) (s : State) : s.setTable l =
    (s.setCf GL_L2P0_LOG (tableWord (l.take 8))).setCf GL_L2P1_LOG (tableWord (l.drop 8)) := rfl

theorem setTable_frame (l : List Nat) (s : State) : SameButCfg s (s.setTable l) :=
  (setCf_frame _ _ _).trans (setCf_frame _ _ _)

/-- The table reads as it was set, entry by entry. -/
theorem setTable_at {l : List Nat} (hw : s.cfg.wf) (hz0 : GL_L2P0_LOG.addr ∉ s.frozen) (hz1 : GL_L2P1_LOG.addr ∉ s.frozen)
    {i : Nat} (hi : i < l.length) (hi16 : i < 16) : (s.setTable l).tableAt i = l[i] % 16 := by
  have hw0 := State.setCf_cfg_wf (s := s) GL_L2P0_LOG (tableWord (l.take 8)) hw
  have hz1' : GL_L2P1_LOG.addr ∉ (s.setCf GL_L2P0_LOG (tableWord (l.take 8))).frozen := by
    rw [(setCf_frame s GL_L2P0_LOG (tableWord (l.take 8)) : _ = _)]
    exact hz1
  have h0 : (s.setTable l).cf GL_L2P0_LOG = tableWord (l.take 8) % 2 ^ 32 := by
    rw [setTable_eq, State.cf_setCf_other _ _ _ hw0 (.inl (by simp [GL_L2P0_LOG, GL_L2P1_LOG]))]
    exact State.cf_setCf_self _ _ hw (by simp [GL_L2P0_LOG]) hz0
  have h1 : (s.setTable l).cf GL_L2P1_LOG = tableWord (l.drop 8) % 2 ^ 32 := by
    rw [setTable_eq]
    exact State.cf_setCf_self _ _ hw0 (by simp [GL_L2P1_LOG]) hz1'
  unfold State.tableAt
  split
  next h8 =>
    rw [h0, natBits_mod (by omega), natBits_tableWord _ _ (by simp; omega), List.getElem_take]
  next h8 =>
    rw [h1, natBits_mod (by omega), natBits_tableWord _ _ (by simp; omega), List.getElem_drop]
    congr 2
    omega

theorem tableAt_lt (s : State) (i : Nat) : s.tableAt i < 16 := by
  unfold State.tableAt
  split <;> exact Nat.mod_lt _ (by omega)

theorem logicals_le (s : State) : s.logicals ≤ 16 := by
  have := State.cf_lt s GL_AMAP_LCH
  unfold State.logicals
  simp only [GL_AMAP_LCH] at this ⊢
  omega

/-- The entries in service of a table in which a spare has taken the place of a channel. -/
theorem replaceInTable_at (hw : s.cfg.wf) (hz0 : GL_L2P0_LOG.addr ∉ s.frozen) (hz1 : GL_L2P1_LOG.addr ∉ s.frozen)
    (hsp : sp < 16) {i : Nat} (hi : i < s.logicals) :
    (replaceInTable c sp s).tableAt i = if s.tableAt i = c then sp else s.tableAt i := by
  have hle := logicals_le s
  have hlt := tableAt_lt s i
  unfold replaceInTable
  rw [setTable_at hw hz0 hz1 (by simp [State.table]; omega) (by omega)]
  rw [List.getElem_append_left (by simp [State.table]; omega)]
  simp only [State.table, List.getElem_map, List.getElem_take, List.getElem_range]
  split <;> omega

theorem replaceInTable_frame (c sp : Nat) (s : State) : SameButCfg s (replaceInTable c sp s) := setTable_frame _ _

theorem scrubRetired_work (c : Nat) (s : State) : ChannelWork s (scrubRetired c s) := by
  unfold scrubRetired
  split
  · exact .refl s
  · dsimp only
    split
    · exact .refl s
    · exact (((bump_frame _ _ _).trans (setSt_frame _ _ _)).work.trans (onChan_work _ _ _)).trans (onQuad_work _ _ _)

theorem dropCached_work (c : Nat) (s : State) : ChannelWork s (dropCached c s) := by
  unfold dropCached
  dsimp only
  split
  · exact (onQuad_work _ _ _).trans (bump_frame _ _ _).work
  · exact .refl s

theorem movePerch_work (c sp : Nat) (s : State) : ChannelWork s (movePerch c sp s) :=
  (onChan_work _ _ _).trans (onChan_work _ _ _)

theorem setPartner_work (s : State) (c : Nat) (p : Option Nat) : ChannelWork s (s.setPartner c p) :=
  (setSt_work _ _ _).trans (setSt_work _ _ _)

theorem promoteSpare_work (c sp : Nat) (s : State) : ChannelWork s (promoteSpare c sp s) :=
  (((setPartner_work _ _ _).trans (setPartner_work _ _ _)).trans (setSt_work _ _ _)).trans (onChan_work _ _ _)

theorem retire_work (c : Nat) (s : State) : ChannelWork s (retire c s) :=
  ((((((scrubRetired_work c s).trans (setSt_work _ _ _)).trans (stamp_frame _ _ _).work).trans (unpost_work _ _)).trans
    (onCal_work _ _ _)).trans (onRanks_work _ _ _)).trans (onChan_work _ _ _)

/-- The retirement of a channel changes no other channel. -/
theorem scrubRetired_other {d : Nat} (h : d ≠ c) (s : State) : (scrubRetired c s).chan d = s.chan d := by
  unfold scrubRetired
  split
  · rfl
  · dsimp only
    split
    · rfl
    · refine (State.chan_onChan_other _ _ h).trans ?_
      exact SameButStat.chan ((bump_frame _ _ _).trans (setSt_frame _ _ _)) d

theorem retire_other {d : Nat} (h : d ≠ c) (s : State) : (retire c s).chan d = s.chan d := by
  unfold retire State.onRanks
  rw [State.chan_onChan_other _ _ h, State.chan_onChan_other _ _ h]
  refine Eq.trans ?_ (scrubRetired_other h s)
  generalize scrubRetired c s = r
  have hstat : SameButStat r ((r.setSt (CH_WEARSTAT_RESERVED_SP c) 0).stamp (CH_RETLINE_LINE c) (CH_RETFRAME_FRAME c)) :=
    (setSt_frame _ _ _).trans (stamp_frame _ _ _)
  refine Eq.trans ?_ (hstat.chan d)
  generalize (r.setSt (CH_WEARSTAT_RESERVED_SP c) 0).stamp (CH_RETLINE_LINE c) (CH_RETFRAME_FRAME c) = u
  rfl

theorem retire_state (hc : c < 16) (s : State) : ((retire c s).chan c).state = .retired := by
  unfold retire
  rw [State.chan_onChan_self _ _ hc]

/-- The state in which the channels of a swap change their roles: the table is rewritten and the perch entries have moved. -/
def swapMoved (c sp : Nat) (s : State) : State :=
  dropCached c (movePerch c sp (replaceInTable c sp { scrubRetired c s with
    mnt := { (scrubRetired c s).mnt with evac := none, refusals := 0, forcedSwap := false } }))

/-- The registers of the spare after a swap: what is lost of it, and its metadata cleared. -/
def swapShown (c sp : Nat) (s : State) : State :=
  let t := (s.setSt (CH_LOST_LOSTLO sp) (s.st (CH_LOST_LOSTLO c))).setSt (CH_LOST_VALID sp) (s.st (CH_LOST_VALID c))
  (t.setSt (CH_MDINIT_PTR sp) (t.lines / 32)).setSt (CH_MDINIT_DONE sp) 1

theorem swapChannels_eq (c sp : Nat) (s : State) : swapChannels c sp s =
    event .swap (retire c (promoteSpare c sp (swapShown c sp (swapMoved c sp s)))) := rfl

theorem swapMoved_work (c sp : Nat) (s : State) : ChannelWork (replaceInTable c sp { scrubRetired c s with
    mnt := { (scrubRetired c s).mnt with evac := none, refusals := 0, forcedSwap := false } }) (swapMoved c sp s) :=
  (movePerch_work _ _ _).trans (dropCached_work _ _)

theorem swapShown_work (c sp : Nat) (s : State) : ChannelWork s (swapShown c sp s) :=
  (((setSt_work _ _ _).trans (setSt_work _ _ _)).trans (setSt_work _ _ _)).trans (setSt_work _ _ _)

theorem swapChannels_work (c sp : Nat) (s : State) : ChannelWork (swapMoved c sp s) (swapChannels c sp s) := by
  rw [swapChannels_eq]
  exact (((swapShown_work _ _ _).trans (promoteSpare_work _ _ _)).trans (retire_work _ _)).trans (event_frame _ _).work

theorem swapChannels_states (hc : c < 16) (hsp : sp < 16) (hne : sp ≠ c) (s : State) :
    ((swapChannels c sp s).chan c).state = .retired ∧ ((swapChannels c sp s).chan sp).state = .active := by
  have hevent := fun d u => (event_frame .swap u).chan d
  rw [swapChannels_eq]
  constructor
  · rw [hevent, retire_state hc]
  · rw [hevent, retire_other hne]
    unfold promoteSpare
    rw [State.chan_onChan_self _ _ hsp]

theorem swapChannels_shows (hw : s.cfg.wf) (hz0 : GL_L2P0_LOG.addr ∉ s.frozen) (hz1 : GL_L2P1_LOG.addr ∉ s.frozen)
    (hsp : sp < 16) : (swapChannels c sp s).mnt.evac = none ∧
    (∀ i < s.logicals, (swapChannels c sp s).tableAt i = if s.tableAt i = c then sp else s.tableAt i) ∧
    (swapChannels c sp s).dram = s.dram ∧ (swapChannels c sp s).ports = s.ports := by
  have hwork := (swapMoved_work c sp s).trans (swapChannels_work c sp s)
  have hr : scrubRetired c s = { s with
      stat := (scrubRetired c s).stat, news := (scrubRetired c s).news, brk := (scrubRetired c s).brk
      chans := (scrubRetired c s).chans, cals := (scrubRetired c s).cals, quads := (scrubRetired c s).quads } :=
    scrubRetired_work c s
  have hlog : (scrubRetired c s).logicals = s.logicals := by rw [hr]; rfl
  have hat : ∀ i, (scrubRetired c s).tableAt i = s.tableAt i := fun i => by rw [hr]; rfl
  generalize scrubRetired c s = r at hwork hr hlog hat
  have htab := fun i => replaceInTable_at (c := c) (sp := sp) (i := i)
    (s := { r with mnt := { r.mnt with evac := none, refusals := 0, forcedSwap := false } })
    (by rw [hr]; exact hw) (by rw [hr]; exact hz0) (by rw [hr]; exact hz1) hsp
  have htable := replaceInTable_frame c sp { r with mnt := { r.mnt with evac := none, refusals := 0, forcedSwap := false } }
  generalize replaceInTable c sp { r with mnt := { r.mnt with evac := none, refusals := 0, forcedSwap := false } } = v
    at hwork htab htable
  generalize swapChannels c sp s = t at hwork
  have hv : ∀ i, t.tableAt i = v.tableAt i := fun i => by rw [(hwork : t = _)]; rfl
  unfold SameButCfg at htable
  refine ⟨?_, fun i hi => ?_, ?_, ?_⟩
  · rw [(hwork : t = _), htable]
  · rw [hv, htab i (hlog.symm ▸ hi)]
    exact hat i ▸ rfl
  · rw [(hwork : t = _), htable, hr]
  · rw [(hwork : t = _), htable, hr]

-- a drain that is too long (R453)

/-- The evacuation lets lines in again after a drain that was too long. -/
def drainEnded (e : Evac) (s : State) : State :=
  { s.onChan e.src (fun x => { x with admitStop := false }) with mnt := { s.mnt with evac := some { e with step := 3 } } }

theorem postSwap_frame (s : State) : ∃ b, postSwap s = { s with brk := b } := by
  unfold postSwap
  split
  · split
    · exact ⟨s.brk, rfl⟩
    · exact ⟨_, rfl⟩
  · exact ⟨s.brk, rfl⟩

theorem drainTimeout_eq (h : s.mnt.evac = some e) (hrun : s.intakeRuns) (hstep : e.step = 4) (hevac : s.evacuates e)
    (hlate : e.mark + s.usCc 20 ≤ s.now) :
    exec .swapDrainTimeout s = .next (postSwap ((drainEnded e s).bump FT_EVSTAT_RETRY)) := by
  rw [exec_swapDrainTimeout]
  unfold execSwapDrainTimeout
  rw [h]
  dsimp only
  rw [if_pos ⟨hrun, hstep, hevac, hlate⟩, onEvac_some h]
  rfl

theorem drainTimeout_shows (hw : s.stat.wf) (he : e.src < 16) :
    ∃ t, postSwap ((drainEnded e s).bump FT_EVSTAT_RETRY) = t ∧ t.mnt.evac = some { e with step := 3 } ∧
      t.chan e.src = { s.chan e.src with admitStop := false } ∧ (∀ d, d ≠ e.src → t.chan d = s.chan d) ∧
      (FT_EVSTAT_RETRY.addr ∉ s.frozen → t.st FT_EVSTAT_RETRY = min FT_EVSTAT_RETRY.max (s.st FT_EVSTAT_RETRY + 1)) ∧
      t = { s with mnt := t.mnt, chans := t.chans, stat := t.stat, news := t.news, brk := t.brk } := by
  have hshown : FT_EVSTAT_RETRY.addr ∉ s.frozen →
      ((drainEnded e s).bump FT_EVSTAT_RETRY).st FT_EVSTAT_RETRY = min FT_EVSTAT_RETRY.max (s.st FT_EVSTAT_RETRY + 1) :=
    fun hz => State.st_bump_self (s := drainEnded e s) _ _ hw (by simp [FT_EVSTAT_RETRY]) hz
  have hbump := bump_frame (drainEnded e s) FT_EVSTAT_RETRY 1
  have hchan := fun d => hbump.chan d
  unfold SameButStat at hbump
  generalize (drainEnded e s).bump FT_EVSTAT_RETRY = v at *
  obtain ⟨b, hb⟩ := postSwap_frame v
  have hmnt : v.mnt = (drainEnded e s).mnt := by rw [hbump]
  refine ⟨_, hb, congrArg Mnt.evac hmnt, ?_, fun d hd => ?_, hshown, ?_⟩
  · exact (hchan _).trans (State.chan_onChan_self _ _ he)
  · exact (hchan _).trans (State.chan_onChan_other _ _ hd)
  · rw [hbump]
    rfl

end

/-- Settles O49: the state that each step of an evacuation leaves, with the table read back entry by entry. -/
theorem evacuationsStartAndSwap : Obligations.EvacuationsStartAndSwap := by
  unfold Obligations.EvacuationsStartAndSwap
  intro s hs hrun
  have hcfg := canonical_cfg hs
  have hstat := canonical_stat hs
  refine ⟨fun c sp hnext hres _ hne hnone hstart hret hblk hport htest => ?_, fun e he hstep hevac hsrc hsp hne => ⟨?_, ?_⟩⟩
  · obtain ⟨t, e, heq, hrest⟩ := evacuation_begins (s := s) hstat (nextEvac_lt hnext) hne
    refine ⟨t, e, ?_, hrest⟩
    rw [exec_evacuationStart, ← heq]
    unfold execEvacuationStart
    rw [hnext]
    dsimp only
    rw [hres]
    exact if_pos ⟨hrun, by rw [hnone]; rfl, hstart, hret, hblk, hport, htest⟩
  · intro hblk hempty hsoon hz0 hz1
    obtain ⟨hretired, hactive⟩ := swapChannels_states hsrc hsp hne.symm s
    refine ⟨swapChannels e.src e.spare s, ?_, hretired, hactive, swapChannels_shows hcfg hz0 hz1 hsp⟩
    rw [exec_channelSwap]
    unfold execChannelSwap
    rw [he]
    exact congrArg Host.Outcome.next (if_pos ⟨hrun, hblk, hstep, hevac, hempty, hsoon⟩)
  · intro hlate
    obtain ⟨t, heq, hrest⟩ := drainTimeout_shows hstat hsrc
    exact ⟨t, by rw [drainTimeout_eq he hrun hstep hevac hlate, heq], hrest⟩

end Sys2Proof.Machine
end

section
/-!
Key slots and the rekey pass (O50, O51).
-/

namespace Sys2Proof.Machine

section

variable {s t : State} {i : Nat}

-- slots by number

theorem slot_onSlot_self (k : Keys) (f : KeySlot → KeySlot) (h : i < 2) : (k.onSlot i f).slot i = f (k.slot i) :=
  upd_getD_self _ _ _ h

theorem slot_onSlot_other (k : Keys) (f : KeySlot → KeySlot) {j : Nat} (h : j ≠ i) : (k.onSlot i f).slot j = k.slot j :=
  upd_getD_other _ _ _ h

theorem slot_onSlot_opposite (k : Keys) (f : KeySlot → KeySlot) (h : i < 2) :
    (k.onSlot i f).slot (1 - i) = k.slot (1 - i) := slot_onSlot_other _ _ (by omega)

theorem ctlSlot_lt (s : State) : s.cf KY_CTL_SLOT < 2 := State.cf_lt s KY_CTL_SLOT

-- the staging registers (R470)

theorem clearStaging_keys (s : State) : (clearStaging s).keys = s.keys := by
  rw [(clearStaging_frame s : _ = _)]

/-- A fold that zeroes staging registers zeroes each of its list. -/
theorem foldl_stage_zero (l : List Nat) (hw : s.cfg.wf) (hz : (KY_STG_KEY i).addr ∉ s.frozen)
    (h : i ∈ l ∨ s.cf (KY_STG_KEY i) = 0) : (l.foldl (fun s j => s.setCf (KY_STG_KEY j) 0) s).cf (KY_STG_KEY i) = 0 := by
  induction l generalizing s with
  | nil => exact h.resolve_left (by simp)
  | cons j l ih =>
    have hframe : SameButCfg s (s.setCf (KY_STG_KEY j) 0) := setCf_frame _ _ _
    refine ih (State.setCf_cfg_wf _ _ hw) (by dsimp only; rw [(hframe : _ = _)]; exact hz) ?_
    by_cases hj : i = j
    · subst hj
      exact .inr (by rw [State.cf_setCf_self _ _ hw (by simp [KY_STG_KEY]) hz, Nat.zero_mod])
    · refine h.imp (fun hm => (List.mem_cons.mp hm).resolve_left hj) fun h0 => ?_
      rw [State.cf_setCf_other _ _ _ hw (.inl (by simp [KY_STG_KEY]; omega)), h0]

theorem clearStaging_zero (hw : s.cfg.wf) (hz : (KY_STG_KEY i).addr ∉ s.frozen) (hi : i < 16) :
    (clearStaging s).cf (KY_STG_KEY i) = 0 := foldl_stage_zero _ hw hz (.inl (List.mem_range.mpr hi))

-- LOAD (R470, R471, R474)

theorem loadCode_eq (s : State) (i : Nat) : s.loadCode i =
    if s.keys.void ∨ s.on GL_CRYPT_BYPASS then 3
    else if (s.keys.slot i).valid ∨ (s.keys.slot i).erase then 1 else if s.staged 0 = s.staged 8 then 2 else 0 := by
  simp [State.loadCode]

/-- The keys after a LOAD of the staging into a slot. -/
def Keys.loaded (k : Keys) (i : Nat) (key1 key2 : BitVec 256) : Keys :=
  { k.onSlot i fun _ => ⟨true, key1, key2, keyCheck key1, false⟩ with
    wvalid := true, wslot := if k.wvalid then k.wslot else i }

/-- The state in which a LOAD has taken the staging, unless it is refused. -/
def loadTaken (s : State) : State :=
  let i := s.cf KY_CTL_SLOT
  if s.loadCode i = 0 then s.onKeys fun k => k.loaded i (s.staged 0) (s.staged 8) else s

theorem writeKeyCtl_load (s : State) :
    writeKeyCtl true false s = setResult (s.loadCode (s.cf KY_CTL_SLOT)) (clearStaging (loadTaken s)) := by
  unfold writeKeyCtl loadKey loadTaken
  simp only [Bool.false_eq_true, if_false, if_true, Bool.or_false, ne_eq, not_true_eq_false]
  rfl

theorem loadTaken_frame (s : State) : loadTaken s = { s with keys := (loadTaken s).keys } := by
  unfold loadTaken
  dsimp only
  split <;> rfl

theorem load_frame (s : State) : writeKeyCtl true false s = { s with
    keys := (writeKeyCtl true false s).keys, cfg := (writeKeyCtl true false s).cfg
    parErr := (writeKeyCtl true false s).parErr } := by
  have hclear : clearStaging (loadTaken s) = { loadTaken s with
    cfg := (clearStaging (loadTaken s)).cfg, parErr := (clearStaging (loadTaken s)).parErr } := clearStaging_frame _
  rw [writeKeyCtl_load]
  generalize clearStaging (loadTaken s) = v at hclear ⊢
  unfold setResult State.onKeys
  rw [hclear, loadTaken_frame s]

theorem load_keys (s : State) : (writeKeyCtl true false s).keys =
    { (loadTaken s).keys with result := s.loadCode (s.cf KY_CTL_SLOT) } := by
  rw [writeKeyCtl_load]
  unfold setResult State.onKeys
  rw [clearStaging_keys]

theorem load_zero (hw : s.cfg.wf) (hz : (KY_STG_KEY i).addr ∉ s.frozen) (hi : i < 16) :
    (writeKeyCtl true false s).cf (KY_STG_KEY i) = 0 := by
  have h : (clearStaging (loadTaken s)).cf (KY_STG_KEY i) = 0 :=
    clearStaging_zero (by rw [loadTaken_frame]; exact hw) (by rw [loadTaken_frame]; exact hz) hi
  rw [writeKeyCtl_load]
  generalize clearStaging (loadTaken s) = v at h ⊢
  exact h

theorem load_taken (h : s.loadCode (s.cf KY_CTL_SLOT) = 0) : (writeKeyCtl true false s).keys =
    { s.keys.loaded (s.cf KY_CTL_SLOT) (s.staged 0) (s.staged 8) with result := 0 } := by
  rw [load_keys, h]
  unfold loadTaken
  dsimp only
  rw [if_pos h]
  rfl

theorem load_refused (h : s.loadCode (s.cf KY_CTL_SLOT) ≠ 0) : (writeKeyCtl true false s).keys =
    { s.keys with result := s.loadCode (s.cf KY_CTL_SLOT) } := by
  rw [load_keys]
  unfold loadTaken
  dsimp only
  rw [if_neg h]

-- RETIRE (R473, R474)

/-- A slot is retired among the keys: its material waits to be erased. -/
def Keys.retired (k : Keys) (i : Nat) : Keys := k.onSlot i fun x => { x with valid := false, kcv := 0, erase := true }

theorem retireCode_eq (s : State) (i : Nat) : s.retireCode i = if s.keys.void ∨ s.on GL_CRYPT_BYPASS then 3
    else if (s.keys.slot i).valid = false ∨ (s.keys.wvalid ∧ s.keys.wslot = i) ∨ s.keys.rkState = 1 then 4 else 0 := by
  simp [State.retireCode, or_assoc]

theorem retire_taken (h : s.retireCode (s.cf KY_CTL_SLOT) = 0) : writeKeyCtl false true s =
    { s with keys := { s.keys.retired (s.cf KY_CTL_SLOT) with rkState := 0, result := 0 } } := by
  unfold writeKeyCtl retireKey
  dsimp only
  rw [if_pos rfl, h]
  rfl

theorem retire_refused (h : s.retireCode (s.cf KY_CTL_SLOT) ≠ 0) : writeKeyCtl false true s =
    { s with keys := { s.keys with result := s.retireCode (s.cf KY_CTL_SLOT) } } := by
  unfold writeKeyCtl retireKey
  dsimp only
  rw [if_pos rfl]
  dsimp only
  rw [if_neg h, if_pos h]
  rfl

end

/-- Settles O50: a LOAD and a RETIRE by the code of R474, and the erasure of a slot. -/
theorem keysAreLoadedRetiredAndErased : Obligations.KeysAreLoadedRetiredAndErased := by
  unfold Obligations.KeysAreLoadedRetiredAndErased
  intro s hclk
  have hslot := ctlSlot_lt s
  refine ⟨⟨writeKeyCtl true false s, ?_, ?_, fun h0 => ?_, fun h0 => ?_, fun hs i hi hz => load_zero (canonical_cfg hs) hz hi,
    load_frame s⟩, ⟨writeKeyCtl false true s, ?_, ?_, fun h0 => ?_, fun h0 => ?_, ?_⟩, fun i => ⟨fun herase hrest => ?_, fun h => ?_⟩⟩
  · rw [exec_load]
    exact congrArg Host.Outcome.next (if_pos hclk)
  · rw [load_keys, loadCode_eq]
  · rw [load_keys] at h0
    rw [load_taken h0]
    exact ⟨slot_onSlot_self _ _ hslot, slot_onSlot_opposite _ _ hslot, rfl⟩
  · have hcode : s.loadCode (s.cf KY_CTL_SLOT) ≠ 0 := by rw [load_keys] at h0; exact h0
    rw [load_refused hcode]
  · rw [exec_retire]
    exact congrArg Host.Outcome.next (if_pos hclk)
  · rw [← retireCode_eq]
    by_cases hcode : s.retireCode (s.cf KY_CTL_SLOT) = 0
    · rw [retire_taken hcode, hcode]
    · rw [retire_refused hcode]
  · by_cases hcode : s.retireCode (s.cf KY_CTL_SLOT) = 0
    · rw [retire_taken hcode]
      exact ⟨slot_onSlot_self _ _ hslot, slot_onSlot_opposite _ _ hslot, rfl⟩
    · rw [retire_refused hcode] at h0
      exact absurd h0 hcode
  · by_cases hcode : s.retireCode (s.cf KY_CTL_SLOT) = 0
    · rw [retire_taken hcode] at h0
      exact absurd rfl h0
    · rw [retire_refused hcode]
  · by_cases hcode : s.retireCode (s.cf KY_CTL_SLOT) = 0
    · rw [retire_taken hcode]
    · rw [retire_refused hcode]
  · refine ⟨s.onKeys fun k => k.onSlot i fun _ => .empty, ?_, slot_onSlot_self _ _ i.isLt, slot_onSlot_opposite _ _ i.isLt, rfl, rfl⟩
    rw [exec_keyErase]
    exact congrArg Host.Outcome.next (if_pos (by simp [hclk, herase, hrest]))
  · rw [exec_keyErase]
    exact congrArg Host.Outcome.next (if_neg (by rcases h with h | h <;> simp [h]))

section

variable {s t : State} {c : Nat}

-- the rekey pass (R475, R479)

/-- A channel and its pointer as a rekey pass begins at them. -/
def rekeyAt (s : State) (c : Nat) : State := (s.setSt (CH_RKPTR_Q c) 0).onChan c fun x => { x with rkNext := 0, rkDone := [] }

/-- Two states differ in the channels and the status registers alone. -/
def SameButWalk (s t : State) : Prop := t = { s with chans := t.chans, stat := t.stat, news := t.news }

theorem SameButWalk.trans {u : State} (h : SameButWalk s t) (h' : SameButWalk t u) : SameButWalk s u := by
  unfold SameButWalk at *
  rw [h', h]

theorem SameButStat.walk (h : SameButStat s t) : SameButWalk s t := by
  unfold SameButStat at h
  rw [h]
  rfl

theorem rekeyAt_walk (s : State) (c : Nat) : SameButWalk s (rekeyAt s c) := by
  have h := (setSt_frame s (CH_RKPTR_Q c) 0).walk
  exact h.trans rfl

theorem foldl_rekeyAt_walk (l : List Nat) (s : State) : SameButWalk s (l.foldl rekeyAt s) :=
  foldl_inv (SameButWalk s) l (fun t c _ ht => ht.trans (rekeyAt_walk t c)) rfl

theorem rekeyAt_other {d : Nat} (h : d ≠ c) (s : State) : (rekeyAt s c).chan d = s.chan d :=
  (State.chan_onChan_other _ _ h).trans ((setSt_frame s _ 0).chan d)

theorem rekeyAt_self (hc : c < 16) (s : State) : (rekeyAt s c).chan c = { s.chan c with rkNext := 0, rkDone := [] } := by
  unfold rekeyAt
  rw [State.chan_onChan_self _ _ hc, (setSt_frame s _ 0).chan c]

/-- Every channel of a list is at the start of the pass. -/
theorem foldl_rekeyAt_chan {l : List Nat} (hl : l.Nodup) (hc : c < 16) (hm : c ∈ l) (s : State) :
    (l.foldl rekeyAt s).chan c = { s.chan c with rkNext := 0, rkDone := [] } := by
  obtain ⟨l₁, l₂, rfl⟩ := List.append_of_mem hm
  have hnot := List.nodup_middle.mp hl
  have hkeep : ∀ (l : List Nat) (t : State), c ∉ l → (l.foldl rekeyAt t).chan c = t.chan c := fun l t hl =>
    foldl_inv (fun u => u.chan c = t.chan c) l
      (fun u d hd hu => (rekeyAt_other (fun h : c = d => hl (h ▸ hd)) u).trans hu) rfl
  have hnot' := (List.nodup_cons.mp hnot).1
  rw [List.foldl_append, List.foldl_cons, hkeep _ _ (fun h => hnot' (List.mem_append_right _ h)), rekeyAt_self hc,
    hkeep _ _ (fun h => hnot' (List.mem_append_left _ h))]

theorem rekeyAt_stat (s : State) (c : Nat) : (rekeyAt s c).stat = (s.setSt (CH_RKPTR_Q c) 0).stat := rfl

/-- Every pointer of a list shows 0. -/
theorem foldl_rekeyAt_ptr {l : List Nat} (hw : s.stat.wf) (hz : (CH_RKPTR_Q c).addr ∉ s.frozen)
    (h : c ∈ l ∨ s.st (CH_RKPTR_Q c) = 0) : (l.foldl rekeyAt s).st (CH_RKPTR_Q c) = 0 := by
  induction l generalizing s with
  | nil => exact h.resolve_left (by simp)
  | cons d l ih =>
    have hframe : rekeyAt s d = { s with chans := (rekeyAt s d).chans, stat := (rekeyAt s d).stat, news := (rekeyAt s d).news } :=
      rekeyAt_walk s d
    have hst := fun f => State.st_congr (rekeyAt_stat s d) f
    refine ih (by rw [rekeyAt_stat]; exact State.setSt_stat_wf _ _ hw) (by rw [hframe]; exact hz) ?_
    rw [hst]
    by_cases hd : c = d
    · subst hd
      exact .inr (by rw [State.st_setSt_self _ _ hw (by simp [CH_RKPTR_Q]) hz, Nat.zero_mod])
    · refine h.imp (fun hm => (List.mem_cons.mp hm).resolve_left hd) fun h0 => ?_
      rw [State.st_setSt_other _ _ _ hw (.inl (by simp [CH_RKPTR_Q]; omega)), h0]

/-- The keys as a pass begins: the slots change their roles. -/
def Keys.rekeying (k : Keys) : Keys := { k with rkState := 1, rkOld := k.wslot, wslot := 1 - k.wslot, result := 0 }

theorem startRekey_running (h : s.keys.rkState = 1) : startRekey s = s := by
  unfold startRekey
  exact if_pos h

theorem startRekey_paused (h : s.keys.rkState = 2) : startRekey s = { s with keys :=
    if s.flt.take then { s.keys with result := 5 } else { s.keys with rkState := 1, result := 0 } } := by
  unfold startRekey
  dsimp only
  rw [if_neg (by omega), if_pos h]
  split <;> rfl

theorem startRekey_barred (h0 : s.keys.rkState = 0) (h : s.keys.void ∨ s.on GL_CRYPT_BYPASS) :
    startRekey s = { s with keys := { s.keys with result := 3 } } := by
  unfold startRekey
  dsimp only
  rw [if_neg (by omega), if_neg (by omega), if_pos (by simpa using h)]
  rfl

theorem startRekey_refused (h0 : s.keys.rkState = 0) (hvoid : s.keys.void = false) (hby : s.on GL_CRYPT_BYPASS = false)
    (h : s.keys.wvalid = false ∨ (s.keys.slot (1 - s.keys.wslot)).valid = false ∨ s.flt.take) :
    startRekey s = { s with keys := { s.keys with result := 5 } } := by
  unfold startRekey
  dsimp only
  rw [if_neg (by omega), if_neg (by omega), if_neg (by simp [hvoid, hby]), if_pos (by rcases h with h | h | h <;> simp [h])]
  rfl

theorem startRekey_begins (h0 : s.keys.rkState = 0) (hvoid : s.keys.void = false) (hby : s.on GL_CRYPT_BYPASS = false)
    (hw : s.keys.wvalid) (hother : (s.keys.slot (1 - s.keys.wslot)).valid) (htake : s.flt.take = false) :
    startRekey s = allChans.foldl rekeyAt (s.onKeys Keys.rekeying) := by
  unfold startRekey
  dsimp only
  rw [if_neg (by omega), if_neg (by omega), if_neg (by simp [hvoid, hby]), if_neg (by simp [hw, hother, htake])]
  rfl

theorem abortRekey_running (h : s.keys.rkState = 1) : abortRekey s = { s with keys := { s.keys with rkState := 2 } } := by
  unfold abortRekey
  exact if_pos h

theorem abortRekey_other (h : s.keys.rkState ≠ 1) : abortRekey s = s := by
  unfold abortRekey
  exact if_neg h

/-- The keys as a pass ends: the old slot is retired. -/
def Keys.rekeyed (k : Keys) : Keys := { k.retired k.rkOld with rkState := 0 }

/-- The end of a pass is counted and its event raised. -/
def passEnded (s : State) : State := event .rekey ((s.onKeys Keys.rekeyed).bump KY_RKSTAT_PASSES)

theorem passEnd_eq (hclk : s.clocked) (h1 : s.keys.rkState = 1) (hover : s.rekeyOver) :
    exec .rekeyPassEnd s = .next (passEnded s) := by
  rw [exec_rekeyPassEnd]
  unfold execRekeyPassEnd
  rw [if_pos (by simp [hclk, h1, hover])]
  rfl

theorem passEnd_rest (h : s.keys.rkState ≠ 1 ∨ s.rekeyOver = false) : exec .rekeyPassEnd s = .next s := by
  rw [exec_rekeyPassEnd]
  unfold execRekeyPassEnd
  exact if_neg (by rcases h with h | h <;> simp [h])

theorem passEnded_frame (s : State) : SameButStat (s.onKeys Keys.rekeyed) (passEnded s) :=
  (bump_frame _ _ _).trans (event_frame _ _)

theorem passEnded_keys (s : State) : (passEnded s).keys = s.keys.rekeyed := by
  rw [(passEnded_frame s : _ = _)]
  rfl

theorem passEnded_shows (hw : s.stat.wf) :
    (KY_RKSTAT_PASSES.addr ∉ s.frozen →
      (passEnded s).st KY_RKSTAT_PASSES = min KY_RKSTAT_PASSES.max (s.st KY_RKSTAT_PASSES + 1)) ∧
    (FT_STSEVT_EVT.addr ∉ s.frozen → (passEnded s).st FT_STSEVT_EVT = s.st FT_STSEVT_EVT ||| 2 ^ Evt.rekey.bit) := by
  have hwb : ((s.onKeys Keys.rekeyed).bump KY_RKSTAT_PASSES).stat.wf := State.bump_stat_wf _ _ hw
  have hframe := bump_frame (s.onKeys Keys.rekeyed) KY_RKSTAT_PASSES 1
  have hself := fun hz => State.st_bump_self (s := s.onKeys Keys.rekeyed) KY_RKSTAT_PASSES 1 hw (by simp [KY_RKSTAT_PASSES]) hz
  have hother := State.st_bump_other (s := s.onKeys Keys.rekeyed) KY_RKSTAT_PASSES FT_STSEVT_EVT 1 hw
    (.inl (by simp [KY_RKSTAT_PASSES, FT_STSEVT_EVT]))
  unfold passEnded
  unfold SameButStat at hframe
  generalize (s.onKeys Keys.rekeyed).bump KY_RKSTAT_PASSES = u at *
  constructor
  · intro hz
    have hkeep : (event .rekey u).st KY_RKSTAT_PASSES = u.st KY_RKSTAT_PASSES :=
      State.st_setBits_other _ _ _ hwb (.inl (by simp [KY_RKSTAT_PASSES, FT_STSEVT_EVT]))
    rw [hkeep, hself hz]
    rfl
  · intro hz
    rw [State.st_event _ hwb (by rw [hframe]; exact hz), hother]
    rfl

end

/-- Settles O51: START, ABORT and the end of a rekey pass, by its state. -/
theorem rekeyPassesStartPauseAndEnd : Obligations.RekeyPassesStartPauseAndEnd := by
  unfold Obligations.RekeyPassesStartPauseAndEnd
  intro s hs hclk
  have hstat := canonical_stat hs
  have hstart : exec .rekeyStart s = .next (startRekey s) := congrArg Host.Outcome.next (if_pos hclk)
  have habort : exec .rekeyAbort s = .next (abortRekey s) := congrArg Host.Outcome.next (if_pos hclk)
  rw [hstart, habort]
  refine ⟨fun h => ⟨by rw [startRekey_running h], by rw [abortRekey_running h]⟩, fun h => by rw [startRekey_paused h],
    fun h => by rw [abortRekey_other h], fun h0 => ⟨fun h => by rw [startRekey_barred h0 h], fun hvoid hby =>
      ⟨fun h => by rw [startRekey_refused h0 hvoid hby h], fun hw hother htake => ?_⟩⟩,
    fun h1 hover hold => ?_, fun h => passEnd_rest h⟩
  · rw [startRekey_begins h0 hvoid hby hw hother htake]
    have hframe := foldl_rekeyAt_walk allChans (s.onKeys Keys.rekeying)
    have hkeys : (allChans.foldl rekeyAt (s.onKeys Keys.rekeying)).keys = s.keys.rekeying := by
      rw [(hframe : _ = _)]
      rfl
    refine ⟨_, rfl, hkeys, fun c hc => ⟨?_, fun hz => ?_⟩, ?_⟩
    · exact foldl_rekeyAt_chan List.nodup_range hc (List.mem_range.mpr hc) (s.onKeys Keys.rekeying)
    · exact foldl_rekeyAt_ptr (s := s.onKeys Keys.rekeying) hstat hz (.inl (List.mem_range.mpr hc))
    · unfold SameButWalk at hframe
      generalize allChans.foldl rekeyAt (s.onKeys Keys.rekeying) = t at hframe ⊢
      rw [hframe]
      rfl
  · have hframe := passEnded_frame s
    have hkeys := passEnded_keys s
    obtain ⟨hpasses, hevent⟩ := passEnded_shows (s := s) hstat
    rw [passEnd_eq hclk h1 hover]
    unfold SameButStat at hframe
    generalize passEnded s = t at *
    refine ⟨t, rfl, ?_, ?_, ?_, hpasses, hevent, ?_⟩
    · rw [hkeys]
      exact slot_onSlot_self _ _ hold
    · rw [hkeys]
      exact slot_onSlot_opposite _ _ hold
    · rw [hkeys]
      rfl
    · rw [hframe]
      rfl

end Sys2Proof.Machine
end

section
/-!
The instructions of the test access port: their selection, the quiesce, and the stop for secure access (O52).
-/

namespace Sys2Proof.Machine

section

variable {s t u : State} {i : TapInstr}

-- Update-IR (R480)

/-- The controller after a scan into the instruction register. -/
def TapCtl.afterIr (c : TapCtl) : TapCtl := (scanTms true 6).foldl (fun c m => c.next m) c

/-- An instruction is in the register, before it acts. -/
def State.irLoaded (s : State) (i : TapInstr) : State := { s with tap := { s.tap with ctl := s.tap.ctl.afterIr, instr := i } }

theorem afterIr_of_rest {c : TapCtl} (h : c = .testLogicReset ∨ c = .updateIr ∨ c = .updateDr) : c.afterIr = .updateIr := by
  rcases h with rfl | rfl | rfl <;> rfl

theorem selectInstr_dark (h : s.porst = false) : selectInstr i s = s := by
  unfold selectInstr
  exact if_pos (by simp [h])

theorem selectInstr_secure (h : s.porst) (hi : i.secure = true) : selectInstr i s = startSecure (s.irLoaded i) := by
  unfold selectInstr
  rw [if_neg (by simp [h])]
  exact if_pos hi

theorem selectInstr_quiesces (h : s.porst) (hs : i.secure = false) (hi : i.quiesces = true) :
    selectInstr i s = startQuiesce (s.irLoaded i) := by
  unfold selectInstr
  rw [if_neg (by simp [h])]
  dsimp only
  rw [if_neg (by simp [hs]), if_pos hi]
  rfl

theorem selectInstr_other (h : s.porst) (hs : i.secure = false) (hi : i.quiesces = false) :
    selectInstr i s = endQuiesce (s.irLoaded i) := by
  unfold selectInstr
  rw [if_neg (by simp [h])]
  dsimp only
  rw [if_neg (by simp [hs]), if_neg (by simp [hi])]
  rfl

-- what the quiesce leaves (R482)

/-- The TAP, the keys and the DRAM are as they were. -/
def SameTest (s t : State) : Prop := t.tap = s.tap ∧ t.keys = s.keys ∧ t.dram = s.dram

theorem SameTest.trans (h : SameTest s t) (h' : SameTest t u) : SameTest s u := by
  obtain ⟨htap, hkeys, hdram⟩ := h
  obtain ⟨htap', hkeys', hdram'⟩ := h'
  exact ⟨htap'.trans htap, hkeys'.trans hkeys, hdram'.trans hdram⟩

theorem ChannelWork.sameTest (h : ChannelWork s t) : SameTest s t := by
  unfold ChannelWork at h
  rw [h]
  exact ⟨rfl, rfl, rfl⟩

theorem SameButPins.sameTest (h : SameButPins s t) : SameTest s t := by
  unfold SameButPins at h
  rw [h]
  exact ⟨rfl, rfl, rfl⟩

theorem giveRoom_work (s : State) : ChannelWork s (giveRoom s) := .foldl (fun _ _ => onChan_work _ _ _) _ _

/-- A quiesce stands at a step; all else of the test is as it was. -/
def QuiesceAt (n : Nat) (leaving : Bool) (s t : State) : Prop :=
  t.tap = { s.tap with quiesce := n, leaving := leaving } ∧ t.keys = s.keys ∧ t.dram = s.dram

theorem QuiesceAt.then {n : Nat} {b : Bool} (h : QuiesceAt n b s t) (h' : SameTest t u) : QuiesceAt n b s u := by
  obtain ⟨htap, hkeys, hdram⟩ := h
  obtain ⟨htap', hkeys', hdram'⟩ := h'
  exact ⟨htap'.trans htap, hkeys'.trans hkeys, hdram'.trans hdram⟩

theorem QuiesceAt.after {n : Nat} {b : Bool} (h : SameTest s t) (h' : QuiesceAt n b t u) : QuiesceAt n b s u := by
  obtain ⟨htap, hkeys, hdram⟩ := h
  obtain ⟨htap', hkeys', hdram'⟩ := h'
  exact ⟨by rw [htap', htap], hkeys'.trans hkeys, hdram'.trans hdram⟩

theorem openQuiesce_at (s : State) : QuiesceAt 0 false s (openQuiesce s) :=
  QuiesceAt.after (giveRoom_work s).sameTest ⟨rfl, rfl, rfl⟩

theorem takePins_at (h : s.tap.leaving = false) : QuiesceAt 5 false s (takePins s) := ⟨by rw [← h]; rfl, rfl, rfl⟩

theorem quiesceStep_at (n : Nat) (h : s.tap.leaving = false) : QuiesceAt n false s (quiesceStep n s) :=
  ⟨by rw [← h]; rfl, rfl, rfl⟩

/-- The exit of a quiesce waits. -/
def State.exitStands (s : State) : Bool :=
  !s.clocked || !s.pins.pclk || s.flt.haltStep ≠ 0 || s.clk.retStep ≠ 0 || s.clk.blkStep ≠ 0 || s.clk.startStep ≠ 0

theorem settleQuiesce_of_five (h : s.tap.quiesce = 5) : settleQuiesce s =
    if !s.tap.leaving || s.exitStands then s
    else if s.op.dsm = 2 ∨ s.serving.all s.chanUp then raiseReady (resumeTests (openQuiesce s))
    else if s.serving.all s.exited then giveRoom s
    else s := by
  unfold settleQuiesce
  rw [h] <;> rfl

/-- Step 2 of a quiesce: the channels in service admit nothing more, and evict their gills. -/
def quiesceIntake (s : State) : State := s.serving.foldl (fun s c => s.onChan c Chan.closeIntake) (quiesceStep 2 s)

theorem settleQuiesce_of_one (h : s.tap.quiesce = 1) : settleQuiesce s =
    if s.op.pend || s.op.step ≠ 0 || s.op.dsmStep ≠ 0 then s
    else if s.op.dsm = 2 then takePins s
    else quiesceIntake s := by
  unfold settleQuiesce
  rw [h] <;> rfl

/-- While a quiesce is being left, its exit waits or ends. -/
theorem settleQuiesce_leaving (hq : s.tap.quiesce = 5) (hl : s.tap.leaving = true) :
    QuiesceAt 5 true s (settleQuiesce s) ∨ QuiesceAt 0 false s (settleQuiesce s) := by
  have hstay : QuiesceAt 5 true s s := ⟨by rw [← hq, ← hl], rfl, rfl⟩
  rw [settleQuiesce_of_five hq]
  split
  · exact .inl hstay
  · split
    · exact .inr (((openQuiesce_at s).then (resumeTests_work _).sameTest).then (raiseReady_frame _).sameTest)
    · split
      · exact .inl (hstay.then (giveRoom_work s).sameTest)
      · exact .inl hstay

/-- A quiesce that has begun waits, stops intake, or takes the pins of a block in deep sleep. -/
theorem settleQuiesce_begun (hq : s.tap.quiesce = 1) (hl : s.tap.leaving = false) :
    QuiesceAt 1 false s (settleQuiesce s) ∨ QuiesceAt 2 false s (settleQuiesce s) ∨ QuiesceAt 5 false s (settleQuiesce s) := by
  have hintake : ChannelWork (quiesceStep 2 s) (quiesceIntake s) := .foldl (fun _ _ => onChan_work _ _ _) _ _
  rw [settleQuiesce_of_one hq]
  split
  · exact .inl ⟨by rw [← hq, ← hl], rfl, rfl⟩
  · split
    · exact .inr (.inr (takePins_at hl))
    · exact .inr (.inl ((quiesceStep_at 2 hl).then hintake.sameTest))

theorem endQuiesce_of_none (h : s.tap.quiesce = 0 ∨ s.tap.leaving = true) : endQuiesce s = s := by
  unfold endQuiesce
  exact if_pos h

theorem QuiesceAt.trans {n m : Nat} {b c : Bool} (h : QuiesceAt n b s t) (h' : QuiesceAt m c t u) : QuiesceAt m c s u := by
  obtain ⟨htap, hkeys, hdram⟩ := h
  obtain ⟨htap', hkeys', hdram'⟩ := h'
  exact ⟨by rw [htap', htap], hkeys'.trans hkeys, hdram'.trans hdram⟩

theorem QuiesceAt.left (h : QuiesceAt 5 true s t) :
    QuiesceAt 5 true s (settleQuiesce t) ∨ QuiesceAt 0 false s (settleQuiesce t) :=
  (settleQuiesce_leaving (by rw [h.1]) (by rw [h.1])).imp h.trans h.trans

theorem foldl_rouse_sameTest (check : Bool) (l : List Nat) (s : State) :
    SameTest s (l.foldl (fun s c => s.onRanks c (Rank.rouse check)) s) :=
  (ChannelWork.foldl (fun _ _ => onRanks_work _ _ _) l s).sameTest

theorem endQuiesce_at (hq : s.tap.quiesce ≠ 0) (hl : s.tap.leaving = false) :
    QuiesceAt 5 true s (endQuiesce s) ∨ QuiesceAt 0 false s (endQuiesce s) := by
  have hleave : QuiesceAt 5 true s { s with tap := { s.tap with quiesce := 5, leaving := true } } := ⟨rfl, rfl, rfl⟩
  unfold endQuiesce
  rw [if_neg (by simp [hq, hl])]
  split
  · exact .inr (openQuiesce_at s)
  · dsimp only
    split
    · exact hleave.left
    · exact ((hleave.then (foldl_rouse_sameTest true _ _)).then (foldl_rouse_sameTest false _ _)).left

theorem startQuiesce_held (hq : s.tap.quiesce ≠ 0) (hl : s.tap.leaving = false) : startQuiesce s = s := by
  unfold startQuiesce
  exact if_pos ⟨hq, by simp [hl]⟩

/-- A block without a clock, or with a sequence under way, gives its pins at once. -/
theorem startQuiesce_dark (h : s.tap.leaving = true ∨ s.tap.quiesce = 0)
    (hd : s.flt.haltStep ≠ 0 ∨ s.rsiAlive = false ∨ s.clk.startStep ≠ 0 ∨ s.clk.retStep ≠ 0 ∨ s.clk.blkStep ≠ 0) :
    startQuiesce s = { s with
      tap := { s.tap with quiesce := 5, leaving := false }, pins := { s.pins with dmReady := false } } := by
  unfold startQuiesce
  rw [if_neg (by rcases h with h | h <;> simp [h])]
  exact if_pos (by simpa using hd)

theorem startQuiesce_begun (h : s.tap.leaving = true ∨ s.tap.quiesce = 0) (h0 : s.flt.haltStep = 0) (hr : s.rsiAlive)
    (hstart : s.clk.startStep = 0) (hret : s.clk.retStep = 0) (hblk : s.clk.blkStep = 0) :
    QuiesceAt 1 false s (startQuiesce s) ∨ QuiesceAt 2 false s (startQuiesce s) ∨ QuiesceAt 5 false s (startQuiesce s) := by
  unfold startQuiesce
  rw [if_neg (by rcases h with h | h <;> simp [h])]
  dsimp only
  rw [if_neg (by simp [h0, hr, hstart, hret, hblk])]
  have hrest : QuiesceAt s.tap.quiesce false s { s with tap := { s.tap with leaving := false } } := ⟨rfl, rfl, rfl⟩
  have hbegun := (hrest.then (abandonTests_work _).sameTest).trans (quiesceStep_at 1 ?_)
  · exact (settleQuiesce_begun (by rw [hbegun.1]) (by rw [hbegun.1])).imp hbegun.trans (.imp hbegun.trans hbegun.trans)
  · rw [(abandonTests_work { s with tap := { s.tap with leaving := false } }).sameTest.1]

-- the stop for secure access (R484)

theorem startSecure_held (h : s.tap.secStep ≠ 0) : startSecure s = s := by
  unfold startSecure
  exact if_pos h

theorem startSecure_dark (h : s.tap.secStep = 0) (hr : s.rsiAlive = false) :
    startSecure s = grantDark { s with tap := { s.tap with secStep := 1, quiesce := 0, leaving := false } } := by
  unfold startSecure
  rw [if_neg (by simp [h])]
  exact if_pos (by simp [hr])

theorem grantDark_eq (s : State) : grantDark s = { s with
    cfg := (clearStaging s).cfg, parErr := (clearStaging s).parErr
    tap := { s.tap with secStep := 6 }, flt := { s.flt with testStop := true, haltStep := 4 }
    keys := { s.keys with
      slots := Vector.replicate 2 .empty, wvalid := false, wslot := 0, void := true, rkState := 0, keyzLater := true } } := by
  unfold grantDark
  rw [zeroize_eq]

/-- Two states differ in the spill channels and the status registers alone. -/
def SameButSpill (s t : State) : Prop := t = { s with spill := t.spill, stat := t.stat, news := t.news }

theorem SameButSpill.trans (h : SameButSpill s t) (h' : SameButSpill t u) : SameButSpill s u := by
  unfold SameButSpill at *
  rw [h', h]

theorem spillHalt_frame (d cause : Nat) (s : State) : SameButSpill s (spillHalt d cause s) := by
  have h : SameButStat (s.onSpill d fun c => { c with state := .halting, hcause := cause }) (event .spill (s.onSpill d fun c =>
    { c with state := .halting, hcause := cause })) := event_frame _ _
  have he : SameButSpill s (event .spill (s.onSpill d fun c => { c with state := .halting, hcause := cause })) := by
    unfold SameButSpill
    unfold SameButStat at h
    rw [h]
    rfl
  unfold spillHalt
  split
  · exact he
  · exact he
  · exact he
  · rfl

theorem spillStops_frame (s : State) : SameButSpill s (spillStops s) :=
  foldl_inv (SameButSpill s) _ (fun t d _ ht => ht.trans (spillHalt_frame d 6 t)) rfl

theorem startSecure_stops (h : s.tap.secStep = 0) (hr : s.rsiAlive) :
    (startSecure s).tap = { s.tap with secStep := 1, quiesce := 0, leaving := false } ∧
    (startSecure s).flt.testStop = true ∧ (startSecure s).flt.haltStep = 2 ∧ (startSecure s).keys = s.keys ∧
    (startSecure s).dram = s.dram ∧
    (s.flt.haltStep = 0 → (startSecure s).pins.dmReady = false ∧ (startSecure s).pins.ingHold = 0b1111) := by
  unfold startSecure
  rw [if_neg (by simp [h])]
  dsimp only
  rw [if_neg (by simp [hr])]
  by_cases h0 : s.flt.haltStep = 0
  · rw [if_pos h0]
    unfold stopBlock
    have hframe := spillStops_frame { s with
      tap := { s.tap with secStep := 1, quiesce := 0, leaving := false }
      pins := { s.pins with dmReady := false, ingHold := 0b1111 }
      flt := { s.flt with haltStep := 2 } }
    unfold SameButSpill at hframe
    dsimp only at hframe ⊢
    generalize spillStops _ = v at hframe ⊢
    rw [hframe]
    exact ⟨rfl, rfl, rfl, rfl, rfl, fun _ => ⟨rfl, rfl⟩⟩
  · rw [if_neg h0]
    exact ⟨rfl, rfl, rfl, rfl, rfl, fun h => absurd h h0⟩

-- what the statement says of each instruction

/-- What the selection of an instruction that neither quiesces nor stops the block gives, in a state and its outcome. -/
def EndsQuiesce (i : TapInstr) (ctl : TapCtl) (s : State) (o : Host.Outcome State Fault Refusal) : Prop :=
  (s.porst → s.tap.quiesce = 0 ∨ s.tap.leaving → o = .next { s with tap := { s.tap with instr := i, ctl := ctl } }) ∧
  (s.porst → s.tap.quiesce ≠ 0 → s.tap.leaving = false →
    ∃ t, o = .next t ∧ t.tap.instr = i ∧ t.tap.ctl = ctl ∧
      (t.tap.quiesce = 0 ∨ (t.tap.quiesce = 5 ∧ t.tap.leaving)) ∧ t.keys = s.keys ∧ t.dram = s.dram)

theorem selectInstr_ends (hs : i.secure = false) (hi : i.quiesces = false) :
    EndsQuiesce i s.tap.ctl.afterIr s (.next (selectInstr i s)) := by
  refine ⟨fun hp h => ?_, fun hp hq hl => ⟨_, rfl, ?_⟩⟩
  · rw [selectInstr_other hp hs hi, endQuiesce_of_none (s := s.irLoaded i) h]
    rfl
  · rw [selectInstr_other hp hs hi]
    rcases endQuiesce_at (s := s.irLoaded i) hq hl with ⟨htap, hkeys, hdram⟩ | ⟨htap, hkeys, hdram⟩
    · rw [htap]
      exact ⟨rfl, rfl, .inr ⟨rfl, rfl⟩, hkeys, hdram⟩
    · rw [htap]
      exact ⟨rfl, rfl, .inl rfl, hkeys, hdram⟩

theorem trstN_ends : EndsQuiesce .idcode .testLogicReset s (execTrstNAssert s) := by
  have h := selectInstr_ends (s := s) (i := .idcode) rfl rfl
  obtain ⟨hnone, hsome⟩ := h
  refine ⟨fun hp h => ?_, fun hp hq hl => ?_⟩
  · have he : updateIr 0x01 s = _ := Host.Outcome.next.inj (hnone hp h)
    unfold execTrstNAssert
    rw [he]
  · obtain ⟨t, ht, hinstr, _, hquiesce, hkeys, hdram⟩ := hsome hp hq hl
    have he : updateIr 0x01 s = t := Host.Outcome.next.inj ht
    unfold execTrstNAssert
    rw [he]
    exact ⟨_, rfl, hinstr, rfl, hquiesce, hkeys, hdram⟩

theorem trstN_dark (h : s.porst = false) : execTrstNAssert s = .next { s with tap := { s.tap with ctl := .testLogicReset } } := by
  have he : updateIr 0x01 s = s := selectInstr_dark h
  unfold execTrstNAssert
  rw [he]

/-- What the selection of EXTEST, CLAMP or HIGHZ gives (R482), in a state and its outcome. -/
def BeginsQuiesce (i : TapInstr) (s : State) (o : Host.Outcome State Fault Refusal) : Prop :=
  (s.porst = false → o = .next s) ∧
  (s.porst → s.tap.leaving = false → s.tap.quiesce ≠ 0 →
    o = .next { s with tap := { s.tap with instr := i, ctl := s.tap.ctl.afterIr } }) ∧
  (s.porst → s.tap.leaving ∨ s.tap.quiesce = 0 →
    (s.flt.haltStep ≠ 0 ∨ s.rsiAlive = false ∨ s.clk.startStep ≠ 0 ∨ s.clk.retStep ≠ 0 ∨ s.clk.blkStep ≠ 0 →
      o = .next { s with
        tap := { s.tap with instr := i, ctl := s.tap.ctl.afterIr, quiesce := 5, leaving := false }
        pins := { s.pins with dmReady := false } }) ∧
    (s.flt.haltStep = 0 → s.rsiAlive → s.clk.startStep = 0 → s.clk.retStep = 0 → s.clk.blkStep = 0 →
      ∃ t, o = .next t ∧ t.tap.instr = i ∧ t.tap.ctl = s.tap.ctl.afterIr ∧ t.tap.leaving = false ∧
        (t.tap.quiesce = 1 ∨ t.tap.quiesce = 2 ∨ t.tap.quiesce = 5) ∧ t.keys = s.keys ∧ t.dram = s.dram))

theorem selectInstr_begins (hs : i.secure = false) (hi : i.quiesces = true) : BeginsQuiesce i s (.next (selectInstr i s)) := by
  refine ⟨fun hp => by rw [selectInstr_dark hp], fun hp hl hq => ?_, fun hp h => ⟨fun hd => ?_, fun h0 hr hst hret hblk => ?_⟩⟩
  · rw [selectInstr_quiesces hp hs hi, startQuiesce_held (s := s.irLoaded i) hq hl]
    rfl
  · rw [selectInstr_quiesces hp hs hi, startQuiesce_dark (s := s.irLoaded i) h hd]
    rfl
  · rw [selectInstr_quiesces hp hs hi]
    refine ⟨_, rfl, ?_⟩
    have hbegun := startQuiesce_begun (s := s.irLoaded i) h h0 hr hst hret hblk
    generalize startQuiesce (s.irLoaded i) = t at hbegun ⊢
    have hall : ∃ n, (n = 1 ∨ n = 2 ∨ n = 5) ∧ QuiesceAt n false (s.irLoaded i) t := by
      rcases hbegun with h1 | h2 | h5
      · exact ⟨1, .inl rfl, h1⟩
      · exact ⟨2, .inr (.inl rfl), h2⟩
      · exact ⟨5, .inr (.inr rfl), h5⟩
    obtain ⟨n, hn, htap, hkeys, hdram⟩ := hall
    rw [htap]
    exact ⟨rfl, rfl, rfl, hn, hkeys, hdram⟩

/-- What the selection of IJTAG_SEC or SCANMODE gives (R484), in a state and its outcome. -/
def StopsBlock (i : TapInstr) (s : State) (o : Host.Outcome State Fault Refusal) : Prop :=
  (s.porst = false → o = .next s) ∧
  (s.porst → s.tap.secStep ≠ 0 → o = .next { s with tap := { s.tap with instr := i, ctl := s.tap.ctl.afterIr } }) ∧
  (s.porst → s.tap.secStep = 0 →
    (s.rsiAlive = false → ∃ t, o = .next t ∧ t.haltedBit ∧ t.keys.void ∧
      t.keys.slots = Vector.replicate 2 .empty ∧ t.keys.rkState = 0 ∧ t.keys.keyzLater ∧
      t = { s with
        tap := { s.tap with instr := i, ctl := s.tap.ctl.afterIr, secStep := 6, quiesce := 0, leaving := false }
        flt := { s.flt with testStop := true, haltStep := 4 }
        keys := t.keys, cfg := t.cfg, parErr := t.parErr }) ∧
    (s.rsiAlive → ∃ t, o = .next t ∧
      t.tap = { s.tap with instr := i, ctl := s.tap.ctl.afterIr, secStep := 1, quiesce := 0, leaving := false } ∧
      t.flt.testStop ∧ t.flt.haltStep = 2 ∧ t.keys = s.keys ∧ t.dram = s.dram ∧
      (s.flt.haltStep = 0 → t.pins.dmReady = false ∧ t.pins.ingHold = 0b1111)))

theorem selectInstr_stops (hi : i.secure = true) : StopsBlock i s (.next (selectInstr i s)) := by
  refine ⟨fun hp => by rw [selectInstr_dark hp], fun hp h => ?_, fun hp h => ⟨fun hr => ?_, fun hr => ?_⟩⟩
  · rw [selectInstr_secure hp hi, startSecure_held (s := s.irLoaded i) h]
    rfl
  · rw [selectInstr_secure hp hi, startSecure_dark (s := s.irLoaded i) h hr, grantDark_eq]
    generalize clearStaging _ = v
    refine ⟨_, rfl, ?_, rfl, rfl, rfl, rfl, rfl⟩
    simp [State.haltedBit]
  · rw [selectInstr_secure hp hi]
    exact ⟨_, rfl, startSecure_stops (s := s.irLoaded i) h hr⟩

end

/-- Settles O52: Update-IR by the kind of the instruction, and TRST_N. -/
theorem tapInstructionsAreSelected : Obligations.TapInstructionsAreSelected := by
  unfold Obligations.TapInstructionsAreSelected
  intro s scanned
  have hscanned : scanned = s.tap.ctl.afterIr := rfl
  clear_value scanned
  subst hscanned
  refine ⟨afterIr_of_rest, ?_, ?_, ?_⟩
  · intro p hp
    have hother : ∀ (c : Instr) (i : TapInstr), c ≠ .trstNAssert → exec c s = .next (selectInstr i s) → i.secure = false →
        i.quiesces = false → (s.porst = false → exec c s =
          .next (if c = .trstNAssert then { s with tap := { s.tap with ctl := .testLogicReset } } else s)) ∧
          EndsQuiesce i s.tap.ctl.afterIr s (exec c s) := by
      intro c i hc he hs hi
      rw [if_neg hc, he]
      exact ⟨fun h => by rw [selectInstr_dark h], selectInstr_ends hs hi⟩
    simp only [List.mem_cons, List.not_mem_nil, or_false] at hp
    rcases hp with rfl | rfl | rfl | rfl | rfl | rfl
    · exact ⟨fun h => trstN_dark h, trstN_ends⟩
    · exact hother .idcode .idcode (by decide) rfl rfl rfl
    · exact hother .samplePreload .sample (by decide) rfl rfl rfl
    · exact hother .chtest .chtest (by decide) rfl rfl rfl
    · exact hother .ijtagPub .ijtagPub (by decide) rfl rfl rfl
    · exact hother .bypass .bypass (by decide) rfl rfl rfl
  · intro p hp
    simp only [List.mem_cons, List.not_mem_nil, or_false] at hp
    rcases hp with rfl | rfl | rfl
    · exact selectInstr_begins (i := .extest) rfl rfl
    · exact selectInstr_begins (i := .clamp) rfl rfl
    · exact selectInstr_begins (i := .highz) rfl rfl
  · intro p hp
    simp only [List.mem_cons, List.not_mem_nil, or_false] at hp
    rcases hp with rfl | rfl
    · exact selectInstr_stops (i := .ijtagSec) rfl
    · exact selectInstr_stops (i := .scanmode) rfl

end Sys2Proof.Machine
end

section
/-!
Tests of one channel (O53).
-/

namespace Sys2Proof.Machine

section

variable {s t u : State} {c : Nat}

/-- Two states differ in the work of the channels, and in what is counted of it, alone. -/
def CountedWork (s t : State) : Prop :=
  t = { s with stat := t.stat, news := t.news, brk := t.brk, chans := t.chans, cals := t.cals, quads := t.quads, perf := t.perf }

theorem CountedWork.refl (s : State) : CountedWork s s := rfl

theorem CountedWork.trans (h : CountedWork s t) (h' : CountedWork t u) : CountedWork s u := by
  unfold CountedWork at *
  rw [h', h]

theorem ChannelWork.counted (h : ChannelWork s t) : CountedWork s t := by
  unfold ChannelWork at h
  rw [h]
  rfl

theorem writeback_counted (v m : Nat) (d : Line) (mop : Bool) (s : State) : CountedWork s (s.writeback v m d mop) := rfl

theorem cleanWay_counted (q w : Nat) (mop : Bool) (s : State) : CountedWork s (s.cleanWay q w mop) := by
  unfold State.cleanWay
  dsimp only
  split
  · exact (writeback_counted _ _ _ _ _).trans (onQuad_work _ _ _).counted
  · exact .refl s

-- step 5 of a test (R488)

/-- The test of a channel is at its step 5. -/
def Chan.testOut (x : Chan) : Prop := x.test = 5 ∧ x.testStop = false

theorem initSet_chans (c k : Nat) (s : State) : (initSet c k s).chans = s.chans := by
  unfold initSet
  split
  · rfl
  · refine (foldl_same State.chans (fun s i => ?_) _ _).trans rfl
    simp

theorem testOut_onRanks (f : Rank → Rank) (h : (s.chan c).testOut) : ((s.onRanks c f).chan c).testOut :=
  State.chan_onChan_inv Chan.testOut s c (f := fun x => { x with ranks := x.ranks.map f }) (fun _ h => h) h

theorem testReturn_out (hc : c < 16) (s : State) : ((testReturn c s).chan c).testOut := by
  have h5 : (((setTest c 5 s).onChan c fun x => { x with testStop := false }).chan c).testOut := by
    unfold setTest
    rw [State.chan_onChan_self _ _ hc, State.chan_onChan_self _ _ hc]
    exact ⟨rfl, rfl⟩
  unfold testReturn
  dsimp only
  split
  · exact testOut_onRanks _ h5
  · generalize (setTest c 5 s).onChan c (fun x => { x with testStop := false }) = u at h5 ⊢
    have hset : ((initSet c u.op.cur u).chan c).testOut := by
      unfold State.chan at *
      rwa [initSet_chans]
    generalize initSet c u.op.cur u = v at hset ⊢
    have hmargin : (((restartTracking c v).setSt (CH_MARGIN_VALID c) 0).chan c).testOut := by
      rw [(setSt_frame _ (CH_MARGIN_VALID c) 0).chan c]
      exact hset
    generalize (restartTracking c v).setSt (CH_MARGIN_VALID c) 0 = w at hmargin ⊢
    have hrouse := testOut_onRanks (Rank.rouse false) hmargin
    exact State.chan_onChan_inv Chan.testOut _ c (f := fun x => { x with job := .retrain true }) (fun _ h => h) hrouse

theorem testReturn_shows {f : Field} {v : Nat} (h : Showing f v s) (hf : f.addr = (CH_TSTSTAT_ERRS c).addr) :
    Showing f v (testReturn c s) := by
  have hinit : ∀ k, ∀ u : State, Showing f v u → Showing f v (initSet c k u) := by
    intro k u hu
    unfold initSet
    split
    · exact hu
    · refine Showing.foldl (hu.congr rfl) fun t i _ ht => (ht.setSt (.inl ?_)).setSt (.inl ?_)
      · rw [hf]; simp only [CH_TSTSTAT_ERRS, CH_BD_RD]; omega
      · rw [hf]; simp only [CH_TSTSTAT_ERRS, CH_BD_WR]; omega
  unfold testReturn
  dsimp only
  split
  · exact h.congr rfl
  · have hu : Showing f v ((setTest c 5 s).onChan c fun x => { x with testStop := false }) := h.congr rfl
    generalize (setTest c 5 s).onChan c (fun x => { x with testStop := false }) = u at hu ⊢
    have hset := hinit u.op.cur u hu
    generalize initSet c u.op.cur u = r at hset ⊢
    have htrack : Showing f v (restartTracking c r) := hset.congr rfl
    have hmargin := htrack.setSt (g := CH_MARGIN_VALID c) (w := 0)
      (.inl (by rw [hf]; simp only [CH_TSTSTAT_ERRS, CH_MARGIN_VALID]; omega))
    generalize (restartTracking c r).setSt (CH_MARGIN_VALID c) 0 = w at hmargin ⊢
    exact hmargin.congr rfl

-- the steps (R488)

/-- The gills of a channel under test are evicted. -/
def evictAll (c : Nat) (s : State) : State := s.onChan c fun x => x.evictGills .other fun _ => true

/-- The channel under test goes to self-refresh. -/
def testSleep (c : Nat) (s : State) : State :=
  (setTest c 2 s).onRanks c fun k => if k.awake then k.ask (.selfRefresh false) else k

/-- The DIRTY lines of a channel in the cache of its quad. -/
def State.dirtyOf (s : State) (c : Nat) : List (Nat × Way) :=
  (s.quad (quadOf c)).ways.filter fun e => e.2.chan == c && e.2.st == .dirty

/-- The cache writes lines of a quad back. -/
def cleanWays (q : Nat) (l : List (Nat × Way)) (s : State) : State := l.foldl (fun s e => s.cleanWay q e.1 false) s

/-- Step 2 of a test is over: the channel is in TEST. -/
def testBegun (c : Nat) (s : State) : State :=
  s.onChan c fun x => { x with prev := x.state, state := .test, test := if x.testDbist then 4 else 3 }

theorem settleTest_of_one (h : (s.chan c).test = 1) : settleTest c s =
    if (s.chan c).testStop then testReturn c (evictAll c s)
    else if (s.chan c).state ≠ .spare ∧ !(evictAll c s).emptied c then evictAll c s
    else if ((evictAll c s).dirtyOf c).isEmpty then testSleep c (evictAll c s)
    else cleanWays (quadOf c) ((evictAll c s).dirtyOf c) (evictAll c s) := by
  unfold settleTest
  dsimp only
  rw [h] <;> rfl

theorem settleTest_of_two (h : (s.chan c).test = 2) : settleTest c s =
    if (s.chan c).testStop then testReturn c s
    else if s.chanDown c then
      if (s.chan c).testDbist then (testBegun c s).onRanks c (Rank.rouse false) else testBegun c s
    else s := by
  unfold settleTest
  dsimp only
  rw [h] <;> rfl

theorem settleTest_of_three (h : (s.chan c).test = 3) : settleTest c s =
    if (s.chan c).testStop then testReturn c s else s := by
  unfold settleTest
  dsimp only
  rw [h] <;> rfl

/-- The test lines of a channel that have not started are given up. -/
def dropWaitingTests (c : Nat) (s : State) : State := dropTests c (fun o => o.bursts = 0) s

theorem settleTest_of_four (h : (s.chan c).test = 4) : settleTest c s =
    if !(s.chan c).testStop then (if s.quadWorks (quadOf c) then feedTest c s else s)
    else if ((dropWaitingTests c s).chan c).testLines = 0 then testReturn c (dropWaitingTests c s)
    else dropWaitingTests c s := by
  unfold settleTest
  dsimp only
  rw [h] <;> rfl

theorem feedTest_counted (c : Nat) (s : State) : CountedWork s (feedTest c s) := by
  unfold feedTest
  dsimp only
  split
  · exact .refl s
  · exact ((onChan_work _ _ _).trans (onChan_work _ _ _)).counted

theorem cleanWays_counted (q : Nat) (l : List (Nat × Way)) (s : State) : CountedWork s (cleanWays q l s) :=
  foldl_inv (CountedWork s) l (fun t e _ ht => ht.trans (cleanWay_counted q e.1 false t)) (.refl s)

theorem evictAll_counted (c : Nat) (s : State) : CountedWork s (evictAll c s) := (onChan_work _ _ _).counted

theorem settleTest_counted (h1 : 1 ≤ (s.chan c).test) (h4 : (s.chan c).test ≤ 4) : CountedWork s (settleTest c s) := by
  have htest : (s.chan c).test = 1 ∨ (s.chan c).test = 2 ∨ (s.chan c).test = 3 ∨ (s.chan c).test = 4 := by omega
  rcases htest with h | h | h | h
  · rw [settleTest_of_one h]
    split
    · exact (evictAll_counted c s).trans (testReturn_work c _).counted
    · split
      · exact evictAll_counted c s
      · split
        · exact (evictAll_counted c s).trans ((onChan_work _ _ _).trans (onRanks_work _ _ _)).counted
        · exact (evictAll_counted c s).trans (cleanWays_counted _ _ _)
  · rw [settleTest_of_two h]
    split
    · exact (testReturn_work c s).counted
    · split
      · split
        · exact ((onChan_work _ _ _).trans (onRanks_work _ _ _)).counted
        · exact (onChan_work _ _ _).counted
      · exact .refl s
  · rw [settleTest_of_three h]
    split
    · exact (testReturn_work c s).counted
    · exact .refl s
  · rw [settleTest_of_four h]
    split
    · split
      · exact feedTest_counted c s
      · exact .refl s
    · split
      · exact ((dropTests_work c _ s).trans (testReturn_work c _)).counted
      · exact (dropTests_work c _ s).counted

-- GO (R486)

/-- What GO writes of the test of a channel. -/
def Chan.trial (x : Chan) : Bool × Nat × Bool := (x.testDbist, x.testOp, x.testStop)

theorem evictGills_trial (x : Chan) (f : Gill → Bool) :
    (x.evictGills .other f).trial = x.trial ∧ (x.evictGills .other f).test = x.test := ⟨rfl, rfl⟩

/-- A step keeps the trial of every channel and the step of its test. -/
def KeepsTrial (s t : State) : Prop := ∀ d, (t.chan d).trial = (s.chan d).trial ∧ (t.chan d).test = (s.chan d).test

theorem KeepsTrial.trans (h : KeepsTrial s t) (h' : KeepsTrial t u) : KeepsTrial s u :=
  fun d => ⟨(h' d).1.trans (h d).1, (h' d).2.trans (h d).2⟩

theorem keepsTrial_onChan (d : Nat) {f : Chan → Chan} (hf : ∀ x, (f x).trial = x.trial ∧ (f x).test = x.test) (s : State) :
    KeepsTrial s (s.onChan d f) := fun e =>
  ⟨State.chan_onChan_keep Chan.trial s d (fun x => (hf x).1) e, State.chan_onChan_keep Chan.test s d (fun x => (hf x).2) e⟩

theorem addOp_keepsTrial (d : Nat) (o : Op) (s : State) : KeepsTrial s (s.addOp d o) :=
  keepsTrial_onChan d (f := fun x => { x with ops := x.ops ++ [{ o with id := x.nextOp }], nextOp := x.nextOp + 1 })
    (fun _ => ⟨rfl, rfl⟩) s

theorem writeback_keepsTrial (v m : Nat) (d : Line) (mop : Bool) (s : State) : KeepsTrial s (s.writeback v m d mop) := by
  unfold State.writeback
  exact addOp_keepsTrial v _ s

theorem cleanWay_keepsTrial (q w : Nat) (mop : Bool) (s : State) : KeepsTrial s (s.cleanWay q w mop) := by
  unfold State.cleanWay
  dsimp only
  split
  · exact writeback_keepsTrial _ _ _ _ s
  · exact fun _ => ⟨rfl, rfl⟩

theorem cleanWays_keepsTrial (q : Nat) (l : List (Nat × Way)) (s : State) : KeepsTrial s (cleanWays q l s) :=
  foldl_inv (KeepsTrial s) l (fun t e _ ht => ht.trans (cleanWay_keepsTrial q e.1 false t)) (fun _ => ⟨rfl, rfl⟩)

theorem settleTest_starts (hc : c < 16) (h : (s.chan c).test = 1) (hstop : (s.chan c).testStop = false) :
    ((settleTest c s).chan c).trial = (s.chan c).trial ∧
      (((settleTest c s).chan c).test = 1 ∨ ((settleTest c s).chan c).test = 2) := by
  have hevict : KeepsTrial s (evictAll c s) := keepsTrial_onChan c (fun x => evictGills_trial x fun _ => true) s
  obtain ⟨htrial, htest⟩ := hevict c
  rw [settleTest_of_one h, if_neg (by simp [hstop])]
  split
  · exact ⟨htrial, .inl (htest.trans h)⟩
  · split
    · have hsleep : ((testSleep c (evictAll c s)).chan c).trial = (s.chan c).trial ∧
          ((testSleep c (evictAll c s)).chan c).test = 2 := by
        unfold testSleep setTest State.onRanks
        rw [State.chan_onChan_self _ _ hc, State.chan_onChan_self _ _ hc]
        exact ⟨htrial, rfl⟩
      exact ⟨hsleep.1, .inr hsleep.2⟩
    · obtain ⟨htrial', htest'⟩ := (hevict.trans (cleanWays_keepsTrial _ _ _)) c
      exact ⟨htrial', .inl (htest'.trans h)⟩

/-- A test may begin at a channel (R486). -/
def State.mayTest (s : State) (c : Nat) (lossok : Bool) : Bool :=
  let x := s.chan c
  let spare := x.state == .spare && (s.partner c).isNone && !(s.chans.any fun y => y.reserve == some c)
  let serving := (x.state == .active || x.state == .wearing) && lossok && !s.flt.take
  s.chans.all (·.test == 0) && (spare || serving) && !(s.quadClk (quadOf c)).wait && s.op.step == 0 &&
    s.tap.quiesce == 0 && s.flt.haltStep == 0 && s.clk.blkStep == 0

theorem chans_all (s : State) (f : Chan → Bool) : s.chans.all f = true ↔ ∀ d < 16, f (s.chan d) = true := by
  rw [Vector.all_eq_true]
  constructor
  · intro h d hd
    simpa [State.chan, Vector.getD, hd] using h d hd
  · intro h d hd
    simpa [State.chan, Vector.getD, hd] using h d hd

theorem chans_any_false (s : State) (f : Chan → Bool) : s.chans.any f = false ↔ ∀ d < 16, f (s.chan d) = false := by
  have h := chans_all s fun x => !f x
  rw [← Vector.not_any_eq_all_not] at h
  simpa using h

theorem mayTest_iff (s : State) (c : Nat) (lossok : Bool) : s.mayTest c lossok = true ↔
    (((s.chan c).state = .spare ∧ s.partner c = none ∧ ∀ d < 16, (s.chan d).reserve ≠ some c) ∨
      (((s.chan c).state = .active ∨ (s.chan c).state = .wearing) ∧ lossok ∧ s.flt.take = false)) ∧
    ((∀ d < 16, (s.chan d).test = 0) ∧ (s.quadClk (quadOf c)).wait = false ∧ s.op.step = 0 ∧ s.tap.quiesce = 0 ∧
      s.flt.haltStep = 0 ∧ s.clk.blkStep = 0) := by
  have hany := chans_any_false s fun y => y.reserve == some c
  have hall := chans_all s fun x => x.test == 0
  simp only [beq_iff_eq, beq_eq_false_iff_ne] at hany hall
  unfold State.mayTest
  simp only [Bool.and_eq_true, Bool.or_eq_true, beq_iff_eq, Bool.not_eq_true', Option.isNone_iff_eq_none, hany, hall]
  constructor
  · rintro ⟨⟨⟨⟨⟨⟨htest, hkind⟩, hwait⟩, hop⟩, hq⟩, hh⟩, hb⟩
    exact ⟨hkind.imp (fun h => ⟨h.1.1, h.1.2, h.2⟩) fun h => ⟨h.1.1, h.1.2, h.2⟩, htest, hwait, hop, hq, hh, hb⟩
  · rintro ⟨hkind, htest, hwait, hop, hq, hh, hb⟩
    exact ⟨⟨⟨⟨⟨⟨htest, hkind.imp (fun h => ⟨⟨h.1, h.2.1⟩, h.2.2⟩) fun h => ⟨⟨h.1, h.2.1⟩, h.2.2⟩⟩, hwait⟩, hop⟩, hq⟩, hh⟩, hb⟩

/-- The registers with the mode of a test written. -/
def tstMode (c : Nat) (dbist lossok : Bool) (s : State) : State :=
  (s.setCf (CH_TSTCTL_MODE c) (b2n dbist)).setCf (CH_TSTCTL_LOSSOK c) (b2n lossok)

theorem tstMode_frame (c : Nat) (dbist lossok : Bool) (s : State) : SameButCfg s (tstMode c dbist lossok s) :=
  (setCf_frame _ _ _).trans (setCf_frame _ _ _)

/-- A test is taken up at a channel. -/
def beginTest (c : Nat) (dbist : Bool) (s : State) : State :=
  s.onChan c fun x => { x with test := 1, testDbist := dbist, testOp := s.op.cur, testStop := false, testAt := 0 }

theorem testGo_eq (c : Nat) (dbist lossok : Bool) (s : State) : testGo c dbist lossok s =
    if s.mayTest c lossok then settleTest c (beginTest c dbist (tstMode c dbist lossok s))
    else (tstMode c dbist lossok s).setBits (CH_TSTSTAT_REFUSED c) 1 := by
  have hframe := tstMode_frame c dbist lossok s
  have hmay : (tstMode c dbist lossok s).mayTest c lossok = s.mayTest c lossok := by
    unfold SameButCfg at hframe
    rw [hframe]
    rfl
  have hchan : (tstMode c dbist lossok s).chan c = s.chan c := by
    unfold SameButCfg at hframe
    rw [hframe]
    rfl
  rw [← hmay]
  unfold State.mayTest
  rw [hchan]
  rfl

theorem beginTest_chan (hc : c < 16) (dbist : Bool) (s : State) : (beginTest c dbist s).chan c =
    { s.chan c with test := 1, testDbist := dbist, testOp := s.op.cur, testStop := false, testAt := 0 } :=
  State.chan_onChan_self _ _ hc

theorem testGo_taken {dbist lossok : Bool} (hc : c < 16) (h : s.mayTest c lossok = true) :
    (((testGo c dbist lossok s).chan c).test = 1 ∨ ((testGo c dbist lossok s).chan c).test = 2) ∧
      ((testGo c dbist lossok s).chan c).trial = (dbist, s.op.cur, false) := by
  have hop : (tstMode c dbist lossok s).op = s.op := by
    rw [(tstMode_frame c dbist lossok s : _ = _)]
  rw [testGo_eq, if_pos h, ← hop]
  have hbegun := beginTest_chan hc dbist (tstMode c dbist lossok s)
  generalize tstMode c dbist lossok s = u at hbegun ⊢
  obtain ⟨htrial, htest⟩ := settleTest_starts (s := beginTest c dbist u) hc (by rw [hbegun]) (by rw [hbegun])
  refine ⟨htest, htrial.trans ?_⟩
  rw [hbegun]
  rfl

theorem testGo_refused {dbist lossok : Bool} (hw : s.stat.wf) (h : s.mayTest c lossok = false) :
    ((CH_TSTSTAT_REFUSED c).addr ∉ s.frozen → (testGo c dbist lossok s).st (CH_TSTSTAT_REFUSED c) = 1) ∧
    testGo c dbist lossok s = { s with
      cfg := (testGo c dbist lossok s).cfg, parErr := (testGo c dbist lossok s).parErr
      stat := (testGo c dbist lossok s).stat, news := (testGo c dbist lossok s).news } := by
  have hframe := tstMode_frame c dbist lossok s
  rw [testGo_eq, if_neg (by simp [h])]
  unfold SameButCfg at hframe
  generalize tstMode c dbist lossok s = u at hframe ⊢
  have hbits := setBits_frame u (CH_TSTSTAT_REFUSED c) 1
  have hstat : u.stat = s.stat := by rw [hframe]
  have hfrozen : u.frozen = s.frozen := by rw [hframe]
  constructor
  · intro hz
    have h1 := State.st_lt u (CH_TSTSTAT_REFUSED c)
    rw [State.st_setBits_self _ _ (by rw [hstat]; exact hw) (by simp [CH_TSTSTAT_REFUSED]) (by rw [hfrozen]; exact hz)]
    have h2 : (CH_TSTSTAT_REFUSED c).width = 1 := rfl
    rw [h2] at h1 ⊢
    have h3 : u.st (CH_TSTSTAT_REFUSED c) = 0 ∨ u.st (CH_TSTSTAT_REFUSED c) = 1 := by omega
    rcases h3 with h3 | h3 <;> rw [h3] <;> rfl
  · unfold SameButStat at hbits
    generalize u.setBits (CH_TSTSTAT_REFUSED c) 1 = v at hbits ⊢
    rw [hbits, hframe]

-- ABORT (R488)

/-- ABORT has come to the test of a channel. -/
def stopTest (c : Nat) (s : State) : State := s.onChan c fun x => { x with testStop := true }

theorem testAbort_of_running (h1 : 1 ≤ (s.chan c).test) (h4 : (s.chan c).test ≤ 4) :
    testAbort c s = settleTest c (stopTest c s) := by
  unfold testAbort
  exact if_pos ⟨h1, h4⟩

theorem testAbort_of_other (h : (s.chan c).test = 0 ∨ 5 ≤ (s.chan c).test) : testAbort c s = s := by
  unfold testAbort
  exact if_neg (by omega)

theorem stopTest_chan (hc : c < 16) (s : State) : (stopTest c s).chan c = { s.chan c with testStop := true } :=
  State.chan_onChan_self _ _ hc

theorem dropWaitingTests_chan (hc : c < 16) (s : State) : (dropWaitingTests c s).chan c = { s.chan c with
    ops := (s.chan c).ops.filter fun o => o.kind ≠ .test || o.bursts ≠ 0 } := by
  unfold dropWaitingTests dropTests
  rw [State.chan_onChan_self _ _ hc]
  simp

theorem testLines_zero (x : Chan) : x.testLines = 0 ↔ ∀ o ∈ x.ops, o.kind ≠ .test := by
  simp [Chan.testLines, List.countP_eq_zero]

/-- A test that stops ends at once, a DBIST with lines under way once they are over. -/
theorem settleTest_stopped (hc : c < 16) (h1 : 1 ≤ (s.chan c).test) (h4 : (s.chan c).test ≤ 4)
    (hstop : (s.chan c).testStop = true) :
    ((s.chan c).test ≠ 4 ∨ (∀ o ∈ (s.chan c).ops, o.kind = .test → o.bursts = 0) → ((settleTest c s).chan c).testOut) ∧
    ((s.chan c).test = 4 → (∃ o ∈ (s.chan c).ops, o.kind = .test ∧ o.bursts ≠ 0) →
      ((settleTest c s).chan c).test = 4 ∧ ((settleTest c s).chan c).testStop ∧
      ∀ o ∈ ((settleTest c s).chan c).ops, o.kind = .test → o.bursts ≠ 0) := by
  have htest : (s.chan c).test = 1 ∨ (s.chan c).test = 2 ∨ (s.chan c).test = 3 ∨ (s.chan c).test = 4 := by omega
  rcases htest with h | h | h | h
  · rw [settleTest_of_one h, if_pos hstop]
    exact ⟨fun _ => testReturn_out hc _, fun h4 => by omega⟩
  · rw [settleTest_of_two h, if_pos hstop]
    exact ⟨fun _ => testReturn_out hc _, fun h4 => by omega⟩
  · rw [settleTest_of_three h, if_pos hstop]
    exact ⟨fun _ => testReturn_out hc _, fun h4 => by omega⟩
  · rw [settleTest_of_four h, if_neg (by simp [hstop])]
    have hdrop := dropWaitingTests_chan hc s
    have hzero := testLines_zero ((dropWaitingTests c s).chan c)
    constructor
    · intro hnone
      have hnone := hnone.resolve_left (fun hne => hne h)
      rw [if_pos]
      · exact testReturn_out hc _
      · rw [hzero, hdrop]
        intro o ho hk
        obtain ⟨hm, hor⟩ := List.mem_filter.mp ho
        exact absurd (hnone o hm hk) (by simpa [hk] using hor)
    · rintro - ⟨o, ho, hk, hb⟩
      rw [if_neg, hdrop]
      · refine ⟨h, hstop, fun p hp hk => ?_⟩
        simpa [hk] using (List.mem_filter.mp hp).2
      · rw [hzero, hdrop]
        exact fun hall => hall o (List.mem_filter.mpr ⟨ho, by simp [hb]⟩) hk

-- the end of step 4 (R488, R489)

/-- The errors of a test, in its status register. -/
def testShown (c : Nat) (errs : BitVec 16) (fbit : BitVec 5) (s : State) : State :=
  ((s.setSt (CH_TSTSTAT_ERRS c) errs.toNat).setSt (CH_TSTSTAT_PASS c) (b2n (errs == 0))).setSt (CH_TSTSTAT_FBIT c)
    (if errs = 0 then 0 else fbit.toNat)

theorem testShown_shows (errs : BitVec 16) (fbit : BitVec 5) (hw : s.stat.wf) (hz : (CH_TSTSTAT_ERRS c).addr ∉ s.frozen) :
    Showing (CH_TSTSTAT_ERRS c) errs.toNat (testShown c errs fbit s) ∧
    Showing (CH_TSTSTAT_PASS c) (if errs = 0 then 1 else 0) (testShown c errs fbit s) ∧
    Showing (CH_TSTSTAT_FBIT c) (if errs = 0 then 0 else fbit.toNat) (testShown c errs fbit s) := by
  have h1 : Showing (CH_TSTSTAT_ERRS c) errs.toNat (s.setSt (CH_TSTSTAT_ERRS c) errs.toNat) :=
    .of_setSt hw (by simp [CH_TSTSTAT_ERRS]) hz errs.isLt
  have hpass : b2n (errs == 0) = if errs = 0 then 1 else 0 := by
    by_cases h : errs = 0 <;> simp [h, b2n]
  have h2 : Showing (CH_TSTSTAT_PASS c) (if errs = 0 then 1 else 0)
      ((s.setSt (CH_TSTSTAT_ERRS c) errs.toNat).setSt (CH_TSTSTAT_PASS c) (b2n (errs == 0))) := by
    rw [hpass]
    exact .of_setSt h1.1 (by simp [CH_TSTSTAT_PASS]) (by rw [State.setSt_frozen]; exact hz) (by split <;> simp [CH_TSTSTAT_PASS])
  have hfbit : (if errs = 0 then 0 else fbit.toNat) < 2 ^ (CH_TSTSTAT_FBIT c).width := by
    have := fbit.isLt
    simp only [CH_TSTSTAT_FBIT]
    split <;> omega
  unfold testShown
  refine ⟨(h1.setSt ?_).setSt ?_, h2.setSt ?_, .of_setSt h2.1 (by simp [CH_TSTSTAT_FBIT]) ?_ hfbit⟩
  · exact .inr (by simp [CH_TSTSTAT_ERRS, CH_TSTSTAT_PASS])
  · exact .inr (by simp [CH_TSTSTAT_ERRS, CH_TSTSTAT_FBIT])
  · exact .inr (by simp [CH_TSTSTAT_PASS, CH_TSTSTAT_FBIT])
  · rw [State.setSt_frozen, State.setSt_frozen]
    exact hz

theorem testOver_iff (s : State) (c : Nat) : s.testOver c = true ↔ (s.chan c).test = 3 ∨ ((s.chan c).test = 4 ∧
    (s.chan c).testStop = false ∧ (s.chan c).testAt = 2 * s.lineCount c ∧ ∀ o ∈ (s.chan c).ops, o.kind ≠ .test) := by
  rw [← testLines_zero]
  unfold State.testOver
  simp [and_assoc]

-- CHTEST (R487)

/-- The TAP after a scan of CHTEST's register. -/
def chtestScanned (dr : BitVec 32) (s : State) : State :=
  { s with tap := { s.tap with ctl := (scanTms false 32).foldl (fun c m => c.next m) s.tap.ctl, dr := dr } }

theorem execChtestUpdate_other {dr : BitVec 32} (h : s.tap.instr ≠ .chtest) : exec (.chtestUpdate dr) s = .next s := by
  rw [exec_chtestUpdate]
  unfold execChtestUpdate
  exact if_neg (fun hc => h hc.2)

theorem execChtestUpdate_chtest {dr : BitVec 32} (hclk : s.clocked) (h : s.tap.instr = .chtest) :
    exec (.chtestUpdate dr) s = .next (writeTst (natBits dr.toNat 0 4) (dr.getLsbD 6) (dr.getLsbD 7) (dr.getLsbD 4)
      (dr.getLsbD 5) (chtestScanned dr s)) := by
  have hp : s.porst = true := by
    simp only [State.clocked, Bool.and_eq_true] at hclk
    exact hclk.1
  rw [exec_chtestUpdate]
  unfold execChtestUpdate
  rw [if_pos ⟨hp, h⟩]
  exact congrArg Host.Outcome.next (if_pos hclk)

theorem testAbort_tap (c : Nat) (hc : c < 16) (s : State) : (testAbort c s).tap = s.tap := by
  by_cases h : 1 ≤ (s.chan c).test ∧ (s.chan c).test ≤ 4
  · have hstop := stopTest_chan hc s
    rw [testAbort_of_running h.1 h.2,
      (settleTest_counted (s := stopTest c s) (by rw [hstop]; exact h.1) (by rw [hstop]; exact h.2) : _ = _)]
    rfl
  · rw [testAbort_of_other (by omega)]

theorem testGo_tap (c : Nat) (hc : c < 16) (dbist lossok : Bool) (s : State) : (testGo c dbist lossok s).tap = s.tap := by
  have hmode : (tstMode c dbist lossok s).tap = s.tap := by
    rw [(tstMode_frame c dbist lossok s : _ = _)]
  rw [testGo_eq]
  split
  · have hbegun := beginTest_chan hc dbist (tstMode c dbist lossok s)
    rw [(settleTest_counted (s := beginTest c dbist (tstMode c dbist lossok s)) (by rw [hbegun]) (by rw [hbegun]; simp) : _ = _)]
    exact hmode
  · rw [(setBits_frame _ _ _ : _ = _)]
    exact hmode

theorem writeTst_tap (c : Nat) (hc : c < 16) (go abort mode lossok : Bool) (s : State) :
    (writeTst c go abort mode lossok s).tap = s.tap := by
  have hmode : (tstMode c mode lossok (dropHeld (CH_TSTCTL_GO c).addr s)).tap = s.tap := by
    rw [(tstMode_frame c mode lossok _ : _ = _)]
    rfl
  have habort : (if abort then testAbort c (tstMode c mode lossok (dropHeld (CH_TSTCTL_GO c).addr s))
      else tstMode c mode lossok (dropHeld (CH_TSTCTL_GO c).addr s)).tap = s.tap := by
    split
    · rw [testAbort_tap c hc, hmode]
    · exact hmode
  unfold writeTst
  dsimp only
  split
  · rw [testGo_tap c hc]
    exact habort
  · exact habort

theorem writeTst_mode (c : Nat) (mode lossok : Bool) (s : State) :
    writeTst c false false mode lossok s = tstMode c mode lossok (dropHeld (CH_TSTCTL_GO c).addr s) := rfl

theorem b2n_mod_two (b : Bool) : b2n b % 2 ^ 1 = b2n b := by cases b <;> rfl

theorem tstMode_shows (mode lossok : Bool) (hw : s.cfg.wf) (hz : (CH_TSTCTL_MODE c).addr ∉ s.frozen) :
    (tstMode c mode lossok s).cf (CH_TSTCTL_MODE c) = b2n mode ∧
    (tstMode c mode lossok s).cf (CH_TSTCTL_LOSSOK c) = b2n lossok := by
  have hw' : (s.setCf (CH_TSTCTL_MODE c) (b2n mode)).cfg.wf := State.setCf_cfg_wf _ _ hw
  have hz' : (CH_TSTCTL_LOSSOK c).addr ∉ (s.setCf (CH_TSTCTL_MODE c) (b2n mode)).frozen := by
    rw [(setCf_frame s _ _ : _ = _)]
    exact hz
  unfold tstMode
  constructor
  · rw [State.cf_setCf_other _ _ _ hw' (.inr (by simp [CH_TSTCTL_MODE, CH_TSTCTL_LOSSOK])),
      State.cf_setCf_self _ _ hw (by simp [CH_TSTCTL_MODE]) hz]
    exact b2n_mod_two mode
  · rw [State.cf_setCf_self _ _ hw' (by simp [CH_TSTCTL_LOSSOK]) hz']
    exact b2n_mod_two lossok

end

/-- Settles O53: GO, ABORT, the end of step 4, and CHTEST. -/
theorem channelTestsStartStopAndReport : Obligations.ChannelTestsStartStopAndReport := by
  unfold Obligations.ChannelTestsStartStopAndReport
  intro s ch hs hclk w
  have hstat := canonical_stat hs
  have hcfg := canonical_cfg hs
  have hch := ch.isLt
  have hgo : ∀ dbist lossok, exec (.channelTestGo ch dbist lossok) s = .next (testGo ch dbist lossok w) := fun dbist lossok =>
    congrArg Host.Outcome.next (if_pos hclk)
  have habort : exec (.channelTestAbort ch) s = .next (testAbort ch w) := congrArg Host.Outcome.next (if_pos hclk)
  refine ⟨fun dbist lossok => ⟨fun hkind hfree => ?_, fun hnot => ?_⟩, fun h => ?_, fun h1 h4 => ?_, fun errs fbit hover => ?_,
    fun dr => ⟨execChtestUpdate_other, fun hchtest => ?_⟩⟩
  · have hmay : w.mayTest ch lossok = true := (mayTest_iff s ch lossok).mpr ⟨hkind, hfree⟩
    obtain ⟨htest, htrial⟩ := testGo_taken (dbist := dbist) hch hmay
    simp only [Chan.trial, Prod.mk.injEq] at htrial
    exact ⟨_, hgo dbist lossok, htest, htrial⟩
  · have hmay : w.mayTest ch lossok = false := by
      rw [Bool.eq_false_iff]
      exact fun hmay => hnot ((mayTest_iff s ch lossok).mp hmay)
    exact ⟨_, hgo dbist lossok, testGo_refused (s := w) hstat hmay⟩
  · rw [habort, testAbort_of_other (s := w) h]
  · have hchan := stopTest_chan hch w
    have hsettle := settleTest_stopped (s := stopTest ch w) hch (by rw [hchan]; exact h1) (by rw [hchan]; exact h4) (by rw [hchan])
    rw [hchan] at hsettle
    refine ⟨_, habort, ?_⟩
    rw [testAbort_of_running (s := w) h1 h4]
    exact hsettle
  · have hex : exec (.channelTestEnd ch errs fbit) s = .next (testReturn ch (testShown ch errs fbit s)) := by
      rw [exec_channelTestEnd]
      unfold execChannelTestEnd
      exact if_pos ⟨hclk, (testOver_iff s ch).mpr hover⟩
    obtain ⟨h5, hstop⟩ := testReturn_out hch (testShown ch errs fbit s)
    refine ⟨_, hex, h5, hstop, fun hz => ?_⟩
    obtain ⟨herrs, hpass, hfbit⟩ := testShown_shows (s := s) errs fbit hstat hz
    exact ⟨(testReturn_shows herrs rfl).2, (testReturn_shows hpass rfl).2, (testReturn_shows hfbit rfl).2⟩
  · have hn : natBits dr.toNat 0 4 < 16 := Nat.mod_lt _ (by omega)
    refine ⟨_, execChtestUpdate_chtest hclk hchtest, ?_, fun h6 h7 => ?_⟩
    · rw [writeTst_tap _ hn]
      rfl
    · rw [h6, h7, writeTst_mode]
      refine ⟨fun hz => tstMode_shows (s := dropHeld _ (chtestScanned dr s)) _ _ hcfg hz, ?_⟩
      have hframe := tstMode_frame (natBits dr.toNat 0 4) (dr.getLsbD 4) (dr.getLsbD 5)
        (dropHeld (CH_TSTCTL_GO (natBits dr.toNat 0 4)).addr (chtestScanned dr s))
      unfold SameButCfg at hframe
      generalize tstMode _ _ _ _ = v at hframe ⊢
      rw [hframe]
      rfl

end Sys2Proof.Machine
end

section
/-!
The control bits of a DMA channel (O55).
-/

namespace Sys2Proof.Machine

section

variable {s t : State} {d : Nat}

theorem onSpill_shows (hd : d < 8) (f : Spill → Spill) (s : State) : (s.onSpill d f).spill_ d = f (s.spill_ d) :=
  State.spill_onSpill_self s f hd

/-- Of the state only one DMA channel moves. -/
def OnlySpill (d : Nat) (s t : State) : Prop := (∀ e < 8, e ≠ d → t.spill_ e = s.spill_ e) ∧ t = { s with spill := t.spill }

theorem onSpill_only (f : Spill → Spill) (s : State) : OnlySpill d s (s.onSpill d f) :=
  ⟨fun _ _ he => State.spill_onSpill_other s f he, rfl⟩

-- fetches (R495, R497)

/-- A channel stands at AR with the fetch of a descriptor. -/
def Spill.fetch (s : State) (d : Nat) (x : Spill) (a : Nat) : Spill :=
  { x with fetching := true, fetchAddr := a, bursts := x.bursts ++ [(s.axi d false 0 (a / 64 * 64) 0 0 []).waiting] }

theorem fetchDesc_eq (d a : Nat) (s : State) : fetchDesc d a s = s.onSpill d fun x => x.fetch s d a := rfl

theorem onSpill_onSpill (f g : Spill → Spill) (s : State) : (s.onSpill d f).onSpill d g = s.onSpill d fun x => g (f x) := by
  unfold State.onSpill upd
  by_cases h : d < 8
  · simp [h]
  · simp [h]

/-- A fetch after a change of the channel. -/
theorem fetchDesc_onSpill (a : Nat) (f : Spill → Spill) (s : State) :
    fetchDesc d a (s.onSpill d f) = s.onSpill d fun x => (f x).fetch s d a := by
  rw [fetchDesc_eq, onSpill_onSpill]
  rfl

theorem spCur_onSpill (f : Spill → Spill) (s : State) : (s.onSpill d f).spCur d = s.spCur d := rfl

-- START, KICK and the period (R495, R503)

theorem spillStart_of_busy (h : (s.spill_ d).state ≠ .idle) : spillStart d s = s := by
  unfold spillStart
  exact if_neg h

/-- A channel as START finds it ready to run. -/
def Spill.started (x : Spill) : Spill := { x with state := .run, pos := 0, keptCode := 0, keptBad := 0, stopped := false }

theorem axi_congr (h : t.cfg = s.cfg) (write : Bool) (kind addr len : Nat) (strb : BitVec 64) (data : List Beat) :
    t.axi d write kind addr len strb data = s.axi d write kind addr len strb data := by
  unfold State.axi State.cf
  rw [h]

theorem fetch_congr (h : t.cfg = s.cfg) (x : Spill) (a : Nat) : x.fetch t d a = x.fetch s d a := by
  unfold Spill.fetch
  rw [axi_congr h]

theorem spillStart_shows (hd : d < 8) (h : (s.spill_ d).state = .idle) :
    (spillStart d s).spill_ d = (s.spill_ d).started.fetch s d (s.spCur d) ∧
    (s.stat.wf → (SP_POS_UNITS d).addr ∉ s.frozen → (spillStart d s).st (SP_POS_UNITS d) = 0) ∧
    SameButSpill s (spillStart d s) := by
  have heq : spillStart d s = (s.setSt (SP_POS_UNITS d) 0).onSpill d fun x =>
      x.started.fetch (s.setSt (SP_POS_UNITS d) 0) d (s.spCur d) := by
    unfold spillStart
    rw [if_pos h]
    exact fetchDesc_onSpill _ _ _
  have hframe := setSt_frame s (SP_POS_UNITS d) 0
  have hcfg : (s.setSt (SP_POS_UNITS d) 0).cfg = s.cfg := State.setSt_cfg _ _ _
  have hself := fun hw hz => State.st_setSt_self (s := s) (SP_POS_UNITS d) 0 hw (by simp [SP_POS_UNITS]) hz
  rw [heq]
  generalize s.setSt (SP_POS_UNITS d) 0 = u at hframe hcfg hself ⊢
  unfold SameButStat at hframe
  refine ⟨?_, fun hw hz => (hself hw hz).trans (Nat.zero_mod _), ?_⟩
  · rw [onSpill_shows hd, fetch_congr hcfg, hframe]
    rfl
  · unfold SameButSpill
    rw [hframe]
    rfl

/-- A fetch asked for in WAIT: owed while one is under way. -/
def Spill.again (s : State) (d : Nat) (x : Spill) : Spill :=
  if x.fetching then { x with kicked := true } else x.fetch s d x.fetchAddr

theorem refetchDesc_shows (hd : d < 8) (s : State) :
    (refetchDesc d s).spill_ d = (s.spill_ d).again s d ∧ OnlySpill d s (refetchDesc d s) := by
  unfold refetchDesc Spill.again
  dsimp only
  split
  · exact ⟨onSpill_shows hd _ _, onSpill_only _ _⟩
  · exact ⟨onSpill_shows hd _ _, onSpill_only _ _⟩

theorem execKick_eq {c : Fin 8} (hclk : s.clocked) : exec (.kick c) s =
    .next (if (s.spill_ c).state = .wait then refetchDesc c s else s) := congrArg Host.Outcome.next (if_pos hclk)

-- the end of a drain (R504)

theorem spillStops_or (x : Spill) : (x.stopped && x.descs.isEmpty) = true ↔ x.stopped = true ∧ x.descs = [] := by
  simp

/-- What a display of the channel leaves: it may show the direction of its oldest descriptor. -/
theorem showSpill_shows (hd : d < 8) (s : State) :
    (∃ b, (showSpill d s).spill_ d = { s.spill_ d with dir := b }) ∧ SameButSpill s (showSpill d s) := by
  have hset : ∀ v, SameButStat s (s.setSt (SP_POS_UNITS d) v) := fun v => setSt_frame s _ v
  have hpos : ∀ v, SameButSpill s (s.setSt (SP_POS_UNITS d) v) := by
    intro v
    have h := hset v
    unfold SameButStat at h
    unfold SameButSpill
    rw [h]
  have hkeep : ∀ v, (s.setSt (SP_POS_UNITS d) v).spill_ d = s.spill_ d := by
    intro v
    have h := hset v
    unfold SameButStat at h
    rw [h]
    rfl
  unfold showSpill
  dsimp only
  split
  · refine ⟨⟨_, by rw [onSpill_shows hd, hkeep]⟩, (hpos _).trans rfl⟩
  · split
    · exact ⟨⟨_, rfl⟩, rfl⟩
    · exact ⟨⟨_, hkeep _⟩, hpos _⟩

/-- The state in which a drain ends. -/
def Spill.drained (x : Spill) : SpillState :=
  match x.state with
  | .pausing => if x.stopped && x.descs.isEmpty then .idle else .paused
  | .halting => .halted
  | _ => .idle

theorem drainSpill_shows (hd : d < 8) (s : State) :
    ((drainSpill d s).spill_ d).state = (s.spill_ d).drained ∧ ((drainSpill d s).spill_ d).descs = [] ∧
      ((drainSpill d s).spill_ d).chunks = [] ∧ SameButSpill s (drainSpill d s) := by
  obtain ⟨⟨b, hb⟩, hframe⟩ := showSpill_shows hd s
  unfold drainSpill
  dsimp only
  generalize showSpill d s = u at hb hframe ⊢
  rw [onSpill_shows hd]
  refine ⟨?_, rfl, rfl, hframe.trans rfl⟩
  rw [hb]
  rfl

-- PAUSE, RESUME and ABORT (R503, R505)

/-- A channel that pauses, or is aborted, and drops the bursts it no longer issues. -/
def stopSpill (d : Nat) (st : SpillState) (s : State) : State := s.onSpill d fun x => { x with state := st }.dropWaiting

theorem stopSpill_shows (hd : d < 8) (st : SpillState) (s : State) :
    (stopSpill d st s).spill_ d = Spill.dropWaiting { s.spill_ d with state := st } := onSpill_shows hd _ _

theorem dropWaiting_rest (x : Spill) : x.dropWaiting.state = x.state ∧ x.dropWaiting.stopped = x.stopped ∧
    x.dropWaiting.descs = x.descs ∧ x.dropWaiting.chunks = x.chunks := ⟨rfl, rfl, rfl, rfl⟩

theorem spillPause_of_run (h : (s.spill_ d).state = .run) : spillPause d s = stopSpill d .pausing s := by
  unfold spillPause
  dsimp only
  rw [if_pos (.inl h), if_neg (by simp [h])]
  rfl

theorem spillPause_of_wait (h : (s.spill_ d).state = .wait) : spillPause d s =
    if (stopSpill d .pausing s).spillDrained d then drainSpill d (stopSpill d .pausing s) else stopSpill d .pausing s := by
  unfold spillPause
  dsimp only
  rw [if_pos (.inr h)]
  simp only [h, true_and]
  rfl

theorem spillPause_of_other (h1 : (s.spill_ d).state ≠ .run) (h2 : (s.spill_ d).state ≠ .wait) : spillPause d s = s := by
  unfold spillPause
  exact if_neg (by simp [h1, h2])

theorem spillAbort_of_idle (h : (s.spill_ d).state = .idle) : spillAbort d s = s := by
  unfold spillAbort
  exact if_pos h

theorem spillAbort_of_busy (h : (s.spill_ d).state ≠ .idle) : spillAbort d s =
    if (stopSpill d .aborting s).spillDrained d then drainSpill d (stopSpill d .aborting s) else stopSpill d .aborting s := by
  unfold spillAbort
  exact if_neg h

/-- A stop whose channel has nothing to drain ends at once. -/
theorem stopped_shows (hd : d < 8) (st : SpillState) (s : State) (c : Bool) :
    let t := if c then drainSpill d (stopSpill d st s) else stopSpill d st s
    (t.spill_ d = Spill.dropWaiting { s.spill_ d with state := st } ∨
      ((t.spill_ d).state = Spill.drained { s.spill_ d with state := st } ∧ (t.spill_ d).descs = [] ∧ (t.spill_ d).chunks = [])) ∧
    SameButSpill s t := by
  have hstop := stopSpill_shows hd st s
  obtain ⟨hstate, hdescs, hchunks, hframe⟩ := drainSpill_shows hd (stopSpill d st s)
  cases c with
  | false => exact ⟨.inl hstop, rfl⟩
  | true =>
    refine ⟨.inr ⟨hstate.trans ?_, hdescs, hchunks⟩, SameButSpill.trans (s := s) (t := stopSpill d st s) rfl hframe⟩
    rw [hstop]
    rfl

theorem SameButSpill.wide (h : SameButSpill s t) :
    t = { s with spill := t.spill, cfg := t.cfg, parErr := t.parErr, stat := t.stat, news := t.news } := by
  unfold SameButSpill at h
  rw [h]

/-- A channel as RESUME sets it running. -/
def Spill.resumed (x : Spill) : Spill := { x with state := .run, hcause := 0, stopped := false }

theorem spillResume_goes (hd : d < 8) (h : (s.spill_ d).state = .paused ∨ ((s.spill_ d).state = .halted ∧
      s.causeStands d (s.spill_ d).hport (s.spill_ d).hcause = false)) :
    (spillResume d s).spill_ d = (s.spill_ d).resumed.fetch s d (s.spCur d) ∧ OnlySpill d s (spillResume d s) := by
  have heq : spillResume d s = s.onSpill d fun x => x.resumed.fetch s d (s.spCur d) := by
    unfold spillResume
    dsimp only
    rw [← fetchDesc_onSpill]
    rcases h with h | ⟨h, hc⟩
    · exact if_pos h
    · rw [if_neg (by simp [h]), if_pos h, if_neg (by simp [hc])]
      rfl
  rw [heq]
  exact ⟨onSpill_shows hd _ _, onSpill_only _ _⟩

theorem spillResume_stands (h : (s.spill_ d).state = .halted)
    (hc : s.causeStands d (s.spill_ d).hport (s.spill_ d).hcause = true) : spillResume d s = event .spill s := by
  unfold spillResume
  dsimp only
  rw [if_neg (by simp [h]), if_pos h, if_pos hc]

theorem spillResume_of_other (h1 : (s.spill_ d).state ≠ .paused) (h2 : (s.spill_ d).state ≠ .halted) : spillResume d s = s := by
  unfold spillResume
  dsimp only
  rw [if_neg h1, if_neg h2]

theorem causeStands_iff (s : State) (d : Nat) (x : Spill) : s.causeStands d x.hport x.hcause = true ↔
    (x.hcause = 3 ∧ (s.port (if x.hport then 29 else 28)).state = .halted) ∨
      (x.hcause = 4 ∧ ∃ a ∈ s.frozen, 0x4000 + 0x200 * d ≤ a ∧ a < 0x4200 + 0x200 * d) ∨
      (x.hcause = 6 ∧ s.flt.haltStep ≠ 0) := by
  unfold State.causeStands
  split
  next h => simp [h, spillPort]
  next h => simp [h]
  next h => simp [h]
  next h3 h4 h6 => simp [show x.hcause ≠ 3 from h3, show x.hcause ≠ 4 from h4, show x.hcause ≠ 6 from h6]

-- an event without the form of the registers

theorem get_set_self_of_ne_zero (f : RegFile) (a : Nat) {v : Word} (hv : v ≠ 0) : (f.set a v).get a = v := by
  induction f with
  | nil =>
    unfold RegFile.set
    rw [if_neg hv]
    exact if_pos rfl
  | cons e f ih =>
    obtain ⟨b, w⟩ := e
    unfold RegFile.set
    by_cases h1 : a < b
    · rw [if_pos h1, if_neg hv]
      exact if_pos rfl
    · by_cases h2 : a = b
      · rw [if_neg h1, if_pos h2, if_neg hv]
        exact if_pos rfl
      · rw [if_neg h1, if_neg h2]
        simp [RegFile.get, h1, h2, ih]

/-- The bit of an event shows whatever the other registers hold: the word written is not zero. -/
theorem event_bit_of_any (e : Evt) (hz : FT_STSEVT_EVT.addr ∉ s.frozen) :
    natBit ((event e s).st FT_STSEVT_EVT) e.bit = true := by
  have hbit : (s.st FT_STSEVT_EVT ||| 2 ^ e.bit) % 2 ^ FT_STSEVT_EVT.width = s.st FT_STSEVT_EVT ||| 2 ^ e.bit :=
    Nat.mod_eq_of_lt (Nat.or_lt_two_pow (s.st_lt _) (Nat.pow_lt_pow_right (by decide) (by cases e <;> decide)))
  have hof := Field.of_put_self FT_STSEVT_EVT (s.stat.get FT_STSEVT_EVT.addr) (s.st FT_STSEVT_EVT ||| 2 ^ e.bit) (by decide)
  rw [hbit] at hof
  have hne : FT_STSEVT_EVT.put (s.stat.get FT_STSEVT_EVT.addr) (s.st FT_STSEVT_EVT ||| 2 ^ e.bit) ≠ 0 := by
    intro h0
    rw [h0] at hof
    have h1 := natBit_or_two_pow (s.st FT_STSEVT_EVT) e.bit
    rw [← hof] at h1
    revert h1
    cases e <;> decide
  have hstat : (event e s).stat = s.stat.set FT_STSEVT_EVT.addr
      (FT_STSEVT_EVT.put (s.stat.get FT_STSEVT_EVT.addr) (s.st FT_STSEVT_EVT ||| 2 ^ e.bit)) := by
    unfold event State.setBit
    rw [State.setBits_stat]
    unfold State.setSt
    rw [if_neg (by simpa using hz)]
    rfl
  unfold State.st RegFile.fget at hof hstat hne ⊢
  rw [hstat, get_set_self_of_ne_zero _ _ hne, hof]
  exact natBit_or_two_pow _ _

end

/-- Settles O55: each control bit by the state of the channel. -/
theorem spillChannelsActByTheirState : Obligations.SpillChannelsActByTheirState := by
  unfold Obligations.SpillChannelsActByTheirState
  intro s d hclk x fetch again resumed stands ended only
  have hd := d.isLt
  have hwrite : ∀ f : State → State, spillWrite f s = .next (f s) := fun f => congrArg Host.Outcome.next (if_pos hclk)
  have hstands : s.causeStands d x.hport x.hcause = true ↔ stands := causeStands_iff s d x
  have hcause : ¬stands → s.causeStands d x.hport x.hcause = false := fun h => Bool.eq_false_iff.mpr (fun hc => h (hstands.mp hc))
  have hended : Spill.drained { x with state := .pausing } = ended := by
    simp [Spill.drained, ended]
  refine ⟨fun h => ?_, fun h => ?_, fun h => ⟨?_, ?_⟩, fun h => ⟨?_, fun hr hn hw => ?_, fun hno => ?_⟩, fun h => ?_, fun h => ?_,
    fun h1 h2 => ?_, fun h => ?_, fun h hst => ?_, fun h1 h2 => ?_, fun h => ?_, fun h => ?_, fun b hb hwr => ?_, fun b hb => ?_,
    fun h => ⟨fun hno => ?_, fun hyes => ?_⟩⟩
  · rw [exec_spillStart, execSpillStart, hwrite, spillStart_of_busy h]
  · obtain ⟨hch, hpos, hframe⟩ := spillStart_shows hd h
    rw [exec_spillStart, execSpillStart, hwrite]
    exact ⟨_, rfl, hch, fun hs => hpos (canonical_stat hs), hframe⟩
  · rw [execKick_eq hclk, if_neg h]
  · rw [exec_pollExpiry]
    exact congrArg Host.Outcome.next (if_neg fun hc => h hc.2.1)
  · rw [execKick_eq hclk, if_pos h]
    exact ⟨_, rfl, refetchDesc_shows hd s⟩
  · refine ⟨refetchDesc d s, ?_, refetchDesc_shows hd s⟩
    rw [exec_pollExpiry]
    exact congrArg Host.Outcome.next (if_pos ⟨hr, h, hn, hw⟩)
  · rw [exec_pollExpiry]
    refine congrArg Host.Outcome.next (if_neg fun hc => ?_)
    rcases hno with h0 | hlt
    · exact hc.2.2.1 h0
    · exact absurd hc.2.2.2 (Nat.not_le_of_lt hlt)
  · rw [exec_spillPause, execSpillPause, hwrite, spillPause_of_run h]
    exact ⟨_, rfl, stopSpill_shows hd _ _, onSpill_only _ _⟩
  · rw [exec_spillPause, execSpillPause, hwrite, spillPause_of_wait h]
    obtain ⟨hor, hframe⟩ := stopped_shows hd .pausing s ((stopSpill d .pausing s).spillDrained d)
    refine ⟨_, rfl, ?_, hframe.wide⟩
    rw [← hended]
    exact hor
  · rw [exec_spillPause, execSpillPause, hwrite, spillPause_of_other h1 h2]
  · rw [exec_spillResume, execSpillResume, hwrite]
    exact ⟨_, rfl, spillResume_goes hd (h.imp_right fun h => ⟨h.1, hcause h.2⟩)⟩
  · rw [exec_spillResume, execSpillResume, hwrite, spillResume_stands h (hstands.mpr hst)]
    exact ⟨_, rfl, event_bit_of_any .spill, event_frame .spill s⟩
  · rw [exec_spillResume, execSpillResume, hwrite, spillResume_of_other h1 h2]
  · rw [exec_spillAbort, execSpillAbort, hwrite, spillAbort_of_idle h]
  · rw [exec_spillAbort, execSpillAbort, hwrite, spillAbort_of_busy h]
    obtain ⟨hor, hframe⟩ := stopped_shows hd .aborting s ((stopSpill d .aborting s).spillDrained d)
    exact ⟨_, rfl, hor, hframe.wide⟩
  · have hkeeps := (List.mem_filter.mp hb).2
    simpa [hwr] using hkeeps
  · have hkeeps := (List.mem_filter.mp hb).2
    simpa using hkeeps
  · rw [exec_spillDrainComplete]
    exact congrArg Host.Outcome.next (if_neg (by simp [hno]))
  · obtain ⟨hstate, hdescs, hchunks, hframe⟩ := drainSpill_shows hd s
    refine ⟨drainSpill d s, ?_, hstate.trans ?_, hdescs, hchunks, hframe.wide⟩
    · rw [exec_spillDrainComplete]
      exact congrArg Host.Outcome.next (if_pos (by rcases h with h | h | h <;> simp [hclk, hyes, x, h] at *))
    · unfold Spill.drained
      rcases h with h | h | h
      · simp [show (s.spill_ d).state = .pausing from h, ended, x]
      · simp [show (s.spill_ d).state = .halting from h, x]
      · simp [show (s.spill_ d).state = .aborting from h, x]

end Sys2Proof.Machine
end

section
/-!
The course of a DMA channel, and what a fetched descriptor does (O56).
-/

namespace Sys2Proof.Machine

section

variable {s t u : State} {d : Nat}

-- halts (R505)

/-- A channel that has something to halt. -/
def Spill.active (x : Spill) : Bool := match x.state with | .run | .wait | .pausing => true | _ => false

theorem active_iff (x : Spill) : x.active = true ↔ x.state = .run ∨ x.state = .wait ∨ x.state = .pausing := by
  unfold Spill.active
  cases x.state <;> simp

/-- A channel that a cause has halted. -/
def Spill.halting (x : Spill) (cause : Nat) : Spill := { x with state := .halting, hcause := cause }

theorem spillHalt_active (cause : Nat) (h : (s.spill_ d).active = true) :
    spillHalt d cause s = event .spill (s.onSpill d fun x => x.halting cause) := by
  unfold spillHalt
  rcases (active_iff _).mp h with h | h | h <;> rw [h] <;> rfl

theorem spillHalt_rest (cause : Nat) (h : (s.spill_ d).active = false) : spillHalt d cause s = s := by
  have hnot := mt (active_iff (s.spill_ d)).mpr (Bool.eq_false_iff.mp h)
  unfold spillHalt
  split
  next hs => exact absurd (.inl hs) hnot
  next hs => exact absurd (.inr (.inl hs)) hnot
  next hs => exact absurd (.inr (.inr hs)) hnot
  next => rfl

theorem event_spillOf (e : Evt) (s : State) (d : Nat) : (event e s).spill_ d = s.spill_ d := by
  rw [(event_frame e s : _ = _)]
  rfl

theorem spillHalt_shows (hd : d < 8) (cause : Nat) (h : (s.spill_ d).active = true) :
    (spillHalt d cause s).spill_ d = (s.spill_ d).halting cause := by
  rw [spillHalt_active cause h, event_spillOf, onSpill_shows hd]

-- the course of a channel (R499, R501, R505)

/-- A descriptor in use without the stage of its writeback. -/
def Desc.bare (e : Desc) : Desc := { e with wb := 0 }

/-- What the course of a channel leaves: its chunks, its descriptors but for their writebacks, and its state, unless it
halts. -/
structure SpillCourse (d : Nat) (s t : State) : Prop where
  frame : SameButSpill s t
  chunks : (t.spill_ d).chunks = (s.spill_ d).chunks
  descs : (t.spill_ d).descs.map Desc.bare = (s.spill_ d).descs.map Desc.bare
  nextNum : (t.spill_ d).nextNum = (s.spill_ d).nextNum
  stopped : (t.spill_ d).stopped = (s.spill_ d).stopped
  state : (t.spill_ d).state = (s.spill_ d).state ∨ ((s.spill_ d).active = true ∧ (t.spill_ d).state = .halting)
  shows : ∀ f v, Showing f v s → f.apart FT_STSEVT_EVT → f.apart (SP_POS_UNITS d) → Showing f v t

theorem SpillCourse.refl (d : Nat) (s : State) : SpillCourse d s s :=
  ⟨rfl, rfl, rfl, rfl, rfl, .inl rfl, fun _ _ h _ _ => h⟩

theorem SpillCourse.trans (h : SpillCourse d s t) (h' : SpillCourse d t u) : SpillCourse d s u where
  frame := h.frame.trans h'.frame
  chunks := h'.chunks.trans h.chunks
  descs := h'.descs.trans h.descs
  nextNum := h'.nextNum.trans h.nextNum
  stopped := h'.stopped.trans h.stopped
  state := by
    rcases h'.state with e' | ⟨a', e'⟩
    · rw [e']
      exact h.state
    · rcases h.state with e | ⟨_, e⟩
      · refine .inr ⟨?_, e'⟩
        unfold Spill.active at *
        rwa [← e]
      · unfold Spill.active at a'
        rw [e] at a'
        cases a'
  shows := fun f v hf he hp => h'.shows f v (h.shows f v hf he hp) he hp

/-- A change of the channel that its course allows. -/
theorem SpillCourse.onSpill (hd : d < 8) {f : Spill → Spill} (hc : (f (s.spill_ d)).chunks = (s.spill_ d).chunks)
    (hdesc : (f (s.spill_ d)).descs.map Desc.bare = (s.spill_ d).descs.map Desc.bare)
    (hn : (f (s.spill_ d)).nextNum = (s.spill_ d).nextNum) (hs : (f (s.spill_ d)).stopped = (s.spill_ d).stopped)
    (hst : (f (s.spill_ d)).state = (s.spill_ d).state) : SpillCourse d s (s.onSpill d f) where
  frame := rfl
  chunks := by rw [onSpill_shows hd, hc]
  descs := by rw [onSpill_shows hd, hdesc]
  nextNum := by rw [onSpill_shows hd, hn]
  stopped := by rw [onSpill_shows hd, hs]
  state := .inl (by rw [onSpill_shows hd, hst])
  shows := fun _ _ h _ _ => h.congr rfl

theorem SameButStat.spillFrame (h : SameButStat s t) : SameButSpill s t := by
  unfold SameButStat at h
  unfold SameButSpill
  rw [h]

theorem spillHalt_course (hd : d < 8) (cause : Nat) (s : State) : SpillCourse d s (spillHalt d cause s) := by
  cases h : (s.spill_ d).active with
  | false =>
    rw [spillHalt_rest cause h]
    exact .refl d s
  | true =>
    have hch := spillHalt_shows hd cause h
    refine ⟨spillHalt_frame d cause s, ?_, ?_, ?_, ?_, .inr ⟨h, ?_⟩, fun f v hf he _ => ?_⟩
    · rw [hch]; rfl
    · rw [hch]; rfl
    · rw [hch]; rfl
    · rw [hch]; rfl
    · rw [hch]; rfl
    · rw [spillHalt_active cause h]
      exact (hf.congr (t := s.onSpill d fun x => x.halting cause) rfl).event _ he

/-- The halts that a standing cause brings. -/
def causeHalts (d : Nat) (s : State) : State :=
  match (s.spill_ d).state with
  | .run | .wait | .pausing => match s.spillCause d with
    | some k => if k ≠ 3 then spillHalt d k s else if (s.spill_ d).descs.isEmpty then s else portHalts d (s.spill_ d).dir s
    | none => s
  | _ => s

/-- The writeback of the oldest descriptor, once its chunks are over. -/
def firstWriteback (d : Nat) (s : State) : State :=
  match (s.spill_ d).descs with
  | e :: _ =>
    if (s.spill_ d).active && e.wb = 0 && e.issued = e.len && !(s.spill_ d).chunks.any (·.desc == e.num) then
      s.onSpill d fun x => { x with
        descs := x.descs.map fun (y : Desc) => if y.num = e.num then { y with wb := 1 } else y
        bursts := x.bursts ++ [s.writebackBurst d 2 e] }
    else s
  | [] => s

/-- The fetch of the next descriptor, once the last in use is all issued. -/
def nextFetch (d : Nat) (s : State) : State :=
  match (s.spill_ d).descs.getLast? with
  | some e =>
    if (s.spill_ d).state == SpillState.run && !(s.spill_ d).fetching && !(s.spill_ d).stopped && e.issued = e.len && !e.stop &&
        !(s.spill_ d).chunks.any (fun (c : Chunk) => c.desc == e.num && c.st == .reading) then
      fetchDesc d e.next s
    else s
  | none => s

theorem settleSpill_eq (d : Nat) (s : State) : settleSpill d s =
    showSpill d (nextFetch d (firstWriteback d (causeHalts d (s.onSpill d Spill.dropWaiting)))) := rfl

theorem portHalts_course (hd : d < 8) (dir : Bool) (s : State) : SpillCourse d s (portHalts d dir s) :=
  (SpillCourse.onSpill hd (f := fun x => { x with hport := dir }) rfl rfl rfl rfl rfl).trans (spillHalt_course hd 3 _)

theorem causeHalts_course (hd : d < 8) (s : State) : SpillCourse d s (causeHalts d s) := by
  have hhalt : SpillCourse d s (match s.spillCause d with
      | some k => if k ≠ 3 then spillHalt d k s else if (s.spill_ d).descs.isEmpty then s else portHalts d (s.spill_ d).dir s
      | none => s) := by
    split
    · split
      · exact spillHalt_course hd _ s
      · split
        · exact .refl d s
        · exact portHalts_course hd _ s
    · exact .refl d s
  unfold causeHalts
  split
  · exact hhalt
  · exact hhalt
  · exact hhalt
  · exact .refl d s

theorem bare_map_wb (l : List Desc) (n k : Nat) :
    (l.map fun (y : Desc) => if y.num = n then { y with wb := k } else y).map Desc.bare = l.map Desc.bare := by
  rw [List.map_map]
  refine List.map_congr_left fun y _ => ?_
  simp only [Function.comp_apply]
  split <;> rfl

theorem firstWriteback_course (hd : d < 8) (s : State) : SpillCourse d s (firstWriteback d s) := by
  unfold firstWriteback
  split
  · split
    · exact SpillCourse.onSpill hd rfl (bare_map_wb _ _ _) rfl rfl rfl
    · exact .refl d s
  · exact .refl d s

theorem nextFetch_course (hd : d < 8) (s : State) : SpillCourse d s (nextFetch d s) := by
  unfold nextFetch
  split
  · split
    · exact SpillCourse.onSpill hd rfl rfl rfl rfl rfl
    · exact .refl d s
  · exact .refl d s

theorem setSt_course (d v : Nat) (s : State) : SpillCourse d s (s.setSt (SP_POS_UNITS d) v) := by
  have hframe := setSt_frame s (SP_POS_UNITS d) v
  have hch : (s.setSt (SP_POS_UNITS d) v).spill_ d = s.spill_ d := by
    rw [(hframe : _ = _)]
    rfl
  exact ⟨hframe.spillFrame, by rw [hch], by rw [hch], by rw [hch], by rw [hch], .inl (by rw [hch]), fun _ _ hf _ hp => hf.setSt hp⟩

theorem showSpill_course (hd : d < 8) (s : State) : SpillCourse d s (showSpill d s) := by
  unfold showSpill
  dsimp only
  split
  · exact (setSt_course d _ s).trans (SpillCourse.onSpill hd rfl rfl rfl rfl rfl)
  · split
    · exact .refl d s
    · exact setSt_course d _ s

theorem settleSpill_course (hd : d < 8) (s : State) : SpillCourse d s (settleSpill d s) := by
  rw [settleSpill_eq]
  exact ((((SpillCourse.onSpill hd rfl rfl rfl rfl rfl).trans (causeHalts_course hd _)).trans (firstWriteback_course hd _)).trans
    (nextFetch_course hd _)).trans (showSpill_course hd _)

/-- The direction shown is that of the oldest descriptor in use. -/
theorem showSpill_dir (hd : d < 8) {e : Desc} {l : List Desc} (h : (s.spill_ d).descs = e :: l) :
    ((showSpill d s).spill_ d).dir = e.dir := by
  unfold showSpill
  dsimp only
  rw [h]
  dsimp only
  rw [onSpill_shows hd]

theorem settleSpill_dir (hd : d < 8) {e : Desc} (h : (s.spill_ d).descs = [e]) : ((settleSpill d s).spill_ d).dir = e.dir := by
  have hcourse := (((SpillCourse.onSpill (s := s) (f := Spill.dropWaiting) hd rfl rfl rfl rfl rfl).trans
    (causeHalts_course hd _)).trans (firstWriteback_course hd _)).trans (nextFetch_course hd _)
  have hdescs := hcourse.descs
  rw [settleSpill_eq]
  generalize nextFetch d (firstWriteback d (causeHalts d (s.onSpill d Spill.dropWaiting))) = u at hdescs ⊢
  rw [h] at hdescs
  rcases hl : (u.spill_ d).descs with _ | ⟨e', l⟩
  · rw [hl] at hdescs
    simp at hdescs
  · rw [showSpill_dir hd hl]
    rw [hl] at hdescs
    simp only [List.map_cons, List.map_nil, List.cons.injEq] at hdescs
    exact (congrArg Desc.dir hdescs.1 : e'.bare.dir = e.bare.dir)

-- a fetched descriptor (R494, R495, R505)

/-- A channel whose fetch has come back. -/
def Spill.fetched (x : Spill) : Spill := { x with fetching := false, kicked := false }

/-- A channel in WAIT from a cc on. -/
def Spill.waitFrom (x : Spill) (n : Nat) : Spill := { x with state := .wait, waitAt := n }

/-- The descriptor that a fetch has brought. -/
def Spill.fetchedDesc (x : Spill) (w : BitVec 256) : Desc :=
  parseDesc x.fetchAddr x.nextNum (min x.pos (natBits w.toNat 32 24)) x.keptCode x.keptBad w

/-- The channel shows the direction of the descriptor it goes on to. -/
def turnSpill (d : Nat) (x : Spill) (e : Desc) (s : State) : State :=
  if x.descs.isEmpty then s.onSpill d fun y => { y with dir := e.dir } else s

/-- A channel with one more descriptor in use. -/
def Spill.takes (x : Spill) (e : Desc) : Spill :=
  { x with state := .run, descs := x.descs ++ [e], nextNum := x.nextNum + 1, pos := 0, keptCode := 0, keptBad := 0, stopped := e.stop }

/-- A well-formed descriptor that is owned is taken, or halts its channel. -/
def takeDesc (d : Nat) (e : Desc) (s : State) : State :=
  if e.dir ∧ s.flt.take then spillHalt d 5 s
  else if (s.port (spillPort e.dir)).state = .halted then portHalts d e.dir s
  else settleSpill d (s.onSpill d fun x => x.takes e)

theorem gotDesc_open (w : BitVec 256) (h : (s.spill_ d).state = .run ∨ (s.spill_ d).state = .wait) : gotDesc d w s =
    if !natBit w.toNat 0 then
      if (s.spill_ d).kicked then
        fetchDesc d (s.spill_ d).fetchAddr ((s.onSpill d Spill.fetched).onSpill d fun x => x.waitFrom s.now)
      else (s.onSpill d Spill.fetched).onSpill d fun x => x.waitFrom s.now
    else if malformed w then spillHalt d 2 (s.onSpill d Spill.fetched)
    else takeDesc d ((s.spill_ d).fetchedDesc w)
      (turnSpill d (s.spill_ d) ((s.spill_ d).fetchedDesc w) (s.onSpill d Spill.fetched)) := by
  unfold gotDesc
  dsimp only
  rcases h with h | h <;> rw [h] <;> rfl

theorem gotDesc_closed (w : BitVec 256) (h : ¬((s.spill_ d).state = .run ∨ (s.spill_ d).state = .wait)) :
    gotDesc d w s = s.onSpill d Spill.fetched := by
  unfold gotDesc
  dsimp only
  split
  next hs => exact absurd (.inl hs) h
  next hs => exact absurd (.inr hs) h
  next => rfl

/-- What a halt of the channel with a cause leaves. -/
def HaltsWith (d k : Nat) (ds : List Desc) (s t : State) : Prop :=
  (t.spill_ d).state = .halting ∧ (t.spill_ d).hcause = k ∧ (t.spill_ d).descs = ds ∧
    t = { s with spill := t.spill, stat := t.stat, news := t.news, flt := t.flt }

theorem spillHalt_haltsWith (hd : d < 8) (k : Nat) (h : (u.spill_ d).active = true) (hf : SameButSpill s u) :
    HaltsWith d k (u.spill_ d).descs s (spillHalt d k u) := by
  have hch := spillHalt_shows hd k h
  have hframe := hf.trans (spillHalt_frame d k u)
  unfold SameButSpill at hframe
  refine ⟨?_, ?_, ?_, ?_⟩
  · rw [hch]; rfl
  · rw [hch]; rfl
  · rw [hch]; rfl
  · generalize spillHalt d k u = t at hframe ⊢
    rw [hframe]

/-- The registers with the address of a burst that has failed. -/
def errShown (d a : Nat) (s : State) : State :=
  (s.setSt (SP_ERRL_ADDR_LO d) (a % 2 ^ 32)).setSt (SP_ERRH_ADDR_HI d) (a / 2 ^ 32)

theorem errShown_frame (d a : Nat) (s : State) : SameButStat s (errShown d a s) := (setSt_frame _ _ _).trans (setSt_frame _ _ _)

theorem busError_active (b : Axi) (h : (s.spill_ d).active = true) : busError d b s =
    raise .spillerr d 0 ((errShown d b.addr (spillHalt d 1 s)).onSpill d fun x => { x with hdir := b.write, hkind := b.kind }) := by
  unfold busError
  exact if_pos h

theorem busError_rest (b : Axi) (h : (s.spill_ d).active = false) : busError d b s = s := by
  unfold busError
  exact if_neg (Bool.eq_false_iff.mp h)

theorem raise_frame (src : Src) (n i : Nat) (s : State) : raise src n i s = { s with flt := (raise src n i s).flt } := rfl

theorem busError_shows (hd : d < 8) (b : Axi) (h : (s.spill_ d).active = true) :
    (busError d b s).spill_ d = { (s.spill_ d).halting 1 with hdir := b.write, hkind := b.kind } ∧
    busError d b s = { s with spill := (busError d b s).spill, stat := (busError d b s).stat, news := (busError d b s).news
                              flt := (busError d b s).flt } := by
  have hch := spillHalt_shows hd 1 h
  have hframe : SameButSpill s (errShown d b.addr (spillHalt d 1 s)) :=
    (spillHalt_frame d 1 s).trans (errShown_frame _ _ _).spillFrame
  have hkeep : (errShown d b.addr (spillHalt d 1 s)).spill_ d = (spillHalt d 1 s).spill_ d := by
    rw [(errShown_frame d b.addr (spillHalt d 1 s) : _ = _)]
    rfl
  rw [busError_active b h]
  unfold SameButSpill at hframe
  generalize errShown d b.addr (spillHalt d 1 s) = v at hframe hkeep ⊢
  constructor
  · refine (onSpill_shows hd _ v).trans ?_
    rw [hkeep, hch]
  · rw [hframe]
    rfl

theorem fetchedDesc_bare (x : Spill) (w : BitVec 256) : (x.fetchedDesc w).bare = x.fetchedDesc w := rfl

/-- What a descriptor taken leaves. -/
theorem takeDesc_shows (hd : d < 8) {e : Desc} (he : e.bare = e) (hno : ¬(e.dir ∧ s.flt.take))
    (hport : (s.port (spillPort e.dir)).state ≠ .halted) :
    ∃ y, ((takeDesc d e s).spill_ d).descs.getLast? = some y ∧ y.bare = e ∧
      ((takeDesc d e s).spill_ d).descs.length = (s.spill_ d).descs.length + 1 ∧
      ((takeDesc d e s).spill_ d).nextNum = (s.spill_ d).nextNum + 1 ∧ ((takeDesc d e s).spill_ d).stopped = e.stop ∧
      ((s.spill_ d).descs = [] → ((takeDesc d e s).spill_ d).dir = e.dir) ∧
      (((takeDesc d e s).spill_ d).state = .run ∨ ((takeDesc d e s).spill_ d).state = .halting) ∧
      SameButSpill s (takeDesc d e s) := by
  have heq : takeDesc d e s = settleSpill d (s.onSpill d fun x => x.takes e) := by
    unfold takeDesc
    rw [if_neg hno, if_neg hport]
  have hch := onSpill_shows hd (fun x => x.takes e) s
  have hcourse := settleSpill_course hd (s.onSpill d fun x => x.takes e)
  have hdir := fun h => settleSpill_dir (s := s.onSpill d fun x => x.takes e) (e := e) hd h
  have hframe := SameButSpill.trans (s := s) (t := s.onSpill d fun x => x.takes e) rfl hcourse.frame
  rw [heq]
  generalize s.onSpill d (fun x => x.takes e) = v at hch hcourse hdir hframe ⊢
  obtain ⟨-, -, hdescs, hnext, hstopped, hstate, -⟩ := hcourse
  generalize settleSpill d v = t at *
  rw [hch] at hdescs hnext hstopped hstate hdir
  have hmap : (t.spill_ d).descs.map Desc.bare = (s.spill_ d).descs.map Desc.bare ++ [e] := by
    rw [hdescs]
    simp [Spill.takes, he]
  have hlast : ((t.spill_ d).descs.map Desc.bare).getLast? = some e := by
    rw [hmap, List.getLast?_append]
    rfl
  rw [List.getLast?_map] at hlast
  obtain ⟨y, hy, hbare⟩ := Option.map_eq_some_iff.mp hlast
  refine ⟨y, hy, hbare, ?_, hnext, hstopped, fun h0 => hdir ?_, ?_, hframe⟩
  · simpa using congrArg List.length hmap
  · simp [Spill.takes, h0]
  · exact hstate.imp_right And.right

theorem answered_active (x : Spill) (b : Bool) : (x.answered b).active = x.active ∧ (x.answered b).state = x.state ∧
    (x.answered b).descs = x.descs := by
  unfold Spill.answered
  split <;> exact ⟨rfl, rfl, rfl⟩

/-- The state in which the read of a descriptor is taken up. -/
def fetchBack (d : Nat) (s : State) : State := s.onSpill d (·.answered false)

theorem fetchBack_shows (hd : d < 8) (s : State) : (fetchBack d s).spill_ d = (s.spill_ d).answered false := onSpill_shows hd _ _

theorem turnSpill_shows (hd : d < 8) (x : Spill) (e : Desc) (s : State) :
    (∃ b, (turnSpill d x e s).spill_ d = { s.spill_ d with dir := b }) ∧ SameButSpill s (turnSpill d x e s) := by
  unfold turnSpill
  split
  · exact ⟨⟨_, onSpill_shows hd _ _⟩, rfl⟩
  · exact ⟨⟨_, rfl⟩, rfl⟩

/-- The read of a descriptor that is not owned: the channel waits, or fetches it again. -/
theorem gotDesc_waits (hd : d < 8) (w : BitVec 256) (h : (s.spill_ d).state = .run ∨ (s.spill_ d).state = .wait)
    (h0 : natBit w.toNat 0 = false) : gotDesc d w s = s.onSpill d fun x =>
      if (s.spill_ d).kicked then (x.fetched.waitFrom s.now).fetch s d (s.spill_ d).fetchAddr else x.fetched.waitFrom s.now := by
  rw [gotDesc_open w h, if_pos (by simp [h0])]
  split
  · rw [onSpill_onSpill, fetchDesc_onSpill]
  · rw [onSpill_onSpill]

theorem takeDesc_halts {e : Desc} {k : Nat} (hd : d < 8) (hu : SameButSpill s u) (ha : (u.spill_ d).active = true)
    (h : k = 5 ∧ (e.dir ∧ u.flt.take) ∨
      k = 3 ∧ ¬(e.dir ∧ u.flt.take) ∧ (u.port (spillPort e.dir)).state = .halted) :
    HaltsWith d k (u.spill_ d).descs s (takeDesc d e u) := by
  unfold takeDesc
  rcases h with ⟨rfl, htake⟩ | ⟨rfl, hno, hport⟩
  · rw [if_pos htake]
    exact spillHalt_haltsWith hd 5 ha hu
  · rw [if_neg hno, if_pos hport]
    have hch := onSpill_shows hd (fun x => { x with hport := e.dir }) u
    have hhalt := spillHalt_haltsWith (s := s) (u := u.onSpill d fun x => { x with hport := e.dir }) hd 3
      (by rw [hch]; exact ha) (hu.trans rfl)
    rw [hch] at hhalt
    exact hhalt

end

/-- Settles O56: a fetch that fails, and what a descriptor read brings. -/
theorem descriptorsAreTakenOrHalt : Obligations.DescriptorsAreTakenOrHalt := by
  unfold Obligations.DescriptorsAreTakenOrHalt
  intro s d w resp b htakes hold hkind x y open_ e haltsWith
  have hd := d.isLt
  have hback := fetchBack_shows hd s
  have hbad : 2 ≤ resp.toNat → exec (.descriptorFetched d w resp) s =
      .next (busError d b ((fetchBack d s).onSpill d fun x => { x with fetching := false })) := by
    intro hr
    rw [exec_descriptorFetched]
    unfold execDescriptorFetched
    rw [hold]
    dsimp only
    rw [if_pos ⟨htakes, hkind⟩]
    exact if_pos hr
  have hgood : resp.toNat < 2 → exec (.descriptorFetched d w resp) s = .next (gotDesc d w (fetchBack d s)) := by
    intro hr
    rw [exec_descriptorFetched]
    unfold execDescriptorFetched
    rw [hold]
    dsimp only
    rw [if_pos ⟨htakes, hkind⟩]
    exact if_neg (by omega)
  have hx : ((fetchBack d s).onSpill d fun x => { x with fetching := false }).spill_ d = x := by
    rw [onSpill_shows hd, hback]
  have hy : ((fetchBack d s).onSpill d Spill.fetched).spill_ d = y := by
    rw [onSpill_shows hd, hback]
    rfl
  have hopen : open_ → ((fetchBack d s).spill_ d).state = .run ∨ ((fetchBack d s).spill_ d).state = .wait := by
    rw [hback]
    exact id
  have hactive : open_ → y.active = true := fun h => (active_iff y).mpr (h.imp_right .inl)
  have hdesc : ((fetchBack d s).spill_ d).fetchedDesc w = e := by
    rw [hback]
    rfl
  refine ⟨fun hr h => ?_, fun hr h => ⟨fun h0 => ?_, fun h1 hm => ?_, fun h1 hm => ?_⟩, fun hr h => ?_, fun hr h => ?_⟩
  · have ha : x.active = true := (active_iff x).mpr (or_assoc.mp h)
    obtain ⟨hch, hframe⟩ := busError_shows (s := (fetchBack d s).onSpill d fun x => { x with fetching := false }) hd b
      (by rw [hx]; exact ha)
    rw [hx] at hch
    refine ⟨_, hbad hr, ?_⟩
    generalize busError d b _ = t at hch hframe ⊢
    rw [hch]
    refine ⟨rfl, rfl, rfl, ?_⟩
    rw [hframe]
    rfl
  · refine ⟨_, hgood hr, ?_⟩
    rw [gotDesc_waits hd w (hopen h) h0]
    refine ⟨?_, rfl⟩
    rw [onSpill_shows hd, hback]
    split <;> rfl
  · refine ⟨_, hgood hr, ?_⟩
    rw [gotDesc_open w (hopen h), if_neg (by simp [h1]), if_pos hm]
    have hhalt := spillHalt_haltsWith (s := s) (u := (fetchBack d s).onSpill d Spill.fetched) hd 2
      (by rw [hy]; exact hactive h) rfl
    rw [hy] at hhalt
    exact hhalt
  · have hturn := turnSpill_shows hd ((fetchBack d s).spill_ d) e ((fetchBack d s).onSpill d Spill.fetched)
    have heq : gotDesc d w (fetchBack d s) =
        takeDesc d e (turnSpill d ((fetchBack d s).spill_ d) e ((fetchBack d s).onSpill d Spill.fetched)) := by
      rw [gotDesc_open w (hopen h), if_neg (by simp [h1]), if_neg (by simp [hm]), hdesc]
    have hex := (hgood hr).trans (congrArg Host.Outcome.next heq)
    rw [hy] at hturn
    generalize turnSpill d ((fetchBack d s).spill_ d) e ((fetchBack d s).onSpill d Spill.fetched) = u at hturn hex
    obtain ⟨⟨dir, hch⟩, hframe⟩ := hturn
    have hu : SameButSpill s u := SameButSpill.trans (t := (fetchBack d s).onSpill d Spill.fetched) rfl hframe
    have hflt : u.flt = s.flt := by rw [(hu : _ = _)]
    have hport : u.port (spillPort e.dir) = s.port (if e.dir then 29 else 28) := by rw [(hu : _ = _)]; rfl
    have ha : (u.spill_ d).active = true := by rw [hch]; exact hactive h
    have hdescs : (u.spill_ d).descs = x.descs := by rw [hch]
    have hnext : (u.spill_ d).nextNum = x.nextNum := by rw [hch]
    refine ⟨fun hdir htake => ?_, fun hno hp => ?_, fun hno hp => ?_⟩
    · have hhalt := takeDesc_halts (e := e) hd hu ha (.inl ⟨rfl, hdir, by rw [hflt]; exact htake⟩)
      rw [hdescs] at hhalt
      exact ⟨_, hex, hhalt⟩
    · have hhalt := takeDesc_halts (e := e) hd hu ha (.inr ⟨rfl, by rw [hflt]; exact hno, by rw [hport]; exact hp⟩)
      rw [hdescs] at hhalt
      exact ⟨_, hex, hhalt⟩
    · obtain ⟨z, hz, hbare, hlen, hnum, hstop, hdir, hstate, hs⟩ := takeDesc_shows (s := u) (e := e) hd rfl
        (by rw [hflt]; exact hno) (by rw [hport]; exact hp)
      rw [hdescs] at hlen hdir
      rw [hnext] at hnum
      have hall := hu.trans hs
      refine ⟨_, z, hex, hz, hbare, hlen, hnum, hstop, hdir, hstate, ?_, ?_, ?_⟩
      · rw [(hall : _ = _)]
      · rw [(hall : _ = _)]
      · rw [(hall : _ = _)]
  · refine ⟨_, hgood hr, ?_⟩
    rw [gotDesc_closed w (by rw [hback]; exact h)]
    exact ⟨hy, rfl⟩
  · have ha : x.active = false := Bool.eq_false_iff.mpr fun ha => h (or_assoc.mpr ((active_iff x).mp ha))
    refine ⟨_, hbad hr, ?_⟩
    rw [busError_rest b (by rw [hx]; exact ha)]
    exact ⟨hx, rfl⟩

end Sys2Proof.Machine
end

section
/-!
Chunks: their reads, their writes, and the writebacks of their descriptors (O57).
-/

namespace Sys2Proof.Machine

section

variable {s t u : State} {d : Nat}

-- the read of a chunk (R496, R497)

theorem freeTag_lt (x : Port) : x.freeTag < 256 := by
  unfold Port.freeTag
  cases h : (List.range 256).find? fun t => !x.reqs.any (·.tag.toNat == t) with
  | none => simp
  | some t => exact List.mem_range.mp (List.mem_of_find?_eq_some h)

/-- The request that reads a chunk through P28. -/
def chunkReq (x : Port) (e : Desc) (start units : Nat) : Req :=
  newReq x.nextSeq (BitVec.ofNat 34 (e.daddr / 64 + start)) (units - 1) false (BitVec.ofNat 8 x.freeTag) false

theorem spillRequest_read (e : Desc) (start units : Nat) (s : State) :
    spillRequest 28 e start units [] s = ((s.port 28).nextSeq, accept_ 28 (chunkReq (s.port 28) e start units) s) := by
  unfold spillRequest
  dsimp only
  rw [if_neg (by decide)]
  rfl

theorem freeTag_free {x : Port} (h : x.reqs.any (·.tag.toNat == x.freeTag) = false) :
    (x.reqs.any fun r => r.tag == BitVec.ofNat 8 x.freeTag && !r.freed) = false := by
  rw [List.any_eq_false] at h ⊢
  intro r hr
  have hne := h r hr
  have hlt := freeTag_lt x
  have htag : r.tag ≠ BitVec.ofNat 8 x.freeTag := by
    intro he
    rw [he, BitVec.toNat_ofNat, Nat.mod_eq_of_lt hlt] at hne
    simp at hne
  simp [htag]

/-- A descriptor with one more chunk issued, and that chunk, in a channel. -/
def Spill.issues (x : Spill) (e : Desc) (n seq : Nat) : Spill :=
  { x with
    chunks := x.chunks ++ [⟨e.num, e.issued, n, .reading, seq, []⟩]
    descs := x.descs.map fun (y : Desc) => if y.num = e.num then { y with issued := y.issued + n } else y }

/-- A chunk whose read goes over AXI4, or through P28. -/
theorem issueChunk_axi {e : Desc} (h : (s.spill_ d).reading = some e) (hdir : e.dir = true) : issueChunk d s =
    (s.onSpill d fun x => { x with bursts := x.bursts ++ [s.chunkRead d e (e.chunkLen e.issued)] }).onSpill d fun x =>
      x.issues e (e.chunkLen e.issued) 0 := by
  unfold issueChunk
  dsimp only
  rw [h]
  dsimp only
  rw [if_pos hdir]
  rfl

theorem issueChunk_port {e : Desc} (h : (s.spill_ d).reading = some e) (hdir : e.dir = false) : issueChunk d s =
    (accept_ 28 (chunkReq (s.port 28) e e.issued (e.chunkLen e.issued)) s).onSpill d fun x =>
      x.issues e (e.chunkLen e.issued) (s.port 28).nextSeq := by
  unfold issueChunk
  dsimp only
  rw [h]
  dsimp only
  rw [if_neg (by simp [hdir]), spillRequest_read]
  rfl

/-- A chunk read issued, and shown. -/
def chunkIssued (res d : Nat) (s : State) : State := spillServed res d (showSpill d (issueChunk d s))

theorem chunkIssued_shows (hd : d < 8) (res : Nat) (s : State) :
    (∃ b, (chunkIssued res d s).spill_ d = { (issueChunk d s).spill_ d with dir := b }) ∧
      (chunkIssued res d s).ports = (issueChunk d s).ports := by
  obtain ⟨⟨b, hb⟩, hframe⟩ := showSpill_shows hd (issueChunk d s)
  have hports : (showSpill d (issueChunk d s)).ports = (issueChunk d s).ports := by rw [(hframe : _ = _)]
  exact ⟨⟨b, hb⟩, hports⟩

theorem chunkIssue_eq {c : Fin 8} {e : Desc} (h : (s.spill_ c).reading = some e) (hw : (s.spill_ c).waits false = false)
    (hturn : s.spillTurn (if e.dir then 2 else 0) = some c.val) :
    exec (.chunkIssue c) s = .next (chunkIssued (if e.dir then 2 else 0) c s) := by
  rw [exec_chunkIssue]
  unfold execChunkIssue
  rw [h]
  dsimp only
  exact congrArg Host.Outcome.next (if_pos ⟨hturn, by simp [hw]⟩)

-- the answer of a read (R67, R505)

theorem answered_eq (x : Spill) (b : Bool) : x.answered b = { x with bursts := (x.answered b).bursts } := by
  unfold Spill.answered
  split <;> rfl

theorem onChunk_eq (x : Spill) (f : Chunk → Bool) (g : Chunk → Chunk) :
    x.onChunk f g = { x with chunks := (x.onChunk f g).chunks } := by
  unfold Spill.onChunk
  split <;> rfl

theorem onChunk_congr {x y : Spill} (h : x.chunks = y.chunks) (f : Chunk → Bool) (g : Chunk → Chunk) :
    (x.onChunk f g).chunks = (y.onChunk f g).chunks := by
  unfold Spill.onChunk
  rw [h]
  split
  · rfl
  · exact h

/-- What a bus error leaves of an active channel: the burst that failed, latched. -/
def FailsAt (d : Nat) (b : Axi) (z : List Nat) (t : State) : Prop :=
  (t.spill_ d).state = .halting ∧ (t.spill_ d).hcause = 1 ∧ (t.spill_ d).hdir = b.write ∧
    (t.spill_ d).hkind = b.kind ∧ ((SP_ERRL_ADDR_LO d).addr ∉ z → t.st (SP_ERRL_ADDR_LO d) = b.addr % 2 ^ 32)

theorem spillHalt_wf (hd : d < 8) (cause : Nat) (hw : s.stat.wf) : (spillHalt d cause s).stat.wf :=
  ((spillHalt_course hd cause s).shows (SP_UNITSL_COUNT_LO d) _ ⟨hw, rfl⟩
    (.inl (by simp only [SP_UNITSL_COUNT_LO, FT_STSEVT_EVT]; omega)) (.inl (by simp [SP_UNITSL_COUNT_LO, SP_POS_UNITS]))).1

theorem errShown_addr (hw : s.stat.wf) (a : Nat) (hz : (SP_ERRL_ADDR_LO d).addr ∉ s.frozen) :
    (errShown d a s).st (SP_ERRL_ADDR_LO d) = a % 2 ^ 32 := by
  have h : Showing (SP_ERRL_ADDR_LO d) (a % 2 ^ 32) (s.setSt (SP_ERRL_ADDR_LO d) (a % 2 ^ 32)) :=
    .of_setSt hw (by simp [SP_ERRL_ADDR_LO]) hz (Nat.mod_lt _ (by simp))
  exact (h.setSt (g := SP_ERRH_ADDR_HI d) (.inl (by simp [SP_ERRL_ADDR_LO, SP_ERRH_ADDR_HI]))).2

theorem busError_fails (hd : d < 8) (b : Axi) (hw : s.stat.wf) (h : (s.spill_ d).active = true) :
    FailsAt d b s.frozen (busError d b s) := by
  obtain ⟨hch, -⟩ := busError_shows hd b h
  refine ⟨by rw [hch]; rfl, by rw [hch]; rfl, by rw [hch], by rw [hch], fun hz => ?_⟩
  have hshown := errShown_addr (s := spillHalt d 1 s) (d := d) (spillHalt_wf hd 1 hw) b.addr
    (by rw [(spillHalt_frame d 1 s : _ = _)]; exact hz)
  rw [busError_active b h]
  generalize errShown d b.addr (spillHalt d 1 s) = v at hshown ⊢
  exact hshown

/-- A bus error keeps the chunks, the ports and the DRAM. -/
theorem busError_keeps (hd : d < 8) (b : Axi) (s : State) : ((busError d b s).spill_ d).chunks = (s.spill_ d).chunks ∧
    (busError d b s).ports = s.ports ∧ (busError d b s).dram = s.dram := by
  cases h : (s.spill_ d).active with
  | false =>
    rw [busError_rest b h]
    exact ⟨rfl, rfl, rfl⟩
  | true =>
    obtain ⟨hch, hframe⟩ := busError_shows hd b h
    refine ⟨by rw [hch]; rfl, by rw [hframe], by rw [hframe]⟩

-- the answer of a write (R497, R499)

/-- The chunks that are in their write, over AXI4. -/
def Spill.writes (x : Spill) (c : Chunk) : Bool := c.st == .writing && !x.dirOf c

theorem chunkAcked_shows (hd : d < 8) (c : Chunk) (s : State) :
    ((chunkAcked d c s).spill_ d).chunks = (s.spill_ d).chunks.filter fun y => !(y.desc == c.desc && y.start == c.start) := by
  unfold chunkAcked
  dsimp only
  rw [onSpill_shows hd]
  dsimp only
  unfold State.spill_
  rw [State.setSt_spill, State.setSt_spill]

/-- The units acknowledged are counted over both registers. -/
theorem chunkAcked_units (hw : s.stat.wf) (c : Chunk) (hl : (SP_UNITSL_COUNT_LO d).addr ∉ s.frozen)
    (hh : (SP_UNITSH_COUNT_HI d).addr ∉ s.frozen) :
    ∃ lo hi, hi * 2 ^ 32 + lo = (s.st (SP_UNITSH_COUNT_HI d) * 2 ^ 32 + s.st (SP_UNITSL_COUNT_LO d) + c.units) % 2 ^ 48 ∧
      Showing (SP_UNITSL_COUNT_LO d) lo (chunkAcked d c s) ∧ Showing (SP_UNITSH_COUNT_HI d) hi (chunkAcked d c s) := by
  unfold chunkAcked
  dsimp only
  have hlt : (s.st (SP_UNITSH_COUNT_HI d) * 2 ^ 32 + s.st (SP_UNITSL_COUNT_LO d) + c.units) % 2 ^ 48 < 2 ^ 48 :=
    Nat.mod_lt _ (by omega)
  generalize (s.st (SP_UNITSH_COUNT_HI d) * 2 ^ 32 + s.st (SP_UNITSL_COUNT_LO d) + c.units) % 2 ^ 48 = n at hlt ⊢
  refine ⟨n % 2 ^ 32, n / 2 ^ 32, by omega, ?_, ?_⟩
  · refine Showing.congr (Showing.setSt (g := SP_UNITSH_COUNT_HI d) (.of_setSt hw (by simp [SP_UNITSL_COUNT_LO]) hl ?_) ?_) rfl
    · exact Nat.mod_lt _ (by simp)
    · exact .inl (by simp [SP_UNITSL_COUNT_LO, SP_UNITSH_COUNT_HI])
  · refine Showing.congr (.of_setSt (State.setSt_stat_wf _ _ hw) (by simp [SP_UNITSH_COUNT_HI]) ?_ ?_) rfl
    · rw [State.setSt_frozen]
      exact hh
    · simp only [SP_UNITSH_COUNT_HI]
      omega

/-- A channel whose oldest descriptor is over. -/
def Spill.goesOn (x : Spill) (e : Desc) (rest : List Desc) : Spill :=
  { x with
    descs := rest, state := if e.stop && x.state == .run then .idle else x.state
    fetchAddr := if rest.isEmpty && !e.stop then e.next else x.fetchAddr }

/-- The oldest descriptor is counted and leaves. -/
def descOver (d : Nat) (e : Desc) (rest : List Desc) (s : State) : State :=
  (s.bump (SP_DONE_DESC d)).onSpill d fun x => x.goesOn e rest

/-- SPn_CUR goes on to the next of the chain. -/
def chainOn (d : Nat) (e : Desc) (s : State) : State := if e.stop then s else setCur d e.next s

/-- The interrupt of a descriptor. -/
def descIrq (d : Nat) (e : Desc) (s : State) : State :=
  if e.irq then event .spill (s.setBits (SP_STAT_IRQ d) 1) else s

theorem descDone_cons {e : Desc} {rest : List Desc} (h : (s.spill_ d).descs = e :: rest) :
    descDone d s = descIrq d e (chainOn d e (descOver d e rest s)) := by
  unfold descDone
  rw [h]
  rfl

theorem setCur_frame (d a : Nat) (s : State) : SameButCfg s (setCur d a s) := (setCf_frame _ _ _).trans (setCf_frame _ _ _)

theorem chainOn_frame (d : Nat) (e : Desc) (s : State) : SameButCfg s (chainOn d e s) := by
  unfold chainOn
  split
  · exact .refl s
  · exact setCur_frame _ _ _

theorem descIrq_frame (d : Nat) (e : Desc) (s : State) : SameButStat s (descIrq d e s) := by
  unfold descIrq
  split
  · exact (setBits_frame _ _ _).trans (event_frame _ _)
  · exact .refl s

theorem setCur_spCur {a : Nat} (hw : s.cfg.wf) (h32 : a % 32 = 0) (h48 : a < 2 ^ 48) (hl : (SP_CURL_ADDR_LO d).addr ∉ s.frozen)
    (hh : (SP_CURH_ADDR_HI d).addr ∉ s.frozen) : (setCur d a s).spCur d = a := by
  have hw1 := State.setCf_cfg_wf (s := s) (SP_CURL_ADDR_LO d) (a / 32 % 2 ^ 27) hw
  have hh1 : (SP_CURH_ADDR_HI d).addr ∉ (s.setCf (SP_CURL_ADDR_LO d) (a / 32 % 2 ^ 27)).frozen := by
    rw [(setCf_frame s _ _ : _ = _)]
    exact hh
  have hlo : (setCur d a s).cf (SP_CURL_ADDR_LO d) = a / 32 % 2 ^ 27 := by
    unfold setCur
    rw [State.cf_setCf_other _ _ _ hw1 (.inl (by simp [SP_CURL_ADDR_LO, SP_CURH_ADDR_HI])),
      State.cf_setCf_self _ _ hw (by simp [SP_CURL_ADDR_LO]) hl]
    exact Nat.mod_mod _ _
  have hhi : (setCur d a s).cf (SP_CURH_ADDR_HI d) = a / 2 ^ 32 := by
    unfold setCur
    rw [State.cf_setCf_self _ _ hw1 (by simp [SP_CURH_ADDR_HI]) hh1]
    exact Nat.mod_eq_of_lt (by simp only [SP_CURH_ADDR_HI]; omega)
  unfold State.spCur
  rw [hlo, hhi]
  omega

/-- What the end of a descriptor shows. -/
structure DescEnds (d : Nat) (e : Desc) (rest : List Desc) (s t : State) : Prop where
  channel : t.spill_ d = (s.spill_ d).goesOn e rest
  counted : (SP_DONE_DESC d).addr ∉ s.frozen →
    Showing (SP_DONE_DESC d) (min (SP_DONE_DESC d).max (s.st (SP_DONE_DESC d) + 1)) t
  irq : e.irq = true → (SP_STAT_IRQ d).addr ∉ s.frozen → Showing (SP_STAT_IRQ d) 1 t
  stays : e.stop = true → t.cfg = s.cfg
  goes : e.stop = false → e.next % 32 = 0 → e.next < 2 ^ 48 → (SP_CURL_ADDR_LO d).addr ∉ s.frozen →
    (SP_CURH_ADDR_HI d).addr ∉ s.frozen → t.spCur d = e.next

theorem one_bit_set {f : Field} (hw : s.stat.wf) (hf : f.width = 1) (hlo : f.lo < 32) (hz : f.addr ∉ s.frozen) :
    Showing f 1 (s.setBits f 1) := by
  refine ⟨State.setBits_stat_wf _ _ hw, ?_⟩
  rw [State.st_setBits_self _ _ hw (by omega) hz]
  have h := State.st_lt s f
  rw [hf] at h ⊢
  have h01 : s.st f = 0 ∨ s.st f = 1 := by omega
  rcases h01 with h | h <;> rw [h] <;> rfl

theorem descDone_ends (hd : d < 8) {e : Desc} {rest : List Desc} (hcfg : s.cfg.wf) (hstat : s.stat.wf)
    (h : (s.spill_ d).descs = e :: rest) : DescEnds d e rest s (descDone d s) := by
  have hover : (descOver d e rest s).spill_ d = (s.spill_ d).goesOn e rest := by
    unfold descOver
    rw [onSpill_shows hd, (bump_frame s (SP_DONE_DESC d) 1 : _ = _)]
    rfl
  have hcount : (SP_DONE_DESC d).addr ∉ s.frozen →
      (descOver d e rest s).st (SP_DONE_DESC d) = min (SP_DONE_DESC d).max (s.st (SP_DONE_DESC d) + 1) := fun hz =>
    State.st_bump_self (s := s) _ _ hstat (by simp [SP_DONE_DESC]) hz
  have hwf : (descOver d e rest s).stat.wf := State.bump_stat_wf (s := s) _ _ hstat
  have hoverCfg : (descOver d e rest s).cfg = s.cfg := by
    unfold descOver
    rw [(bump_frame s (SP_DONE_DESC d) 1 : _ = _)]
    rfl
  have hoverFrozen : (descOver d e rest s).frozen = s.frozen := by
    unfold descOver
    rw [(bump_frame s (SP_DONE_DESC d) 1 : _ = _)]
    rfl
  rw [descDone_cons h]
  generalize descOver d e rest s = u at hover hcount hwf hoverCfg hoverFrozen ⊢
  have hchain := chainOn_frame d e u
  have hgoes : e.stop = false → e.next % 32 = 0 → e.next < 2 ^ 48 → (SP_CURL_ADDR_LO d).addr ∉ s.frozen →
      (SP_CURH_ADDR_HI d).addr ∉ s.frozen → (chainOn d e u).spCur d = e.next := by
    intro hstop h32 h48 hl hh
    unfold chainOn
    rw [if_neg (by simp [hstop])]
    exact setCur_spCur (by rw [hoverCfg]; exact hcfg) h32 h48 (by rw [hoverFrozen]; exact hl) (by rw [hoverFrozen]; exact hh)
  have hstays : e.stop = true → (chainOn d e u).cfg = s.cfg := by
    intro hstop
    unfold chainOn
    rw [if_pos hstop, hoverCfg]
  unfold SameButCfg at hchain
  generalize chainOn d e u = v at hchain hgoes hstays ⊢
  have hvstat : v.stat = u.stat := by rw [hchain]
  have hvfrozen : v.frozen = s.frozen := by rw [hchain]; exact hoverFrozen
  have hvspill : v.spill_ d = u.spill_ d := by rw [hchain]; rfl
  have hirq := descIrq_frame d e v
  have hkeeps : ∀ f n, Showing f n v → f.apart (SP_STAT_IRQ d) → f.apart FT_STSEVT_EVT → Showing f n (descIrq d e v) := by
    intro f n hf h1 h2
    unfold descIrq
    split
    · exact ((hf.setSt (w := v.st (SP_STAT_IRQ d) ||| 1) h1).congr (t := v.setBits (SP_STAT_IRQ d) 1)
        (State.setBits_stat _ _ _)).event .spill h2
    · exact hf
  refine ⟨?_, fun hz => ?_, fun he hz => ?_, fun hstop => ?_, fun hstop h32 h48 hl hh => ?_⟩
  · rw [(hirq : _ = _)]
    exact hvspill.trans hover
  · refine hkeeps _ _ ⟨by rw [hvstat]; exact hwf, ?_⟩ (.inl ?_) (.inl ?_)
    · rw [State.st_congr hvstat]
      exact hcount hz
    · simp [SP_DONE_DESC, SP_STAT_IRQ]
    · simp only [SP_DONE_DESC, FT_STSEVT_EVT]; omega
  · unfold descIrq
    rw [if_pos he]
    refine Showing.event (one_bit_set (by rw [hvstat]; exact hwf) rfl (by simp [SP_STAT_IRQ]) (by rw [hvfrozen]; exact hz)) _ (.inl ?_)
    simp only [SP_STAT_IRQ, FT_STSEVT_EVT]; omega
  · rw [(hirq : _ = _)]
    exact hstays hstop
  · rw [(hirq : _ = _)]
    exact hgoes hstop h32 h48 hl hh

/-- The state in which an answer of a direction is taken up. -/
def takeAnswer (d : Nat) (write : Bool) (s : State) : State := s.onSpill d (·.answered write)

theorem takeAnswer_shows (hd : d < 8) (write : Bool) (s : State) :
    (takeAnswer d write s).spill_ d = { s.spill_ d with bursts := ((s.spill_ d).answered write).bursts } :=
  (onSpill_shows hd _ _).trans (answered_eq _ _)

/-- The chunk of the oldest read has its answer. -/
def chunkAnswered (d : Nat) (f : Chunk → Bool) (g : Chunk → Chunk) (s : State) : State := s.onSpill d (·.onChunk f g)

theorem chunkAnswered_shows (hd : d < 8) (f : Chunk → Bool) (g : Chunk → Chunk) (s : State) :
    (chunkAnswered d f g s).spill_ d = { s.spill_ d with chunks := ((s.spill_ d).onChunk f g).chunks } :=
  (onSpill_shows hd _ _).trans (onChunk_eq _ _ _)

/-- The chunks whose read is under way, over AXI4. -/
def Spill.reads (x : Spill) (c : Chunk) : Bool := c.st == .reading && x.dirOf c

theorem axiRead_eq {c : Fin 8} {b : Axi} {data : List Beat} {resp : BitVec 2} (htakes : s.axiTakes)
    (hold : (s.spill_ c).oldest false = some b) (hkind : b.kind = 1) (hlen : data.length = b.len + 1) :
    exec (.axiReadResponse c data resp) s = .next (if resp.toNat ≥ 2 then
      busError c b (chunkAnswered c ((takeAnswer c false s).spill_ c).reads (fun y => { y with st := .unread }) (takeAnswer c false s))
    else settleSpill c (chunkAnswered c ((takeAnswer c false s).spill_ c).reads
      (fun y => { y with st := .ready, data := data }) (takeAnswer c false s))) := by
  rw [exec_axiReadResponse]
  unfold execAxiReadResponse
  rw [hold]
  dsimp only
  rw [if_pos ⟨htakes, hkind, hlen⟩]
  split <;> rfl

/-- A channel with more bursts to issue. -/
def Spill.queues (x : Spill) (l : List Axi) : Spill := { x with bursts := x.bursts ++ l }

/-- The oldest descriptor is at its second writeback. -/
def secondWriteback (d : Nat) (s : State) : State := s.onSpill d fun x => { x with descs := match x.descs with
  | [] => []
  | e :: rest => { e with wb := 2 } :: rest }

theorem axiWrite_eq {c : Fin 8} {b : Axi} {resp : BitVec 2} (htakes : s.axiTakes)
    (hold : (s.spill_ c).oldest true = some b) :
    (resp.toNat ≥ 2 → exec (.axiWriteResponse c resp) s = .next (busError c b (if b.kind = 1 then
      chunkAnswered c ((takeAnswer c true s).spill_ c).writes (fun y => { y with st := .failed }) (takeAnswer c true s)
      else takeAnswer c true s))) ∧
    (∀ y, resp.toNat < 2 → b.kind = 1 →
      ((takeAnswer c true s).spill_ c).chunks.find? ((takeAnswer c true s).spill_ c).writes = some y →
      exec (.axiWriteResponse c resp) s = .next (settleSpill c (chunkAcked c y (takeAnswer c true s)))) ∧
    (resp.toNat < 2 → b.kind = 2 → exec (.axiWriteResponse c resp) s = .next
      (if ((takeAnswer c true s).spill_ c).active then
        (secondWriteback c (takeAnswer c true s)).onSpill c fun x =>
          x.queues (((takeAnswer c true s).spill_ c).descs.head?.toList.map ((takeAnswer c true s).writebackBurst c 3))
      else secondWriteback c (takeAnswer c true s))) ∧
    (resp.toNat < 2 → b.kind = 3 → exec (.axiWriteResponse c resp) s = .next (settleSpill c (descDone c (takeAnswer c true s)))) := by
  rw [exec_axiWriteResponse]
  unfold execAxiWriteResponse
  rw [hold]
  dsimp only
  rw [if_pos htakes]
  refine ⟨fun hr => ?_, fun y hr hk hy => ?_, fun hr hk => ?_, fun hr hk => ?_⟩
  · rw [if_pos hr]
    rfl
  · rw [if_neg (by omega), if_pos hk]
    unfold Spill.writes takeAnswer at hy
    rw [hy]
    rfl
  · rw [if_neg (by omega), if_neg (by omega), if_pos hk]
    rfl
  · rw [if_neg (by omega), if_neg (by omega), if_neg (by omega)]
    rfl

theorem secondWriteback_shows (hd : d < 8) {e : Desc} {rest : List Desc} (h : (s.spill_ d).descs = e :: rest) :
    (secondWriteback d s).spill_ d = { s.spill_ d with descs := { e with wb := 2 } :: rest } := by
  unfold secondWriteback
  rw [onSpill_shows hd, h]

/-- A read of a chunk that has its answer: it is ready, or its channel has failed. -/
theorem axiRead_shows {c : Fin 8} {b : Axi} {data : List Beat} {resp : BitVec 2} (hw : s.stat.wf) (htakes : s.axiTakes)
    (hold : (s.spill_ c).oldest false = some b) (hkind : b.kind = 1) (hlen : data.length = b.len + 1) :
    ∃ t, exec (.axiReadResponse c data resp) s = .next t ∧
      (resp.toNat < 2 → (t.spill_ c).chunks =
        ((s.spill_ c).onChunk (s.spill_ c).reads fun y => { y with st := .ready, data := data }).chunks) ∧
      (resp.toNat ≥ 2 → (t.spill_ c).chunks = ((s.spill_ c).onChunk (s.spill_ c).reads fun y => { y with st := .unread }).chunks ∧
        ((s.spill_ c).active = true → FailsAt c b s.frozen t)) ∧
      t.dram = s.dram ∧ t.ports = s.ports := by
  have htaken := takeAnswer_shows c.isLt false s
  have hreads : ((takeAnswer c false s).spill_ c).reads = (s.spill_ c).reads := by
    rw [htaken]
    rfl
  have hanswered : ∀ g, ((chunkAnswered c (s.spill_ c).reads g (takeAnswer c false s)).spill_ c).chunks =
      ((s.spill_ c).onChunk (s.spill_ c).reads g).chunks := by
    intro g
    rw [chunkAnswered_shows c.isLt]
    exact onChunk_congr (by rw [htaken]) _ _
  have hactive : ∀ g, ((chunkAnswered c (s.spill_ c).reads g (takeAnswer c false s)).spill_ c).active = (s.spill_ c).active := by
    intro g
    rw [chunkAnswered_shows c.isLt, htaken]
    rfl
  refine ⟨_, axiRead_eq htakes hold hkind hlen, ?_⟩
  rw [hreads]
  split
  next hr =>
    obtain ⟨hchunks, hports, hdram⟩ := busError_keeps c.isLt b
      (chunkAnswered c (s.spill_ c).reads (fun y => { y with st := .unread }) (takeAnswer c false s))
    refine ⟨fun h => absurd h (by omega), fun _ => ⟨hchunks.trans (hanswered _), fun ha => ?_⟩, hdram, hports⟩
    exact busError_fails (s := chunkAnswered c _ _ (takeAnswer c false s)) c.isLt b hw (by rw [hactive]; exact ha)
  next hr =>
    have hcourse := settleSpill_course c.isLt
      (chunkAnswered c (s.spill_ c).reads (fun y => { y with st := .ready, data := data }) (takeAnswer c false s))
    refine ⟨fun _ => hcourse.chunks.trans (hanswered _), fun h => absurd h hr, ?_, ?_⟩
    · rw [(hcourse.frame : _ = _)]
      rfl
    · rw [(hcourse.frame : _ = _)]
      rfl

/-- A write that fails halts its channel. -/
theorem axiWrite_fails {c : Fin 8} {b : Axi} {resp : BitVec 2} (hw : s.stat.wf) (htakes : s.axiTakes)
    (hold : (s.spill_ c).oldest true = some b) (hr : resp.toNat ≥ 2) :
    ∃ t, exec (.axiWriteResponse c resp) s = .next t ∧ ((s.spill_ c).active = true → FailsAt c b s.frozen t) ∧ t.dram = s.dram := by
  have htaken := takeAnswer_shows c.isLt true s
  refine ⟨_, (axiWrite_eq htakes hold).1 hr, ?_⟩
  split
  · obtain ⟨-, -, hdram⟩ := busError_keeps c.isLt b
      (chunkAnswered c ((takeAnswer c true s).spill_ c).writes (fun y => { y with st := .failed }) (takeAnswer c true s))
    refine ⟨fun ha => busError_fails (s := chunkAnswered c _ _ (takeAnswer c true s)) c.isLt b hw ?_, hdram⟩
    rw [chunkAnswered_shows c.isLt, htaken]
    exact ha
  · obtain ⟨-, -, hdram⟩ := busError_keeps c.isLt b (takeAnswer c true s)
    refine ⟨fun ha => busError_fails (s := takeAnswer c true s) c.isLt b hw ?_, hdram⟩
    rw [htaken]
    exact ha

/-- A write acknowledged frees its chunk and counts its units. -/
theorem axiWrite_acks {c : Fin 8} {b : Axi} {resp : BitVec 2} {y : Chunk} (hw : s.stat.wf) (htakes : s.axiTakes)
    (hold : (s.spill_ c).oldest true = some b) (hr : resp.toNat < 2) (hk : b.kind = 1)
    (hy : (s.spill_ c).chunks.find? (s.spill_ c).writes = some y) :
    ∃ t, exec (.axiWriteResponse c resp) s = .next t ∧
      (t.spill_ c).chunks = (s.spill_ c).chunks.filter (fun z => !(z.desc == y.desc && z.start == y.start)) ∧
      ((SP_UNITSL_COUNT_LO c).addr ∉ s.frozen → (SP_UNITSH_COUNT_HI c).addr ∉ s.frozen →
        t.st (SP_UNITSH_COUNT_HI c) * 2 ^ 32 + t.st (SP_UNITSL_COUNT_LO c) =
          (s.st (SP_UNITSH_COUNT_HI c) * 2 ^ 32 + s.st (SP_UNITSL_COUNT_LO c) + y.units) % 2 ^ 48) := by
  have htaken := takeAnswer_shows c.isLt true s
  have hfind : ((takeAnswer c true s).spill_ c).chunks.find? ((takeAnswer c true s).spill_ c).writes = some y := by
    rw [htaken]
    exact hy
  have hcourse := settleSpill_course c.isLt (chunkAcked c y (takeAnswer c true s))
  refine ⟨_, (axiWrite_eq htakes hold).2.1 y hr hk hfind, ?_, fun hl hh => ?_⟩
  · rw [hcourse.chunks, chunkAcked_shows c.isLt, htaken]
  · obtain ⟨lo, hi, hsum, hlo, hhi⟩ := chunkAcked_units (s := takeAnswer c true s) hw y hl hh
    have hlo' := hcourse.shows _ _ hlo (.inl (by simp only [SP_UNITSL_COUNT_LO, FT_STSEVT_EVT]; omega))
      (.inl (by simp [SP_UNITSL_COUNT_LO, SP_POS_UNITS]))
    have hhi' := hcourse.shows _ _ hhi (.inl (by simp only [SP_UNITSH_COUNT_HI, FT_STSEVT_EVT]; omega))
      (.inl (by simp [SP_UNITSH_COUNT_HI, SP_POS_UNITS]))
    rw [hlo'.2, hhi'.2]
    exact hsum

/-- The writeback of CODE and BAD is acknowledged: that of OWN follows. -/
theorem axiWrite_second {c : Fin 8} {b : Axi} {resp : BitVec 2} {e : Desc} {rest : List Desc} (htakes : s.axiTakes)
    (hold : (s.spill_ c).oldest true = some b) (hr : resp.toNat < 2) (hk : b.kind = 2) (hdescs : (s.spill_ c).descs = e :: rest) :
    ∃ t, exec (.axiWriteResponse c resp) s = .next t ∧ (t.spill_ c).descs = { e with wb := 2 } :: rest ∧
      (t.spill_ c).bursts = ((s.spill_ c).answered true).bursts ++
        (if (s.spill_ c).active then [s.writebackBurst c 3 e] else []) := by
  have htaken := takeAnswer_shows c.isLt true s
  have hsecond := secondWriteback_shows (s := takeAnswer c true s) c.isLt (by rw [htaken]; exact hdescs)
  have hhead : ((takeAnswer c true s).spill_ c).descs.head?.toList.map ((takeAnswer c true s).writebackBurst c 3) =
      [s.writebackBurst c 3 e] := by
    rw [htaken, hdescs]
    rfl
  have hactive : ((takeAnswer c true s).spill_ c).active = (s.spill_ c).active := by
    rw [htaken]
    rfl
  refine ⟨_, (axiWrite_eq htakes hold).2.2.1 hr hk, ?_⟩
  rw [hhead, hactive]
  split
  · rw [onSpill_shows c.isLt, hsecond, htaken]
    exact ⟨rfl, rfl⟩
  · rw [hsecond, htaken]
    exact ⟨rfl, (List.append_nil _).symm⟩

theorem descs_nums {x y : Spill} (h : x.descs.map Desc.bare = y.descs.map Desc.bare) : x.descs.map (·.num) = y.descs.map (·.num) := by
  have h' := congrArg (List.map Desc.num) h
  rwa [List.map_map, List.map_map] at h'

/-- The writeback of OWN is acknowledged: the descriptor is over. -/
theorem axiWrite_third {c : Fin 8} {b : Axi} {resp : BitVec 2} {e : Desc} {rest : List Desc} (hs : s.canonical)
    (htakes : s.axiTakes) (hold : (s.spill_ c).oldest true = some b) (hr : resp.toNat < 2) (hk : b.kind = 3)
    (hdescs : (s.spill_ c).descs = e :: rest) :
    ∃ t, exec (.axiWriteResponse c resp) s = .next t ∧
      (t.spill_ c).descs.map (·.num) = rest.map (·.num) ∧
      ((SP_DONE_DESC c).addr ∉ s.frozen → t.st (SP_DONE_DESC c) = min (SP_DONE_DESC c).max (s.st (SP_DONE_DESC c) + 1)) ∧
      (e.irq → (SP_STAT_IRQ c).addr ∉ s.frozen → t.st (SP_STAT_IRQ c) = 1) ∧
      (e.stop → (s.spill_ c).state = .run → (t.spill_ c).state = .idle) ∧ (e.stop → t.cfg = s.cfg) ∧
      (e.stop = false → e.next % 32 = 0 → e.next < 2 ^ 48 → (SP_CURL_ADDR_LO c).addr ∉ s.frozen →
        (SP_CURH_ADDR_HI c).addr ∉ s.frozen → t.spCur c = e.next) := by
  have htaken := takeAnswer_shows c.isLt true s
  have hends := descDone_ends (s := takeAnswer c true s) (e := e) (rest := rest) c.isLt (canonical_cfg hs) (canonical_stat hs)
    (by rw [htaken]; exact hdescs)
  have hcourse := settleSpill_course c.isLt (descDone c (takeAnswer c true s))
  refine ⟨_, (axiWrite_eq htakes hold).2.2.2 hr hk, ?_⟩
  generalize descDone c (takeAnswer c true s) = v at hends hcourse ⊢
  obtain ⟨hch, hcount, hirq, hstays, hgoes⟩ := hends
  have hcfg : (settleSpill c v).cfg = v.cfg := by rw [(hcourse.frame : _ = _)]
  refine ⟨?_, fun hz => ?_, fun he hz => ?_, fun hstop hrun => ?_, fun hstop => ?_, fun hstop h32 h48 hl hh => ?_⟩
  · rw [descs_nums hcourse.descs, hch]
    rfl
  · exact (hcourse.shows _ _ (hcount hz) (.inl (by simp only [SP_DONE_DESC, FT_STSEVT_EVT]; omega))
      (.inl (by simp [SP_DONE_DESC, SP_POS_UNITS]))).2
  · exact (hcourse.shows _ _ (hirq he hz) (.inl (by simp only [SP_STAT_IRQ, FT_STSEVT_EVT]; omega))
      (.inl (by simp [SP_STAT_IRQ, SP_POS_UNITS]))).2
  · have hidle : (v.spill_ c).state = .idle := by
      rw [hch, htaken]
      simp [Spill.goesOn, hstop, hrun]
    rcases hcourse.state with h | ⟨h, -⟩
    · rw [h, hidle]
    · unfold Spill.active at h
      rw [hidle] at h
      cases h
  · rw [hcfg]
    exact hstays hstop
  · have hcur : (settleSpill c v).spCur c = v.spCur c := by
      unfold State.spCur State.cf
      rw [hcfg]
    rw [hcur]
    exact hgoes hstop h32 h48 hl hh

end

/-- Settles O57: the issue of a chunk's read, its answer, and the answers of the writes by the kind of their burst. -/
theorem chunksAreReadWrittenAndAcknowledged : Obligations.ChunksAreReadWrittenAndAcknowledged := by
  unfold Obligations.ChunksAreReadWrittenAndAcknowledged
  intro s d hs x fails
  have hd := d.isLt
  have hstat := canonical_stat hs
  refine ⟨fun e hread hwaits hturn hfree => ?_, fun b data resp htakes hold hkind hlen => ?_, fun b resp htakes hold =>
    ⟨fun hr => ?_, fun c hr hk hc => ?_, fun e rest hr hdescs => ⟨fun hk => ?_, fun hk => ?_⟩⟩⟩
  · obtain ⟨⟨dir, hch⟩, hports⟩ := chunkIssued_shows hd (if e.dir then 2 else 0) s
    refine ⟨_, chunkIssue_eq hread hwaits hturn, ?_⟩
    have hport : (chunkIssued (if e.dir then 2 else 0) d s).port 28 = (issueChunk d s).port 28 := by
      unfold State.port
      rw [hports]
    rw [hch, hports, hport]
    cases hdir : e.dir with
    | true =>
      rw [issueChunk_axi hread hdir, onSpill_shows hd, onSpill_shows hd]
      exact ⟨rfl, rfl, rfl, fun _ => rfl, fun h => by cases h⟩
    | false =>
      have haccept := accept_port_free (s := s) (p := 28) (r := chunkReq (s.port 28) e e.issued (e.chunkLen e.issued)) (by decide)
        (freeTag_free (hfree hdir))
      have hspill : (accept_ 28 (chunkReq (s.port 28) e e.issued (e.chunkLen e.issued)) s).spill_ d = s.spill_ d := by
        rw [(accept_only 28 _ s).2]
        rfl
      rw [issueChunk_port hread hdir, onSpill_shows hd, hspill]
      refine ⟨rfl, rfl, (List.append_nil _).symm, fun h => (by cases h), fun _ => ⟨_, congrArg Port.reqs haccept, rfl, rfl, rfl, rfl⟩⟩
  · obtain ⟨t, hex, hgood, hbad, hrest⟩ := axiRead_shows (resp := resp) hstat htakes hold hkind hlen
    exact ⟨t, hex, hgood, fun hr => ⟨(hbad hr).1, fun ha => (hbad hr).2 ((active_iff x).mpr ha)⟩, hrest⟩
  · obtain ⟨t, hex, hfails, hdram⟩ := axiWrite_fails hstat htakes hold hr
    exact ⟨t, hex, fun ha => hfails ((active_iff x).mpr ha), hdram⟩
  · exact axiWrite_acks hstat htakes hold hr hk hc
  · obtain ⟨t, hex, hd2, hbursts⟩ := axiWrite_second htakes hold hr hk hdescs
    refine ⟨t, hex, hd2, hbursts.trans ?_⟩
    have hactive := active_iff x
    by_cases ha : x.active = true
    · rw [if_pos ha, if_pos (hactive.mp ha)]
    · rw [if_neg ha, if_neg (fun h => ha (hactive.mpr h))]
  · exact axiWrite_third hs htakes hold hr hk hdescs

end Sys2Proof.Machine
end

section
/-!
Counters: the writes of their halves and the clears (O58).
-/

namespace Sys2Proof.Machine

section

variable {s t u : State} {c d : CounterId}

-- the registers of a counter

theorem ctrLo_eq (c : CounterId) : (ctrLo c).lo = 0 ∧ (ctrLo c).width = 32 := by
  cases c <;> exact ⟨rfl, rfl⟩

theorem ctrHi_eq (c : CounterId) : (ctrHi c).lo = 0 ∧ (ctrHi c).width = 16 ∧ (ctrHi c).addr = (ctrLo c).addr + 4 := by
  cases c with
  | port p k => exact ⟨rfl, rfl, by simp only [ctrHi, ctrLo, PT_PMH_CNT_HI, PT_PML_CNT_LO]; omega⟩
  | chan n k => exact ⟨rfl, rfl, by simp only [ctrHi, ctrLo, CH_PMH_CNT_HI, CH_PML_CNT_LO]; omega⟩
  | bushel j => exact ⟨rfl, rfl, by simp only [ctrHi, ctrLo, PM_CNTH_CNT_HI, PM_CNTL_CNT_LO]; omega⟩

theorem ctrLo_port (p : Fin 32) (k : Fin 4) : (ctrLo (.port p k)).addr = 0x8110 + 0x200 * p + 0x8 * k := rfl

theorem ctrLo_chan (n : Fin 16) (k : Fin 4) : (ctrLo (.chan n k)).addr = 0x10310 + 0x1000 * n + 0x8 * k := rfl

theorem ctrLo_bushel (j : Fin 16) : (ctrLo (.bushel j)).addr = 0x3100 + 0x8 * j := rfl

theorem ctrLo_mod (c : CounterId) : (ctrLo c).addr % 8 = 0 := by
  cases c with
  | port p k => rw [ctrLo_port]; omega
  | chan n k => rw [ctrLo_chan]; omega
  | bushel j => rw [ctrLo_bushel]; omega

theorem ctrLo_inj (h : (ctrLo c).addr = (ctrLo d).addr) : c = d := by
  cases c with
  | port p k =>
    have hp := p.isLt
    have hk := k.isLt
    rw [ctrLo_port] at h
    cases d with
    | port q l =>
      have hl := l.isLt
      rw [ctrLo_port] at h
      rw [Fin.ext (by omega : p.val = q.val), Fin.ext (by omega : k.val = l.val)]
    | chan n l => rw [ctrLo_chan] at h; omega
    | bushel j => have := j.isLt; rw [ctrLo_bushel] at h; omega
  | chan n k =>
    have hk := k.isLt
    rw [ctrLo_chan] at h
    cases d with
    | port q l => have := q.isLt; have := l.isLt; rw [ctrLo_port] at h; omega
    | chan m l =>
      have hl := l.isLt
      rw [ctrLo_chan] at h
      rw [Fin.ext (by omega : n.val = m.val), Fin.ext (by omega : k.val = l.val)]
    | bushel j => have := j.isLt; rw [ctrLo_bushel] at h; omega
  | bushel j =>
    have hj := j.isLt
    rw [ctrLo_bushel] at h
    cases d with
    | port q l => rw [ctrLo_port] at h; omega
    | chan m l => rw [ctrLo_chan] at h; omega
    | bushel i =>
      rw [ctrLo_bushel] at h
      rw [Fin.ext (by omega : j.val = i.val)]

theorem ctrLo_ne (h : d ≠ c) : (ctrLo d).addr ≠ (ctrLo c).addr := fun he => h (ctrLo_inj he)

theorem ctrNum_port (p : Fin 32) (k : Fin 4) : ctrNum (.port p k) = 4 * p + k := rfl

theorem ctrNum_chan (n : Fin 16) (k : Fin 4) : ctrNum (.chan n k) = 128 + 4 * n + k := rfl

theorem ctrNum_bushel (j : Fin 16) : ctrNum (.bushel j) = 192 + j := rfl

theorem ctrNum_inj (h : ctrNum c = ctrNum d) : c = d := by
  cases c with
  | port p k =>
    have hp := p.isLt
    have hk := k.isLt
    rw [ctrNum_port] at h
    cases d with
    | port q l =>
      have hl := l.isLt
      rw [ctrNum_port] at h
      rw [Fin.ext (by omega : p.val = q.val), Fin.ext (by omega : k.val = l.val)]
    | chan n l => rw [ctrNum_chan] at h; omega
    | bushel j => rw [ctrNum_bushel] at h; omega
  | chan n k =>
    have hn := n.isLt
    have hk := k.isLt
    rw [ctrNum_chan] at h
    cases d with
    | port q l => have := q.isLt; have := l.isLt; rw [ctrNum_port] at h; omega
    | chan m l =>
      have hl := l.isLt
      rw [ctrNum_chan] at h
      rw [Fin.ext (by omega : n.val = m.val), Fin.ext (by omega : k.val = l.val)]
    | bushel j => rw [ctrNum_bushel] at h; omega
  | bushel j =>
    rw [ctrNum_bushel] at h
    cases d with
    | port q l => have := q.isLt; have := l.isLt; rw [ctrNum_port] at h; omega
    | chan m l => have := m.isLt; have := l.isLt; rw [ctrNum_chan] at h; omega
    | bushel i =>
      rw [ctrNum_bushel] at h
      rw [Fin.ext (by omega : j.val = i.val)]

/-- Both registers of a counter can be written. -/
def State.ctrWritable (s : State) (c : CounterId) : Prop := (ctrLo c).addr ∉ s.frozen ∧ (ctrHi c).addr ∉ s.frozen

theorem setCounter_frame (c : CounterId) (v : Nat) (s : State) : SameButCfg s (setCounter c v s) :=
  (setCf_frame _ _ _).trans (setCf_frame _ _ _)

theorem setCounter_wf (c : CounterId) (v : Nat) (hw : s.cfg.wf) : (setCounter c v s).cfg.wf :=
  State.setCf_cfg_wf _ _ (State.setCf_cfg_wf _ _ hw)

theorem counter_lt (s : State) (c : CounterId) : s.counter c < 2 ^ 48 := by
  have hlo := State.cf_lt s (ctrLo c)
  have hhi := State.cf_lt s (ctrHi c)
  rw [(ctrLo_eq c).2] at hlo
  rw [(ctrHi_eq c).2.1] at hhi
  unfold State.counter
  omega

theorem setCounter_self {v : Nat} (hw : s.cfg.wf) (hz : s.ctrWritable c) (hv : v < 2 ^ 48) : (setCounter c v s).counter c = v := by
  obtain ⟨hlo, hlw⟩ := ctrLo_eq c
  obtain ⟨hhi, hhw, haddr⟩ := ctrHi_eq c
  have hw1 := State.setCf_cfg_wf (s := s) (ctrLo c) (v % 2 ^ 32) hw
  have hz1 : (ctrHi c).addr ∉ (s.setCf (ctrLo c) (v % 2 ^ 32)).frozen := by
    rw [(setCf_frame s _ _ : _ = _)]
    exact hz.2
  have h1 : (setCounter c v s).cf (ctrHi c) = v / 2 ^ 32 := by
    unfold setCounter
    rw [State.cf_setCf_self _ _ hw1 (by omega) hz1, hhw]
    exact Nat.mod_eq_of_lt (by omega)
  have h2 : (setCounter c v s).cf (ctrLo c) = v % 2 ^ 32 := by
    unfold setCounter
    rw [State.cf_setCf_other _ _ _ hw1 (.inl (by omega)), State.cf_setCf_self _ _ hw (by omega) hz.1, hlw]
    exact Nat.mod_mod _ _
  unfold State.counter
  rw [h1, h2]
  omega

/-- A field at neither register of a counter keeps its value when that counter is written. -/
theorem setCounter_cf {v : Nat} {f : Field} (hw : s.cfg.wf) (hl : f.addr ≠ (ctrLo c).addr) (hh : f.addr ≠ (ctrLo c).addr + 4) :
    (setCounter c v s).cf f = s.cf f := by
  obtain ⟨-, -, haddr⟩ := ctrHi_eq c
  unfold setCounter
  rw [State.cf_setCf_other _ _ _ (State.setCf_cfg_wf _ _ hw) (.inl (by omega)), State.cf_setCf_other _ _ _ hw (.inl hl)]

theorem setCounter_other {v : Nat} (hw : s.cfg.wf) (h : d ≠ c) : (setCounter c v s).counter d = s.counter d := by
  have hne := ctrLo_ne h
  have hc := ctrLo_mod c
  have hd := ctrLo_mod d
  obtain ⟨-, -, haddr⟩ := ctrHi_eq d
  unfold State.counter
  rw [setCounter_cf hw (by omega) (by omega), setCounter_cf hw (by omega) (by omega)]

theorem counter_congr (h : t.cfg = s.cfg) (c : CounterId) : t.counter c = s.counter c := by
  unfold State.counter
  rw [State.cf_congr h, State.cf_congr h]

theorem taken_congr (h : t.perf.taken = s.perf.taken) (c : CounterId) : t.taken c = s.taken c := by
  unfold State.taken
  rw [h]

theorem hostWrite_clocked {f : State → State} (h : s.clocked) : hostWrite f s = .next (f s) := by
  unfold hostWrite
  rw [if_pos h]

theorem clrall_clocked (h : s.clocked) : exec .clrall s = .next (clearBushel (dropHeld PM_CTL_CLRALL.addr s)) := by
  rw [exec_clrall]
  unfold execClrall
  exact hostWrite_clocked h

theorem clr_port_clocked (h : s.clocked) (p : Fin 32) (mask : BitVec 4) : exec (.clr (.port p) mask) s =
    .next (clearCounters (.port p) mask.toNat (dropHeld (PT_PMCTL_CLR p).addr s)) := by
  rw [exec_clr]
  unfold execClr
  exact hostWrite_clocked h

theorem clr_chan_clocked (h : s.clocked) (n : Fin 16) (mask : BitVec 4) : exec (.clr (.chan n) mask) s =
    .next (clearCounters (.chan n) mask.toNat (dropHeld (CH_PMCTL_CLR n).addr s)) := by
  rw [exec_clr]
  unfold execClr
  exact hostWrite_clocked h

-- held halves (R513)

/-- What the low halves of a window that are dropped leave. -/
theorem find_filter {α : Type} (f : Nat → Bool) (l : List (Nat × α)) (a : Nat) :
    find (l.filter fun e => f e.1) a = if f a then find l a else none := by
  induction l with
  | nil => simp [find]
  | cons e l ih =>
    obtain ⟨b, w⟩ := e
    by_cases hb : f b = true
    · rw [List.filter_cons_of_pos (p := fun e : Nat × α => f e.1) hb]
      by_cases ha : a = b
      · subst ha
        simp [find, hb]
      · simp only [find, if_neg ha, ih]
    · rw [List.filter_cons_of_neg (p := fun e : Nat × α => f e.1) hb, ih]
      by_cases ha : a = b
      · subst ha
        simp [hb]
      · simp [find, ha]

theorem find_append_single {α : Type} (l : List (Nat × α)) (b : Nat) (w : α) (a : Nat) :
    find (l ++ [(b, w)]) a = (find l a).or (if a = b then some w else none) := by
  induction l with
  | nil => simp [find]
  | cons e l ih =>
    obtain ⟨x, v⟩ := e
    by_cases ha : a = x
    · simp [find, ha]
    · simp [find, ha, ih]

theorem holdLow_shows (w : Word) (s : State) :
    find (holdLow c w s).perf.held (ctrLo c).addr = some w ∧
      (∀ d, d ≠ c → winOf (ctrLo d).addr = winOf (ctrLo c).addr → find (holdLow c w s).perf.held (ctrLo d).addr = none) ∧
      ∀ d, winOf (ctrLo d).addr ≠ winOf (ctrLo c).addr →
        find (holdLow c w s).perf.held (ctrLo d).addr = find s.perf.held (ctrLo d).addr := by
  have hfind : ∀ a, find (holdLow c w s).perf.held a =
      (if (decide (winOf a ≠ winOf (ctrLo c).addr)) = true then find s.perf.held a else none).or
        (if a = (ctrLo c).addr then some w else none) := by
    intro a
    rw [← find_filter (fun a => decide (winOf a ≠ winOf (ctrLo c).addr))]
    exact find_append_single _ _ _ _
  refine ⟨?_, fun d hd hwin => ?_, fun d hwin => ?_⟩
  · rw [hfind]
    simp
  · rw [hfind]
    simp [hwin, ctrLo_ne hd]
  · have hne : (ctrLo d).addr ≠ (ctrLo c).addr := fun h => hwin (by rw [h])
    rw [hfind]
    simp [hwin, hne]

/-- The low halves held in the window of a counter are dropped. -/
def unhold (c : CounterId) (s : State) : State :=
  s.onPerf fun f => { f with held := f.held.filter fun e => winOf e.1 ≠ winOf (ctrLo c).addr }

theorem writeHigh_eq (w : Word) (s : State) : writeHigh c w s =
    settled c (setCounter c (w.toNat % 2 ^ 16 * 2 ^ 32 + ((find s.perf.held (ctrLo c).addr).getD 0).toNat) (unhold c s)) := rfl

theorem writeHigh_shows (hw : s.cfg.wf) (w : Word) :
    (s.ctrWritable c → (writeHigh c w s).counter c =
      w.toNat % 2 ^ 16 * 2 ^ 32 + ((find s.perf.held (ctrLo c).addr).getD 0).toNat) ∧
    (∀ d, d ≠ c → (writeHigh c w s).counter d = s.counter d) ∧ find (writeHigh c w s).perf.held (ctrLo c).addr = none ∧
    writeHigh c w s = { s with
      cfg := (writeHigh c w s).cfg, parErr := (writeHigh c w s).parErr, perf := (writeHigh c w s).perf } := by
  have hlow := ((find s.perf.held (ctrLo c).addr).getD 0).isLt
  rw [writeHigh_eq]
  generalize ((find s.perf.held (ctrLo c).addr).getD 0).toNat = low at hlow ⊢
  have hv : w.toNat % 2 ^ 16 * 2 ^ 32 + low < 2 ^ 48 := by omega
  generalize w.toNat % 2 ^ 16 * 2 ^ 32 + low = v at hv ⊢
  have hself := fun hz => setCounter_self (s := unhold c s) (c := c) hw hz hv
  have hother := fun d (hd : d ≠ c) => setCounter_other (s := unhold c s) (v := v) hw hd
  have hframe := setCounter_frame c v (unhold c s)
  have hnone : find (unhold c s).perf.held (ctrLo c).addr = none := by
    have h := find_filter (fun a => decide (winOf a ≠ winOf (ctrLo c).addr)) s.perf.held (ctrLo c).addr
    refine h.trans ?_
    simp
  generalize setCounter c v (unhold c s) = u at hself hother hframe ⊢
  have hperf : u.perf = (unhold c s).perf := by rw [(hframe : _ = _)]
  refine ⟨hself, hother, ?_, ?_⟩
  · have h : (settled c u).perf.held = u.perf.held := rfl
    rw [h, hperf, hnone]
  · unfold SameButCfg at hframe
    rw [hframe]
    rfl

-- clears (R518)

/-- Two states differ in the counters, and in what they have taken, alone. -/
def SameButTaken (s t : State) : Prop := t = { s with
  cfg := t.cfg, parErr := t.parErr, perf := { s.perf with taken := t.perf.taken } }

theorem SameButTaken.refl (s : State) : SameButTaken s s := rfl

theorem SameButTaken.trans (h : SameButTaken s t) (h' : SameButTaken t u) : SameButTaken s u := by
  unfold SameButTaken at *
  rw [h', h]

/-- What the clears of some counters leave. -/
structure Clears (cs : CounterId → Prop) (s t : State) : Prop where
  wf : t.cfg.wf
  frame : SameButTaken s t
  cleared : ∀ c, cs c → t.taken c = 0 ∧ (s.ctrWritable c → t.counter c = 0)
  kept : ∀ c, ¬cs c → t.counter c = s.counter c

theorem Clears.none (hw : s.cfg.wf) : Clears (fun _ => False) s s := ⟨hw, .refl s, fun _ h => h.elim, fun _ _ => rfl⟩

theorem clearCounter_frame (c : CounterId) (s : State) : SameButTaken s (clearCounter c s) := by
  unfold clearCounter
  have h := setCounter_frame c 0 (s.onPerf fun f => { f with taken := f.taken.filter (·.1 ≠ ctrNum c) })
  unfold SameButCfg at h
  unfold SameButTaken
  rw [h]
  rfl

theorem clearCounter_taken (c d : CounterId) (s : State) :
    (clearCounter c s).taken d = if d = c then 0 else s.taken d := by
  have h : (clearCounter c s).perf.taken = s.perf.taken.filter (·.1 ≠ ctrNum c) := by
    unfold clearCounter
    rw [(setCounter_frame c 0 _ : _ = _)]
    rfl
  unfold State.taken
  rw [h, List.find?_filter]
  split
  next hd =>
    subst hd
    rw [List.find?_eq_none.mpr]
    · rfl
    · simp
  next hd =>
    have hne : (fun e : Nat × Nat => decide (decide (e.1 ≠ ctrNum c) = true ∧ (e.1 == ctrNum d) = true)) = fun e => e.1 == ctrNum d := by
      funext e
      by_cases he : e.1 = ctrNum d
      · have : ctrNum d ≠ ctrNum c := fun h => hd (ctrNum_inj h)
        simp [he, this]
      · simp [he]
    rw [hne]

/-- One more counter is cleared. -/
theorem Clears.more {cs : CounterId → Prop} (h : Clears cs s t) (c : CounterId) :
    Clears (fun d => d = c ∨ cs d) s (clearCounter c t) where
  wf := setCounter_wf _ _ h.wf
  frame := h.frame.trans (clearCounter_frame c t)
  cleared d hd := by
    have hwf : (t.onPerf fun f => { f with taken := f.taken.filter (·.1 ≠ ctrNum c) }).cfg.wf := h.wf
    have hframe := h.frame
    rw [clearCounter_taken]
    by_cases hdc : d = c
    · subst hdc
      refine ⟨if_pos rfl, fun hz => setCounter_self (s := t.onPerf _) h.wf ?_ (by omega)⟩
      unfold State.ctrWritable at *
      unfold SameButTaken at hframe
      rw [hframe]
      exact hz
    · obtain ⟨htaken, hcount⟩ := h.cleared d (hd.resolve_left hdc)
      exact ⟨by rw [if_neg hdc, htaken], fun hz => (setCounter_other (s := t.onPerf _) h.wf hdc).trans (hcount hz)⟩
  kept d hd := by
    rw [not_or] at hd
    exact (setCounter_other (s := t.onPerf _) h.wf hd.1).trans (h.kept d hd.2)

theorem Clears.congr {cs cs' : CounterId → Prop} (h : Clears cs s t) (he : ∀ c, cs c ↔ cs' c) : Clears cs' s t :=
  ⟨h.wf, h.frame, fun c hc => h.cleared c ((he c).mpr hc), fun c hc => h.kept c (fun h' => hc ((he c).mp h'))⟩

/-- A fold clears the counters it names. -/
theorem Clears.foldl {n : Nat} {f : State → Fin n → State} {name : Fin n → CounterId} {sel : Fin n → Bool}
    (hf : ∀ t k, f t k = if sel k then clearCounter (name k) t else t) {l : List (Fin n)} {cs : CounterId → Prop}
    (h : Clears cs s t) : Clears (fun c => cs c ∨ ∃ k ∈ l, sel k = true ∧ c = name k) s (l.foldl f t) := by
  induction l generalizing t cs with
  | nil => exact h.congr fun c => by simp
  | cons k l ih =>
    rw [List.foldl_cons, hf]
    cases hk : sel k with
    | true =>
      refine (ih (h.more (name k))).congr fun c => ?_
      simp only [List.mem_cons, exists_eq_or_imp, hk, true_and]
      tauto
    | false =>
      refine (ih h).congr fun c => ?_
      simp [hk]

theorem clearCounters_port (p : Fin 32) (mask : Nat) (s : State) : clearCounters (.port p) mask s =
    (List.finRange 4).foldl (fun (t : State) (k : Fin 4) => if natBit mask k then clearCounter (.port p k) t else t) s := rfl

theorem clearCounters_chan (n : Fin 16) (mask : Nat) (s : State) : clearCounters (.chan n) mask s =
    (List.finRange 4).foldl (fun (t : State) (k : Fin 4) => if natBit mask k then clearCounter (.chan n k) t else t) s := rfl

theorem clearCounters_port_clears (hw : s.cfg.wf) (p : Fin 32) (mask : BitVec 4) :
    Clears (fun c => ∃ k : Fin 4, mask.getLsbD k = true ∧ c = .port p k) s (clearCounters (.port p) mask.toNat s) := by
  rw [clearCounters_port]
  refine (Clears.foldl (name := fun k => .port p k) (fun t k => rfl) (Clears.none hw)).congr fun c => ?_
  simp only [natBit_eq_testBit, BitVec.testBit_toNat, List.mem_finRange, true_and, false_or]

theorem clearCounters_chan_clears (hw : s.cfg.wf) (n : Fin 16) (mask : BitVec 4) :
    Clears (fun c => ∃ k : Fin 4, mask.getLsbD k = true ∧ c = .chan n k) s (clearCounters (.chan n) mask.toNat s) := by
  rw [clearCounters_chan]
  refine (Clears.foldl (name := fun k => .chan n k) (fun t k => rfl) (Clears.none hw)).congr fun c => ?_
  simp only [natBit_eq_testBit, BitVec.testBit_toNat, List.mem_finRange, true_and, false_or]

theorem clearBushel_clears (hw : s.cfg.wf) (hk : s.bushelKept = false) :
    Clears (fun c => ∃ j, c = .bushel j) s (clearBushel s) := by
  unfold clearBushel
  rw [if_neg (by simp [hk])]
  refine (Clears.foldl (sel := fun _ => true) (fun t j => rfl) (Clears.none hw)).congr fun c => ?_
  simp

end

/-- Settles O58: a high write is the two writes of the counter's fields, and the clears are a fold of the clear of one
counter over the chosen ones, of which `Clears` says what it leaves. -/
theorem counterWritesSetBothHalves : Obligations.CounterWritesSetBothHalves := by
  unfold Obligations.CounterWritesSetBothHalves
  intro s hcan hck writable counts pm cleared
  have hw : s.cfg.wf := canonical_cfg hcan
  refine ⟨fun c w => ⟨?_, ?_⟩, fun p mask => ?_, fun n mask => ?_, fun hk => ?_, fun hk => ?_, fun _ => rfl⟩
  · obtain ⟨hself, hwin, hfar⟩ := holdLow_shows (c := c) w s
    exact ⟨holdLow c w s, hostWrite_clocked hck, hself, hwin, hfar, rfl⟩
  · obtain ⟨hself, hother, hnone, hframe⟩ := writeHigh_shows (c := c) hw w
    exact ⟨writeHigh c w s, hostWrite_clocked hck, hself, hother, hnone, hframe⟩
  · have h := clearCounters_port_clears (s := dropHeld (PT_PMCTL_CLR p).addr s) hw p mask
    exact ⟨_, clr_port_clocked hck p mask, fun k hk => h.cleared _ ⟨k, hk, rfl⟩,
      fun d hd => h.kept d fun ⟨k, hk, he⟩ => hd k hk he, h.frame⟩
  · have h := clearCounters_chan_clears (s := dropHeld (CH_PMCTL_CLR n).addr s) hw n mask
    exact ⟨_, clr_chan_clocked hck n mask, fun k hk => h.cleared _ ⟨k, hk, rfl⟩,
      fun d hd => h.kept d fun ⟨k, hk, he⟩ => hd k hk he, h.frame⟩
  · exact (clrall_clocked hck).trans (congrArg Host.Outcome.next (if_pos hk))
  · have h := clearBushel_clears (s := pm) hw hk
    exact ⟨clearBushel pm, clrall_clocked hck, fun j => h.cleared _ ⟨j, rfl⟩,
      fun d hd => h.kept d fun ⟨j, he⟩ => hd j he, h.frame⟩

end Sys2Proof.Machine
end

section
/-!
Counters: snapshots, the freeze, and wraps (O59).
-/

namespace Sys2Proof.Machine

section

variable {s t u : State} {c d : CounterId}

theorem freeze_clocked (h : s.clocked) (on : Bool) : exec (.freeze on) s =
    .next (if s.good then writeFreeze on (dropHeld PM_CTL_SNAP.addr s) else dropHeld PM_CTL_SNAP.addr s) := by
  rw [exec_freeze]
  unfold execFreeze
  exact hostWrite_clocked h

theorem snap_clocked (h : s.clocked) : exec .snap s = .next (snapshot (dropHeld PM_CTL_SNAP.addr s)) := by
  rw [exec_snap]
  unfold execSnap
  exact hostWrite_clocked h

/-- No register of the bushel's window is frozen. -/
theorem not_frozen_of_bushel (h : s.bushelKept = false) {a : Nat} (hlo : 0x3000 ≤ a) (hhi : a < 0x4000) : a ∉ s.frozen := by
  intro hm
  have hk : s.bushelKept = true := List.any_eq_true.mpr ⟨a, hm, by simp [hlo, hhi]⟩
  rw [h] at hk
  exact Bool.false_ne_true hk

theorem before_eq_counter (h : s.taken c = 0) : s.before c = s.counter c := by
  have hlt := counter_lt s c
  unfold State.before
  rw [h]
  omega

theorem before_lt (s : State) (c : CounterId) : s.before c < 2 ^ 48 := Nat.mod_lt _ (by decide)

theorem before_congr (hcfg : t.cfg = s.cfg) (hperf : t.perf = s.perf) (c : CounterId) : t.before c = s.before c := by
  unfold State.before State.taken
  rw [counter_congr hcfg, hperf]

-- snapshots (R516)

/-- A counter of the bushel is copied to its snapshot. -/
def copyCounter (s : State) (j : Fin 16) : State :=
  (s.setSt (PM_SNPL_SNP_LO j) (s.before (.bushel j) % 2 ^ 32)).setSt (PM_SNPH_SNP_HI j) (s.before (.bushel j) / 2 ^ 32)

def copyBushel (s : State) : State := (List.finRange 16).foldl copyCounter s

/-- The copy is counted, and its cc noted. -/
def countSnapshot (s : State) : State :=
  let s := s.setSt PM_STAT_SEQ ((s.st PM_STAT_SEQ + 1) % 256)
  s.onPerf fun f => { f with snapAt := some s.now }

theorem countSnapshot_frame (s : State) : countSnapshot s = { s with
    stat := (countSnapshot s).stat, news := (countSnapshot s).news, perf := { s.perf with snapAt := some s.now } } := by
  have hset := setSt_frame s PM_STAT_SEQ ((s.st PM_STAT_SEQ + 1) % 256)
  unfold countSnapshot
  generalize s.setSt PM_STAT_SEQ ((s.st PM_STAT_SEQ + 1) % 256) = u at hset ⊢
  unfold SameButStat at hset
  rw [hset]
  rfl

theorem copyCounter_frame (s : State) (j : Fin 16) : SameButStat s (copyCounter s j) :=
  (setSt_frame _ _ _).trans (setSt_frame _ _ _)

theorem copyBushel_frame (s : State) : SameButStat s (copyBushel s) := SameButStat.foldl copyCounter_frame _ _

theorem countSnapshot_copyBushel_cfg (s : State) : (countSnapshot (copyBushel s)).cfg = s.cfg := by
  have hframe := copyBushel_frame s
  generalize copyBushel s = v at hframe ⊢
  unfold SameButStat at hframe
  rw [countSnapshot_frame, hframe]

theorem snapshot_eq (hnow : s.perf.snapAt ≠ some s.now) (hk : s.bushelKept = false) : snapshot s =
    if s.on PM_CTL_SNAPCLR then clearBushel (countSnapshot (copyBushel s)) else countSnapshot (copyBushel s) := by
  have hon : (countSnapshot (copyBushel s)).on PM_CTL_SNAPCLR = s.on PM_CTL_SNAPCLR := by
    unfold State.on
    rw [State.cf_congr (countSnapshot_copyBushel_cfg s)]
  unfold snapshot
  rw [if_neg (by simp [hnow, hk]), ← hon]
  rfl

/-- The snapshot of a counter holds a value. -/
def State.copied (t : State) (j : Fin 16) (v : Nat) : Prop := t.st (PM_SNPH_SNP_HI j) * 2 ^ 32 + t.st (PM_SNPL_SNP_LO j) = v

/-- Two states of a copy that is under way. -/
structure Copying (s t : State) : Prop where
  frame : SameButStat s t
  wf : t.stat.wf
  seq : t.st PM_STAT_SEQ = s.st PM_STAT_SEQ

theorem Copying.before (h : Copying s t) (c : CounterId) : t.before c = s.before c := by
  have hframe := h.frame
  unfold SameButStat at hframe
  exact before_congr (by rw [hframe]) (by rw [hframe]) c

theorem copyCounter_other (hw : s.stat.wf) (j : Fin 16) {f : Field} (hl : f.addr ≠ (PM_SNPL_SNP_LO j).addr)
    (hh : f.addr ≠ (PM_SNPH_SNP_HI j).addr) : (copyCounter s j).st f = s.st f :=
  (State.st_setSt_other _ _ _ (State.setSt_stat_wf _ _ hw) (.inl hh)).trans (State.st_setSt_other _ _ _ hw (.inl hl))

theorem copyCounter_self (hw : s.stat.wf) (hk : s.bushelKept = false) (j : Fin 16) :
    (copyCounter s j).copied j (s.before (.bushel j)) := by
  have hj := j.isLt
  have hlt := before_lt s (.bushel j)
  have hw1 := State.setSt_stat_wf (s := s) (PM_SNPL_SNP_LO j) (s.before (.bushel j) % 2 ^ 32) hw
  have hzh : (PM_SNPH_SNP_HI j).addr ∉ (s.setSt (PM_SNPL_SNP_LO j) (s.before (.bushel j) % 2 ^ 32)).frozen := by
    rw [State.setSt_frozen]
    exact not_frozen_of_bushel hk (by simp only [PM_SNPH_SNP_HI]; omega) (by simp only [PM_SNPH_SNP_HI]; omega)
  have hzl : (PM_SNPL_SNP_LO j).addr ∉ s.frozen :=
    not_frozen_of_bushel hk (by simp only [PM_SNPL_SNP_LO]; omega) (by simp only [PM_SNPL_SNP_LO]; omega)
  have hh : (copyCounter s j).st (PM_SNPH_SNP_HI j) = s.before (.bushel j) / 2 ^ 32 % 2 ^ 16 :=
    State.st_setSt_self _ _ hw1 (by simp only [PM_SNPH_SNP_HI]; omega) hzh
  have hl : (copyCounter s j).st (PM_SNPL_SNP_LO j) = s.before (.bushel j) % 2 ^ 32 % 2 ^ 32 :=
    (State.st_setSt_other _ _ _ hw1 (.inl (by simp only [PM_SNPH_SNP_HI, PM_SNPL_SNP_LO]; omega))).trans
      (State.st_setSt_self _ _ hw (by simp only [PM_SNPL_SNP_LO]; omega) hzl)
  unfold State.copied
  rw [hh, hl]
  omega

theorem Copying.copyCounter (h : Copying s t) (j : Fin 16) : Copying s (copyCounter t j) where
  frame := h.frame.trans (copyCounter_frame t j)
  wf := State.setSt_stat_wf _ _ (State.setSt_stat_wf _ _ h.wf)
  seq := (copyCounter_other h.wf j (by simp only [PM_STAT_SEQ, PM_SNPL_SNP_LO]; omega)
    (by simp only [PM_STAT_SEQ, PM_SNPH_SNP_HI]; omega)).trans h.seq

theorem copyCounter_keeps (hw : t.stat.wf) {j k : Fin 16} (hne : j ≠ k) {v : Nat} (h : t.copied j v) :
    (copyCounter t k).copied j v := by
  have hv : j.val ≠ k.val := fun he => hne (Fin.ext he)
  unfold State.copied at *
  rw [copyCounter_other hw k (by simp only [PM_SNPH_SNP_HI, PM_SNPL_SNP_LO]; omega) (by simp only [PM_SNPH_SNP_HI]; omega),
    copyCounter_other hw k (by simp only [PM_SNPL_SNP_LO]; omega) (by simp only [PM_SNPH_SNP_HI, PM_SNPL_SNP_LO]; omega), h]

/-- A copy of the counters of a list leaves each of them copied. -/
theorem Copying.foldl (hk : s.bushelKept = false) (h : Copying s t) (l : List (Fin 16)) :
    Copying s (l.foldl Machine.copyCounter t) ∧
      ∀ j, (j ∈ l ∨ t.copied j (s.before (.bushel j))) → (l.foldl Machine.copyCounter t).copied j (s.before (.bushel j)) := by
  induction l generalizing t with
  | nil => exact ⟨h, fun j hj => hj.resolve_left List.not_mem_nil⟩
  | cons k l ih =>
    obtain ⟨hc, hl⟩ := ih (h.copyCounter k)
    refine ⟨hc, fun j hj => hl j ?_⟩
    by_cases hjk : j = k
    · subst hjk
      have hkept : t.bushelKept = false := by
        have hframe := h.frame
        unfold SameButStat at hframe
        unfold State.bushelKept at *
        rw [hframe]
        exact hk
      exact .inr (h.before (.bushel j) ▸ copyCounter_self h.wf hkept j)
    · exact (hj.imp_left fun hm => (List.mem_cons.mp hm).resolve_left hjk).imp_right fun hv => copyCounter_keeps h.wf hjk hv

theorem countSnapshot_shows (hk : s.bushelKept = false) (hw : s.stat.wf) :
    (∀ j, (countSnapshot (copyBushel s)).copied j (s.before (.bushel j))) ∧
    (countSnapshot (copyBushel s)).st PM_STAT_SEQ = (s.st PM_STAT_SEQ + 1) % 256 ∧
    countSnapshot (copyBushel s) = { s with
      stat := (countSnapshot (copyBushel s)).stat, news := (countSnapshot (copyBushel s)).news
      perf := { s.perf with snapAt := some s.now } } := by
  obtain ⟨⟨hframe, hwf, hseq⟩, hcopied⟩ := Copying.foldl hk ⟨.refl s, hw, rfl⟩ (List.finRange 16)
  have hall := fun j => hcopied j (.inl (List.mem_finRange j))
  unfold copyBushel
  generalize (List.finRange 16).foldl copyCounter s = t at *
  have hz : PM_STAT_SEQ.addr ∉ t.frozen := by
    rw [(hframe : _ = _)]
    exact not_frozen_of_bushel hk (by decide) (by decide)
  have hother : ∀ f : Field, f.addr ≠ PM_STAT_SEQ.addr → (countSnapshot t).st f = t.st f :=
    fun f hf => State.st_setSt_other PM_STAT_SEQ f _ hwf (.inl hf)
  refine ⟨fun j => ?_, ?_, ?_⟩
  · unfold State.copied
    rw [hother _ (by simp only [PM_SNPH_SNP_HI, PM_STAT_SEQ]; omega), hother _ (by simp only [PM_SNPL_SNP_LO, PM_STAT_SEQ]; omega)]
    exact hall j
  · refine (State.st_setSt_self PM_STAT_SEQ _ hwf (by decide) hz).trans ?_
    rw [hseq]
    exact Nat.mod_mod _ _
  · unfold SameButStat at hframe
    rw [countSnapshot_frame, hframe]

-- the freeze (R515)

theorem writeFreeze_shows (hw : s.cfg.wf) (on : Bool) :
    (PM_CTL_FREEZE.addr ∉ s.frozen → (writeFreeze on s).cf PM_CTL_FREEZE = b2n on) ∧
    (∀ f : Field, f.addr = PM_CTL_FREEZE.addr → 1 ≤ f.lo → (writeFreeze on s).cf f = s.cf f) ∧
    writeFreeze on s = { s with
      cfg := (writeFreeze on s).cfg, parErr := (writeFreeze on s).parErr, perf := { s.perf with hostFreeze := true } } := by
  have hframe := setCf_frame s PM_CTL_FREEZE (b2n on)
  refine ⟨fun hz => ?_, fun f hf hlo => ?_, ?_⟩
  · refine (State.cf_setCf_self PM_CTL_FREEZE _ hw (by decide) hz).trans ?_
    cases on <;> rfl
  · exact State.cf_setCf_other PM_CTL_FREEZE f _ hw (.inr (.inr hlo))
  · unfold writeFreeze
    generalize s.setCf PM_CTL_FREEZE (b2n on) = u at hframe ⊢
    unfold SameButCfg at hframe
    rw [hframe]
    rfl

-- wraps (R509, R514, R515)

/-- A counter of the bushel. -/
def inBushel : CounterId → Bool
  | .bushel _ => true
  | _ => false

/-- The skid of the event of a wrap begins, where none runs and the counter's wraps are enabled. -/
def State.skidAfter (s : State) (c : CounterId) : Option (Nat × Nat) :=
  if natBit (s.cf (ctrOvie c)) (ctrOvf c).2 && s.perf.ovf.isNone then some (s.now, 0) else s.perf.ovf

/-- A wrap shows in the flag of its counter and begins the skid of its event. -/
def markWrap (c : CounterId) (s : State) : State :=
  let s := s.setBit (ctrOvf c).1 (ctrOvf c).2
  if natBit (s.cf (ctrOvie c)) (ctrOvf c).2 && s.perf.ovf.isNone then s.onPerf fun f => { f with ovf := some (s.now, 0) } else s

theorem markWrap_frame (c : CounterId) (s : State) : markWrap c s = { s with
    stat := (s.setBit (ctrOvf c).1 (ctrOvf c).2).stat, news := (s.setBit (ctrOvf c).1 (ctrOvf c).2).news
    perf := { s.perf with ovf := s.skidAfter c } } := by
  have hframe := setBits_frame s (ctrOvf c).1 (2 ^ (ctrOvf c).2)
  unfold markWrap State.skidAfter State.setBit
  generalize s.setBits (ctrOvf c).1 (2 ^ (ctrOvf c).2) = u at hframe ⊢
  have hcfg : u.cfg = s.cfg := by rw [(hframe : _ = _)]
  have hperf : u.perf = s.perf := by rw [(hframe : _ = _)]
  have hnow : u.now = s.now := by rw [(hframe : _ = _)]
  dsimp only
  rw [State.cf_congr hcfg, hperf]
  unfold SameButStat at hframe
  split
  · rw [hframe]
    rfl
  · rw [hframe]

/-- A wrap of the bushel's own freezes it, unless the host wrote FREEZE in the cc. -/
theorem wrapped_eq (c : CounterId) (s : State) : wrapped c s =
    if inBushel c ∧ s.on PM_CTL_FRZOVF ∧ s.perf.hostFreeze = false then (markWrap c s).setCf PM_CTL_FREEZE 1
    else markWrap c s := by
  have hframe := markWrap_frame c s
  have hon : (markWrap c s).on PM_CTL_FRZOVF = s.on PM_CTL_FRZOVF := by
    have hcfg : (markWrap c s).cfg = s.cfg := by rw [hframe]
    unfold State.on
    rw [State.cf_congr hcfg]
  have hhost : (markWrap c s).perf.hostFreeze = s.perf.hostFreeze := by rw [hframe]
  cases c with
  | port p k => exact (if_neg fun h => Bool.false_ne_true h.1).symm
  | chan n k => exact (if_neg fun h => Bool.false_ne_true h.1).symm
  | bushel j =>
    rw [← hon, ← hhost]
    have h : wrapped (.bushel j) s =
        if (markWrap (.bushel j) s).on PM_CTL_FRZOVF ∧ !(markWrap (.bushel j) s).perf.hostFreeze then
          (markWrap (.bushel j) s).setCf PM_CTL_FREEZE 1
        else markWrap (.bushel j) s := rfl
    rw [h]
    simp [inBushel]

theorem ctrOvf_fits (c : CounterId) : (ctrOvf c).1.lo = 0 ∧ (ctrOvf c).2 < (ctrOvf c).1.width ∧ (ctrOvf c).1.width ≤ 16 := by
  cases c with
  | port p k => exact ⟨rfl, k.isLt, by simp only [ctrOvf, PT_PMOVF_OVF]; omega⟩
  | chan n k => exact ⟨rfl, k.isLt, by simp only [ctrOvf, CH_PMOVF_OVF]; omega⟩
  | bushel j => exact ⟨rfl, j.isLt, by simp only [ctrOvf, PM_STAT_OVF]; omega⟩

theorem markWrap_ovf (hw : s.stat.wf) (hz : (ctrOvf c).1.addr ∉ s.frozen) :
    (markWrap c s).st (ctrOvf c).1 = s.st (ctrOvf c).1 ||| 2 ^ (ctrOvf c).2 := by
  obtain ⟨hlo, hbit, hwidth⟩ := ctrOvf_fits c
  have hstat : (markWrap c s).stat = (s.setBits (ctrOvf c).1 (2 ^ (ctrOvf c).2)).stat := by
    rw [markWrap_frame]
    rfl
  rw [State.st_congr hstat, State.st_setBits_self _ _ hw (by omega) hz]
  exact Nat.mod_eq_of_lt (Nat.or_lt_two_pow (s.st_lt _) (Nat.pow_lt_pow_right (by decide) hbit))

/-- What a wrap leaves in the fields of configuration, but for the freeze. -/
theorem wrapped_cf (hw : s.cfg.wf) {f : Field} (hf : f.addr ≠ PM_CTL_FREEZE.addr) : (wrapped c s).cf f = s.cf f := by
  have hcfg : (markWrap c s).cfg = s.cfg := by rw [markWrap_frame]
  rw [wrapped_eq]
  split
  · rw [State.cf_setCf_other _ _ _ (by rw [hcfg]; exact hw) (.inl hf), State.cf_congr hcfg]
  · rw [State.cf_congr hcfg]

theorem wrapped_frame (c : CounterId) (s : State) : wrapped c s = { s with
    cfg := (wrapped c s).cfg, parErr := (wrapped c s).parErr, stat := (markWrap c s).stat, news := (markWrap c s).news
    perf := (markWrap c s).perf } := by
  have hmark := markWrap_frame c s
  have hframe := setCf_frame (markWrap c s) PM_CTL_FREEZE 1
  rw [wrapped_eq]
  generalize (markWrap c s).setCf PM_CTL_FREEZE 1 = u at hframe ⊢
  generalize markWrap c s = m at hmark hframe ⊢
  unfold SameButCfg at hframe
  split
  · rw [hframe, hmark]
  · rw [hmark]

theorem ctr_ne_freeze (c : CounterId) : (ctrLo c).addr ≠ PM_CTL_FREEZE.addr ∧ (ctrHi c).addr ≠ PM_CTL_FREEZE.addr := by
  obtain ⟨-, -, hhi⟩ := ctrHi_eq c
  have hlo : 0x3100 ≤ (ctrLo c).addr := by
    cases c with
    | port p k => rw [ctrLo_port]; omega
    | chan n k => rw [ctrLo_chan]; omega
    | bushel j => rw [ctrLo_bushel]; omega
  have hfr : PM_CTL_FREEZE.addr = 0x3000 := rfl
  omega

theorem wrapped_counter (hw : s.cfg.wf) (d : CounterId) : (wrapped c s).counter d = s.counter d := by
  obtain ⟨hlo, hhi⟩ := ctr_ne_freeze d
  unfold State.counter
  rw [wrapped_cf hw hlo, wrapped_cf hw hhi]

/-- The registers of a counter and those of its control are not the same. -/
theorem ctrOvie_ne (c : CounterId) : (ctrOvie c).addr ≠ (ctrLo c).addr ∧ (ctrOvie c).addr ≠ (ctrLo c).addr + 4 := by
  cases c with
  | port p k => rw [ctrLo_port]; simp only [ctrOvie, PT_PMCTL_OVIE]; omega
  | chan n k => rw [ctrLo_chan]; simp only [ctrOvie, CH_PMCTL_OVIE]; omega
  | bushel j => rw [ctrLo_bushel]; simp only [ctrOvie, PM_EN_OVIE]; omega

theorem bushelKept_of_counts {j : Fin 16} (h : s.counts_ (.bushel j) = true) : s.bushelKept = false := by
  unfold State.counts_ State.bushelStopped at h
  simp only [Bool.and_eq_true, Bool.not_eq_true', Bool.or_eq_false_iff] at h
  exact h.2.2

theorem wrap_none (h : s.counts_ c = false ∨ s.counter c + s.owed c < 2 ^ 48) : exec (.counterWrap c) s = .next s := by
  have hlt : s.counter c + s.owed c < 2 ^ 48 := by
    cases h with
    | inl hc =>
      have howed : s.owed c = 0 := if_neg (by simp [hc])
      rw [howed, Nat.add_zero]
      exact counter_lt s c
    | inr hlt => exact hlt
  rw [exec_counterWrap]
  unfold execCounterWrap
  refine congrArg Host.Outcome.next (if_neg fun hb => ?_)
  exact Nat.not_le.mpr hlt (of_decide_eq_true (Bool.and_eq_true_iff.mp hb).2)

/-- A counter takes the events of the cc. -/
def takeEvents (c : CounterId) (s : State) : State :=
  setCounter c ((s.counter c + s.owed c) % 2 ^ 48) (s.onPerf fun f => { f with taken := (ctrNum c, s.adds c) :: f.taken })

theorem wrap_counts (hck : s.clocked) (h : 2 ^ 48 ≤ s.counter c + s.owed c) :
    exec (.counterWrap c) s = .next (wrapped c (takeEvents c s)) := by
  have howed : s.owed c ≠ 0 := fun h0 => by
    have := counter_lt s c
    omega
  have hnow : countNow c s = wrapped c (takeEvents c s) := by
    unfold countNow
    dsimp only
    rw [if_neg howed, if_pos h]
    rfl
  rw [exec_counterWrap, ← hnow]
  unfold execCounterWrap
  exact congrArg Host.Outcome.next (if_pos (Bool.and_eq_true_iff.mpr ⟨hck, decide_eq_true h⟩))

theorem takeEvents_shows (hw : s.cfg.wf) (c : CounterId) :
    (s.ctrWritable c → (takeEvents c s).counter c = (s.counter c + s.owed c) % 2 ^ 48) ∧
    (∀ d, d ≠ c → (takeEvents c s).counter d = s.counter d) ∧
    (∀ f : Field, f.addr ≠ (ctrLo c).addr → f.addr ≠ (ctrLo c).addr + 4 → (takeEvents c s).cf f = s.cf f) ∧
    takeEvents c s = { s with
      cfg := (takeEvents c s).cfg, parErr := (takeEvents c s).parErr
      perf := { s.perf with taken := (ctrNum c, s.adds c) :: s.perf.taken } } := by
  have hv : (s.counter c + s.owed c) % 2 ^ 48 < 2 ^ 48 := Nat.mod_lt _ (by decide)
  unfold takeEvents
  generalize (s.counter c + s.owed c) % 2 ^ 48 = v at hv ⊢
  refine ⟨fun hz => setCounter_self hw hz hv, fun d hd => setCounter_other hw hd, fun f hl hh => setCounter_cf hw hl hh, ?_⟩
  have hframe := setCounter_frame c v (s.onPerf fun f => { f with taken := (ctrNum c, s.adds c) :: f.taken })
  generalize setCounter c v (s.onPerf fun f => { f with taken := (ctrNum c, s.adds c) :: f.taken }) = u at hframe ⊢
  unfold SameButCfg at hframe
  rw [hframe]
  rfl

theorem freeze_ne_ctr (c : CounterId) (f : Field) (h : f.addr = PM_CTL_FREEZE.addr) :
    f.addr ≠ (ctrLo c).addr ∧ f.addr ≠ (ctrLo c).addr + 4 := by
  obtain ⟨hlo, hhi⟩ := ctr_ne_freeze c
  obtain ⟨-, -, haddr⟩ := ctrHi_eq c
  omega

/-- Everything a wrap of a counter leaves. -/
theorem wrap_shows (hw : s.cfg.wf) (hs : s.stat.wf) (hc : s.counts_ c = true) :
    (s.ctrWritable c → (wrapped c (takeEvents c s)).counter c = (s.counter c + s.owed c) % 2 ^ 48) ∧
    (wrapped c (takeEvents c s)).taken c = s.adds c ∧
    (∀ d, d ≠ c → (wrapped c (takeEvents c s)).counter d = s.counter d) ∧
    ((ctrOvf c).1.addr ∉ s.frozen →
      (wrapped c (takeEvents c s)).st (ctrOvf c).1 = s.st (ctrOvf c).1 ||| 2 ^ (ctrOvf c).2) ∧
    (natBit (s.cf (ctrOvie c)) (ctrOvf c).2 → s.perf.ovf = none → (wrapped c (takeEvents c s)).perf.ovf = some (s.now, 0)) ∧
    (∀ j, c = .bushel j → s.on PM_CTL_FRZOVF → s.perf.hostFreeze = false → (wrapped c (takeEvents c s)).on PM_CTL_FREEZE) ∧
    (∀ j, c = .bushel j → s.perf.hostFreeze → (wrapped c (takeEvents c s)).cf PM_CTL_FREEZE = s.cf PM_CTL_FREEZE) ∧
    wrapped c (takeEvents c s) = { s with
      cfg := (wrapped c (takeEvents c s)).cfg, parErr := (wrapped c (takeEvents c s)).parErr
      stat := (wrapped c (takeEvents c s)).stat, news := (wrapped c (takeEvents c s)).news
      perf := (wrapped c (takeEvents c s)).perf } := by
  obtain ⟨hself, hother, hcf, hframe⟩ := takeEvents_shows hw c
  have hw' : (takeEvents c s).cfg.wf := setCounter_wf c _ hw
  generalize takeEvents c s = t at *
  have hwrap := wrapped_frame c t
  have hstat : (wrapped c t).stat = (markWrap c t).stat := by rw [hwrap]
  have hperf : (wrapped c t).perf = (markWrap c t).perf := by rw [hwrap]
  have hmark := markWrap_frame c t
  have hts : t.stat = s.stat := by rw [hframe]
  have htz : t.frozen = s.frozen := by rw [hframe]
  have hhost : t.perf.hostFreeze = s.perf.hostFreeze := by rw [hframe]
  have hctl : ∀ f : Field, f.addr = PM_CTL_FREEZE.addr → t.cf f = s.cf f := fun f hf =>
    hcf f (freeze_ne_ctr c f hf).1 (freeze_ne_ctr c f hf).2
  have hfrz : t.on PM_CTL_FRZOVF = s.on PM_CTL_FRZOVF := by
    unfold State.on
    rw [hctl PM_CTL_FRZOVF rfl]
  have hmcfg : (markWrap c t).cfg = t.cfg := by rw [hmark]
  refine ⟨fun hz => ?_, ?_, fun d hd => ?_, fun hz => ?_, fun hie hno => ?_, fun j hj hon hh => ?_, fun j hj hh => ?_, ?_⟩
  · rw [wrapped_counter hw', hself hz]
  · have htaken : (wrapped c t).perf.taken = (ctrNum c, s.adds c) :: s.perf.taken := by
      rw [hperf, hmark, hframe]
    unfold State.taken
    rw [htaken, List.find?_cons_of_pos (by simp)]
    rfl
  · rw [wrapped_counter hw', hother d hd]
  · rw [State.st_congr hstat, markWrap_ovf (by rw [hts]; exact hs) (by rw [htz]; exact hz), State.st_congr hts]
  · have hie' : natBit (t.cf (ctrOvie c)) (ctrOvf c).2 = true := by rw [hcf _ (ctrOvie_ne c).1 (ctrOvie_ne c).2, hie]
    have hno' : t.perf.ovf = none := by rw [hframe, hno]
    have hnow : t.now = s.now := by rw [hframe]
    rw [hperf, hmark]
    dsimp only
    unfold State.skidAfter
    rw [hie', hno', hnow]
    rfl
  · subst hj
    have hz : PM_CTL_FREEZE.addr ∉ (markWrap (.bushel j) t).frozen := by
      have hmz : (markWrap (.bushel j) t).frozen = s.frozen := by rw [hmark, htz]
      rw [hmz]
      exact not_frozen_of_bushel (bushelKept_of_counts hc) (by decide) (by decide)
    rw [wrapped_eq, if_pos ⟨rfl, hfrz.trans hon, hhost.trans hh⟩]
    unfold State.on
    rw [State.cf_setCf_self _ _ (by rw [hmcfg]; exact hw') (by decide) hz]
    rfl
  · rw [wrapped_eq, if_neg (fun h => by simp [hhost, hh] at h), State.cf_congr hmcfg, hctl _ rfl]
  · generalize wrapped c t = v at *
    rw [hwrap, hframe]

end

/-- Settles O59: a snapshot is a fold of the copy of one counter, which `Copying.foldl` follows; a wrap takes the events of
the cc, marks the flag and the skid, and freezes the bushel. -/
theorem snapshotsFreezesAndWraps : Obligations.SnapshotsFreezesAndWraps := by
  unfold Obligations.SnapshotsFreezesAndWraps
  intro s hcan hck writable w
  have hw : s.cfg.wf := canonical_cfg hcan
  have hs : s.stat.wf := canonical_stat hcan
  refine ⟨fun h => ?_, fun hnow hk => ?_, fun on => ⟨fun hg => ?_, fun hg => ?_⟩, fun c => ⟨wrap_none, fun hc hwrap => ?_⟩,
    fun h => ?_, fun h => ?_⟩
  · exact (snap_clocked hck).trans (congrArg Host.Outcome.next (if_pos h))
  · obtain ⟨hcopied, hseq, hframe⟩ := countSnapshot_shows (s := w) hk hs
    have hbefore : ∀ j : Fin 16, s.taken (.bushel j) = 0 → s.before (.bushel j) = s.counter (.bushel j) :=
      fun j => before_eq_counter
    have hexec := snap_clocked hck
    rw [snapshot_eq (s := w) hnow hk] at hexec
    generalize countSnapshot (copyBushel w) = u at hcopied hseq hframe hexec
    cases hclr : s.on PM_CTL_SNAPCLR with
    | false =>
      have hoff : w.on PM_CTL_SNAPCLR = false := hclr
      rw [hoff] at hexec
      refine ⟨u, hexec, fun j => ⟨hcopied j, hbefore j⟩, hseq, fun h => absurd h Bool.false_ne_true, fun _ => ?_, ?_, ?_⟩
      · rw [hframe]
        rfl
      · rw [hframe]
        rfl
      · rw [hframe]
        rfl
    | true =>
      have hon : w.on PM_CTL_SNAPCLR = true := hclr
      rw [hon] at hexec
      have hku : u.bushelKept = false := by
        unfold State.bushelKept at *
        rw [hframe]
        exact hk
      have hcfg : u.cfg = s.cfg := by
        rw [hframe]
        rfl
      have hwritable : ∀ j : Fin 16, u.ctrWritable (.bushel j) := fun j =>
        ⟨not_frozen_of_bushel hku (by rw [ctrLo_bushel]; omega) (by rw [ctrLo_bushel]; omega),
          not_frozen_of_bushel hku (by rw [(ctrHi_eq _).2.2, ctrLo_bushel]; omega)
            (by rw [(ctrHi_eq _).2.2, ctrLo_bushel]; omega)⟩
      obtain ⟨-, hsame, hcleared, -⟩ := clearBushel_clears (s := u) (by rw [hcfg]; exact hw) hku
      generalize clearBushel u = t at *
      have hst : ∀ f, t.st f = u.st f := fun f => State.st_congr (by rw [(hsame : _ = _)]) f
      refine ⟨t, hexec, fun j => ⟨?_, hbefore j⟩, ?_, fun _ j => ?_, fun h => absurd h (by simp), ?_, ?_⟩
      · rw [hst, hst]
        exact hcopied j
      · rw [hst]
        exact hseq
      · exact ⟨(hcleared _ ⟨j, rfl⟩).2 (hwritable j), (hcleared _ ⟨j, rfl⟩).1⟩
      · rw [(hsame : _ = _), hframe]
        rfl
      · unfold SameButTaken at hsame
        rw [hsame, hframe]
        rfl
  · refine (freeze_clocked hck on).trans (congrArg Host.Outcome.next (if_neg ?_))
    simp [hg]
  · obtain ⟨hself, hother, hframe⟩ := writeFreeze_shows (s := w) hw on
    exact ⟨writeFreeze on w, (freeze_clocked hck on).trans (congrArg Host.Outcome.next (if_pos hg)), hself,
      hother _ rfl (by decide), hother _ rfl (by decide), hother _ rfl (by decide), hframe⟩
  · exact ⟨wrapped c (takeEvents c s), wrap_counts hck hwrap, wrap_shows hw hs hc⟩
  · rw [exec_pmovf]
    unfold execPmovf
    exact congrArg Host.Outcome.next (if_neg (by simp [h]))
  · refine ⟨event .pmovf (s.onPerf fun f => { f with ovf := none }), ?_, fun hz => State.st_event .pmovf hs hz, event_frame _ _⟩
    rw [exec_pmovf]
    unfold execPmovf
    exact congrArg Host.Outcome.next (if_pos (by simp [hck, Option.isSome_iff_ne_none, h]))

end Sys2Proof.Machine
end

section
/-!
The key material after the grant of secure test access (O54): what a state keeps, and the shared operations that keep it,
function by function.
-/

namespace Sys2Proof.Machine

/-- What the guard of the keys speaks of: the void, the rekey pass, the slots, the step of secure access and its stop. -/
def State.guard (s : State) : Bool × Nat × Vector KeySlot 2 × Nat × Bool × Nat :=
  (s.keys.void, s.keys.rkState, s.keys.slots, s.tap.secStep, s.flt.testStop, s.flt.haltStep)

/-- No key material stands. -/
def Keys.empty (k : Keys) : Prop := k.void = true ∧ k.rkState = 0 ∧ k.slots = Vector.replicate 2 .empty

/-- Secure test access stands, or its stop has cleared the key material. -/
def State.secured (s : State) : Prop := s.tap.secStep = 6 ∨ (s.flt.testStop = true ∧ (s.flt.haltStep = 3 ∨ s.flt.haltStep = 4))

/-- Where secure access stands, no key material does. -/
def Gone (s : State) : Prop := s.secured → s.keys.empty

theorem gone_of {s t : State} (h : Gone s) (e : t.guard = s.guard) : Gone t := by
  simp only [State.guard, Prod.mk.injEq] at e
  obtain ⟨hvoid, hpass, hslots, hsec, hstop, hhalt⟩ := e
  unfold Gone State.secured Keys.empty at *
  rw [hvoid, hpass, hslots, hsec, hstop, hhalt]
  exact h

/-- An update of other fields keeps the guard. -/
theorem gone_mk {s : State} {porst : Bool} {instId : BitVec 14} {now rsck rfrac : Nat} {rsiAlive : Bool} {cfg stat : RegFile}
    {caps : List (Nat × Word)} {news : List (Field × News)} {parErr : List Nat} {walks : List (Nat × Word)} {frozen : List Nat}
    {apbM apbK : Apb} {pins : Pins} {clk : Clk} {load : Load} {tb : Tb} {brk : Broker} {ports : Vector Port 32} {wheel : Wheel}
    {chans : Vector Chan 16} {cals : Vector ChanCal 16} {quads : Vector Quad 4} {op : OpSeq} {mnt : Mnt}
    {spill : Vector Spill 8} {spillLast spillAt : Vector Nat 4} {perf : Perf} {dram : List (Nat × Beat)} {free : Nat}
    {pending : List Instr} (h : Gone s) :
    Gone (State.mk porst instId now rsck rfrac rsiAlive cfg stat caps news parErr walks frozen apbM apbK pins clk load tb brk
        ports
      wheel chans cals quads op s.flt mnt s.keys s.tap spill spillLast spillAt perf dram free pending) := h

theorem gone_imp {s t : State} (h : Gone s) (hs : t.secured → s.secured) (hk : s.keys.empty → t.keys.empty) : Gone t :=
  fun ht => hk (h (hs ht))

theorem gone_of_empty {s : State} (h : s.keys.empty) : Gone s := fun _ => h

theorem gone_of_not {s : State} (h : ¬s.secured) : Gone s := fun hs => absurd hs h

theorem gone_ite {a b : State} {c : Prop} [Decidable c] (ha : Gone a) (hb : Gone b) : Gone (if c then a else b) := by
  split
  · exact ha
  · exact hb

theorem gone_foldl {α : Type} {f : State → α → State} {s : State} {l : List α} (hf : ∀ s x, Gone s → Gone (f s x))
    (h : Gone s) : Gone (l.foldl f s) := foldl_inv Gone l (fun t x _ ht => hf t x ht) h

/-- Where an outcome is a next state, no key material stands there under secure access. -/
def GoneAfter (o : Host.Outcome State Fault Refusal) : Prop := ∀ t, o = .next t → Gone t

theorem goneAfter_next {t : State} (h : Gone t) : GoneAfter (.next t) := by
  rintro _ ⟨⟩
  exact h

theorem goneAfter_refused {r : Refusal} : GoneAfter (.refused r) := fun _ h => by cases h

theorem goneAfter_ite {a b : Host.Outcome State Fault Refusal} {c : Prop} [Decidable c] (ha : GoneAfter a)
    (hb : GoneAfter b) : GoneAfter (if c then a else b) := by
  split
  · exact ha
  · exact hb


section

variable {s : State}

-- the operations of Ops

theorem State.setSt_gone {a1 : Field} {a2 : Nat} (h : Gone s) : Gone (State.setSt s a1 a2) := by
  unfold State.setSt
  exact gone_ite h (gone_mk h)

theorem State.tell_gone {a1 : Field} {a2 : News} (h : Gone s) : Gone (State.tell s a1 a2) := gone_mk h

theorem State.bump_gone {a1 : Field} {a2 : Nat} (h : Gone s) : Gone (State.bump s a1 a2) := by
  unfold State.bump
  exact State.tell_gone (State.setSt_gone h)

theorem State.setBits_gone {a1 : Field} {a2 : Nat} (h : Gone s) : Gone (State.setBits s a1 a2) := by
  unfold State.setBits
  exact State.tell_gone (State.setSt_gone h)

theorem State.setCfgWord_gone {a1 : Nat} {a2 : Word} (h : Gone s) : Gone (State.setCfgWord s a1 a2) := by
  unfold State.setCfgWord
  exact gone_ite h (gone_mk h)

theorem State.setCf_gone {a1 : Field} {a2 : Nat} (h : Gone s) : Gone (State.setCf s a1 a2) := by
  unfold State.setCf
  exact State.setCfgWord_gone h

theorem State.stamp_gone {a1 : Field} {a2 : Field} (h : Gone s) : Gone (State.stamp s a1 a2) := by
  unfold State.stamp
  exact State.setSt_gone (State.setSt_gone h)

theorem State.note_gone {a1 : Ev} {a2 : Nat} {a3 : Nat} (h : Gone s) : Gone (State.note s a1 a2 a3) := gone_mk h

theorem State.onChan_gone {a1 : Nat} {a2 : Chan → Chan} (h : Gone s) : Gone (State.onChan s a1 a2) := gone_mk h

theorem State.onCal_gone {a1 : Nat} {a2 : ChanCal → ChanCal} (h : Gone s) : Gone (State.onCal s a1 a2) := gone_mk h

theorem State.onQuad_gone {a1 : Nat} {a2 : Quad → Quad} (h : Gone s) : Gone (State.onQuad s a1 a2) := gone_mk h

theorem State.onPort_gone {a1 : Nat} {a2 : Port → Port} (h : Gone s) : Gone (State.onPort s a1 a2) := gone_mk h

theorem State.onSpill_gone {a1 : Nat} {a2 : Spill → Spill} (h : Gone s) : Gone (State.onSpill s a1 a2) := gone_mk h

theorem State.onRank_gone {a1 : Nat} {a2 : Nat} {a3 : Rank → Rank} (h : Gone s) : Gone (State.onRank s a1 a2 a3) := by
  unfold State.onRank
  exact State.onChan_gone h

theorem State.onQuadClk_gone {a1 : Nat} {a2 : QuadClk → QuadClk} (h : Gone s) : Gone (State.onQuadClk s a1 a2) := gone_mk h

theorem State.setTable_gone {a1 : List Nat} (h : Gone s) : Gone (State.setTable s a1) := by
  unfold State.setTable
  extract_lets x1
  exact State.setCf_gone (State.setCf_gone h)

theorem State.onRanks_gone {a1 : Nat} {a2 : Rank → Rank} (h : Gone s) : Gone (State.onRanks s a1 a2) := by
  unfold State.onRanks
  exact State.onChan_gone h

theorem State.setPartner_gone {a1 : Nat} {a2 : Option Nat} (h : Gone s) : Gone (State.setPartner s a1 a2) := by
  unfold State.setPartner
  exact State.setSt_gone (State.setSt_gone h)

theorem State.onPerf_gone {a1 : Perf → Perf} (h : Gone s) : Gone (State.onPerf s a1) := gone_mk h

theorem dropHeld_gone {a0 : Nat} (h : Gone s) : Gone (dropHeld a0 s) := by
  unfold dropHeld
  exact State.onPerf_gone h

-- the operations of Flags

theorem State.setBit_gone {a1 : Field} {a2 : Nat} (h : Gone s) : Gone (State.setBit s a1 a2) := by
  unfold State.setBit
  exact State.setBits_gone h

theorem event_gone {a0 : Evt} (h : Gone s) : Gone (event a0 s) := by
  unfold event
  exact State.setBit_gone h

theorem enterLog_gone {a0 : LogEntry} (h : Gone s) : Gone (enterLog a0 s) := by
  unfold enterLog
  split
  · exact State.bump_gone h
  · extract_lets x1
    exact gone_mk h

theorem raise_gone {a0 : Src} {a1 : Nat} {a2 : Nat} (h : Gone s) : Gone (raise a0 a1 a2 s) := gone_mk h

theorem spillHalt_gone {a0 : Nat} {a1 : Nat} (h : Gone s) : Gone (spillHalt a0 a1 s) := by
  unfold spillHalt
  split
  · exact event_gone (State.onSpill_gone h)
  · exact event_gone (State.onSpill_gone h)
  · exact event_gone (State.onSpill_gone h)
  · exact h

theorem spillStops_gone (h : Gone s) : Gone (spillStops s) := by
  unfold spillStops
  exact gone_foldl (fun _ _ h1 => (spillHalt_gone h1)) h

theorem gone_stopping {t : State} (h : Gone s) (hstep : t.flt.haltStep = 2) (hsec : t.tap.secStep = s.tap.secStep)
    (hkeys : t.keys = s.keys) : Gone t := by
  refine gone_imp h (fun ht => .inl ?_) fun he => hkeys ▸ he
  rw [← hsec]
  refine ht.resolve_right fun ⟨_, hn⟩ => ?_
  rw [hstep] at hn
  omega

theorem stopBlock_gone (h : Gone s) : Gone (stopBlock s) := by
  unfold stopBlock
  exact spillStops_gone (gone_stopping h rfl rfl rfl)

theorem halt_gone (h : Gone s) : Gone (halt s) := by
  unfold halt
  extract_lets x1
  exact stopBlock_gone (gone_mk h)

/-- Entry into take-preservation mode pauses a rekey pass, of which there is none without keys. -/
theorem takeMode_gone {a0 : Nat} (h : Gone s) : Gone (takeMode a0 s) := by
  unfold takeMode
  extract_lets x1 x2 x3
  have hx : Gone x2 := gone_ite h (gone_of h rfl)
  split
  next hpass => exact gone_imp hx id fun he => absurd (he.2.1.symm.trans hpass) (by decide)
  next => exact hx

theorem setUnack_guard (f : Flt) (n : Nat) (v : Bool) :
    (f.setUnack n v).testStop = f.testStop ∧ (f.setUnack n v).haltStep = f.haltStep := by
  unfold Flt.setUnack
  split
  · exact ⟨rfl, rfl⟩
  · split <;> exact ⟨rfl, rfl⟩

theorem judge_gone {a0 : Flt} {a1 : LogEntry} (h : Gone s) : Gone (judge a0 a1 s) := by
  unfold judge
  extract_lets x1 x2 x3 x4 x5 x6
  have hlog : ∀ y0 y1, Gone y1 → Gone (x3 y0 y1) := by
    intro y0 y1 hy
    unfold x3
    exact gone_ite hy (enterLog_gone hy)
  have h4 : Gone x4 := hlog _ _ (gone_ite (halt_gone h) h)
  have h5 : Gone x5 := State.bump_gone (State.setBit_gone h4)
  have h6 : Gone x6 := by
    obtain ⟨hstop, hhalt⟩ := setUnack_guard x5.flt (min x2 3) true
    refine gone_of h5 ?_
    unfold State.guard
    dsimp only [x6]
    rw [hstop, hhalt]
  exact gone_ite (hlog _ _ h) (gone_ite h5 (gone_ite (takeMode_gone h6) h6))

theorem settleLog_gone (h : Gone s) : Gone (settleLog s) := by
  unfold settleLog
  extract_lets x1
  exact gone_foldl (fun _ _ h2 => (judge_gone h2)) (gone_mk h)

-- the operations of Ports

theorem setIngHold_gone {a0 : Nat} {a1 : Bool} (h : Gone s) : Gone (setIngHold a0 a1 s) := by
  unfold setIngHold
  extract_lets x1 x2
  exact gone_ite (gone_mk h) h

theorem tunFallback_gone {a0 : Nat} {a1 : Nat} {a2 : Nat} (h : Gone s) : Gone (tunFallback a0 a1 a2 s) := by
  unfold tunFallback
  extract_lets x1 x2
  have h3 : Gone x2 := gone_ite (event_gone (State.setSt_gone h)) h
  exact gone_ite (State.setSt_gone h3) h3

theorem tunCc_gone {a0 : Nat} (h : Gone s) : Gone (tunCc a0 s) := by
  unfold tunCc
  extract_lets x1 x2 x3 x4 x5 x6 x7 x8 x9
  have h10 : Gone x4 := State.onPort_gone h
  have h11 : Gone x6 := gone_ite (State.bump_gone h10) h10
  have h12 : Gone x7 := setIngHold_gone h11
  have h13 : Gone x8 := gone_ite (State.setSt_gone h12) h12
  have h14 : Gone x9 := gone_ite (State.bump_gone h13) h13
  exact gone_ite (tunFallback_gone h14) h14

theorem portHalt_gone {a0 : Nat} {a1 : Nat} (h : Gone s) : Gone (portHalt a0 a1 s) := by
  unfold portHalt
  split
  · exact State.onPort_gone h
  · exact State.onPort_gone h
  · exact State.onPort_gone h
  · exact gone_ite (State.onPort_gone h) h
  · exact h

theorem acceptRequest_gone {a0 : Nat} {a1 : Req} (h : Gone s) : Gone (accept_ a0 a1 s) := by
  unfold accept_
  extract_lets x1 x2 x3 x4 x5
  have h6 : Gone x4 := State.onPort_gone h
  have h7 : Gone x5 := State.note_gone h6
  exact gone_ite (portHalt_gone h7) h7

theorem takeBeat_gone {a0 : Nat} {a1 : WBeat} {a2 : Bool} (h : Gone s) : Gone (takeBeat a0 a1 a2 s) := by
  unfold takeBeat
  split
  · exact h
  · extract_lets x1
    have h2 : Gone x1 := State.onPort_gone (State.note_gone h)
    exact gone_ite (portHalt_gone (State.onPort_gone h2)) (State.onPort_gone h2)

theorem splitNext_gone {a0 : Nat} (h : Gone s) : Gone (splitNext a0 s) := by
  unfold splitNext
  split
  · exact h
  · extract_lets x1
    exact gone_ite (State.onPort_gone h) h

theorem addPerch_gone {a0 : Nat} {a1 : Nat} {a2 : PerchLine} (h : Gone s) : Gone (addPerch a0 a1 a2 s) := by
  unfold addPerch
  exact State.onChan_gone h

theorem handLine_gone {a0 : Nat} (h : Gone s) : Gone (handLine a0 s) := by
  unfold handLine
  split
  · exact h
  · split
    · exact State.onPort_gone h
    · extract_lets x1 x2 x3
      have h4 : ∀ y0 y1, Gone y1 → Gone (x1 y0 y1) := by
        intro y0 y1 h4_1
        unfold x1
        extract_lets x5
        have h6 : Gone x5 := State.onPort_gone h4_1
        exact State.onPort_gone h6
      have h7 : Gone x3 := gone_ite (State.note_gone h) h
      apply gone_ite
      · exact gone_ite (h4 _ _ h) h
      · split
        · extract_lets x8
          exact gone_ite (h4 _ _ h) (gone_ite h (h4 _ _ (addPerch_gone h7)))

theorem answer_gone {a0 : Nat} {a1 : Nat} {a2 : Nat} {a3 : Outcome} {a4 : Line} (h : Gone s) :
    Gone (answer a0 a1 a2 a3 a4 s) := by
  unfold answer
  exact State.onPort_gone h

theorem countResponse_gone {a0 : Nat} {a1 : Req} {a2 : ReqLine} (h : Gone s) : Gone (countResponse a0 a1 a2 s) := by
  unfold countResponse
  extract_lets x1 x2 x3 x4 x5
  have h6 : Gone x2 := State.note_gone h
  have h7 : Gone x3 := State.bump_gone h6
  have h8 : Gone x4 := State.setSt_gone (State.setSt_gone h7)
  have h9 : Gone x5 := State.setSt_gone (State.setSt_gone h8)
  exact gone_ite h (gone_ite (State.setSt_gone h7) (State.setSt_gone (State.setSt_gone h9)))

theorem finishReq_gone {a0 : Nat} {a1 : Nat} (h : Gone s) : Gone (finishReq a0 a1 s) := by
  unfold finishReq
  exact State.onPort_gone h

theorem showB_gone {a0 : Nat} (h : Gone s) : Gone (showB a0 s) := by
  unfold showB
  apply gone_ite
  · exact h
  · split
    · exact h
    · exact State.onPort_gone h

theorem sendB_gone {a0 : Nat} {a1 : Req} (h : Gone s) : Gone (sendB a0 a1 s) := by
  unfold sendB
  extract_lets x1
  have h2 : Gone x1 := gone_foldl (fun _ _ h3 => (countResponse_gone h3)) h
  exact finishReq_gone (State.onPort_gone h2)

theorem sendD_gone {a0 : Nat} {a1 : Req} (h : Gone s) : Gone (sendD a0 a1 s) := by
  unfold sendD
  extract_lets x1 x2 x3 x4
  have h5 : Gone x3 := State.note_gone (State.onPort_gone h)
  have h6 : Gone x4 := by
    unfold x4
    apply gone_ite
    · split
      · exact countResponse_gone h5
      · exact h5
    · exact h5
  exact gone_ite (finishReq_gone (State.onPort_gone h6)) h6

theorem tunReset_gone {a0 : Nat} (h : Gone s) : Gone (tunReset a0 s) := by
  unfold tunReset
  extract_lets x1 x2
  have h3 : Gone x2 := State.onPort_gone h
  exact raise_gone (State.bump_gone h3)

theorem flushStart_gone {a0 : Nat} (h : Gone s) : Gone (flushStart a0 s) := by
  unfold flushStart
  extract_lets x1
  have h2 : Gone x1 := gone_mk h
  exact gone_ite (State.onPort_gone h2) h

theorem portStop_gone {a0 : Nat} (h : Gone s) : Gone (portStop a0 s) := by
  unfold portStop
  exact gone_ite (State.onPort_gone h) h

theorem portResume_gone {a0 : Nat} (h : Gone s) : Gone (portResume a0 s) := by
  unfold portResume
  extract_lets x1
  split
  · exact State.onPort_gone h
  · exact State.onPort_gone h
  · exact gone_ite (State.onPort_gone h) h
  · exact h

-- the operations of Operands

theorem State.setBurst_gone {a1 a2 a3 : Nat} {a4 : Beat} (h : Gone s) : Gone (State.setBurst s a1 a2 a3 a4) :=
  gone_of h rfl

-- the operations of Queues

theorem State.onOp_gone {a1 : Nat} {a2 : Nat} {a3 : Op → Op} (h : Gone s) : Gone (State.onOp s a1 a2 a3) := by
  unfold State.onOp
  exact State.onChan_gone h

theorem State.dropOp_gone {a1 : Nat} {a2 : Nat} (h : Gone s) : Gone (State.dropOp s a1 a2) := by
  unfold State.dropOp
  exact State.onChan_gone h

theorem State.addOp_gone {a1 : Nat} {a2 : Op} (h : Gone s) : Gone (State.addOp s a1 a2) := by
  unfold State.addOp
  exact State.onChan_gone h

theorem State.insertOp_gone {a1 : Nat} {a2 : Nat} {a3 : Op} (h : Gone s) : Gone (State.insertOp s a1 a2 a3) := by
  unfold State.insertOp
  exact State.onChan_gone h

theorem State.addRecompute_gone {a1 : Nat} {a2 : Op} (h : Gone s) : Gone (State.addRecompute s a1 a2) := by
  unfold State.addRecompute
  exact State.onChan_gone h

theorem answerOp_gone {a0 : Op} {a1 : Outcome} {a2 : Line} (h : Gone s) : Gone (answerOp a0 a1 a2 s) := by
  unfold answerOp
  exact gone_ite (answer_gone h) h

theorem completeWrites_gone {a0 : Nat} {a1 : Nat} {a2 : Outcome} (h : Gone s) : Gone (completeWrites a0 a1 a2 s) := by
  unfold completeWrites
  exact gone_foldl (fun _ _ h1 => (gone_ite (State.onOp_gone (answerOp_gone h1)) h1)) h

theorem State.freeGillAt_gone {a1 : Nat} {a2 : Nat} (h : Gone s) : Gone (State.freeGillAt s a1 a2) := by
  unfold State.freeGillAt
  exact State.onChan_gone h

theorem State.dropWrites_gone {a1 : Nat} {a2 : Nat} (h : Gone s) : Gone (State.dropWrites s a1 a2) := by
  unfold State.dropWrites
  exact State.onChan_gone h

theorem startEviction_gone {a0 : Nat} {a1 : Nat} (h : Gone s) : Gone (startEviction a0 a1 s) := by
  unfold startEviction
  extract_lets x1
  split
  · split
    · exact h
    · extract_lets x2 x3 x4
      have h5 : Gone x4 := State.bump_gone (State.insertOp_gone h)
      exact State.note_gone (State.bump_gone h5)
  · exact h

theorem startEvictions_gone {a0 : Nat} (h : Gone s) : Gone (startEvictions a0 s) := by
  unfold startEvictions
  exact gone_foldl (fun _ _ h1 => (startEviction_gone h1)) h

-- the operations of Raster

theorem endGap_gone {a0 : GapKind} (h : Gone s) : Gone (endGap a0 s) := by
  unfold endGap
  extract_lets x1 x2 x3 x4 x5
  exact gone_ite (gone_mk h) h

theorem endGaps_gone (h : Gone s) : Gone (endGaps s) := by
  unfold endGaps
  exact endGap_gone (endGap_gone h)

theorem synFrame_gone (h : Gone s) : Gone (synFrame s) := gone_mk h

theorem enterNosync_gone (h : Gone s) : Gone (enterNosync s) := by
  unfold enterNosync
  extract_lets x1
  exact synFrame_gone (gone_mk h)

theorem sourceChanged_gone (h : Gone s) : Gone (sourceChanged s) := by
  unfold sourceChanged
  exact enterNosync_gone (endGaps_gone h)

theorem takeWord_gone {a0 : BitVec 64} (h : Gone s) : Gone (takeWord a0 s) := gone_mk h

theorem beginLine_gone {a0 : BitVec 16} {a1 : Bool} (h : Gone s) : Gone (beginLine a0 a1 s) := by
  unfold beginLine
  extract_lets x1 x2
  have h3 : Gone x1 := endGap_gone h
  exact gone_mk h3

theorem slip_gone (h : Gone s) : Gone (slip s) := by
  unfold slip
  exact gone_ite h (State.bump_gone h)

theorem lineWordSeen_gone (h : Gone s) : Gone (lineWordSeen s) := gone_mk h

theorem adopt_gone {a0 : Nat} (h : Gone s) : Gone (adopt a0 s) := gone_mk h

theorem accept_gone {a0 : Nat} (h : Gone s) : Gone (accept a0 s) := by
  unfold accept
  extract_lets x1 x2 x3 x4 x5
  have h6 : Gone x1 := adopt_gone h
  have h7 : Gone x3 := gone_mk h6
  apply gone_ite
  · exact event_gone (State.bump_gone (gone_mk h7))
  · apply gone_ite
    · exact gone_mk h6
    · apply gone_ite
      · exact adopt_gone h
      · split
        · exact gone_mk h
        · exact gone_ite (event_gone (State.bump_gone (adopt_gone h))) (gone_mk h)

theorem measure_gone {a0 : BitVec 24} {a1 : Nat} (h : Gone s) : Gone (measure a0 a1 s) := by
  unfold measure
  extract_lets x1 x2 x3
  have h4 : Gone x3 := gone_mk h
  apply gone_ite
  · exact h
  · clear_value x1
    split
    · extract_lets x5
      exact gone_ite (gone_ite (State.bump_gone h4) (accept_gone h4)) h4
    · exact h4

theorem lineWord_gone {a0 : BitVec 64} (h : Gone s) : Gone (lineWord a0 s) := by
  unfold lineWord
  extract_lets x1 x2 x3
  have h4 : Gone x2 := gone_ite h (slip_gone h)
  exact beginLine_gone (lineWordSeen_gone (gone_mk h4))

-- the operations of Load

theorem busRead_gone {a0 : LoadPhase} {a1 : Nat} {a2 : Nat} {a3 : Nat} {a4 : Nat} (h : Gone s) :
    Gone (busRead a0 a1 a2 a3 a4 s) := gone_mk h

theorem loadAttempt_gone {a0 : Nat} {a1 : Nat} (h : Gone s) : Gone (loadAttempt a0 a1 s) := by
  unfold loadAttempt
  extract_lets x1
  exact busRead_gone (gone_mk h)

theorem loadStart_gone (h : Gone s) : Gone (loadStart s) := by
  unfold loadStart
  exact loadAttempt_gone h

theorem loadFail_gone {a0 : Nat} (h : Gone s) : Gone (loadFail a0 s) := by
  unfold loadFail
  extract_lets x1 x2 x3
  have h4 : Gone x2 := gone_mk h
  exact gone_ite (loadAttempt_gone h4) (raise_gone (gone_mk h4))

theorem recordRead_gone {a0 : LoadPhase} {a1 : Nat} {a2 : Nat} (h : Gone s) : Gone (recordRead a0 a1 a2 s) := by
  unfold recordRead
  exact busRead_gone h

theorem passStart_gone {a0 : LoadPhase} {a1 : Nat} (h : Gone s) : Gone (passStart a0 a1 s) := by
  unfold passStart
  extract_lets x1 x2
  exact recordRead_gone (gone_mk h)

theorem recordValues_gone (h : Gone s) : Gone (recordValues s) := by
  unfold recordValues
  extract_lets x1 x2 x3 x4 x5 x6
  have h6 : Gone x6 := gone_of h rfl
  split
  · exact h6
  · exact gone_of (State.setTable_gone h6) rfl

-- the operations of Clocks

theorem State.onPll_gone {a1 : PllId} {a2 : Pll → Pll} (h : Gone s) : Gone (State.onPll s a1 a2) := by
  unfold State.onPll
  split
  · extract_lets x1
    exact gone_mk h
  · extract_lets x2
    exact gone_mk h

theorem startPll_gone {a0 : PllId} {a1 : PllWhy} {a2 : Nat} (h : Gone s) : Gone (startPll a0 a1 a2 s) := by
  unfold startPll
  exact State.onPll_gone h

theorem startAllPlls_gone (h : Gone s) : Gone (startAllPlls s) := by
  unfold startAllPlls
  extract_lets x1 x2 x3 x4 x5
  have h6 : Gone x2 := startPll_gone h
  have h7 : Gone x3 := gone_foldl (fun _ _ h8 => (startPll_gone (startPll_gone h8))) h6
  exact gone_mk h7

theorem dropBookings_gone {a0 : Work} (h : Gone s) : Gone (dropBookings a0 s) := gone_mk h

theorem unprelock_gone (h : Gone s) : Gone (unprelock s) := by
  unfold unprelock
  exact gone_foldl (fun _ _ h1 => (gone_foldl (fun _ _ h2 => (gone_ite (startPll_gone h2) h2)) h1)) h

theorem restSpares_gone (h : Gone s) : Gone (restSpares s) := by
  unfold restSpares
  exact gone_foldl (fun _ _ h1 => (gone_ite (State.onRanks_gone h1) h1)) h

theorem resumeChans_gone (h : Gone s) : Gone (resumeChans s) := by
  unfold resumeChans
  exact gone_ite (restSpares_gone (gone_foldl (fun _ _ h1 => (gone_ite h1 (State.onRanks_gone h1))) h)) h

theorem quadSwitch_gone {a0 : Nat} {a1 : ClkSrc} {a2 : SwWhy} (h : Gone s) : Gone (quadSwitch a0 a1 a2 s) := by
  unfold quadSwitch
  exact State.onQuadClk_gone h

theorem switchBack_gone (h : Gone s) : Gone (switchBack s) := by
  unfold switchBack
  apply gone_ite
  · refine gone_foldl (fun _ _ h5 => ?_) ?_
    · refine gone_foldl (fun _ _ h7 => ?_) ?_
      · extract_lets x8 x9
        have h10 : Gone x9 := State.onPll_gone h7
        exact gone_ite (quadSwitch_gone (startPll_gone h10)) h7
      · exact h5
    · exact h
  · exact h

theorem endPending_gone (h : Gone s) : Gone (endPending s) := by
  unfold endPending
  extract_lets x1 x2 x3
  have h4 : Gone x1 := dropBookings_gone h
  have h5 : Gone x3 := gone_mk h4
  exact State.setSt_gone h5

theorem abandonChange_gone (h : Gone s) : Gone (abandonChange s) := by
  unfold abandonChange
  exact gone_ite (unprelock_gone (State.bump_gone (endPending_gone (switchBack_gone (resumeChans_gone h))))) h

theorem losePrelock_gone (h : Gone s) : Gone (losePrelock s) := by
  unfold losePrelock
  exact gone_ite (abandonChange_gone h) h

theorem quadUnclocked_gone {a0 : Nat} (h : Gone s) : Gone (quadUnclocked a0 s) := by
  unfold quadUnclocked
  exact gone_foldl (fun _ _ h1 => (State.setSt_gone (State.setSt_gone (State.onChan_gone h1)))) h

theorem quadToSelfRefresh_gone {a0 : Nat} (h : Gone s) : Gone (quadToSelfRefresh a0 s) := by
  unfold quadToSelfRefresh
  exact gone_foldl (fun _ _ h1 => (gone_ite (State.onRanks_gone h1) h1)) h

theorem restQuad_gone {a0 : Nat} (h : Gone s) : Gone (restQuad a0 s) := by
  unfold restQuad
  exact quadToSelfRefresh_gone (State.onQuadClk_gone h)

theorem restartCk_gone {a0 : Nat} (h : Gone s) : Gone (restartCk a0 s) := by
  unfold restartCk
  exact gone_foldl (fun _ _ h1 => (State.onChan_gone h1)) h

theorem pllFailed_gone {a0 : PllId} (h : Gone s) : Gone (pllFailed a0 s) := by
  unfold pllFailed
  extract_lets x1 x2 x3 x4
  have h5 : Gone x2 := State.onPll_gone h
  have h6 : Gone x4 := raise_gone (gone_mk h5)
  split
  · clear_value x1
    split
    · exact raise_gone (gone_mk h5)
    · exact raise_gone h5
    · exact gone_foldl (fun _ _ h7 => (gone_ite h7 (restQuad_gone h7))) h6
  · extract_lets x8 x9
    have h10 : Gone x9 := raise_gone h5
    clear_value x1
    split
    · exact losePrelock_gone (raise_gone h5)
    · exact gone_ite (restQuad_gone (restartCk_gone (State.bump_gone (raise_gone h5)))) (raise_gone h5)
    · exact gone_ite (quadUnclocked_gone h10) h10
    · exact raise_gone h5
    · exact gone_ite (quadUnclocked_gone h10) h10

theorem attemptFailed_gone {a0 : PllId} (h : Gone s) : Gone (attemptFailed a0 s) := by
  unfold attemptFailed
  exact gone_ite (State.onPll_gone h) (pllFailed_gone h)

theorem coreSwitch_gone {a0 : CoreSw} (h : Gone s) : Gone (coreSwitch a0 s) := gone_mk h

theorem phyGood_gone {a0 : Nat} {a1 : Bool} (h : Gone s) : Gone (phyGood a0 a1 s) := by
  unfold phyGood
  extract_lets x1 x2 x3 x4
  have h5 : ∀ y0 y1, Gone y1 → Gone (x2 y0 y1) := by
    intro y0 y1 h5_1
    unfold x2
    exact State.onPll_gone h5_1
  have h6 : Gone x4 := State.onPll_gone h
  split
  · exact State.setBit_gone (h5 _ _ h)
  · exact h5 _ _ h
  · exact gone_ite (quadSwitch_gone (h5 _ _ h)) (h5 _ _ h)
  · apply gone_ite
    · exact h5 _ _ h
    · split
      · exact quadSwitch_gone (h5 _ _ h)
      · exact gone_ite (quadSwitch_gone (h5 _ _ h6)) (h5 _ _ h)
      · exact h5 _ _ h

theorem coreGood_gone (h : Gone s) : Gone (coreGood s) := by
  unfold coreGood
  extract_lets x1 x2
  have h3 : Gone x1 := coreSwitch_gone (State.onPll_gone h)
  exact gone_mk h3

theorem pllGood_gone {a0 : PllId} (h : Gone s) : Gone (pllGood a0 s) := by
  unfold pllGood
  split
  · exact coreGood_gone h
  · exact phyGood_gone h

theorem fallback_gone {a0 : Nat} {a1 : Bool} (h : Gone s) : Gone (fallback a0 a1 s) := by
  unfold fallback
  extract_lets x1 x2 x3 x4 x5
  have h6 : Gone x2 := State.bump_gone (raise_gone h)
  have h7 : Gone x3 := State.onPll_gone h6
  have h8 : Gone x4 := State.bump_gone (raise_gone h)
  have h9 : Gone x5 := State.onPll_gone h8
  exact gone_ite (quadSwitch_gone (State.onQuadClk_gone h7)) (quadSwitch_gone (State.onQuadClk_gone h9))

theorem coreTrip_gone (h : Gone s) : Gone (coreTrip s) := by
  unfold coreTrip
  extract_lets x1 x2 x3 x4
  have h5 : Gone x1 := State.onPll_gone h
  have h6 : Gone x2 := gone_ite (abandonChange_gone h5) h5
  have h7 : Gone x4 := coreSwitch_gone (gone_mk h6)
  exact raise_gone (State.bump_gone h7)

theorem trip_gone {a0 : PllId} (h : Gone s) : Gone (trip a0 s) := by
  unfold trip
  split
  · exact coreTrip_gone h
  · extract_lets x1 x2 x3
    have h4 : Gone x2 := State.bump_gone h
    have h5 : Gone x3 := State.onPll_gone h4
    clear_value x1
    split
    · exact fallback_gone h5
    · exact losePrelock_gone (raise_gone h5)
    · exact raise_gone h5

theorem restartPhy_gone {a0 : Nat} {a1 : Bool} (h : Gone s) : Gone (restartPhy a0 a1 s) := by
  unfold restartPhy
  extract_lets x1
  exact gone_ite (startPll_gone h) h

theorem restartCore_gone (h : Gone s) : Gone (restartCore s) := by
  unfold restartCore
  exact gone_ite (startPll_gone h) h

theorem showClkmon_gone (h : Gone s) : Gone (showClkmon s) := gone_mk h

-- the operations of Shaping

theorem loadShaper_gone {a0 : Nat} {a1 : Word × Word × Word} (h : Gone s) : Gone (loadShaper a0 a1 s) := by
  unfold loadShaper
  exact State.onPort_gone h

theorem release_gone {a0 : Nat} {a1 : Nat} {a2 : Nat} {a3 : Bool} (h : Gone s) : Gone (release a0 a1 a2 a3 s) := by
  unfold release
  extract_lets x1
  exact State.onPort_gone h

theorem shaperTest_gone {a0 : Nat} (h : Gone s) : Gone (shaperTest a0 s) := by
  unfold shaperTest
  extract_lets x1 x2
  split
  · exact h
  · extract_lets x3 x4 x5
    have h6 : Gone x4 := State.onPort_gone h
    have h7 : Gone x5 := State.onPort_gone h
    exact gone_ite (release_gone (State.onPort_gone h)) (gone_ite (release_gone h)
        (gone_ite (release_gone (State.onPort_gone h)) (gone_ite (release_gone (State.note_gone (State.bump_gone h6)))
        (State.note_gone (State.bump_gone h7)))))

theorem fireCalendar_gone (h : Gone s) : Gone (fireCalendar s) := by
  unfold fireCalendar
  refine gone_foldl (fun _ _ h2 => ?_) ?_
  · extract_lets x3
    exact gone_ite h2 (State.onPort_gone h2)
  · exact h

theorem reshape_gone {a0 : Nat} {a1 : Word × Word × Word} (h : Gone s) : Gone (reshape a0 a1 s) := by
  unfold reshape
  exact State.onPort_gone (loadShaper_gone h)

theorem rodPort_gone {a0 : Nat} (h : Gone s) : Gone (rodPort a0 s).1 := by
  unfold rodPort
  dsimp only
  split
  · exact reshape_gone h
  · split
    · exact reshape_gone (State.onPort_gone h)
    · exact State.onPort_gone h
  · exact State.onPort_gone h

theorem rodPorts_gone {l : List Nat} {acc : State × List Nat} (h : Gone acc.1) :
    Gone (l.foldl (fun acc i =>
      let r := rodPort i acc.1
      (r.1, if r.2 then acc.2 ++ [i] else acc.2)) acc).1 := by
  induction l generalizing acc with
  | nil => exact h
  | cons i l ih => exact ih (rodPort_gone h)

theorem rodWork_gone (h : Gone s) : Gone (rodWork s) := by
  unfold rodWork
  split
  rename_i t due heq
  have h1 := rodPorts_gone (l := shapedPorts) (acc := (s, [])) h
  rw [heq] at h1
  exact gone_foldl (fun _ _ h => shaperTest_gone (State.onPort_gone h)) (fireCalendar_gone h1)

theorem commitCalendar_gone (h : Gone s) : Gone (commitCalendar s) := by
  unfold commitCalendar
  extract_lets x1 x2
  have h3 : Gone x2 := gone_mk h
  exact State.bump_gone h3

theorem regate_gone {a0 : Nat} (h : Gone s) : Gone (regate a0 s) := by
  unfold regate
  extract_lets x1
  exact gone_ite (State.onPort_gone h) h

theorem commitGates_gone (h : Gone s) : Gone (commitGates s) := by
  unfold commitGates
  extract_lets x1 x2
  have h3 : Gone x2 := gone_mk h
  exact State.bump_gone (gone_foldl (fun _ _ h4 => (regate_gone h4)) h3)

theorem copyReg_gone {a0 a1 : Nat} (h : Gone s) : Gone (copyReg a0 a1 s) := by
  unfold copyReg
  exact gone_ite h (gone_mk h)

theorem calCopyStep_gone (h : Gone s) : Gone (calCopyStep s) := by
  unfold calCopyStep
  split
  · extract_lets x1 x2
    have h3 : Gone x1 := copyReg_gone h
    exact gone_ite (gone_mk h3) h
  · exact h

theorem copyGateVg_gone (h : Gone s) : Gone (copyGateVg s) := by
  unfold copyGateVg
  exact State.setSt_gone h

theorem gateCopyStep_gone (h : Gone s) : Gone (gateCopyStep s) := by
  unfold gateCopyStep
  split
  · extract_lets x1 x2
    have h3 : Gone x1 := gone_ite (copyReg_gone h) (gone_ite (copyGateVg_gone h) (copyReg_gone h))
    exact gone_ite (gone_mk h3) h
  · exact h

theorem startShaping_gone (h : Gone s) : Gone (startShaping s) := by
  unfold startShaping
  extract_lets x1 x2 x3 x4
  have h5 : Gone x1 := gone_foldl (fun _ _ h6 => (State.onPort_gone (loadShaper_gone h6))) h
  have h7 : Gone x2 := commitGates_gone (commitCalendar_gone h5)
  have h8 : Gone x4 := gone_mk h7
  exact fireCalendar_gone (State.setSt_gone h8)

end

end Sys2Proof.Machine
end

section
/-!
The shared operations of the cache, the lines and the intake keep the guard of the keys (O54), function by function.
-/

namespace Sys2Proof.Machine


section

variable {s : State}

-- the operations of Cache

theorem State.onWay_gone {a1 : Nat} {a2 : Nat} {a3 : Way → Way} (h : Gone s) : Gone (State.onWay s a1 a2 a3) := by
  unfold State.onWay
  exact State.onQuad_gone h

theorem State.writeback_gone {a1 : Nat} {a2 : Nat} {a3 : Line} {a4 : Bool} (h : Gone s) :
    Gone (State.writeback s a1 a2 a3 a4) := by
  unfold State.writeback
  extract_lets x1 x2
  exact State.note_gone (State.addOp_gone h)

theorem State.cleanWay_gone {a1 : Nat} {a2 : Nat} {a3 : Bool} (h : Gone s) : Gone (State.cleanWay s a1 a2 a3) := by
  unfold State.cleanWay
  extract_lets x1
  exact gone_ite (State.onWay_gone (State.writeback_gone h)) h

theorem State.onLane_gone {a1 : Nat} {a2 : Nat} {a3 : Lane → Lane} (h : Gone s) : Gone (State.onLane s a1 a2 a3) := by
  unfold State.onLane
  exact State.onQuad_gone h

theorem State.addFill_gone {a1 : OpKind} {a2 : Nat} {a3 : Nat} {a4 : Option Nat} {a5 : Option (Nat × Nat)} {a6 : Nat}
    (h : Gone s) :
    Gone (State.addFill s a1 a2 a3 a4 a5 a6) := by
  unfold State.addFill
  extract_lets x1
  exact State.addOp_gone h

theorem updateEntry_gone {a0 : Nat} {a1 : Nat} {a2 : Option Nat} {a3 : Entry} (h : Gone s) :
    Gone (updateEntry a0 a1 a2 a3 s) := by
  unfold updateEntry
  split
  · exact State.onWay_gone h
  · extract_lets x1
    exact State.addOp_gone h

theorem State.unpin_gone {a1 : Nat} {a2 : Nat} (h : Gone s) : Gone (State.unpin s a1 a2) := by
  unfold State.unpin
  exact State.onOp_gone h

theorem State.onEvac_gone {a1 : Evac → Evac} (h : Gone s) : Gone (State.onEvac s a1) := gone_mk h

theorem State.noteCreated_gone {a1 : Nat} {a2 : Nat} (h : Gone s) : Gone (State.noteCreated s a1 a2) := by
  unfold State.noteCreated
  exact gone_ite (State.onEvac_gone h) (State.onChan_gone h)

theorem dropCached_gone {a0 : Nat} (h : Gone s) : Gone (dropCached a0 s) := by
  unfold dropCached
  extract_lets x1 x2
  exact gone_ite (State.bump_gone (State.onQuad_gone h)) h

theorem flushCache_gone {a0 : Nat} (h : Gone s) : Gone (flushCache a0 s) := by
  unfold flushCache
  exact gone_foldl (fun _ _ h1 => (State.cleanWay_gone h1)) h

theorem clearPast_gone {a0 a1 : Nat} (h : Gone s) : Gone (clearPast a0 a1 s) := by
  induction a0 generalizing s with
  | zero => exact h
  | succ n ih =>
    unfold clearPast
    exact gone_ite (ih (State.setSt_gone (State.onChan_gone h))) h

theorem clearDone_gone {a0 : Nat} (h : Gone s) : Gone (clearDone a0 s) := by
  unfold clearDone
  exact gone_ite (State.setSt_gone (State.onChan_gone h)) h

theorem startClearing_gone {a0 : Nat} {a1 : Nat} (h : Gone s) : Gone (startClearing a0 a1 s) := by
  unfold startClearing
  extract_lets x1
  have h2 : Gone x1 := State.setSt_gone (State.setSt_gone h)
  exact clearDone_gone (State.onChan_gone h2)

theorem clearNext_gone {a0 : Nat} (h : Gone s) : Gone (clearNext a0 s) := by
  unfold clearNext
  extract_lets x1 x2 x3
  have h4 : Gone x2 := clearDone_gone (clearPast_gone h)
  apply gone_ite
  · exact h
  · split
    · exact h4
    · extract_lets x5 x6 x7 x8 x9
      have h10 : Gone x6 := State.onChan_gone h4
      exact gone_ite h4 (gone_ite h10 (State.note_gone (State.addOp_gone h10)))

theorem clearedLine_gone {a0 : Nat} {a1 : Nat} (h : Gone s) : Gone (clearedLine a0 a1 s) := by
  unfold clearedLine
  extract_lets x1 x2 x3 x4
  have h5 : Gone x4 := State.onChan_gone h
  exact clearDone_gone (clearPast_gone (State.setSt_gone h5))

-- the operations of Wear

theorem enterScruple_gone {a0 : Nat} {a1 : Nat} {a2 : Stamp} (h : Gone s) : Gone (enterScruple a0 a1 a2 s) := by
  unfold enterScruple
  extract_lets x1 x2 x3 x4
  have h5 : ∀ y0 y1, Gone (x4 y0 y1) := by
    intro y0 y1 
    unfold x4
    exact gone_mk h
  split
  · exact h5 _ _
  · split
    · exact h5 _ _
    · split
      · exact h5 _ _
      · exact State.bump_gone h

theorem scruple_gone {a0 : Nat} {a1 : Nat} (h : Gone s) : Gone (scruple a0 a1 s) := gone_mk h

theorem settleScruple_gone (h : Gone s) : Gone (settleScruple s) := by
  unfold settleScruple
  extract_lets x1
  exact gone_foldl (fun _ _ h2 => (enterScruple_gone h2)) (gone_mk h)

theorem reserveSpare_gone {a0 : Nat} (h : Gone s) : Gone (reserveSpare a0 s) := by
  unfold reserveSpare
  extract_lets x1
  split
  · extract_lets x2
    have h3 : Gone x2 := State.setSt_gone (State.onChan_gone h)
    exact gone_ite (State.onChan_gone (State.onChan_gone h)) (raise_gone h3)
  · exact raise_gone (State.onChan_gone h)

theorem becomeWearing_gone {a0 : Nat} {a1 : Nat} (h : Gone s) : Gone (becomeWearing a0 a1 s) := by
  unfold becomeWearing
  exact State.setSt_gone (State.onChan_gone h)

theorem wearTest_gone {a0 : Nat} (h : Gone s) : Gone (wearTest a0 s) := by
  unfold wearTest
  exact gone_ite h (gone_ite (becomeWearing_gone h) (gone_ite (becomeWearing_gone h) h))

theorem State.bump48_gone {a1 : Field} {a2 : Field} {a3 : Nat} (h : Gone s) : Gone (State.bump48 s a1 a2 a3) := by
  unfold State.bump48
  extract_lets x1
  exact State.tell_gone (State.setSt_gone (State.setSt_gone h))

theorem countFetch_gone {a0 : Nat} {a1 : Bool} (h : Gone s) : Gone (countFetch a0 a1 s) := by
  unfold countFetch
  extract_lets x1 x2 x3 x4
  have h5 : Gone x1 := State.bump48_gone h
  have h6 : Gone x3 := State.setSt_gone h5
  have h7 : Gone x4 := State.setSt_gone h6
  exact gone_ite h5 (gone_ite (State.setSt_gone h5) (State.setSt_gone (State.setSt_gone (State.setSt_gone h7))))

theorem transient_gone {a0 : Nat} {a1 : Nat} (h : Gone s) : Gone (transient a0 a1 s) := by
  unfold transient
  extract_lets x1 x2
  have h3 : Gone x1 := scruple_gone (State.bump_gone h)
  have h4 : Gone x2 := raise_gone h3
  exact gone_ite (wearTest_gone (State.bump_gone h4)) h4

theorem persistent_gone {a0 : Nat} {a1 : Nat} (h : Gone s) : Gone (persistent a0 a1 s) := by
  unfold persistent
  extract_lets x1
  have h2 : Gone x1 := raise_gone (State.bump_gone h)
  exact gone_ite (wearTest_gone (State.bump_gone h2)) h2

theorem peckSkipState_gone {a0 : Nat} (h : Gone s) : Gone (peckSkipState a0 s) := by
  unfold peckSkipState
  exact State.bump_gone h

theorem peckSkipHeld_gone {a0 : Nat} (h : Gone s) : Gone (peckSkipHeld a0 s) := by
  unfold peckSkipHeld
  exact State.bump_gone h

theorem peckChecked_gone {a0 : Nat} {a1 : Bool} {a2 : Bool} (h : Gone s) : Gone (peckChecked a0 a1 a2 s) := by
  unfold peckChecked
  extract_lets x1 x2
  have h3 : Gone x1 := State.bump_gone h
  have h4 : Gone x2 := gone_ite (State.bump_gone h3) h3
  exact gone_ite (State.bump_gone h4) h4

theorem peckPoisoned_gone {a0 : Nat} {a1 : Nat} {a2 : Nat} (h : Gone s) : Gone (peckPoisoned a0 a1 a2 s) := by
  unfold peckPoisoned
  extract_lets x1
  have h2 : Gone x1 := State.bump_gone (State.bump_gone h)
  exact gone_ite h2 (State.setSt_gone (State.setSt_gone (State.setSt_gone h2)))

theorem scrubDone_gone {a0 : Nat} (h : Gone s) : Gone (scrubDone a0 s) := by
  unfold scrubDone
  exact State.onQuad_gone h

-- the operations of Broker

theorem post_gone {a0 : GapKind} {a1 : Scope} {a2 : Work} {a3 a4 a6 : Nat} (h : Gone s) :
    Gone (post a0 a1 a2 a3 a4 s a6).2 := gone_mk h

theorem postBooking_gone {a0 : GapKind} {a1 : Scope} {a2 : Work} {a3 : Nat} {a4 : Nat} (h : Gone s) :
    Gone (postBooking a0 a1 a2 a3 a4 s) := by
  unfold postBooking
  exact post_gone h

theorem State.unpost_gone {a1 : Booking → Bool} (h : Gone s) : Gone (State.unpost s a1) := gone_mk h

-- the operations of Lines

theorem toSwap_gone (h : Gone s) : Gone (toSwap s) := by
  unfold toSwap
  split
  · exact h
  · exact postBooking_gone (State.onEvac_gone h)

theorem migrated_gone {a0 : Nat} (h : Gone s) : Gone (migrated a0 s) := by
  unfold migrated
  split
  · exact h
  · extract_lets x1 x2 x3
    have h4 : Gone x2 := State.setSt_gone h
    have h5 : Gone x3 := State.onEvac_gone h4
    exact gone_ite (toSwap_gone h5) h5

theorem rekeyed_gone {a0 : Nat} {a1 : Nat} (h : Gone s) : Gone (rekeyed a0 a1 s) := by
  unfold rekeyed
  extract_lets x1 x2
  exact State.setSt_gone (State.onChan_gone h)

theorem finishOp_gone {a0 : Nat} {a1 : Op} (h : Gone s) : Gone (finishOp a0 a1 s) := by
  unfold finishOp
  extract_lets x1
  have h2 : Gone x1 := State.dropOp_gone h
  split
  · exact scrubDone_gone h2
  · exact migrated_gone h2
  · exact rekeyed_gone h2
  · exact h2

theorem finishRead_gone {a0 : Nat} {a1 : Op} {a2 : Outcome} {a3 : Line} (h : Gone s) :
    Gone (finishRead a0 a1 a2 a3 s) := by
  unfold finishRead
  exact finishOp_gone (answerOp_gone h)

theorem mirror_gone {a0 : Nat} {a1 : Nat} {a2 : Op} {a3 : Line} {a4 : Entry} {a5 : Bool} (h : Gone s) :
    Gone (mirror a0 a1 a2 a3 a4 a5 s) := by
  unfold mirror
  extract_lets x1
  exact State.onOp_gone (State.onChan_gone h)

theorem mirrorDone_gone {a0 : Nat} {a1 : Nat} (h : Gone s) : Gone (mirrorDone a0 a1 s) := by
  unfold mirrorDone
  split
  · exact h
  · split
    · exact h
    · exact gone_ite h (gone_ite (finishOp_gone h) (State.onOp_gone h))

theorem handMirror_gone {a0 : Nat} (h : Gone s) : Gone (handMirror a0 s) := by
  unfold handMirror
  split
  · exact h
  · exact gone_ite h (addPerch_gone (State.onChan_gone h))

theorem dropMirrors_gone {a0 : Nat} (h : Gone s) : Gone (dropMirrors a0 s) := by
  unfold dropMirrors
  extract_lets x1
  exact State.onChan_gone h

theorem entryChange_gone {a0 : Nat} {a1 : Op} {a2 : Entry} (h : Gone s) : Gone (entryChange a0 a1 a2 s) := by
  unfold entryChange
  extract_lets x1
  have h2 : Gone x1 := State.unpin_gone (updateEntry_gone h)
  split
  · exact State.onOp_gone (mirror_gone h2)
  · exact finishOp_gone h2

theorem answerBehind_gone {a0 : Nat} {a1 : Nat} {a2 : Outcome} {a3 : Line} (h : Gone s) :
    Gone (answerBehind a0 a1 a2 a3 s) := by
  unfold answerBehind
  exact gone_foldl (fun _ _ h1 => (gone_ite (finishRead_gone h1) h1)) h

theorem fetchBehind_gone {a0 : Nat} {a1 : Nat} (h : Gone s) : Gone (fetchBehind a0 a1 s) := by
  unfold fetchBehind
  extract_lets x1
  exact State.onChan_gone h

theorem discardGill_gone {a0 : Nat} {a1 : Op} {a2 : Outcome} {a3 : LineState} (h : Gone s) :
    Gone (discardGill a0 a1 a2 a3 s) := by
  unfold discardGill
  extract_lets x1 x2
  have h3 : Gone x1 := State.bump_gone (completeWrites_gone h)
  have h4 : Gone x2 := by
    unfold x2
    split
    · exact State.freeGillAt_gone h3
    · exact h3
  exact answerBehind_gone (State.dropOp_gone (State.dropWrites_gone h4))

theorem salvageGill_gone {a0 : Nat} {a1 : Op} (h : Gone s) : Gone (salvageGill a0 a1 s) := by
  unfold salvageGill
  extract_lets x1 x2
  have h3 : Gone x1 := State.bump_gone (completeWrites_gone h)
  have h4 : Gone x2 := by
    unfold x2
    split
    · exact State.freeGillAt_gone h3
    · exact h3
  exact fetchBehind_gone (State.dropOp_gone (State.dropWrites_gone h4))

theorem mergeGill_gone {a0 : Nat} {a1 : Op} {a2 : Line} {a3 : Bool} (h : Gone s) : Gone (mergeGill a0 a1 a2 a3 s) := by
  unfold mergeGill
  split
  · exact State.dropOp_gone h
  · split
    · exact State.dropOp_gone h
    · extract_lets x1 x2 x3 x4
      have h5 : Gone x2 := State.onChan_gone h
      have h6 : Gone x3 := completeWrites_gone h5
      have h7 : Gone x4 := State.onOp_gone h6
      exact answerBehind_gone (State.dropOp_gone h7)

theorem serve_gone {a0 : Nat} {a1 : Nat} {a2 : Option Nat} {a3 : Entry} (h : Gone s) : Gone (serve a0 a1 a2 a3 s) := by
  unfold serve
  split
  · exact h
  · extract_lets x1 x2 x3 x4
    have h5 : Gone x3 := State.onOp_gone h
    split
    · exact gone_ite (finishRead_gone h5) h5
    · exact gone_ite (discardGill_gone h5) h5
    · exact gone_ite (finishOp_gone (peckSkipState_gone h5)) h5
    · apply gone_ite
      · split
        · exact State.onOp_gone (mirror_gone h5)
        · exact finishOp_gone h5
      · exact h5
    · exact gone_ite (finishOp_gone h5) (gone_ite (entryChange_gone h5) h5)
    · exact gone_ite (mirrorDone_gone (State.dropOp_gone (updateEntry_gone h5))) h5
    · exact h5

theorem serveWaiting_gone {a0 : Nat} {a1 : Nat} {a2 : Option Nat} {a3 : Line} (h : Gone s) :
    Gone (serveWaiting a0 a1 a2 a3 s) := by
  unfold serveWaiting
  exact gone_foldl (fun _ _ h1 => (gone_foldl (fun _ _ h2 => (gone_ite (serve_gone h2) h2)) h1)) h

theorem requeueWaiting_gone {a0 : Nat} {a1 : Nat} (h : Gone s) : Gone (requeueWaiting a0 a1 s) := by
  unfold requeueWaiting
  extract_lets x1
  exact gone_foldl (fun _ _ h2 => (State.onChan_gone h2)) h

theorem bypassAccess_gone {a0 : Nat} {a1 : Op} (h : Gone s) : Gone (bypassAccess a0 a1 s) := by
  unfold bypassAccess
  extract_lets x1 x2
  exact State.onLane_gone (State.addFill_gone h)

theorem takeWay_gone {a1 a2 a3 : Nat} {a4 : WaySt} {a5 : Bool} {a6 : Line} {w : Nat} {wb : Option (Nat × Nat)} {t : State}
    (h : Gone s) (e : s.takeWay a1 a2 a3 a4 a5 a6 = some (w, wb, t)) : Gone t := by
  unfold State.takeWay at e
  obtain ⟨⟨v, o⟩, -, e⟩ := Option.map_eq_some_iff.1 e
  injection e with e1 e2
  injection e2 with e2 e3
  subst e3
  apply State.onWay_gone
  cases o with
  | none => exact gone_ite (State.writeback_gone h) h
  | some r => exact State.onQuad_gone (gone_ite (State.writeback_gone h) h)

theorem createLine_gone {a0 a1 : Nat} {t : State} (h : Gone s) (e : createLine a0 a1 s = some t) : Gone t := by
  unfold createLine at e
  dsimp only at e
  split at e
  · cases e
  · split at e
    · injection e with e
      exact e ▸ State.noteCreated_gone (State.writeback_gone h)
    · obtain ⟨⟨w, wb, u⟩, hu, e⟩ := Option.map_eq_some_iff.1 e
      exact e ▸ State.noteCreated_gone (takeWay_gone h hu)

theorem missFill_gone {a0 : Nat} {a1 : Op} (h : Gone s) : Gone (missFill a0 a1 s) := by
  unfold missFill
  extract_lets x1 x2
  split
  · rename_i heq
    exact State.onLane_gone (State.onOp_gone (State.addFill_gone (takeWay_gone h heq)))
  · exact State.onLane_gone h

theorem lookupPresent_gone {a0 : Nat} {a1 : Op} (h : Gone s) : Gone (lookupPresent a0 a1 s) := by
  unfold lookupPresent
  extract_lets x1 x2
  split
  · extract_lets x3
    split
    · exact serve_gone h
    · exact serve_gone h
    · exact State.onOp_gone h
    · exact State.onOp_gone h
    · exact bypassAccess_gone (State.bump_gone h)
  · exact gone_ite (bypassAccess_gone h) (missFill_gone (State.note_gone (State.bump_gone h)))

theorem lookupAbsent_gone {a0 : Nat} {a1 : Op} (h : Gone s) : Gone (lookupAbsent a0 a1 s) := by
  unfold lookupAbsent
  split
  · exact finishRead_gone h
  · exact finishOp_gone (peckSkipState_gone h)
  · exact finishOp_gone h
  · exact serve_gone h
  · split
    · exact h
    · rename_i heq
      have h1 := createLine_gone h heq
      exact lookupPresent_gone (gone_ite (completeWrites_gone h1) h1)

theorem lookupOp_gone {a0 : Nat} {a1 : Op} (h : Gone s) : Gone (lookupOp a0 a1 s) := by
  unfold lookupOp
  exact gone_ite (lookupPresent_gone (gone_ite (completeWrites_gone h) h)) (lookupAbsent_gone h)

theorem laneStep_gone {a0 : Nat} {a1 : Nat} (h : Gone s) : Gone (laneStep a0 a1 s) := by
  unfold laneStep
  extract_lets x1 x2 x3
  have h4 : Gone x2 := State.onLane_gone h
  apply gone_ite
  · exact h
  · split
    · split
      · exact gone_ite (lookupPresent_gone (State.onLane_gone h4)) (missFill_gone h4)
      · exact State.onLane_gone h4
    · split
      · exact lookupOp_gone (State.onLane_gone h4)
      · exact h4

theorem preloadTest_gone {a0 a1 : Nat} (h : Gone s) : Gone (preloadTest a0 a1 s) := by
  unfold preloadTest
  extract_lets x1 x2 x3
  refine gone_ite h (gone_ite (State.bump_gone h) ?_)
  split
  · exact State.bump_gone h
  · rename_i heq
    exact State.onLane_gone (State.addFill_gone (takeWay_gone h heq))

theorem fillOver_gone {a0 : Nat} {a1 : Op} (h : Gone s) : Gone (fillOver a0 a1 s) := by
  unfold fillOver
  exact State.onLane_gone h

theorem startRecompute_gone {a0 : Nat} {a1 : Op} (h : Gone s) : Gone (startRecompute a0 a1 s) := by
  unfold startRecompute
  extract_lets x1 x2 x3 x4 x5 x6
  have h7 : Gone x3 := fillOver_gone h
  have h8 : Gone x4 := by
    unfold x4
    split
    · exact State.onOp_gone h7
    · exact State.onOp_gone (State.dropOp_gone h7)
    · exact State.onWay_gone (State.dropOp_gone h7)
    · exact State.dropOp_gone h7
  have h9 : Gone x6 := State.onQuad_gone h8
  refine gone_foldl (fun _ _ h11 => ?_) ?_
  · extract_lets x12 x13
    exact State.addRecompute_gone h11
  · exact h9

theorem install_gone {a0 : Nat} {a1 : Op} {a2 : Line} (h : Gone s) : Gone (install a0 a1 a2 s) := by
  unfold install
  extract_lets x1 x2 x3
  have h4 : Gone x2 := fillOver_gone h
  split
  · exact State.note_gone (State.onOp_gone h4)
  · split
    · exact serve_gone (State.dropOp_gone h4)
    · exact State.dropOp_gone h4
  · extract_lets x5 x6
    have h7 : Gone x6 := State.onWay_gone (State.dropOp_gone h4)
    exact serveWaiting_gone h7
  · exact State.dropOp_gone h4

theorem fillReturn_gone {a0 : Nat} {a1 : Op} {a2 : Line} (h : Gone s) : Gone (fillReturn a0 a1 a2 s) := by
  unfold fillReturn
  extract_lets x1 x2 x3
  have h4 : Gone x2 := gone_ite (raise_gone (State.bump_gone h)) h
  have h5 : Gone x3 := fillOver_gone (State.dropOp_gone h)
  apply gone_ite
  · exact install_gone h4
  · apply gone_ite
    · split
      · exact requeueWaiting_gone (State.bump_gone (State.onWay_gone h5))
      · exact h5
    · exact gone_ite (State.onOp_gone h) (startRecompute_gone h)

theorem State.writebackFirst_gone {a1 : Nat} {a2 : Nat} {a3 : Line} (h : Gone s) :
    Gone (State.writebackFirst s a1 a2 a3) := by
  unfold State.writebackFirst
  extract_lets x1 x2 x3 x4
  have h5 : Gone x4 := State.note_gone h
  split
  · exact State.insertOp_gone h5
  · exact State.addOp_gone h5

theorem rebuilt_gone {a0 : Nat} {a1 : Rebuild} (h : Gone s) : Gone (rebuilt a0 a1 s) := by
  unfold rebuilt
  extract_lets x1 x2 x3 x4 x5 x6
  have h7 : Gone x1 := raise_gone (State.bump_gone h)
  have h8 : Gone x2 := State.onQuad_gone h7
  have h9 : Gone x3 := State.onWay_gone h8
  have h10 : Gone x6 := gone_foldl (fun _ _ h11 => (State.dropOp_gone h11)) h8
  exact gone_ite (serveWaiting_gone h9) (serveWaiting_gone (State.writebackFirst_gone h10))

theorem goodLine_gone {a0 : Nat} {a1 : Op} {a2 : Line} {a3 : Line} {a4 : Bool} {a5 : Bool} {a6 : Bool} {a7 : Bool} (h : Gone s)
    :
    Gone (goodLine a0 a1 a2 a3 a4 a5 a6 a7 s) := by
  unfold goodLine
  split
  · exact finishRead_gone h
  · exact mergeGill_gone h
  · extract_lets x1
    have h2 : Gone x1 := peckChecked_gone h
    exact finishOp_gone (gone_ite h2 (updateEntry_gone h2))
  · split
    · exact State.onOp_gone (mirror_gone h)
    · exact finishOp_gone h
  · exact gone_ite (State.onOp_gone h) (finishOp_gone h)
  · exact finishOp_gone h

theorem badLine_gone {a0 : Nat} {a1 : Op} (h : Gone s) : Gone (badLine a0 a1 s) := by
  unfold badLine
  extract_lets x1 x2 x3 x4
  have h5 : Gone x2 := countFetch_gone (persistent_gone h)
  have h6 : Gone x3 := State.unpin_gone (updateEntry_gone h5)
  split
  · exact finishRead_gone h6
  · exact discardGill_gone h6
  · exact finishOp_gone (peckPoisoned_gone h6)
  · split
    · exact State.onOp_gone (mirror_gone h6)
    · exact finishOp_gone h6
  · exact finishOp_gone h6

theorem refetch_gone {a0 : Nat} {a1 : Nat} (h : Gone s) : Gone (refetch a0 a1 s) := by
  unfold refetch
  extract_lets x1
  exact State.onOp_gone h

theorem checkLine_gone {a0 : Nat} {a1 : Op} {a2 : Line} (h : Gone s) : Gone (checkLine a0 a1 a2 s) := by
  unfold checkLine
  extract_lets x1 x2 x3 x4
  have h5 : Gone x3 := countFetch_gone h
  have h6 : Gone x4 := State.bump_gone h5
  exact gone_ite (gone_ite (salvageGill_gone h6) (goodLine_gone h6))
      (gone_ite (goodLine_gone (countFetch_gone (gone_ite (transient_gone h) h)))
      (gone_ite (refetch_gone (State.onOp_gone h)) (gone_ite (State.onOp_gone h) (badLine_gone h))))

theorem recomputeRead_gone {a0 : Nat} {a1 : Nat} {a2 : Op} {a3 : Line} (h : Gone s) :
    Gone (recomputeRead a0 a1 a2 a3 s) := by
  unfold recomputeRead
  extract_lets x1 x2 x3 x4
  have h5 : Gone x4 := State.onQuad_gone h
  exact State.dropOp_gone h5

-- the operations of Engine

theorem bookStep_gone {a0 : Nat} {a1 : Nat} {a2 : Nat} (h : Gone s) : Gone (bookStep a0 a1 a2 s) := by
  unfold bookStep
  exact State.onCal_gone h

theorem zqDue_gone {a0 : Nat} {a1 : Nat} (h : Gone s) : Gone (zqDue a0 a1 s) := by
  unfold zqDue
  exact bookStep_gone (gone_ite h (State.onCal_gone h))

theorem cancelLatch_gone {a0 : Nat} {a1 : Nat} (h : Gone s) : Gone (cancelLatch a0 a1 s) := by
  unfold cancelLatch
  exact State.onCal_gone (State.onRank_gone h)

theorem State.takeSlot_gone {a1 : Nat} {a2 : Nat} (h : Gone s) : Gone (State.takeSlot s a1 a2) := by
  unfold State.takeSlot
  exact State.onChan_gone h

theorem State.onBank_gone {a1 : Nat} {a2 : Nat} {a3 : Nat} {a4 : Bank → Bank} (h : Gone s) :
    Gone (State.onBank s a1 a2 a3 a4) := by
  unfold State.onBank
  exact State.onRank_gone h

theorem raiseRaa_gone {a0 : Nat} {a1 : Nat} {a2 : Nat} (h : Gone s) : Gone (raiseRaa a0 a1 a2 s) := by
  unfold raiseRaa
  extract_lets x1 x2
  have h3 : Gone x1 := State.onBank_gone h
  exact gone_ite (gone_ite (State.setSt_gone h3) h3) h

theorem lowerRaa_gone {a0 : Nat} {a1 : Nat} {a2 : Nat} {a3 : List Nat} (h : Gone s) :
    Gone (lowerRaa a0 a1 a2 a3 s) := by
  unfold lowerRaa
  exact gone_ite (gone_foldl (fun _ _ h1 => (State.onBank_gone h1)) h) h

theorem issueAct_gone {a0 : Nat} {a1 : Place} {a2 : Nat} (h : Gone s) : Gone (issueAct a0 a1 a2 s) := by
  unfold issueAct
  extract_lets x1
  have h2 : Gone x1 := State.onRank_gone h
  exact State.note_gone (State.takeSlot_gone (raiseRaa_gone h2))

theorem hitBank_gone {a0 : Nat} {a1 : Op} {a2 : Bool} (h : Gone s) : Gone (hitBank a0 a1 a2 s) := by
  unfold hitBank
  extract_lets x1 x2 x3 x4 x5 x6 x7
  have h8 : Gone x4 := State.onBank_gone h
  have h9 : Gone x6 := State.onChan_gone h8
  have h10 : Gone x7 := gone_ite (State.note_gone h9) h9
  exact State.note_gone (State.takeSlot_gone h10)

theorem autoPrecharge_gone {a0 : Nat} {a1 : Op} {a2 : Bool} (h : Gone s) : Gone (autoPrecharge a0 a1 a2 s) := by
  unfold autoPrecharge
  extract_lets x1 x2 x3 x4
  exact gone_ite (State.note_gone (State.onBank_gone h)) h

theorem issueRd_gone {a0 : Nat} {a1 : Nat} (h : Gone s) : Gone (issueRd a0 a1 s) := by
  unfold issueRd
  split
  · exact h
  · extract_lets x1 x2 x3 x4 x5
    have h6 : Gone x1 := gone_ite (State.note_gone h) h
    have h7 : Gone x2 := hitBank_gone h6
    have h8 : Gone x5 := State.onOp_gone h7
    exact gone_ite (autoPrecharge_gone h8) h8

theorem sealWrite_gone {a0 : Nat} {a1 : Op} (h : Gone s) : Gone (sealWrite a0 a1 s) := by
  unfold sealWrite
  apply gone_ite
  · exact h
  · split
    · extract_lets x1 x2
      exact State.onOp_gone h
    · extract_lets x3
      exact State.onOp_gone h
    · exact h

theorem written_gone {a0 : Nat} {a1 : Op} (h : Gone s) : Gone (written a0 a1 s) := by
  unfold written
  extract_lets x1 x2
  have h3 : Gone x2 := State.onOp_gone (updateEntry_gone h)
  split
  · apply gone_ite
    · exact h
    · split
      · exact mirror_gone h3
      · exact h3
  · apply gone_ite
    · exact h
    · split
      · exact mirror_gone h3
      · exact h3
  · exact gone_ite (State.onOp_gone (updateEntry_gone h)) h
  · exact h

theorem issueWr_gone {a0 : Nat} {a1 : Nat} (h : Gone s) : Gone (issueWr a0 a1 s) := by
  unfold issueWr
  split
  · exact h
  · extract_lets x1 x2 x3 x4 x5 x6
    have h7 : Gone x1 := gone_ite (sealWrite_gone h) h
    have h8 : Gone x3 := hitBank_gone h7
    have h9 : Gone x4 := State.setBurst_gone h8
    have h10 : Gone x6 := State.onOp_gone h9
    exact gone_ite (written_gone (autoPrecharge_gone h10)) h10

theorem issuePre_gone {a0 : Nat} {a1 : Nat} {a2 : Nat} (h : Gone s) : Gone (issuePre a0 a1 a2 s) := by
  unfold issuePre
  exact State.note_gone (State.takeSlot_gone (State.onBank_gone h))

theorem countRefresh_gone {a0 : Nat} {a1 : Nat} {a2 : Bool} {a3 : Bool} (h : Gone s) :
    Gone (countRefresh a0 a1 a2 a3 s) := by
  unfold countRefresh
  extract_lets x1 x2 x3 x4
  have h5 : Gone x1 := gone_ite (State.bump_gone h) (gone_ite (State.bump_gone h) h)
  have h6 : Gone x2 := gone_ite h5 (State.note_gone h5)
  have h7 : Gone x3 := gone_ite (bookStep_gone (State.bump_gone (State.onCal_gone h6))) h6
  have h8 : Gone x4 := State.onRank_gone h7
  exact State.note_gone (State.takeSlot_gone h8)

theorem issueRefpb_gone {a0 : Nat} {a1 : Nat} {a2 : Nat} {a3 : Bool} (h : Gone s) :
    Gone (issueRefpb a0 a1 a2 a3 s) := by
  unfold issueRefpb
  extract_lets x1 x2 x3 x4
  have h5 : Gone x2 := countRefresh_gone h
  have h6 : Gone x3 := gone_foldl (fun _ _ h7 => (State.onBank_gone h7)) h5
  have h8 : Gone x4 := State.onRank_gone h6
  exact lowerRaa_gone h8

theorem issueRefab_gone {a0 : Nat} {a1 : Nat} {a2 : Bool} (h : Gone s) : Gone (issueRefab a0 a1 a2 s) := by
  unfold issueRefab
  extract_lets x1 x2
  have h3 : Gone x1 := countRefresh_gone h
  have h4 : Gone x2 := State.onRank_gone h3
  exact lowerRaa_gone h4

theorem issueRfm_gone {a0 : Nat} {a1 : Nat} {a2 : Nat} (h : Gone s) : Gone (issueRfm a0 a1 a2 s) := by
  unfold issueRfm
  extract_lets x1
  have h2 : Gone x1 := State.onBank_gone (State.bump_gone h)
  exact State.takeSlot_gone (lowerRaa_gone h2)

theorem startOsc_gone {a0 : Nat} (h : Gone s) : Gone (startOsc a0 s) := by
  unfold startOsc
  split
  · exact State.takeSlot_gone (State.onCal_gone h)
  · exact h

theorem recovered_gone {a0 : Nat} {a1 : Op} (h : Gone s) : Gone (recovered a0 a1 s) := by
  unfold recovered
  split
  · exact State.dropWrites_gone h
  · exact mirrorDone_gone (State.dropOp_gone h)
  · exact gone_ite (clearedLine_gone (State.dropOp_gone h)) (State.dropOp_gone h)
  · exact finishOp_gone h

theorem toWriteQueue_gone {a0 : Nat} {a1 : Nat} {a2 : Gill} {a3 : Op} (h : Gone s) :
    Gone (toWriteQueue a0 a1 a2 a3 s) := by
  unfold toWriteQueue
  extract_lets x1 x2
  have h3 : Gone x1 := gone_ite h (State.bump_gone h)
  exact State.freeGillAt_gone (State.onChan_gone h3)

-- the operations of Intake

theorem popHead_gone {a0 : Nat} {a1 : Nat} (h : Gone s) : Gone (popHead a0 a1 s) := by
  unfold popHead
  exact State.onChan_gone h

theorem grant_gone {a0 : Nat} {a1 : PerchLine} {a2 : Bool} (h : Gone s) : Gone (grant a0 a1 a2 s) := by
  unfold grant
  extract_lets x1 x2 x3 x4 x5 x6
  have h7 : Gone x3 := popHead_gone h
  have h8 : Gone x4 := State.onChan_gone h7
  have h9 : Gone x5 := State.bump_gone h8
  exact gone_ite (State.setSt_gone h9) h9

theorem promote_gone {a0 : Nat} (h : Gone s) : Gone (promote a0 s) := by
  unfold promote
  exact State.onChan_gone h

theorem endHold_gone {a0 : Nat} (h : Gone s) : Gone (endHold a0 s) := by
  unfold endHold
  exact State.onChan_gone h

theorem takeHold_gone {a0 : Nat} {a1 : Nat} (h : Gone s) : Gone (takeHold a0 a1 s) := by
  unfold takeHold
  exact gone_ite (State.onChan_gone h) h

theorem intakeDecides_gone {a0 : Nat} (h : Gone s) : Gone (decide_ a0 s) := by
  unfold decide_
  extract_lets x1 x2 x3 x4
  have h5 : ∀ y0 y1, Gone y1 → Gone (x3 y0 y1) := by
    intro y0 y1 h5_1
    unfold x3
    exact takeHold_gone (grant_gone h5_1)
  have h6 : ∀ y0, Gone y0 → Gone (x4 y0) := by
    intro y0 h6_0
    unfold x4
    split
    · exact h5 _ _ h6_0
    · exact h6_0
  split
  · exact h6 _ h
  · split
    · exact grant_gone (endHold_gone h)
    · split
      · exact gone_ite (grant_gone h) h
      · exact h6 _ (endHold_gone h)

theorem decided_gone {a0 : Nat} (h : Gone s) : Gone (decided a0 s) := by
  unfold decided
  exact gone_ite h (State.onChan_gone h)

theorem turnAway_gone {a0 a1 a2 : Nat} (h : Gone s) : Gone (turnAway a0 a1 a2 s) := by
  induction a0 generalizing s with
  | zero => exact h
  | succ n ih =>
    unfold turnAway
    split
    · exact h
    · split
      · exact ih (popHead_gone (answer_gone h))
      · exact h

theorem turnAwayAll_gone {a0 : Nat} (h : Gone s) : Gone (turnAwayAll a0 s) := by
  unfold turnAwayAll
  exact gone_foldl (fun _ _ h1 => (turnAway_gone h1)) h

theorem pressEviction_gone {a0 : Nat} (h : Gone s) : Gone (pressEviction a0 s) := by
  unfold pressEviction
  extract_lets x1 x2 x3 x4
  apply gone_ite
  · clear_value x4
    split
    · exact State.onChan_gone h
    · exact h
  · exact h

theorem wholeDone_gone {a0 : Nat} {a1 : Nat} {a2 : Nat} (h : Gone s) : Gone (wholeDone a0 a1 a2 s) := by
  unfold wholeDone
  apply gone_ite
  · exact completeWrites_gone h
  · split
    · rename_i heq
      have h1 := createLine_gone h heq
      exact completeWrites_gone h1
    · exact h

theorem readAhead_gone {a0 : Nat} {a1 : Nat} (h : Gone s) : Gone (readAhead a0 a1 s) := by
  unfold readAhead
  extract_lets x1
  exact State.onChan_gone h

theorem flushLine_gone {a0 : Nat} {a1 : Nat} {a2 : PerchLine} (h : Gone s) : Gone (flushLine a0 a1 a2 s) := by
  unfold flushLine
  exact gone_ite (State.onChan_gone h) h

theorem admitWrite_gone {a0 : Nat} {a1 : PerchLine} (h : Gone s) : Gone (admitWrite a0 a1 s) := by
  unfold admitWrite
  extract_lets x1 x2 x3 x4 x5
  apply gone_ite
  · exact answer_gone h
  · clear_value x3
    split
    · extract_lets x6 x7 x8
      have h9 : Gone x7 := State.onChan_gone h
      have h10 : Gone x8 := State.addOp_gone h9
      exact gone_ite (wholeDone_gone (readAhead_gone h10)) (flushLine_gone h10)
    · split
      · exact h
      · extract_lets x11 x12
        have h13 : Gone x11 := State.onChan_gone h
        have h14 : Gone x12 := State.addOp_gone h13
        exact gone_ite (wholeDone_gone h14) (flushLine_gone h14)

theorem admitRead_gone {a0 : Nat} {a1 : PerchLine} (h : Gone s) : Gone (admitRead a0 a1 s) := by
  unfold admitRead
  extract_lets x1 x2 x3
  split
  · split
    · exact answer_gone h
    · split
      · extract_lets x4
        have h5 : Gone x4 := State.onChan_gone h
        exact State.addOp_gone h5
      · exact State.addOp_gone h
  · exact gone_ite (answer_gone h) (State.addOp_gone h)

theorem admitWalk_gone {a0 : Nat} {a1 : PerchLine} {a2 : OpKind} (h : Gone s) : Gone (admitWalk a0 a1 a2 s) := by
  unfold admitWalk
  extract_lets x1 x2 x3
  have h4 : Gone x2 := by
    unfold x2
    split
    · exact State.onChan_gone h
    · exact h
  exact State.addOp_gone h4

theorem admitScrub_gone {a0 : Nat} {a1 : PerchLine} (h : Gone s) : Gone (admitScrub a0 a1 s) := by
  unfold admitScrub
  extract_lets x1 x2
  have h3 : Gone x1 := State.onQuad_gone h
  exact gone_ite (scrubDone_gone (peckSkipHeld_gone h3)) (gone_ite (scrubDone_gone (peckSkipState_gone h3))
      (State.addOp_gone h3))

theorem admitMirror_gone {a0 : Nat} {a1 : PerchLine} (h : Gone s) : Gone (admitMirror a0 a1 s) := by
  unfold admitMirror
  extract_lets x1 x2 x3
  apply gone_ite
  · exact State.addOp_gone h
  · split
    · exact h
    · exact State.addOp_gone (State.onChan_gone h)

theorem admitScratch_gone {a0 : Nat} {a1 : PerchLine} (h : Gone s) : Gone (admitScratch a0 a1 s) := by
  unfold admitScratch
  extract_lets x1
  exact gone_ite (State.addOp_gone h) (State.addOp_gone h)

theorem skidLine_gone (h : Gone s) : Gone (skidLine s) := by
  unfold skidLine
  split
  · exact h
  · extract_lets x1
    exact gone_ite (event_gone (gone_mk h)) (gone_mk h)

theorem countLine_gone {a0 : Nat} {a1 : PerchLine} (h : Gone s) : Gone (countLine a0 a1 s) := by
  unfold countLine
  extract_lets x1 x2 x3
  have h4 : Gone x1 := skidLine_gone h
  have h5 : Gone x2 := State.note_gone (State.note_gone (State.note_gone h4))
  exact gone_ite (gone_mk h5) h5

theorem admitLine_gone {a0 : Nat} {a1 : PerchLine} (h : Gone s) : Gone (admitLine a0 a1 s) := by
  unfold admitLine
  extract_lets x1 x2
  have h3 : Gone x1 := countLine_gone h
  have h4 : Gone x2 := by
    unfold x2
    split
    · exact gone_ite (admitWrite_gone h3) (admitRead_gone h3)
    · exact admitScrub_gone h3
    · exact admitWalk_gone h3
    · exact admitWalk_gone h3
    · exact admitMirror_gone h3
    · exact admitScratch_gone h3
  exact gone_ite (preloadTest_gone h4) h4

theorem refuseLine_gone {a0 : Nat} {a1 : PerchLine} {a2 : Outcome} (h : Gone s) : Gone (refuseLine a0 a1 a2 s) := by
  unfold refuseLine
  extract_lets x1
  have h2 : Gone x1 := by
    unfold x1
    split
    · exact State.onChan_gone h
    · exact h
  exact answer_gone h2

end

end Sys2Proof.Machine
end

section
/-!
The sequences of the channels keep the guard of the keys (O54), function by function.
-/

namespace Sys2Proof.Machine


section

variable {s : State}

-- the operations of Power

theorem riseDebt_gone {a0 : Nat} {a1 : Nat} (h : Gone s) : Gone (riseDebt a0 a1 s) := by
  unfold riseDebt
  extract_lets x1 x2
  have h3 : Gone x2 := State.onRank_gone h
  exact gone_ite (raise_gone (State.bump_gone h3)) h3

theorem applyClass_gone {a0 : Nat} {a1 : Nat} {a2 : Nat} (h : Gone s) : Gone (applyClass a0 a1 a2 s) := by
  unfold applyClass
  extract_lets x1 x2
  have h3 : Gone x2 := State.onRank_gone h
  exact gone_ite h3 (gone_ite (raise_gone h3) (gone_ite (raise_gone h3) h3))

theorem applyHeld_gone {a0 : Nat} {a1 : Nat} (h : Gone s) : Gone (applyHeld a0 a1 s) := by
  unfold applyHeld
  extract_lets x1
  split
  · exact h
  · exact State.onRank_gone (applyClass_gone h)

theorem readClass_gone {a0 : Nat} {a1 : Nat} {a2 : Nat} (h : Gone s) : Gone (readClass a0 a1 a2 s) := by
  unfold readClass
  extract_lets x1
  exact gone_ite (State.onRank_gone h) (gone_ite (State.onRank_gone h) (applyClass_gone h))

theorem issuePreab_gone {a0 : Nat} {a1 : Nat} (h : Gone s) : Gone (issuePreab a0 a1 s) := by
  unfold issuePreab
  extract_lets x1
  have h2 : Gone x1 := State.onRank_gone h
  exact State.note_gone (State.takeSlot_gone h2)

theorem sleepRank_gone {a0 : Nat} {a1 : Nat} {a2 : PowerSt} (h : Gone s) : Gone (sleepRank a0 a1 a2 s) := by
  unfold sleepRank
  extract_lets x1
  have h2 : Gone x1 := State.onRank_gone h
  exact State.takeSlot_gone (cancelLatch_gone h2)

theorem exitRank_gone {a0 : Nat} {a1 : Nat} (h : Gone s) : Gone (exitRank a0 a1 s) := by
  unfold exitRank
  extract_lets x1 x2 x3
  have h4 : Gone x3 := State.onRank_gone h
  exact State.takeSlot_gone h4

-- the operations of OpPoint

theorem startHandshake_gone {a0 : Nat} (h : Gone s) : Gone (startHandshake a0 s) := gone_mk h

theorem prelock_gone {a0 : Nat} {a1 : Pll → Bool} (h : Gone s) : Gone (prelock a0 a1 s) := by
  unfold prelock
  exact gone_foldl (fun _ _ h1 => (gone_ite (gone_foldl (fun _ _ h2 => (startPll_gone h2)) h1) h1)) h

theorem clearFsp_gone (h : Gone s) : Gone (clearFsp s) := by
  unfold clearFsp
  exact gone_foldl (fun _ _ h1 => (State.onRanks_gone h1)) h

theorem beginPending_gone {a0 : Nat} (h : Gone s) : Gone (beginPending a0 s) := by
  unfold beginPending
  extract_lets x1 x2
  have h3 : Gone x2 := gone_mk h
  exact prelock_gone (clearFsp_gone (State.setSt_gone h3))

theorem retarget_gone {a0 : Nat} (h : Gone s) : Gone (retarget a0 s) := by
  unfold retarget
  extract_lets x1 x2
  have h3 : Gone x2 := dropBookings_gone (gone_mk h)
  exact prelock_gone (clearFsp_gone (State.setSt_gone h3))

theorem requestOp_gone {a0 : Nat} (h : Gone s) : Gone (requestOp a0 s) := by
  unfold requestOp
  extract_lets x1
  exact gone_ite (gone_mk h) (gone_ite (gone_ite (unprelock_gone (endPending_gone h)) (gone_ite h (retarget_gone h)))
      (gone_ite (gone_mk h) (gone_ite (beginPending_gone h) (gone_mk h))))

theorem takeWant_gone (h : Gone s) : Gone (takeWant s) := by
  unfold takeWant
  apply gone_ite
  · exact h
  · split
    · exact gone_ite (requestOp_gone h) h
    · exact h

theorem tryPostOp_gone (h : Gone s) : Gone (tryPostOp s) := by
  unfold tryPostOp
  extract_lets x1 x2
  apply gone_ite
  · split
    · rename_i heq
      have h3 := congrArg Prod.snd heq ▸ post_gone h
      extract_lets x4
      exact gone_mk h3
  · exact h

theorem policy_gone (h : Gone s) : Gone (policy s) := by
  unfold policy
  apply gone_ite
  · exact h
  · split
    · exact h
    · extract_lets x1 x2 x3
      have h4 : Gone x3 := gone_mk h
      apply gone_ite
      · apply gone_ite
        · split
          · exact requestOp_gone h4
          · exact h4
        · exact h4
      · exact requestOp_gone (gone_mk h)

theorem opFrame_gone (h : Gone s) : Gone (opFrame s) := by
  unfold opFrame
  extract_lets x1 x2
  have h3 : Gone x1 := State.setSt_gone h
  exact policy_gone (gone_mk h3)

theorem opStep_gone {a0 : Nat} (h : Gone s) : Gone (opStep a0 s) := gone_mk h

theorem opStep2_gone (h : Gone s) : Gone (opStep2 s) := by
  unfold opStep2
  exact gone_foldl (fun _ _ h1 => (State.onRanks_gone h1)) (opStep_gone h)

theorem opGranted_gone (h : Gone s) : Gone (opGranted s) := by
  unfold opGranted
  extract_lets x1 x2 x3
  have h4 : Gone x2 := gone_mk h
  exact gone_ite (startHandshake_gone (opStep_gone h4)) (opStep2_gone h4)

theorem opStep3_gone (h : Gone s) : Gone (opStep3 s) := by
  unfold opStep3
  exact gone_foldl (fun _ _ h1 => (State.onRanks_gone h1)) (opStep_gone h)

theorem opStep4_gone (h : Gone s) : Gone (opStep4 s) := by
  unfold opStep4
  refine gone_foldl (fun _ _ h3 => ?_) ?_
  · refine gone_foldl (fun _ _ h5 => ?_) ?_
    · extract_lets x6 x7
      have h8 : Gone x7 := State.onPll_gone h5
      exact gone_ite (quadSwitch_gone (State.onPll_gone h8)) h5
    · exact h3
  · exact opStep_gone h

theorem initSet_gone {a0 : Nat} {a1 : Nat} (h : Gone s) : Gone (initSet a0 a1 s) := by
  unfold initSet
  extract_lets x1 x2 x3
  have h4 : Gone x3 := State.onCal_gone h
  exact gone_ite h (gone_foldl (fun _ _ h5 => (State.setSt_gone (State.setSt_gone h5))) h4)

theorem restartTracking_gone {a0 : Nat} (h : Gone s) : Gone (restartTracking a0 s) := by
  unfold restartTracking
  extract_lets x1 x2 x3
  exact State.onCal_gone h

theorem opDelays_gone {a0 : Nat} (h : Gone s) : Gone (opDelays a0 s) := by
  unfold opDelays
  extract_lets x1 x2
  have h3 : Gone x1 := cancelLatch_gone (cancelLatch_gone (restartTracking_gone (initSet_gone h)))
  have h4 : Gone x2 := State.setSt_gone h3
  exact State.unpost_gone h4

theorem uncount_gone {a0 : Nat} (h : Gone s) : Gone (uncount a0 s) := by
  unfold uncount
  exact State.onChan_gone h

theorem takePoint_gone {a0 : Nat} (h : Gone s) : Gone (takePoint a0 s) := by
  unfold takePoint
  exact State.onChan_gone (opDelays_gone h)

theorem tunePlls_gone {a0 : Nat} (h : Gone s) : Gone (tunePlls a0 s) := by
  unfold tunePlls
  exact gone_ite (gone_foldl (fun _ _ h1 => (State.onPll_gone h1)) h) h

theorem opStep5_gone (h : Gone s) : Gone (opStep5 s) := by
  unfold opStep5
  extract_lets x1 x2 x3
  have h4 : Gone x2 := showClkmon_gone (opStep_gone (gone_mk h))
  have h5 : Gone x3 := gone_foldl (fun _ _ h6 => (uncount_gone h6)) (gone_foldl (fun _ _ h7 => (tunePlls_gone h7)) h4)
  exact gone_foldl (fun _ _ h8 => (State.onRanks_gone (takePoint_gone h8))) h5

theorem leftPll_gone {a0 : Nat} {a1 : PllId} (h : Gone s) : Gone (leftPll a0 a1 s) := by
  unfold leftPll
  extract_lets x1
  exact gone_ite (startPll_gone h) (gone_ite (startPll_gone h) (gone_ite (State.onPll_gone h) h))

theorem opComplete_gone (h : Gone s) : Gone (opComplete s) := by
  unfold opComplete
  extract_lets x1 x2 x3 x4 x5 x6
  have h7 : Gone x2 := State.stamp_gone (State.bump_gone h)
  have h8 : Gone x3 := gone_foldl (fun _ _ h9 => (gone_foldl (fun _ _ h10 => (leftPll_gone h10)) h9)) h7
  have h11 : Gone x4 := gone_foldl (fun _ _ h12 => (applyHeld_gone h12)) h8
  have h13 : Gone x5 := gone_foldl (fun _ _ h14 => (State.onCal_gone h14)) h11
  have h15 : Gone x6 := restSpares_gone (endPending_gone h13)
  exact gone_ite (startHandshake_gone (opStep_gone h15)) h15

theorem settleOp_gone (h : Gone s) : Gone (settleOp s) := by
  unfold settleOp
  extract_lets x1 x2
  have h3 : Gone x2 := gone_mk h
  exact gone_ite h (gone_ite (gone_ite (opStep3_gone h) h) (gone_ite (gone_ite (opStep4_gone h) h)
      (gone_ite (gone_ite (opStep5_gone h) h) (gone_ite (gone_ite (opComplete_gone h) h)
      (gone_ite (gone_ite (startHandshake_gone h3) h3) (tryPostOp_gone (takeWant_gone h)))))))

theorem dsmStep_gone {a0 : Nat} (h : Gone s) : Gone (dsmStep a0 s) := gone_mk h

theorem settleDsm_gone (h : Gone s) : Gone (settleDsm s) := by
  unfold settleDsm
  extract_lets x1 x2 x3 x4
  have h5 : Gone x3 := gone_foldl (fun _ _ h6 => (State.onChan_gone h6)) h
  split
  · exact gone_ite h (gone_foldl (fun _ _ h7 => (State.onChan_gone h7)) (dsmStep_gone h))
  · exact gone_ite (gone_foldl (fun _ _ h8 => (flushCache_gone h8)) (dsmStep_gone h))
      (gone_foldl (fun _ _ h9 => (State.onChan_gone h9)) h)
  · exact gone_ite (gone_foldl (fun _ _ h10 => (State.onRanks_gone h10)) (dsmStep_gone h)) h
  · exact gone_ite (gone_mk h) h
  · exact gone_ite (gone_mk h5) h
  · exact h

theorem enterDsm_gone (h : Gone s) : Gone (enterDsm s) := by
  unfold enterDsm
  extract_lets x1
  exact gone_ite (settleDsm_gone (gone_mk h)) h

theorem exitDsm_gone (h : Gone s) : Gone (exitDsm s) := by
  unfold exitDsm
  extract_lets x1
  exact gone_ite (gone_foldl (fun _ _ h2 => (State.onRanks_gone h2)) (gone_mk h)) h

theorem writePin_gone {a0 : Bool} {a1 : Nat} (h : Gone s) : Gone (writePin a0 a1 s) := by
  unfold writePin
  extract_lets x1 x2 x3
  have h4 : Gone x2 := State.setCf_gone (State.setCf_gone h)
  apply gone_ite
  · exact gone_ite (gone_mk h4) h4
  · split
    · exact requestOp_gone h4
    · exact h4

-- the operations of Scrub

theorem State.onScrub_gone {a1 : Nat} {a2 : ScrubPass → ScrubPass} (h : Gone s) : Gone (State.onScrub s a1 a2) := by
  unfold State.onScrub
  exact State.onQuad_gone h

theorem dropScrubLines_gone {a0 : Nat} (h : Gone s) : Gone (dropScrubLines a0 s) := by
  unfold dropScrubLines
  exact State.onChan_gone h

theorem clearPeck_gone {a0 : Nat} (h : Gone s) : Gone (clearPeck a0 s) :=
  gone_mk h

theorem endScrub_gone {a0 : Nat} {a1 : Bool} (h : Gone s) : Gone (endScrub a0 a1 s) := by
  unfold endScrub
  extract_lets x1 x2 x3
  have h4 : Gone x1 := State.stamp_gone h
  have h5 : Gone x2 := State.setSt_gone (State.setSt_gone h4)
  have h6 : Gone x3 := State.setSt_gone h5
  exact event_gone (State.onScrub_gone h6)

theorem startScrub_gone {a0 : Nat} (h : Gone s) : Gone (startScrub a0 s) := by
  unfold startScrub
  extract_lets x1 x2 x3 x4 x5 x6 x7 x8 x9
  have h10 : Gone x4 := State.stamp_gone (clearPeck_gone h)
  have h11 : Gone x5 := State.setSt_gone (State.setSt_gone h10)
  have h12 : Gone x8 := State.onScrub_gone h11
  have h13 : Gone x9 := gone_foldl (fun _ _ h14 => (State.setSt_gone h14)) h12
  exact gone_ite h (gone_ite (endScrub_gone h13) h13)

theorem abortScrub_gone {a0 : Nat} {a1 : Nat} (h : Gone s) : Gone (abortScrub a0 a1 s) := by
  unfold abortScrub
  extract_lets x1
  have h2 : Gone x1 := State.setSt_gone h
  apply gone_ite
  · exact h
  · refine gone_foldl (fun _ _ h5 => ?_) ?_
    · extract_lets x6
      exact State.onScrub_gone (dropScrubLines_gone h5)
    · exact State.onScrub_gone h2

theorem scrubRetired_gone {a0 : Nat} (h : Gone s) : Gone (scrubRetired a0 s) := by
  unfold scrubRetired
  extract_lets x1
  split
  · exact h
  · extract_lets x2 x3 x4
    have h5 : Gone x4 := State.setSt_gone (State.bump_gone h)
    exact gone_ite h (State.onScrub_gone (dropScrubLines_gone h5))

theorem handMaint_gone {a0 : Nat} (h : Gone s) : Gone (handMaint a0 s) := by
  unfold handMaint
  extract_lets x1 x2 x3 x4 x5 x6
  have h7 : ∀ y0 y1 y2, Gone y2 → Gone (x2 y0 y1 y2) := by
    intro y0 y1 y2 h7_2
    unfold x2
    exact addPerch_gone h7_2
  have h8 : ∀ y0, Gone y0 → Gone (x3 y0) := by
    intro y0 h8_0
    unfold x3
    split
    · exact h8_0
    · extract_lets x9
      apply gone_ite
      · exact h8_0
      · split
        · exact h8_0
        · extract_lets x10 x11
          have h12 : Gone x10 := State.setSt_gone (h7 _ _ _ h8_0)
          have h13 : Gone x11 := State.onScrub_gone h12
          exact State.onChan_gone h13
  have h14 : ∀ y0, Gone y0 → Gone (x4 y0) := by
    intro y0 h14_0
    unfold x4
    exact gone_ite (State.onChan_gone (h7 _ _ _ h14_0)) (h8 _ h14_0)
  apply gone_ite
  · exact h
  · split
    · extract_lets x15
      have h16 : Gone x15 := State.onEvac_gone (h7 _ _ _ h)
      exact gone_ite (State.onChan_gone h16) (h14 _ h)
    · exact h14 _ h

theorem idlePermit_gone {a0 : Nat} (h : Gone s) : Gone (idlePermit a0 s) := by
  unfold idlePermit
  exact gone_foldl (fun _ _ h1 => (gone_ite (State.onChan_gone h1) h1)) h

theorem bookedPermit_gone {a0 : Nat} {a1 : Duty} {a2 : Nat} (h : Gone s) : Gone (bookedPermit a0 a1 a2 s) := by
  unfold bookedPermit
  exact State.onChan_gone h

theorem endPermit_gone {a0 : Nat} {a1 : Duty} (h : Gone s) : Gone (endPermit a0 a1 s) := by
  unfold endPermit
  exact State.onChan_gone h

-- the operations of Evac

theorem replaceInTable_gone {a0 : Nat} {a1 : Nat} (h : Gone s) : Gone (replaceInTable a0 a1 s) := by
  unfold replaceInTable
  extract_lets x1
  exact State.setTable_gone h

theorem retireInTable_gone {a0 : Nat} (h : Gone s) : Gone (retireInTable a0 s) := by
  unfold retireInTable
  exact State.setTable_gone h

theorem retire_gone {a0 : Nat} (h : Gone s) : Gone (retire a0 s) := by
  unfold retire
  extract_lets x1 x2 x3 x4
  have h5 : Gone x1 := scrubRetired_gone h
  have h6 : Gone x2 := State.stamp_gone (State.setSt_gone h5)
  have h7 : Gone x3 := State.unpost_gone h6
  have h8 : Gone x4 := State.onCal_gone h7
  exact State.onChan_gone (State.onRanks_gone h8)

theorem unGrant_gone {a0 : Nat} (h : Gone s) : Gone (unGrant a0 s) := by
  unfold unGrant
  exact State.onChan_gone h

theorem movePerch_gone {a0 : Nat} {a1 : Nat} (h : Gone s) : Gone (movePerch a0 a1 s) := by
  unfold movePerch
  extract_lets x1 x2
  have h3 : Gone x2 := State.onChan_gone h
  exact State.onChan_gone h3

theorem promoteSpare_gone {a0 : Nat} {a1 : Nat} (h : Gone s) : Gone (promoteSpare a0 a1 s) := by
  unfold promoteSpare
  extract_lets x1 x2
  have h3 : Gone x1 := State.setPartner_gone (State.setPartner_gone h)
  have h4 : Gone x2 := State.setSt_gone h3
  exact State.onChan_gone h4

theorem startEvac_gone {a0 : Nat} {a1 : Nat} (h : Gone s) : Gone (startEvac a0 a1 s) := by
  unfold startEvac
  extract_lets x1 x2 x3 x4 x5
  have h6 : Gone x1 := State.setPartner_gone (State.setPartner_gone h)
  have h7 : Gone x2 := State.setSt_gone (State.setSt_gone h6)
  have h8 : Gone x3 := State.onChan_gone h7
  have h9 : Gone x4 := State.onRanks_gone h8
  exact gone_mk h9

theorem postSwap_gone (h : Gone s) : Gone (postSwap s) := by
  unfold postSwap
  split
  · exact gone_ite h (postBooking_gone h)
  · exact h

theorem settleEvac_gone (h : Gone s) : Gone (settleEvac s) := by
  unfold settleEvac
  split
  · exact gone_ite (gone_ite (toSwap_gone h) (State.onEvac_gone h)) h
  · exact h

theorem beginSwap_gone (h : Gone s) : Gone (beginSwap s) := by
  unfold beginSwap
  split
  · exact gone_ite (State.onChan_gone (State.onEvac_gone h)) h
  · exact h

theorem swapChannels_gone {a0 : Nat} {a1 : Nat} (h : Gone s) : Gone (swapChannels a0 a1 s) := by
  unfold swapChannels
  extract_lets x1 x2 x3 x4 x5 x6
  have h7 : Gone x1 := scrubRetired_gone h
  have h8 : Gone x3 := gone_mk h7
  have h9 : Gone x4 := dropCached_gone (movePerch_gone (replaceInTable_gone h8))
  have h10 : Gone x5 := State.setSt_gone (State.setSt_gone h9)
  have h11 : Gone x6 := State.setSt_gone (State.setSt_gone h10)
  exact event_gone (retire_gone (promoteSpare_gone h11))

theorem abandonEvac_gone (h : Gone s) : Gone (abandonEvac s) := by
  unfold abandonEvac
  split
  · exact h
  · extract_lets x1 x2 x3 x4 x5
    have h6 : Gone x2 := gone_mk h
    have h7 : Gone x3 := State.unpost_gone h6
    have h8 : Gone x4 := State.onChan_gone (State.setPartner_gone (State.setPartner_gone h7))
    have h9 : Gone x5 := dropMirrors_gone h8
    exact gone_foldl (fun _ _ h10 => (gone_ite (State.dropOp_gone h10) (gone_ite (finishOp_gone h10) (State.onOp_gone h10)))) h9

theorem moveNext_gone {a0 : Nat} {a1 : Nat} (h : Gone s) : Gone (moveNext a0 a1 s) := by
  unfold moveNext
  split
  · extract_lets x1 x2
    have h3 : Gone x2 := State.onChan_gone (State.onChan_gone h)
    exact gone_foldl (fun _ _ h4 => (State.addOp_gone h4)) h3
  · exact h

theorem loseMoving_gone {a0 : Nat} (h : Gone s) : Gone (loseMoving a0 s) := by
  unfold loseMoving
  refine gone_foldl (fun _ _ h2 => ?_) ?_
  · exact gone_ite h2 (answerOp_gone h2)
  · exact State.onChan_gone h

theorem abandonOps_gone {a0 : Nat} {a1 : Option Nat} (h : Gone s) : Gone (abandonOps a0 a1 s) := by
  unfold abandonOps
  extract_lets x1 x2 x3 x4 x5 x6
  have h7 : Gone x3 := gone_foldl (fun _ _ h8 => (gone_ite (answerOp_gone h8) h8)) h
  have h9 : Gone x6 := State.onQuad_gone h7
  exact State.onChan_gone h9

theorem hardSpare_gone {a0 : Nat} (h : Gone s) : Gone (hardSpare a0 s) := by
  unfold hardSpare
  split
  · exact raise_gone (State.onChan_gone h)
  · extract_lets x1 x2
    have h3 : Gone x2 := gone_ite h (State.onRanks_gone h)
    exact gone_ite (State.onChan_gone h) (State.onChan_gone h3)

theorem hardFailure_gone {a0 : Nat} {a1 : Nat} (h : Gone s) : Gone (hardFailure a0 a1 s) := by
  unfold hardFailure
  extract_lets x1 x2 x3 x4 x5
  have h6 : Gone x3 := State.setSt_gone h
  have h7 : Gone x4 := retire_gone (unGrant_gone h6)
  have h8 : Gone x5 := State.onChan_gone h7
  exact dropCached_gone (abandonOps_gone h8)

theorem hardReplace_gone {a0 : Nat} {a1 : Nat} (h : Gone s) : Gone (hardReplace a0 a1 s) := by
  unfold hardReplace
  extract_lets x1 x2 x3 x4 x5 x6 x7 x8
  have h9 : Gone x3 := State.unpost_gone h
  have h10 : Gone x4 := gone_ite (gone_mk h9) h
  have h11 : Gone x5 := movePerch_gone (replaceInTable_gone h10)
  have h12 : Gone x6 := State.setSt_gone (State.setSt_gone h11)
  have h13 : Gone x7 := promoteSpare_gone h12
  have h14 : Gone x8 := State.onChan_gone h13
  exact raise_gone (startClearing_gone h14)

theorem settleHard_gone {a0 : Nat} (h : Gone s) : Gone (settleHard a0 s) := by
  unfold settleHard
  extract_lets x1
  apply gone_ite
  · split
    · exact gone_ite (moveNext_gone h) (gone_ite (hardSpare_gone h) h)
    · exact hardSpare_gone (loseMoving_gone h)
  · apply gone_ite
    · split
      · exact gone_ite (hardReplace_gone h) h
      · exact h
    · exact h

theorem spareFailed_gone {a0 a1 : Nat} (h : Gone s) : Gone (spareFailed a0 a1 s) := by
  unfold spareFailed
  extract_lets x1 x2 x3 x4 x5 x6
  have h8 : Gone x3 := State.setSt_gone h
  have h9 : Gone x4 := retire_gone (retireInTable_gone (abandonOps_gone h8))
  have h10 : Gone x5 := raise_gone (dropCached_gone h9)
  have h11 : Gone x6 := by
    unfold x6
    clear_value x2
    cases x2 with
    | none => exact h10
    | some c => exact gone_ite (gone_mk h10) (reserveSpare_gone (abandonEvac_gone h10))
  clear_value x6 x1
  cases x1 with
  | none => exact h11
  | some c =>
    have h13 := State.setSt_gone (a1 := CH_WEARSTAT_RESERVED_SP c) (a2 := 0)
      (State.onChan_gone (a1 := c) (a2 := fun x => { x with reserve := none }) h11)
    exact gone_ite (hardSpare_gone h13) (gone_ite (reserveSpare_gone h13) h13)

theorem leaveTest_gone {a0 : Nat} (h : Gone s) : Gone (leaveTest a0 s) := by
  unfold leaveTest
  extract_lets x1
  exact gone_ite h (State.onChan_gone (State.setBits_gone h))

theorem retrainFailed_gone {a0 : Nat} (h : Gone s) : Gone (retrainFailed a0 s) := by
  unfold retrainFailed
  extract_lets x1
  have h2 : Gone x1 := leaveTest_gone h
  exact gone_ite (spareFailed_gone h2) (gone_ite (hardFailure_gone h2) h2)

theorem startupReplace_gone {a0 : Nat} (h : Gone s) : Gone (startupReplace a0 s) := by
  unfold startupReplace
  extract_lets x1
  have h2 : Gone x1 := State.setSt_gone h
  split
  · exact raise_gone (retire_gone (replaceInTable_gone (State.onChan_gone h2)))
  · exact raise_gone (retire_gone h2)

theorem startupRetirement_gone (h : Gone s) : Gone (startupRetirement s) := by
  unfold startupRetirement
  extract_lets x1 x2 x3
  have h4 : Gone x1 := by
    unfold x1
    refine gone_foldl (fun _ _ h7 => ?_) ?_
    · exact gone_ite (startupReplace_gone h7) h7
    · exact h
  have h8 : Gone x2 := by
    unfold x2
    refine gone_foldl (fun _ _ h11 => ?_) ?_
    · extract_lets x12
      have h13 : Gone x12 := State.onChan_gone (State.setSt_gone h11)
      exact gone_ite (raise_gone (retire_gone (retireInTable_gone h13))) h11
    · exact h4
  have h14 : Gone x3 := gone_foldl (fun _ _ h15 => (gone_ite (State.onChan_gone h15) h15)) h8
  exact restSpares_gone (gone_foldl (fun _ _ h16 => (gone_ite (State.onChan_gone h16) h16)) h14)

theorem requestEvac_gone {a0 : Nat} (h : Gone s) : Gone (requestEvac a0 s) := by
  unfold requestEvac
  extract_lets x1
  have h2 : Gone x1 := State.setCf_gone h
  exact gone_ite (becomeWearing_gone h2) (State.setBits_gone h2)

-- the operations of Calib

theorem State.onBit_gone {a1 : Nat} {a2 : Nat} {a3 : BitCal → BitCal} (h : Gone s) : Gone (State.onBit s a1 a2 a3) := by
  unfold State.onBit
  exact State.onCal_gone h

theorem requestRetrain_gone {a0 : Nat} {a1 : Nat} (h : Gone s) : Gone (requestRetrain a0 a1 s) := by
  unfold requestRetrain
  extract_lets x1
  exact gone_ite h (bookStep_gone (State.onCal_gone h))

theorem limitReached_gone {a0 : Nat} (h : Gone s) : Gone (limitReached a0 s) := by
  unfold limitReached
  exact requestRetrain_gone (State.bump_gone h)

theorem stampCal_gone {a0 : Nat} (h : Gone s) : Gone (stampCal a0 s) := by
  unfold stampCal
  exact State.stamp_gone h

theorem stepOverrun_gone {a0 : Nat} (h : Gone s) : Gone (stepOverrun a0 s) := by
  unfold stepOverrun
  split
  · exact h
  · split
    · exact h
    · extract_lets x1 x2 x3 x4
      exact gone_ite h (gone_mk h)

theorem stepDone_gone {a0 : Nat} (h : Gone s) : Gone (stepDone a0 s) := by
  unfold stepDone
  extract_lets x1
  have h2 : Gone x1 := State.onCal_gone (stepOverrun_gone h)
  exact stampCal_gone (State.bump_gone h2)

theorem startJob_gone {a0 : Nat} {a1 : CalJob} (h : Gone s) : Gone (startJob a0 a1 s) := by
  unfold startJob
  extract_lets x1
  exact State.onCal_gone (State.onChan_gone h)

theorem beginStep_gone {a0 : Nat} {a1 : Nat} {a2 : Nat} (h : Gone s) : Gone (beginStep a0 a1 a2 s) := by
  unfold beginStep
  extract_lets x1 x2 x3 x4
  have h5 : Gone x2 := State.onCal_gone h
  split
  · exact State.setSt_gone (startJob_gone h5)
  · exact State.onCal_gone h5
  · exact State.bump_gone (State.onCal_gone h5)
  · exact h5

theorem handScratch_gone {a0 : Nat} (h : Gone s) : Gone (handScratch a0 s) := by
  unfold handScratch
  apply gone_ite
  · exact h
  · split
    · exact addPerch_gone (State.onCal_gone h)
    · exact addPerch_gone (State.onCal_gone h)
    · exact h

theorem dropScratch_gone {a0 : Nat} (h : Gone s) : Gone (dropScratch a0 s) := by
  unfold dropScratch
  exact State.onChan_gone (State.onCal_gone h)

theorem settleFill_gone {a0 : Nat} (h : Gone s) : Gone (settleFill a0 s) := by
  unfold settleFill
  split
  · exact gone_ite (stepDone_gone h) h
  · exact h

theorem abandonStep_gone {a0 : Nat} (h : Gone s) : Gone (abandonStep a0 s) := by
  unfold abandonStep
  split
  · exact h
  · extract_lets x1
    have h2 : Gone x1 := bookStep_gone (State.onCal_gone h)
    exact dropScratch_gone (State.onChan_gone h2)

theorem discardWindows_gone {a0 : Nat} (h : Gone s) : Gone (discardWindows a0 s) := by
  unfold discardWindows
  extract_lets x1
  exact State.onCal_gone h

theorem startSweep_gone {a0 : Nat} (h : Gone s) : Gone (startSweep a0 s) := by
  unfold startSweep
  extract_lets x1 x2
  exact gone_ite h (State.onCal_gone h)

theorem wearMargin_gone {a0 : Nat} {a1 : Nat} {a2 : Nat} {a3 : Nat} {a4 : Nat} {a5 : Nat → State → State}
    (k5 : ∀ y0 y1, Gone y1 → Gone (a5 y0 y1)) (h : Gone s) :
    Gone (wearMargin a0 a1 a2 a3 a4 a5 s) := by
  unfold wearMargin
  extract_lets x1
  have h2 : Gone x1 := k5 _ _ h
  exact gone_ite h (gone_ite (k5 _ _ h) (gone_ite (becomeWearing_gone h2) h2))

theorem showEye_gone {a0 : Nat} (h : Gone s) : Gone (showEye a0 s) := by
  unfold showEye
  split
  · exact h
  · extract_lets x1 x2
    have h3 : Gone x1 := State.setSt_gone (State.setSt_gone (State.setSt_gone h))
    have h4 : Gone x2 := stampCal_gone (State.bump_gone (State.setSt_gone h3))
    exact wearMargin_gone (fun _ _ h5 => (State.onCal_gone h5)) h4

theorem showWeye_gone {a0 : Nat} (h : Gone s) : Gone (showWeye a0 s) := by
  unfold showWeye
  split
  · exact h
  · exact State.setSt_gone h

theorem settleSweep_gone {a0 : Nat} (h : Gone s) : Gone (settleSweep a0 s) := by
  unfold settleSweep
  exact gone_ite (showEye_gone (State.onCal_gone h)) h

theorem closeSweep_gone {a0 : Nat} {a1 : Nat} {a2 : Nat} {a3 : Nat} {a4 : Nat} (h : Gone s) :
    Gone (closeSweep a0 a1 a2 a3 a4 s) := by
  unfold closeSweep
  extract_lets x1 x2 x3 x4
  clear_value x3
  clear_value x4
  split
  · extract_lets x5 x6
    have h7 : Gone x5 := State.setSt_gone (State.setSt_gone h)
    have h8 : Gone x6 := State.onBit_gone h7
    exact settleSweep_gone (gone_ite (requestRetrain_gone h8) h8)
  · exact State.onBit_gone h

theorem closeTrack_gone {a0 : Nat} {a1 : Nat} {a2 : Nat} {a3 : Nat} {a4 : Nat} (h : Gone s) :
    Gone (closeTrack a0 a1 a2 a3 a4 s) := by
  unfold closeTrack
  extract_lets x1 x2 x3
  have h4 : Gone x2 := State.onBit_gone h
  exact gone_ite h4 (gone_ite (gone_ite (limitReached_gone h4) (State.onBit_gone h4))
      (gone_ite (limitReached_gone h4) (State.onBit_gone h4)))

theorem putSet_gone {a0 : Nat} {a1 : Bool} {a2 : CalFound} (h : Gone s) : Gone (putSet a0 a1 a2 s) := by
  unfold putSet
  extract_lets x1 x2 x3
  exact State.onCal_gone h

theorem putResults_gone {a0 : Nat} {a1 : Bool} {a2 : CalFound} (h : Gone s) : Gone (putResults a0 a1 a2 s) := by
  unfold putResults
  extract_lets x1 x2 x3
  have h4 : Gone x1 := putSet_gone h
  have h5 : Gone x2 := by
    unfold x2
    refine gone_foldl (fun _ _ h8 => ?_) ?_
    · extract_lets x9 x10 x11 x12 x13
      have h14 : Gone x10 := State.setSt_gone h8
      have h15 : Gone x11 := State.setSt_gone (State.setSt_gone h14)
      have h16 : Gone x12 := gone_ite (State.onBit_gone h15) h8
      have h17 : Gone x13 := State.setSt_gone (State.setSt_gone h16)
      exact gone_ite (State.onBit_gone h17) h16
    · exact h4
  have h18 : Gone x3 := gone_foldl (fun _ _ h19 => (State.setSt_gone (State.setSt_gone h19))) h5
  exact showWeye_gone (discardWindows_gone h18)

theorem writeScratch_gone {a0 : Nat} (h : Gone s) : Gone (writeScratch a0 s) := by
  unfold writeScratch
  refine gone_foldl (fun _ _ h2 => ?_) ?_
  · extract_lets x3
    exact gone_foldl (fun _ _ h4 => (State.setBurst_gone h4)) h2
  · exact h

theorem restartWck_gone {a0 : Nat} (h : Gone s) : Gone (restartWck a0 s) := by
  unfold restartWck
  exact State.onRanks_gone h

theorem trainDone_gone {a0 : Nat} {a1 : CalFound} (h : Gone s) : Gone (trainDone a0 a1 s) := by
  unfold trainDone
  extract_lets x1 x2
  have h3 : Gone x1 := dropScratch_gone (restartWck_gone (State.onChan_gone h))
  have h4 : Gone x2 := State.setSt_gone h3
  exact gone_ite (showEye_gone (putResults_gone (State.setSt_gone h3))) (State.onChan_gone (State.setSt_gone h4))

theorem retrainInPlace_gone {a0 : Nat} (h : Gone s) : Gone (retrainInPlace a0 s) := by
  unfold retrainInPlace
  exact State.setSt_gone (startJob_gone h)

theorem settleCheck_gone {a0 : Nat} (h : Gone s) : Gone (settleCheck a0 s) := by
  unfold settleCheck
  extract_lets x1 x2 x3 x4
  exact gone_ite h (State.onCal_gone h)

theorem checkDone_gone {a0 : Nat} {a1 : CalFound} (h : Gone s) : Gone (checkDone a0 a1 s) := by
  unfold checkDone
  extract_lets x1 x2 x3 x4
  have h5 : Gone x3 := State.onRanks_gone (stampCal_gone (State.bump_gone h))
  have h6 : Gone x4 := State.onCal_gone h5
  exact gone_ite (gone_foldl (fun _ _ h7 => (gone_foldl (fun _ _ h8 => (State.onCal_gone h8)) h7)) h6) (retrainInPlace_gone h6)

theorem retrainDone_gone {a0 : Nat} {a1 : CalFound} (h : Gone s) : Gone (retrainDone a0 a1 s) := by
  unfold retrainDone
  extract_lets x1 x2 x3 x4 x5 x6 x7 x8
  have h9 : Gone x4 := stampCal_gone (State.bump_gone h)
  have h10 : Gone x5 := gone_ite (stepDone_gone h9) h9
  have h11 : Gone x6 := gone_ite (writeScratch_gone h10) h10
  have h12 : Gone x7 := dropScratch_gone (restartWck_gone (State.onChan_gone h11))
  have h13 : Gone x8 := State.setSt_gone h12
  exact gone_ite (raise_gone (putResults_gone h13)) (retrainFailed_gone h13)

theorem oscCount_gone {a0 : Nat} {a1 : Nat} {a2 : Nat} (h : Gone s) : Gone (oscCount a0 a1 a2 s) := by
  unfold oscCount
  extract_lets x1 x2 x3 x4 x5 x6 x7 x8
  have h9 : Gone x2 := State.setSt_gone h
  have h10 : Gone x8 := gone_foldl (fun _ _ h11 => (State.onBit_gone h11)) h9
  exact gone_ite (requestRetrain_gone h9) (gone_ite (requestRetrain_gone h9) (State.setSt_gone h10))

theorem wrcBit_gone {a0 : Nat} {a1 : Nat} {a2 : Bool} {a3 : Bool} (h : Gone s) : Gone (wrcBit a0 a1 a2 a3 s) := by
  unfold wrcBit
  extract_lets x1 x2
  have h3 : Gone x2 := gone_ite h (State.onBit_gone h)
  split
  · exact State.onBit_gone h3
  · exact gone_ite (requestRetrain_gone h3) (State.onBit_gone h3)
  · exact gone_ite (requestRetrain_gone h3) (State.onBit_gone h3)
  · exact gone_ite (requestRetrain_gone h3) (State.onBit_gone h3)

theorem wrcDone_gone {a0 : Nat} {a1 : Nat} {a2 : List (Bool × Bool)} (h : Gone s) : Gone (wrcDone a0 a1 a2 s) := by
  unfold wrcDone
  extract_lets x1 x2
  have h3 : Gone x1 := by
    unfold x1
    refine gone_foldl (fun _ _ h6 => ?_) ?_
    · extract_lets x7 x8 x9
      have h10 : Gone x9 := wrcBit_gone h6
      exact gone_ite (State.setSt_gone h10) h6
    · exact h
  have h11 : Gone x2 := showWeye_gone (stepDone_gone h3)
  exact wearMargin_gone (fun _ _ h12 => (State.onCal_gone h12)) h11

theorem countMove_gone {a0 : Nat} (h : Gone s) : Gone (countMove a0 s) := by
  unfold countMove
  exact State.bump_gone h

theorem moveCode_gone {a0 : Nat} {a1 : Nat} (h : Gone s) : Gone (moveCode a0 a1 s) := by
  unfold moveCode
  extract_lets x1 x2 x3
  have h4 : Gone x2 := State.onQuad_gone h
  have h5 : Gone x3 := countMove_gone (State.setSt_gone h4)
  exact gone_ite (raise_gone (State.bump_gone h5)) h5

theorem calPause_gone {a0 : Nat} (h : Gone s) : Gone (calPause a0 s) := by
  unfold calPause
  extract_lets x1 x2 x3
  have h4 : Gone x2 := State.unpost_gone (State.setCf_gone h)
  exact gone_foldl (fun _ _ h5 => (discardWindows_gone (State.onCal_gone h5))) h4

theorem calUnpause_gone {a0 : Nat} (h : Gone s) : Gone (calUnpause a0 s) := by
  unfold calUnpause
  extract_lets x1 x2
  have h3 : Gone x1 := State.setCf_gone h
  have h4 : Gone x2 := State.onQuad_gone h3
  exact gone_foldl (fun _ _ h5 => (State.onCal_gone (discardWindows_gone h5))) h4

theorem sweepQuad_gone {a0 : Nat} (h : Gone s) : Gone (sweepQuad a0 s) := by
  unfold sweepQuad
  exact gone_foldl (fun _ _ h1 => (gone_ite (startSweep_gone h1) h1)) h

theorem zqInterval_gone {a0 : Nat} {a1 : Vector Nat 3} (h : Gone s) : Gone (zqInterval a0 a1 s) := by
  unfold zqInterval
  extract_lets x1
  have h2 : Gone x1 := State.onQuad_gone h
  exact gone_foldl (fun _ _ h3 => (zqDue_gone h3)) h2

-- the operations of Keys

theorem clearStaging_gone (h : Gone s) : Gone (clearStaging s) := by
  unfold clearStaging
  exact gone_foldl (fun _ _ h1 => (State.setCf_gone h1)) h

/-- VOID refuses every LOAD. -/
theorem loadCode_of_void {i : Nat} (h : s.keys.void = true) : s.loadCode i = 3 := if_pos (by simp [h])

/-- VOID refuses every RETIRE. -/
theorem retireCode_of_void {i : Nat} (h : s.keys.void = true) : s.retireCode i = 3 := if_pos (by simp [h])

theorem loadKey_gone {a0 : Nat} (h : Gone s) : Gone (loadKey a0 s).2 := by
  unfold loadKey
  dsimp only
  apply clearStaging_gone
  split
  next hcode => exact gone_imp h id fun he => absurd ((loadCode_of_void he.1).symm.trans hcode) (by decide)
  next => exact h

theorem retireKey_gone {a0 : Nat} (h : Gone s) : Gone (retireKey a0 s).2 := by
  unfold retireKey
  extract_lets x1
  split
  next hcode => exact gone_imp h id fun he => absurd ((retireCode_of_void he.1).symm.trans hcode) (by decide)
  next => exact h

theorem setResult_gone {a0 : Nat} (h : Gone s) : Gone (setResult a0 s) := gone_of h rfl

theorem writeKeyCtl_gone {a0 a1 : Bool} (h : Gone s) : Gone (writeKeyCtl a0 a1 s) := by
  have hr := retireKey_gone (a0 := s.cf KY_CTL_SLOT) h
  have hl := loadKey_gone (a0 := s.cf KY_CTL_SLOT) h
  have hrl := loadKey_gone (a0 := s.cf KY_CTL_SLOT) hr
  cases a0 <;> cases a1 <;> simp only [writeKeyCtl, Bool.or_true, Bool.or_false, if_true, if_false, Bool.false_eq_true]
  · exact h
  · exact setResult_gone hr
  · exact setResult_gone hl
  · exact setResult_gone hrl

theorem startRekey_gone (h : Gone s) : Gone (startRekey s) := by
  unfold startRekey
  extract_lets x1 x2
  split
  next => exact h
  next =>
    split
    next hpaused =>
      refine gone_ite (setResult_gone h) (setResult_gone (gone_imp h id fun he => ?_))
      exact absurd (he.2.1.symm.trans hpaused) (by decide)
    next =>
      split
      next => exact setResult_gone h
      next hvoid =>
        refine gone_ite (setResult_gone h) (gone_foldl (fun _ _ hx => State.onChan_gone (State.setSt_gone hx)) ?_)
        exact setResult_gone (gone_imp h id fun he => absurd he.1 fun hv => hvoid (by simp [x1, hv]))

theorem abortRekey_gone (h : Gone s) : Gone (abortRekey s) := by
  unfold abortRekey
  split
  next hpass => exact gone_imp h id fun he => absurd (he.2.1.symm.trans hpass) (by decide)
  next => exact h

theorem writeRekeyCtl_gone {a0 : Bool} {a1 : Bool} (h : Gone s) : Gone (writeRekeyCtl a0 a1 s) := by
  unfold writeRekeyCtl
  exact gone_ite (abortRekey_gone h) (gone_ite (startRekey_gone h) h)

theorem zeroize_empty (s : State) : (zeroize s).keys.empty := ⟨rfl, rfl, rfl⟩

theorem zeroize_gone : Gone (zeroize s) := gone_of_empty (zeroize_empty s)

-- the operations of Maint

theorem refuseLock_gone {a0 : Nat} (h : Gone s) : Gone (refuseLock a0 s) := by
  unfold refuseLock
  exact State.onQuad_gone (State.bump_gone h)

theorem fillLine_gone {a0 a1 a2 : Nat} {a3 : Bool} {a4 : Option Nat} {t : State} (h : Gone s)
    (e : fillLine a0 a1 a2 a3 a4 s = some t) : Gone t := by
  unfold fillLine at e
  split at e
  · injection e with e
    exact e ▸ State.addFill_gone (State.onWay_gone h)
  · obtain ⟨⟨w, wb, u⟩, hu, e⟩ := Option.map_eq_some_iff.1 e
    exact e ▸ State.addFill_gone (takeWay_gone h hu)

theorem visit_gone {a0 a1 a2 a3 : Nat} {t : State} (h : Gone s) (e : visit a0 a1 a2 a3 s = some t) : Gone t := by
  have put {u : State} (hu : Gone u) (e : some u = some t) : Gone t := Option.some.inj e ▸ hu
  unfold visit at e
  dsimp only at e
  split at e
  · split at e
    · exact put h e
    · split at e
      · exact fillLine_gone h e
      · split at e
        · exact put (refuseLock_gone h) e
        · exact fillLine_gone h e
      · exact put h e
  · split at e
    · cases e
    · split at e
      · split at e
        · split at e
          · exact fillLine_gone h e
          · exact put h e
        · split at e
          · exact fillLine_gone h e
          · exact put h e
        · exact put (State.onWay_gone h) e
        · exact put h e
      · split at e
        · exact put (State.cleanWay_gone h) e
        · split at e
          · exact put (State.bump_gone (State.onWay_gone (State.cleanWay_gone h))) e
          · exact put (State.onWay_gone (State.cleanWay_gone h)) e
        · split at e
          · exact put h e
          · split at e
            · exact put (refuseLock_gone h) e
            · exact put (State.onWay_gone h) e
        · exact put (State.onWay_gone h) e
        · exact put h e

theorem mopStep_gone {a0 : Nat} (h : Gone s) : Gone (mopStep a0 s) := by
  unfold mopStep
  split
  · exact h
  · extract_lets x1
    have h2 : ∀ y0 y1, Gone y1 → Gone (x1 y0 y1) := by
      intro y0 y1 h2_1
      unfold x1
      exact State.onQuad_gone h2_1
    apply gone_ite
    · exact h
    · split
      · exact h2 _ _ h
      · extract_lets x3
        apply gone_ite
        · exact h
        · split
          · rename_i heq
            have h4 := visit_gone (State.onLane_gone h) heq
            exact h2 _ _ h4
          · exact h

theorem startMop_gone {a0 : Nat} {a1 : Nat} {a2 : Bool} (h : Gone s) : Gone (startMop a0 a1 a2 s) := by
  unfold startMop
  extract_lets x1 x2
  have h3 : ∀ y0, Gone (x2 y0) := by
    intro y0 
    unfold x2
    exact State.setSt_gone h
  exact gone_ite h (gone_ite (h3 _) (gone_ite (h3 _) (State.onQuad_gone h)))

theorem settleBypass_gone {a0 : Nat} (h : Gone s) : Gone (settleBypass a0 s) := by
  unfold settleBypass
  extract_lets x1 x2 x3
  have h4 : ∀ y0 y1, Gone y1 → Gone (x2 y0 y1) := by
    intro y0 y1 h4_1
    unfold x2
    exact State.onQuad_gone h4_1
  exact gone_ite (h4 _ _ h) (gone_ite (h4 _ _ h) (gone_ite (State.onQuad_gone (h4 _ _ (flushCache_gone h))) h))

theorem enterBypass_gone {a0 : Nat} (h : Gone s) : Gone (enterBypass a0 s) := by
  unfold enterBypass
  exact settleBypass_gone (State.setCf_gone h)

theorem leaveBypass_gone {a0 : Nat} (h : Gone s) : Gone (leaveBypass a0 s) := by
  unfold leaveBypass
  exact State.onQuad_gone (State.setCf_gone h)

theorem goOp_gone {a0 : Nat} {a1 : Nat} (h : Gone s) : Gone (goOp a0 a1 s) := by
  unfold goOp
  exact gone_ite (startMop_gone (State.setCf_gone h)) h

end

end Sys2Proof.Machine
end

section
/-!
The sequences of the whole block keep the guard of the keys (O54), function by function.
-/

namespace Sys2Proof.Machine


section

variable {s : State}

-- the operations of Perf

theorem setCounter_gone {a0 : CounterId} {a1 : Nat} (h : Gone s) : Gone (setCounter a0 a1 s) := by
  unfold setCounter
  exact State.setCf_gone (State.setCf_gone h)

theorem wrapped_gone {a0 : CounterId} (h : Gone s) : Gone (wrapped a0 s) := by
  unfold wrapped
  extract_lets x1 x2
  have h3 : Gone x1 := State.setBit_gone h
  have h4 : Gone x2 := gone_ite (State.onPerf_gone h3) h3
  split
  · exact gone_ite (State.setCf_gone h4) h4
  · exact h4

theorem countNow_gone {a0 : CounterId} (h : Gone s) : Gone (countNow a0 s) := by
  unfold countNow
  extract_lets x1 x2 x3
  have h4 : Gone x3 := setCounter_gone (State.onPerf_gone h)
  exact gone_ite h (gone_ite (wrapped_gone h4) h4)

theorem settled_gone {a0 : CounterId} (h : Gone s) : Gone (settled a0 s) := by
  unfold settled
  exact State.onPerf_gone h

theorem countAll_gone (h : Gone s) : Gone (countAll s) := by
  unfold countAll
  extract_lets x1 x2 x3
  have h4 : Gone x2 := gone_foldl (fun _ _ h5 => (countNow_gone h5)) h
  have h6 : Gone x3 := State.onPerf_gone h4
  split
  · exact gone_ite (event_gone (State.onPerf_gone h6)) h6
  · exact h6

theorem holdLow_gone {a0 : CounterId} {a1 : Word} (h : Gone s) : Gone (holdLow a0 a1 s) := by
  unfold holdLow
  exact State.onPerf_gone h

theorem writeHigh_gone {a0 : CounterId} {a1 : Word} (h : Gone s) : Gone (writeHigh a0 a1 s) := by
  unfold writeHigh
  extract_lets x1 x2
  have h3 : Gone x2 := State.onPerf_gone h
  exact settled_gone (setCounter_gone h3)

theorem beforeSelect_gone {a0 : CounterId} (h : Gone s) : Gone (beforeSelect a0 s) := by
  unfold beforeSelect
  exact gone_ite h (State.onPerf_gone h)

theorem clearCounter_gone {a0 : CounterId} (h : Gone s) : Gone (clearCounter a0 s) := by
  unfold clearCounter
  exact setCounter_gone (State.onPerf_gone h)

theorem clearCounters_gone {a0 : CounterSet} {a1 : Nat} (h : Gone s) : Gone (clearCounters a0 a1 s) := by
  unfold clearCounters
  exact gone_foldl (fun _ _ h1 => (gone_ite (clearCounter_gone h1) h1)) h

theorem clearBushel_gone (h : Gone s) : Gone (clearBushel s) := by
  unfold clearBushel
  exact gone_ite h (gone_foldl (fun _ _ h1 => (clearCounter_gone h1)) h)

theorem snapshot_gone (h : Gone s) : Gone (snapshot s) := by
  unfold snapshot
  extract_lets x1 x2 x3
  have h4 : Gone x1 := by
    unfold x1
    refine gone_foldl (fun _ _ h7 => ?_) ?_
    · extract_lets x8
      exact State.setSt_gone (State.setSt_gone h7)
    · exact h
  have h9 : Gone x2 := State.setSt_gone h4
  have h10 : Gone x3 := State.onPerf_gone h9
  exact gone_ite h (gone_ite (clearBushel_gone h10) h10)

theorem writeFreeze_gone {a0 : Bool} (h : Gone s) : Gone (writeFreeze a0 s) := by
  unfold writeFreeze
  exact State.onPerf_gone (State.setCf_gone h)

theorem ack_gone {a0 : Nat} (h : Gone s) : Gone (ack a0 s) := gone_mk h

theorem clearLog_gone {a0 : Nat} (h : Gone s) : Gone (clearLog a0 s) := gone_mk h

theorem clearScruple_gone {a0 : Nat} (h : Gone s) : Gone (clearScruple a0 s) := gone_mk h

-- the operations of Gaps

theorem postOnce_gone {a0 : GapKind} {a1 : Nat} {a2 : Work} {a3 : Nat} {a4 : Nat} {a5 : Nat} (h : Gone s) :
    Gone (postOnce a0 a1 a2 a3 a4 a5 s) := by
  unfold postOnce
  extract_lets x1
  exact gone_ite h (post_gone h)

theorem postRefresh_gone {a0 : GapKind} {a1 : Nat} (h : Gone s) : Gone (postRefresh a0 a1 s) := by
  unfold postRefresh
  extract_lets x1
  exact gone_ite (postOnce_gone h) h

theorem postSteps_gone {a0 : GapKind} {a1 : Nat} (h : Gone s) : Gone (postSteps a0 a1 s) := by
  unfold postSteps
  refine gone_foldl (fun _ _ h2 => ?_) ?_
  · extract_lets x3
    exact gone_ite (postOnce_gone h2) h2
  · exact h

theorem postDuties_gone {a0 : GapKind} {a1 : Nat} (h : Gone s) : Gone (postDuties a0 a1 s) := by
  unfold postDuties
  refine gone_foldl (fun _ _ h2 => ?_) ?_
  · extract_lets x3
    exact gone_ite (postOnce_gone h2) h2
  · exact h

theorem postAll_gone {a0 : GapKind} (h : Gone s) : Gone (postAll a0 s) := by
  unfold postAll
  exact gone_foldl (fun _ _ h1 => (postDuties_gone (postSteps_gone (postRefresh_gone h1)))) (tryPostOp_gone h)

theorem beginWork_gone {a0 : Booking} (h : Gone s) : Gone (beginWork a0 s) := by
  unfold beginWork
  split
  · exact gone_ite (opGranted_gone h) h
  · exact h
  · extract_lets x1 x2
    exact beginStep_gone h
  · split
    · exact gone_ite (beginSwap_gone h) h
    · exact h
  · exact bookedPermit_gone h
  · exact bookedPermit_gone h
  · exact bookedPermit_gone h

theorem beginGrants_gone (h : Gone s) : Gone (beginGrants s) := by
  unfold beginGrants
  refine gone_foldl (fun _ _ h2 => ?_) ?_
  · extract_lets x3 x4
    exact gone_ite h2 (beginWork_gone (gone_mk h2))
  · exact h

theorem endWork_gone {a0 : Booking} (h : Gone s) : Gone (endWork a0 s) := by
  unfold endWork
  extract_lets x1
  split
  · exact gone_ite h (endPermit_gone h)
  · exact gone_ite h (endPermit_gone h)
  · exact gone_ite h (endPermit_gone h)
  · exact settleFill_gone h
  · exact h

theorem grantBooking_gone {a0 : GapKind} {a1 : Nat} {a2 : Booking} (h : Gone s) : Gone (grantBooking a0 a1 a2 s) := by
  unfold grantBooking
  extract_lets x1 x2 x3 x4 x5 x6
  have h7 : Gone x2 := State.unpost_gone h
  have h8 : Gone x4 := gone_mk h7
  split
  · exact gone_mk h8
  · exact gone_mk h8
  · exact gone_ite (State.onScrub_gone h8) h8
  · exact h8

theorem noteNoFit_gone {a0 : Booking} (h : Gone s) : Gone (noteNoFit a0 s) := gone_mk h

theorem tooLong_gone {a0 : Nat} {a1 : Booking} (h : Gone s) : Gone (tooLong a0 a1 s) := by
  unfold tooLong
  extract_lets x1 x2 x3 x4
  have h5 : Gone x1 := gone_ite h (noteNoFit_gone (State.bump_gone h))
  split
  · exact gone_ite h5 (State.bump_gone h5)
  · exact gone_ite h5 (gone_mk h5)
  · exact gone_ite h5 (State.onScrub_gone (State.unpost_gone h5))
  · exact h5

theorem tryGrant_gone {a0 : GapKind} {a1 : Nat} {a2 : List (GapKind × Scope × Nat)} {a3 : Booking} (h : Gone s) :
    Gone (tryGrant a0 a1 a2 a3 s) := by
  unfold tryGrant
  extract_lets x1 x2
  exact gone_ite (gone_ite (tooLong_gone h) h) (gone_ite (grantBooking_gone h) h)

theorem forceSwap_gone (h : Gone s) : Gone (forceSwap s) := by
  unfold forceSwap
  extract_lets x1 x2
  have h3 : Gone x2 := gone_mk h
  exact gone_ite (beginSwap_gone (State.unpost_gone (State.bump_gone h3))) h

theorem openGap_gone {a0 : GapKind} (h : Gone s) : Gone (openGap a0 s) := by
  unfold openGap
  extract_lets x1 x2 x3 x4 x5 x6 x7 x8 x9 x10 x11
  have h12 : Gone x3 := endGap_gone h
  have h13 : Gone x5 := by
    unfold x5
    split
    · exact gone_mk h
    · exact forceSwap_gone (gone_mk h12)
  have h14 : Gone x6 := postAll_gone h13
  have h15 : Gone x9 := gone_mk h14
  have h16 : Gone x11 := gone_foldl (fun _ _ h17 => (tryGrant_gone h17)) h15
  exact beginGrants_gone (State.unpost_gone h16)

theorem openV_gone (h : Gone s) : Gone (openV s) := by
  unfold openV
  exact gone_ite (openGap_gone h) h

theorem swapHeld_gone (h : Gone s) : Gone (swapHeld s) := by
  unfold swapHeld
  extract_lets x1
  exact gone_ite (gone_mk h) h

theorem countLate_gone (h : Gone s) : Gone (countLate s) := by
  unfold countLate
  extract_lets x1 x2 x3 x4 x5 x6
  have h7 : Gone x1 := swapHeld_gone h
  have h8 : Gone x3 := gone_mk h7
  have h9 : Gone x5 := State.bump_gone (State.bump_gone h8)
  exact gone_mk h9

theorem recordFrame_gone (h : Gone s) : Gone (recordFrame s) := by
  unfold recordFrame
  extract_lets x1 x2 x3
  have h4 : Gone x2 := gone_ite (State.bump_gone h) h
  exact gone_ite h (gone_mk h4)

theorem frameWork_gone (h : Gone s) : Gone (frameWork s) := by
  unfold frameWork
  extract_lets x1 x2 x3 x4
  have h5 : Gone x1 := gone_ite (opFrame_gone h) h
  have h6 : Gone x2 := gone_foldl (fun _ _ h7 => (State.onScrub_gone h7)) h5
  have h8 : Gone x3 := gone_ite (commitGates_gone h6) h6
  have h9 : Gone x4 := gone_ite (snapshot_gone h8) h8
  exact countLate_gone h9

theorem newFrame_gone {a0 : BitVec 24} {a1 : Bool} (h : Gone s) : Gone (newFrame a0 a1 s) := by
  unfold newFrame
  extract_lets x1 x2 x3 x4
  have h5 : Gone x1 := recordFrame_gone (endGaps_gone h)
  have h6 : Gone x4 := gone_mk h5
  exact frameWork_gone (beginLine_gone h6)

-- the operations of Tap

theorem dropAll_gone {a0 : Nat} (h : Gone s) : Gone (dropAll a0 s) := by
  unfold dropAll
  extract_lets x1
  have h2 : Gone x1 := abandonStep_gone h
  exact State.onChan_gone h2

theorem freeLanes_gone {a0 : Nat} (h : Gone s) : Gone (freeLanes a0 s) := by
  unfold freeLanes
  extract_lets x1
  exact State.onQuad_gone h

theorem grantSecure_gone (h : s.keys.empty) : Gone (grantSecure s) := event_gone (gone_of_empty h)

theorem grantDark_gone : Gone (grantDark s) := by
  have hempty := zeroize_empty s
  unfold grantDark
  generalize zeroize s = u at hempty
  exact gone_of_empty hempty

/-- The step of a halt at which the ranks go to self-refresh: the stop for secure access has cleared the keys before it. -/
theorem haltRests_gone (h : Gone s) (hk : s.flt.testStop = true → s.keys.empty) :
    Gone { s with flt := { s.flt with haltStep := 3 } } := fun ht => ht.elim (fun hsec => h (.inl hsec)) fun hn => hk hn.1

theorem settleHalt_gone (h : Gone s) : Gone (settleHalt s) := by
  unfold settleHalt
  extract_lets x1 x2 x3 x4 x5 x6
  have h2 : Gone x2 := gone_foldl (fun _ _ hx => freeLanes_gone hx) (gone_foldl (fun _ _ hx => dropAll_gone hx) h)
  have h3 : Gone x3 := gone_ite zeroize_gone h2
  have hcleared : x3.flt.testStop = true → x3.keys.empty := by
    unfold x3
    split
    next => exact fun _ => zeroize_empty _
    next hno => exact fun htest => absurd htest hno
  split
  · exact gone_foldl (fun _ _ hx => State.onRanks_gone hx) (haltRests_gone h3 hcleared)
  · split
    next hdown =>
      have h6 : Gone x6 := gone_imp h (fun ht => ht.imp_right fun hn => ⟨hn.1, .inl hdown.1⟩) id
      split
      next htest => exact grantSecure_gone (h6 (.inr ⟨htest, .inr rfl⟩))
      next => exact h6
    next => exact h

/-- Every step of secure access before the grant is no grant. -/
theorem startSecure_gone (h : Gone s) : Gone (startSecure s) := by
  unfold startSecure
  extract_lets x1 x2 x3 x4
  have h2 : Gone x2 := gone_imp h (fun ht => ht.imp (fun hsec => absurd (show 1 = 6 from hsec) (by decide)) id) id
  have h3 : Gone x3 := gone_ite (stopBlock_gone h2) h2
  exact gone_ite h (gone_ite grantDark_gone (gone_stopping h3 rfl rfl rfl))

theorem quiesceStep_gone {a0 : Nat} (h : Gone s) : Gone (quiesceStep a0 s) := gone_mk h

theorem takePins_gone (h : Gone s) : Gone (takePins s) := by
  unfold takePins
  extract_lets x1
  exact quiesceStep_gone (gone_mk h)

theorem raiseReady_gone (h : Gone s) : Gone (raiseReady s) := by
  unfold raiseReady
  extract_lets x1
  exact gone_ite h (gone_foldl (fun _ _ h2 => (setIngHold_gone h2)) (gone_mk h))

theorem setTest_gone {a0 : Nat} {a1 : Nat} (h : Gone s) : Gone (setTest a0 a1 s) := by
  unfold setTest
  exact State.onChan_gone h

theorem testReturn_gone {a0 : Nat} (h : Gone s) : Gone (testReturn a0 s) := by
  unfold testReturn
  extract_lets x1 x2 x3
  have h4 : Gone x2 := State.onChan_gone (setTest_gone h)
  have h5 : Gone x3 := State.setSt_gone (restartTracking_gone (initSet_gone h4))
  exact gone_ite (State.onRanks_gone h4) (startJob_gone (State.onRanks_gone h5))

theorem dropTests_gone {a0 : Nat} {a1 : Op → Bool} (h : Gone s) : Gone (dropTests a0 a1 s) := by
  unfold dropTests
  exact State.onChan_gone h

theorem feedTest_gone {a0 : Nat} (h : Gone s) : Gone (feedTest a0 s) := by
  unfold feedTest
  extract_lets x1 x2 x3 x4 x5 x6
  exact gone_ite h (State.onChan_gone (State.addOp_gone h))

theorem forgetCached_gone {a0 : Nat} (h : Gone s) : Gone (forgetCached a0 s) := by
  unfold forgetCached
  extract_lets x1
  exact State.onQuad_gone h

theorem testEnd_gone {a0 : Nat} (h : Gone s) : Gone (testEnd a0 s) := by
  unfold testEnd
  extract_lets x1 x2 x3
  have h4 : Gone x2 := leaveTest_gone h
  have h5 : Gone x3 := State.setSt_gone (State.setSt_gone h4)
  exact gone_ite (State.onRanks_gone h4) (gone_ite (startClearing_gone (forgetCached_gone h5)) h4)

theorem settleTest_gone {a0 : Nat} (h : Gone s) : Gone (settleTest a0 s) := by
  unfold settleTest
  extract_lets x1 x2 x3 x4 x5
  have h6 : Gone x2 := State.onChan_gone h
  have h7 : Gone x4 := State.onChan_gone h
  have h8 : Gone x5 := dropTests_gone h
  split
  · exact gone_ite (testReturn_gone h6) (gone_ite h6 (gone_ite (State.onRanks_gone (setTest_gone h6))
      (gone_foldl (fun _ _ h9 => (State.cleanWay_gone h9)) h6)))
  · exact gone_ite (testReturn_gone h) (gone_ite (gone_ite (State.onRanks_gone h7) h7) h)
  · exact gone_ite (testReturn_gone h) h
  · exact gone_ite (gone_ite (feedTest_gone h) h) (gone_ite (testReturn_gone h8) h8)
  · exact gone_ite (testEnd_gone h) h
  · exact h

theorem testGo_gone {a0 : Nat} {a1 : Bool} {a2 : Bool} (h : Gone s) : Gone (testGo a0 a1 a2 s) := by
  unfold testGo
  extract_lets x1 x2 x3 x4
  have h5 : Gone x2 := State.setCf_gone (State.setCf_gone h)
  exact gone_ite (settleTest_gone (State.onChan_gone h5)) (State.setBits_gone h5)

theorem testAbort_gone {a0 : Nat} (h : Gone s) : Gone (testAbort a0 s) := by
  unfold testAbort
  extract_lets x1
  exact gone_ite (settleTest_gone (State.onChan_gone h)) h

theorem writeTst_gone {a0 : Nat} {a1 : Bool} {a2 : Bool} {a3 : Bool} {a4 : Bool} (h : Gone s) :
    Gone (writeTst a0 a1 a2 a3 a4 s) := by
  unfold writeTst
  extract_lets x1 x2 x3
  have h4 : Gone x1 := dropHeld_gone h
  have h5 : Gone x2 := State.setCf_gone (State.setCf_gone h4)
  have h6 : Gone x3 := gone_ite (testAbort_gone h5) h5
  exact gone_ite (testGo_gone h6) h6

theorem abandonTest_gone {a0 : Nat} (h : Gone s) : Gone (abandonTest a0 s) := by
  unfold abandonTest
  extract_lets x1 x2
  have h3 : Gone x2 := State.onChan_gone (setTest_gone (dropTests_gone h))
  exact gone_ite h (gone_ite (State.onRanks_gone h3) h3)

theorem abandonTests_gone (h : Gone s) : Gone (abandonTests s) := by
  unfold abandonTests
  exact gone_foldl (fun _ _ h1 => (abandonTest_gone h1)) h

theorem resumeTests_gone (h : Gone s) : Gone (resumeTests s) := by
  unfold resumeTests
  exact gone_foldl (fun _ _ h1 => (gone_ite (testReturn_gone h1) h1)) h

theorem giveRoom_gone (h : Gone s) : Gone (giveRoom s) := by
  unfold giveRoom
  exact gone_foldl (fun _ _ h1 => (State.onChan_gone h1)) h

theorem openQuiesce_gone (h : Gone s) : Gone (openQuiesce s) := by
  unfold openQuiesce
  extract_lets x1 x2
  have h3 : Gone x1 := giveRoom_gone h
  exact gone_mk h3

theorem settleQuiesce_gone (h : Gone s) : Gone (settleQuiesce s) := by
  unfold settleQuiesce
  extract_lets x1 x2
  split
  · exact gone_ite h (gone_ite (takePins_gone h) (gone_foldl (fun _ _ h3 => (State.onChan_gone h3)) (quiesceStep_gone h)))
  · exact gone_ite (gone_foldl (fun _ _ h4 => (flushCache_gone h4)) (quiesceStep_gone h))
      (gone_foldl (fun _ _ h5 => (State.onChan_gone h5)) h)
  · exact gone_ite (gone_foldl (fun _ _ h6 => (State.onRanks_gone h6)) (quiesceStep_gone h)) h
  · exact gone_ite (takePins_gone h) h
  · exact gone_ite h (gone_ite (raiseReady_gone (resumeTests_gone (openQuiesce_gone h))) (gone_ite (giveRoom_gone h) h))
  · exact h

theorem startQuiesce_gone (h : Gone s) : Gone (startQuiesce s) := by
  unfold startQuiesce
  extract_lets x1 x2
  have h3 : Gone x2 := gone_mk h
  exact gone_ite h (gone_ite (takePins_gone h3) (settleQuiesce_gone (quiesceStep_gone (abandonTests_gone h3))))

theorem endQuiesce_gone (h : Gone s) : Gone (endQuiesce s) := by
  unfold endQuiesce
  extract_lets x1 x2 x3
  have h4 : Gone x2 := gone_mk h
  exact gone_ite h (gone_ite (openQuiesce_gone h) (gone_ite (settleQuiesce_gone h4)
      (settleQuiesce_gone (gone_foldl (fun _ _ h5 => (State.onRanks_gone h5))
      (gone_foldl (fun _ _ h6 => (State.onRanks_gone h6)) h4)))))

theorem selectInstr_gone {a0 : TapInstr} (h : Gone s) : Gone (selectInstr a0 s) := by
  unfold selectInstr
  extract_lets x1 x2
  have h3 : Gone x2 := gone_mk h
  exact gone_ite h (gone_ite (startSecure_gone h3) (gone_ite (startQuiesce_gone h3) (endQuiesce_gone h3)))

theorem updateIr_gone {a0 : BitVec 6} (h : Gone s) : Gone (updateIr a0 s) := by
  unfold updateIr
  exact selectInstr_gone h

-- the operations of SpillEngine

theorem setCur_gone {a0 : Nat} {a1 : Nat} (h : Gone s) : Gone (setCur a0 a1 s) := by
  unfold setCur
  exact State.setCf_gone (State.setCf_gone h)

theorem showSpill_gone {a0 : Nat} (h : Gone s) : Gone (showSpill a0 s) := by
  unfold showSpill
  extract_lets x1
  split
  · exact State.onSpill_gone (State.setSt_gone h)
  · exact gone_ite h (State.setSt_gone h)

theorem sendBurst_gone {a0 : Nat} {a1 : Bool} (h : Gone s) : Gone (sendBurst a0 a1 s) := by
  unfold sendBurst
  extract_lets x1
  exact State.onSpill_gone h

theorem fetchDesc_gone {a0 : Nat} {a1 : Nat} (h : Gone s) : Gone (fetchDesc a0 a1 s) := by
  unfold fetchDesc
  exact State.onSpill_gone h

theorem busError_gone {a0 : Nat} {a1 : Axi} (h : Gone s) : Gone (busError a0 a1 s) := by
  unfold busError
  extract_lets x1 x2 x3
  have h4 : Gone x2 := spillHalt_gone h
  have h5 : Gone x3 := State.setSt_gone (State.setSt_gone h4)
  exact gone_ite (raise_gone (State.onSpill_gone h5)) h

theorem portHalts_gone {a0 : Nat} {a1 : Bool} (h : Gone s) : Gone (portHalts a0 a1 s) := by
  unfold portHalts
  exact spillHalt_gone (State.onSpill_gone h)

theorem spillServed_gone {a0 : Nat} {a1 : Nat} (h : Gone s) : Gone (spillServed a0 a1 s) := gone_mk h

theorem spillRequest_gone {a0 : Nat} {a1 : Desc} {a2 a3 : Nat} {a4 : List Beat} (h : Gone s) :
    Gone (spillRequest a0 a1 a2 a3 a4 s).2 :=
  gone_ite (State.note_gone (State.onPort_gone (acceptRequest_gone h))) (acceptRequest_gone h)

theorem issueChunk_gone {a0 : Nat} (h : Gone s) : Gone (issueChunk a0 s) := by
  unfold issueChunk
  dsimp only
  split
  · exact h
  · apply State.onSpill_gone
    split
    · exact State.onSpill_gone h
    · exact spillRequest_gone h

theorem issueWrite_gone {a0 : Nat} {a1 : Nat} (h : Gone s) : Gone (issueWrite a0 a1 s) := by
  unfold issueWrite
  extract_lets x1
  split
  · exact h
  · split
    · exact h
    · extract_lets x2
      apply gone_ite
      · split
        · rename_i heq
          have h3 := congrArg Prod.snd heq ▸ spillRequest_gone h
          exact State.onSpill_gone h3
      · exact State.onSpill_gone h

theorem spillServe_gone {a0 : Nat} (h : Gone s) : Gone (spillServe a0 s) := by
  unfold spillServe
  split
  · exact gone_ite (spillServed_gone (issueWrite_gone h)) (gone_ite (spillServed_gone (sendBurst_gone h))
      (gone_ite (spillServed_gone (issueWrite_gone h)) h))
  · exact h

theorem spillRequests_gone (h : Gone s) : Gone (spillRequests s) := by
  unfold spillRequests
  exact gone_foldl (fun _ _ h1 => (spillServe_gone h1)) h

theorem chunkLines_gone {a0 : Nat} {a1 : Nat} {a2 : Req} (h : Gone s) : Gone (chunkLines a0 a1 a2 s) := by
  unfold chunkLines
  refine gone_foldl (fun _ _ h2 => ?_) ?_
  · extract_lets x3 x4 x5 x6
    have h7 : Gone x4 := State.bump_gone h2
    have h8 : Gone x5 := State.onSpill_gone h7
    have h9 : Gone x6 := State.setSt_gone (State.setSt_gone h8)
    exact gone_ite h2 (gone_ite h8 (State.setSt_gone (State.setSt_gone (State.setSt_gone h9))))
  · exact h

theorem chunkAcked_gone {a0 : Nat} {a1 : Chunk} (h : Gone s) : Gone (chunkAcked a0 a1 s) := by
  unfold chunkAcked
  extract_lets x1 x2
  have h3 : Gone x2 := State.setSt_gone (State.setSt_gone h)
  exact State.onSpill_gone h3

theorem settleSpill_gone {a0 : Nat} (h : Gone s) : Gone (settleSpill a0 s) := by
  unfold settleSpill
  extract_lets x1 x2 x3 x4 x5 x6 x7 x8
  have h9 : Gone x1 := State.onSpill_gone h
  have h10 : Gone x3 := by
    unfold x3
    split
    · split
      · exact gone_ite (spillHalt_gone h9) (gone_ite h9 (portHalts_gone h9))
      · exact h9
    · split
      · exact gone_ite (spillHalt_gone h9) (gone_ite h9 (portHalts_gone h9))
      · exact h9
    · split
      · exact gone_ite (spillHalt_gone h9) (gone_ite h9 (portHalts_gone h9))
      · exact h9
    · exact h9
  have h11 : Gone x6 := by
    unfold x6
    split
    · exact gone_ite (State.onSpill_gone h10) h10
    · exact h10
  have h12 : Gone x8 := by
    unfold x8
    split
    · exact gone_ite (fetchDesc_gone h11) h11
    · exact h11
  exact showSpill_gone h12

theorem gotDesc_gone {a0 : Nat} {a1 : BitVec 256} (h : Gone s) : Gone (gotDesc a0 a1 s) := by
  unfold gotDesc
  extract_lets x1 x2 x3 x4 x5
  have h6 : Gone x2 := State.onSpill_gone h
  have h7 : Gone x3 := State.onSpill_gone h6
  have h8 : Gone x5 := gone_ite (State.onSpill_gone h6) h6
  split
  · exact gone_ite (gone_ite (fetchDesc_gone h7) h7) (gone_ite (spillHalt_gone h6)
      (gone_ite (spillHalt_gone h8) (gone_ite (portHalts_gone h8) (settleSpill_gone (State.onSpill_gone h8)))))
  · exact gone_ite (gone_ite (fetchDesc_gone h7) h7) (gone_ite (spillHalt_gone h6)
      (gone_ite (spillHalt_gone h8) (gone_ite (portHalts_gone h8) (settleSpill_gone (State.onSpill_gone h8)))))
  · exact h6

theorem drainSpill_gone {a0 : Nat} (h : Gone s) : Gone (drainSpill a0 s) := by
  unfold drainSpill
  extract_lets x1 x2 x3 x4 x5
  have h6 : Gone x1 := showSpill_gone h
  exact State.onSpill_gone h6

theorem spillStart_gone {a0 : Nat} (h : Gone s) : Gone (spillStart a0 s) := by
  unfold spillStart
  extract_lets x1
  exact gone_ite (fetchDesc_gone (State.onSpill_gone (State.setSt_gone h))) h

theorem refetchDesc_gone {a0 : Nat} (h : Gone s) : Gone (refetchDesc a0 s) := by
  unfold refetchDesc
  extract_lets x1
  exact gone_ite (State.onSpill_gone h) (fetchDesc_gone h)

theorem spillKick_gone {a0 : Nat} (h : Gone s) : Gone (spillKick a0 s) := by
  unfold spillKick
  exact gone_ite (refetchDesc_gone h) h

theorem spillPause_gone {a0 : Nat} (h : Gone s) : Gone (spillPause a0 s) := by
  unfold spillPause
  extract_lets x1 x2
  have h3 : Gone x2 := State.onSpill_gone h
  exact gone_ite (gone_ite (drainSpill_gone h3) h3) h

theorem spillResume_gone {a0 : Nat} (h : Gone s) : Gone (spillResume a0 s) := by
  unfold spillResume
  extract_lets x1
  exact gone_ite (fetchDesc_gone (State.onSpill_gone h)) (gone_ite
      (gone_ite (event_gone h) (fetchDesc_gone (State.onSpill_gone h))) h)

theorem spillAbort_gone {a0 : Nat} (h : Gone s) : Gone (spillAbort a0 s) := by
  unfold spillAbort
  extract_lets x1
  have h2 : Gone x1 := State.onSpill_gone h
  exact gone_ite h (gone_ite (drainSpill_gone h2) h2)

theorem abortSpills_gone (h : Gone s) : Gone (abortSpills s) := by
  unfold abortSpills
  refine gone_foldl (fun _ _ h2 => ?_) ?_
  · split
    · exact h2
    · exact h2
    · exact h2
    · exact State.onSpill_gone h2
  · exact h

theorem writeSpillCtrl_gone {a0 : Nat} {a1 : Nat} (h : Gone s) : Gone (writeSpillCtrl a0 a1 s) := by
  unfold writeSpillCtrl
  extract_lets x1
  exact gone_ite (spillAbort_gone h) (gone_ite (spillPause_gone h)
      (gone_ite (spillResume_gone h) (gone_ite (spillStart_gone h) (gone_ite (spillKick_gone h) h))))

theorem descDone_gone {a0 : Nat} (h : Gone s) : Gone (descDone a0 s) := by
  unfold descDone
  split
  · exact h
  · extract_lets x1 x2
    have h3 : Gone x1 := State.onSpill_gone (State.bump_gone h)
    have h4 : Gone x2 := gone_ite h3 (setCur_gone h3)
    exact gone_ite (event_gone (State.setBits_gone h4)) h4

theorem spillRead_gone {a0 : Nat} {a1 : Req} (h : Gone s) : Gone (spillRead a0 a1 s) := by
  unfold spillRead
  split
  · exact h
  · extract_lets x1 x2
    have h3 : Gone x2 := State.onSpill_gone h
    exact settleSpill_gone (chunkLines_gone h3)

theorem spillWrote_gone {a0 : Nat} {a1 : Req} (h : Gone s) : Gone (spillWrote a0 a1 s) := by
  unfold spillWrote
  split
  · exact h
  · exact settleSpill_gone (chunkAcked_gone (chunkLines_gone h))

-- the operations of Start

theorem replay_gone {a0 : Nat} (h : Gone s) : Gone (replay a0 s) := by
  unfold replay
  exact State.onRanks_gone (State.onChan_gone h)

theorem stopQuad_gone {a0 : Nat} (h : Gone s) : Gone (stopQuad a0 s) := by
  unfold stopQuad
  exact restQuad_gone (gone_foldl (fun _ _ h1 => (abandonTest_gone (abandonStep_gone (replay_gone h1)))) h)

theorem restartQuad_gone {a0 : Nat} (h : Gone s) : Gone (restartQuad a0 s) := by
  unfold restartQuad
  extract_lets x1
  have h2 : Gone x1 := State.onQuadClk_gone h
  exact gone_foldl (fun _ _ h3 => (State.onRanks_gone (gone_ite h3 (takePoint_gone h3)))) h2

theorem settleQuad_gone {a0 : Nat} (h : Gone s) : Gone (settleQuad a0 s) := by
  unfold settleQuad
  extract_lets x1 x2 x3
  have h4 : Gone x3 := restSpares_gone (State.onQuadClk_gone h)
  exact gone_ite (gone_ite (State.onQuadClk_gone h) (restartQuad_gone h)) (gone_ite (gone_ite (resumeTests_gone h4) h4) h)

theorem retStep_gone {a0 : Nat} (h : Gone s) : Gone (retStep a0 s) := gone_mk h

theorem returnChecks_gone (h : Gone s) : Gone (returnChecks s) := by
  unfold returnChecks
  exact gone_foldl (fun _ _ h1 => (State.onRanks_gone h1)) (retStep_gone h)

theorem returnPay_gone (h : Gone s) : Gone (returnPay s) := by
  unfold returnPay
  extract_lets x1 x2 x3
  have h4 : Gone x2 := gone_mk h
  have h5 : Gone x3 := raise_gone h
  exact gone_ite (returnChecks_gone (raise_gone h4)) (gone_foldl (fun _ _ h6 => (State.onRanks_gone h6)) (retStep_gone h5))

theorem returnDone_gone (h : Gone s) : Gone (returnDone s) := by
  unfold returnDone
  extract_lets x1
  exact raiseReady_gone (resumeTests_gone (restSpares_gone (showClkmon_gone (retStep_gone (gone_mk h)))))

theorem returnStopped_gone (h : Gone s) : Gone (returnStopped s) := by
  unfold returnStopped
  extract_lets x1 x2 x3
  have h4 : Gone x2 := gone_ite (raise_gone (gone_mk h)) (raise_gone h)
  exact showClkmon_gone (retStep_gone (gone_mk h4))

theorem settleReturn_gone (h : Gone s) : Gone (settleReturn s) := by
  unfold settleReturn
  exact gone_ite h (gone_ite (returnStopped_gone h) (gone_ite (gone_ite (returnPay_gone h) h)
      (gone_ite (gone_ite (returnChecks_gone h) h) (gone_ite (returnDone_gone h) h))))

/-- The event of the zeroize comes with the return. -/
theorem keyzShown_gone {b : Bool} (h : Gone s) : Gone { s with keys := { s.keys with keyzLater := b } } := gone_of h rfl

theorem startReturn_gone (h : Gone s) : Gone (startReturn s) := by
  unfold startReturn
  extract_lets x1 x2 x3 x4 x5 x6 x7 x8
  have h9 : Gone x1 := by
    unfold x1
    refine gone_foldl (fun _ _ h12 => ?_) ?_
    · exact gone_ite (replay_gone h12) h12
    · exact h
  have h13 : Gone x2 := State.stamp_gone (State.bump_gone h9)
  have h14 : Gone x4 := gone_ite (spillStops_gone (event_gone (keyzShown_gone h13))) h13
  have h15 : Gone x6 := sourceChanged_gone (gone_mk h14)
  have h16 : Gone x7 := startPll_gone h15
  refine gone_foldl (fun _ _ h18 => ?_) ?_
  · extract_lets x19 x20 x21
    have h22 : Gone x20 := gone_foldl (fun _ _ h23 => (startPll_gone h23)) h18
    have h24 : Gone x21 := State.onQuadClk_gone h22
    exact gone_ite (stopQuad_gone h24) h24
  · exact h16

theorem startRamp_gone (h : Gone s) : Gone (startRamp s) := gone_mk h

theorem loseChange_gone (h : Gone s) : Gone (loseChange s) := by
  unfold loseChange
  extract_lets x1 x2
  have h3 : Gone x1 := abandonChange_gone h
  exact gone_ite (gone_mk h3) h

theorem loseSwap_gone (h : Gone s) : Gone (loseSwap s) := by
  unfold loseSwap
  split
  · exact gone_ite (postSwap_gone (State.onChan_gone (State.onEvac_gone h))) h
  · exact h

theorem loseCalibration_gone {a0 : Nat} (h : Gone s) : Gone (loseCalibration a0 s) := by
  unfold loseCalibration
  exact cancelLatch_gone (cancelLatch_gone (discardWindows_gone (abandonStep_gone h)))

theorem stopService_gone (h : Gone s) : Gone (stopService s) := by
  unfold stopService
  extract_lets x1 x2
  have h3 : Gone x1 := abandonTests_gone (endGaps_gone (startRamp_gone h))
  have h4 : Gone x2 := loseSwap_gone (loseChange_gone (gone_foldl (fun _ _ h5 => (loseCalibration_gone h5)) h3))
  exact retStep_gone (gone_ite (takePins_gone h4) h4)

theorem loseClock_gone (h : Gone s) : Gone (loseClock s) := by
  unfold loseClock
  extract_lets x1 x2 x3 x4 x5
  have h6 : Gone x1 := gone_ite (stopService_gone h) h
  have h7 : Gone x2 := gone_ite grantDark_gone h6
  exact gone_mk h7

theorem reset_gone : Gone State.reset := gone_of_not fun h => h.elim (fun hsec => absurd (show 0 = 6 from hsec) (by decide))
    fun hstop =>
  absurd (show false = true from hstop.1) (by decide)

theorem State.afterReset_gone : Gone (State.afterReset s) := gone_of reset_gone rfl

theorem startLoad_gone (h : Gone s) : Gone (startLoad s) := by
  unfold startLoad
  extract_lets x1
  exact loadStart_gone (gone_mk h)

theorem startTraining_gone {a0 : Nat} {a1 : List Nat} {a2 : Rank → Rank} (h : Gone s) :
    Gone (startTraining a0 a1 a2 s) := by
  unfold startTraining
  exact gone_foldl (fun _ _ h1 => (startJob_gone (State.onRanks_gone h1))) (State.onQuad_gone h)

theorem startKeptQuad_gone {a0 : Nat} (h : Gone s) : Gone (startKeptQuad a0 s) := by
  unfold startKeptQuad
  extract_lets x1
  have h2 : Gone x1 := startTraining_gone h
  exact gone_foldl (fun _ _ h3 => (State.onRanks_gone h3)) h2

theorem startQuads_gone (h : Gone s) : Gone (startQuads s) := by
  unfold startQuads
  extract_lets x1 x2 x3
  have h4 : Gone x1 := gone_foldl (fun _ _ h5 => (gone_ite (startKeptQuad_gone h5) h5)) h
  exact gone_ite h (gone_mk h4)

theorem releaseDreset_gone {a0 : Nat} (h : Gone s) : Gone (releaseDreset a0 s) := by
  unfold releaseDreset
  extract_lets x1 x2 x3
  have h4 : Gone x3 := gone_mk h
  exact State.onQuad_gone h4

theorem settleInit_gone {a0 : Nat} (h : Gone s) : Gone (settleInit a0 s) := by
  unfold settleInit
  split
  · exact h
  · exact gone_ite (startQuads_gone (startTraining_gone h)) h

theorem beginTrainStep_gone {a0 : Nat} {a1 : Nat} (h : Gone s) : Gone (beginTrainStep a0 a1 s) := by
  unfold beginTrainStep
  extract_lets x1
  have h2 : Gone x1 := State.onCal_gone h
  exact gone_ite (State.onChan_gone h2) (gone_ite (State.onCal_gone (State.onRanks_gone h2))
      (gone_ite (State.onCal_gone h2) h2))

theorem failTraining_gone {a0 : Nat} (h : Gone s) : Gone (failTraining a0 s) := by
  unfold failTraining
  exact dropScratch_gone (State.onChan_gone (State.setSt_gone (State.setSt_gone h)))

theorem settleTrain_gone {a0 : Nat} (h : Gone s) : Gone (settleTrain a0 s) := by
  unfold settleTrain
  extract_lets x1
  exact gone_ite h (gone_ite (failTraining_gone h) (gone_ite (beginTrainStep_gone h) h))

theorem settleTraining_gone {a0 : Nat} (h : Gone s) : Gone (settleTraining a0 s) := by
  unfold settleTraining
  exact gone_foldl (fun _ _ h1 => (settleTrain_gone h1)) h

theorem startMetadata_gone (h : Gone s) : Gone (startMetadata s) := by
  unfold startMetadata
  extract_lets x1 x2
  have h3 : Gone x2 := gone_foldl (fun _ _ h4 => (gone_ite (startClearing_gone h4) (State.setSt_gone (State.setSt_gone h4)))) h
  split
  · exact h3
  · extract_lets x5 x6
    have h7 : Gone x5 := State.onRanks_gone h3
    have h8 : Gone x6 := State.onEvac_gone h7
    exact gone_ite (State.onEvac_gone (State.setSt_gone h8)) h8

theorem keptFailures_gone (h : Gone s) : Gone (keptFailures s) := by
  unfold keptFailures
  exact gone_foldl (fun _ _ h1 => (gone_ite h1 (gone_ite (hardFailure_gone (leaveTest_gone (State.onChan_gone h1)))
      (gone_ite (spareFailed_gone (leaveTest_gone (State.onChan_gone h1))) h1)))) h

theorem retake_gone (h : Gone s) : Gone (retake s) := by
  unfold retake
  extract_lets x1
  exact gone_ite h (gone_ite (takeMode_gone h) (gone_ite (takeMode_gone h) h))

theorem completeStart_gone (h : Gone s) : Gone (completeStart s) := by
  unfold completeStart
  extract_lets x1 x2 x3 x4 x5 x6 x7 x8
  have h9 : Gone x1 := gone_ite (keptFailures_gone h) (startupRetirement_gone h)
  have h10 : Gone x2 := retake_gone h9
  have h11 : Gone x3 := startMetadata_gone h10
  have h12 : Gone x4 := gone_foldl (fun _ _ h13 => (gone_ite (hardSpare_gone h13) h13)) h11
  have h14 : Gone x5 := gone_foldl (fun _ _ h15 => (gone_ite h15 (gone_ite (State.onPort_gone h15) (State.onPort_gone h15))))
      h12
  have h16 : Gone x8 := startShaping_gone (gone_mk h14)
  exact resumeTests_gone (raiseReady_gone h16)

theorem blkStep_gone {a0 : Nat} (h : Gone s) : Gone (blkStep a0 s) := gone_mk h

theorem discardWaiting_gone (h : Gone s) : Gone (discardWaiting s) := by
  unfold discardWaiting
  extract_lets x1
  have h2 : Gone x1 := by
    unfold x1
    refine gone_foldl (fun _ _ h5 => ?_) ?_
    · extract_lets x6 x7
      exact State.onPort_gone h5
    · exact h
  exact gone_foldl (fun _ _ h8 => (State.onChan_gone (unGrant_gone h8))) h2

theorem noteKept_gone (h : Gone s) : Gone (noteKept s) := gone_mk h

theorem resetState_gone {a0 : Bool} : Gone (resetState a0 s) := gone_of_not fun h => by cases h with
  | inl hsec => exact absurd (show 0 = 6 from hsec) (by decide)
  | inr hstop => exact absurd (show false = true from hstop.1) (by decide)

theorem resetBlock_gone {a0 : Bool} : Gone (resetBlock a0 s) := by
  unfold resetBlock
  exact startLoad_gone resetState_gone

theorem stayStopped_gone : Gone (stayStopped s) := event_gone (gone_of_empty (zeroize_empty s))

theorem settleReset_gone (h : Gone s) : Gone (settleReset s) := by
  unfold settleReset
  extract_lets x1 x2
  have h3 : Gone x2 := gone_foldl (fun _ _ h4 => (State.onChan_gone h4)) h
  exact gone_ite h (gone_ite (gone_ite h3 (gone_ite (gone_foldl (fun _ _ h5 => (flushCache_gone h5)) h3)
      (gone_foldl (fun _ _ h6 => (State.onRanks_gone h6)) (blkStep_gone h3)))) (gone_ite resetBlock_gone h))

theorem startReset_gone (h : Gone s) : Gone (startReset s) := by
  unfold startReset
  extract_lets x1 x2 x3 x4
  have h5 : Gone x2 := noteKept_gone (gone_mk h)
  have h6 : Gone x3 := gone_mk h5
  have h7 : Gone x4 := discardWaiting_gone (gone_foldl (fun _ _ h8 => (abortScrub_gone h8)) (abortSpills_gone h6))
  exact gone_ite h (settleReset_gone (blkStep_gone (abandonTests_gone (gone_foldl (fun _ _ h9 => (abandonStep_gone h9)) h7))))

theorem gainClock_gone (h : Gone s) : Gone (gainClock s) := by
  unfold gainClock
  extract_lets x1 x2 x3 x4 x5 x6 x7
  have h4 : Gone x4 := gone_of h rfl
  have h7 : Gone x7 := gone_of_not fun ht => by cases ht with
    | inl hsec => exact absurd (show 0 = 6 from hsec) (by decide)
    | inr hstop => exact absurd (show false = true from hstop.1) (by decide)
  exact gone_ite (gone_of h rfl) (gone_ite (gone_ite stayStopped_gone (startLoad_gone h7))
    (gone_ite (gone_ite stayStopped_gone resetBlock_gone) (startReturn_gone h4)))

theorem coreOnPll_gone (h : Gone s) : Gone (coreOnPll s) := by
  unfold coreOnPll
  extract_lets x1 x2 x3 x4 x5
  have h6 : Gone x1 := State.onPll_gone h
  have h7 : Gone x3 := sourceChanged_gone (gone_mk h6)
  have h8 : Gone x5 := gone_mk h7
  apply gone_ite
  · exact startQuads_gone (gone_mk h7)
  · apply gone_ite
    · refine gone_foldl (fun _ _ h14 => ?_) ?_
      · extract_lets x15 x16
        have h17 : Gone x16 := State.onQuadClk_gone h14
        exact gone_ite h14 (gone_foldl (fun _ _ h18 => (State.onRanks_gone h18)) h17)
      · exact h8
    · exact gone_foldl (fun _ _ h19 => (gone_ite (restartQuad_gone h19) h19)) h7

theorem coreOnBypass_gone (h : Gone s) : Gone (coreOnBypass s) := by
  unfold coreOnBypass
  extract_lets x1 x2
  have h3 : Gone x2 := sourceChanged_gone (gone_mk h)
  exact gone_foldl (fun _ _ h4 => (gone_ite h4 (stopQuad_gone h4))) h3

theorem quadOn_gone {a0 : Nat} {a1 : ClkSrc} {a2 : SwWhy} (h : Gone s) : Gone (quadOn a0 a1 a2 s) := by
  unfold quadOn
  extract_lets x1 x2 x3 x4
  have h5 : Gone x1 := State.onQuadClk_gone h
  have h6 : Gone x2 := gone_foldl (fun _ _ h7 => (State.onPll_gone h7)) h5
  have h8 : Gone x4 := restartCk_gone h6
  split
  · exact gone_ite (startQuads_gone (gone_ite (restartQuad_gone h6) h6))
      (gone_ite (gone_ite (restQuad_gone h8) (gone_foldl (fun _ _ h9 => (State.onRanks_gone h9)) h8)) (startQuads_gone h6))
  · exact stopQuad_gone h6
  · exact startQuads_gone (gone_ite (restartQuad_gone h6) h6)
  · exact settleOp_gone h6

theorem writeClkmon_gone {a0 : Nat} {a1 : Nat} (h : Gone s) : Gone (writeClkmon a0 a1 s) := by
  unfold writeClkmon
  extract_lets x1 x2
  have h3 : Gone x1 := State.setCf_gone (State.setCf_gone h)
  exact showClkmon_gone (gone_mk h3)

theorem reload_gone (h : Gone s) : Gone (reload s) := by
  unfold reload
  exact gone_ite (startLoad_gone h) h

theorem putCodes_gone {a0 : Nat} {a1 : List Nat} (h : Gone s) : Gone (putCodes a0 a1 s) := by
  unfold putCodes
  extract_lets x1 x2
  have h3 : Gone x2 := gone_foldl (fun _ _ h4 => (State.setSt_gone h4)) h
  exact State.onQuad_gone h3

theorem noChecks_gone {a0 : Nat} (h : Gone s) : Gone (noChecks a0 s) := by
  unfold noChecks
  exact State.onRanks_gone h

theorem settleRanks_gone (h : Gone s) : Gone (settleRanks s) := by
  unfold settleRanks
  extract_lets x1
  have h2 : Gone x1 := gone_foldl (fun _ _ h3 => (settleQuad_gone h3)) h
  exact settleReset_gone (settleReturn_gone (settleEvac_gone (settleOp_gone h2)))

-- the operations of Register

theorem parityFound_gone {a0 : Nat} (h : Gone s) : Gone (parityFound a0 s) := by
  unfold parityFound
  extract_lets x1
  have h1 : Gone x1 := gone_mk h
  split
  · exact raise_gone h1
  · exact raise_gone (spillHalt_gone h1)
  · exact gone_ite (raise_gone (portHalt_gone h1))
      (gone_ite (raise_gone (gone_foldl (fun _ _ h => abortScrub_gone h) (State.onPort_gone h1))) (raise_gone h1))
  · exact raise_gone h1

theorem parityCheck_gone {a0 : Nat} (h : Gone s) : Gone (parityCheck a0 s) := by
  unfold parityCheck
  exact gone_ite (parityFound_gone h) h

theorem upset_gone {a0 : Nat} {a1 : Word} (h : Gone s) : Gone (upset a0 a1 s) := by
  unfold upset
  extract_lets x1 x2
  have h1 : Gone x2 := gone_mk h
  exact gone_ite h1 (gone_ite (gone_mk h1) (gone_mk h1))

theorem clearRc_gone {a0 : Nat} (h : Gone s) : Gone (clearRc a0 s) := by
  unfold clearRc
  exact gone_ite h (gone_mk h)

theorem capture_gone {a0 : Nat} (h : Gone s) : Gone (capture a0 s) := by
  unfold capture
  exact gone_ite h (gone_mk h)

theorem readBase_gone {a0 : Nat} (h : Gone s) : Gone (readBase a0 s).2 := by
  unfold readBase
  extract_lets x1
  have h1 : Gone x1 := parityCheck_gone h
  split
  · split
    · exact gone_foldl (fun _ _ h => clearRc_gone h) (gone_foldl (fun _ _ h => capture_gone h) h1)
    · exact h1
  · exact clearRc_gone h1

theorem State.onApb_gone {a1 : ApbPort} {a2 : Apb → Apb} (h : Gone s) : Gone (State.onApb s a1 a2) := by
  unfold State.onApb
  split
  · exact gone_mk h
  · exact gone_mk h

theorem answerApb_gone {a0 : ApbPort} {a1 : Bool} {a2 : Word} (h : Gone s) : Gone (answerApb a0 a1 a2 s) := by
  unfold answerApb
  exact State.onApb_gone h

theorem apbRead_gone {a0 : ApbRead} (h : Gone s) : Gone (apbRead a0 s) := by
  unfold apbRead
  extract_lets x1
  apply gone_ite
  · exact answerApb_gone h
  · split
    · split
      · exact answerApb_gone h
      · split
        · rename_i heq
          have h2 := congrArg Prod.snd heq ▸ readBase_gone h
          exact answerApb_gone h2
    · exact answerApb_gone h

theorem flagWrite_gone {a0 : Nat} {a1 : Nat} (h : Gone s) : Gone (flagWrite a0 a1 s) := by
  unfold flagWrite
  extract_lets x1
  have h2 : Gone x1 := State.setBits_gone h
  exact gone_ite (State.setSt_gone (State.setSt_gone h2)) (State.setSt_gone h2)

theorem storeBypass_gone {a0 : Nat} {a1 : Nat} {a2 : Word} {a3 : Word} (h : Gone s) :
    Gone (storeBypass a0 a1 a2 a3 s) := by
  unfold storeBypass
  exact gone_ite (State.setCfgWord_gone h) (gone_ite (enterBypass_gone h) (leaveBypass_gone h))

theorem storePause_gone {a0 : Nat} {a1 : Nat} {a2 : Word} {a3 : Word} (h : Gone s) :
    Gone (storePause a0 a1 a2 a3 s) := by
  unfold storePause
  exact gone_ite (State.setCfgWord_gone h) (gone_ite (calPause_gone h) (calUnpause_gone h))

theorem storeShaper_gone {a0 : Nat} {a1 : Nat} {a2 : Word} {a3 : Word} (h : Gone s) :
    Gone (storeShaper a0 a1 a2 a3 s) := by
  unfold storeShaper
  extract_lets x1 x2 x3 x4
  have h5 : Gone x4 := State.setCfgWord_gone h
  exact gone_ite h5 (State.onPort_gone h5)

theorem storeReg_gone {a0 : Nat} {a1 a2 : Word} (h : Gone s) : Gone (storeReg a0 a1 a2 s) := by
  unfold storeReg
  split
  · exact gone_ite (gone_mk h) h
  · split
    · exact holdLow_gone h
    · exact writeHigh_gone h
    · extract_lets x1
      have h1 : Gone x1 := gone_foldl (fun _ _ h => beforeSelect_gone h) h
      have h2 := State.setCfgWord_gone (a1 := a0) (a2 := a2) h1
      split
      · exact gone_ite (writePin_gone h1) (gone_ite (writeClkmon_gone h1) h2)
      · exact gone_ite h1 h2
      · exact gone_ite (storeShaper_gone h1) h2
      · exact gone_ite (storeBypass_gone h1) (gone_ite (storePause_gone h1) h2)
      · exact h2

theorem bitDoes_gone {a0 : Word} {a1 : Nat} {a2 : State → State} (k2 : ∀ y0, Gone y0 → Gone (a2 y0)) (h : Gone s) :
    Gone (bitDoes a0 a1 a2 s) := by
  unfold bitDoes
  exact gone_ite (k2 _ h) h

theorem actTb_gone {a0 : Nat} {a1 : Word} (h : Gone s) : Gone (actTb a0 a1 s) := by
  unfold actTb
  apply gone_ite
  · refine bitDoes_gone (fun _ h7 => ?_) ?_
    · extract_lets x8
      exact gone_mk h7
    · exact h
  · apply gone_ite
    · refine bitDoes_gone (fun _ h14 => ?_) ?_
      · extract_lets x15
        exact gone_mk h14
      · exact h
    · exact gone_ite (bitDoes_gone (fun _ h16 => (exitDsm_gone h16)) (bitDoes_gone (fun _ h17 => (enterDsm_gone h17)) h))
        (gone_ite (bitDoes_gone (fun _ h18 => (restartCore_gone h18)) h) h)

theorem actFt_gone {a0 : Nat} {a1 : Word} (h : Gone s) : Gone (actFt a0 a1 s) := by
  unfold actFt
  exact gone_ite (ack_gone h) (gone_ite (bitDoes_gone (fun _ h1 => (requestEvac_gone h1)) h)
      (gone_ite (clearLog_gone h) (gone_ite (clearScruple_gone h) h)))

theorem actPt_gone {a0 : Nat} {a1 : Nat} {a2 : Word} (h : Gone s) : Gone (actPt a0 a1 a2 s) := by
  unfold actPt
  extract_lets x1
  have h2 : Gone x1 := gone_ite (portStop_gone h) (bitDoes_gone (fun _ h3 => (portResume_gone h3)) h)
  exact gone_ite (bitDoes_gone (fun _ h4 => (flushStart_gone h4)) h2) (gone_ite (clearCounters_gone h) h)

theorem actCh_gone {a0 : Nat} {a1 : Nat} {a2 : Word} (h : Gone s) : Gone (actCh a0 a1 a2 s) := by
  unfold actCh
  exact gone_ite (writeTst_gone h) (gone_ite (clearCounters_gone h) h)

theorem actQd_gone {a0 : Nat} {a1 : Nat} {a2 : Word} (h : Gone s) : Gone (actQd a0 a1 a2 s) := by
  unfold actQd
  extract_lets x1
  have h2 : Gone x1 := gone_ite (sweepQuad_gone h) h
  exact gone_ite (bitDoes_gone (fun _ h3 => (goOp_gone h3)) h)
      (gone_ite (gone_ite (abortScrub_gone h) (bitDoes_gone (fun _ h4 => (startScrub_gone h4)) h))
      (gone_ite (gone_foldl (fun _ _ h5 => (bitDoes_gone (fun _ h6 => (requestRetrain_gone h6)) h5)) h2)
      (gone_ite (bitDoes_gone (fun _ h7 => (restartPhy_gone h7)) (bitDoes_gone (fun _ h8 => (restartPhy_gone h8)) h)) h)))

theorem actReg_gone {a0 : Nat} {a1 : Word} {a2 : Bool} (h : Gone s) : Gone (actReg a0 a1 a2 s) := by
  unfold actReg
  apply gone_ite
  · exact h
  · split
    · exact gone_ite (gone_ite (startReset_gone h) h) (gone_ite (reload_gone h) h)
    · exact actTb_gone h
    · exact actFt_gone h
    · exact gone_ite (bitDoes_gone (fun _ h1 => (clearBushel_gone h1)) (bitDoes_gone (fun _ h2 => (snapshot_gone h2)) h)) h
    · exact gone_ite (writeSpillCtrl_gone h) h
    · exact gone_ite (writeKeyCtl_gone h) (gone_ite (writeRekeyCtl_gone h) h)
    · exact actPt_gone h
    · exact actCh_gone h
    · exact actQd_gone h
    · exact h

theorem writeReg_gone {a0 : Image} {a1 : Nat} {a2 : RegDesc} {a3 : ApbWrite} (h : Gone s) :
    Gone (writeReg a0 a1 a2 a3 s) := by
  unfold writeReg
  extract_lets x1 x2 x3
  apply gone_ite
  · exact h
  · split
    · extract_lets x4
      have h5 : Gone x4 := gone_ite (State.onPerf_gone h) h
      exact gone_ite h (actReg_gone (gone_ite h5 (storeReg_gone h5)))

theorem apbWrite_gone {a0 : ApbWrite} (h : Gone s) : Gone (apbWrite a0 s) := by
  unfold apbWrite
  extract_lets x1 x2 x3
  have h4 : Gone x3 := dropHeld_gone h
  apply gone_ite
  · exact answerApb_gone h
  · split
    · exact answerApb_gone h
    · split
      · exact answerApb_gone (flagWrite_gone h4)
      · exact writeReg_gone (answerApb_gone h4)

theorem runAccess_gone {a0 : Access} (h : Gone s) : Gone (runAccess a0 s) := by
  unfold runAccess
  split
  · exact apbWrite_gone h
  · exact apbRead_gone h

theorem beginAccess_gone {a0 : Access} (h : Gone s) : Gone (beginAccess a0 s) := by
  unfold beginAccess
  extract_lets x1
  exact gone_ite h (gone_ite (gone_ite (answerApb_gone h) (State.onApb_gone h))
      (gone_ite (State.onApb_gone h) (runAccess_gone h)))

theorem settleAccess_gone {a0 : ApbPort} (h : Gone s) : Gone (settleAccess a0 s) := by
  unfold settleAccess
  split
  · exact gone_ite h (runAccess_gone h)
  · exact h

theorem aliasAccess_gone {a0 : Nat} {a1 : ApbWrite} (h : Gone s) : Gone (aliasAccess a0 a1 s) := by
  unfold aliasAccess
  exact gone_ite h (beginAccess_gone h)

theorem settleWalks_gone (h : Gone s) : Gone (settleWalks s) := by
  unfold settleWalks
  extract_lets x1
  have h2 : ∀ y0 y1, Gone y0 → Gone (x1 y0 y1) := by
    intro y0 y1 h2_0
    unfold x1
    extract_lets x3
    have h4 : Gone x3 := parityCheck_gone h2_0
    exact gone_ite h4 (upset_gone h4)
  exact gone_foldl (fun _ _ h5 => (h2 _ _ h5)) (gone_mk h)

-- the operations of Tick

theorem advanceClock_gone (h : Gone s) : Gone (advanceClock s) := by
  unfold advanceClock
  extract_lets x1 x2
  have h3 : Gone x1 := gone_mk h
  exact gone_ite (gone_mk h3) (gone_mk h3)

theorem advanceLine_gone (h : Gone s) : Gone (advanceLine s) := by
  unfold advanceLine
  extract_lets x1
  exact gone_ite (gone_mk h) h

theorem watchHold_gone {a0 : Nat} (h : Gone s) : Gone (watchHold a0 s) := by
  unfold watchHold
  extract_lets x1
  split
  · exact gone_ite h (State.onChan_gone h)
  · extract_lets x2 x3
    exact State.onChan_gone h

theorem countWaits_gone {a0 : Nat} (h : Gone s) : Gone (countWaits a0 s) := by
  unfold countWaits
  exact gone_foldl (fun _ _ h1 => (State.bump48_gone h1)) h

theorem markIdle_gone {a0 : Nat} (h : Gone s) : Gone (markIdle a0 s) := by
  unfold markIdle
  extract_lets x1 x2 x3
  exact State.onChan_gone h

theorem wakeRank_gone {a0 : Nat} {a1 : Nat} (h : Gone s) : Gone (wakeRank a0 a1 s) := by
  unfold wakeRank
  exact gone_ite (State.onRank_gone h) h

theorem takeEntries_gone {a0 : Nat} {a1 : Op → Bool} (h : Gone s) : Gone (takeEntries a0 a1 s) := by
  unfold takeEntries
  extract_lets x1
  refine gone_foldl (fun _ _ h3 => ?_) ?_
  · split
    · exact State.onOp_gone h3
    · exact h3
  · exact h

theorem serveEntries_gone {a0 : Nat} (h : Gone s) : Gone (serveEntries a0 s) := by
  unfold serveEntries
  extract_lets x1 x2
  have h3 : Gone x1 := takeEntries_gone h
  have h4 : Gone x2 := gone_ite (startEvictions_gone (promote_gone h3)) h3
  exact takeEntries_gone h4

theorem latchMode_gone {a0 : Nat} (h : Gone s) : Gone (latchMode a0 s) := by
  unfold latchMode
  exact gone_ite (State.onChan_gone h) h

theorem settleReserve_gone {a0 : Nat} (h : Gone s) : Gone (settleReserve a0 s) := by
  unfold settleReserve
  exact gone_ite (reserveSpare_gone h) h

theorem serveChan_gone {a0 : Nat} (h : Gone s) : Gone (serveChan a0 s) := by
  unfold serveChan
  extract_lets x1
  have h2 : Gone x1 := gone_ite (clearNext_gone h) h
  exact gone_ite (wakeRank_gone (wakeRank_gone h2)) h

theorem handWork_gone {a0 : Nat} (h : Gone s) : Gone (handWork a0 s) := by
  unfold handWork
  exact gone_ite (handScratch_gone (handMirror_gone (settleCheck_gone h))) h

theorem restIntake_gone {a0 : Nat} (h : Gone s) : Gone (restIntake a0 s) := by
  unfold restIntake
  extract_lets x1
  have h2 : Gone x1 := gone_ite (countWaits_gone (watchHold_gone h)) h
  exact State.onChan_gone (markIdle_gone h2)

theorem tickChan_gone {a0 : Nat} (h : Gone s) : Gone (tickChan a0 s) := by
  unfold tickChan
  extract_lets x1 x2
  have h3 : Gone x1 := startOsc_gone (restIntake_gone h)
  have h4 : Gone x2 := latchMode_gone (handWork_gone (serveChan_gone (serveEntries_gone h3)))
  exact settleReserve_gone (settleFill_gone (settleTest_gone (settleHard_gone h4)))

theorem tickQuad_gone {a0 : Nat} (h : Gone s) : Gone (tickQuad a0 s) := by
  unfold tickQuad
  extract_lets x1
  have h2 : Gone x1 := gone_ite (mopStep_gone h) h
  exact settleTraining_gone (settleInit_gone (settleQuad_gone (settleBypass_gone h2)))

theorem settleBlock_gone (h : Gone s) : Gone (settleBlock s) := by
  unfold settleBlock
  extract_lets x1
  have h2 : Gone x1 := settleHalt_gone (settleQuiesce_gone (settleDsm_gone (settleEvac_gone (settleOp_gone h))))
  exact settleReset_gone (settleReturn_gone h2)

theorem tickSpill_gone (h : Gone s) : Gone (tickSpill s) := by
  unfold tickSpill
  exact gone_foldl (fun _ _ h1 => (settleSpill_gone h1)) (spillRequests_gone h)

theorem endCc_gone (h : Gone s) : Gone (endCc s) := by
  unfold endCc
  exact settleLog_gone (settleScruple_gone (settleWalks_gone (countAll_gone (gone_foldl (fun _ _ h1 => (tunCc_gone h1)) h))))

theorem showResponses_gone (h : Gone s) : Gone (showResponses s) := by
  unfold showResponses
  exact gone_foldl (fun _ _ h1 => (showB_gone h1)) h

theorem tickStopped_gone (h : Gone s) : Gone (tickStopped s) := by
  unfold tickStopped
  extract_lets x1
  have h2 : Gone x1 := settleLog_gone (settleScruple_gone h)
  exact settleAccess_gone (settleAccess_gone (gone_mk h2))

theorem tick_gone (h : Gone s) : Gone (tick s) := by
  unfold tick
  extract_lets x1 x2 x3 x4 x5 x6 x7
  have h8 : Gone x1 := endCc_gone h
  have h9 : Gone x2 := advanceLine_gone (advanceClock_gone (gone_mk h8))
  have h10 : Gone x3 := settleAccess_gone (settleAccess_gone (gateCopyStep_gone (calCopyStep_gone h9)))
  have h11 : Gone x4 := beginGrants_gone h10
  have h12 : Gone x5 := gone_foldl (fun _ _ h13 => (tickChan_gone h13)) h11
  have h14 : Gone x6 := gone_foldl (fun _ _ h15 => (tickQuad_gone h15)) h12
  have h16 : Gone x7 := settleBlock_gone (tickSpill_gone h14)
  exact gone_ite h (gone_ite (tickStopped_gone h) (showResponses_gone (gone_mk h16)))

end

end Sys2Proof.Machine
end

section
/-!
The commands keep the guard of the keys (O54), function by function.
-/

namespace Sys2Proof.Machine


section

variable {s : State}

theorem loadBytes_gone (bs : List Byte) (h : Gone s) : Gone (loadBytes bs s).state := by
  unfold loadBytes
  dsimp only
  split
  · exact h
  · split
    · exact loadFail_gone h
    · split
      · exact loadFail_gone (gone_mk h)
      · exact busRead_gone (gone_mk h)
  · split
    · exact loadFail_gone (gone_mk h)
    · exact passStart_gone (gone_mk h)
  · split
    · exact loadFail_gone (gone_mk h)
    · split
      · exact recordRead_gone (gone_mk h)
      · split
        · exact loadFail_gone (gone_mk h)
        · exact passStart_gone (gone_mk h)
  · split
    · exact recordRead_gone (gone_mk h)
    · split
      · exact loadFail_gone (gone_mk h)
      · exact recordValues_gone (gone_mk h)

-- the operations of Ports

theorem execRequest_gone {a0 : Fin 28} {a1 : BitVec 34} {a2 : BitVec 6} {a3 : Bool} {a4 : BitVec 8} {a5 : Bool} (h : Gone s) :
    GoneAfter (execRequest a0 a1 a2 a3 a4 a5 s) := by
  unfold execRequest
  exact goneAfter_ite (goneAfter_next (acceptRequest_gone h))
      (goneAfter_ite (goneAfter_next (State.note_gone h)) (goneAfter_next h))

theorem execWriteBeat_gone {a0 : Fin 28} {a1 : Beat} {a2 : BitVec 64} {a3 : Bool} (h : Gone s) :
    GoneAfter (execWriteBeat a0 a1 a2 a3 s) := by
  unfold execWriteBeat
  exact goneAfter_next (gone_ite (takeBeat_gone h) h)

theorem execSplit_gone {a0 : Fin 30} (h : Gone s) : GoneAfter (execSplit a0 s) := by
  unfold execSplit
  exact goneAfter_next (gone_ite (splitNext_gone h) h)

theorem execReadResponseStart_gone {a0 : Fin 30} {a1 : BitVec 8} (h : Gone s) :
    GoneAfter (execReadResponseStart a0 a1 s) := by
  unfold execReadResponseStart
  apply goneAfter_ite
  · split
    · exact goneAfter_next (State.onPort_gone h)
    · exact goneAfter_next h
  · exact goneAfter_next h

theorem execTunPointerMismatch_gone {a0 : Fin 4} (h : Gone s) : GoneAfter (execTunPointerMismatch a0 s) := by
  unfold execTunPointerMismatch
  exact goneAfter_next (gone_ite (tunReset_gone h) h)

theorem execFlush_gone {a0 : Fin 4} (h : Gone s) : GoneAfter (execFlush a0 s) := by
  unfold execFlush
  exact goneAfter_next (gone_ite (flushStart_gone (dropHeld_gone h)) h)

theorem execFlushDone_gone {a0 : Fin 4} (h : Gone s) : GoneAfter (execFlushDone a0 s) := by
  unfold execFlushDone
  exact goneAfter_next (gone_ite (State.onPort_gone (State.setBits_gone h)) h)

theorem execResume_gone {a0 : Fin 30} (h : Gone s) : GoneAfter (execResume a0 s) := by
  unfold execResume
  exact goneAfter_next (gone_ite (portResume_gone (dropHeld_gone h)) h)

theorem execDrainComplete_gone {a0 : Fin 30} (h : Gone s) : GoneAfter (execDrainComplete a0 s) := by
  unfold execDrainComplete
  exact goneAfter_next (gone_ite (State.onPort_gone h) h)

-- the operations of Raster

theorem execRsiEventNone_gone {a0 : BitVec 64} (h : Gone s) : GoneAfter (execRsiEventNone a0 s) := by
  unfold execRsiEventNone
  exact goneAfter_next (gone_ite (takeWord_gone h) h)

theorem execLineStart_gone {a0 : BitVec 64} (h : Gone s) : GoneAfter (execLineStart a0 s) := by
  unfold execLineStart
  exact goneAfter_next (gone_ite (measure_gone (lineWord_gone (takeWord_gone h))) h)

theorem execModeChange_gone {a0 : BitVec 64} (h : Gone s) : GoneAfter (execModeChange a0 s) := by
  unfold execModeChange
  extract_lets x1 x2
  have h3 : Gone x1 := takeWord_gone h
  exact goneAfter_next (gone_ite (gone_ite (gone_mk h3) h3) h)

theorem execCorruptWord_gone {a0 : BitVec 64} (h : Gone s) : GoneAfter (execCorruptWord a0 s) := by
  unfold execCorruptWord
  extract_lets x1 x2 x3 x4
  have h5 : Gone x2 := State.bump_gone h
  have h6 : Gone x4 := gone_mk h5
  exact goneAfter_ite (goneAfter_next (gone_ite (raise_gone h6) h6)) (goneAfter_next h)

theorem execGrainWrap_gone (h : Gone s) : GoneAfter (execGrainWrap s) := by
  unfold execGrainWrap
  extract_lets x1 x2
  have h3 : Gone x2 := gone_mk h
  exact goneAfter_ite (goneAfter_next (beginLine_gone h3)) (goneAfter_next h)

theorem execHoldoverEntry_gone (h : Gone s) : GoneAfter (execHoldoverEntry s) := by
  unfold execHoldoverEntry
  extract_lets x1 x2
  have h3 : Gone x2 := gone_mk h
  exact goneAfter_ite (goneAfter_next (event_gone (State.bump_gone h3))) (goneAfter_next h)

theorem execHoldoverLimit_gone (h : Gone s) : GoneAfter (execHoldoverLimit s) := by
  unfold execHoldoverLimit
  exact goneAfter_ite (goneAfter_next (raise_gone (State.bump_gone (enterNosync_gone h)))) (goneAfter_next h)

-- the operations of Lines

theorem execMetadataLookup_gone {a0 : Fin 4} {a1 : Fin 8} (h : Gone s) : GoneAfter (execMetadataLookup a0 a1 s) := by
  unfold execMetadataLookup
  exact goneAfter_next (gone_ite (laneStep_gone h) h)

theorem execReadDataReturn_gone {a0 : Fin 16} {a1 : Nat} {a2 : Line} (h : Gone s) :
    GoneAfter (execReadDataReturn a0 a1 a2 s) := by
  unfold execReadDataReturn
  split
  · extract_lets x1
    apply goneAfter_ite
    · split
      · exact goneAfter_next (recomputeRead_gone h)
      · exact goneAfter_next (finishOp_gone h)
      · exact goneAfter_next (finishOp_gone h)
      · exact goneAfter_next (checkLine_gone h)
      · exact goneAfter_next (checkLine_gone h)
      · exact goneAfter_next (checkLine_gone h)
      · exact goneAfter_next (checkLine_gone h)
      · exact goneAfter_next (checkLine_gone h)
      · exact goneAfter_next h
    · exact goneAfter_next h
  · exact goneAfter_next h

theorem execSecondRefetchDue_gone {a0 : Fin 16} {a1 : Nat} (h : Gone s) : GoneAfter (execSecondRefetchDue a0 a1 s) := by
  unfold execSecondRefetchDue
  split
  · exact goneAfter_ite (goneAfter_next (refetch_gone h)) (goneAfter_next h)
  · exact goneAfter_next h

theorem execFillInstall_gone {a0 : Fin 16} {a1 : Nat} {a2 : Line} (h : Gone s) :
    GoneAfter (execFillInstall a0 a1 a2 s) := by
  unfold execFillInstall
  split
  · exact goneAfter_ite (goneAfter_next (fillReturn_gone h)) (goneAfter_next h)
  · exact goneAfter_next h

theorem execRecomputeComplete_gone {a0 : Fin 4} {a1 : Nat} (h : Gone s) :
    GoneAfter (execRecomputeComplete a0 a1 s) := by
  unfold execRecomputeComplete
  split
  · exact goneAfter_next (gone_ite (rebuilt_gone h) h)
  · exact goneAfter_next h

-- the operations of Engine

theorem execAct_gone {a0 : Fin 16} (h : Gone s) : GoneAfter (execAct a0 s) := by
  unfold execAct
  split
  · exact goneAfter_next (issueAct_gone h)
  · exact goneAfter_next h

theorem execRd_gone {a0 : Fin 16} (h : Gone s) : GoneAfter (execRd a0 s) := by
  unfold execRd
  split
  · exact goneAfter_next (issueRd_gone h)
  · exact goneAfter_next h

theorem execWr_gone {a0 : Fin 16} (h : Gone s) : GoneAfter (execWr a0 s) := by
  unfold execWr
  split
  · exact goneAfter_next (issueWr_gone h)
  · exact goneAfter_next h

theorem execPre_gone {a0 : Fin 16} (h : Gone s) : GoneAfter (execPre a0 s) := by
  unfold execPre
  split
  · exact goneAfter_next (issuePre_gone h)
  · exact goneAfter_next h

theorem execRefpb_gone {a0 : Fin 16} (h : Gone s) : GoneAfter (execRefpb a0 s) := by
  unfold execRefpb
  split
  · exact goneAfter_next (issueRefpb_gone h)
  · exact goneAfter_next h

theorem execRefab_gone {a0 : Fin 16} (h : Gone s) : GoneAfter (execRefab a0 s) := by
  unfold execRefab
  split
  · exact goneAfter_next (issueRefab_gone h)
  · exact goneAfter_next h

theorem execRfmpb_gone {a0 : Fin 16} (h : Gone s) : GoneAfter (execRfmpb a0 s) := by
  unfold execRfmpb
  split
  · exact goneAfter_next (issueRfm_gone h)
  · exact goneAfter_next h

theorem execRcdExpiry_gone {a0 : Fin 16} {a1 : Fin 2} {a2 : Fin 16} (h : Gone s) :
    GoneAfter (execRcdExpiry a0 a1 a2 s) := by
  unfold execRcdExpiry
  extract_lets x1
  exact goneAfter_next (gone_ite (State.onBank_gone h) h)

theorem execPrechargeDone_gone {a0 : Fin 16} {a1 : Fin 2} {a2 : Fin 16} (h : Gone s) :
    GoneAfter (execPrechargeDone a0 a1 a2 s) := by
  unfold execPrechargeDone
  extract_lets x1 x2 x3
  exact goneAfter_next (gone_ite (State.onBank_gone h) h)

theorem execRefreshDone_gone {a0 : Fin 16} {a1 : Fin 2} {a2 : Fin 16} (h : Gone s) :
    GoneAfter (execRefreshDone a0 a1 a2 s) := by
  unfold execRefreshDone
  extract_lets x1 x2 x3
  exact goneAfter_next (gone_ite (State.onBank_gone h) h)

theorem execDataBusModeChange_gone {a0 : Fin 16} (h : Gone s) : GoneAfter (execDataBusModeChange a0 s) := by
  unfold execDataBusModeChange
  extract_lets x1 x2
  exact goneAfter_ite (goneAfter_next (State.note_gone (State.onChan_gone h))) (goneAfter_next h)

theorem execWriteRecoveryExpiry_gone {a0 : Fin 16} {a1 : Nat} (h : Gone s) :
    GoneAfter (execWriteRecoveryExpiry a0 a1 s) := by
  unfold execWriteRecoveryExpiry
  split
  · exact goneAfter_ite (goneAfter_next (recovered_gone h)) (goneAfter_next h)
  · exact goneAfter_next h

theorem execIdleClose_gone {a0 : Fin 16} {a1 : Fin 2} {a2 : Fin 16} (h : Gone s) :
    GoneAfter (execIdleClose a0 a1 a2 s) := by
  unfold execIdleClose
  extract_lets x1 x2
  exact goneAfter_ite (goneAfter_next (issuePre_gone h)) (goneAfter_next h)

theorem execGillAgeExpiry_gone {a0 : Fin 16} {a1 : Fin 16} (h : Gone s) : GoneAfter (execGillAgeExpiry a0 a1 s) := by
  unfold execGillAgeExpiry
  split
  · exact goneAfter_ite (goneAfter_next (State.onChan_gone h)) (goneAfter_next h)
  · exact goneAfter_next h

theorem execGillToWriteQueue_gone {a0 : Fin 16} {a1 : Fin 16} (h : Gone s) :
    GoneAfter (execGillToWriteQueue a0 a1 s) := by
  unfold execGillToWriteQueue
  extract_lets x1
  split
  · exact goneAfter_ite (goneAfter_next (toWriteQueue_gone h)) (goneAfter_next h)
  · exact goneAfter_next h

-- the operations of Power

theorem execDebtRise_gone {a0 : Fin 16} {a1 : Fin 2} (h : Gone s) : GoneAfter (execDebtRise a0 a1 s) := by
  unfold execDebtRise
  exact goneAfter_next (gone_ite (riseDebt_gone h) h)

theorem execMr4PollDue_gone {a0 : Fin 16} {a1 : Fin 2} (h : Gone s) : GoneAfter (execMr4PollDue a0 a1 s) := by
  unfold execMr4PollDue
  extract_lets x1
  exact goneAfter_next (gone_ite (State.onRank_gone h) h)

theorem execMrr_gone {a0 : Fin 16} {a1 : Fin 2} (h : Gone s) : GoneAfter (execMrr a0 a1 s) := by
  unfold execMrr
  extract_lets x1
  have h2 : Gone x1 := State.onRank_gone h
  exact goneAfter_ite (goneAfter_next (State.takeSlot_gone h2)) (goneAfter_next h)

theorem execMr4Result_gone {a0 : Fin 16} {a1 : Fin 2} {a2 : Fin 8} (h : Gone s) :
    GoneAfter (execMr4Result a0 a1 a2 s) := by
  unfold execMr4Result
  extract_lets x1 x2
  have h3 : Gone x2 := State.onRank_gone (State.bump_gone h)
  exact goneAfter_ite (goneAfter_next (readClass_gone h3)) (goneAfter_next h)

theorem execPreab_gone {a0 : Fin 16} {a1 : Fin 2} (h : Gone s) : GoneAfter (execPreab a0 a1 s) := by
  unfold execPreab
  exact goneAfter_next (gone_ite (issuePreab_gone h) h)

theorem execPde_gone {a0 : Fin 16} {a1 : Fin 2} (h : Gone s) : GoneAfter (execPde a0 a1 s) := by
  unfold execPde
  extract_lets x1 x2
  exact goneAfter_ite (goneAfter_next (State.takeSlot_gone (cancelLatch_gone (State.onRank_gone h)))) (goneAfter_next h)

theorem execPdx_gone {a0 : Fin 16} {a1 : Fin 2} (h : Gone s) : GoneAfter (execPdx a0 a1 s) := by
  unfold execPdx
  extract_lets x1 x2
  have h3 : Gone x2 := State.onRank_gone h
  exact goneAfter_ite (goneAfter_next (State.takeSlot_gone h3)) (goneAfter_next h)

theorem execSelfRefreshIdleExpiry_gone {a0 : Fin 16} {a1 : Fin 2} (h : Gone s) :
    GoneAfter (execSelfRefreshIdleExpiry a0 a1 s) := by
  unfold execSelfRefreshIdleExpiry
  extract_lets x1 x2
  exact goneAfter_ite (goneAfter_next (State.onRank_gone h)) (goneAfter_next h)

theorem execSrx_gone {a0 : Fin 16} {a1 : Fin 2} (h : Gone s) : GoneAfter (execSrx a0 a1 s) := by
  unfold execSrx
  exact goneAfter_next (gone_ite (exitRank_gone h) h)

theorem execDeepSleepEntry_gone {a0 : Fin 16} {a1 : Fin 2} (h : Gone s) : GoneAfter (execDeepSleepEntry a0 a1 s) := by
  unfold execDeepSleepEntry
  extract_lets x1
  exact goneAfter_next (gone_ite (sleepRank_gone h) h)

theorem execDeepSleepExit_gone {a0 : Fin 16} {a1 : Fin 2} (h : Gone s) : GoneAfter (execDeepSleepExit a0 a1 s) := by
  unfold execDeepSleepExit
  extract_lets x1
  exact goneAfter_ite (goneAfter_next (State.takeSlot_gone (State.onRank_gone h))) (goneAfter_next h)

theorem execDsmxExpiry_gone {a0 : Fin 16} {a1 : Fin 2} (h : Gone s) : GoneAfter (execDsmxExpiry a0 a1 s) := by
  unfold execDsmxExpiry
  split
  · extract_lets x1
    have h2 : Gone x1 := State.onRank_gone h
    exact goneAfter_ite (goneAfter_next (zqDue_gone h2)) (goneAfter_next h)
  · exact goneAfter_next h

theorem execCasWsFs_gone {a0 : Fin 16} {a1 : Fin 2} (h : Gone s) : GoneAfter (execCasWsFs a0 a1 s) := by
  unfold execCasWsFs
  extract_lets x1 x2
  exact goneAfter_ite (goneAfter_next (State.takeSlot_gone (State.onRank_gone h))) (goneAfter_next h)

-- the operations of Clocks

theorem execAmplitudeReport_gone {a0 : PllId} (h : Gone s) : GoneAfter (execAmplitudeReport a0 s) := by
  unfold execAmplitudeReport
  exact goneAfter_ite (goneAfter_next (State.onPll_gone h)) (goneAfter_next h)

theorem execLockDelayExpiry_gone {a0 : PllId} (h : Gone s) : GoneAfter (execLockDelayExpiry a0 s) := by
  unfold execLockDelayExpiry
  exact goneAfter_ite (goneAfter_next (State.onPll_gone h)) (goneAfter_next h)

theorem execPllAttemptTimeout_gone {a0 : PllId} (h : Gone s) : GoneAfter (execPllAttemptTimeout a0 s) := by
  unfold execPllAttemptTimeout
  exact goneAfter_ite (goneAfter_next (attemptFailed_gone h)) (goneAfter_next h)

theorem execPllRetryPauseExpiry_gone {a0 : PllId} (h : Gone s) : GoneAfter (execPllRetryPauseExpiry a0 s) := by
  unfold execPllRetryPauseExpiry
  extract_lets x1
  exact goneAfter_ite (goneAfter_next (State.onPll_gone h)) (goneAfter_next h)

theorem execAmplitudeDrop_gone {a0 : PllId} (h : Gone s) : GoneAfter (execAmplitudeDrop a0 s) := by
  unfold execAmplitudeDrop
  extract_lets x1
  exact goneAfter_ite (goneAfter_next (attemptFailed_gone h)) (goneAfter_ite (goneAfter_next (trip_gone h)) (goneAfter_next h))

theorem execLossOfLock_gone {a0 : PllId} (h : Gone s) : GoneAfter (execLossOfLock a0 s) := by
  unfold execLossOfLock
  exact goneAfter_ite (goneAfter_next (trip_gone h)) (goneAfter_next h)

theorem execMonitorWindowEnd_gone {a0 : PllId} {a1 : BitVec 16} (h : Gone s) :
    GoneAfter (execMonitorWindowEnd a0 a1 s) := by
  unfold execMonitorWindowEnd
  extract_lets x1 x2
  have h3 : Gone x2 := State.onPll_gone (State.setSt_gone h)
  exact goneAfter_ite (goneAfter_ite (goneAfter_next (trip_gone h3)) (goneAfter_next h3)) (goneAfter_next h)

theorem execRestartA_gone {a0 : Fin 4} (h : Gone s) : GoneAfter (execRestartA a0 s) := by
  unfold execRestartA
  exact goneAfter_next (gone_ite (restartPhy_gone h) h)

theorem execRestartB_gone {a0 : Fin 4} (h : Gone s) : GoneAfter (execRestartB a0 s) := by
  unfold execRestartB
  exact goneAfter_next (gone_ite (restartPhy_gone h) h)

theorem execCoreRestart_gone (h : Gone s) : GoneAfter (execCoreRestart s) := by
  unfold execCoreRestart
  exact goneAfter_next (gone_ite (restartCore_gone h) h)

-- the operations of OpPoint

theorem execOpPin_gone {a0 : Bool} {a1 : Fin 4} (h : Gone s) : GoneAfter (execOpPin a0 a1 s) := by
  unfold execOpPin
  exact goneAfter_next (gone_ite (writePin_gone h) h)

theorem execVreqStrobe_gone (h : Gone s) : GoneAfter (execVreqStrobe s) := by
  unfold execVreqStrobe
  extract_lets x1 x2
  exact goneAfter_ite (goneAfter_next (gone_mk h)) (goneAfter_next h)

theorem execVackRise_gone (h : Gone s) : GoneAfter (execVackRise s) := by
  unfold execVackRise
  extract_lets x1 x2
  exact goneAfter_ite (goneAfter_next (gone_mk h)) (goneAfter_next h)

theorem execVackFall_gone (h : Gone s) : GoneAfter (execVackFall s) := by
  unfold execVackFall
  extract_lets x1 x2 x3
  have h4 : Gone x3 := gone_mk h
  exact goneAfter_ite (goneAfter_ite (goneAfter_next (opStep2_gone h4))
      (goneAfter_ite (goneAfter_next (settleOp_gone (opStep_gone h4))) (goneAfter_next (settleOp_gone h4)))) (goneAfter_next h)

theorem execVackTimeout_gone (h : Gone s) : GoneAfter (execVackTimeout s) := by
  unfold execVackTimeout
  extract_lets x1 x2 x3
  exact goneAfter_ite (goneAfter_ite (goneAfter_next (abandonChange_gone (raise_gone h)))
      (goneAfter_ite (goneAfter_next (raise_gone (opStep_gone (gone_mk h)))) (goneAfter_next h))) (goneAfter_next h)

theorem execMrw_gone {a0 : Fin 16} {a1 : Fin 2} (h : Gone s) : GoneAfter (execMrw a0 a1 s) := by
  unfold execMrw
  extract_lets x1 x2 x3
  have h4 : ∀ y0 y1, Gone y0 → Gone (x3 y0 y1) := by
    intro y0 y1 h4_0
    unfold x3
    exact State.takeSlot_gone (State.onRank_gone h4_0)
  exact goneAfter_ite (goneAfter_next (tryPostOp_gone (h4 _ _ h)))
      (goneAfter_ite (goneAfter_next h) (goneAfter_ite (goneAfter_ite (goneAfter_next (h4 _ _ h))
      (goneAfter_ite (goneAfter_next (h4 _ _ h)) (goneAfter_next h))) (goneAfter_next h)))

theorem execSre_gone {a0 : Fin 16} {a1 : Fin 2} (h : Gone s) : GoneAfter (execSre a0 a1 s) := by
  unfold execSre
  extract_lets x1 x2
  exact goneAfter_ite (goneAfter_next (settleOp_gone (sleepRank_gone h))) (goneAfter_next h)

theorem execDsmEnter_gone (h : Gone s) : GoneAfter (execDsmEnter s) := by
  unfold execDsmEnter
  exact goneAfter_next (enterDsm_gone h)

theorem execDsmExit_gone (h : Gone s) : GoneAfter (execDsmExit s) := by
  unfold execDsmExit
  exact goneAfter_next (exitDsm_gone h)

-- the operations of Shaping

theorem execShaperTest_gone {a0 : Fin 30} (h : Gone s) : GoneAfter (execShaperTest a0 s) := by
  unfold execShaperTest
  exact goneAfter_next (gone_ite (shaperTest_gone h) h)

theorem execRodBoundary_gone (h : Gone s) : GoneAfter (execRodBoundary s) := by
  unfold execRodBoundary
  extract_lets x1
  exact goneAfter_ite (goneAfter_next (rodWork_gone (gone_mk h))) (goneAfter_next h)

theorem execRevolutionEnd_gone (h : Gone s) : GoneAfter (execRevolutionEnd s) := by
  unfold execRevolutionEnd
  extract_lets x1 x2 x3 x4
  have h5 : Gone x1 := gone_foldl (fun _ _ h6 => (State.onPort_gone h6)) h
  have h7 : Gone x2 := State.setSt_gone h5
  have h8 : Gone x3 := gone_ite (commitCalendar_gone h7) h7
  exact goneAfter_ite (goneAfter_next (rodWork_gone (gone_mk h8))) (goneAfter_next h)

theorem execCalendarCommitRequest_gone (h : Gone s) : GoneAfter (execCalendarCommitRequest s) := by
  unfold execCalendarCommitRequest
  extract_lets x1
  exact goneAfter_next (gone_ite (gone_mk h) h)

theorem execGateCommitRequest_gone (h : Gone s) : GoneAfter (execGateCommitRequest s) := by
  unfold execGateCommitRequest
  extract_lets x1
  exact goneAfter_next (gone_ite (gone_mk h) h)

theorem execCalendarCopyDone_gone (h : Gone s) : GoneAfter (execCalendarCopyDone s) := by
  unfold execCalendarCopyDone
  extract_lets x1
  exact goneAfter_next (gone_ite (gone_mk h) h)

theorem execGateCopyDone_gone (h : Gone s) : GoneAfter (execGateCopyDone s) := by
  unfold execGateCopyDone
  extract_lets x1
  exact goneAfter_next (gone_ite (gone_mk h) h)

theorem execGatePass_gone {a0 : Fin 30} (h : Gone s) : GoneAfter (execGatePass a0 s) := by
  unfold execGatePass
  apply goneAfter_ite
  · split
    · exact goneAfter_next h
    · extract_lets x1
      have h2 : ∀ y0, Gone y0 → Gone (x1 y0) := by
        intro y0 h2_0
        unfold x1
        exact State.onPort_gone h2_0
      split
      · exact goneAfter_ite (goneAfter_next h) (goneAfter_next (State.bump_gone (State.onPort_gone h)))
      · exact goneAfter_next (h2 _ h)
      · exact goneAfter_next (h2 _ (State.bump_gone h))
  · exact goneAfter_next h

-- the operations of Intake

theorem execIntakeDecision_gone {a0 : Fin 16} (h : Gone s) : GoneAfter (execIntakeDecision a0 s) := by
  unfold execIntakeDecision
  extract_lets x1 x2
  have h3 : Gone x1 := pressEviction_gone (turnAwayAll_gone (promote_gone h))
  apply goneAfter_ite
  · clear_value x2
    split
    · exact goneAfter_next (takeHold_gone (grant_gone (decided_gone h3)))
    · exact goneAfter_next (gone_ite (intakeDecides_gone (decided_gone h3)) h3)
  · exact goneAfter_next h

theorem execLineAdmission_gone {a0 : Fin 16} (h : Gone s) : GoneAfter (execLineAdmission a0 s) := by
  unfold execLineAdmission
  extract_lets x1 x2
  have h3 : Gone x1 := promote_gone h
  have h4 : Gone x2 := State.onChan_gone h3
  apply goneAfter_ite
  · split
    · apply goneAfter_ite
      · apply goneAfter_next
        apply promote_gone
        split
        · exact refuseLine_gone h4
        · exact admitLine_gone h4
      · exact goneAfter_next h3
    · exact goneAfter_next h3
  · exact goneAfter_next h

theorem execHoldStallTrip_gone {a0 : Fin 16} (h : Gone s) : GoneAfter (execHoldStallTrip a0 s) := by
  unfold execHoldStallTrip
  extract_lets x1 x2 x3
  split
  · extract_lets x4 x5 x6
    have h7 : Gone x5 := State.setSt_gone (State.setSt_gone h)
    have h8 : Gone x6 := State.stamp_gone (State.bump_gone h7)
    exact goneAfter_ite (goneAfter_next (raise_gone (State.onChan_gone h8))) (goneAfter_next h)
  · exact goneAfter_next h

-- the operations of Scrub

theorem execScrubStart_gone {a0 : Fin 4} (h : Gone s) : GoneAfter (execScrubStart a0 s) := by
  unfold execScrubStart
  exact goneAfter_next (gone_ite (startScrub_gone h) h)

theorem execScrubAbort_gone {a0 : Fin 4} (h : Gone s) : GoneAfter (execScrubAbort a0 s) := by
  unfold execScrubAbort
  exact goneAfter_next (gone_ite (abortScrub_gone h) h)

theorem execScrubPassEnd_gone {a0 : Fin 4} (h : Gone s) : GoneAfter (execScrubPassEnd a0 s) := by
  unfold execScrubPassEnd
  extract_lets x1 x2
  exact goneAfter_next (gone_ite (endScrub_gone h) h)

theorem execIdlePermission_gone {a0 : Fin 16} (h : Gone s) : GoneAfter (execIdlePermission a0 s) := by
  unfold execIdlePermission
  exact goneAfter_next (gone_ite (idlePermit_gone h) h)

-- the operations of Evac

theorem execEvac_gone {a0 : Fin 16} (h : Gone s) : GoneAfter (execEvac a0 s) := by
  unfold execEvac
  exact goneAfter_next (gone_ite (requestEvac_gone h) h)

theorem execEvacuationStart_gone (h : Gone s) : GoneAfter (execEvacuationStart s) := by
  unfold execEvacuationStart
  split
  · split
    · exact goneAfter_ite (goneAfter_next (settleEvac_gone (startEvac_gone h))) (goneAfter_next h)
    · exact goneAfter_next h
  · exact goneAfter_next h

theorem execChannelSwap_gone (h : Gone s) : GoneAfter (execChannelSwap s) := by
  unfold execChannelSwap
  split
  · exact goneAfter_next (gone_ite (swapChannels_gone h) h)
  · exact goneAfter_next h

theorem execSwapDrainTimeout_gone (h : Gone s) : GoneAfter (execSwapDrainTimeout s) := by
  unfold execSwapDrainTimeout
  split
  · extract_lets x1
    have h2 : Gone x1 := State.onChan_gone (State.onEvac_gone h)
    exact goneAfter_ite (goneAfter_next (postSwap_gone (State.bump_gone h2))) (goneAfter_next h)
  · exact goneAfter_next h

-- the operations of Calib

theorem execCalWindowClose_gone {a0 : Fin 16} {a1 : Fin 36} {a2 : Nat} {a3 : Nat} (h : Gone s) :
    GoneAfter (execCalWindowClose a0 a1 a2 a3 s) := by
  unfold execCalWindowClose
  extract_lets x1 x2 x3 x4 x5
  have h6 : Gone x3 := State.onCal_gone h
  have h7 : Gone x4 := State.unpost_gone h6
  exact goneAfter_ite (goneAfter_next (gone_ite (closeSweep_gone h7) (closeTrack_gone h7))) (goneAfter_next h)

theorem execPeriodicSweep_gone {a0 : Fin 16} (h : Gone s) : GoneAfter (execPeriodicSweep a0 s) := by
  unfold execPeriodicSweep
  extract_lets x1 x2
  exact goneAfter_next (gone_ite (startSweep_gone h) h)

theorem execSweep_gone {a0 : Fin 4} (h : Gone s) : GoneAfter (execSweep a0 s) := by
  unfold execSweep
  exact goneAfter_next (gone_ite (sweepQuad_gone h) h)

theorem execRetrain_gone {a0 : Fin 16} (h : Gone s) : GoneAfter (execRetrain a0 s) := by
  unfold execRetrain
  exact goneAfter_next (gone_ite (requestRetrain_gone h) h)

theorem execCalPause_gone {a0 : Fin 4} (h : Gone s) : GoneAfter (execCalPause a0 s) := by
  unfold execCalPause
  exact goneAfter_next (gone_ite (calPause_gone h) h)

theorem execCalUnpause_gone {a0 : Fin 4} (h : Gone s) : GoneAfter (execCalUnpause a0 s) := by
  unfold execCalUnpause
  exact goneAfter_next (gone_ite (calUnpause_gone h) h)

theorem execStaleExpiry_gone {a0 : Fin 16} {a1 : Fin 2} (h : Gone s) : GoneAfter (execStaleExpiry a0 a1 s) := by
  unfold execStaleExpiry
  extract_lets x1
  exact goneAfter_next (gone_ite (bookStep_gone h) h)

theorem execOscillatorInterval_gone {a0 : Fin 16} {a1 : Fin 2} (h : Gone s) :
    GoneAfter (execOscillatorInterval a0 a1 s) := by
  unfold execOscillatorInterval
  extract_lets x1
  exact goneAfter_next (gone_ite (bookStep_gone (State.onCal_gone h)) h)

theorem execOscillatorCount_gone {a0 : Fin 16} {a1 : Fin 2} {a2 : BitVec 16} (h : Gone s) :
    GoneAfter (execOscillatorCount a0 a1 a2 s) := by
  unfold execOscillatorCount
  extract_lets x1
  have h2 : Gone x1 := State.onCal_gone h
  exact goneAfter_ite (goneAfter_next (oscCount_gone (stepDone_gone (State.takeSlot_gone h2)))) (goneAfter_next h)

theorem execWriteReadCompareInterval_gone {a0 : Fin 16} {a1 : Fin 2} (h : Gone s) :
    GoneAfter (execWriteReadCompareInterval a0 a1 s) := by
  unfold execWriteReadCompareInterval
  extract_lets x1
  exact goneAfter_next (gone_ite (bookStep_gone (State.onCal_gone h)) h)

theorem execWriteReadCompareDone_gone {a0 : Fin 16} {a1 : Fin 2} {a2 : List (Bool × Bool)} (h : Gone s) :
    GoneAfter (execWriteReadCompareDone a0 a1 a2 s) := by
  unfold execWriteReadCompareDone
  exact goneAfter_next (gone_ite (wrcDone_gone h) h)

theorem execZqInterval_gone {a0 : Fin 4} {a1 : BitVec 6} {a2 : BitVec 6} {a3 : BitVec 6} (h : Gone s) :
    GoneAfter (execZqInterval a0 a1 a2 a3 s) := by
  unfold execZqInterval
  extract_lets x1
  exact goneAfter_next (gone_ite (zqInterval_gone h) h)

theorem execZqCalibrationStart_gone {a0 : Fin 16} {a1 : Fin 2} (h : Gone s) :
    GoneAfter (execZqCalibrationStart a0 a1 s) := by
  unfold execZqCalibrationStart
  exact goneAfter_ite (goneAfter_next (stepDone_gone (State.takeSlot_gone (State.onRank_gone h)))) (goneAfter_next h)

theorem execZqcalExpiry_gone {a0 : Fin 16} {a1 : Fin 2} (h : Gone s) : GoneAfter (execZqcalExpiry a0 a1 s) := by
  unfold execZqcalExpiry
  extract_lets x1
  exact goneAfter_next (gone_ite (bookStep_gone (State.onRank_gone h)) h)

theorem execZqLatch_gone {a0 : Fin 16} {a1 : Fin 2} (h : Gone s) : GoneAfter (execZqLatch a0 a1 s) := by
  unfold execZqLatch
  extract_lets x1 x2 x3 x4
  have h5 : Gone x3 := gone_ite (State.bump_gone h) h
  have h6 : Gone x4 := State.onCal_gone h5
  exact goneAfter_ite (goneAfter_next (stepDone_gone (State.takeSlot_gone (State.onRank_gone h6)))) (goneAfter_next h)

theorem execTapMove_gone {a0 : TapId} (h : Gone s) : GoneAfter (execTapMove a0 s) := by
  unfold execTapMove
  split
  · extract_lets x1 x2
    exact goneAfter_ite (goneAfter_next (countMove_gone (State.onBit_gone (State.setSt_gone h)))) (goneAfter_next h)
  · extract_lets x3 x4
    exact goneAfter_ite (goneAfter_next (countMove_gone (State.onBit_gone (State.setSt_gone h)))) (goneAfter_next h)
  · extract_lets x5 x6
    exact goneAfter_ite (goneAfter_next (moveCode_gone h)) (goneAfter_next h)

-- the operations of Perf

theorem hostWrite_gone {a0 : State → State} (k0 : ∀ y0, Gone y0 → Gone (a0 y0)) (h : Gone s) :
    GoneAfter (hostWrite a0 s) := by
  unfold hostWrite
  exact goneAfter_next (gone_ite (k0 _ h) h)

theorem execCounterLowWrite_gone {a0 : CounterId} {a1 : Word} (h : Gone s) :
    GoneAfter (execCounterLowWrite a0 a1 s) := by
  unfold execCounterLowWrite
  exact hostWrite_gone (fun _ h1 => (holdLow_gone h1)) h

theorem execCounterHighWrite_gone {a0 : CounterId} {a1 : Word} (h : Gone s) :
    GoneAfter (execCounterHighWrite a0 a1 s) := by
  unfold execCounterHighWrite
  exact hostWrite_gone (fun _ h1 => (writeHigh_gone h1)) h

theorem execClr_gone {a0 : CounterSet} {a1 : BitVec 4} (h : Gone s) : GoneAfter (execClr a0 a1 s) := by
  unfold execClr
  extract_lets x1
  exact hostWrite_gone (fun _ h2 => (clearCounters_gone (dropHeld_gone h2))) h

theorem execClrall_gone (h : Gone s) : GoneAfter (execClrall s) := by
  unfold execClrall
  exact hostWrite_gone (fun _ h1 => (clearBushel_gone (dropHeld_gone h1))) h

theorem execSnap_gone (h : Gone s) : GoneAfter (execSnap s) := by
  unfold execSnap
  exact hostWrite_gone (fun _ h1 => (snapshot_gone (dropHeld_gone h1))) h

theorem execFreeze_gone {a0 : Bool} (h : Gone s) : GoneAfter (execFreeze a0 s) := by
  unfold execFreeze
  refine hostWrite_gone (fun _ h2 => ?_) ?_
  · extract_lets x3
    have h4 : Gone x3 := dropHeld_gone h2
    exact gone_ite (writeFreeze_gone h4) h4
  · exact h

theorem execCounterWrap_gone {a0 : CounterId} (h : Gone s) : GoneAfter (execCounterWrap a0 s) := by
  unfold execCounterWrap
  exact goneAfter_next (gone_ite (countNow_gone h) h)

theorem execPmovf_gone (h : Gone s) : GoneAfter (execPmovf s) := by
  unfold execPmovf
  exact goneAfter_next (gone_ite (event_gone (State.onPerf_gone h)) h)

theorem execAck_gone {a0 : BitVec 3} (h : Gone s) : GoneAfter (execAck a0 s) := by
  unfold execAck
  exact hostWrite_gone (fun _ h1 => (ack_gone h1)) h

theorem execLogClear_gone {a0 : BitVec 16} (h : Gone s) : GoneAfter (execLogClear a0 s) := by
  unfold execLogClear
  exact hostWrite_gone (fun _ h1 => (clearLog_gone h1)) h

theorem execScrupleClear_gone {a0 : BitVec 16} (h : Gone s) : GoneAfter (execScrupleClear a0 s) := by
  unfold execScrupleClear
  exact hostWrite_gone (fun _ h1 => (clearScruple_gone h1)) h

-- the operations of Gaps

theorem execFrameStart_gone {a0 : BitVec 64} (h : Gone s) : GoneAfter (execFrameStart a0 s) := by
  unfold execFrameStart
  extract_lets x1 x2 x3 x4 x5 x6 x7 x8
  have h9 : Gone x1 := takeWord_gone h
  have h10 : Gone x4 := gone_ite h9 (slip_gone h9)
  have h11 : Gone x5 := gone_ite (slip_gone h10) h10
  have h12 : Gone x6 := lineWordSeen_gone h11
  have h13 : Gone x8 := gone_ite (beginLine_gone (gone_mk h12)) (newFrame_gone h12)
  exact goneAfter_ite (goneAfter_next h) (goneAfter_next (measure_gone h13))

theorem execFrameLineLimit_gone (h : Gone s) : GoneAfter (execFrameLineLimit s) := by
  unfold execFrameLineLimit
  extract_lets x1 x2
  have h3 : Gone x2 := gone_mk h
  exact goneAfter_ite (goneAfter_next (newFrame_gone h3)) (goneAfter_next h)

theorem execHorizontalBlank_gone {a0 : BitVec 64} (h : Gone s) : GoneAfter (execHorizontalBlank a0 s) := by
  unfold execHorizontalBlank
  extract_lets x1 x2 x3
  have h4 : Gone x1 := takeWord_gone h
  have h5 : Gone x3 := gone_mk h4
  exact goneAfter_ite (goneAfter_next h) (goneAfter_ite (goneAfter_next h4) (goneAfter_next (gone_ite (openGap_gone h5) h5)))

theorem execHorizontalGapStart_gone (h : Gone s) : GoneAfter (execHorizontalGapStart s) := by
  unfold execHorizontalGapStart
  exact goneAfter_next (gone_ite (openGap_gone h) h)

theorem execVerticalBlank_gone {a0 : BitVec 64} (h : Gone s) : GoneAfter (execVerticalBlank a0 s) := by
  unfold execVerticalBlank
  extract_lets x1 x2 x3
  have h4 : Gone x2 := measure_gone (lineWord_gone (takeWord_gone h))
  exact goneAfter_ite (goneAfter_next h) (goneAfter_next (openV_gone (gone_mk h4)))

theorem execVerticalGapStart_gone (h : Gone s) : GoneAfter (execVerticalGapStart s) := by
  unfold execVerticalGapStart
  exact goneAfter_next (gone_ite (openV_gone h) h)

theorem execBookingEnd_gone {a0 : Nat} (h : Gone s) : GoneAfter (execBookingEnd a0 s) := by
  unfold execBookingEnd
  split
  · extract_lets x1
    exact goneAfter_ite (goneAfter_next (endWork_gone (gone_mk h))) (goneAfter_next h)
  · exact goneAfter_next h

theorem execPerchHandover_gone {a0 : Fin 32} {a1 : Fin 16} (h : Gone s) : GoneAfter (execPerchHandover a0 a1 s) := by
  unfold execPerchHandover
  exact goneAfter_ite (goneAfter_next h) (goneAfter_ite (goneAfter_next (handMaint_gone h))
      (goneAfter_ite (goneAfter_next (handScratch_gone h)) (goneAfter_ite
      (goneAfter_next (gone_ite (turnAway_gone (handLine_gone h)) (handLine_gone h))) (goneAfter_next h))))

-- the operations of Keys

theorem execLoad_gone (h : Gone s) : GoneAfter (execLoad s) := by
  unfold execLoad
  exact goneAfter_next (gone_ite (writeKeyCtl_gone h) h)

theorem execRetire_gone (h : Gone s) : GoneAfter (execRetire s) := by
  unfold execRetire
  exact goneAfter_next (gone_ite (writeKeyCtl_gone h) h)

/-- No slot of the empty ones waits to be erased. -/
theorem slot_of_empty {k : Keys} (h : k.empty) (i : Fin 2) : (k.slot i).erase = false := by
  unfold Keys.slot
  rw [h.2.2]
  fin_cases i <;> rfl

theorem execKeyErase_gone {a0 : Fin 2} (h : Gone s) : GoneAfter (execKeyErase a0 s) := by
  unfold execKeyErase
  refine goneAfter_next ?_
  split
  next herase => exact gone_imp h id fun he => absurd herase (by simp [slot_of_empty he a0])
  next => exact h

theorem execRekeyStart_gone (h : Gone s) : GoneAfter (execRekeyStart s) := by
  unfold execRekeyStart
  exact goneAfter_next (gone_ite (startRekey_gone h) h)

theorem execRekeyAbort_gone (h : Gone s) : GoneAfter (execRekeyAbort s) := by
  unfold execRekeyAbort
  exact goneAfter_next (gone_ite (abortRekey_gone h) h)

theorem execRekeyPassEnd_gone (h : Gone s) : GoneAfter (execRekeyPassEnd s) := by
  unfold execRekeyPassEnd
  split
  next hover =>
    refine goneAfter_next (event_gone (State.bump_gone (gone_imp h id fun he => absurd hover ?_)))
    simp [he.2.1]
  next => exact goneAfter_next h

-- the operations of Maint

theorem execClean_gone {a0 : Fin 4} (h : Gone s) : GoneAfter (execClean a0 s) := by
  unfold execClean
  exact goneAfter_next (goOp_gone h)

theorem execInvalidate_gone {a0 : Fin 4} (h : Gone s) : GoneAfter (execInvalidate a0 s) := by
  unfold execInvalidate
  exact goneAfter_next (goOp_gone h)

theorem execPreload_gone {a0 : Fin 4} (h : Gone s) : GoneAfter (execPreload a0 s) := by
  unfold execPreload
  exact goneAfter_next (goOp_gone h)

theorem execPreloadLock_gone {a0 : Fin 4} (h : Gone s) : GoneAfter (execPreloadLock a0 s) := by
  unfold execPreloadLock
  exact goneAfter_next (goOp_gone h)

theorem execUnlock_gone {a0 : Fin 4} (h : Gone s) : GoneAfter (execUnlock a0 s) := by
  unfold execUnlock
  exact goneAfter_next (goOp_gone h)

theorem execReservedOperation_gone {a0 : Fin 4} (h : Gone s) : GoneAfter (execReservedOperation a0 s) := by
  unfold execReservedOperation
  exact goneAfter_next (goOp_gone h)

theorem execMcOperationDone_gone {a0 : Fin 4} (h : Gone s) : GoneAfter (execMcOperationDone a0 s) := by
  unfold execMcOperationDone
  split
  · exact goneAfter_next (gone_ite (settleBypass_gone (State.onQuad_gone (State.setSt_gone h))) h)
  · exact goneAfter_next h

theorem execCacheBypassEntry_gone {a0 : Fin 4} (h : Gone s) : GoneAfter (execCacheBypassEntry a0 s) := by
  unfold execCacheBypassEntry
  exact goneAfter_next (gone_ite (enterBypass_gone h) h)

theorem execBypassEntryDone_gone {a0 : Fin 4} (h : Gone s) : GoneAfter (execBypassEntryDone a0 s) := by
  unfold execBypassEntryDone
  exact goneAfter_next (gone_ite (State.onQuad_gone h) h)

theorem execCacheBypassExit_gone {a0 : Fin 4} (h : Gone s) : GoneAfter (execCacheBypassExit a0 s) := by
  unfold execCacheBypassExit
  exact goneAfter_next (gone_ite (leaveBypass_gone h) h)

-- the operations of Tap

theorem execTrstNAssert_gone (h : Gone s) : GoneAfter (execTrstNAssert s) := by
  unfold execTrstNAssert
  extract_lets x1 x2
  have h3 : Gone x1 := updateIr_gone h
  exact goneAfter_next (gone_mk h3)

theorem execIdcode_gone (h : Gone s) : GoneAfter (execIdcode s) := by
  unfold execIdcode
  exact goneAfter_next (updateIr_gone h)

theorem execSamplePreload_gone (h : Gone s) : GoneAfter (execSamplePreload s) := by
  unfold execSamplePreload
  exact goneAfter_next (updateIr_gone h)

theorem execExtest_gone (h : Gone s) : GoneAfter (execExtest s) := by
  unfold execExtest
  exact goneAfter_next (updateIr_gone h)

theorem execClamp_gone (h : Gone s) : GoneAfter (execClamp s) := by
  unfold execClamp
  exact goneAfter_next (updateIr_gone h)

theorem execHighz_gone (h : Gone s) : GoneAfter (execHighz s) := by
  unfold execHighz
  exact goneAfter_next (updateIr_gone h)

theorem execChtest_gone (h : Gone s) : GoneAfter (execChtest s) := by
  unfold execChtest
  exact goneAfter_next (updateIr_gone h)

theorem execChtestUpdate_gone {a0 : BitVec 32} (h : Gone s) : GoneAfter (execChtestUpdate a0 s) := by
  unfold execChtestUpdate
  extract_lets x1 x2
  have h3 : Gone x2 := gone_mk h
  exact goneAfter_ite (goneAfter_next (gone_ite (writeTst_gone h3) h3)) (goneAfter_next h)

theorem execIjtagPub_gone (h : Gone s) : GoneAfter (execIjtagPub s) := by
  unfold execIjtagPub
  exact goneAfter_next (updateIr_gone h)

theorem execIjtagSec_gone (h : Gone s) : GoneAfter (execIjtagSec s) := by
  unfold execIjtagSec
  exact goneAfter_next (updateIr_gone h)

theorem execScanmode_gone (h : Gone s) : GoneAfter (execScanmode s) := by
  unfold execScanmode
  exact goneAfter_next (updateIr_gone h)

theorem execBypass_gone (h : Gone s) : GoneAfter (execBypass s) := by
  unfold execBypass
  exact goneAfter_next (updateIr_gone h)

theorem execChannelTestGo_gone {a0 : Fin 16} {a1 : Bool} {a2 : Bool} (h : Gone s) :
    GoneAfter (execChannelTestGo a0 a1 a2 s) := by
  unfold execChannelTestGo
  exact goneAfter_next (gone_ite (testGo_gone (dropHeld_gone h)) h)

theorem execChannelTestAbort_gone {a0 : Fin 16} (h : Gone s) : GoneAfter (execChannelTestAbort a0 s) := by
  unfold execChannelTestAbort
  exact goneAfter_next (gone_ite (testAbort_gone (dropHeld_gone h)) h)

theorem execChannelTestEnd_gone {a0 : Fin 16} {a1 : BitVec 16} {a2 : BitVec 5} (h : Gone s) :
    GoneAfter (execChannelTestEnd a0 a1 a2 s) := by
  unfold execChannelTestEnd
  extract_lets x1
  have h2 : Gone x1 := State.setSt_gone (State.setSt_gone h)
  exact goneAfter_ite (goneAfter_next (testReturn_gone (State.setSt_gone h2))) (goneAfter_next h)

-- the operations of SpillEngine

theorem spillWrite_gone {a0 : State → State} (k0 : ∀ y0, Gone y0 → Gone (a0 y0)) (h : Gone s) :
    GoneAfter (spillWrite a0 s) := by
  unfold spillWrite
  exact goneAfter_next (gone_ite (k0 _ h) h)

theorem execSpillStart_gone {a0 : Fin 8} (h : Gone s) : GoneAfter (execSpillStart a0 s) := by
  unfold execSpillStart
  exact spillWrite_gone (fun _ h1 => (spillStart_gone h1)) h

theorem execKick_gone {a0 : Fin 8} (h : Gone s) : GoneAfter (execKick a0 s) := by
  unfold execKick
  exact spillWrite_gone (fun _ h1 => (spillKick_gone h1)) h

theorem execSpillPause_gone {a0 : Fin 8} (h : Gone s) : GoneAfter (execSpillPause a0 s) := by
  unfold execSpillPause
  exact spillWrite_gone (fun _ h1 => (spillPause_gone h1)) h

theorem execSpillResume_gone {a0 : Fin 8} (h : Gone s) : GoneAfter (execSpillResume a0 s) := by
  unfold execSpillResume
  exact spillWrite_gone (fun _ h1 => (spillResume_gone h1)) h

theorem execSpillAbort_gone {a0 : Fin 8} (h : Gone s) : GoneAfter (execSpillAbort a0 s) := by
  unfold execSpillAbort
  exact spillWrite_gone (fun _ h1 => (spillAbort_gone h1)) h

theorem execPollExpiry_gone {a0 : Fin 8} (h : Gone s) : GoneAfter (execPollExpiry a0 s) := by
  unfold execPollExpiry
  extract_lets x1 x2
  exact goneAfter_next (gone_ite (refetchDesc_gone h) h)

theorem execDescriptorFetched_gone {a0 : Fin 8} {a1 : BitVec 256} {a2 : BitVec 2} (h : Gone s) :
    GoneAfter (execDescriptorFetched a0 a1 a2 s) := by
  unfold execDescriptorFetched
  split
  · extract_lets x1
    have h2 : Gone x1 := State.onSpill_gone h
    exact goneAfter_ite (goneAfter_ite (goneAfter_next (busError_gone (State.onSpill_gone h2)))
        (goneAfter_next (gotDesc_gone h2))) (goneAfter_next h)
  · exact goneAfter_next h

theorem execChunkIssue_gone {a0 : Fin 8} (h : Gone s) : GoneAfter (execChunkIssue a0 s) := by
  unfold execChunkIssue
  extract_lets x1
  exact goneAfter_next (gone_ite (spillServed_gone (showSpill_gone (issueChunk_gone h))) h)

theorem execAxiReadResponse_gone {a0 : Fin 8} {a1 : List Beat} {a2 : BitVec 2} (h : Gone s) :
    GoneAfter (execAxiReadResponse a0 a1 a2 s) := by
  unfold execAxiReadResponse
  split
  · extract_lets x1 x2
    have h3 : Gone x1 := State.onSpill_gone h
    exact goneAfter_ite (goneAfter_ite (goneAfter_next (busError_gone (State.onSpill_gone h3)))
        (goneAfter_next (settleSpill_gone (State.onSpill_gone h3)))) (goneAfter_next h)
  · exact goneAfter_next h

theorem execAxiWriteResponse_gone {a0 : Fin 8} {a1 : BitVec 2} (h : Gone s) :
    GoneAfter (execAxiWriteResponse a0 a1 s) := by
  unfold execAxiWriteResponse
  split
  · extract_lets x1 x2 x3 x4 x5 x6
    have h7 : Gone x1 := State.onSpill_gone h
    have h8 : ∀ y0, Gone (x3 y0) := by
      intro y0 
      unfold x3
      exact State.onSpill_gone h7
    have h9 : Gone x6 := h8 _
    apply goneAfter_ite
    · apply goneAfter_ite
      · exact goneAfter_next (busError_gone (gone_ite (State.onSpill_gone h7) h7))
      · apply goneAfter_ite
        · split
          · exact goneAfter_next (settleSpill_gone (chunkAcked_gone h7))
          · exact goneAfter_next h7
        · exact goneAfter_ite (goneAfter_next (gone_ite (State.onSpill_gone h9) h9))
            (goneAfter_next (settleSpill_gone (descDone_gone h7)))
    · exact goneAfter_next h
  · exact goneAfter_next h

theorem execSpillDrainComplete_gone {a0 : Fin 8} (h : Gone s) : GoneAfter (execSpillDrainComplete a0 s) := by
  unfold execSpillDrainComplete
  extract_lets x1
  exact goneAfter_next (gone_ite (drainSpill_gone h) h)

theorem execReadDataTransfer_gone {a0 : Fin 30} (h : Gone s) : GoneAfter (execReadDataTransfer a0 s) := by
  unfold execReadDataTransfer
  split
  · extract_lets x1 x2
    have h3 : Gone x2 := sendD_gone h
    exact goneAfter_next (gone_ite (spillRead_gone h3) h3)
  · exact goneAfter_next h

theorem execWriteResponseTransfer_gone {a0 : Fin 30} {a1 : BitVec 8} (h : Gone s) :
    GoneAfter (execWriteResponseTransfer a0 a1 s) := by
  unfold execWriteResponseTransfer
  split
  · extract_lets x1
    have h2 : Gone x1 := sendB_gone h
    exact goneAfter_next (gone_ite (spillWrote_gone h2) h2)
  · exact goneAfter_next h

theorem execStop_gone {a0 : Fin 30} (h : Gone s) : GoneAfter (execStop a0 s) := by
  unfold execStop
  exact goneAfter_next (gone_ite (portStop_gone (dropHeld_gone h)) h)

-- the operations of Start

theorem execPorstNAssert_gone {ns : Nat} (h : Gone s) : GoneAfter (execPorstNAssert ns s) := by
  unfold execPorstNAssert
  exact goneAfter_ite (goneAfter_next h) (goneAfter_ite goneAfter_refused
      (goneAfter_next (gone_mk (s := s.afterReset) State.afterReset_gone)))

theorem execPorstNRelease_gone {i : BitVec 14} (h : Gone s) : GoneAfter (execPorstNRelease i s) := by
  unfold execPorstNRelease
  extract_lets x1 x2
  have h2 : Gone x2 := gone_mk h
  exact goneAfter_ite (goneAfter_next h) (goneAfter_next (gone_ite (startLoad_gone h2) h2))

theorem execRsiCkPresent_gone (h : Gone s) : GoneAfter (execRsiCkPresent s) := by
  unfold execRsiCkPresent
  exact goneAfter_next (gone_ite h (gainClock_gone h))

theorem execRsiCkLoss_gone (h : Gone s) : GoneAfter (execRsiCkLoss s) := by
  unfold execRsiCkLoss
  exact goneAfter_next (gone_ite h (gone_ite (loseClock_gone h) (gone_mk h)))

theorem execAbsenceTimerExpiry_gone (h : Gone s) : GoneAfter (execAbsenceTimerExpiry s) := by
  unfold execAbsenceTimerExpiry
  extract_lets x1
  exact goneAfter_next (gone_ite (gone_mk h) h)

theorem execCfgTransactionEnd_gone {a0 : List Byte} (h : Gone s) : GoneAfter (execCfgTransactionEnd a0 s) := by
  unfold execCfgTransactionEnd
  have hl := loadBytes_gone a0 h
  apply goneAfter_ite
  · split
    · rename_i heq
      rw [heq] at hl
      exact goneAfter_next hl
    · rename_i heq
      rw [heq] at hl
      exact goneAfter_next (startAllPlls_gone (synFrame_gone hl))
  · exact goneAfter_next h

theorem execReload_gone (h : Gone s) : GoneAfter (execReload s) := by
  unfold execReload
  exact goneAfter_next (reload_gone h)

theorem execLockDetect_gone {a0 : PllId} (h : Gone s) : GoneAfter (execLockDetect a0 s) := by
  unfold execLockDetect
  exact goneAfter_ite (goneAfter_next (settleReturn_gone (tryPostOp_gone (takeWant_gone (pllGood_gone h))))) (goneAfter_next h)

theorem execClockSwitchDone_gone {a0 : SwitchId} (h : Gone s) : GoneAfter (execClockSwitchDone a0 s) := by
  unfold execClockSwitchDone
  apply goneAfter_ite
  · exact goneAfter_next h
  · split
    · split
      · exact goneAfter_next (settleReturn_gone (coreOnPll_gone h))
      · exact goneAfter_next (coreOnBypass_gone h)
      · exact goneAfter_next h
    · split
      · exact goneAfter_next (settleReturn_gone (quadOn_gone h))
      · exact goneAfter_next h
    · extract_lets x1
      exact goneAfter_next (gone_ite (settleReturn_gone (gone_mk h)) h)
    · extract_lets x2
      exact goneAfter_next (gone_ite (showClkmon_gone (gone_mk h)) h)

theorem execForcedSwitch_gone {a0 : SwitchId} (h : Gone s) : GoneAfter (execForcedSwitch a0 s) := by
  unfold execForcedSwitch
  split
  · extract_lets x1
    exact goneAfter_next (gone_ite (State.bump_gone (gone_mk h)) h)
  · extract_lets x2
    split
    · exact goneAfter_next h
    · extract_lets x3
      exact goneAfter_next (gone_ite (State.bump_gone (State.onQuadClk_gone h)) h)
  · exact goneAfter_next h
  · exact goneAfter_next h

theorem execDresetRelease_gone {a0 : Fin 4} (h : Gone s) : GoneAfter (execDresetRelease a0 s) := by
  unfold execDresetRelease
  exact goneAfter_next (gone_ite (releaseDreset_gone h) h)

theorem execTrainingComplete_gone {a0 : Fin 16} {a1 : CalFound} (h : Gone s) :
    GoneAfter (execTrainingComplete a0 a1 s) := by
  unfold execTrainingComplete
  extract_lets x1
  have h2 : Gone x1 := noChecks_gone (restartTracking_gone (initSet_gone h))
  exact goneAfter_next (gone_ite (trainDone_gone (putCodes_gone h2)) h)

theorem execStartupComplete_gone (h : Gone s) : GoneAfter (execStartupComplete s) := by
  unfold execStartupComplete
  extract_lets x1
  exact goneAfter_next (gone_ite (completeStart_gone h) h)

theorem execDebtPaymentDone_gone {a0 : Fin 16} {a1 : Fin 2} (h : Gone s) : GoneAfter (execDebtPaymentDone a0 a1 s) := by
  unfold execDebtPaymentDone
  extract_lets x1
  exact goneAfter_next (gone_ite (settleRanks_gone (State.onRank_gone h)) h)

theorem execCheckDone_gone {a0 : Fin 16} {a1 : CalFound} (h : Gone s) : GoneAfter (execCheckDone a0 a1 s) := by
  unfold execCheckDone
  extract_lets x1 x2
  exact goneAfter_next (gone_ite (settleRanks_gone (checkDone_gone h)) h)

theorem execRetrainDone_gone {a0 : Fin 16} {a1 : CalFound} (h : Gone s) : GoneAfter (execRetrainDone a0 a1 s) := by
  unfold execRetrainDone
  extract_lets x1
  exact goneAfter_next (gone_ite (settleRanks_gone (retrainDone_gone (noChecks_gone h))) h)

theorem execBlockResetTimeout_gone (h : Gone s) : GoneAfter (execBlockResetTimeout s) := by
  unfold execBlockResetTimeout
  extract_lets x1
  exact goneAfter_next (gone_ite resetBlock_gone h)

theorem execClkmonSelect_gone {a0 : BitVec 6} {a1 : BitVec 10} (h : Gone s) : GoneAfter (execClkmonSelect a0 a1 s) := by
  unfold execClkmonSelect
  exact goneAfter_next (gone_ite (writeClkmon_gone h) h)

-- the operations of Register

theorem execRegisterWrite_gone {a0 : ApbWrite} (h : Gone s) : GoneAfter (execRegisterWrite a0 s) := by
  unfold execRegisterWrite
  exact goneAfter_next (beginAccess_gone h)

theorem execSetAliasWrite_gone {a0 : ApbWrite} (h : Gone s) : GoneAfter (execSetAliasWrite a0 s) := by
  unfold execSetAliasWrite
  exact goneAfter_next (aliasAccess_gone h)

theorem execClearAliasWrite_gone {a0 : ApbWrite} (h : Gone s) : GoneAfter (execClearAliasWrite a0 s) := by
  unfold execClearAliasWrite
  exact goneAfter_next (aliasAccess_gone h)

theorem execToggleAliasWrite_gone {a0 : ApbWrite} (h : Gone s) : GoneAfter (execToggleAliasWrite a0 s) := by
  unfold execToggleAliasWrite
  exact goneAfter_next (aliasAccess_gone h)

theorem execReadClear_gone {a0 : ApbRead} (h : Gone s) : GoneAfter (execReadClear a0 s) := by
  unfold execReadClear
  exact goneAfter_next (beginAccess_gone h)

theorem execMultiRegisterCapture_gone {a0 : ApbRead} (h : Gone s) : GoneAfter (execMultiRegisterCapture a0 s) := by
  unfold execMultiRegisterCapture
  exact goneAfter_next (beginAccess_gone h)

theorem execHeldShadowWrite_gone {a0 : ApbWrite} (h : Gone s) : GoneAfter (execHeldShadowWrite a0 s) := by
  unfold execHeldShadowWrite
  exact goneAfter_next (beginAccess_gone h)

theorem execRegisterRead_gone {a0 : ApbRead} (h : Gone s) : GoneAfter (execRegisterRead a0 s) := by
  unfold execRegisterRead
  exact goneAfter_next (beginAccess_gone h)

theorem execParityWalk_gone {a0 : BitVec 20} {a1 : Word} (h : Gone s) : GoneAfter (execParityWalk a0 a1 s) := by
  unfold execParityWalk
  exact goneAfter_next (gone_ite (gone_mk h) h)

theorem execBlkReset_gone (h : Gone s) : GoneAfter (execBlkReset s) := by
  unfold execBlkReset
  exact goneAfter_next (beginAccess_gone h)

end

end Sys2Proof.Machine
end

section
/-!
The key material after the grant of secure test access (O54): every command and every cc keep its guard.
-/

namespace Sys2Proof.Machine

/-- Every command keeps the guard of the keys. -/
theorem exec_gone {s : State} {c : Instr} (h : Gone s) : GoneAfter (exec c s) := by
  cases c with
  | porstNAssert ns => exact execPorstNAssert_gone h
  | porstNRelease i => exact execPorstNRelease_gone h
  -- reset, clocks and the configuration load
  | rsiCkPresent => exact execRsiCkPresent_gone h
  | rsiCkLoss => exact execRsiCkLoss_gone h
  | absenceTimerExpiry => exact execAbsenceTimerExpiry_gone h
  | cfgTransactionEnd => exact execCfgTransactionEnd_gone h
  | reload => exact execReload_gone h
  | amplitudeReport => exact execAmplitudeReport_gone h
  | lockDelayExpiry => exact execLockDelayExpiry_gone h
  | lockDetect => exact execLockDetect_gone h
  | pllAttemptTimeout => exact execPllAttemptTimeout_gone h
  | pllRetryPauseExpiry => exact execPllRetryPauseExpiry_gone h
  | amplitudeDrop => exact execAmplitudeDrop_gone h
  | lossOfLock => exact execLossOfLock_gone h
  | monitorWindowEnd => exact execMonitorWindowEnd_gone h
  | clockSwitchDone => exact execClockSwitchDone_gone h
  | forcedSwitch => exact execForcedSwitch_gone h
  | restartA => exact execRestartA_gone h
  | restartB => exact execRestartB_gone h
  | coreRestart => exact execCoreRestart_gone h
  | dresetRelease => exact execDresetRelease_gone h
  | trainingComplete => exact execTrainingComplete_gone h
  | startupComplete => exact execStartupComplete_gone h
  | debtPaymentDone => exact execDebtPaymentDone_gone h
  | checkDone => exact execCheckDone_gone h
  | retrainDone => exact execRetrainDone_gone h
  -- raster words and gaps
  | rsiEventNone => exact execRsiEventNone_gone h
  | lineStart => exact execLineStart_gone h
  | frameStart => exact execFrameStart_gone h
  | horizontalBlank => exact execHorizontalBlank_gone h
  | verticalBlank => exact execVerticalBlank_gone h
  | modeChange => exact execModeChange_gone h
  | corruptWord => exact execCorruptWord_gone h
  | grainWrap => exact execGrainWrap_gone h
  | frameLineLimit => exact execFrameLineLimit_gone h
  | holdoverEntry => exact execHoldoverEntry_gone h
  | holdoverLimit => exact execHoldoverLimit_gone h
  | horizontalGapStart => exact execHorizontalGapStart_gone h
  | verticalGapStart => exact execVerticalGapStart_gone h
  | bookingEnd => exact execBookingEnd_gone h
  -- registers
  | registerWrite => exact execRegisterWrite_gone h
  | setAliasWrite => exact execSetAliasWrite_gone h
  | clearAliasWrite => exact execClearAliasWrite_gone h
  | toggleAliasWrite => exact execToggleAliasWrite_gone h
  | readClear => exact execReadClear_gone h
  | multiRegisterCapture => exact execMultiRegisterCapture_gone h
  | heldShadowWrite => exact execHeldShadowWrite_gone h
  | clkmonSelect => exact execClkmonSelect_gone h
  | parityWalk => exact execParityWalk_gone h
  | blkReset => exact execBlkReset_gone h
  | blockResetTimeout => exact execBlockResetTimeout_gone h
  -- ports, shaping and intake
  | request => exact execRequest_gone h
  | writeBeat => exact execWriteBeat_gone h
  | split => exact execSplit_gone h
  | shaperTest => exact execShaperTest_gone h
  | rodBoundary => exact execRodBoundary_gone h
  | revolutionEnd => exact execRevolutionEnd_gone h
  | calendarCommitRequest => exact execCalendarCommitRequest_gone h
  | gateCommitRequest => exact execGateCommitRequest_gone h
  | calendarCopyDone => exact execCalendarCopyDone_gone h
  | gateCopyDone => exact execGateCopyDone_gone h
  | gatePass => exact execGatePass_gone h
  | perchHandover => exact execPerchHandover_gone h
  -- the equation of `exec` first: unfolding both sides of this arm at once goes too deep
  | intakeDecision =>
    rw [exec_intakeDecision]
    exact execIntakeDecision_gone h
  | lineAdmission => exact execLineAdmission_gone h
  | holdStallTrip => exact execHoldStallTrip_gone h
  | readResponseStart => exact execReadResponseStart_gone h
  | readDataTransfer => exact execReadDataTransfer_gone h
  | writeResponseTransfer => exact execWriteResponseTransfer_gone h
  | tunPointerMismatch => exact execTunPointerMismatch_gone h
  | flush => exact execFlush_gone h
  | flushDone => exact execFlushDone_gone h
  | stop => exact execStop_gone h
  | resume => exact execResume_gone h
  | drainComplete => exact execDrainComplete_gone h
  -- channel commands
  | act => exact execAct_gone h
  | rd => exact execRd_gone h
  | wr => exact execWr_gone h
  | pre => exact execPre_gone h
  | preab => exact execPreab_gone h
  | refpb => exact execRefpb_gone h
  | refab => exact execRefab_gone h
  | rfmpb => exact execRfmpb_gone h
  | mrw => exact execMrw_gone h
  | mrr => exact execMrr_gone h
  | sre => exact execSre_gone h
  | srx => exact execSrx_gone h
  | pde => exact execPde_gone h
  | pdx => exact execPdx_gone h
  | deepSleepEntry => exact execDeepSleepEntry_gone h
  | deepSleepExit => exact execDeepSleepExit_gone h
  | casWsFs => exact execCasWsFs_gone h
  | zqCalibrationStart => exact execZqCalibrationStart_gone h
  | zqLatch => exact execZqLatch_gone h
  | rcdExpiry => exact execRcdExpiry_gone h
  | prechargeDone => exact execPrechargeDone_gone h
  | refreshDone => exact execRefreshDone_gone h
  | dataBusModeChange => exact execDataBusModeChange_gone h
  | writeRecoveryExpiry => exact execWriteRecoveryExpiry_gone h
  | idleClose => exact execIdleClose_gone h
  | readDataReturn => exact execReadDataReturn_gone h
  | secondRefetchDue => exact execSecondRefetchDue_gone h
  | gillAgeExpiry => exact execGillAgeExpiry_gone h
  | gillToWriteQueue => exact execGillToWriteQueue_gone h
  -- refresh, power and operating points
  | debtRise => exact execDebtRise_gone h
  | mr4PollDue => exact execMr4PollDue_gone h
  | mr4Result => exact execMr4Result_gone h
  | selfRefreshIdleExpiry => exact execSelfRefreshIdleExpiry_gone h
  | dsmEnter => exact execDsmEnter_gone h
  | dsmExit => exact execDsmExit_gone h
  | dsmxExpiry => exact execDsmxExpiry_gone h
  | opPin => exact execOpPin_gone h
  | vreqStrobe => exact execVreqStrobe_gone h
  | vackRise => exact execVackRise_gone h
  | vackFall => exact execVackFall_gone h
  | vackTimeout => exact execVackTimeout_gone h
  -- metadata cache and scrub
  | metadataLookup => exact execMetadataLookup_gone h
  | fillInstall => exact execFillInstall_gone h
  | recomputeComplete => exact execRecomputeComplete_gone h
  | clean => exact execClean_gone h
  | invalidate => exact execInvalidate_gone h
  | preload => exact execPreload_gone h
  | preloadLock => exact execPreloadLock_gone h
  | unlock => exact execUnlock_gone h
  | reservedOperation => exact execReservedOperation_gone h
  | mcOperationDone => exact execMcOperationDone_gone h
  | cacheBypassEntry => exact execCacheBypassEntry_gone h
  | bypassEntryDone => exact execBypassEntryDone_gone h
  | cacheBypassExit => exact execCacheBypassExit_gone h
  | scrubStart => exact execScrubStart_gone h
  | scrubAbort => exact execScrubAbort_gone h
  | scrubPassEnd => exact execScrubPassEnd_gone h
  | idlePermission => exact execIdlePermission_gone h
  -- calibration
  | calWindowClose => exact execCalWindowClose_gone h
  | periodicSweep => exact execPeriodicSweep_gone h
  | sweep => exact execSweep_gone h
  | retrain => exact execRetrain_gone h
  | calPause => exact execCalPause_gone h
  | calUnpause => exact execCalUnpause_gone h
  | staleExpiry => exact execStaleExpiry_gone h
  | oscillatorInterval => exact execOscillatorInterval_gone h
  | oscillatorCount => exact execOscillatorCount_gone h
  | writeReadCompareInterval => exact execWriteReadCompareInterval_gone h
  | writeReadCompareDone => exact execWriteReadCompareDone_gone h
  | zqInterval => exact execZqInterval_gone h
  | zqcalExpiry => exact execZqcalExpiry_gone h
  | tapMove => exact execTapMove_gone h
  -- faults, wear and channel retirement
  | ack => exact execAck_gone h
  | logClear => exact execLogClear_gone h
  | scrupleClear => exact execScrupleClear_gone h
  | evac => exact execEvac_gone h
  | evacuationStart => exact execEvacuationStart_gone h
  | channelSwap => exact execChannelSwap_gone h
  | swapDrainTimeout => exact execSwapDrainTimeout_gone h
  -- keys and test access
  | load => exact execLoad_gone h
  | retire => exact execRetire_gone h
  | keyErase => exact execKeyErase_gone h
  | rekeyStart => exact execRekeyStart_gone h
  | rekeyAbort => exact execRekeyAbort_gone h
  | rekeyPassEnd => exact execRekeyPassEnd_gone h
  | trstNAssert => exact execTrstNAssert_gone h
  | idcode => exact execIdcode_gone h
  | samplePreload => exact execSamplePreload_gone h
  | extest => exact execExtest_gone h
  | clamp => exact execClamp_gone h
  | highz => exact execHighz_gone h
  | chtest => exact execChtest_gone h
  | chtestUpdate => exact execChtestUpdate_gone h
  | ijtagPub => exact execIjtagPub_gone h
  | ijtagSec => exact execIjtagSec_gone h
  | scanmode => exact execScanmode_gone h
  | bypass => exact execBypass_gone h
  | channelTestGo => exact execChannelTestGo_gone h
  | channelTestAbort => exact execChannelTestAbort_gone h
  | channelTestEnd => exact execChannelTestEnd_gone h
  -- spill engine
  | spillStart => exact execSpillStart_gone h
  | kick => exact execKick_gone h
  | spillPause => exact execSpillPause_gone h
  | spillResume => exact execSpillResume_gone h
  | spillAbort => exact execSpillAbort_gone h
  | pollExpiry => exact execPollExpiry_gone h
  | descriptorFetched => exact execDescriptorFetched_gone h
  | chunkIssue => exact execChunkIssue_gone h
  | axiReadResponse => exact execAxiReadResponse_gone h
  | axiWriteResponse => exact execAxiWriteResponse_gone h
  | spillDrainComplete => exact execSpillDrainComplete_gone h
  -- performance counters, and the plain register read
  | counterLowWrite => exact execCounterLowWrite_gone h
  | counterHighWrite => exact execCounterHighWrite_gone h
  | clr => exact execClr_gone h
  | clrall => exact execClrall_gone h
  | snap => exact execSnap_gone h
  | freeze => exact execFreeze_gone h
  | counterWrap => exact execCounterWrap_gone h
  | pmovf => exact execPmovf_gone h
  | registerRead => exact execRegisterRead_gone h

theorem step_gone {s : State} (h : Gone s) : GoneAfter (step s) := by
  cases hp : s.pending with
  | nil =>
    rw [step_of_idle hp]
    exact goneAfter_next (tick_gone h)
  | cons c rest =>
    rw [step_of_pending hp]
    exact exec_gone (gone_mk h)

/-- Settles O54: the guard holds in the reset state, and every operation of a step keeps it. The stop of secure access clears
the keys in the step in which it goes on to self-refresh, and VOID refuses every operation that would bring one back. -/
theorem keysAreGoneBeforeSecureAccess : Obligations.KeysAreGoneBeforeSecureAccess :=
  ⟨fun _ t h ht => step_gone h t ht, reset_gone⟩

end Sys2Proof.Machine
end
